-- ==== Sys2Proof/Word.lean ====
section
/-! DEFINITION. The machine word: every register and every window access of the SX640 is 32 bits wide (R14). -/

namespace Sys2Proof

/-- A register, window, ring or descriptor word (R14). -/
abbrev Word := BitVec 32

end Sys2Proof
end

