-- ==== Sys2Proof/Machine/Tab.lean ====
section
/-! DEFINITION. The one sparse table type of the model: a list of key and value pairs, keys strictly rising, no entry equal to what an unlisted key reads as. Registers, memories, rings and per-unit records are held in it. -/

namespace Sys2Proof.Machine

/-- A sparse table: keys strictly rising, no entry that equals the value an unlisted key reads as. -/
abbrev Tab (α : Type) := List (Nat × α)

/-- What key k reads as; d gives what an unlisted key reads as. -/
def Tab.get {α : Type} (d : Nat → α) : Tab α → Nat → α
  | [], k => d k
  | (a, v) :: m, k => if a = k then v else Tab.get d m k

/-- Put v at key k, keeping the keys in rising order. -/
def Tab.insert {α : Type} (k : Nat) (v : α) : Tab α → Tab α
  | [] => [(k, v)]
  | (a, w) :: m => if k < a then (k, v) :: (a, w) :: m else if a = k then (k, v) :: m else (a, w) :: Tab.insert k v m

/-- Take key k out of the table. -/
def Tab.erase {α : Type} (k : Nat) : Tab α → Tab α
  | [] => []
  | (a, w) :: m => if a = k then Tab.erase k m else (a, w) :: Tab.erase k m

/-- Write v at key k: writing what the unlisted key reads as removes the entry. -/
def Tab.set {α : Type} [DecidableEq α] (d : Nat → α) (m : Tab α) (k : Nat) (v : α) : Tab α :=
  if v = d k then Tab.erase k m else Tab.insert k v m

/-- Apply f to what key k reads as and write the result back. -/
def Tab.modify {α : Type} [DecidableEq α] (d : Nat → α) (m : Tab α) (k : Nat) (f : α → α) : Tab α :=
  Tab.set d m k (f (Tab.get d m k))

/-- The canonical form: keys strictly rising from lo, no entry equal to what its key reads as unlisted. -/
def Tab.wfFrom {α : Type} [DecidableEq α] (d : Nat → α) (lo : Nat) : Tab α → Bool
  | [] => true
  | (a, v) :: m => decide (lo ≤ a) && decide (v ≠ d a) && Tab.wfFrom d (a + 1) m

/-- The canonical form of a table. -/
def Tab.wf {α : Type} [DecidableEq α] (d : Nat → α) (m : Tab α) : Bool := Tab.wfFrom d 0 m

/-- A table of words. -/
abbrev Store := Tab Word

/-- A store whose unlisted words read 0. -/
def zeroWord : Nat → Word := fun _ => 0

/-- Write a list of words at consecutive keys from k. -/
def Store.putAll (d : Nat → Word) (m : Store) (k : Nat) : List Word → Store
  | [] => m
  | w :: ws => Store.putAll d (Tab.set d m k w) (k + 1) ws

/-- Read n words at consecutive keys from k. -/
def Store.getAll (d : Nat → Word) (m : Store) (k : Nat) : Nat → List Word
  | 0 => []
  | n + 1 => Tab.get d m k :: Store.getAll d m (k + 1) n

end Sys2Proof.Machine
end

