-- ==== Sys2Proof/Types.lean ====
section
/-! DEFINITION. The types of the operands that the commands carry. -/

namespace Sys2Proof

/-- The bus masters, each with its lock and latch ID (Architecture, Hardware semaphores). -/
inductive Master where
  | pilot | binnacle | almanac | pcie | hspi
  deriving DecidableEq, Repr

/-- Who issued a Pilot command: a local host over its ring, or a UDP session 0 to 3 (R405). -/
inductive Issuer where
  | pcie
  | hspi
  | session (n : Nat)
  deriving DecidableEq, Repr

/-- A command entry as its issuer placed it (R384, R402): tag, LEN in bytes, bits [15:0] of word 1, and the words from w2. -/
structure Entry where
  iss : Issuer
  tag : Nat
  len : Nat
  w1lo : Nat
  p : List Word
  deriving DecidableEq, Repr

/-- The PCIe memory spaces a host access names (R379). -/
inductive Space where
  | bar0 | bar2
  deriving DecidableEq, Repr

/-- The address and the length of a read over a bus. -/
structure BusRead where
  sp : Space
  off : Nat
  bytes : Nat
  deriving DecidableEq, Repr

/-- The producers whose contributions the commit unit takes (R24). -/
inductive Producer where
  | acquisition | sextant | azimuth | dispatch
  deriving DecidableEq, Repr

/-- The kinds of PTP message, as far as support is concerned (Table 2-2). -/
inductive PtpKind where
  | sync | followUp | announce | pdelayReq | pdelayResp | pdelayFollowUp | delayReq | delayResp | management | signaling
  deriving DecidableEq, Repr

/-- What of a received PTP message decides whether it lies inside the support of Table 2-2. interval is its message interval in ns. -/
structure PtpMsg where
  port : Nat
  kind : PtpKind
  layer2 : Bool
  multicast : Bool
  domain : Nat
  interval : Nat
  deriving DecidableEq, Repr

/-- An Announce: what of it decides whether it lies inside the support of Table 2-2, the grandmaster's identity, the data the BMCA of
IEEE 1588-2019 compares in its order (lower is better), the UTC offset if it carries one, and the master's announce and Sync intervals
in ns. -/
structure Announce where
  port : Nat
  layer2 : Bool
  multicast : Bool
  domain : Nat
  gm : Nat
  ds : List Nat
  utcOfs : Option Nat
  annIntvl : Nat
  syncIntvl : Nat
  deriving DecidableEq, Repr

/-- The message an Announce is. -/
def Announce.msg (a : Announce) : PtpMsg :=
  { port := a.port, kind := .announce, layer2 := a.layer2, multicast := a.multicast, domain := a.domain, interval := a.annIntvl }

/-- The content of a traverse frame by its type (Table 3-2, R545). Codes are the raw field values; bytes are 0 to 255. -/
inductive Body where
  | sample (target seq flags : Nat)
  | tsync (dial : Nat)
  | cmd (fn : Nat) (data : List Nat)
  | enum (count origin : Nat)
  | echo (tag : Nat)
  | load (off : Nat) (data : List Nat)
  | loadend (len : Nat) (crc ver : Word)
  | profile (thr : List Nat) (crc : Nat)
  | snapr (seq : Nat) (armed late retrain trip : Bool) (armcrc mt : Nat) (temps cells : List Nat)
  | resp (fn status : Nat) (data : List Nat)
  | echor (tag residence : Nat)
  | alert (code side : Nat)
  | other (type len : Nat)
  deriving DecidableEq, Repr

/-- A traverse frame (Table 3-1): inbound is DIR 1. -/
structure Frame where
  hop : Nat
  inbound : Bool
  turnback : Bool
  active : Bool
  seq : Nat
  body : Body
  deriving DecidableEq, Repr

/-- What a tile converts at one instant: module total, four thermistor codes and its cell codes, as raw containers. -/
structure Conversion where
  mt : Nat
  temps : List Nat
  cells : List Nat
  deriving DecidableEq, Repr

/-- What Helm's converters give for one sample: the codes of channels 0 to 10 (R284), and the latest MOD0 sinc3 output (R287). -/
structure HelmIn where
  codes : List Nat
  mod0 : Int
  deriving DecidableEq, Repr

/-- What Lodestone samples at a tick: FAB/16 edges counted over it (R336), the twelve filtered readbacks (bit 3n HS_RB, 3n+1 LS_RB,
3n+2 LOAD_RB of output n), overcurrent comparators (bit 0 A, bit 1 B), LTH comparators reading hot (bit k), and the level of SAFE_B. -/
structure TickIn where
  fab : Nat
  rb : Nat
  oc : Nat
  lth : Nat
  safeB : Bool
  deriving DecidableEq, Repr

/-- A CAN frame as the protocol engine hands it over: identifier type and identifier, format bits, DLC, data bytes, and the Dial
instant of its start of frame (R438). -/
structure CanFrame where
  ide : Bool
  id : Nat
  fdf : Bool
  brs : Bool
  rtr : Bool
  esi : Bool
  dlc : Nat
  data : List Nat
  sof : Nat
  deriving DecidableEq, Repr

/-- What a scrub pass finds in a row of an ECC memory (Table 21-3, section 2): the memory, the row, corrected errors, and whether an
uncorrectable error stands there. -/
structure EccFinding where
  mem : Nat
  row : Nat
  corrected : Nat
  uncorrectable : Bool
  deriving DecidableEq, Repr

end Sys2Proof

namespace Sys2Proof.Machine

/-! ## Almanac watches, as State holds them and a mirror carries them -/

inductive WatchState where
  | halted | ready | waiting | faulted
  deriving DecidableEq, Repr

/-- An action (Table 5-6, Table 5-7): trig holds SEL and ga, can the controller and the copied descriptor, pmc the command. -/
inductive Act where
  | bal (sel ga : Nat)
  | excStart (plan ga : Nat)
  | excStop
  | setp (sel : Nat) (v : Word)
  | trig (sel : Nat) (v : Word)
  | can (n : Nat) (ws : List Word)
  | pmc (c : Nat)
  deriving DecidableEq, Repr

/-- A launch slot that holds a pending action (R157): its copy of LT, the Dial instant a Carrier or bus target was converted to, its
place in the order of arming, and whether the target had passed when its reference came (R61). -/
structure Armed where
  base : Nat
  tgt : Nat
  at_ : Option Nat
  act : Act
  order : Nat
  late : Bool
  deriving DecidableEq, Repr

/-- What a WAITING watch waits for: a WAITEV event (result register, class, argument, TMO), a free slot, or its writes. -/
inductive WaitFor where
  | event (rd cls arg : Nat) (tmo : Bool)
  | slot
  | fence
  deriving DecidableEq, Repr

/-- How a wait ends: the value for gd if one is written, C, and LATE. -/
structure Met where
  gd : Option Word
  c : Bool
  late : Bool
  deriving DecidableEq, Repr

/-- The wait comparator: what it waits for, the valleys left, the Dial instant LT's target was converted to, its end once met, the FAB
cycle after the one it was armed in (R163), and whether LT's target had passed when its reference came (R61, R547). -/
structure Wait where
  what : WaitFor
  left : Nat
  at_ : Option Nat
  met : Option Met
  armed : Nat
  late : Bool
  deriving DecidableEq, Repr

/-- A wait for a slot or for writes. -/
def Wait.plain (f : WaitFor) : Wait := { what := f, left := 0, at_ := none, met := none, armed := 0, late := false }

/-- A watch (Table 5-1). -/
structure Watch where
  st : WatchState
  g : Store
  pc : Nat
  z : Bool
  n : Bool
  c : Bool
  v : Bool
  pri : Nat
  ltBase : Nat
  lt : Nat
  slots : List Armed
  wait : Option Wait
  late : Bool
  tlatch : Nat
  fcode : Nat
  deriving DecidableEq, Repr

def Watch.reset : Watch :=
  { st := .halted, g := [], pc := 0, z := false, n := false, c := false, v := false, pri := 0, ltBase := 0, lt := 0, slots := [],
    wait := none, late := false, tlatch := 0, fcode := 0 }

end Sys2Proof.Machine

namespace Sys2Proof

/-- A mirror as the standby receives it (Table 15-2): the epoch number, the twin's NPOS and ALM_PMCRC, context words by word of
Sextant memory, data memory by word, the words of the acquisition, Sextant and Azimuth records by word of Table 16-3, the watches
and event flags, open-wire masks by slot, wire resistances, the planner's phase, the Helm items and SXT_LRNSTS. -/
structure Mirror where
  epoch : Word
  npos : Nat
  pmcrc : Word
  cxs : List (Nat × Word)
  dmem : List (Nat × Word)
  space : List (Nat × Word)
  watches : List (Nat × Machine.Watch)
  ev0 : Word
  ev1 : Word
  owSus : List (Nat × Nat)
  owCnf : List (Nat × Nat)
  balRw : List (Nat × Word)
  phase : Option Nat
  run : Bool
  cls : Nat
  hosti : Word
  hostv : Word
  rctgt : Word
  lrnsts : Word
  deriving DecidableEq, Repr

/-- What the PEER link carries every 1 ms (chapter 15): the twin's role, close requests, energized outputs, seal, configuration
digest, its Dial minus ours from the two-way stamps, and an epoch number that has arrived since the last of these (R29). -/
structure PeerStatus where
  role : Nat
  outreq : Nat
  energ : Nat
  sealed : Nat
  digest : Word
  ofs : Int
  epoch : Option Word
  deriving DecidableEq, Repr

/-- What the start sequence meets from outside (R443, R491): the RECOVERY strap, the failing units of the self-test (kind 0 Sextant
lane, 1 Almanac pipe, 2 Pilot core, with its number, spares counted after the regular units). -/
structure StartIn where
  recovery : Bool
  bist : List (Nat × Nat)
  deriving DecidableEq, Repr

end Sys2Proof
end

