-- ==== Sys2Proof/Syntax.lean ====
section
/-! DEFINITION. The commands the SX640 takes, one constructor per row of spec/opcode_table.json, with the operands each carries from outside: the master that acts, the ring, tile, slot or channel concerned, the Dial instant t in ns, and measured values. -/

namespace Sys2Proof

/-- A command of the block: one constructor per row of the table, in the table's order. -/
inductive Instr where
  /-- POWER_ON_RESET (R518): VDD_LS rises through its monitor threshold, resetting the whole device including Dial and the Lodestone latches. -/
  | powerOnReset (t : Nat)
  /-- DEVICE_RESET (R521): RESET_N held low for at least 1 µs, or VDD falling through its threshold, resets the device except Lodestone's latches. -/
  | deviceReset (t : Nat)
  /-- RESET_RELEASE (R443): Reset is released and the Pilot ROM runs the start sequence of Table 19-3, sampling RECOVERY. -/
  | resetRelease (t : Nat) (x : StartIn)
  /-- LODESTONE_POWER_UP_END (R519): Lodestone's power-up ends 5 ms after the VDD_LS monitor rises and the hold circuit releases the drive balls. -/
  | lodestonePowerUpEnd (t r0 r1 r2 a b : Nat) (safeB : Bool)
  /-- BROWN_N_FALL (R229): A falling edge of BROWN_N starts a journal save within 20 µs, or merges into a save in progress. -/
  | brownNFall (t : Nat)
  /-- BROWN_N_HIGH_100MS (R230): BROWN_N has been high for 100 ms, so save triggers act again and an overdue periodic save starts. -/
  | brownNHigh100ms (t : Nat)
  /-- VBAT_LOW (R66): VBAT falls below 1.6 V, which sets RTC_LOST and clears CAL_VALID. -/
  | vbatLow (t : Nat)
  /-- PLL_LOCK (R498): The root PLL locks and the derived domains leave reset. -/
  | pllLock (t : Nat)
  /-- PLL_UNLOCK (R498): The root PLL loses lock while running, which sets PLL_UNLOCK and stops nothing. -/
  | pllUnlock (t : Nat)
  /-- REGISTER_WRITE (R11): A write to a register that has no row of its own acts by its access codes, including W1C clearing. -/
  | registerWrite (t : Nat) (m : Master) (sp : Space) (off bytes : Nat) (v : Word)
  /-- TIME_LOW_WORD_READ (R49): A read of the low word of a multi-word time or counter value latches its high words for the reading master. -/
  | timeLowWordRead (t : Nat) (m : Master) (r : BusRead)
  /-- PORTSTS_READ (R11): A read of a TRV_PORTSTS register returns its counters and clears them. -/
  | portstsRead (t : Nat) (m : Master) (p : Nat)
  /-- WEAR_DATA_READ (R489): A read of WEAR_DATA returns the selected ledger item and advances the master's WEAR_SEL.ITEM. -/
  | wearDataRead (t : Nat) (m : Master)
  /-- LOCK_ACQUIRE (R39): A read of SYS_LOCKn acquires a free lock or returns the owner's ID with bit 31 set. -/
  | lockAcquire (t : Nat) (m : Master) (n : Nat)
  /-- LOCK_RELEASE (R41): A write of 1 to a SYS_LOCKREL bit frees the lock if the writer owns it, otherwise it sets LOCK_ERR. -/
  | lockRelease (t : Nat) (m : Master) (v : Word)
  /-- EPOCHCTL_WRITE (R21): A write of SYS_EPOCHCTL stores EN, DEADLINE and PERIOD, or is rejected with CFG_REJECT for a bad PERIOD. -/
  | epochctlWrite (t : Nat) (m : Master) (v : Word)
  /-- PROFILE_SELECTION (R44): A write of SYS_PROFILE.PROFILE with a new code selects a profile, which applies at the next boundary. -/
  | profileSelection (t : Nat) (m : Master) (v : Word)
  /-- EPOCH_BOUNDARY (R20): Dial reaches an epoch boundary: the next epoch opens, EN is sampled, and accepted control-path changes apply together. -/
  | epochBoundary (t : Nat)
  /-- CONTRIBUTION_ARRIVAL (R27): A producer's contribution reaches the commit unit, and a late one is discarded with LATE_WRITE. -/
  | contributionArrival (t : Nat) (p : Producer)
  /-- EPOCH_COMMIT (R24): An epoch commits when all scheduled contributions have arrived or at its deadline, carrying items forward and exchanging the windows. -/
  | epochCommit (t : Nat)
  /-- PTP_MESSAGE_RECEIVE (R50): A PTP message arrives on ETH0 or ETH1 and is taken or rejected and counted in DROPCNT. -/
  | ptpMessageReceive (t : Nat) (msg : PtpMsg)
  /-- PTP_SYNC_RECEIVE (R52): A Sync from the selected master gives an offset that moves the Meridian servo between its states. -/
  | ptpSyncReceive (t : Nat) (msg : PtpMsg) (gm : Nat) (ofs : Int)
  /-- PTP_ANNOUNCE_RECEIVE (R51): An Announce updates master qualification, selection by BMCA and the UTC offset. -/
  | ptpAnnounceReceive (t : Nat) (a : Announce)
  /-- PDELAY_REQ_RECEIVE (R50): A Pdelay_Req received on a port that is up is answered for the peer-delay mechanism. -/
  | pdelayReqReceive (t : Nat) (msg : PtpMsg) (seq : Nat)
  /-- MASTER_LOST (R52): The announce receipt timeout or a Sync timeout of the selected master expires, and the servo goes to HOLDOVER or FREE. -/
  | masterLost (t : Nat)
  /-- PTP_DISABLE (R52): A write of PTPEN 0 moves the servo to FREE with RATE held. -/
  | ptpDisable (t : Nat) (m : Master)
  /-- HOLD_EXCEEDED (R56): TIME_UNCERT grows past TIME_UNCERTLIM in HOLDOVER and sets HOLD_EXCEEDED. -/
  | holdExceeded (t : Nat)
  /-- RTC_REWRITE (R63): While LOCKED, the RTC is rewritten from Calendar once per second and its trim is updated. -/
  | rtcRewrite (t : Nat) (trim : Int)
  /-- LEAP_SECOND (R65): An inserted or deleted leap second makes Calendar hold or skip one second. -/
  | leapSecond (t : Nat) (ins : Bool)
  /-- TIMED_ACTION_LAUNCH (R157): The target of a launch slot is reached or passes, and its action launches, with LATE set if passed. -/
  | timedActionLaunch (t : Nat)
  /-- CARRIER_VALLEY (R281): The master carrier reaches a valley, which advances the valley count and starts a Helm sample. -/
  | carrierValley (t : Nat) (x : HelmIn)
  /-- HELM_DUTY_LATCH (R283): At S + 1.25 µs the computed duties latch into the legs' shadow compares. -/
  | helmDutyLatch (t : Nat)
  /-- CARRIER_STOP (R60): The carrier stops, so every pending Carrier target launches with LATE and CARRIER_LOST is set. -/
  | carrierStop (t : Nat)
  /-- BUS_REFERENCE_LOST (R62): No reference message arrives within three basic cycles, and the bus-time targets launch late with BUSn_LOST. -/
  | busReferenceLost (t n : Nat)
  /-- PORT_LINK_UP (R73): A traverse receiver sees 64 valid symbols with comma alignment and declares its link up. -/
  | portLinkUp (t p : Nat)
  /-- PORT_LINK_DOWN (R73): A traverse receiver sees 4 invalid symbols or 32 µs without comma and declares its link down. -/
  | portLinkDown (t p : Nat)
  /-- TRV_CTL_WRITE (R88): A write of TRV_CTL.EN enables rings for training or sends a ring to DOWN. -/
  | trvCtlWrite (t : Nat) (m : Master) (v : Word)
  /-- OPEN_RING_TRAIN_START (R88): One port has been link up alone for 100 ms with EN 1, and open-ring training starts. -/
  | openRingTrainStart (t p : Nat)
  /-- ENUM_RETURN (R90): An ENUM reaches the far port or returns turned back, giving a tile count for enumeration or a reachability check. -/
  | enumReturn (t p : Nat) (f : Frame) (loopTime : Nat)
  /-- ECHOR_RECEIVE (R91): An ECHOR returns with the tile's residence time for a delay measurement. -/
  | echorReceive (t p rtt : Nat) (f : Frame)
  /-- TRAINING_DONE (R91): The enumeration and delay checks of a training attempt finish, and the ring passes to LOADING or fails. -/
  | trainingDone (t r : Nat)
  /-- ARMSTAT_POLL (R88): Every 1 ms during ARMING, Traverse sends ARMSTAT to each booted tile. -/
  | armstatPoll (t r : Nat)
  /-- RING_RESTORE (R88): Every link has been up for 1 s with full enumeration and no FAILED tile, so the ring returns to CLOSED. -/
  | ringRestore (t r : Nat)
  /-- LOST_RING (R106): A ring has stayed in LOST for 100 ms and counts as lost for dead-reckoning entry. -/
  | lostRing (t r : Nat)
  /-- TSYNC_SEND (R94): At each whole millisecond of Dial, each running port queues a TSYNC stamped at its departure. -/
  | tsyncSend (t : Nat)
  /-- UNCLAIMED_FRAME (R78): An outbound frame reaches the far port with a non-zero hop count and is counted and discarded. -/
  | unclaimedFrame (t p : Nat) (f : Frame)
  /-- SNAPR_RECEIVE (R116): A SNAPR reaches a port and is accepted into its snapshot or discarded, and Lodestone reads ARMED and ARMCRC. -/
  | snaprReceive (t p : Nat) (crcOk : Bool) (f : Frame)
  /-- RESP_RECEIVE (R545): A RESP answering a CMD arrives, with done or refused status and function data. -/
  | respReceive (t p : Nat) (crcOk : Bool) (f : Frame)
  /-- CMD_TIMEOUT (R87): A CMD's 500 µs timeout expires, so it is retried, or reported failed with CMDFAIL after two retries. -/
  | cmdTimeout (t p seq : Nat)
  /-- ALERT_RECEIVE (R75): A tile ALERT arrives at a port: LINKDOWN starts a reachability check, COMPARATOR and DIE_HOT update tile status. -/
  | alertReceive (t p : Nat) (crcOk : Bool) (f : Frame)
  /-- ALERT_BOOT_RECEIVE (R546): A tile reports ALERT BOOT and is handled as a fresh tile: delays measured, hops written, and the tile loaded. -/
  | alertBootReceive (t p : Nat) (f : Frame)
  /-- PROFILE_INJECT (R98): Lodestone injects a broadcast PROFILE on each ring every 10 s, on entry to ARMING and after a tile boot. -/
  | profileInject (t r : Nat)
  /-- SAMPLE_FRAME (R86): A tile receives a SAMPLE and schedules its conversion, sampling at once with LATE_SAMPLE if the target has passed. -/
  | sampleFrame (t k side : Nat) (f : Frame)
  /-- TSYNC_FRAME (R94): A tile takes a TSYNC from its home end and sets its tile time. -/
  | tsyncFrame (t k side : Nat) (f : Frame)
  /-- ENUM_FRAME (R81): A tile increments an ENUM count, records its hop and forwards the frame. -/
  | enumFrame (t k side : Nat) (f : Frame)
  /-- ECHO_FRAME (R91): A tile answers an ECHO with an ECHOR carrying its residence time. -/
  | echoFrame (t k side residence : Nat) (f : Frame)
  /-- LOAD_FRAME (R96): A tile in its ROM loader stores 256 image bytes at the given offset. -/
  | loadFrame (t k side : Nat) (f : Frame)
  /-- LOADEND_FRAME (R96): A tile checks the image length and CRC-32C and reports the result in a RESP. -/
  | loadendFrame (t k side : Nat) (f : Frame)
  /-- TILE_BOOT (R96): A tile whose image check passed boots it within 5 ms. -/
  | tileBoot (t k : Nat)
  /-- PROFILE_FRAME (R99): A tile arms its comparators from a PROFILE whose PROFCRC matches, or discards the frame. -/
  | profileFrame (t k side : Nat) (f : Frame)
  /-- TILE_FRAME_RELAY (R77): A tile decrements or increments HOP and forwards a frame that is not addressed to it. -/
  | tileFrameRelay (t k side : Nat) (crcOk : Bool) (f : Frame)
  /-- TILE_LINK_DOWN (R82): A tile declares a link down, sends ALERT LINKDOWN and changes its home end if needed. -/
  | tileLinkDown (t k side : Nat)
  /-- ALERT_LINKDOWN (R83): A tile receives a LINKDOWN, forwards it and turns its home end if it came from the home side. -/
  | alertLinkdown (t k side : Nat) (f : Frame)
  /-- TILE_SNAPR_SLOT (R84): A tile's response slot instant arrives and it sends its SNAPR. -/
  | tileSnaprSlot (t k : Nat)
  /-- TILE_CONVERSION (R114): A tile converts its channels at the sample target, or at each of the 16 OVS instants. -/
  | tileConversion (t k : Nat) (c : Conversion)
  /-- TILE_COMPARATOR_TRIP (R101): A tile's OV or UV comparator trips, so it holds its fault-loop output and sends ALERT COMPARATOR. -/
  | tileComparatorTrip (t k : Nat)
  /-- TILE_COMPARATOR_RELEASE (R101): All cells are back inside OV and UV for 4 conversions, so the tile releases its loop output. -/
  | tileComparatorRelease (t k : Nat)
  /-- TILE_DIE_HOT (R269): A tile at 110 °C die temperature opens all its switches and sends ALERT DIE_HOT. -/
  | tileDieHot (t k : Nat)
  /-- BALSET (R263): A tile applies a BALSET switch mask at S, or refuses it and opens every switch if the mask breaks R259. -/
  | balset (t k side : Nat) (f : Frame)
  /-- TILE_BALSET_EXPIRY (R263): The end instant or the 2 s hold since the last BALSET passes, and the tile opens every switch. -/
  | tileBalsetExpiry (t k : Nat)
  /-- DIE_TEMPERATURE_READ (R268): A tile answers CMD function 0x22 with its die temperature. -/
  | dieTemperatureRead (t k side : Nat) (td : Int) (f : Frame)
  /-- ARMSTAT (R88): A tile answers CMD function 0x23 with ARMED and ARMCRC. -/
  | armstat (t k side : Nat) (f : Frame)
  /-- OPEN_WIRE_SINKS (R133): A tile takes CMD function 0x31 and schedules its test sinks for instant S. -/
  | openWireSinks (t k side : Nat) (f : Frame)
  /-- TILE_SINK_ON (R133): At S the tile connects 1 mA sinks on the named wires. -/
  | tileSinkOn (t k : Nat)
  /-- FAULT_LOOP_LOSS (R102): FLx_RX shows no edge for 6,144 oscillator cycles, so Lodestone declares loop loss and trips all outputs. -/
  | faultLoopLoss (t r : Nat)
  /-- FL_FAST (R102): Two fault-loop edges arrive less than 640 oscillator cycles apart and Lodestone trips all outputs. -/
  | flFast (t r : Nat)
  /-- ARMED_THRESHOLD_FAULT (R100): A SNAPR shows ARMED 0 or a wrong ARMCRC, or 100 ms pass without a valid one, and Lodestone trips all outputs. -/
  | armedThresholdFault (t k : Nat)
  /-- ACQ_APPLY (R109): ACQ_CTL.APPLY takes the tile slots into use when every check passes, or sets CFG_ERR. -/
  | acqApply (t : Nat) (m : Master) (v : Word)
  /-- SNAP (R166): The Almanac SNAP instruction asks Acquisition for a snapshot at LT and sends SAMPLE on every running ring. -/
  | snap (t w d : Nat)
  /-- MOD_CODE_READY (R121): The decimated current code of a modulator for a snapshot becomes available. -/
  | modCodeReady (t n seq : Nat) (code : Int)
  /-- MOD_FAULT (R124): A modulator bitstream holds one level for 256 bits, or its code saturates three times, and MODn_FAULT is declared. -/
  | modFault (t n : Nat)
  /-- SNAPSHOT_CLOSE (R115): A snapshot closes when all SNAPRs and the current are in, or at the window end plus 10 µs, and goes to its consumers. -/
  | snapshotClose (t seq : Nat)
  /-- OW_TEST_ABANDON (R135): An open-wire test whose RESP is missing at S, or whose test snapshot is missing after 1 s, is abandoned and rescheduled. -/
  | owTestAbandon (t k : Nat)
  /-- OW_TEST_WINDOW_END (R133): A test window ends at the test target plus OWRECOVER, and the next parity window may be scheduled. -/
  | owTestWindowEnd (t k : Nat)
  /-- OW_RETEST_GO (R136): ACQ_OWCMD.GO requests a retest of every confirmed wire of one slot. -/
  | owRetestGo (t : Nat) (m : Master) (v : Word)
  /-- ADD (R149): Almanac adds two registers and sets Z N C V. -/
  | almAdd (t w d a b : Nat)
  /-- SUB (R149): Almanac subtracts two registers and sets Z N C V. -/
  | almSub (t w d a b : Nat)
  /-- AND (R148): Almanac bitwise AND of two registers. -/
  | almAnd (t w d a b : Nat)
  /-- OR (R148): Almanac bitwise OR of two registers. -/
  | almOr (t w d a b : Nat)
  /-- XOR (R148): Almanac bitwise XOR of two registers. -/
  | almXor (t w d a b : Nat)
  /-- SLL (R148): Almanac logical left shift by a register. -/
  | almSll (t w d a b : Nat)
  /-- SRL (R148): Almanac logical right shift by a register. -/
  | almSrl (t w d a b : Nat)
  /-- SRA (R148): Almanac arithmetic right shift by a register. -/
  | almSra (t w d a b : Nat)
  /-- MUL (R148): Almanac signed multiply, low 32 bits, with V on overflow. -/
  | almMul (t w d a b : Nat)
  /-- MULH (R148): Almanac signed multiply, high 32 bits. -/
  | almMulh (t w d a b : Nat)
  /-- MIN (R148): Almanac signed minimum of two registers. -/
  | almMin (t w d a b : Nat)
  /-- MAX (R148): Almanac signed maximum of two registers. -/
  | almMax (t w d a b : Nat)
  /-- CLAMP (R148): Almanac clamps a register between two bounds and sets C when the value changed. -/
  | almClamp (t w d a b c : Nat)
  /-- ADDI (R149): Almanac adds a sign-extended immediate. -/
  | almAddi (t w d a imm : Nat)
  /-- ANDI (R148): Almanac AND with a zero-extended immediate. -/
  | almAndi (t w d a imm : Nat)
  /-- ORI (R148): Almanac OR with a zero-extended immediate. -/
  | almOri (t w d a imm : Nat)
  /-- SLLI (R148): Almanac logical left shift by an immediate. -/
  | almSlli (t w d a sh : Nat)
  /-- SRLI (R148): Almanac logical right shift by an immediate. -/
  | almSrli (t w d a sh : Nat)
  /-- SRAI (R148): Almanac arithmetic right shift by an immediate. -/
  | almSrai (t w d a sh : Nat)
  /-- LUI (R148): Almanac loads an immediate into bits 31 to 14. -/
  | almLui (t w d imm : Nat)
  /-- LDW (R151): Almanac loads a data-memory word, or faults DMEM. -/
  | almLdw (t w d a imm : Nat)
  /-- STW (R151): Almanac stores a word to data memory, or faults DMEM. -/
  | almStw (t w d a imm : Nat)
  /-- LDS (R154): Almanac reads a word of the front state window, or faults SMEM. -/
  | almLds (t w d a imm : Nat)
  /-- RDT (R155): Almanac reads a time base part, TLATCH, a count, or LATE, clearing LATE. -/
  | almRdt (t w d part tb : Nat)
  /-- POST (R169): Almanac appends a four-word entry to the host post ring, or is refused with C = 1. -/
  | almPost (t w sel a b : Nat)
  /-- RING (R170): Almanac raises a device-to-host doorbell 0 to 23. -/
  | almRing (t w n : Nat)
  /-- MBX_SEND (R171): Almanac writes device-to-host mailbox 3 if it is empty. -/
  | almMbxSend (t w a : Nat)
  /-- MBX_RECEIVE (R171): Almanac takes the word of host-to-device mailbox 3 if it is full, emptying it. -/
  | almMbxReceive (t w d : Nat)
  /-- BEQ (R148): Almanac branches if two registers are equal. -/
  | almBeq (t w a b tgt : Nat)
  /-- BNE (R148): Almanac branches if two registers differ. -/
  | almBne (t w a b tgt : Nat)
  /-- BLT (R148): Almanac branches if less than, signed. -/
  | almBlt (t w a b tgt : Nat)
  /-- BGE (R148): Almanac branches if greater or equal, signed. -/
  | almBge (t w a b tgt : Nat)
  /-- BLTU (R148): Almanac branches if less than, unsigned. -/
  | almBltu (t w a b tgt : Nat)
  /-- BGEU (R148): Almanac branches if greater or equal, unsigned. -/
  | almBgeu (t w a b tgt : Nat)
  /-- BFS (R148): Almanac branches if the selected flag is set. -/
  | almBfs (t w f tgt : Nat)
  /-- BFC (R148): Almanac branches if the selected flag is clear. -/
  | almBfc (t w f tgt : Nat)
  /-- JAL (R148): Almanac jumps and saves the return index. -/
  | almJal (t w d tgt : Nat)
  /-- JR (R148): Almanac jumps to a register value. -/
  | almJr (t w a : Nat)
  /-- WAITEV (R162): Almanac puts the watch in WAITING for an event of the chosen class, optionally with a timeout. -/
  | almWaitev (t w d : Nat) (tmo : Bool) (cls arg : Nat)
  /-- WAITEV_WAKE (R162): The awaited event or the timeout target occurs, and the watch becomes READY with gd and C set. -/
  | almWaitevWake (t w : Nat)
  /-- SPAWN (R172): Almanac starts a halted watch with PC, g1, priority and LT. -/
  | almSpawn (t w a b tgt : Nat)
  /-- KILL (R173): Almanac halts a watch and cancels its pending actions and wait. -/
  | almKill (t w a : Nat)
  /-- YIELD (R174): Almanac makes the watch ineligible for the next cycle when a peer of its priority is ready. -/
  | almYield (t w : Nat)
  /-- HALT (R146): Almanac stops the issuing watch, keeping its launch slots. -/
  | almHalt (t w : Nat)
  /-- FENCE (R174): Almanac waits until every earlier write of the watch has been accepted. -/
  | almFence (t w : Nat) (busy : Bool)
  /-- FENCE_RELEASE (R174): The outstanding writes of a fenced watch are accepted and it becomes READY. -/
  | almFenceRelease (t w : Nat)
  /-- SLOT_WAIT_RELEASE (R158): A launch slot empties and a watch waiting to arm a timed action becomes READY. -/
  | almSlotWaitRelease (t w : Nat)
  /-- STC_LOCK_ACQUIRE (R167): Almanac tries to acquire SYS_LOCKn as master 3. -/
  | almStcLockAcquire (t w d n : Nat)
  /-- STC_LOCK_RELEASE (R167): Almanac releases SYS_LOCKn. -/
  | almStcLockRelease (t w n : Nat)
  /-- STC_AWAIT (R167): Almanac writes SYS_AWAIT2. -/
  | almStcAwait (t w a : Nat)
  /-- STC_CAN (R168): Almanac copies a CAN transmit descriptor and queues it now or at LT. -/
  | almStcCan (t w : Nat) (tm : Bool) (n a : Nat)
  /-- STC_PMC (R497): Almanac issues a performance counter command, now or at LT. -/
  | almStcPmc (t w : Nat) (tm : Bool) (c : Nat)
  /-- BAL_STOP (R261): Almanac BAL with SEL 0 stops all balancing at its launch. -/
  | almBalStop (t w : Nat) (tm : Bool)
  /-- BAL_PHASE_START (R261): Almanac BAL with SEL 1 to 3 starts a balancing phase at launch plus 200 µs. -/
  | almBalPhaseStart (t w : Nat) (tm : Bool) (sel a : Nat)
  /-- EXC_START (R244): Almanac EXC start launches an excitation window with a tone plan, subject to the checks of R242. -/
  | almExcStart (t w : Nat) (tm : Bool) (plan a : Nat)
  /-- EXC_STOP (R244): Almanac EXC stop ends a running window. -/
  | almExcStop (t w : Nat) (tm : Bool) (plan : Nat)
  /-- SETP_HOSTI (R302): Almanac SETP writes the HOST current set-point. -/
  | almSetpHosti (t w : Nat) (tm : Bool) (a : Nat)
  /-- SETP_HOSTV (R302): Almanac SETP writes the HOST string-voltage set-point. -/
  | almSetpHostv (t w : Nat) (tm : Bool) (a : Nat)
  /-- SETP_CLASS (R302): Almanac SETP selects Helm's set-point class, or is refused with CLASS_REJ. -/
  | almSetpClass (t w : Nat) (tm : Bool) (a : Nat)
  /-- TRIG_SET (R163): Almanac sets a watch event flag, waking its waiters. -/
  | almTrigSet (t w : Nat) (tm : Bool) (f : Nat)
  /-- TRIG_CLEAR (R165): Almanac clears a watch event flag. -/
  | almTrigClear (t w : Nat) (tm : Bool) (f : Nat)
  /-- TRIG_MARK (R165): Almanac writes a Logbook record ALM_MARK. -/
  | almTrigMark (t w : Nat) (tm : Bool) (a : Nat)
  /-- TCMP (R156): Almanac compares a target with now and sets Z and N. -/
  | almTcmp (t w tb b scale ofs : Nat)
  /-- AT (R156): Almanac sets LT to an absolute target. -/
  | almAt (t w tb b scale ofs : Nat)
  /-- ATR (R156): Almanac advances LT relative to its previous target. -/
  | almAtr (t w tb b scale ofs : Nat)
  /-- ILLEGAL_INSTRUCTION (R148): An unassigned opcode or FUNC issues and the watch faults ILLEGAL. -/
  | illegalInstruction (t w : Nat)
  /-- ECC_FAULT (R175): An uncorrectable ECC error in a fetched or loaded word faults the watch. -/
  | eccFault (t w : Nat)
  /-- PROGRAM_LOAD (R179): ALM_CTL.LOAD halts all watches, cancels actions, frees locks, clears flags and empties program memory. -/
  | programLoad (t : Nat) (m : Master) (v : Word)
  /-- PROGRAM_START (R181): ALM_CTL.START with a matching CRC makes watch 0 READY and sets RUN, or sets START_REJ. -/
  | programStart (t : Nat) (m : Master) (v : Word)
  /-- PROGRAM_MEMORY_WRITE (R180): A host write through the program window stores a word, or is ignored with PM_WPROT while RUN is 1. -/
  | programMemoryWrite (t : Nat) (m : Master) (idx : Nat) (v : Word)
  /-- DATA_MEMORY_ACCESS (R153): A host word access to Almanac data memory through its window, served after watch accesses. -/
  | dataMemoryAccess (t : Nat) (m : Master) (wr : Bool) (idx : Nat) (v : Word)
  /-- EVFLAG_HOST_WRITE (R186): A host write to ALM_EVSET or ALM_EVCLR sets or clears watch event flags. -/
  | evflagHostWrite (t : Nat) (m : Master) (off : Nat) (v : Word)
  /-- CONTEXT_UPDATE_DONE (R193): A lane finishes a context's prediction and correction, checks and limits, and delivers its items. -/
  | contextUpdateDone (t c : Nat)
  /-- DAPPLY (R190): SXT_CTL.DAPPLY asks for the descriptor images and map to be checked and taken into use at the boundary. -/
  | dapply (t : Nat) (m : Master)
  /-- PRERESTED (R206): SXT_CTL.PRERESTED marks every cell as rested for the first update after EN. -/
  | prerested (t : Nat) (m : Master)
  /-- SEXTANT_WINDOW_WRITE (R198): A write through the Sextant window stores a word, or is ignored with CTX_WPROT for a live context. -/
  | sextantWindowWrite (t : Nat) (m : Master) (a : Nat) (v : Word)
  /-- JOURNAL_SAVE_START (R227): A save of the learned values into the journal slot that does not hold the newest image starts. -/
  | journalSaveStart (t : Nat)
  /-- JOURNAL_SAVE_DONE (R228): A journal save completes its records and header, or fails with JFAIL. -/
  | journalSaveDone (t : Nat) (ok : Bool)
  /-- PERIODIC_SAVE (R229): JPERIOD hours of Dial pass since the last save and a journal save is triggered. -/
  | periodicSave (t : Nat)
  /-- SAVE (R229): SXT_LRNCTL.SAVE triggers a journal save in journal mode. -/
  | learnSave (t : Nat) (m : Master)
  /-- RESTORE (R234): SXT_LRNCTL.RESTORE checks the staged image and accepts it for the boundary, or sets RESTORE_REJ. -/
  | learnRestore (t : Nat) (m : Master)
  /-- NOMINAL (R233): SXT_LRNCTL.NOMINAL accepts the nominal learned values at the next boundary. -/
  | learnNominal (t : Nat) (m : Master)
  /-- EXPORT (R235): SXT_LRNCTL.EXPORT writes a learned-store image to the staging area at the next boundary. -/
  | learnExport (t : Nat) (m : Master)
  /-- PAPPLY (R240): AZM_CTL.PAPPLY checks all plans and calibration sets and takes them into use at the boundary, or sets PLAN_REJ. -/
  | papply (t : Nat) (m : Master)
  /-- AZM_AUTO_START (R244): Under INDIGO, Meridian reaches a whole multiple of 10 s and the automatic window starts or is refused. -/
  | azmAutoStart (t : Nat)
  /-- EXC_WINDOW_ELAPSE (R244): A window's length elapses and the window ends with its end ramp. -/
  | excWindowElapse (t : Nat)
  /-- AZM_BLOCK_END (R247): A 10 s block of Meridian ends and its channels are checked and correlated. -/
  | azmBlockEnd (t : Nat)
  /-- AZM_BLOCK_READY (R255): A block's ready instant arrives and its values go to Sextant, Binnacle and the commit unit. -/
  | azmBlockReady (t : Nat)
  /-- BAL_PHASE_EFFECT (R260): At S the phase change takes effect and BALSETs go to each in-service tile. -/
  | balPhaseEffect (t : Nat)
  /-- BAL_PHASE_END (R261): A phase's on-time ga elapses and its switches open. -/
  | balPhaseEnd (t : Nat)
  /-- BALSET_REFRESH (R262): Every 1 s during a phase the planner refreshes each tile's BALSET from the latest plan. -/
  | balsetRefresh (t : Nat)
  /-- BAL_PLAN (R266): At the ready instant of each Sextant update the planner recomputes eligible cells and candidates. -/
  | balPlan (t : Nat)
  /-- DIE_TEMPERATURE_POLL (R268): Once per second the planner reads each tile's die temperature and recomputes NMAX. -/
  | dieTemperaturePoll (t : Nat)
  /-- UNSURE_EXPIRY (R265): 2 s after the last confirmed BALSET, a tile's switch state is known again and UNSURE clears. -/
  | unsureExpiry (t k : Nat)
  /-- HELM_RUN_REQUEST (R303): A write of HLM_CTL.RUN 1 starts Helm when every entry condition holds, or sets CFG_REJ. -/
  | helmRunRequest (t : Nat) (m : Master) (v : Word)
  /-- HELM_STOP (R303): A write of RUN or CEN 0 stops Helm and drives every PWM output low. -/
  | helmStop (t : Nat) (m : Master) (v : Word)
  /-- CARRIER_ENABLE (R281): A write of HLM_CTL.CEN starts or stops the master carrier. -/
  | carrierEnable (t : Nat) (m : Master) (v : Word)
  /-- LEGS_WRITE (R280): A write of HLM_LEGS.MAP selects the legs in use, or is refused with CFG_REJ. -/
  | legsWrite (t : Nat) (m : Master) (v : Word)
  /-- CARRIER_WRITE (R281): A write of HLM_CARRIER.CPER takes effect from the next valley, or is refused in RUN. -/
  | carrierWrite (t : Nat) (m : Master) (v : Word)
  /-- COEFFICIENT_WRITE (R291): A coefficient write takes effect at the first sample 2 HELM cycles later, or is refused with COEF_REJ. -/
  | coefficientWrite (t : Nat) (m : Master) (n : Nat) (v : Word)
  /-- HOST_SETPOINT_WRITE (R302): A host write of HLM_HOSTI, HLM_HOSTV or HLM_RCTGT takes effect at the next sample. -/
  | hostSetpointWrite (t : Nat) (m : Master) (off : Nat) (v : Word)
  /-- CLASS_SELECT (R302): A host write of HLM_CTL.CLASS changes the set-point class, or is refused with CLASS_REJ. -/
  | classSelect (t : Nat) (m : Master) (v : Word)
  /-- SPP_PERIOD (R297): A complete SPP input period is measured for DISPATCH. -/
  | sppPeriod (t per high : Nat)
  /-- SPP_TIMEOUT (R298): No complete SPP period arrives for 2 ms and SRCFAULT is declared. -/
  | sppTimeout (t : Nat)
  /-- HVAC_FRAME_SEND (R320): Every HVPER ms the active unit queues the HVAC frame on CAN2. -/
  | hvacFrameSend (t : Nat)
  /-- HVAC_STATUS_RECEIVE (R321): A received HVAC status frame updates HVST and may set HVAC_FAULT. -/
  | hvacStatusReceive (t b : Nat)
  /-- HVAC_LOST (R321): No HVAC status frame arrives for 3 × HVPER and HVAC_LOST is set. -/
  | hvacLost (t : Nat)
  /-- CLOSE_REQUEST (R322): A write of 1 to a BIN_OUTREQ bit requests an output's energize sequence. -/
  | closeRequest (t : Nat) (m : Master) (v : Word)
  /-- CLOSE_RELEASE (R357): A write of 0 to a BIN_OUTREQ bit starts the output's de-energize sequence. -/
  | closeRelease (t : Nat) (m : Master) (v : Word)
  /-- ENERGIZE_CHECK (R356): A timed check of the energize sequence passes or latches OUTFAULT and removes both drives. -/
  | energizeCheck (t n : Nat) (hs ls load : Bool)
  /-- DEENERGIZE_CHECK (R357): A timed check of the de-energize sequence removes the second drive or latches OUTFAULT. -/
  | deenergizeCheck (t n : Nat) (hs ls load : Bool)
  /-- OFF_PULSE_START (R361): An energized output's off-pulse slot begins and one switch is opened briefly. -/
  | offPulseStart (t n : Nat)
  /-- OFF_PULSE_CHECK (R362): Readbacks are checked near the end of and 1 tick after an off-pulse, latching OUTFAULT 7 on failure. -/
  | offPulseCheck (t n : Nat) (hs ls : Bool)
  /-- PROOF_WARN (R360): An output has been energized for 24 h under TEST 0 without a de-energization. -/
  | proofWarn (t n : Nat)
  /-- LODESTONE_TICK (R334): Each 1 ms Lodestone tick toggles REF_HB and counts FAB cycles for the clock check. -/
  | lodestoneTick (t : Nat) (x : TickIn)
  /-- CLK_MISMATCH (R336): Two ticks with a FAB count out of range declare CLK_MISMATCH and enter dead reckoning. -/
  | clkMismatch (t : Nat)
  /-- HEARTBEAT_WRITE (R337): Binnacle writes its heartbeat to Lodestone, which declares BIN_ABSENT if it is too soon or repeated. -/
  | heartbeatWrite (t v cyc : Nat)
  /-- HEARTBEAT_TIMEOUT (R337): No heartbeat write arrives for 64,000 cycles and BIN_ABSENT is declared. -/
  | heartbeatTimeout (t cyc : Nat)
  /-- LOCKSTEP_MISMATCH (R337): Binnacle's lockstep comparator reports a mismatch, holding it in reset with BIN_ABSENT. -/
  | lockstepMismatch (t : Nat)
  /-- PILOT_WATCHDOG_EXPIRY (R334): 50 ticks pass without Pilot service and dead reckoning is entered. -/
  | pilotWatchdogExpiry (t : Nat)
  /-- PILOT_SERVICE (R409): Pilot services the Lodestone watchdog and writes RDN_CTL.HB. -/
  | pilotService (t : Nat)
  /-- BPERMIT_LOSS (R324): A BPERMIT wave shows no edge for 64 oscillator cycles and the permit is withdrawn. -/
  | bpermitLoss (t mask : Nat)
  /-- BPERMIT_RETURN (R324): A BPERMIT wave shows 16 valid periods and counts as present again. -/
  | bpermitReturn (t mask : Nat)
  /-- SAFE_B_LOW (R325): Binnacle drives SAFE_B low and Lodestone withdraws LPERMIT from all outputs. -/
  | safeBLow (t : Nat)
  /-- OVERCURRENT (R333): OCA or OCB exceeds its threshold for 2 µs and CONV_EN and PRECHARGE trip. -/
  | overcurrent (t : Nat) (a b : Bool)
  /-- OVERCURRENT_CONTACTOR_TRIP (R334): 20 ticks after an overcurrent trip, if the condition still holds, CONT_POS and CONT_NEG trip. -/
  | overcurrentContactorTrip (t : Nat)
  /-- OVER_TEMPERATURE (R334): An LTH comparator reads hot on 4 consecutive ticks and all outputs trip. -/
  | overTemperature (t : Nat)
  /-- SEAL_READ (R329): Every 100 ms Lodestone reads the seal, latching SEAL_CHANGED or setting SEAL_GLITCH. -/
  | sealRead (t v : Nat)
  /-- INPUT_FILTER_PASS (R348): A new level on a safety input channel has held for 64 cycles and counts, possibly starting a demand. -/
  | inputFilterPass (t n : Nat) (a b : Bool)
  /-- DISCREPANCY (R350): A pair's disagreement lasts to the Td-th tick edge and DISCREPANCY latches. -/
  | discrepancy (t n : Nat)
  /-- INSULATION_ESTIMATE (R339): Every 2 s Binnacle estimates insulation resistance, warning or tripping. -/
  | insulationEstimate (t riso : Nat)
  /-- BINNACLE_DELAYED_TRIP (R339): A further 1 s after a voltage-limit CONV_EN trip, Binnacle makes an open trip. -/
  | binnacleDelayedTrip (t : Nat)
  /-- HOLD_TIMER_EXPIRY (R343): The dead-reckoning hold timer expires in HOLDING and the contactors go safe with HOLD_EXPIRED. -/
  | holdTimerExpiry (t : Nat)
  /-- TWIN_WRITE (R365): A write of RDN_CTL.TWIN selects single or twin installation, or is refused with CFG_REJ. -/
  | twinWrite (t : Nat) (m : Master) (v : Word)
  /-- HB (R370): Pilot's write of RDN_CTL.HB keeps REF_HB toggling. -/
  | hb (t : Nat) (m : Master)
  /-- GRANT_RISE (R366): Filtered REF_GRANT rises, and a claiming or standby unit becomes ACTIVE or enters TAKING. -/
  | grantRise (t edge : Nat)
  /-- GRANT_FALL (R368): Filtered REF_GRANT falls, and the unit leaves ACTIVE or TAKING and stops all active-only actions. -/
  | grantFall (t : Nat)
  /-- AUTORUN_HELM_START (R373): 3.0 ms after the grant rises, with AUTORUN set, the new active unit requests Helm RUN. -/
  | autorunHelmStart (t : Nat)
  /-- START_UP_COMPLETE (R446): All enabled rings settle, or 1 s passes after RINGS, and Pilot enables epochs and the blocks. -/
  | startUpComplete (t : Nat)
  /-- MIRROR_ARRIVAL (R372): A complete mirror with a good CRC arrives at the standby and is applied, with the fitness checks. -/
  | mirrorArrival (t us : Nat) (x : Mirror)
  /-- MIRROR_TIMEOUT (R366): No complete mirror arrives for 100 ms and the standby drops to SYNCING with UNFIT. -/
  | mirrorTimeout (t : Nat)
  /-- PEER_STATUS_RECEIVE (R376): The 1 ms peer status arrives with role, BIN_OUTREQ, seal, digest and Dial. -/
  | peerStatusReceive (t : Nat) (x : PeerStatus)
  /-- PEER_LANE_DOWN (R372): A PEER lane goes down, setting PEER_DEGRADED or PEER_DOWN. -/
  | peerLaneDown (t lane : Nat)
  /-- TWIN_ENERGIZE_TIMEOUT (R377): Under RECIPE 0 the twin's energized report does not arrive within 500 ms and the request is refused. -/
  | twinEnergizeTimeout (t n : Nat)
  /-- PCIE_LINK_LOSS (R388): The PCIe link is lost, resetting that master's ring indices and freeing its locks. -/
  | pcieLinkLoss (t : Nat)
  /-- CMDPI_WRITE (R387): A host write of HOST_CMDPI advances the command ring and wakes Pilot, or sets RING_ERR. -/
  | cmdpiWrite (t : Nat) (m : Master) (v : Word)
  /-- RSPCI_WRITE (R385): A host write of HOST_RSPCI consumes response entries, or sets RING_ERR. -/
  | rspciWrite (t : Nat) (m : Master) (v : Word)
  /-- POSTCI_WRITE (R389): A host write of HOST_POSTCI consumes post ring entries. -/
  | postciWrite (t : Nat) (m : Master) (v : Word)
  /-- H2D_MAILBOX_WRITE (R390): A host write of H2Dn stores the word and sets FULL, or sets MBX_OVR. -/
  | h2dMailboxWrite (t : Nat) (m : Master) (n : Nat) (v : Word)
  /-- D2HEMPTY (R390): A host write of HOST_D2HEMPTY empties a D2H mailbox. -/
  | d2hempty (t : Nat) (m : Master) (v : Word)
  /-- MBX_STALL (R392): A D2H mailbox stays FULL for 2 ms with a word queued, and Pilot raises doorbell 31 and relays through the ring. -/
  | mbxStall (t n : Nat)
  /-- DBOUT_WRITE (R395): A host write of HOST_DBOUT raises host-to-device doorbells KICK or HOST_MBX_STALL. -/
  | dboutWrite (t : Nat) (m : Master) (v : Word)
  /-- DBIN_CLEAR (R394): A host write of 1 clears pending device-to-host doorbell bits. -/
  | dbinClear (t : Nat) (m : Master) (v : Word)
  /-- HSPI_READ_FRAME (R398): An HSPI 0x3B frame reads up to 64 words from one window. -/
  | hspiReadFrame (t addr len : Nat)
  /-- HSPI_WRITE_FRAME (R398): An HSPI 0x32 frame with a good CRC writes its words as one burst, or sets HSPI_ERR. -/
  | hspiWriteFrame (t addr len : Nat) (ws : List Word) (crcOk : Bool)
  /-- HSPI_STATUS_FRAME (R397): An HSPI 0x05 frame returns the enabled interrupt causes and the last frame result. -/
  | hspiStatusFrame (t : Nat)
  /-- HSPI_RESET_ENABLE (R399): An HSPI 0x66 frame arms the port reset. -/
  | hspiResetEnable (t : Nat)
  /-- HSPI_PORT_RESET (R399): An HSPI 0x99 frame after 0x66 frees locks, resets rings and returns SYS_AWAIT4 to 1. -/
  | hspiPortReset (t : Nat)
  /-- UDP_OPEN (R400): A client OPEN datagram is answered with CHALLENGE, or ignored when four sessions are open. -/
  | udpOpen (t port slot : Nat) (nc : List Nat)
  /-- UDP_CONFIRM (R400): A client CONFIRM with the right HMAC opens the session. -/
  | udpConfirm (t port sid : Nat) (mac : List Nat)
  /-- UDP_DATAGRAM (R401): An authenticated session datagram is accepted as a command, or dropped with UDP_AUTH. -/
  | udpDatagram (t port sid seq typ : Nat) (ws : List Word) (tag : List Nat)
  /-- UDP_SESSION_TIMEOUT (R400): A session has received no valid datagram for 60 s and closes. -/
  | udpSessionTimeout (t k : Nat)
  /-- UNKNOWN_COMMAND (R404): A command whose OPCODE is not defined is answered UNKNOWN. -/
  | cmdUnknownCommand (t op : Nat) (c : Entry)
  /-- GET_INFO (R410): Pilot returns device identity, versions, bank and serial. -/
  | cmdGetInfo (t : Nat) (c : Entry)
  /-- ECHO (R410): Pilot returns the words it was sent. -/
  | cmdEcho (t : Nat) (c : Entry)
  /-- READ_REG (R410): Pilot reads N BAR0 registers, with read side effects. -/
  | cmdReadReg (t : Nat) (c : Entry)
  /-- WRITE_REG (R410): Pilot writes N BAR0 registers. -/
  | cmdWriteReg (t : Nat) (c : Entry)
  /-- SET_PROFILE (R44): Pilot writes SYS_PROFILE and answers after the change applies. -/
  | cmdSetProfile (t : Nat) (c : Entry)
  /-- SET_OVERRIDE (R45): Pilot requests a single-parameter override, checked under R45. -/
  | cmdSetOverride (t : Nat) (c : Entry)
  /-- CLEAR_OVERRIDES (R410): Pilot ends every override at the next boundary. -/
  | cmdClearOverrides (t : Nat) (c : Entry)
  /-- SET_EPOCH (R21): Pilot writes SYS_EPOCHCTL. -/
  | cmdSetEpoch (t : Nat) (c : Entry)
  /-- GET_STATUS (R410): Pilot returns a set of status registers. -/
  | cmdGetStatus (t : Nat) (c : Entry)
  /-- MBX_RELAY (R412): Pilot takes a relayed mailbox word from a local host. -/
  | cmdMbxRelay (t : Nat) (c : Entry)
  /-- STATE_READ (R413): Pilot reads up to 60 state-space words in one burst with NEW for the issuer. -/
  | cmdStateRead (t : Nat) (c : Entry)
  /-- SET_AWAIT (R410): Pilot sets the issuer's awaited epoch. -/
  | cmdSetAwait (t : Nat) (c : Entry)
  /-- SET_NET (R410): Pilot sets a port's IPv4 addresses and closes its sessions. -/
  | cmdSetNet (t : Nat) (c : Entry)
  /-- GET_TIME (R410): Pilot returns Dial, Meridian, Calendar and PTP status from one capture. -/
  | cmdGetTime (t : Nat) (c : Entry)
  /-- SET_CALENDAR (R66): Pilot sets Calendar and the RTC, making CAL_VALID 1. -/
  | cmdSetCalendar (t : Nat) (c : Entry)
  /-- SET_PTP (R410): Pilot writes TIME_PTPCTL, TIME_STEPTHR and TIME_UNCERTLIM. -/
  | cmdSetPtp (t : Nat) (c : Entry)
  /-- SET_RATE (R410): Pilot writes TIME_RATE in FREE with PTPEN 0. -/
  | cmdSetRate (t : Nat) (c : Entry)
  /-- SET_UTCOFS (R410): Pilot writes TIME_CALCTL.UTCOFS. -/
  | cmdSetUtcofs (t : Nat) (c : Entry)
  /-- SET_TILES (R410): Pilot writes tile slot and thermistor map images. -/
  | cmdSetTiles (t : Nat) (c : Entry)
  /-- APPLY_TOPOLOGY (R109): Pilot writes NPOS and APPLY. -/
  | cmdApplyTopology (t : Nat) (c : Entry)
  /-- RINGS (R410): Pilot writes TRV_CTL.EN. -/
  | cmdRings (t : Nat) (c : Entry)
  /-- SET_MOD (R410): Pilot writes the modulator configuration registers. -/
  | cmdSetMod (t : Nat) (c : Entry)
  /-- SET_CHECKS (R410): Pilot writes the acquisition check and slot registers, refusing a TMIN that fails R143. -/
  | cmdSetChecks (t : Nat) (c : Entry)
  /-- OW_RETEST (R136): Pilot requests a retest of a slot's confirmed wires. -/
  | cmdOwRetest (t : Nat) (c : Entry)
  /-- GET_RING (R410): Pilot returns ring status, port status (cleared) and hop delays. -/
  | cmdGetRing (t : Nat) (c : Entry)
  /-- ALM_LOAD (R414): Pilot performs a program load and writes length, expected CRC and start image. -/
  | cmdAlmLoad (t : Nat) (c : Entry)
  /-- ALM_WRITE (R414): Pilot writes program memory words, choosing the page itself. -/
  | cmdAlmWrite (t : Nat) (c : Entry)
  /-- ALM_START (R181): Pilot starts the Almanac program. -/
  | cmdAlmStart (t : Nat) (c : Entry)
  /-- ALM_DREAD (R153): Pilot reads Almanac data memory words. -/
  | cmdAlmDread (t : Nat) (c : Entry)
  /-- ALM_DWRITE (R153): Pilot writes Almanac data memory words. -/
  | cmdAlmDwrite (t : Nat) (c : Entry)
  /-- ALM_FLAGS (R186): Pilot sets and clears watch event flags in one cycle. -/
  | cmdAlmFlags (t : Nat) (c : Entry)
  /-- ALM_STATUS (R410): Pilot returns Almanac status and watch words. -/
  | cmdAlmStatus (t : Nat) (c : Entry)
  /-- SXT_WRITE (R410): Pilot writes descriptor images or the position map. -/
  | cmdSxtWrite (t : Nat) (c : Entry)
  /-- SXT_DAPPLY (R190): Pilot requests DAPPLY and answers after the boundary. -/
  | cmdSxtDapply (t : Nat) (c : Entry)
  /-- SXT_CFG (R410): Pilot writes SXT_CTL fields and SXT_REINIT. -/
  | cmdSxtCfg (t : Nat) (c : Entry)
  /-- CTX_READ (R198): Pilot reads live context words. -/
  | cmdCtxRead (t : Nat) (c : Entry)
  /-- LEARN_CFG (R410): Pilot writes the learning configuration registers. -/
  | cmdLearnCfg (t : Nat) (c : Entry)
  /-- RESTORE_LEARNED (R415): Pilot requests a restore of the staged learned-store image. -/
  | cmdRestoreLearned (t : Nat) (c : Entry)
  /-- STAGE_WRITE (R415): Pilot writes bytes into the staging area. -/
  | cmdStageWrite (t : Nat) (c : Entry)
  /-- STAGE_READ (R415): Pilot reads bytes from the staging area. -/
  | cmdStageRead (t : Nat) (c : Entry)
  /-- EXPORT_LEARNED (R235): Pilot requests an export of the learned values. -/
  | cmdExportLearned (t : Nat) (c : Entry)
  /-- ACCEPT_NOMINAL (R233): Pilot requests NOMINAL. -/
  | cmdAcceptNominal (t : Nat) (c : Entry)
  /-- JOURNAL_SAVE (R229): Pilot triggers a journal save and answers when it completes. -/
  | cmdJournalSave (t : Nat) (c : Entry)
  /-- AZM_PLAN (R410): Pilot writes a tone plan's registers. -/
  | cmdAzmPlan (t : Nat) (c : Entry)
  /-- AZM_CAL (R410): Pilot writes a calibration set. -/
  | cmdAzmCal (t : Nat) (c : Entry)
  /-- AZM_APPLY (R240): Pilot requests PAPPLY and answers after the boundary. -/
  | cmdAzmApply (t : Nat) (c : Entry)
  /-- AZM_CFG (R410): Pilot writes AZM_CTL, AZM_TCFG and AZM_PTHR. -/
  | cmdAzmCfg (t : Nat) (c : Entry)
  /-- AZM_STATUS (R410): Pilot returns Azimuth status registers. -/
  | cmdAzmStatus (t : Nat) (c : Entry)
  /-- BAL_SETUP (R410): Pilot writes the balancing configuration registers. -/
  | cmdBalSetup (t : Nat) (c : Entry)
  /-- BAL_MANUAL (R271): Pilot writes manual balancing masks. -/
  | cmdBalManual (t : Nat) (c : Entry)
  /-- BAL_STATUS (R410): Pilot returns balancing status and tile words. -/
  | cmdBalStatus (t : Nat) (c : Entry)
  /-- HLM_SETUP (R410): Pilot writes carrier, legs, duty limits and IRATED while Helm is stopped. -/
  | cmdHlmSetup (t : Nat) (c : Entry)
  /-- HLM_ANALOG (R286): Pilot writes a Helm channel's gain and offset. -/
  | cmdHlmAnalog (t : Nat) (c : Entry)
  /-- HLM_COEF (R416): Pilot writes coefficients in order and answers when COEFCNT has risen by N. -/
  | cmdHlmCoef (t : Nat) (c : Entry)
  /-- HLM_RUN (R303): Pilot writes CEN and VLOOP, waits a carrier period if needed, then writes RUN. -/
  | cmdHlmRun (t : Nat) (c : Entry)
  /-- HLM_SETPOINT (R302): Pilot writes class then set-points. -/
  | cmdHlmSetpoint (t : Nat) (c : Entry)
  /-- HLM_LIMITS (R410): Pilot writes slew, magnitude clamp and reconnect ramp. -/
  | cmdHlmLimits (t : Nat) (c : Entry)
  /-- HLM_DISPATCH (R297): Pilot writes the DISPATCH source configuration. -/
  | cmdHlmDispatch (t : Nat) (c : Entry)
  /-- DSP_SETUP (R309): Pilot writes the dispatch configuration registers. -/
  | cmdDspSetup (t : Nat) (c : Entry)
  /-- COOL_SETUP (R410): Pilot writes a cooling output's configuration and curve. -/
  | cmdCoolSetup (t : Nat) (c : Entry)
  /-- COOL_FLOOR (R319): Pilot writes the host cooling floor. -/
  | cmdCoolFloor (t : Nat) (c : Entry)
  /-- HVAC_SETUP (R410): Pilot writes the HVAC configuration and identifiers. -/
  | cmdHvacSetup (t : Nat) (c : Entry)
  /-- HLM_STATUS (R410): Pilot returns Helm state and measurements. -/
  | cmdHlmStatus (t : Nat) (c : Entry)
  /-- SAFETY_STATUS (R410): Pilot returns the LDS and BIN status registers. -/
  | cmdSafetyStatus (t : Nat) (c : Entry)
  /-- SAFETY_RESET (R341): Pilot clears LDS_TRIP cause bits whose condition has ended. -/
  | cmdSafetyReset (t : Nat) (c : Entry)
  /-- OUTPUT_REQUEST (R322): Pilot sets or clears BIN_OUTREQ close request bits. -/
  | cmdOutputRequest (t : Nat) (c : Entry)
  /-- BIN_PARAM (R339): Pilot sets a Binnacle parameter, refused if looser than default. -/
  | cmdBinParam (t : Nat) (c : Entry)
  /-- SEAL_HISTORY (R330): Pilot returns an entry of the sealed-configuration history. -/
  | cmdSealHistory (t : Nat) (c : Entry)
  /-- RDN_SETUP (R365): Pilot writes TWIN and AUTORUN. -/
  | cmdRdnSetup (t : Nat) (c : Entry)
  /-- RDN_STATUS (R410): Pilot returns the redundancy status registers. -/
  | cmdRdnStatus (t : Nat) (c : Entry)
  /-- CAN_SETUP (R422): Pilot writes a controller's control and timing registers in order. -/
  | cmdCanSetup (t : Nat) (c : Entry)
  /-- CAN_FILTER (R424): Pilot writes a receive object's filter. -/
  | cmdCanFilter (t : Nat) (c : Entry)
  /-- CAN_SEND (R428): Pilot queues a transmit descriptor. -/
  | cmdCanSend (t : Nat) (c : Entry)
  /-- CAN_RECV (R426): Pilot reads and releases a receive object. -/
  | cmdCanRecv (t : Nat) (c : Entry)
  /-- CAN_CANCEL (R431): Pilot cancels a queued entry that has not begun. -/
  | cmdCanCancel (t : Nat) (begun : Bool) (c : Entry)
  /-- CAN_AUTOBAUD (R435): Pilot runs listen-only rate detection up to a limit. -/
  | cmdCanAutobaud (t : Nat) (c : Entry)
  /-- CAN_TIMEMASTER (R437): Pilot enables or disables the time-master role with a basic cycle. -/
  | cmdCanTimemaster (t : Nat) (c : Entry)
  /-- UPD_BEGIN (R448): Pilot begins staging an image into the inactive bank. -/
  | cmdUpdBegin (t : Nat) (c : Entry)
  /-- UPD_WRITE (R448): Pilot writes staged image bytes. -/
  | cmdUpdWrite (t : Nat) (c : Entry)
  /-- UPD_END (R448): Pilot verifies the staged image and marks it staged. -/
  | cmdUpdEnd (t : Nat) (c : Entry)
  /-- ACTIVATE (R417): Pilot ramps Helm down and starts the service pause into the new bank. -/
  | cmdActivate (t : Nat) (c : Entry)
  /-- COMMIT (R455): Pilot confirms the running bank within the confirmation window. -/
  | cmdCommit (t : Nat) (c : Entry)
  /-- UPD_STATUS (R410): Pilot returns the UPD status registers. -/
  | cmdUpdStatus (t : Nat) (c : Entry)
  /-- POWER_STATE (R461): Pilot changes the power state to RUN, TRIM, WATCH or OFF. -/
  | cmdPowerState (t : Nat) (c : Entry)
  /-- THERMAL_SETUP (R471): Pilot sets the throttle limit and method. -/
  | cmdThermalSetup (t : Nat) (c : Entry)
  /-- THERMAL_STATUS (R410): Pilot returns all temperature readings. -/
  | cmdThermalStatus (t : Nat) (c : Entry)
  /-- LOG_INFO (R410): Pilot returns Logbook indices, count and repeat window. -/
  | cmdLogInfo (t : Nat) (c : Entry)
  /-- LOG_READ (R485): Pilot returns up to three Logbook records. -/
  | cmdLogRead (t : Nat) (c : Entry)
  /-- LOG_WINDOW (R482): Pilot sets the repeat window. -/
  | cmdLogWindow (t : Nat) (c : Entry)
  /-- LOG_NONCE (R418): Pilot issues a Logbook clear nonce. -/
  | cmdLogNonce (t : Nat) (c : Entry)
  /-- LOG_CLEAR (R419): Pilot checks the token, writes LOG_CLEARED and erases older records, or answers DENIED. -/
  | cmdLogClear (t : Nat) (c : Entry)
  /-- WEAR_READ (R489): Pilot returns wear ledger items. -/
  | cmdWearRead (t : Nat) (c : Entry)
  /-- COMMISSION_SPARE (R420): Pilot retires a unit and brings a spare into service. -/
  | cmdCommissionSpare (t : Nat) (c : Entry)
  /-- PMC_CONTROL (R497): Pilot writes the counter selects and issues a counter command. -/
  | cmdPmcControl (t : Nat) (c : Entry)
  /-- PMC_READ (R497): Pilot freezes the counters and returns one unit's snapshot. -/
  | cmdPmcRead (t : Nat) (c : Entry)
  /-- CAN_FRAME_RECEIVE (R424): A frame received without error is stored in the lowest matching receive object. -/
  | canFrameReceive (t n : Nat) (f : CanFrame)
  /-- CAN_TX_DONE (R430): The head entry is transmitted successfully and leaves the queue. -/
  | canTxDone (t n sof tdcv : Nat)
  /-- CAN_TX_ATTEMPT_FAIL (R430): The head loses arbitration or meets an error, and it retries or leaves the queue if single-shot. -/
  | canTxAttemptFail (t n : Nat) (arb : Bool)
  /-- TXGO (R428): CANn_TXGO queues the writer's TXBUF descriptor, or reports refusal in TXRES. -/
  | txgo (t n : Nat) (m : Master) (v : Word)
  /-- TXCAN (R431): CANn_TXCAN cancels a queued entry by serial number. -/
  | txcan (t n : Nat) (m : Master) (v : Word) (begun : Bool)
  /-- RXREL (R426): CANn_RXREL releases a receive object, moving a shadow frame forward. -/
  | rxrel (t n : Nat) (m : Master) (v : Word)
  /-- RESTART (R430): CANn_CTL.RESTART starts bus-off recovery. -/
  | restart (t n : Nat) (m : Master) (v : Word)
  /-- BUS_OFF_RECOVERY (R421): 128 × 11 recessive bits pass after bus-off and the controller rejoins the bus. -/
  | busOffRecovery (t n : Nat)
  /-- CAN_TIMING_WRITE (R422): A write of CANn_NBT, DBT, TDC or ABCAND is stored, or refused with CFG_REJ. -/
  | canTimingWrite (t : Nat) (m : Master) (off : Nat) (v : Word)
  /-- ABCTL_GO (R435): CANn_ABCTL.GO starts listen-only rate detection. -/
  | abctlGo (t n : Nat) (m : Master) (v : Word)
  /-- ABCTL_STOP (R435): CANn_ABCTL.STOP ends detection and restores the previous NBT. -/
  | abctlStop (t n : Nat) (m : Master) (v : Word)
  /-- AUTOBAUD_DWELL_END (R435): A candidate's dwell elapses or meets an error and detection moves to the next candidate. -/
  | autobaudDwellEnd (t n : Nat) (err : Bool)
  /-- REFERENCE_CYCLE_START (R437): Dial reaches a multiple of TMCYC and the time master places a reference message in its slot. -/
  | referenceCycleStart (t n : Nat)
  /-- BOOT_READY (R443): The start sequence ends with microcode loaded and READY set. -/
  | bootReady (t : Nat)
  /-- SUPERVISION_START (R444): Lodestone starts heartbeat or watchdog supervision at the first write or after 500 ticks. -/
  | supervisionStart (t : Nat)
  /-- PAUSE_RESUMPTION (R451): Binnacle's contactor permits are accepted again, ending UPDATE_HOLD and restarting Sextant and Azimuth. -/
  | pauseResumption (t : Nat)
  /-- PAUSE_TIMEOUT (R452): Resumption has not occurred 300 ticks after acceptance and BIN_ABSENT is declared. -/
  | pauseTimeout (t : Nat)
  /-- BOOT_RECORD_WRITTEN (R454): The boot record naming the new bank with PENDING 1 is written after the first commit. -/
  | bootRecordWritten (t : Nat)
  /-- CONFIRMATION_WINDOW_CLOSE (R455): 600 s pass without COMMIT, setting WINDOW_CLOSED and writing UPD_NOCOMMIT. -/
  | confirmationWindowClose (t : Nat)
  /-- RECOVERY_RESET (R458): 10 ms after a recovery-mode ACTIVATE, the device resets. -/
  | recoveryReset (t : Nat)
  /-- KCTL_WRITE (R459): SEC_KCTL.WRITE stores the key data into a slot. -/
  | kctlWrite (t : Nat) (m : Master) (v : Word)
  /-- KCTL_LOCK (R459): SEC_KCTL.LOCK locks a key slot permanently. -/
  | kctlLock (t : Nat) (m : Master) (v : Word)
  /-- WAKE_FRAME (R465): A wake frame on an enabled port moves the device from WATCH to RUN. -/
  | wakeFrame (t p : Nat) (dst payload : List Nat)
  /-- DIE_SENSOR_CONVERSION (R467): Every 250 µs the die sensors are converted, starting throttling or thermal shutdown. -/
  | dieSensorConversion (t : Nat) (temps : List Int)
  /-- BOARD_CHANNEL_CONVERSION (R468): Every 100 ms the board diodes and thermistors are converted and warnings set. -/
  | boardChannelConversion (t ch raw : Nat)
  /-- THROTTLE_END (R470): The hottest die reading stays below LIMIT − 5 °C for 100 ms and throttling ends. -/
  | throttleEnd (t : Nat)
  /-- LOG_EVENT (R482): An event reaches the Logbook writer and is recorded or merged as a repeat. -/
  | logEvent (t : Nat)
  /-- LOG_RDIDX_WRITE (R485): A write of LOG_RDIDX copies a record into the master's read buffer. -/
  | logRdidxWrite (t : Nat) (m : Master) (v : Word)
  /-- LOG_ERASURE_DONE (R486): An accepted clear's erasure completes and CLEARING drops. -/
  | logErasureDone (t : Nat)
  /-- LEDGER_FLUSH (R488): Every hour of Dial the wear counts are flushed to MRAM. -/
  | ledgerFlush (t : Nat) (ok : Bool)
  /-- ECC_SCRUB (R490): Every 60 s the ECC memories are scrubbed and rows scheduled for repair. -/
  | eccScrub (t : Nat) (found : List EccFinding)
  /-- PMC_START (R497): PMC_CTL.CMD 0 starts the performance counters. -/
  | pmcStart (t : Nat) (m : Master)
  /-- PMC_STOP (R497): PMC_CTL.CMD 1 stops the performance counters. -/
  | pmcStop (t : Nat) (m : Master)
  /-- PMC_FREEZE (R497): PMC_CTL.CMD 2 copies the live counters into the snapshot bank. -/
  | pmcFreeze (t : Nat) (m : Master)
  /-- PMC_CLEAR (R497): PMC_CTL.CMD 3 zeroes the live counters and OVF bits. -/
  | pmcClear (t : Nat) (m : Master)
  /-- CLOCK_STOPPED (R500): A monitored asynchronous clock shows no edge for its limit and is declared stopped. -/
  | clockStopped (t c : Nat)
  /-- CLOCK_RUNNING (R500): A stopped clock shows 64 edges and is declared running, starting a handshake. -/
  | clockRunning (t c : Nat)
  /-- LODESTONE_OSC_STOP (R501): The Lodestone oscillator stops and the analog watchdog removes every output drive. -/
  | lodestoneOscStop (t : Nat)
  /-- POINTER_CHECK_FAIL (R506): A synchronized Gray pointer changes by more than one bit, forcing fall-back or a handshake. -/
  | pointerCheckFail (t n : Nat)
  /-- HANDSHAKE_PHASE (R510): A phase of a crossing's four-phase reset handshake completes. -/
  | handshakePhase (t n u : Nat)
  /-- CROSSING_TIMEOUT (R512): A waiting side counts 1,024 cycles and the crossing enters TIMEDOUT. -/
  | crossingTimeout (t n u : Nat)
  /-- XRESYNC (R511): A write of CLK_XRESYNC starts a crossing's handshake. -/
  | xresync (t : Nat) (m : Master) (v : Word)
  /-- XFB_WRITE (R506): A write of CLK_XFB forces or releases fall-back, or sets CFG_REJ for a main-only crossing. -/
  | xfbWrite (t : Nat) (m : Master) (v : Word)
  /-- XEVMODE_WRITE (R509): A write of CLK_XEVMODE changes an event channel's mode when it next holds no event. -/
  | xevmodeWrite (t : Nat) (m : Master) (v busy : Word)
  /-- TILE_POWER_UP (R546): A tile regains power, starts in its ROM loader with no armed thresholds and sends ALERT BOOT. -/
  | tilePowerUp (t k ncell : Nat)
  /-- TILE_LINK_UP (R73): A tile's receiver sees 64 valid symbols with comma alignment and declares its link up again. -/
  | tileLinkUp (t k side : Nat)
  /-- TURNBACK_FRAME_RECEIVE (R80): A non-ENUM frame returned with TURNBACK set reaches a port and starts a reachability check. -/
  | turnbackFrameReceive (t p : Nat) (f : Frame)
  /-- TILE_RESPONSE_WINDOW_END (R85): A snapshot's response window ends on tile time and the tile sends the RESP and ALERT frames it held. -/
  | tileResponseWindowEnd (t k : Nat)
  /-- PORT_FRAME_SENT (R86): A traverse port finishes sending a frame, so the next queued SAMPLE, TSYNC or CMD departs and CMD timeouts start. -/
  | portFrameSent (t p : Nat)
  /-- FAULT_LOOP_RETURN (R102): After a loss, edges on FLx_RX meet R102 again, so TOGGLING returns to 1 and the loop condition of R340 can hold. -/
  | faultLoopReturn (t r : Nat)
  /-- PEER_LANE_UP (R372): A PEER lane comes back up, clearing PEER_DEGRADED or PEER_DOWN. -/
  | peerLaneUp (t lane : Nat)
  /-- ETH_LINK_UP (R511): An Ethernet port's link comes up, starting its crossing handshake and letting it answer Pdelay_Req. -/
  | ethLinkUp (t n : Nat)
  /-- PCIE_LINK_UP (R379): The PCIe link trains up after reset or loss, and the host path and its crossings open. -/
  | pcieLinkUp (t : Nat)
  /-- CAN_RX_ERROR (R421): A protocol error during reception raises REC and may make the controller error passive. -/
  | canRxError (t n inc : Nat)
  /-- CAN_PROTOCOL_EXCEPTION (R421): A received FD frame with a recessive res bit makes the controller wait for bus integration and count PXE. -/
  | canProtocolException (t n : Nat)
  /-- REFERENCE_MESSAGE_SENT (R437): The time master's reference slot frame is sent, setting bus time from its own start of frame and raising the cycle count. -/
  | referenceMessageSent (t n sof : Nat)
  /-- POWER_FAIL (R518): The supply fails (VDD_LS falls through its monitor) and queued Logbook events and unflushed wear counts are lost. -/
  | powerFail (t : Nat) (torn : Bool)
  /-- ACTIVATE_RAMP_TIMEOUT (R417): rs has not reached 0 within 60 s of ACTIVATE, which answers TIMEOUT with the banks unchanged. -/
  | activateRampTimeout (t : Nat)
  /-- AUTOBAUD_LIMIT (R435): The CAN_AUTOBAUD limit expires without a candidate found, so STOP is applied and the command answers TIMEOUT. -/
  | autobaudLimit (t n : Nat)
  deriving DecidableEq, Repr

end Sys2Proof
end

