-- ==== Sys2Proof/Decode.lean ====
section
/-! DEFINITION. Decoding. No row of the opcode table gives bits, so a table word spells no command; the instruction words of the Almanac program memory (Tables 5-3 and 5-4) are read and written here. -/

namespace Sys2Proof

/-- The command that a table word spells: none, since no row of the table gives bits. -/
def decodeTableWord (_nbits _w : Nat) : Option Instr := none

/-- The five formats of Table 5-3 as words. -/
def encR (op d a b c fn : Nat) : Word :=
  BitVec.ofNat 6 op ++ BitVec.ofNat 4 d ++ BitVec.ofNat 4 a ++ BitVec.ofNat 4 b ++ BitVec.ofNat 4 c ++ BitVec.ofNat 6 0 ++ BitVec.ofNat 4 fn
def encI (op d a imm : Nat) : Word := BitVec.ofNat 6 op ++ BitVec.ofNat 4 d ++ BitVec.ofNat 4 a ++ BitVec.ofNat 18 imm
def encT (cls tb b scale ofs : Nat) : Word :=
  BitVec.ofNat 3 cls ++ BitVec.ofNat 3 tb ++ BitVec.ofNat 4 b ++ BitVec.ofNat 2 scale ++ BitVec.ofNat 20 ofs
def encC (op : Nat) (tm : Bool) (d a port b sel : Nat) : Word :=
  BitVec.ofNat 6 op ++ BitVec.ofBool tm ++ BitVec.ofNat 4 d ++ BitVec.ofNat 4 a ++ BitVec.ofNat 3 port ++ BitVec.ofNat 4 b ++ BitVec.ofNat 10 sel
def encK (op a b tgt : Nat) : Word :=
  BitVec.ofNat 6 op ++ BitVec.ofNat 4 a ++ BitVec.ofNat 4 b ++ BitVec.ofNat 2 0 ++ BitVec.ofNat 16 tgt

/-- The event selector of a WAITEV in its TARGET field. -/
def waitTarget (tmo : Bool) (cls arg : Nat) : Nat := (if tmo then 0x8000 else 0) + 0x1000 * (cls % 8) + arg % 0x1000

/-- A field of an instruction word. -/
def fieldOf (x : Word) (lo len : Nat) : Nat := (x.extractLsb' lo len).toNat

/-- The instruction of the register format with FUNC fn, if assigned. -/
def decodeR (t w d a b c fn : Nat) : Option Instr :=
  if fn = 12 then some (.almClamp t w d a b c)
  else if c ≠ 0 then none
  else match fn with
    | 0 => some (.almAdd t w d a b)
    | 1 => some (.almSub t w d a b)
    | 2 => some (.almAnd t w d a b)
    | 3 => some (.almOr t w d a b)
    | 4 => some (.almXor t w d a b)
    | 5 => some (.almSll t w d a b)
    | 6 => some (.almSrl t w d a b)
    | 7 => some (.almSra t w d a b)
    | 8 => some (.almMul t w d a b)
    | 9 => some (.almMulh t w d a b)
    | 10 => some (.almMin t w d a b)
    | 11 => some (.almMax t w d a b)
    | _ => none

/-- WAITEV's event classes and arguments (Table 5-5, R147, R162). -/
def decodeWaitev (t w d tgt : Nat) : Option Instr :=
  let tmo := decide (0x8000 ≤ tgt)
  let cls := tgt / 0x1000 % 8
  let arg := tgt % 0x1000
  let ok := match cls with
    | 0 => !tmo && arg == 0
    | 1 | 2 | 3 => arg == 0
    | 4 => true
    | 5 => decide (arg < 64)
    | 6 => decide (arg < 3)
    | _ => false
  if ok then some (.almWaitev t w d tmo cls arg) else none

/-- STC by port (Table 5-7). -/
def decodeStc (t w : Nat) (tm : Bool) (d a port b sel : Nat) : Option Instr :=
  if b ≠ 0 then none
  else match port with
    | 0 =>
      if tm ∨ a ≠ 0 then none
      else if sel < 16 then some (.almStcLockAcquire t w d sel)
      else if 512 ≤ sel ∧ sel < 528 ∧ d = 0 then some (.almStcLockRelease t w (sel - 512))
      else none
    | 1 => if tm ∨ d ≠ 0 ∨ sel ≠ 0 then none else some (.almStcAwait t w a)
    | 2 | 3 | 4 => if d ≠ 0 ∨ sel ≠ 0 then none else some (.almStcCan t w tm (port - 2) a)
    | 5 => if d ≠ 0 ∨ a ≠ 0 ∨ 4 ≤ sel then none else some (.almStcPmc t w tm sel)
    | _ => none

/-- The actions of Table 5-6 with their unused fields 0. -/
def decodeAct (t w op : Nat) (tm : Bool) (d a port b sel : Nat) : Option Instr :=
  if port ≠ 0 ∨ b ≠ 0 then none
  else match op with
    | 0x21 => if tm ∨ a ≠ 0 ∨ sel ≠ 0 then none else some (.snap t w d)
    | 0x22 =>
      if d ≠ 0 ∨ 4 ≤ sel then none
      else if sel = 0 then (if a = 0 then some (.almBalStop t w tm) else none)
      else some (.almBalPhaseStart t w tm sel a)
    | 0x23 =>
      if d ≠ 0 then none
      else if sel < 16 then some (.almExcStart t w tm sel a)
      else if 512 ≤ sel ∧ sel < 528 ∧ a = 0 then some (.almExcStop t w tm (sel - 512))
      else none
    | 0x24 =>
      if d ≠ 0 then none
      else match sel with
        | 0 => some (.almSetpHosti t w tm a)
        | 1 => some (.almSetpHostv t w tm a)
        | 2 => some (.almSetpClass t w tm a)
        | _ => none
    | _ =>
      if d ≠ 0 then none
      else if sel < 64 then (if a = 0 then some (.almTrigSet t w tm sel) else none)
      else if 256 ≤ sel ∧ sel < 320 then (if a = 0 then some (.almTrigClear t w tm (sel - 256)) else none)
      else if sel = 512 then some (.almTrigMark t w tm a)
      else none

/-- POST, RING and MBX (R169 to R171): T and PORT 0. -/
def decodeMsg (t w op : Nat) (tm : Bool) (d a port b sel : Nat) : Option Instr :=
  if tm ∨ port ≠ 0 then none
  else match op with
    | 0x0D => if d = 0 then some (.almPost t w sel a b) else none
    | 0x0E => if d = 0 ∧ a = 0 ∧ b = 0 ∧ sel < 32 then some (.almRing t w sel) else none
    | _ =>
      if b ≠ 0 then none
      else if sel = 0 ∧ d = 0 then some (.almMbxSend t w a)
      else if sel = 512 ∧ a = 0 then some (.almMbxReceive t w d)
      else none

/-- The control format: RB and TARGET unused where the instruction says so. -/
def decodeK (t w op a b tgt : Nat) : Option Instr :=
  match op with
  | 0x10 => some (.almBeq t w a b tgt)
  | 0x11 => some (.almBne t w a b tgt)
  | 0x12 => some (.almBlt t w a b tgt)
  | 0x13 => some (.almBge t w a b tgt)
  | 0x14 => some (.almBltu t w a b tgt)
  | 0x15 => some (.almBgeu t w a b tgt)
  | 0x16 => if a = 0 ∧ b < 4 then some (.almBfs t w b tgt) else none
  | 0x17 => if a = 0 ∧ b < 4 then some (.almBfc t w b tgt) else none
  | 0x18 => if b = 0 then some (.almJal t w a tgt) else none
  | 0x19 => if b = 0 ∧ tgt = 0 then some (.almJr t w a) else none
  | 0x1A => if b = 0 then decodeWaitev t w a tgt else none
  | 0x1B => some (.almSpawn t w a b tgt)
  | 0x1C => if b = 0 ∧ tgt = 0 then some (.almKill t w a) else none
  | 0x1D => if a = 0 ∧ b = 0 ∧ tgt = 0 then some (.almYield t w) else none
  | 0x1E => if a = 0 ∧ b = 0 ∧ tgt = 0 then some (.almHalt t w) else none
  | 0x1F => if a = 0 ∧ b = 0 ∧ tgt = 0 then some (.almFence t w false) else none
  | _ => none

/-- The immediate format. -/
def decodeI (t w op d a imm : Nat) : Option Instr :=
  match op with
  | 0x02 => some (.almAddi t w d a imm)
  | 0x03 => some (.almAndi t w d a imm)
  | 0x04 => some (.almOri t w d a imm)
  | 0x05 => if imm < 32 then some (.almSlli t w d a imm) else none
  | 0x06 => if imm < 32 then some (.almSrli t w d a imm) else none
  | 0x07 => if imm < 32 then some (.almSrai t w d a imm) else none
  | 0x08 => if a = 0 then some (.almLui t w d imm) else none
  | 0x09 => some (.almLdw t w d a imm)
  | 0x0A => some (.almStw t w d a imm)
  | 0x0B => some (.almLds t w d a imm)
  | 0x0C =>
    if a ≠ 0 ∨ 32 ≤ imm then none
    else if imm / 8 % 2 = 1 ∧ imm % 8 ≠ 0 then none
    else some (.almRdt t w d (imm / 8) (imm % 8))
  | _ => none

/-- The instruction that a program-memory word spells for watch w at Dial instant t, if the word is assigned and its unused fields
are 0 (R147, R148). -/
def almDecode (t w : Nat) (x : Word) : Option Instr :=
  let op := fieldOf x 26 6
  if op = 1 then
    if fieldOf x 4 6 = 0 then
      decodeR t w (fieldOf x 22 4) (fieldOf x 18 4) (fieldOf x 14 4) (fieldOf x 10 4) (fieldOf x 0 4)
    else none
  else if op < 0x0D then decodeI t w op (fieldOf x 22 4) (fieldOf x 18 4) (fieldOf x 0 18)
  else if op < 0x10 then
    decodeMsg t w op (x.getLsbD 25) (fieldOf x 21 4) (fieldOf x 17 4) (fieldOf x 14 3) (fieldOf x 10 4) (fieldOf x 0 10)
  else if op < 0x20 then
    if fieldOf x 16 2 = 0 then decodeK t w op (fieldOf x 22 4) (fieldOf x 18 4) (fieldOf x 0 16) else none
  else if op = 0x20 then
    decodeStc t w (x.getLsbD 25) (fieldOf x 21 4) (fieldOf x 17 4) (fieldOf x 14 3) (fieldOf x 10 4) (fieldOf x 0 10)
  else if op < 0x26 then
    decodeAct t w op (x.getLsbD 25) (fieldOf x 21 4) (fieldOf x 17 4) (fieldOf x 14 3) (fieldOf x 10 4) (fieldOf x 0 10)
  else if op < 0x28 then none
  else
    let tb := fieldOf x 26 3
    let b := fieldOf x 22 4
    let sc := fieldOf x 20 2
    let ofs := fieldOf x 0 20
    if op < 0x30 then some (.almTcmp t w tb b sc ofs) else if op < 0x38 then some (.almAt t w tb b sc ofs) else some (.almAtr t w tb b sc ofs)

/-- The program-memory word of an Almanac instruction (Tables 5-3 to 5-7); none for a command that is no instruction. -/
def almEncode : Instr → Option Word
  | .almAdd _ _ d a b => some (encR 1 d a b 0 0)
  | .almSub _ _ d a b => some (encR 1 d a b 0 1)
  | .almAnd _ _ d a b => some (encR 1 d a b 0 2)
  | .almOr _ _ d a b => some (encR 1 d a b 0 3)
  | .almXor _ _ d a b => some (encR 1 d a b 0 4)
  | .almSll _ _ d a b => some (encR 1 d a b 0 5)
  | .almSrl _ _ d a b => some (encR 1 d a b 0 6)
  | .almSra _ _ d a b => some (encR 1 d a b 0 7)
  | .almMul _ _ d a b => some (encR 1 d a b 0 8)
  | .almMulh _ _ d a b => some (encR 1 d a b 0 9)
  | .almMin _ _ d a b => some (encR 1 d a b 0 10)
  | .almMax _ _ d a b => some (encR 1 d a b 0 11)
  | .almClamp _ _ d a b c => some (encR 1 d a b c 12)
  | .almAddi _ _ d a imm => some (encI 2 d a imm)
  | .almAndi _ _ d a imm => some (encI 3 d a imm)
  | .almOri _ _ d a imm => some (encI 4 d a imm)
  | .almSlli _ _ d a sh => some (encI 5 d a sh)
  | .almSrli _ _ d a sh => some (encI 6 d a sh)
  | .almSrai _ _ d a sh => some (encI 7 d a sh)
  | .almLui _ _ d imm => some (encI 8 d 0 imm)
  | .almLdw _ _ d a imm => some (encI 9 d a imm)
  | .almStw _ _ d a imm => some (encI 10 d a imm)
  | .almLds _ _ d a imm => some (encI 11 d a imm)
  | .almRdt _ _ d part tb => some (encI 12 d 0 (8 * (part % 4) + tb % 8))
  | .almPost _ _ sel a b => some (encC 13 false 0 a 0 b sel)
  | .almRing _ _ n => some (encC 14 false 0 0 0 0 (n % 32))
  | .almMbxSend _ _ a => some (encC 15 false 0 a 0 0 0)
  | .almMbxReceive _ _ d => some (encC 15 false d 0 0 0 512)
  | .almBeq _ _ a b tgt => some (encK 0x10 a b tgt)
  | .almBne _ _ a b tgt => some (encK 0x11 a b tgt)
  | .almBlt _ _ a b tgt => some (encK 0x12 a b tgt)
  | .almBge _ _ a b tgt => some (encK 0x13 a b tgt)
  | .almBltu _ _ a b tgt => some (encK 0x14 a b tgt)
  | .almBgeu _ _ a b tgt => some (encK 0x15 a b tgt)
  | .almBfs _ _ f tgt => some (encK 0x16 0 (f % 4) tgt)
  | .almBfc _ _ f tgt => some (encK 0x17 0 (f % 4) tgt)
  | .almJal _ _ d tgt => some (encK 0x18 d 0 tgt)
  | .almJr _ _ a => some (encK 0x19 a 0 0)
  | .almWaitev _ _ d tmo cls arg => some (encK 0x1A d 0 (waitTarget tmo cls arg))
  | .almSpawn _ _ a b tgt => some (encK 0x1B a b tgt)
  | .almKill _ _ a => some (encK 0x1C a 0 0)
  | .almYield _ _ => some (encK 0x1D 0 0 0)
  | .almHalt _ _ => some (encK 0x1E 0 0 0)
  | .almFence _ _ _ => some (encK 0x1F 0 0 0)
  | .almStcLockAcquire _ _ d n => some (encC 0x20 false d 0 0 0 (n % 16))
  | .almStcLockRelease _ _ n => some (encC 0x20 false 0 0 0 0 (512 + n % 16))
  | .almStcAwait _ _ a => some (encC 0x20 false 0 a 1 0 0)
  | .almStcCan _ _ tm n a => some (encC 0x20 tm 0 a (2 + n % 3) 0 0)
  | .almStcPmc _ _ tm c => some (encC 0x20 tm 0 0 5 0 (c % 4))
  | .snap _ _ d => some (encC 0x21 false d 0 0 0 0)
  | .almBalStop _ _ tm => some (encC 0x22 tm 0 0 0 0 0)
  | .almBalPhaseStart _ _ tm sel a => some (encC 0x22 tm 0 a 0 0 (sel % 4))
  | .almExcStart _ _ tm plan a => some (encC 0x23 tm 0 a 0 0 (plan % 16))
  | .almExcStop _ _ tm plan => some (encC 0x23 tm 0 0 0 0 (512 + plan % 16))
  | .almSetpHosti _ _ tm a => some (encC 0x24 tm 0 a 0 0 0)
  | .almSetpHostv _ _ tm a => some (encC 0x24 tm 0 a 0 0 1)
  | .almSetpClass _ _ tm a => some (encC 0x24 tm 0 a 0 0 2)
  | .almTrigSet _ _ tm f => some (encC 0x25 tm 0 0 0 0 (f % 64))
  | .almTrigClear _ _ tm f => some (encC 0x25 tm 0 0 0 0 (256 + f % 64))
  | .almTrigMark _ _ tm a => some (encC 0x25 tm 0 a 0 0 512)
  | .almTcmp _ _ tb b sc ofs => some (encT 5 tb b sc ofs)
  | .almAt _ _ tb b sc ofs => some (encT 6 tb b sc ofs)
  | .almAtr _ _ tb b sc ofs => some (encT 7 tb b sc ofs)
  | _ => none

end Sys2Proof
end

