-- ==== Sys2Proof/Machine/Bits.lean ====
section
/-! DEFINITION. Bit fields, sign extension, byte order, saturation and the CRCs the chapters name. -/

namespace Sys2Proof.Machine

/-- The word with ones in the len bits from bit lo. -/
def fieldMask (lo len : Nat) : Word := (BitVec.allOnes len).setWidth 32 <<< lo

/-- The field of len bits from bit lo, unsigned. -/
def getBits (w : Word) (lo len : Nat) : Nat := (w.extractLsb' lo len).toNat

/-- The word with v, modulo its width, in the field of len bits from bit lo. -/
def setBits (w : Word) (lo len v : Nat) : Word :=
  (w &&& ~~~ fieldMask lo len) ||| ((BitVec.ofNat len v).setWidth 32 <<< lo)

/-- The field of len bits from bit lo, two's complement. -/
def getBitsS (w : Word) (lo len : Nat) : Int := (w.extractLsb' lo len).toInt

/-- A Bool as a one-bit number. -/
def b2n (b : Bool) : Nat := if b then 1 else 0

/-- A Nat as a word, wrapping. -/
def nw (n : Nat) : Word := BitVec.ofNat 32 n

/-- An Int as a word, two's complement, wrapping. -/
def iw (n : Int) : Word := BitVec.ofInt 32 n

/-- The low n bits of v read as a two's complement number. -/
def signed (n v : Nat) : Int := (BitVec.ofNat n v).toInt

/-- The signed 32-bit difference by which epoch numbers and record indices compare (R23, R481). -/
def seqDiff (a b : Word) : Int := (a - b).toInt

/-- v held within lo and hi. -/
def clampI (lo hi v : Int) : Int := if v < lo then lo else if hi < v then hi else v

/-- v held within lo and hi. -/
def clampN (lo hi v : Nat) : Nat := if v < lo then lo else if hi < v then hi else v

/-- Division rounding to nearest, halves away from zero. -/
def divRound (a : Int) (b : Nat) : Int :=
  if 0 ≤ a then (2 * a + b) / (2 * b) else - ((2 * (-a) + b) / (2 * b))

/-- The four bytes of a word, least significant first. -/
def wordBytes (w : Word) : List Nat := [getBits w 0 8, getBits w 8 8, getBits w 16 8, getBits w 24 8]

/-- The bytes of a list of words, each least significant byte first. -/
def wordsBytes (ws : List Word) : List Nat := ws.flatMap wordBytes

/-- A word from up to four bytes, least significant first. -/
def bytesWord : List Nat → Word
  | [] => 0
  | [a] => nw (a % 256)
  | [a, b] => nw (a % 256 + 0x100 * (b % 256))
  | [a, b, c] => nw (a % 256 + 0x100 * (b % 256) + 0x10000 * (c % 256))
  | a :: b :: c :: d :: _ => nw (a % 256 + 0x100 * (b % 256) + 0x10000 * (c % 256) + 0x1000000 * (d % 256))

/-- One bit of a reflected CRC-32C (Castagnoli, 0x82F63B78). -/
def crc32cBit (c : Word) : Word := if c.getLsbD 0 then (c >>> 1) ^^^ 0x82F63B78#32 else c >>> 1

/-- One byte into a CRC-32C. -/
def crc32cByte (c : Word) (b : Nat) : Word :=
  let x := c ^^^ nw (b % 256)
  crc32cBit (crc32cBit (crc32cBit (crc32cBit (crc32cBit (crc32cBit (crc32cBit (crc32cBit x)))))))

/-- CRC-32C of a list of bytes: initial value and final XOR of all ones. -/
def crc32c (bs : List Nat) : Word := ~~~ (bs.foldl crc32cByte 0xFFFFFFFF#32)

/-- One bit of CRC-16 with polynomial 0x1021 (R99). -/
def crc16Bit (c : BitVec 16) : BitVec 16 := if c.getLsbD 15 then (c <<< 1) ^^^ 0x1021#16 else c <<< 1

/-- One byte into that CRC-16, most significant bit first. -/
def crc16Byte (c : BitVec 16) (b : Nat) : BitVec 16 :=
  let x := c ^^^ (BitVec.ofNat 16 (b % 256) <<< 8)
  crc16Bit (crc16Bit (crc16Bit (crc16Bit (crc16Bit (crc16Bit (crc16Bit (crc16Bit x)))))))

/-- CRC-16 with polynomial 0x1021 and initial value 0xFFFF of a list of bytes (R99). -/
def crc16 (bs : List Nat) : BitVec 16 := bs.foldl crc16Byte 0xFFFF#16

/-- The positions of the ones among bits 0 to n - 1 of a mask, lowest first. -/
def onesBelow (n : Nat) (m : Nat) : List Nat := (List.range n).filter fun k => m.testBit k

/-- How many ones stand among bits 0 to n - 1. -/
def popCount (n m : Nat) : Nat := (onesBelow n m).length

/-- The integer square root of n, by bisection over k bits. -/
def isqrtBits (n : Nat) : Nat → Nat → Nat
  | 0, r => r
  | k + 1, r => if (r + 2 ^ k) * (r + 2 ^ k) ≤ n then isqrtBits n k (r + 2 ^ k) else isqrtBits n k r

end Sys2Proof.Machine
end

