-- ==== Sys2Proof/Machine/Regs.lean ====
section
/-! DEFINITION. The register names, offsets, fields, access masks and reset values of Table 24-2 (R543), as the register headers and field tables of each chapter give them. -/

namespace Sys2Proof.Machine

/-- A bit field of a register: the register's key and the field's highest and lowest bit. -/
structure Fld where
  reg : Nat
  hi : Nat
  lo : Nat
  deriving DecidableEq, Repr

/-- One row of the register index (Table 24-2): up to two dimensions of instances, the reset value, the bits that are
RW and the bits that are W1C (Table 0-3); every other bit is RO, WO or W1P and is never stored by a plain write. -/
structure RegRow where
  base : Nat
  n1 : Nat
  s1 : Nat
  n2 : Nat
  s2 : Nat
  reset : Word
  rw : Word
  w1c : Word
  perMaster : Bool
  deriving DecidableEq, Repr

/-- SYS_DEVID (00_scope.md). -/
abbrev Reg.SYS_DEVID : Nat := 0x0
/-- SYS_EPOCHCTL (01_architecture.md). -/
abbrev Reg.SYS_EPOCHCTL : Nat := 0x40
/-- SYS_EPOCHNUM (01_architecture.md). -/
abbrev Reg.SYS_EPOCHNUM : Nat := 0x44
/-- SYS_EPOCHSTS (01_architecture.md). -/
abbrev Reg.SYS_EPOCHSTS : Nat := 0x48
/-- SYS_STALECNT (01_architecture.md). -/
abbrev Reg.SYS_STALECNT : Nat := 0x4C
/-- SYS_AWAIT, 5 instances (01_architecture.md). -/
abbrev Reg.SYS_AWAIT (i : Nat) : Nat := 0x50 + 0x4 * (i % 5)
/-- SYS_PROFILE (01_architecture.md). -/
abbrev Reg.SYS_PROFILE : Nat := 0x80
/-- SYS_LOCK, 16 instances (01_architecture.md). -/
abbrev Reg.SYS_LOCK (i : Nat) : Nat := 0x100 + 0x4 * (i % 16)
/-- SYS_LOCKREL (01_architecture.md). -/
abbrev Reg.SYS_LOCKREL : Nat := 0x140
/-- SYS_LOCKSTAT (01_architecture.md). -/
abbrev Reg.SYS_LOCKSTAT : Nat := 0x144
/-- TIME_DIAL_LO (02_time.md). -/
abbrev Reg.TIME_DIAL_LO : Nat := 0x2000
/-- TIME_DIAL_HI (02_time.md). -/
abbrev Reg.TIME_DIAL_HI : Nat := 0x2004
/-- TIME_MER_NS (02_time.md). -/
abbrev Reg.TIME_MER_NS : Nat := 0x2008
/-- TIME_MER_SLO (02_time.md). -/
abbrev Reg.TIME_MER_SLO : Nat := 0x200C
/-- TIME_MER_SHI (02_time.md). -/
abbrev Reg.TIME_MER_SHI : Nat := 0x2010
/-- TIME_RATE (02_time.md). -/
abbrev Reg.TIME_RATE : Nat := 0x2014
/-- TIME_PTPCTL (02_time.md). -/
abbrev Reg.TIME_PTPCTL : Nat := 0x2020
/-- TIME_PTPSTS (02_time.md). -/
abbrev Reg.TIME_PTPSTS : Nat := 0x2024
/-- TIME_OFFSET (02_time.md). -/
abbrev Reg.TIME_OFFSET : Nat := 0x2028
/-- TIME_UNCERT (02_time.md). -/
abbrev Reg.TIME_UNCERT : Nat := 0x202C
/-- TIME_UNCERTLIM (02_time.md). -/
abbrev Reg.TIME_UNCERTLIM : Nat := 0x2030
/-- TIME_STEPTHR (02_time.md). -/
abbrev Reg.TIME_STEPTHR : Nat := 0x2034
/-- TIME_CAL_LO (02_time.md). -/
abbrev Reg.TIME_CAL_LO : Nat := 0x2040
/-- TIME_CAL_HI (02_time.md). -/
abbrev Reg.TIME_CAL_HI : Nat := 0x2044
/-- TIME_CALCTL (02_time.md). -/
abbrev Reg.TIME_CALCTL : Nat := 0x2048
/-- TIME_CARRIER (02_time.md). -/
abbrev Reg.TIME_CARRIER : Nat := 0x2050
/-- TRV_CTL (03_traverse.md). -/
abbrev Reg.TRV_CTL : Nat := 0x4000
/-- TRV_RINGSTS, 4 instances (03_traverse.md). -/
abbrev Reg.TRV_RINGSTS (i : Nat) : Nat := 0x4010 + 0x4 * (i % 4)
/-- TRV_PORTSTS, 8 instances (03_traverse.md). -/
abbrev Reg.TRV_PORTSTS (i : Nat) : Nat := 0x4020 + 0x4 * (i % 8)
/-- TRV_SLOTCFG (03_traverse.md). -/
abbrev Reg.TRV_SLOTCFG : Nat := 0x4040
/-- TRV_FLSTS (03_traverse.md). -/
abbrev Reg.TRV_FLSTS : Nat := 0x4044
/-- TRV_HOPDLY, 96 instances (03_traverse.md). -/
abbrev Reg.TRV_HOPDLY (i : Nat) : Nat := 0x4100 + 0x4 * (i % 96)
/-- ACQ_CTL (04_acquisition.md). -/
abbrev Reg.ACQ_CTL : Nat := 0x6000
/-- ACQ_STS (04_acquisition.md). -/
abbrev Reg.ACQ_STS : Nat := 0x6004
/-- ACQ_SNAPSTS (04_acquisition.md). -/
abbrev Reg.ACQ_SNAPSTS : Nat := 0x6008
/-- ACQ_CAP (04_acquisition.md). -/
abbrev Reg.ACQ_CAP : Nat := 0x600C
/-- ACQ_MODCFG (04_acquisition.md). -/
abbrev Reg.ACQ_MODCFG : Nat := 0x6010
/-- ACQ_MODDLY, 2 instances (04_acquisition.md). -/
abbrev Reg.ACQ_MODDLY (i : Nat) : Nat := 0x6014 + 0x4 * (i % 2)
/-- ACQ_MODGAIN, 2 instances (04_acquisition.md). -/
abbrev Reg.ACQ_MODGAIN (i : Nat) : Nat := 0x6020 + 0x8 * (i % 2)
/-- ACQ_MODOFS, 2 instances (04_acquisition.md). -/
abbrev Reg.ACQ_MODOFS (i : Nat) : Nat := 0x6024 + 0x8 * (i % 2)
/-- ACQ_CURTOL (04_acquisition.md). -/
abbrev Reg.ACQ_CURTOL : Nat := 0x6030
/-- ACQ_SUMCFG (04_acquisition.md). -/
abbrev Reg.ACQ_SUMCFG : Nat := 0x6034
/-- ACQ_PLCFG (04_acquisition.md). -/
abbrev Reg.ACQ_PLCFG : Nat := 0x6038
/-- ACQ_OWCFG (04_acquisition.md). -/
abbrev Reg.ACQ_OWCFG : Nat := 0x603C
/-- ACQ_OWCMD (04_acquisition.md). -/
abbrev Reg.ACQ_OWCMD : Nat := 0x6040
/-- ACQ_TILECFG, 48 instances (04_acquisition.md). -/
abbrev Reg.ACQ_TILECFG (i : Nat) : Nat := 0x6100 + 0x4 * (i % 48)
/-- ACQ_TMAP, 48 instances (04_acquisition.md). -/
abbrev Reg.ACQ_TMAP (i : Nat) : Nat := 0x6200 + 0x4 * (i % 48)
/-- ACQ_OWSUS, 48 instances (04_acquisition.md). -/
abbrev Reg.ACQ_OWSUS (i : Nat) : Nat := 0x6300 + 0x4 * (i % 48)
/-- ACQ_OWCNF, 48 instances (04_acquisition.md). -/
abbrev Reg.ACQ_OWCNF (i : Nat) : Nat := 0x6400 + 0x4 * (i % 48)
/-- ALM_CTL (06_almanac_programs.md). -/
abbrev Reg.ALM_CTL : Nat := 0x8000
/-- ALM_START (06_almanac_programs.md). -/
abbrev Reg.ALM_START : Nat := 0x8004
/-- ALM_PMLEN (06_almanac_programs.md). -/
abbrev Reg.ALM_PMLEN : Nat := 0x8008
/-- ALM_PMEXP (06_almanac_programs.md). -/
abbrev Reg.ALM_PMEXP : Nat := 0x800C
/-- ALM_PMCRC (06_almanac_programs.md). -/
abbrev Reg.ALM_PMCRC : Nat := 0x8010
/-- ALM_PMPAGE (06_almanac_programs.md). -/
abbrev Reg.ALM_PMPAGE : Nat := 0x8014
/-- ALM_STS (06_almanac_programs.md). -/
abbrev Reg.ALM_STS : Nat := 0x8020
/-- ALM_FAULT (06_almanac_programs.md). -/
abbrev Reg.ALM_FAULT : Nat := 0x8024
/-- ALM_CANCNT (06_almanac_programs.md). -/
abbrev Reg.ALM_CANCNT : Nat := 0x8028
/-- ALM_PIPES (06_almanac_programs.md). -/
abbrev Reg.ALM_PIPES : Nat := 0x802C
/-- ALM_LATE, 2 instances (06_almanac_programs.md). -/
abbrev Reg.ALM_LATE (i : Nat) : Nat := 0x8030 + 0x4 * (i % 2)
/-- ALM_EVSTS, 2 instances (06_almanac_programs.md). -/
abbrev Reg.ALM_EVSTS (i : Nat) : Nat := 0x8040 + 0x4 * (i % 2)
/-- ALM_EVSET, 2 instances (06_almanac_programs.md). -/
abbrev Reg.ALM_EVSET (i : Nat) : Nat := 0x8048 + 0x4 * (i % 2)
/-- ALM_EVCLR, 2 instances (06_almanac_programs.md). -/
abbrev Reg.ALM_EVCLR (i : Nat) : Nat := 0x8050 + 0x4 * (i % 2)
/-- ALM_WATCH, 64 instances (06_almanac_programs.md). -/
abbrev Reg.ALM_WATCH (i : Nat) : Nat := 0x8100 + 0x4 * (i % 64)
/-- SXT_CTL (07_sextant.md). -/
abbrev Reg.SXT_CTL : Nat := 0xA000
/-- SXT_STS (07_sextant.md). -/
abbrev Reg.SXT_STS : Nat := 0xA004
/-- SXT_SCHED (07_sextant.md). -/
abbrev Reg.SXT_SCHED : Nat := 0xA008
/-- SXT_LANES (07_sextant.md). -/
abbrev Reg.SXT_LANES : Nat := 0xA00C
/-- SXT_WIN (07_sextant.md). -/
abbrev Reg.SXT_WIN : Nat := 0xA010
/-- SXT_DESCERR (07_sextant.md). -/
abbrev Reg.SXT_DESCERR : Nat := 0xA014
/-- SXT_NUMCNT (07_sextant.md). -/
abbrev Reg.SXT_NUMCNT : Nat := 0xA018
/-- SXT_LATECNT (07_sextant.md). -/
abbrev Reg.SXT_LATECNT : Nat := 0xA01C
/-- SXT_REINIT (07_sextant.md). -/
abbrev Reg.SXT_REINIT : Nat := 0xA020
/-- SXT_LRNCTL (08_learning.md). -/
abbrev Reg.SXT_LRNCTL : Nat := 0xA040
/-- SXT_LRNSTS (08_learning.md). -/
abbrev Reg.SXT_LRNSTS : Nat := 0xA044
/-- SXT_LRNCFG (08_learning.md). -/
abbrev Reg.SXT_LRNCFG : Nat := 0xA048
/-- SXT_LRNV, 4 instances (08_learning.md). -/
abbrev Reg.SXT_LRNV (i : Nat) : Nat := 0xA050 + 0x4 * (i % 4)
/-- SXT_LRNSPAN, 4 instances (08_learning.md). -/
abbrev Reg.SXT_LRNSPAN (i : Nat) : Nat := 0xA060 + 0x4 * (i % 4)
/-- SXT_LRNSEQ (08_learning.md). -/
abbrev Reg.SXT_LRNSEQ : Nat := 0xA070
/-- SXT_LRNCNT (08_learning.md). -/
abbrev Reg.SXT_LRNCNT : Nat := 0xA074
/-- AZM_CTL (09_azimuth.md). -/
abbrev Reg.AZM_CTL : Nat := 0xC000
/-- AZM_STS (09_azimuth.md). -/
abbrev Reg.AZM_STS : Nat := 0xC004
/-- AZM_EXCSTS (09_azimuth.md). -/
abbrev Reg.AZM_EXCSTS : Nat := 0xC008
/-- AZM_CNT (09_azimuth.md). -/
abbrev Reg.AZM_CNT : Nat := 0xC00C
/-- AZM_PLANERR (09_azimuth.md). -/
abbrev Reg.AZM_PLANERR : Nat := 0xC010
/-- AZM_TCFG (09_azimuth.md). -/
abbrev Reg.AZM_TCFG : Nat := 0xC014
/-- AZM_PTHR (09_azimuth.md). -/
abbrev Reg.AZM_PTHR : Nat := 0xC018
/-- AZM_CALA, 4 instances (09_azimuth.md). -/
abbrev Reg.AZM_CALA (i : Nat) : Nat := 0xC020 + 0x8 * (i % 4)
/-- AZM_CALB, 4 instances (09_azimuth.md). -/
abbrev Reg.AZM_CALB (i : Nat) : Nat := 0xC024 + 0x8 * (i % 4)
/-- AZM_TCAL, 4 by 8 instances (09_azimuth.md). -/
abbrev Reg.AZM_TCAL (i j : Nat) : Nat := 0xC040 + 0x20 * (i % 4) + 0x4 * (j % 8)
/-- AZM_PLAN_HDR, 16 instances (09_azimuth.md). -/
abbrev Reg.AZM_PLAN_HDR (i : Nat) : Nat := 0xC100 + 0x40 * (i % 16)
/-- AZM_PLAN_T, 16 by 8 instances (09_azimuth.md). -/
abbrev Reg.AZM_PLAN_T (i j : Nat) : Nat := 0xC120 + 0x40 * (i % 16) + 0x4 * (j % 8)
/-- BAL_CTL (10_balancing.md). -/
abbrev Reg.BAL_CTL : Nat := 0xD000
/-- BAL_STS (10_balancing.md). -/
abbrev Reg.BAL_STS : Nat := 0xD004
/-- BAL_CFG (10_balancing.md). -/
abbrev Reg.BAL_CFG : Nat := 0xD008
/-- BAL_THR (10_balancing.md). -/
abbrev Reg.BAL_THR : Nat := 0xD00C
/-- BAL_TDER (10_balancing.md). -/
abbrev Reg.BAL_TDER : Nat := 0xD010
/-- BAL_MODE (10_balancing.md). -/
abbrev Reg.BAL_MODE : Nat := 0xD014
/-- BAL_RWINIT (10_balancing.md). -/
abbrev Reg.BAL_RWINIT : Nat := 0xD018
/-- BAL_MAN, 48 instances (10_balancing.md). -/
abbrev Reg.BAL_MAN (i : Nat) : Nat := 0xD100 + 0x4 * (i % 48)
/-- BAL_TILE, 48 instances (10_balancing.md). -/
abbrev Reg.BAL_TILE (i : Nat) : Nat := 0xD200 + 0x4 * (i % 48)
/-- BAL_RW, 816 instances (10_balancing.md). -/
abbrev Reg.BAL_RW (i : Nat) : Nat := 0xD300 + 0x4 * (i % 816)
/-- HLM_CTL (11_helm.md). -/
abbrev Reg.HLM_CTL : Nat := 0xE000
/-- HLM_STS (11_helm.md). -/
abbrev Reg.HLM_STS : Nat := 0xE004
/-- HLM_CARRIER (11_helm.md). -/
abbrev Reg.HLM_CARRIER : Nat := 0xE008
/-- HLM_LEGS (11_helm.md). -/
abbrev Reg.HLM_LEGS : Nat := 0xE00C
/-- HLM_DLIM (11_helm.md). -/
abbrev Reg.HLM_DLIM : Nat := 0xE010
/-- HLM_SLEW (11_helm.md). -/
abbrev Reg.HLM_SLEW : Nat := 0xE014
/-- HLM_IMAG (11_helm.md). -/
abbrev Reg.HLM_IMAG : Nat := 0xE018
/-- HLM_IRATED (11_helm.md). -/
abbrev Reg.HLM_IRATED : Nat := 0xE01C
/-- HLM_HOSTI (11_helm.md). -/
abbrev Reg.HLM_HOSTI : Nat := 0xE020
/-- HLM_HOSTV (11_helm.md). -/
abbrev Reg.HLM_HOSTV : Nat := 0xE024
/-- HLM_RECON (11_helm.md). -/
abbrev Reg.HLM_RECON : Nat := 0xE028
/-- HLM_RCTGT (11_helm.md). -/
abbrev Reg.HLM_RCTGT : Nat := 0xE02C
/-- HLM_DSPCFG (11_helm.md). -/
abbrev Reg.HLM_DSPCFG : Nat := 0xE030
/-- HLM_DSPK (11_helm.md). -/
abbrev Reg.HLM_DSPK : Nat := 0xE034
/-- HLM_DSPX0 (11_helm.md). -/
abbrev Reg.HLM_DSPX0 : Nat := 0xE038
/-- HLM_COEFCNT (11_helm.md). -/
abbrev Reg.HLM_COEFCNT : Nat := 0xE03C
/-- HLM_KP (11_helm.md). -/
abbrev Reg.HLM_KP : Nat := 0xE040
/-- HLM_KI (11_helm.md). -/
abbrev Reg.HLM_KI : Nat := 0xE044
/-- HLM_BW (11_helm.md). -/
abbrev Reg.HLM_BW : Nat := 0xE048
/-- HLM_KFF0 (11_helm.md). -/
abbrev Reg.HLM_KFF0 : Nat := 0xE04C
/-- HLM_KFF1 (11_helm.md). -/
abbrev Reg.HLM_KFF1 : Nat := 0xE050
/-- HLM_KSH (11_helm.md). -/
abbrev Reg.HLM_KSH : Nat := 0xE054
/-- HLM_KPV (11_helm.md). -/
abbrev Reg.HLM_KPV : Nat := 0xE058
/-- HLM_KIV (11_helm.md). -/
abbrev Reg.HLM_KIV : Nat := 0xE05C
/-- HLM_IREF (11_helm.md). -/
abbrev Reg.HLM_IREF : Nat := 0xE060
/-- HLM_IOUT (11_helm.md). -/
abbrev Reg.HLM_IOUT : Nat := 0xE064
/-- HLM_IMEAS (11_helm.md). -/
abbrev Reg.HLM_IMEAS : Nat := 0xE068
/-- HLM_VSTR (11_helm.md). -/
abbrev Reg.HLM_VSTR : Nat := 0xE06C
/-- HLM_VLINK (11_helm.md). -/
abbrev Reg.HLM_VLINK : Nat := 0xE070
/-- HLM_DUTY (11_helm.md). -/
abbrev Reg.HLM_DUTY : Nat := 0xE074
/-- HLM_NSAMP (11_helm.md). -/
abbrev Reg.HLM_NSAMP : Nat := 0xE078
/-- HLM_AGAIN, 11 instances (11_helm.md). -/
abbrev Reg.HLM_AGAIN (i : Nat) : Nat := 0xE080 + 0x4 * (i % 11)
/-- HLM_AOFS, 11 instances (11_helm.md). -/
abbrev Reg.HLM_AOFS (i : Nat) : Nat := 0xE0B0 + 0x4 * (i % 11)
/-- DSP_CTL (12_dispatch.md). -/
abbrev Reg.DSP_CTL : Nat := 0xF000
/-- DSP_STS (12_dispatch.md). -/
abbrev Reg.DSP_STS : Nat := 0xF004
/-- DSP_CFG (12_dispatch.md). -/
abbrev Reg.DSP_CFG : Nat := 0xF008
/-- DSP_THOT (12_dispatch.md). -/
abbrev Reg.DSP_THOT : Nat := 0xF00C
/-- DSP_TCOLD (12_dispatch.md). -/
abbrev Reg.DSP_TCOLD : Nat := 0xF010
/-- DSP_SWLIMD (12_dispatch.md). -/
abbrev Reg.DSP_SWLIMD : Nat := 0xF014
/-- DSP_SWLIMC (12_dispatch.md). -/
abbrev Reg.DSP_SWLIMC : Nat := 0xF018
/-- DSP_ILIMD (12_dispatch.md). -/
abbrev Reg.DSP_ILIMD : Nat := 0xF01C
/-- DSP_ILIMC (12_dispatch.md). -/
abbrev Reg.DSP_ILIMC : Nat := 0xF020
/-- DSP_SHORT (12_dispatch.md). -/
abbrev Reg.DSP_SHORT : Nat := 0xF024
/-- DSP_CONFLCNT (12_dispatch.md). -/
abbrev Reg.DSP_CONFLCNT : Nat := 0xF028
/-- DSP_AVID (12_dispatch.md). -/
abbrev Reg.DSP_AVID : Nat := 0xF02C
/-- DSP_HVID (12_dispatch.md). -/
abbrev Reg.DSP_HVID : Nat := 0xF068
/-- DSP_HVSTID (12_dispatch.md). -/
abbrev Reg.DSP_HVSTID : Nat := 0xF06C
/-- DSP_COOLFREQ (12_dispatch.md). -/
abbrev Reg.DSP_COOLFREQ : Nat := 0xF030
/-- DSP_COOLCFG, 4 instances (12_dispatch.md). -/
abbrev Reg.DSP_COOLCFG (i : Nat) : Nat := 0xF040 + 0x4 * (i % 4)
/-- DSP_COOLCRV, 4 instances (12_dispatch.md). -/
abbrev Reg.DSP_COOLCRV (i : Nat) : Nat := 0xF050 + 0x4 * (i % 4)
/-- DSP_COOLMAN (12_dispatch.md). -/
abbrev Reg.DSP_COOLMAN : Nat := 0xF060
/-- DSP_COOLDUTY (12_dispatch.md). -/
abbrev Reg.DSP_COOLDUTY : Nat := 0xF064
/-- DSP_HVCFG (12_dispatch.md). -/
abbrev Reg.DSP_HVCFG : Nat := 0xF070
/-- LDS_SEAL (13_safety_functions.md). -/
abbrev Reg.LDS_SEAL : Nat := 0x10000
/-- LDS_SEALNOW (13_safety_functions.md). -/
abbrev Reg.LDS_SEALNOW : Nat := 0x10004
/-- LDS_CFG (13_safety_functions.md). -/
abbrev Reg.LDS_CFG : Nat := 0x10008
/-- LDS_TRIP (13_safety_functions.md). -/
abbrev Reg.LDS_TRIP : Nat := 0x1000C
/-- LDS_DRM (13_safety_functions.md). -/
abbrev Reg.LDS_DRM : Nat := 0x10010
/-- LDS_INSTS (14_safety_io.md). -/
abbrev Reg.LDS_INSTS : Nat := 0x10014
/-- LDS_INRAW (14_safety_io.md). -/
abbrev Reg.LDS_INRAW : Nat := 0x10018
/-- LDS_OUT, 4 instances (14_safety_io.md). -/
abbrev Reg.LDS_OUT (i : Nat) : Nat := 0x10020 + 0x4 * (i % 4)
/-- BIN_OUTREQ (14_safety_io.md). -/
abbrev Reg.BIN_OUTREQ : Nat := 0x11000
/-- BIN_STS (14_safety_io.md). -/
abbrev Reg.BIN_STS : Nat := 0x11004
/-- BIN_VLIM (14_safety_io.md). -/
abbrev Reg.BIN_VLIM : Nat := 0x11008
/-- BIN_ISO (14_safety_io.md). -/
abbrev Reg.BIN_ISO : Nat := 0x1100C
/-- RDN_CTL (15_redundancy.md). -/
abbrev Reg.RDN_CTL : Nat := 0x12000
/-- RDN_STS (15_redundancy.md). -/
abbrev Reg.RDN_STS : Nat := 0x12004
/-- RDN_MIREPOCH (15_redundancy.md). -/
abbrev Reg.RDN_MIREPOCH : Nat := 0x12008
/-- RDN_PEEREPOCH (15_redundancy.md). -/
abbrev Reg.RDN_PEEREPOCH : Nat := 0x1200C
/-- RDN_PEEROFS_LO (15_redundancy.md). -/
abbrev Reg.RDN_PEEROFS_LO : Nat := 0x12010
/-- RDN_PEEROFS_HI (15_redundancy.md). -/
abbrev Reg.RDN_PEEROFS_HI : Nat := 0x12014
/-- RDN_CNT (15_redundancy.md). -/
abbrev Reg.RDN_CNT : Nat := 0x12018
/-- RDN_DIGEST (15_redundancy.md). -/
abbrev Reg.RDN_DIGEST : Nat := 0x1201C
/-- RDN_PEERDIGEST (15_redundancy.md). -/
abbrev Reg.RDN_PEERDIGEST : Nat := 0x12020
/-- RDN_MIRTIME (15_redundancy.md). -/
abbrev Reg.RDN_MIRTIME : Nat := 0x12024
/-- HOST_STS (16_host_interface.md). -/
abbrev Reg.HOST_STS : Nat := 0x3000
/-- HOST_IRQSTS (16_host_interface.md). -/
abbrev Reg.HOST_IRQSTS : Nat := 0x3004
/-- HOST_IRQEN (16_host_interface.md). -/
abbrev Reg.HOST_IRQEN : Nat := 0x3008
/-- HOST_MBXSTS (16_host_interface.md). -/
abbrev Reg.HOST_MBXSTS : Nat := 0x300C
/-- HOST_H2DMBX, 4 instances (16_host_interface.md). -/
abbrev Reg.HOST_H2DMBX (i : Nat) : Nat := 0x3010 + 0x4 * (i % 4)
/-- HOST_D2HMBX, 4 instances (16_host_interface.md). -/
abbrev Reg.HOST_D2HMBX (i : Nat) : Nat := 0x3020 + 0x4 * (i % 4)
/-- HOST_D2HEMPTY (16_host_interface.md). -/
abbrev Reg.HOST_D2HEMPTY : Nat := 0x3030
/-- HOST_DBIN (16_host_interface.md). -/
abbrev Reg.HOST_DBIN : Nat := 0x3040
/-- HOST_DBINMASK (16_host_interface.md). -/
abbrev Reg.HOST_DBINMASK : Nat := 0x3044
/-- HOST_DBOUT (16_host_interface.md). -/
abbrev Reg.HOST_DBOUT : Nat := 0x3048
/-- HOST_CMDPI (16_host_interface.md). -/
abbrev Reg.HOST_CMDPI : Nat := 0x3050
/-- HOST_CMDCI (16_host_interface.md). -/
abbrev Reg.HOST_CMDCI : Nat := 0x3054
/-- HOST_RSPPI (16_host_interface.md). -/
abbrev Reg.HOST_RSPPI : Nat := 0x3058
/-- HOST_RSPCI (16_host_interface.md). -/
abbrev Reg.HOST_RSPCI : Nat := 0x305C
/-- HOST_POSTPI (16_host_interface.md). -/
abbrev Reg.HOST_POSTPI : Nat := 0x3060
/-- HOST_POSTCI (16_host_interface.md). -/
abbrev Reg.HOST_POSTCI : Nat := 0x3064
/-- HOST_UDPSTS (16_host_interface.md). -/
abbrev Reg.HOST_UDPSTS : Nat := 0x3070
/-- CAN_CTL, 3 instances (18_can_fd.md). -/
abbrev Reg.CAN_CTL (i : Nat) : Nat := 0x13000 + 0x400 * (i % 3)
/-- CAN_STS, 3 instances (18_can_fd.md). -/
abbrev Reg.CAN_STS (i : Nat) : Nat := 0x13004 + 0x400 * (i % 3)
/-- CAN_NBT, 3 instances (18_can_fd.md). -/
abbrev Reg.CAN_NBT (i : Nat) : Nat := 0x13008 + 0x400 * (i % 3)
/-- CAN_DBT, 3 instances (18_can_fd.md). -/
abbrev Reg.CAN_DBT (i : Nat) : Nat := 0x1300C + 0x400 * (i % 3)
/-- CAN_TDC, 3 instances (18_can_fd.md). -/
abbrev Reg.CAN_TDC (i : Nat) : Nat := 0x13010 + 0x400 * (i % 3)
/-- CAN_ERR, 3 instances (18_can_fd.md). -/
abbrev Reg.CAN_ERR (i : Nat) : Nat := 0x13014 + 0x400 * (i % 3)
/-- CAN_TQSTS, 3 instances (18_can_fd.md). -/
abbrev Reg.CAN_TQSTS (i : Nat) : Nat := 0x13018 + 0x400 * (i % 3)
/-- CAN_TXCNT, 3 instances (18_can_fd.md). -/
abbrev Reg.CAN_TXCNT (i : Nat) : Nat := 0x1301C + 0x400 * (i % 3)
/-- CAN_RXCNT, 3 instances (18_can_fd.md). -/
abbrev Reg.CAN_RXCNT (i : Nat) : Nat := 0x13020 + 0x400 * (i % 3)
/-- CAN_TXFAIL, 3 instances (18_can_fd.md). -/
abbrev Reg.CAN_TXFAIL (i : Nat) : Nat := 0x13024 + 0x400 * (i % 3)
/-- CAN_TXBUF, 3 by 18 instances (18_can_fd.md). -/
abbrev Reg.CAN_TXBUF (i j : Nat) : Nat := 0x13080 + 0x400 * (i % 3) + 0x4 * (j % 18)
/-- CAN_TXGO, 3 instances (18_can_fd.md). -/
abbrev Reg.CAN_TXGO (i : Nat) : Nat := 0x130D0 + 0x400 * (i % 3)
/-- CAN_TXCAN, 3 instances (18_can_fd.md). -/
abbrev Reg.CAN_TXCAN (i : Nat) : Nat := 0x130D4 + 0x400 * (i % 3)
/-- CAN_TXRES, 3 instances (18_can_fd.md). -/
abbrev Reg.CAN_TXRES (i : Nat) : Nat := 0x130D8 + 0x400 * (i % 3)
/-- CAN_RXFULL, 3 by 2 instances (18_can_fd.md). -/
abbrev Reg.CAN_RXFULL (i j : Nat) : Nat := 0x130E0 + 0x400 * (i % 3) + 0x4 * (j % 2)
/-- CAN_RXOVR, 3 by 2 instances (18_can_fd.md). -/
abbrev Reg.CAN_RXOVR (i j : Nat) : Nat := 0x130E8 + 0x400 * (i % 3) + 0x4 * (j % 2)
/-- CAN_RXREL, 3 instances (18_can_fd.md). -/
abbrev Reg.CAN_RXREL (i : Nat) : Nat := 0x130F0 + 0x400 * (i % 3)
/-- CAN_RXSEL, 3 instances (18_can_fd.md). -/
abbrev Reg.CAN_RXSEL (i : Nat) : Nat := 0x130F4 + 0x400 * (i % 3)
/-- CAN_RXBUF, 3 by 20 instances (18_can_fd.md). -/
abbrev Reg.CAN_RXBUF (i j : Nat) : Nat := 0x13100 + 0x400 * (i % 3) + 0x4 * (j % 20)
/-- CAN_ABCTL, 3 instances (18_can_fd.md). -/
abbrev Reg.CAN_ABCTL (i : Nat) : Nat := 0x13160 + 0x400 * (i % 3)
/-- CAN_ABCAND, 3 by 8 instances (18_can_fd.md). -/
abbrev Reg.CAN_ABCAND (i j : Nat) : Nat := 0x13180 + 0x400 * (i % 3) + 0x4 * (j % 8)
/-- CAN_TMCTL, 3 instances (18_can_fd.md). -/
abbrev Reg.CAN_TMCTL (i : Nat) : Nat := 0x131A0 + 0x400 * (i % 3)
/-- CAN_TMID, 3 instances (18_can_fd.md). -/
abbrev Reg.CAN_TMID (i : Nat) : Nat := 0x131A4 + 0x400 * (i % 3)
/-- CAN_FID, 3 by 64 instances (18_can_fd.md). -/
abbrev Reg.CAN_FID (i j : Nat) : Nat := 0x13200 + 0x400 * (i % 3) + 0x8 * (j % 64)
/-- CAN_FMASK, 3 by 64 instances (18_can_fd.md). -/
abbrev Reg.CAN_FMASK (i j : Nat) : Nat := 0x13204 + 0x400 * (i % 3) + 0x8 * (j % 64)
/-- UPD_STS (19_update_boot.md). -/
abbrev Reg.UPD_STS : Nat := 0x14000
/-- UPD_STAGED (19_update_boot.md). -/
abbrev Reg.UPD_STAGED : Nat := 0x14004
/-- UPD_VER, 5 instances (19_update_boot.md). -/
abbrev Reg.UPD_VER (i : Nat) : Nat := 0x14010 + 0x4 * (i % 5)
/-- UPD_WINLEFT (19_update_boot.md). -/
abbrev Reg.UPD_WINLEFT : Nat := 0x14030
/-- UPD_PAUSE (19_update_boot.md). -/
abbrev Reg.UPD_PAUSE : Nat := 0x14034
/-- SEC_STS (19_update_boot.md). -/
abbrev Reg.SEC_STS : Nat := 0x19000
/-- SEC_MINVER (19_update_boot.md). -/
abbrev Reg.SEC_MINVER : Nat := 0x19004
/-- SEC_SERIAL, 2 instances (19_update_boot.md). -/
abbrev Reg.SEC_SERIAL (i : Nat) : Nat := 0x19008 + 0x4 * (i % 2)
/-- SEC_KDATA, 8 instances (19_update_boot.md). -/
abbrev Reg.SEC_KDATA (i : Nat) : Nat := 0x19010 + 0x4 * (i % 8)
/-- SEC_KCTL (19_update_boot.md). -/
abbrev Reg.SEC_KCTL : Nat := 0x19030
/-- THM_CTL (20_power_thermal.md). -/
abbrev Reg.THM_CTL : Nat := 0x15000
/-- THM_STS (20_power_thermal.md). -/
abbrev Reg.THM_STS : Nat := 0x15004
/-- THM_TRIM (20_power_thermal.md). -/
abbrev Reg.THM_TRIM : Nat := 0x15008
/-- THM_CNT (20_power_thermal.md). -/
abbrev Reg.THM_CNT : Nat := 0x1500C
/-- THM_DIE, 8 instances (20_power_thermal.md). -/
abbrev Reg.THM_DIE (i : Nat) : Nat := 0x15010 + 0x4 * (i % 8)
/-- THM_TD, 4 instances (20_power_thermal.md). -/
abbrev Reg.THM_TD (i : Nat) : Nat := 0x15030 + 0x4 * (i % 4)
/-- THM_TH, 8 instances (20_power_thermal.md). -/
abbrev Reg.THM_TH (i : Nat) : Nat := 0x15040 + 0x4 * (i % 8)
/-- THM_TDCFG (20_power_thermal.md). -/
abbrev Reg.THM_TDCFG : Nat := 0x15060
/-- THM_THCFG (20_power_thermal.md). -/
abbrev Reg.THM_THCFG : Nat := 0x15064
/-- THM_SDLOG (20_power_thermal.md). -/
abbrev Reg.THM_SDLOG : Nat := 0x15068
/-- THM_MACLO (20_power_thermal.md). -/
abbrev Reg.THM_MACLO : Nat := 0x15070
/-- THM_MACHI (20_power_thermal.md). -/
abbrev Reg.THM_MACHI : Nat := 0x15074
/-- LOG_STS (21_logbook_wear_counters.md). -/
abbrev Reg.LOG_STS : Nat := 0x16000
/-- LOG_OLDEST (21_logbook_wear_counters.md). -/
abbrev Reg.LOG_OLDEST : Nat := 0x16004
/-- LOG_NEWEST (21_logbook_wear_counters.md). -/
abbrev Reg.LOG_NEWEST : Nat := 0x16008
/-- LOG_WINDOW (21_logbook_wear_counters.md). -/
abbrev Reg.LOG_WINDOW : Nat := 0x1600C
/-- LOG_LOST (21_logbook_wear_counters.md). -/
abbrev Reg.LOG_LOST : Nat := 0x16010
/-- LOG_RDIDX (21_logbook_wear_counters.md). -/
abbrev Reg.LOG_RDIDX : Nat := 0x16020
/-- LOG_RDATA, 16 instances (21_logbook_wear_counters.md). -/
abbrev Reg.LOG_RDATA (i : Nat) : Nat := 0x16040 + 0x4 * (i % 16)
/-- WEAR_STS (21_logbook_wear_counters.md). -/
abbrev Reg.WEAR_STS : Nat := 0x17000
/-- WEAR_SEL (21_logbook_wear_counters.md). -/
abbrev Reg.WEAR_SEL : Nat := 0x17004
/-- WEAR_DATA (21_logbook_wear_counters.md). -/
abbrev Reg.WEAR_DATA : Nat := 0x17008
/-- WEAR_HOURS (21_logbook_wear_counters.md). -/
abbrev Reg.WEAR_HOURS : Nat := 0x1700C
/-- WEAR_SEQ (21_logbook_wear_counters.md). -/
abbrev Reg.WEAR_SEQ : Nat := 0x17010
/-- PMC_CTL (21_logbook_wear_counters.md). -/
abbrev Reg.PMC_CTL : Nat := 0x18000
/-- PMC_OVF (21_logbook_wear_counters.md). -/
abbrev Reg.PMC_OVF : Nat := 0x18004
/-- PMC_CYC_LO, 3 instances (21_logbook_wear_counters.md). -/
abbrev Reg.PMC_CYC_LO (i : Nat) : Nat := 0x18100 + 0x100 * (i % 3)
/-- PMC_CYC_HI, 3 instances (21_logbook_wear_counters.md). -/
abbrev Reg.PMC_CYC_HI (i : Nat) : Nat := 0x18104 + 0x100 * (i % 3)
/-- PMC_CNT_LO, 3 by 8 instances (21_logbook_wear_counters.md). -/
abbrev Reg.PMC_CNT_LO (i j : Nat) : Nat := 0x18108 + 0x100 * (i % 3) + 0x8 * (j % 8)
/-- PMC_CNT_HI, 3 by 8 instances (21_logbook_wear_counters.md). -/
abbrev Reg.PMC_CNT_HI (i j : Nat) : Nat := 0x1810C + 0x100 * (i % 3) + 0x8 * (j % 8)
/-- PMC_SEL, 3 by 8 instances (21_logbook_wear_counters.md). -/
abbrev Reg.PMC_SEL (i j : Nat) : Nat := 0x18150 + 0x100 * (i % 3) + 0x4 * (j % 8)
/-- PMC_SNAP, 3 by 18 instances (21_logbook_wear_counters.md). -/
abbrev Reg.PMC_SNAP (i j : Nat) : Nat := 0x18180 + 0x100 * (i % 3) + 0x4 * (j % 18)
/-- CLK_STS (22_clocks_crossings.md). -/
abbrev Reg.CLK_STS : Nat := 0x1000
/-- CLK_MON (22_clocks_crossings.md). -/
abbrev Reg.CLK_MON : Nat := 0x1004
/-- CLK_TOINFO (22_clocks_crossings.md). -/
abbrev Reg.CLK_TOINFO : Nat := 0x1008
/-- CLK_XFB (22_clocks_crossings.md). -/
abbrev Reg.CLK_XFB : Nat := 0x1010
/-- CLK_XEVMODE (22_clocks_crossings.md). -/
abbrev Reg.CLK_XEVMODE : Nat := 0x1014
/-- CLK_XRESYNC (22_clocks_crossings.md). -/
abbrev Reg.CLK_XRESYNC : Nat := 0x1018
/-- CLK_XSTAT, 22 instances (22_clocks_crossings.md). -/
abbrev Reg.CLK_XSTAT (i : Nat) : Nat := 0x1100 + 0x4 * (i % 22)

abbrev F.SYS_DEVID_PART : Fld := ⟨Reg.SYS_DEVID, 31, 16⟩
abbrev F.SYS_DEVID_STEPPING : Fld := ⟨Reg.SYS_DEVID, 15, 8⟩
abbrev F.SYS_EPOCHCTL_EN : Fld := ⟨Reg.SYS_EPOCHCTL, 31, 31⟩
abbrev F.SYS_EPOCHCTL_DEADLINE : Fld := ⟨Reg.SYS_EPOCHCTL, 23, 16⟩
abbrev F.SYS_EPOCHCTL_PERIOD : Fld := ⟨Reg.SYS_EPOCHCTL, 9, 0⟩
abbrev F.SYS_EPOCHSTS_EMPTY_EPOCH : Fld := ⟨Reg.SYS_EPOCHSTS, 13, 13⟩
abbrev F.SYS_EPOCHSTS_EMPTY_EPOCH_L : Fld := ⟨Reg.SYS_EPOCHSTS, 12, 12⟩
abbrev F.SYS_EPOCHSTS_LOCK_ORPHAN : Fld := ⟨Reg.SYS_EPOCHSTS, 11, 11⟩
abbrev F.SYS_EPOCHSTS_LOCK_ORPHAN_L : Fld := ⟨Reg.SYS_EPOCHSTS, 10, 10⟩
abbrev F.SYS_EPOCHSTS_LOCK_ERR : Fld := ⟨Reg.SYS_EPOCHSTS, 9, 9⟩
abbrev F.SYS_EPOCHSTS_LOCK_ERR_L : Fld := ⟨Reg.SYS_EPOCHSTS, 8, 8⟩
abbrev F.SYS_EPOCHSTS_CFG_REJECT : Fld := ⟨Reg.SYS_EPOCHSTS, 7, 7⟩
abbrev F.SYS_EPOCHSTS_CFG_REJECT_L : Fld := ⟨Reg.SYS_EPOCHSTS, 6, 6⟩
abbrev F.SYS_EPOCHSTS_CFG_CLAMP : Fld := ⟨Reg.SYS_EPOCHSTS, 5, 5⟩
abbrev F.SYS_EPOCHSTS_CFG_CLAMP_L : Fld := ⟨Reg.SYS_EPOCHSTS, 4, 4⟩
abbrev F.SYS_EPOCHSTS_LATE_WRITE : Fld := ⟨Reg.SYS_EPOCHSTS, 3, 3⟩
abbrev F.SYS_EPOCHSTS_LATE_WRITE_L : Fld := ⟨Reg.SYS_EPOCHSTS, 2, 2⟩
abbrev F.SYS_EPOCHSTS_STALE : Fld := ⟨Reg.SYS_EPOCHSTS, 1, 1⟩
abbrev F.SYS_EPOCHSTS_STALE_L : Fld := ⟨Reg.SYS_EPOCHSTS, 0, 0⟩
abbrev F.SYS_PROFILE_OVR_PRESENT : Fld := ⟨Reg.SYS_PROFILE, 31, 31⟩
abbrev F.SYS_PROFILE_ACTIVE : Fld := ⟨Reg.SYS_PROFILE, 18, 16⟩
abbrev F.SYS_PROFILE_KEEP_OVR : Fld := ⟨Reg.SYS_PROFILE, 8, 8⟩
abbrev F.SYS_PROFILE_PROFILE : Fld := ⟨Reg.SYS_PROFILE, 2, 0⟩
abbrev F.SYS_LOCK_BUSY (i : Nat) : Fld := ⟨Reg.SYS_LOCK i, 31, 31⟩
abbrev F.SYS_LOCK_OWNER (i : Nat) : Fld := ⟨Reg.SYS_LOCK i, 2, 0⟩
abbrev F.SYS_LOCKREL_REL : Fld := ⟨Reg.SYS_LOCKREL, 15, 0⟩
abbrev F.SYS_LOCKSTAT_HELD : Fld := ⟨Reg.SYS_LOCKSTAT, 15, 0⟩
abbrev F.TIME_MER_NS_NS : Fld := ⟨Reg.TIME_MER_NS, 29, 0⟩
abbrev F.TIME_MER_SHI_SEC_HI : Fld := ⟨Reg.TIME_MER_SHI, 15, 0⟩
abbrev F.TIME_PTPCTL_SLEWMAX : Fld := ⟨Reg.TIME_PTPCTL, 25, 16⟩
abbrev F.TIME_PTPCTL_DOMAIN : Fld := ⟨Reg.TIME_PTPCTL, 15, 8⟩
abbrev F.TIME_PTPCTL_PORTSEL : Fld := ⟨Reg.TIME_PTPCTL, 5, 4⟩
abbrev F.TIME_PTPCTL_NOSTEP : Fld := ⟨Reg.TIME_PTPCTL, 2, 2⟩
abbrev F.TIME_PTPCTL_PTPEN : Fld := ⟨Reg.TIME_PTPCTL, 0, 0⟩
abbrev F.TIME_PTPSTS_DROPCNT : Fld := ⟨Reg.TIME_PTPSTS, 31, 24⟩
abbrev F.TIME_PTPSTS_RVAR : Fld := ⟨Reg.TIME_PTPSTS, 23, 16⟩
abbrev F.TIME_PTPSTS_PORT : Fld := ⟨Reg.TIME_PTPSTS, 15, 15⟩
abbrev F.TIME_PTPSTS_STATE : Fld := ⟨Reg.TIME_PTPSTS, 14, 13⟩
abbrev F.TIME_PTPSTS_CAL_VALID : Fld := ⟨Reg.TIME_PTPSTS, 12, 12⟩
abbrev F.TIME_PTPSTS_CARRIER_RUN : Fld := ⟨Reg.TIME_PTPSTS, 11, 11⟩
abbrev F.TIME_PTPSTS_RTC_LOST : Fld := ⟨Reg.TIME_PTPSTS, 10, 10⟩
abbrev F.TIME_PTPSTS_CARRIER_LOST : Fld := ⟨Reg.TIME_PTPSTS, 9, 9⟩
abbrev F.TIME_PTPSTS_BUS2_LOST : Fld := ⟨Reg.TIME_PTPSTS, 8, 8⟩
abbrev F.TIME_PTPSTS_BUS1_LOST : Fld := ⟨Reg.TIME_PTPSTS, 7, 7⟩
abbrev F.TIME_PTPSTS_BUS0_LOST : Fld := ⟨Reg.TIME_PTPSTS, 6, 6⟩
abbrev F.TIME_PTPSTS_HOLD_EXCEEDED : Fld := ⟨Reg.TIME_PTPSTS, 5, 5⟩
abbrev F.TIME_PTPSTS_STEPPED : Fld := ⟨Reg.TIME_PTPSTS, 4, 4⟩
abbrev F.TIME_PTPSTS_HOLDOVER : Fld := ⟨Reg.TIME_PTPSTS, 3, 3⟩
abbrev F.TIME_PTPSTS_HOLDOVER_L : Fld := ⟨Reg.TIME_PTPSTS, 2, 2⟩
abbrev F.TIME_PTPSTS_LOCKED : Fld := ⟨Reg.TIME_PTPSTS, 1, 1⟩
abbrev F.TIME_PTPSTS_LOCKED_L : Fld := ⟨Reg.TIME_PTPSTS, 0, 0⟩
abbrev F.TIME_STEPTHR_LOCKTHR : Fld := ⟨Reg.TIME_STEPTHR, 31, 20⟩
abbrev F.TIME_STEPTHR_STEPTHR : Fld := ⟨Reg.TIME_STEPTHR, 19, 0⟩
abbrev F.TIME_CAL_HI_MS_HI : Fld := ⟨Reg.TIME_CAL_HI, 15, 0⟩
abbrev F.TIME_CALCTL_TRIM : Fld := ⟨Reg.TIME_CALCTL, 31, 23⟩
abbrev F.TIME_CALCTL_SRC : Fld := ⟨Reg.TIME_CALCTL, 16, 16⟩
abbrev F.TIME_CALCTL_UTCOFS : Fld := ⟨Reg.TIME_CALCTL, 15, 0⟩
abbrev F.TRV_CTL_EN : Fld := ⟨Reg.TRV_CTL, 3, 0⟩
abbrev F.TRV_RINGSTS_STATE (i : Nat) : Fld := ⟨Reg.TRV_RINGSTS i, 31, 28⟩
abbrev F.TRV_RINGSTS_N (i : Nat) : Fld := ⟨Reg.TRV_RINGSTS i, 27, 24⟩
abbrev F.TRV_RINGSTS_K0 (i : Nat) : Fld := ⟨Reg.TRV_RINGSTS i, 23, 20⟩
abbrev F.TRV_RINGSTS_K1 (i : Nat) : Fld := ⟨Reg.TRV_RINGSTS i, 19, 16⟩
abbrev F.TRV_RINGSTS_BRKHOP (i : Nat) : Fld := ⟨Reg.TRV_RINGSTS i, 15, 12⟩
abbrev F.TRV_RINGSTS_TOPO_MISMATCH (i : Nat) : Fld := ⟨Reg.TRV_RINGSTS i, 9, 9⟩
abbrev F.TRV_RINGSTS_LOAD_FAIL (i : Nat) : Fld := ⟨Reg.TRV_RINGSTS i, 8, 8⟩
abbrev F.TRV_RINGSTS_TRAIN_FAIL (i : Nat) : Fld := ⟨Reg.TRV_RINGSTS i, 7, 7⟩
abbrev F.TRV_RINGSTS_LOST (i : Nat) : Fld := ⟨Reg.TRV_RINGSTS i, 6, 6⟩
abbrev F.TRV_RINGSTS_BREAK (i : Nat) : Fld := ⟨Reg.TRV_RINGSTS i, 5, 5⟩
abbrev F.TRV_RINGSTS_RINGUP (i : Nat) : Fld := ⟨Reg.TRV_RINGSTS i, 4, 4⟩
abbrev F.TRV_PORTSTS_LINK (i : Nat) : Fld := ⟨Reg.TRV_PORTSTS i, 31, 31⟩
abbrev F.TRV_PORTSTS_HOP_REJECT (i : Nat) : Fld := ⟨Reg.TRV_PORTSTS i, 30, 30⟩
abbrev F.TRV_PORTSTS_PROF_REJECT (i : Nat) : Fld := ⟨Reg.TRV_PORTSTS i, 29, 29⟩
abbrev F.TRV_PORTSTS_CMDFAIL (i : Nat) : Fld := ⟨Reg.TRV_PORTSTS i, 27, 21⟩
abbrev F.TRV_PORTSTS_UNCLAIMED (i : Nat) : Fld := ⟨Reg.TRV_PORTSTS i, 20, 14⟩
abbrev F.TRV_PORTSTS_FRAMEERR (i : Nat) : Fld := ⟨Reg.TRV_PORTSTS i, 13, 7⟩
abbrev F.TRV_PORTSTS_CRCERR (i : Nat) : Fld := ⟨Reg.TRV_PORTSTS i, 6, 0⟩
abbrev F.TRV_SLOTCFG_RESPDLY : Fld := ⟨Reg.TRV_SLOTCFG, 23, 16⟩
abbrev F.TRV_SLOTCFG_SLOT : Fld := ⟨Reg.TRV_SLOTCFG, 7, 0⟩
abbrev F.TRV_FLSTS_FAST : Fld := ⟨Reg.TRV_FLSTS, 11, 8⟩
abbrev F.TRV_FLSTS_LOSS : Fld := ⟨Reg.TRV_FLSTS, 7, 4⟩
abbrev F.TRV_FLSTS_TOGGLING : Fld := ⟨Reg.TRV_FLSTS, 3, 0⟩
abbrev F.TRV_HOPDLY_DELAY (i : Nat) : Fld := ⟨Reg.TRV_HOPDLY i, 23, 0⟩
abbrev F.ACQ_CTL_NPOS : Fld := ⟨Reg.ACQ_CTL, 25, 16⟩
abbrev F.ACQ_CTL_APPLY : Fld := ⟨Reg.ACQ_CTL, 0, 0⟩
abbrev F.ACQ_STS_NCELL_MISMATCH : Fld := ⟨Reg.ACQ_STS, 29, 29⟩
abbrev F.ACQ_STS_NCELL_MISMATCH_L : Fld := ⟨Reg.ACQ_STS, 28, 28⟩
abbrev F.ACQ_STS_TEMP_SUBST : Fld := ⟨Reg.ACQ_STS, 27, 27⟩
abbrev F.ACQ_STS_TEMP_SUBST_L : Fld := ⟨Reg.ACQ_STS, 26, 26⟩
abbrev F.ACQ_STS_SILENT : Fld := ⟨Reg.ACQ_STS, 25, 25⟩
abbrev F.ACQ_STS_SILENT_L : Fld := ⟨Reg.ACQ_STS, 24, 24⟩
abbrev F.ACQ_STS_LATE_SNAPR : Fld := ⟨Reg.ACQ_STS, 23, 23⟩
abbrev F.ACQ_STS_LATE_SNAPR_L : Fld := ⟨Reg.ACQ_STS, 22, 22⟩
abbrev F.ACQ_STS_PLAUS : Fld := ⟨Reg.ACQ_STS, 21, 21⟩
abbrev F.ACQ_STS_PLAUS_L : Fld := ⟨Reg.ACQ_STS, 20, 20⟩
abbrev F.ACQ_STS_STRING_SUM_ERR : Fld := ⟨Reg.ACQ_STS, 19, 19⟩
abbrev F.ACQ_STS_STRING_SUM_ERR_L : Fld := ⟨Reg.ACQ_STS, 18, 18⟩
abbrev F.ACQ_STS_MOD1_FAULT : Fld := ⟨Reg.ACQ_STS, 17, 17⟩
abbrev F.ACQ_STS_MOD1_FAULT_L : Fld := ⟨Reg.ACQ_STS, 16, 16⟩
abbrev F.ACQ_STS_MOD0_FAULT : Fld := ⟨Reg.ACQ_STS, 15, 15⟩
abbrev F.ACQ_STS_MOD0_FAULT_L : Fld := ⟨Reg.ACQ_STS, 14, 14⟩
abbrev F.ACQ_STS_CUR_DISAGREE : Fld := ⟨Reg.ACQ_STS, 13, 13⟩
abbrev F.ACQ_STS_CUR_DISAGREE_L : Fld := ⟨Reg.ACQ_STS, 12, 12⟩
abbrev F.ACQ_STS_CELL_STEP : Fld := ⟨Reg.ACQ_STS, 11, 11⟩
abbrev F.ACQ_STS_CELL_STEP_L : Fld := ⟨Reg.ACQ_STS, 10, 10⟩
abbrev F.ACQ_STS_OW_CONFIRMED : Fld := ⟨Reg.ACQ_STS, 9, 9⟩
abbrev F.ACQ_STS_OW_CONFIRMED_L : Fld := ⟨Reg.ACQ_STS, 8, 8⟩
abbrev F.ACQ_STS_OW_SUSPECT : Fld := ⟨Reg.ACQ_STS, 7, 7⟩
abbrev F.ACQ_STS_OW_SUSPECT_L : Fld := ⟨Reg.ACQ_STS, 6, 6⟩
abbrev F.ACQ_STS_SUM_MISMATCH : Fld := ⟨Reg.ACQ_STS, 5, 5⟩
abbrev F.ACQ_STS_SUM_MISMATCH_L : Fld := ⟨Reg.ACQ_STS, 4, 4⟩
abbrev F.ACQ_STS_SNAP_OVERRUN : Fld := ⟨Reg.ACQ_STS, 3, 3⟩
abbrev F.ACQ_STS_SNAP_OVERRUN_L : Fld := ⟨Reg.ACQ_STS, 2, 2⟩
abbrev F.ACQ_STS_CFG_ERR : Fld := ⟨Reg.ACQ_STS, 1, 1⟩
abbrev F.ACQ_STS_CFG_ERR_L : Fld := ⟨Reg.ACQ_STS, 0, 0⟩
abbrev F.ACQ_SNAPSTS_LASTSEQ : Fld := ⟨Reg.ACQ_SNAPSTS, 31, 16⟩
abbrev F.ACQ_SNAPSTS_OVERRUNS : Fld := ⟨Reg.ACQ_SNAPSTS, 15, 0⟩
abbrev F.ACQ_CAP_TMIN : Fld := ⟨Reg.ACQ_CAP, 31, 16⟩
abbrev F.ACQ_CAP_MAXRATE : Fld := ⟨Reg.ACQ_CAP, 15, 0⟩
abbrev F.ACQ_MODCFG_CURSRC : Fld := ⟨Reg.ACQ_MODCFG, 6, 6⟩
abbrev F.ACQ_MODCFG_SRCSEL : Fld := ⟨Reg.ACQ_MODCFG, 5, 4⟩
abbrev F.ACQ_MODCFG_INV1 : Fld := ⟨Reg.ACQ_MODCFG, 2, 2⟩
abbrev F.ACQ_MODCFG_INV0 : Fld := ⟨Reg.ACQ_MODCFG, 1, 1⟩
abbrev F.ACQ_MODCFG_MCLKEN : Fld := ⟨Reg.ACQ_MODCFG, 0, 0⟩
abbrev F.ACQ_MODDLY_DLY (i : Nat) : Fld := ⟨Reg.ACQ_MODDLY i, 10, 0⟩
abbrev F.ACQ_MODGAIN_GAIN (i : Nat) : Fld := ⟨Reg.ACQ_MODGAIN i, 23, 0⟩
abbrev F.ACQ_MODOFS_OFS (i : Nat) : Fld := ⟨Reg.ACQ_MODOFS i, 23, 0⟩
abbrev F.ACQ_CURTOL_MODCNT : Fld := ⟨Reg.ACQ_CURTOL, 23, 16⟩
abbrev F.ACQ_CURTOL_MODTOL : Fld := ⟨Reg.ACQ_CURTOL, 15, 0⟩
abbrev F.ACQ_SUMCFG_STRTOL : Fld := ⟨Reg.ACQ_SUMCFG, 23, 16⟩
abbrev F.ACQ_SUMCFG_TOLPC : Fld := ⟨Reg.ACQ_SUMCFG, 7, 0⟩
abbrev F.ACQ_PLCFG_VMAX : Fld := ⟨Reg.ACQ_PLCFG, 31, 16⟩
abbrev F.ACQ_PLCFG_VMIN : Fld := ⟨Reg.ACQ_PLCFG, 15, 0⟩
abbrev F.ACQ_OWCFG_OWCONF : Fld := ⟨Reg.ACQ_OWCFG, 31, 24⟩
abbrev F.ACQ_OWCFG_OWRECOVER : Fld := ⟨Reg.ACQ_OWCFG, 23, 20⟩
abbrev F.ACQ_OWCFG_OWSETTLE : Fld := ⟨Reg.ACQ_OWCFG, 19, 16⟩
abbrev F.ACQ_OWCFG_OWPERSIST : Fld := ⟨Reg.ACQ_OWCFG, 11, 8⟩
abbrev F.ACQ_OWCFG_OWTHR : Fld := ⟨Reg.ACQ_OWCFG, 7, 0⟩
abbrev F.ACQ_OWCMD_TILE : Fld := ⟨Reg.ACQ_OWCMD, 21, 16⟩
abbrev F.ACQ_OWCMD_GO : Fld := ⟨Reg.ACQ_OWCMD, 0, 0⟩
abbrev F.ACQ_TILECFG_NCELL (i : Nat) : Fld := ⟨Reg.ACQ_TILECFG i, 31, 27⟩
abbrev F.ACQ_TILECFG_BASEP (i : Nat) : Fld := ⟨Reg.ACQ_TILECFG i, 25, 16⟩
abbrev F.ACQ_OWSUS_SUSPECT (i : Nat) : Fld := ⟨Reg.ACQ_OWSUS i, 16, 0⟩
abbrev F.ACQ_OWCNF_CONFIRMED (i : Nat) : Fld := ⟨Reg.ACQ_OWCNF i, 16, 0⟩
abbrev F.ALM_CTL_RUN : Fld := ⟨Reg.ALM_CTL, 31, 31⟩
abbrev F.ALM_CTL_START : Fld := ⟨Reg.ALM_CTL, 1, 1⟩
abbrev F.ALM_CTL_LOAD : Fld := ⟨Reg.ALM_CTL, 0, 0⟩
abbrev F.ALM_START_PRI : Fld := ⟨Reg.ALM_START, 17, 16⟩
abbrev F.ALM_START_PC : Fld := ⟨Reg.ALM_START, 15, 0⟩
abbrev F.ALM_PMLEN_LEN : Fld := ⟨Reg.ALM_PMLEN, 16, 0⟩
abbrev F.ALM_PMPAGE_PAGE : Fld := ⟨Reg.ALM_PMPAGE, 0, 0⟩
abbrev F.ALM_STS_LAUNCH_CROWD : Fld := ⟨Reg.ALM_STS, 9, 9⟩
abbrev F.ALM_STS_LAUNCH_CROWD_L : Fld := ⟨Reg.ALM_STS, 8, 8⟩
abbrev F.ALM_STS_FAULT : Fld := ⟨Reg.ALM_STS, 7, 7⟩
abbrev F.ALM_STS_FAULT_L : Fld := ⟨Reg.ALM_STS, 6, 6⟩
abbrev F.ALM_STS_LATE : Fld := ⟨Reg.ALM_STS, 5, 5⟩
abbrev F.ALM_STS_LATE_L : Fld := ⟨Reg.ALM_STS, 4, 4⟩
abbrev F.ALM_STS_START_REJ : Fld := ⟨Reg.ALM_STS, 3, 3⟩
abbrev F.ALM_STS_START_REJ_L : Fld := ⟨Reg.ALM_STS, 2, 2⟩
abbrev F.ALM_STS_PM_WPROT : Fld := ⟨Reg.ALM_STS, 1, 1⟩
abbrev F.ALM_STS_PM_WPROT_L : Fld := ⟨Reg.ALM_STS, 0, 0⟩
abbrev F.ALM_FAULT_FCODE : Fld := ⟨Reg.ALM_FAULT, 31, 29⟩
abbrev F.ALM_FAULT_WATCH : Fld := ⟨Reg.ALM_FAULT, 21, 16⟩
abbrev F.ALM_FAULT_PC : Fld := ⟨Reg.ALM_FAULT, 15, 0⟩
abbrev F.ALM_PIPES_SPARE_USED : Fld := ⟨Reg.ALM_PIPES, 3, 3⟩
abbrev F.ALM_PIPES_HEALTHY : Fld := ⟨Reg.ALM_PIPES, 2, 0⟩
abbrev F.ALM_WATCH_STATE (i : Nat) : Fld := ⟨Reg.ALM_WATCH i, 31, 30⟩
abbrev F.ALM_WATCH_PRI (i : Nat) : Fld := ⟨Reg.ALM_WATCH i, 29, 28⟩
abbrev F.ALM_WATCH_LATE (i : Nat) : Fld := ⟨Reg.ALM_WATCH i, 27, 27⟩
abbrev F.ALM_WATCH_FCODE (i : Nat) : Fld := ⟨Reg.ALM_WATCH i, 26, 24⟩
abbrev F.ALM_WATCH_SLOTS (i : Nat) : Fld := ⟨Reg.ALM_WATCH i, 23, 22⟩
abbrev F.ALM_WATCH_PC (i : Nat) : Fld := ⟨Reg.ALM_WATCH i, 15, 0⟩
abbrev F.SXT_CTL_EN : Fld := ⟨Reg.SXT_CTL, 31, 31⟩
abbrev F.SXT_CTL_PARTIAL : Fld := ⟨Reg.SXT_CTL, 3, 3⟩
abbrev F.SXT_CTL_PRERESTED : Fld := ⟨Reg.SXT_CTL, 1, 1⟩
abbrev F.SXT_CTL_DAPPLY : Fld := ⟨Reg.SXT_CTL, 0, 0⟩
abbrev F.SXT_STS_INCOMPLETE : Fld := ⟨Reg.SXT_STS, 13, 13⟩
abbrev F.SXT_STS_INCOMPLETE_L : Fld := ⟨Reg.SXT_STS, 12, 12⟩
abbrev F.SXT_STS_NOCUR : Fld := ⟨Reg.SXT_STS, 11, 11⟩
abbrev F.SXT_STS_NOCUR_L : Fld := ⟨Reg.SXT_STS, 10, 10⟩
abbrev F.SXT_STS_DISAGREE : Fld := ⟨Reg.SXT_STS, 9, 9⟩
abbrev F.SXT_STS_DISAGREE_L : Fld := ⟨Reg.SXT_STS, 8, 8⟩
abbrev F.SXT_STS_NUMERIC : Fld := ⟨Reg.SXT_STS, 7, 7⟩
abbrev F.SXT_STS_NUMERIC_L : Fld := ⟨Reg.SXT_STS, 6, 6⟩
abbrev F.SXT_STS_LATE : Fld := ⟨Reg.SXT_STS, 5, 5⟩
abbrev F.SXT_STS_LATE_L : Fld := ⟨Reg.SXT_STS, 4, 4⟩
abbrev F.SXT_STS_CTX_WPROT : Fld := ⟨Reg.SXT_STS, 3, 3⟩
abbrev F.SXT_STS_CTX_WPROT_L : Fld := ⟨Reg.SXT_STS, 2, 2⟩
abbrev F.SXT_STS_DESC_REJ : Fld := ⟨Reg.SXT_STS, 1, 1⟩
abbrev F.SXT_STS_DESC_REJ_L : Fld := ⟨Reg.SXT_STS, 0, 0⟩
abbrev F.SXT_SCHED_RATE : Fld := ⟨Reg.SXT_SCHED, 31, 22⟩
abbrev F.SXT_SCHED_MODEL : Fld := ⟨Reg.SXT_SCHED, 18, 16⟩
abbrev F.SXT_SCHED_TUPD : Fld := ⟨Reg.SXT_SCHED, 15, 0⟩
abbrev F.SXT_LANES_HEALTHY : Fld := ⟨Reg.SXT_LANES, 20, 16⟩
abbrev F.SXT_LANES_SPARES_USED : Fld := ⟨Reg.SXT_LANES, 9, 8⟩
abbrev F.SXT_LANES_ACTIVE : Fld := ⟨Reg.SXT_LANES, 4, 0⟩
abbrev F.SXT_WIN_SEL : Fld := ⟨Reg.SXT_WIN, 31, 31⟩
abbrev F.SXT_WIN_PAGE : Fld := ⟨Reg.SXT_WIN, 2, 0⟩
abbrev F.SXT_DESCERR_POS : Fld := ⟨Reg.SXT_DESCERR, 25, 16⟩
abbrev F.SXT_DESCERR_DESC : Fld := ⟨Reg.SXT_DESCERR, 9, 8⟩
abbrev F.SXT_DESCERR_CHECK : Fld := ⟨Reg.SXT_DESCERR, 7, 0⟩
abbrev F.SXT_REINIT_SEC : Fld := ⟨Reg.SXT_REINIT, 7, 0⟩
abbrev F.SXT_LRNCTL_LEN : Fld := ⟨Reg.SXT_LRNCTL, 31, 31⟩
abbrev F.SXT_LRNCTL_EXPORT : Fld := ⟨Reg.SXT_LRNCTL, 3, 3⟩
abbrev F.SXT_LRNCTL_NOMINAL : Fld := ⟨Reg.SXT_LRNCTL, 2, 2⟩
abbrev F.SXT_LRNCTL_RESTORE : Fld := ⟨Reg.SXT_LRNCTL, 1, 1⟩
abbrev F.SXT_LRNCTL_SAVE : Fld := ⟨Reg.SXT_LRNCTL, 0, 0⟩
abbrev F.SXT_LRNSTS_MODE : Fld := ⟨Reg.SXT_LRNSTS, 31, 31⟩
abbrev F.SXT_LRNSTS_NEWEST : Fld := ⟨Reg.SXT_LRNSTS, 30, 30⟩
abbrev F.SXT_LRNSTS_SAVING : Fld := ⟨Reg.SXT_LRNSTS, 29, 29⟩
abbrev F.SXT_LRNSTS_RJCODE : Fld := ⟨Reg.SXT_LRNSTS, 15, 12⟩
abbrev F.SXT_LRNSTS_JFAIL : Fld := ⟨Reg.SXT_LRNSTS, 11, 11⟩
abbrev F.SXT_LRNSTS_JFAIL_L : Fld := ⟨Reg.SXT_LRNSTS, 10, 10⟩
abbrev F.SXT_LRNSTS_EXPORTED : Fld := ⟨Reg.SXT_LRNSTS, 9, 9⟩
abbrev F.SXT_LRNSTS_EXPORTED_L : Fld := ⟨Reg.SXT_LRNSTS, 8, 8⟩
abbrev F.SXT_LRNSTS_RESTORE_REJ : Fld := ⟨Reg.SXT_LRNSTS, 7, 7⟩
abbrev F.SXT_LRNSTS_RESTORE_REJ_L : Fld := ⟨Reg.SXT_LRNSTS, 6, 6⟩
abbrev F.SXT_LRNSTS_JMISMATCH : Fld := ⟨Reg.SXT_LRNSTS, 5, 5⟩
abbrev F.SXT_LRNSTS_JMISMATCH_L : Fld := ⟨Reg.SXT_LRNSTS, 4, 4⟩
abbrev F.SXT_LRNSTS_STORE_EMPTY : Fld := ⟨Reg.SXT_LRNSTS, 3, 3⟩
abbrev F.SXT_LRNSTS_STORE_EMPTY_L : Fld := ⟨Reg.SXT_LRNSTS, 2, 2⟩
abbrev F.SXT_LRNSTS_NOT_RESTORED : Fld := ⟨Reg.SXT_LRNSTS, 1, 1⟩
abbrev F.SXT_LRNSTS_NOT_RESTORED_L : Fld := ⟨Reg.SXT_LRNSTS, 0, 0⟩
abbrev F.SXT_LRNCFG_JPERIOD : Fld := ⟨Reg.SXT_LRNCFG, 4, 0⟩
abbrev F.SXT_LRNV_VFULL (i : Nat) : Fld := ⟨Reg.SXT_LRNV i, 31, 16⟩
abbrev F.SXT_LRNV_VEMPTY (i : Nat) : Fld := ⟨Reg.SXT_LRNV i, 15, 0⟩
abbrev F.SXT_LRNSPAN_SPAN (i : Nat) : Fld := ⟨Reg.SXT_LRNSPAN i, 9, 0⟩
abbrev F.SXT_LRNCNT_DONE : Fld := ⟨Reg.SXT_LRNCNT, 31, 16⟩
abbrev F.SXT_LRNCNT_VOID : Fld := ⟨Reg.SXT_LRNCNT, 15, 0⟩
abbrev F.AZM_CTL_EN : Fld := ⟨Reg.AZM_CTL, 31, 31⟩
abbrev F.AZM_CTL_CPLAN : Fld := ⟨Reg.AZM_CTL, 11, 8⟩
abbrev F.AZM_CTL_ZSCALE : Fld := ⟨Reg.AZM_CTL, 5, 4⟩
abbrev F.AZM_CTL_RSFEED : Fld := ⟨Reg.AZM_CTL, 2, 2⟩
abbrev F.AZM_CTL_PAPPLY : Fld := ⟨Reg.AZM_CTL, 0, 0⟩
abbrev F.AZM_STS_PLAT_RISK : Fld := ⟨Reg.AZM_STS, 15, 15⟩
abbrev F.AZM_STS_PLAT_RISK_L : Fld := ⟨Reg.AZM_STS, 14, 14⟩
abbrev F.AZM_STS_STEP : Fld := ⟨Reg.AZM_STS, 13, 13⟩
abbrev F.AZM_STS_STEP_L : Fld := ⟨Reg.AZM_STS, 12, 12⟩
abbrev F.AZM_STS_DISCARD : Fld := ⟨Reg.AZM_STS, 11, 11⟩
abbrev F.AZM_STS_DISCARD_L : Fld := ⟨Reg.AZM_STS, 10, 10⟩
abbrev F.AZM_STS_NOEXC : Fld := ⟨Reg.AZM_STS, 9, 9⟩
abbrev F.AZM_STS_NOEXC_L : Fld := ⟨Reg.AZM_STS, 8, 8⟩
abbrev F.AZM_STS_CLIPPED : Fld := ⟨Reg.AZM_STS, 7, 7⟩
abbrev F.AZM_STS_CLIPPED_L : Fld := ⟨Reg.AZM_STS, 6, 6⟩
abbrev F.AZM_STS_LATE : Fld := ⟨Reg.AZM_STS, 5, 5⟩
abbrev F.AZM_STS_LATE_L : Fld := ⟨Reg.AZM_STS, 4, 4⟩
abbrev F.AZM_STS_PLAN_REJ : Fld := ⟨Reg.AZM_STS, 3, 3⟩
abbrev F.AZM_STS_PLAN_REJ_L : Fld := ⟨Reg.AZM_STS, 2, 2⟩
abbrev F.AZM_STS_EXC_REJ : Fld := ⟨Reg.AZM_STS, 1, 1⟩
abbrev F.AZM_STS_EXC_REJ_L : Fld := ⟨Reg.AZM_STS, 0, 0⟩
abbrev F.AZM_EXCSTS_STATE : Fld := ⟨Reg.AZM_EXCSTS, 31, 30⟩
abbrev F.AZM_EXCSTS_AUTO : Fld := ⟨Reg.AZM_EXCSTS, 29, 29⟩
abbrev F.AZM_EXCSTS_PLAN : Fld := ⟨Reg.AZM_EXCSTS, 27, 24⟩
abbrev F.AZM_EXCSTS_REJCODE : Fld := ⟨Reg.AZM_EXCSTS, 23, 20⟩
abbrev F.AZM_EXCSTS_BLOCK : Fld := ⟨Reg.AZM_EXCSTS, 15, 0⟩
abbrev F.AZM_CNT_REJCNT : Fld := ⟨Reg.AZM_CNT, 31, 16⟩
abbrev F.AZM_CNT_DISCNT : Fld := ⟨Reg.AZM_CNT, 15, 0⟩
abbrev F.AZM_PLANERR_INDEX : Fld := ⟨Reg.AZM_PLANERR, 11, 8⟩
abbrev F.AZM_PLANERR_TONE : Fld := ⟨Reg.AZM_PLANERR, 6, 4⟩
abbrev F.AZM_PLANERR_CHECK : Fld := ⟨Reg.AZM_PLANERR, 3, 0⟩
abbrev F.AZM_TCFG_TAGE : Fld := ⟨Reg.AZM_TCFG, 31, 24⟩
abbrev F.AZM_TCFG_TPLT : Fld := ⟨Reg.AZM_TCFG, 15, 0⟩
abbrev F.AZM_PTHR_PTHR : Fld := ⟨Reg.AZM_PTHR, 15, 0⟩
abbrev F.AZM_CALA_FOHM (i : Nat) : Fld := ⟨Reg.AZM_CALA i, 30, 16⟩
abbrev F.AZM_CALA_FCT (i : Nat) : Fld := ⟨Reg.AZM_CALA i, 14, 0⟩
abbrev F.AZM_CALB_FCAL (i : Nat) : Fld := ⟨Reg.AZM_CALB i, 14, 0⟩
abbrev F.AZM_TCAL_TEMP (i j : Nat) : Fld := ⟨Reg.AZM_TCAL i j, 31, 16⟩
abbrev F.AZM_TCAL_PHASE (i j : Nat) : Fld := ⟨Reg.AZM_TCAL i j, 15, 0⟩
abbrev F.AZM_PLAN_HDR_SHAPE (i : Nat) : Fld := ⟨Reg.AZM_PLAN_HDR i, 31, 30⟩
abbrev F.AZM_PLAN_HDR_SCHR (i : Nat) : Fld := ⟨Reg.AZM_PLAN_HDR i, 29, 29⟩
abbrev F.AZM_PLAN_HDR_NTONE (i : Nat) : Fld := ⟨Reg.AZM_PLAN_HDR i, 27, 24⟩
abbrev F.AZM_PLAN_HDR_ORDER (i : Nat) : Fld := ⟨Reg.AZM_PLAN_HDR i, 23, 22⟩
abbrev F.AZM_PLAN_HDR_J (i : Nat) : Fld := ⟨Reg.AZM_PLAN_HDR i, 21, 14⟩
abbrev F.AZM_PLAN_HDR_PAMP (i : Nat) : Fld := ⟨Reg.AZM_PLAN_HDR i, 13, 0⟩
abbrev F.AZM_PLAN_T_FK (i j : Nat) : Fld := ⟨Reg.AZM_PLAN_T i j, 31, 17⟩
abbrev F.AZM_PLAN_T_AMP (i j : Nat) : Fld := ⟨Reg.AZM_PLAN_T i j, 13, 0⟩
abbrev F.BAL_CTL_EN : Fld := ⟨Reg.BAL_CTL, 31, 31⟩
abbrev F.BAL_CTL_REF : Fld := ⟨Reg.BAL_CTL, 4, 4⟩
abbrev F.BAL_CTL_MAN : Fld := ⟨Reg.BAL_CTL, 0, 0⟩
abbrev F.BAL_STS_SUSP : Fld := ⟨Reg.BAL_STS, 11, 11⟩
abbrev F.BAL_STS_SUSP_L : Fld := ⟨Reg.BAL_STS, 10, 10⟩
abbrev F.BAL_STS_STARVED : Fld := ⟨Reg.BAL_STS, 9, 9⟩
abbrev F.BAL_STS_STARVED_L : Fld := ⟨Reg.BAL_STS, 8, 8⟩
abbrev F.BAL_STS_HOT : Fld := ⟨Reg.BAL_STS, 7, 7⟩
abbrev F.BAL_STS_HOT_L : Fld := ⟨Reg.BAL_STS, 6, 6⟩
abbrev F.BAL_STS_CMDFAIL : Fld := ⟨Reg.BAL_STS, 5, 5⟩
abbrev F.BAL_STS_CMDFAIL_L : Fld := ⟨Reg.BAL_STS, 4, 4⟩
abbrev F.BAL_STS_BAL_SPLIT : Fld := ⟨Reg.BAL_STS, 3, 3⟩
abbrev F.BAL_STS_BAL_SPLIT_L : Fld := ⟨Reg.BAL_STS, 2, 2⟩
abbrev F.BAL_STS_REJ : Fld := ⟨Reg.BAL_STS, 1, 1⟩
abbrev F.BAL_STS_REJ_L : Fld := ⟨Reg.BAL_STS, 0, 0⟩
abbrev F.BAL_CFG_VBMIN : Fld := ⟨Reg.BAL_CFG, 31, 16⟩
abbrev F.BAL_CFG_RBAL : Fld := ⟨Reg.BAL_CFG, 15, 0⟩
abbrev F.BAL_THR_XON : Fld := ⟨Reg.BAL_THR, 31, 16⟩
abbrev F.BAL_THR_XOFF : Fld := ⟨Reg.BAL_THR, 15, 0⟩
abbrev F.BAL_TDER_TDER1 : Fld := ⟨Reg.BAL_TDER, 31, 16⟩
abbrev F.BAL_TDER_TDER0 : Fld := ⟨Reg.BAL_TDER, 15, 0⟩
abbrev F.BAL_MODE_BT : Fld := ⟨Reg.BAL_MODE, 31, 31⟩
abbrev F.BAL_MODE_LASTPH : Fld := ⟨Reg.BAL_MODE, 18, 18⟩
abbrev F.BAL_MODE_PHASE : Fld := ⟨Reg.BAL_MODE, 17, 16⟩
abbrev F.BAL_MODE_TQUIET : Fld := ⟨Reg.BAL_MODE, 8, 0⟩
abbrev F.BAL_RWINIT_RWINIT : Fld := ⟨Reg.BAL_RWINIT, 15, 0⟩
abbrev F.BAL_MAN_TDIE (i : Nat) : Fld := ⟨Reg.BAL_MAN i, 31, 16⟩
abbrev F.BAL_MAN_MASK (i : Nat) : Fld := ⟨Reg.BAL_MAN i, 15, 0⟩
abbrev F.BAL_TILE_ONMASK (i : Nat) : Fld := ⟨Reg.BAL_TILE i, 31, 16⟩
abbrev F.BAL_TILE_NMAX (i : Nat) : Fld := ⟨Reg.BAL_TILE i, 15, 12⟩
abbrev F.BAL_TILE_HOT (i : Nat) : Fld := ⟨Reg.BAL_TILE i, 11, 11⟩
abbrev F.BAL_TILE_UNSURE (i : Nat) : Fld := ⟨Reg.BAL_TILE i, 10, 10⟩
abbrev F.BAL_TILE_SUSP (i : Nat) : Fld := ⟨Reg.BAL_TILE i, 9, 9⟩
abbrev F.BAL_RW_LEARNED (i : Nat) : Fld := ⟨Reg.BAL_RW i, 31, 31⟩
abbrev F.BAL_RW_EDGES (i : Nat) : Fld := ⟨Reg.BAL_RW i, 23, 16⟩
abbrev F.BAL_RW_RW (i : Nat) : Fld := ⟨Reg.BAL_RW i, 15, 0⟩
abbrev F.HLM_CTL_RUN : Fld := ⟨Reg.HLM_CTL, 31, 31⟩
abbrev F.HLM_CTL_CEN : Fld := ⟨Reg.HLM_CTL, 30, 30⟩
abbrev F.HLM_CTL_VLOOP : Fld := ⟨Reg.HLM_CTL, 29, 29⟩
abbrev F.HLM_CTL_FBSRC : Fld := ⟨Reg.HLM_CTL, 25, 25⟩
abbrev F.HLM_CTL_STATE : Fld := ⟨Reg.HLM_CTL, 24, 24⟩
abbrev F.HLM_CTL_CLASS : Fld := ⟨Reg.HLM_CTL, 21, 20⟩
abbrev F.HLM_CTL_BWMAX : Fld := ⟨Reg.HLM_CTL, 16, 16⟩
abbrev F.HLM_STS_RCDONE_L : Fld := ⟨Reg.HLM_STS, 20, 20⟩
abbrev F.HLM_STS_STOP_EXT : Fld := ⟨Reg.HLM_STS, 19, 19⟩
abbrev F.HLM_STS_STOP_EXT_L : Fld := ⟨Reg.HLM_STS, 18, 18⟩
abbrev F.HLM_STS_AIN_SAT : Fld := ⟨Reg.HLM_STS, 17, 17⟩
abbrev F.HLM_STS_AIN_SAT_L : Fld := ⟨Reg.HLM_STS, 16, 16⟩
abbrev F.HLM_STS_CFG_REJ : Fld := ⟨Reg.HLM_STS, 15, 15⟩
abbrev F.HLM_STS_CFG_REJ_L : Fld := ⟨Reg.HLM_STS, 14, 14⟩
abbrev F.HLM_STS_COEF_REJ : Fld := ⟨Reg.HLM_STS, 13, 13⟩
abbrev F.HLM_STS_COEF_REJ_L : Fld := ⟨Reg.HLM_STS, 12, 12⟩
abbrev F.HLM_STS_CLASS_REJ : Fld := ⟨Reg.HLM_STS, 11, 11⟩
abbrev F.HLM_STS_CLASS_REJ_L : Fld := ⟨Reg.HLM_STS, 10, 10⟩
abbrev F.HLM_STS_SRCFAULT : Fld := ⟨Reg.HLM_STS, 9, 9⟩
abbrev F.HLM_STS_SRCFAULT_L : Fld := ⟨Reg.HLM_STS, 8, 8⟩
abbrev F.HLM_STS_FB_LEGSUM : Fld := ⟨Reg.HLM_STS, 7, 7⟩
abbrev F.HLM_STS_FB_LEGSUM_L : Fld := ⟨Reg.HLM_STS, 6, 6⟩
abbrev F.HLM_STS_DUTYSAT : Fld := ⟨Reg.HLM_STS, 5, 5⟩
abbrev F.HLM_STS_DUTYSAT_L : Fld := ⟨Reg.HLM_STS, 4, 4⟩
abbrev F.HLM_STS_DWELL : Fld := ⟨Reg.HLM_STS, 3, 3⟩
abbrev F.HLM_STS_DWELL_L : Fld := ⟨Reg.HLM_STS, 2, 2⟩
abbrev F.HLM_STS_SP_CLAMPED : Fld := ⟨Reg.HLM_STS, 1, 1⟩
abbrev F.HLM_STS_SP_CLAMPED_L : Fld := ⟨Reg.HLM_STS, 0, 0⟩
abbrev F.HLM_CARRIER_DT : Fld := ⟨Reg.HLM_CARRIER, 31, 24⟩
abbrev F.HLM_CARRIER_CPER : Fld := ⟨Reg.HLM_CARRIER, 13, 0⟩
abbrev F.HLM_LEGS_N : Fld := ⟨Reg.HLM_LEGS, 31, 28⟩
abbrev F.HLM_LEGS_MAP : Fld := ⟨Reg.HLM_LEGS, 7, 0⟩
abbrev F.HLM_DLIM_DMAX : Fld := ⟨Reg.HLM_DLIM, 31, 16⟩
abbrev F.HLM_DLIM_DMIN : Fld := ⟨Reg.HLM_DLIM, 15, 0⟩
abbrev F.HLM_SLEW_DWELL : Fld := ⟨Reg.HLM_SLEW, 21, 16⟩
abbrev F.HLM_SLEW_SLEW : Fld := ⟨Reg.HLM_SLEW, 15, 0⟩
abbrev F.HLM_IMAG_IMAGD : Fld := ⟨Reg.HLM_IMAG, 31, 16⟩
abbrev F.HLM_IMAG_IMAGC : Fld := ⟨Reg.HLM_IMAG, 15, 0⟩
abbrev F.HLM_IRATED_IRATED : Fld := ⟨Reg.HLM_IRATED, 15, 0⟩
abbrev F.HLM_RECON_RRATE : Fld := ⟨Reg.HLM_RECON, 15, 0⟩
abbrev F.HLM_DSPCFG_SRC : Fld := ⟨Reg.HLM_DSPCFG, 31, 30⟩
abbrev F.HLM_DSPCFG_DTAU : Fld := ⟨Reg.HLM_DSPCFG, 15, 0⟩
abbrev F.HLM_DUTY_VALUE : Fld := ⟨Reg.HLM_DUTY, 15, 0⟩
abbrev F.HLM_AOFS_OFS (i : Nat) : Fld := ⟨Reg.HLM_AOFS i, 11, 0⟩
abbrev F.DSP_CTL_EN : Fld := ⟨Reg.DSP_CTL, 31, 31⟩
abbrev F.DSP_CTL_COOLEN : Fld := ⟨Reg.DSP_CTL, 30, 30⟩
abbrev F.DSP_CTL_AVEN : Fld := ⟨Reg.DSP_CTL, 29, 29⟩
abbrev F.DSP_CTL_HVEN : Fld := ⟨Reg.DSP_CTL, 28, 28⟩
abbrev F.DSP_CTL_HOR : Fld := ⟨Reg.DSP_CTL, 1, 0⟩
abbrev F.DSP_STS_CONFL_THR : Fld := ⟨Reg.DSP_STS, 15, 15⟩
abbrev F.DSP_STS_CONFL_DER : Fld := ⟨Reg.DSP_STS, 14, 14⟩
abbrev F.DSP_STS_HVAC_FAULT : Fld := ⟨Reg.DSP_STS, 13, 13⟩
abbrev F.DSP_STS_HVAC_FAULT_L : Fld := ⟨Reg.DSP_STS, 12, 12⟩
abbrev F.DSP_STS_HVAC_LOST : Fld := ⟨Reg.DSP_STS, 11, 11⟩
abbrev F.DSP_STS_HVAC_LOST_L : Fld := ⟨Reg.DSP_STS, 10, 10⟩
abbrev F.DSP_STS_COOL_SRCERR : Fld := ⟨Reg.DSP_STS, 9, 9⟩
abbrev F.DSP_STS_COOL_SRCERR_L : Fld := ⟨Reg.DSP_STS, 8, 8⟩
abbrev F.DSP_STS_AV_DROP : Fld := ⟨Reg.DSP_STS, 7, 7⟩
abbrev F.DSP_STS_AV_DROP_L : Fld := ⟨Reg.DSP_STS, 6, 6⟩
abbrev F.DSP_STS_LIM_STALE : Fld := ⟨Reg.DSP_STS, 5, 5⟩
abbrev F.DSP_STS_LIM_STALE_L : Fld := ⟨Reg.DSP_STS, 4, 4⟩
abbrev F.DSP_STS_LIM_ZERO : Fld := ⟨Reg.DSP_STS, 3, 3⟩
abbrev F.DSP_STS_LIM_ZERO_L : Fld := ⟨Reg.DSP_STS, 2, 2⟩
abbrev F.DSP_STS_POLICY_CONFLICT : Fld := ⟨Reg.DSP_STS, 1, 1⟩
abbrev F.DSP_STS_POLICY_CONFLICT_L : Fld := ⟨Reg.DSP_STS, 0, 0⟩
abbrev F.DSP_CFG_AVDIV : Fld := ⟨Reg.DSP_CFG, 31, 24⟩
abbrev F.DSP_CFG_STALEMAX : Fld := ⟨Reg.DSP_CFG, 23, 16⟩
abbrev F.DSP_CFG_PLATF : Fld := ⟨Reg.DSP_CFG, 15, 0⟩
abbrev F.DSP_THOT_THOT1 : Fld := ⟨Reg.DSP_THOT, 31, 16⟩
abbrev F.DSP_THOT_THOT0 : Fld := ⟨Reg.DSP_THOT, 15, 0⟩
abbrev F.DSP_TCOLD_TCOLD0 : Fld := ⟨Reg.DSP_TCOLD, 31, 16⟩
abbrev F.DSP_TCOLD_TCOLD1 : Fld := ⟨Reg.DSP_TCOLD, 15, 0⟩
abbrev F.DSP_AVID_IDE : Fld := ⟨Reg.DSP_AVID, 31, 31⟩
abbrev F.DSP_AVID_ID : Fld := ⟨Reg.DSP_AVID, 28, 0⟩
abbrev F.DSP_HVID_IDE : Fld := ⟨Reg.DSP_HVID, 31, 31⟩
abbrev F.DSP_HVID_ID : Fld := ⟨Reg.DSP_HVID, 28, 0⟩
abbrev F.DSP_HVSTID_IDE : Fld := ⟨Reg.DSP_HVSTID, 31, 31⟩
abbrev F.DSP_HVSTID_ID : Fld := ⟨Reg.DSP_HVSTID, 28, 0⟩
abbrev F.DSP_COOLFREQ_FREQ : Fld := ⟨Reg.DSP_COOLFREQ, 15, 0⟩
abbrev F.DSP_COOLCFG_SRC (i : Nat) : Fld := ⟨Reg.DSP_COOLCFG i, 31, 30⟩
abbrev F.DSP_COOLCFG_BCH (i : Nat) : Fld := ⟨Reg.DSP_COOLCFG i, 29, 26⟩
abbrev F.DSP_COOLCFG_POL (i : Nat) : Fld := ⟨Reg.DSP_COOLCFG i, 25, 25⟩
abbrev F.DSP_COOLCFG_FAILDUTY (i : Nat) : Fld := ⟨Reg.DSP_COOLCFG i, 15, 8⟩
abbrev F.DSP_COOLCFG_DMIN (i : Nat) : Fld := ⟨Reg.DSP_COOLCFG i, 7, 0⟩
abbrev F.DSP_COOLCRV_T1 (i : Nat) : Fld := ⟨Reg.DSP_COOLCRV i, 31, 16⟩
abbrev F.DSP_COOLCRV_T0 (i : Nat) : Fld := ⟨Reg.DSP_COOLCRV i, 15, 0⟩
abbrev F.DSP_HVCFG_HVPER : Fld := ⟨Reg.DSP_HVCFG, 31, 16⟩
abbrev F.DSP_HVCFG_THEAT : Fld := ⟨Reg.DSP_HVCFG, 15, 0⟩
abbrev F.LDS_SEAL_SEAL_CHANGED : Fld := ⟨Reg.LDS_SEAL, 31, 31⟩
abbrev F.LDS_SEAL_SEAL_FAULT : Fld := ⟨Reg.LDS_SEAL, 30, 30⟩
abbrev F.LDS_SEAL_SEAL_GLITCH : Fld := ⟨Reg.LDS_SEAL, 29, 29⟩
abbrev F.LDS_SEAL_SEALCHK : Fld := ⟨Reg.LDS_SEAL, 19, 16⟩
abbrev F.LDS_SEAL_SEAL : Fld := ⟨Reg.LDS_SEAL, 15, 0⟩
abbrev F.LDS_SEALNOW_SEALCHK : Fld := ⟨Reg.LDS_SEALNOW, 19, 16⟩
abbrev F.LDS_SEALNOW_SEAL : Fld := ⟨Reg.LDS_SEALNOW, 15, 0⟩
abbrev F.LDS_CFG_PROFILE : Fld := ⟨Reg.LDS_CFG, 31, 28⟩
abbrev F.LDS_CFG_TDISC : Fld := ⟨Reg.LDS_CFG, 27, 25⟩
abbrev F.LDS_CFG_ANT03 : Fld := ⟨Reg.LDS_CFG, 24, 24⟩
abbrev F.LDS_CFG_ANT47 : Fld := ⟨Reg.LDS_CFG, 23, 23⟩
abbrev F.LDS_CFG_HOLD : Fld := ⟨Reg.LDS_CFG, 22, 21⟩
abbrev F.LDS_CFG_TEST : Fld := ⟨Reg.LDS_CFG, 20, 19⟩
abbrev F.LDS_CFG_RECIPE : Fld := ⟨Reg.LDS_CFG, 18, 18⟩
abbrev F.LDS_CFG_OCCLASS : Fld := ⟨Reg.LDS_CFG, 17, 16⟩
abbrev F.LDS_CFG_PROFCRC : Fld := ⟨Reg.LDS_CFG, 15, 0⟩
abbrev F.LDS_TRIP_TRIPPED_L : Fld := ⟨Reg.LDS_TRIP, 31, 31⟩
abbrev F.LDS_TRIP_PERMIT_L : Fld := ⟨Reg.LDS_TRIP, 30, 27⟩
abbrev F.LDS_TRIP_BPERMIT_L : Fld := ⟨Reg.LDS_TRIP, 26, 23⟩
abbrev F.LDS_TRIP_THERMAL : Fld := ⟨Reg.LDS_TRIP, 13, 13⟩
abbrev F.LDS_TRIP_INPUT : Fld := ⟨Reg.LDS_TRIP, 12, 12⟩
abbrev F.LDS_TRIP_BIN_DEMAND : Fld := ⟨Reg.LDS_TRIP, 11, 11⟩
abbrev F.LDS_TRIP_LTH : Fld := ⟨Reg.LDS_TRIP, 10, 10⟩
abbrev F.LDS_TRIP_LTHN : Fld := ⟨Reg.LDS_TRIP, 9, 6⟩
abbrev F.LDS_TRIP_OCB : Fld := ⟨Reg.LDS_TRIP, 5, 5⟩
abbrev F.LDS_TRIP_OCA : Fld := ⟨Reg.LDS_TRIP, 4, 4⟩
abbrev F.LDS_TRIP_ARMCRC : Fld := ⟨Reg.LDS_TRIP, 3, 3⟩
abbrev F.LDS_TRIP_FL : Fld := ⟨Reg.LDS_TRIP, 2, 2⟩
abbrev F.LDS_TRIP_SEAL : Fld := ⟨Reg.LDS_TRIP, 1, 1⟩
abbrev F.LDS_DRM_STATE : Fld := ⟨Reg.LDS_DRM, 31, 30⟩
abbrev F.LDS_DRM_CAUSE : Fld := ⟨Reg.LDS_DRM, 29, 27⟩
abbrev F.LDS_DRM_HOLD_EXPIRED : Fld := ⟨Reg.LDS_DRM, 26, 26⟩
abbrev F.LDS_DRM_HOLDLEFT : Fld := ⟨Reg.LDS_DRM, 18, 0⟩
abbrev F.LDS_INSTS_DISC : Fld := ⟨Reg.LDS_INSTS, 31, 24⟩
abbrev F.LDS_INSTS_DEMAND : Fld := ⟨Reg.LDS_INSTS, 23, 16⟩
abbrev F.LDS_INSTS_DISAGREE_L : Fld := ⟨Reg.LDS_INSTS, 15, 8⟩
abbrev F.LDS_INSTS_DEMAND_L : Fld := ⟨Reg.LDS_INSTS, 7, 0⟩
abbrev F.LDS_INRAW_B : Fld := ⟨Reg.LDS_INRAW, 15, 8⟩
abbrev F.LDS_INRAW_A : Fld := ⟨Reg.LDS_INRAW, 7, 0⟩
abbrev F.LDS_OUT_ENERGIZED_L (i : Nat) : Fld := ⟨Reg.LDS_OUT i, 31, 31⟩
abbrev F.LDS_OUT_HS_DRV_L (i : Nat) : Fld := ⟨Reg.LDS_OUT i, 30, 30⟩
abbrev F.LDS_OUT_LS_DRV_L (i : Nat) : Fld := ⟨Reg.LDS_OUT i, 29, 29⟩
abbrev F.LDS_OUT_HS_RB_L (i : Nat) : Fld := ⟨Reg.LDS_OUT i, 28, 28⟩
abbrev F.LDS_OUT_LS_RB_L (i : Nat) : Fld := ⟨Reg.LDS_OUT i, 27, 27⟩
abbrev F.LDS_OUT_LOAD_RB_L (i : Nat) : Fld := ⟨Reg.LDS_OUT i, 26, 26⟩
abbrev F.LDS_OUT_SEQ_L (i : Nat) : Fld := ⟨Reg.LDS_OUT i, 25, 25⟩
abbrev F.LDS_OUT_NEXTFIRST (i : Nat) : Fld := ⟨Reg.LDS_OUT i, 24, 24⟩
abbrev F.LDS_OUT_OUTFAULT (i : Nat) : Fld := ⟨Reg.LDS_OUT i, 23, 21⟩
abbrev F.LDS_OUT_PROOF_WARN (i : Nat) : Fld := ⟨Reg.LDS_OUT i, 20, 20⟩
abbrev F.LDS_OUT_TESTABANDON (i : Nat) : Fld := ⟨Reg.LDS_OUT i, 19, 19⟩
abbrev F.LDS_OUT_CLOSE_REJ (i : Nat) : Fld := ⟨Reg.LDS_OUT i, 18, 18⟩
abbrev F.LDS_OUT_PROOFAGE (i : Nat) : Fld := ⟨Reg.LDS_OUT i, 15, 0⟩
abbrev F.BIN_OUTREQ_REQ : Fld := ⟨Reg.BIN_OUTREQ, 3, 0⟩
abbrev F.BIN_STS_PARAM_REJ : Fld := ⟨Reg.BIN_STS, 9, 9⟩
abbrev F.BIN_STS_PARAM_REJ_L : Fld := ⟨Reg.BIN_STS, 8, 8⟩
abbrev F.BIN_STS_BIN_TRIP : Fld := ⟨Reg.BIN_STS, 7, 7⟩
abbrev F.BIN_STS_BIN_TRIP_L : Fld := ⟨Reg.BIN_STS, 6, 6⟩
abbrev F.BIN_STS_TINT_WARN : Fld := ⟨Reg.BIN_STS, 5, 5⟩
abbrev F.BIN_STS_TINT_WARN_L : Fld := ⟨Reg.BIN_STS, 4, 4⟩
abbrev F.BIN_STS_DV_WARN : Fld := ⟨Reg.BIN_STS, 3, 3⟩
abbrev F.BIN_STS_DV_WARN_L : Fld := ⟨Reg.BIN_STS, 2, 2⟩
abbrev F.BIN_STS_ISO_WARN : Fld := ⟨Reg.BIN_STS, 1, 1⟩
abbrev F.BIN_STS_ISO_WARN_L : Fld := ⟨Reg.BIN_STS, 0, 0⟩
abbrev F.BIN_VLIM_BOV : Fld := ⟨Reg.BIN_VLIM, 31, 16⟩
abbrev F.BIN_VLIM_BUV : Fld := ⟨Reg.BIN_VLIM, 15, 0⟩
abbrev F.BIN_ISO_RISO : Fld := ⟨Reg.BIN_ISO, 31, 16⟩
abbrev F.BIN_ISO_WARN : Fld := ⟨Reg.BIN_ISO, 15, 8⟩
abbrev F.BIN_ISO_TRIP : Fld := ⟨Reg.BIN_ISO, 7, 0⟩
abbrev F.RDN_CTL_TWIN : Fld := ⟨Reg.RDN_CTL, 31, 31⟩
abbrev F.RDN_CTL_AUTORUN : Fld := ⟨Reg.RDN_CTL, 30, 30⟩
abbrev F.RDN_CTL_HB : Fld := ⟨Reg.RDN_CTL, 0, 0⟩
abbrev F.RDN_STS_ROLE : Fld := ⟨Reg.RDN_STS, 31, 29⟩
abbrev F.RDN_STS_TWINROLE : Fld := ⟨Reg.RDN_STS, 28, 26⟩
abbrev F.RDN_STS_GRANT_L : Fld := ⟨Reg.RDN_STS, 25, 25⟩
abbrev F.RDN_STS_CLAIM_L : Fld := ⟨Reg.RDN_STS, 24, 24⟩
abbrev F.RDN_STS_CFG_REJ : Fld := ⟨Reg.RDN_STS, 21, 21⟩
abbrev F.RDN_STS_CFG_REJ_L : Fld := ⟨Reg.RDN_STS, 20, 20⟩
abbrev F.RDN_STS_PROG_DIFF : Fld := ⟨Reg.RDN_STS, 19, 19⟩
abbrev F.RDN_STS_PROG_DIFF_L : Fld := ⟨Reg.RDN_STS, 18, 18⟩
abbrev F.RDN_STS_CFG_DIFF : Fld := ⟨Reg.RDN_STS, 17, 17⟩
abbrev F.RDN_STS_CFG_DIFF_L : Fld := ⟨Reg.RDN_STS, 16, 16⟩
abbrev F.RDN_STS_SEAL_DIFF : Fld := ⟨Reg.RDN_STS, 15, 15⟩
abbrev F.RDN_STS_SEAL_DIFF_L : Fld := ⟨Reg.RDN_STS, 14, 14⟩
abbrev F.RDN_STS_UNFIT : Fld := ⟨Reg.RDN_STS, 13, 13⟩
abbrev F.RDN_STS_UNFIT_L : Fld := ⟨Reg.RDN_STS, 12, 12⟩
abbrev F.RDN_STS_MIRSKIP : Fld := ⟨Reg.RDN_STS, 11, 11⟩
abbrev F.RDN_STS_MIRSKIP_L : Fld := ⟨Reg.RDN_STS, 10, 10⟩
abbrev F.RDN_STS_PEER_DOWN : Fld := ⟨Reg.RDN_STS, 9, 9⟩
abbrev F.RDN_STS_PEER_DOWN_L : Fld := ⟨Reg.RDN_STS, 8, 8⟩
abbrev F.RDN_STS_PEER_DEGRADED : Fld := ⟨Reg.RDN_STS, 7, 7⟩
abbrev F.RDN_STS_PEER_DEGRADED_L : Fld := ⟨Reg.RDN_STS, 6, 6⟩
abbrev F.RDN_STS_GRANT_LOST : Fld := ⟨Reg.RDN_STS, 5, 5⟩
abbrev F.RDN_STS_GRANT_LOST_L : Fld := ⟨Reg.RDN_STS, 4, 4⟩
abbrev F.RDN_STS_TAKEOVER : Fld := ⟨Reg.RDN_STS, 3, 3⟩
abbrev F.RDN_STS_TAKEOVER_L : Fld := ⟨Reg.RDN_STS, 2, 2⟩
abbrev F.RDN_CNT_TAKEOVERS : Fld := ⟨Reg.RDN_CNT, 31, 16⟩
abbrev F.RDN_CNT_SKIPS : Fld := ⟨Reg.RDN_CNT, 15, 0⟩
abbrev F.RDN_MIRTIME_US : Fld := ⟨Reg.RDN_MIRTIME, 15, 0⟩
abbrev F.HOST_STS_UDP_AUTH : Fld := ⟨Reg.HOST_STS, 9, 9⟩
abbrev F.HOST_STS_UDP_AUTH_L : Fld := ⟨Reg.HOST_STS, 8, 8⟩
abbrev F.HOST_STS_HSPI_ERR : Fld := ⟨Reg.HOST_STS, 7, 7⟩
abbrev F.HOST_STS_HSPI_ERR_L : Fld := ⟨Reg.HOST_STS, 6, 6⟩
abbrev F.HOST_STS_MBX_OVR : Fld := ⟨Reg.HOST_STS, 5, 5⟩
abbrev F.HOST_STS_MBX_OVR_L : Fld := ⟨Reg.HOST_STS, 4, 4⟩
abbrev F.HOST_STS_RING_ERR : Fld := ⟨Reg.HOST_STS, 3, 3⟩
abbrev F.HOST_STS_RING_ERR_L : Fld := ⟨Reg.HOST_STS, 2, 2⟩
abbrev F.HOST_STS_ACCESS_ERR : Fld := ⟨Reg.HOST_STS, 1, 1⟩
abbrev F.HOST_STS_ACCESS_ERR_L : Fld := ⟨Reg.HOST_STS, 0, 0⟩
abbrev F.HOST_IRQSTS_CAUSE : Fld := ⟨Reg.HOST_IRQSTS, 6, 0⟩
abbrev F.HOST_IRQEN_CAUSE : Fld := ⟨Reg.HOST_IRQEN, 6, 0⟩
abbrev F.HOST_MBXSTS_D2H_ARRIVED : Fld := ⟨Reg.HOST_MBXSTS, 15, 12⟩
abbrev F.HOST_MBXSTS_H2D_EMPTIED : Fld := ⟨Reg.HOST_MBXSTS, 11, 8⟩
abbrev F.HOST_MBXSTS_D2H_FULL : Fld := ⟨Reg.HOST_MBXSTS, 7, 4⟩
abbrev F.HOST_MBXSTS_H2D_FULL : Fld := ⟨Reg.HOST_MBXSTS, 3, 0⟩
abbrev F.HOST_D2HEMPTY_EMPTY : Fld := ⟨Reg.HOST_D2HEMPTY, 3, 0⟩
abbrev F.HOST_CMDPI_INDEX : Fld := ⟨Reg.HOST_CMDPI, 15, 0⟩
abbrev F.HOST_CMDCI_INDEX : Fld := ⟨Reg.HOST_CMDCI, 15, 0⟩
abbrev F.HOST_RSPPI_INDEX : Fld := ⟨Reg.HOST_RSPPI, 15, 0⟩
abbrev F.HOST_RSPCI_INDEX : Fld := ⟨Reg.HOST_RSPCI, 15, 0⟩
abbrev F.HOST_POSTPI_REFUSED : Fld := ⟨Reg.HOST_POSTPI, 31, 16⟩
abbrev F.HOST_POSTPI_INDEX : Fld := ⟨Reg.HOST_POSTPI, 15, 0⟩
abbrev F.HOST_POSTCI_INDEX : Fld := ⟨Reg.HOST_POSTCI, 15, 0⟩
abbrev F.HOST_UDPSTS_SESSIONS : Fld := ⟨Reg.HOST_UDPSTS, 18, 16⟩
abbrev F.HOST_UDPSTS_DROPS : Fld := ⟨Reg.HOST_UDPSTS, 15, 0⟩
abbrev F.CAN_CTL_EN (i : Nat) : Fld := ⟨Reg.CAN_CTL i, 31, 31⟩
abbrev F.CAN_CTL_FDEN (i : Nat) : Fld := ⟨Reg.CAN_CTL i, 30, 30⟩
abbrev F.CAN_CTL_LISTEN (i : Nat) : Fld := ⟨Reg.CAN_CTL i, 29, 29⟩
abbrev F.CAN_CTL_LOOPBACK (i : Nat) : Fld := ⟨Reg.CAN_CTL i, 28, 28⟩
abbrev F.CAN_CTL_ABOR (i : Nat) : Fld := ⟨Reg.CAN_CTL i, 27, 27⟩
abbrev F.CAN_CTL_RESTART (i : Nat) : Fld := ⟨Reg.CAN_CTL i, 0, 0⟩
abbrev F.CAN_STS_PXE (i : Nat) : Fld := ⟨Reg.CAN_STS i, 13, 13⟩
abbrev F.CAN_STS_PXE_L (i : Nat) : Fld := ⟨Reg.CAN_STS i, 12, 12⟩
abbrev F.CAN_STS_RXOVR (i : Nat) : Fld := ⟨Reg.CAN_STS i, 11, 11⟩
abbrev F.CAN_STS_RXOVR_L (i : Nat) : Fld := ⟨Reg.CAN_STS i, 10, 10⟩
abbrev F.CAN_STS_TXDROP (i : Nat) : Fld := ⟨Reg.CAN_STS i, 9, 9⟩
abbrev F.CAN_STS_TXDROP_L (i : Nat) : Fld := ⟨Reg.CAN_STS i, 8, 8⟩
abbrev F.CAN_STS_DESC_ERR (i : Nat) : Fld := ⟨Reg.CAN_STS i, 7, 7⟩
abbrev F.CAN_STS_DESC_ERR_L (i : Nat) : Fld := ⟨Reg.CAN_STS i, 6, 6⟩
abbrev F.CAN_STS_CFG_REJ (i : Nat) : Fld := ⟨Reg.CAN_STS i, 5, 5⟩
abbrev F.CAN_STS_CFG_REJ_L (i : Nat) : Fld := ⟨Reg.CAN_STS i, 4, 4⟩
abbrev F.CAN_STS_ERRPASS (i : Nat) : Fld := ⟨Reg.CAN_STS i, 3, 3⟩
abbrev F.CAN_STS_ERRPASS_L (i : Nat) : Fld := ⟨Reg.CAN_STS i, 2, 2⟩
abbrev F.CAN_STS_BUSOFF (i : Nat) : Fld := ⟨Reg.CAN_STS i, 1, 1⟩
abbrev F.CAN_STS_BUSOFF_L (i : Nat) : Fld := ⟨Reg.CAN_STS i, 0, 0⟩
abbrev F.CAN_NBT_BRP (i : Nat) : Fld := ⟨Reg.CAN_NBT i, 31, 24⟩
abbrev F.CAN_NBT_TSEG1 (i : Nat) : Fld := ⟨Reg.CAN_NBT i, 23, 16⟩
abbrev F.CAN_NBT_TSEG2 (i : Nat) : Fld := ⟨Reg.CAN_NBT i, 14, 8⟩
abbrev F.CAN_NBT_SJW (i : Nat) : Fld := ⟨Reg.CAN_NBT i, 6, 0⟩
abbrev F.CAN_DBT_BRP (i : Nat) : Fld := ⟨Reg.CAN_DBT i, 28, 24⟩
abbrev F.CAN_DBT_TSEG1 (i : Nat) : Fld := ⟨Reg.CAN_DBT i, 20, 16⟩
abbrev F.CAN_DBT_TSEG2 (i : Nat) : Fld := ⟨Reg.CAN_DBT i, 11, 8⟩
abbrev F.CAN_DBT_SJW (i : Nat) : Fld := ⟨Reg.CAN_DBT i, 3, 0⟩
abbrev F.CAN_TDC_TDCEN (i : Nat) : Fld := ⟨Reg.CAN_TDC i, 31, 31⟩
abbrev F.CAN_TDC_TDCV (i : Nat) : Fld := ⟨Reg.CAN_TDC i, 14, 8⟩
abbrev F.CAN_TDC_TDCO (i : Nat) : Fld := ⟨Reg.CAN_TDC i, 6, 0⟩
abbrev F.CAN_ERR_PXECNT (i : Nat) : Fld := ⟨Reg.CAN_ERR i, 31, 16⟩
abbrev F.CAN_ERR_RP (i : Nat) : Fld := ⟨Reg.CAN_ERR i, 15, 15⟩
abbrev F.CAN_ERR_REC (i : Nat) : Fld := ⟨Reg.CAN_ERR i, 14, 8⟩
abbrev F.CAN_ERR_TEC (i : Nat) : Fld := ⟨Reg.CAN_ERR i, 7, 0⟩
abbrev F.CAN_TQSTS_HEAD (i : Nat) : Fld := ⟨Reg.CAN_TQSTS i, 31, 16⟩
abbrev F.CAN_TQSTS_REFPEND (i : Nat) : Fld := ⟨Reg.CAN_TQSTS i, 9, 9⟩
abbrev F.CAN_TQSTS_BEGUN (i : Nat) : Fld := ⟨Reg.CAN_TQSTS i, 8, 8⟩
abbrev F.CAN_TQSTS_COUNT (i : Nat) : Fld := ⟨Reg.CAN_TQSTS i, 4, 0⟩
abbrev F.CAN_TXCNT_TXDROP (i : Nat) : Fld := ⟨Reg.CAN_TXCNT i, 31, 16⟩
abbrev F.CAN_TXCNT_SENT (i : Nat) : Fld := ⟨Reg.CAN_TXCNT i, 15, 0⟩
abbrev F.CAN_RXCNT_OVRCNT (i : Nat) : Fld := ⟨Reg.CAN_RXCNT i, 31, 16⟩
abbrev F.CAN_RXCNT_RECVD (i : Nat) : Fld := ⟨Reg.CAN_RXCNT i, 15, 0⟩
abbrev F.CAN_TXFAIL_REFSKIP (i : Nat) : Fld := ⟨Reg.CAN_TXFAIL i, 31, 16⟩
abbrev F.CAN_TXFAIL_FAIL (i : Nat) : Fld := ⟨Reg.CAN_TXFAIL i, 15, 0⟩
abbrev F.CAN_TXGO_GO (i : Nat) : Fld := ⟨Reg.CAN_TXGO i, 0, 0⟩
abbrev F.CAN_TXCAN_SERIAL (i : Nat) : Fld := ⟨Reg.CAN_TXCAN i, 15, 0⟩
abbrev F.CAN_TXRES_RESULT (i : Nat) : Fld := ⟨Reg.CAN_TXRES i, 31, 30⟩
abbrev F.CAN_TXRES_CANOK (i : Nat) : Fld := ⟨Reg.CAN_TXRES i, 29, 29⟩
abbrev F.CAN_TXRES_SERIAL (i : Nat) : Fld := ⟨Reg.CAN_TXRES i, 15, 0⟩
abbrev F.CAN_RXREL_OBJECT (i : Nat) : Fld := ⟨Reg.CAN_RXREL i, 5, 0⟩
abbrev F.CAN_RXSEL_OBJECT (i : Nat) : Fld := ⟨Reg.CAN_RXSEL i, 5, 0⟩
abbrev F.CAN_ABCTL_FOUND (i : Nat) : Fld := ⟨Reg.CAN_ABCTL i, 31, 31⟩
abbrev F.CAN_ABCTL_BUSY (i : Nat) : Fld := ⟨Reg.CAN_ABCTL i, 30, 30⟩
abbrev F.CAN_ABCTL_INDEX (i : Nat) : Fld := ⟨Reg.CAN_ABCTL i, 18, 16⟩
abbrev F.CAN_ABCTL_ABDWELL (i : Nat) : Fld := ⟨Reg.CAN_ABCTL i, 15, 8⟩
abbrev F.CAN_ABCTL_STOP (i : Nat) : Fld := ⟨Reg.CAN_ABCTL i, 1, 1⟩
abbrev F.CAN_ABCTL_GO (i : Nat) : Fld := ⟨Reg.CAN_ABCTL i, 0, 0⟩
abbrev F.CAN_ABCAND_BRP (i j : Nat) : Fld := ⟨Reg.CAN_ABCAND i j, 31, 24⟩
abbrev F.CAN_ABCAND_TSEG1 (i j : Nat) : Fld := ⟨Reg.CAN_ABCAND i j, 23, 16⟩
abbrev F.CAN_ABCAND_TSEG2 (i j : Nat) : Fld := ⟨Reg.CAN_ABCAND i j, 14, 8⟩
abbrev F.CAN_ABCAND_SJW (i j : Nat) : Fld := ⟨Reg.CAN_ABCAND i j, 6, 0⟩
abbrev F.CAN_TMCTL_TMEN (i : Nat) : Fld := ⟨Reg.CAN_TMCTL i, 31, 31⟩
abbrev F.CAN_TMCTL_CYCLE (i : Nat) : Fld := ⟨Reg.CAN_TMCTL i, 21, 16⟩
abbrev F.CAN_TMCTL_TMCYC (i : Nat) : Fld := ⟨Reg.CAN_TMCTL i, 15, 0⟩
abbrev F.CAN_TMID_IDE (i : Nat) : Fld := ⟨Reg.CAN_TMID i, 31, 31⟩
abbrev F.CAN_TMID_ID (i : Nat) : Fld := ⟨Reg.CAN_TMID i, 28, 0⟩
abbrev F.CAN_FID_EN (i j : Nat) : Fld := ⟨Reg.CAN_FID i j, 31, 31⟩
abbrev F.CAN_FID_IDE (i j : Nat) : Fld := ⟨Reg.CAN_FID i j, 30, 30⟩
abbrev F.CAN_FID_FID (i j : Nat) : Fld := ⟨Reg.CAN_FID i j, 28, 0⟩
abbrev F.CAN_FMASK_FMT (i j : Nat) : Fld := ⟨Reg.CAN_FMASK i j, 31, 30⟩
abbrev F.CAN_FMASK_MASK (i j : Nat) : Fld := ⟨Reg.CAN_FMASK i j, 28, 0⟩
abbrev F.UPD_STS_RUNBANK : Fld := ⟨Reg.UPD_STS, 31, 31⟩
abbrev F.UPD_STS_PENDING : Fld := ⟨Reg.UPD_STS, 30, 30⟩
abbrev F.UPD_STS_RECOVERY : Fld := ⟨Reg.UPD_STS, 29, 29⟩
abbrev F.UPD_STS_READY : Fld := ⟨Reg.UPD_STS, 28, 28⟩
abbrev F.UPD_STS_STARTED : Fld := ⟨Reg.UPD_STS, 27, 27⟩
abbrev F.UPD_STS_HOLD : Fld := ⟨Reg.UPD_STS, 26, 26⟩
abbrev F.UPD_STS_WINDOW_CLOSED : Fld := ⟨Reg.UPD_STS, 9, 9⟩
abbrev F.UPD_STS_WINDOW_CLOSED_L : Fld := ⟨Reg.UPD_STS, 8, 8⟩
abbrev F.UPD_STS_REVERTED : Fld := ⟨Reg.UPD_STS, 7, 7⟩
abbrev F.UPD_STS_REVERTED_L : Fld := ⟨Reg.UPD_STS, 6, 6⟩
abbrev F.UPD_STS_FALLBACK : Fld := ⟨Reg.UPD_STS, 5, 5⟩
abbrev F.UPD_STS_FALLBACK_L : Fld := ⟨Reg.UPD_STS, 4, 4⟩
abbrev F.UPD_STS_VERIFY_FAIL : Fld := ⟨Reg.UPD_STS, 3, 3⟩
abbrev F.UPD_STS_VERIFY_FAIL_L : Fld := ⟨Reg.UPD_STS, 2, 2⟩
abbrev F.UPD_STAGED_KIND : Fld := ⟨Reg.UPD_STAGED, 20, 16⟩
abbrev F.UPD_STAGED_DONE : Fld := ⟨Reg.UPD_STAGED, 4, 0⟩
abbrev F.UPD_WINLEFT_SEC : Fld := ⟨Reg.UPD_WINLEFT, 9, 0⟩
abbrev F.SEC_STS_LOCKED : Fld := ⟨Reg.SEC_STS, 17, 9⟩
abbrev F.SEC_STS_LOADED : Fld := ⟨Reg.SEC_STS, 8, 0⟩
abbrev F.SEC_MINVER_MINVER : Fld := ⟨Reg.SEC_MINVER, 4, 0⟩
abbrev F.SEC_KCTL_LOCK : Fld := ⟨Reg.SEC_KCTL, 9, 9⟩
abbrev F.SEC_KCTL_WRITE : Fld := ⟨Reg.SEC_KCTL, 8, 8⟩
abbrev F.SEC_KCTL_SLOT : Fld := ⟨Reg.SEC_KCTL, 3, 0⟩
abbrev F.THM_CTL_LIMIT : Fld := ⟨Reg.THM_CTL, 31, 24⟩
abbrev F.THM_CTL_METHOD : Fld := ⟨Reg.THM_CTL, 16, 16⟩
abbrev F.THM_CTL_N : Fld := ⟨Reg.THM_CTL, 12, 8⟩
abbrev F.THM_CTL_WOLEN : Fld := ⟨Reg.THM_CTL, 1, 0⟩
abbrev F.THM_STS_PSTATE : Fld := ⟨Reg.THM_STS, 31, 30⟩
abbrev F.THM_STS_BROKEN : Fld := ⟨Reg.THM_STS, 5, 5⟩
abbrev F.THM_STS_BROKEN_L : Fld := ⟨Reg.THM_STS, 4, 4⟩
abbrev F.THM_STS_WARN : Fld := ⟨Reg.THM_STS, 3, 3⟩
abbrev F.THM_STS_WARN_L : Fld := ⟨Reg.THM_STS, 2, 2⟩
abbrev F.THM_STS_THROTTLE : Fld := ⟨Reg.THM_STS, 1, 1⟩
abbrev F.THM_STS_THROTTLE_L : Fld := ⟨Reg.THM_STS, 0, 0⟩
abbrev F.THM_TRIM_SXTGATE : Fld := ⟨Reg.THM_TRIM, 19, 16⟩
abbrev F.THM_TRIM_CAN : Fld := ⟨Reg.THM_TRIM, 11, 9⟩
abbrev F.THM_TRIM_PEER : Fld := ⟨Reg.THM_TRIM, 8, 8⟩
abbrev F.THM_TRIM_PCIE : Fld := ⟨Reg.THM_TRIM, 7, 7⟩
abbrev F.THM_TRIM_ETH1 : Fld := ⟨Reg.THM_TRIM, 6, 6⟩
abbrev F.THM_TRIM_ETH0 : Fld := ⟨Reg.THM_TRIM, 5, 5⟩
abbrev F.THM_TRIM_AZM : Fld := ⟨Reg.THM_TRIM, 4, 4⟩
abbrev F.THM_TRIM_RING : Fld := ⟨Reg.THM_TRIM, 3, 0⟩
abbrev F.THM_CNT_THRTL : Fld := ⟨Reg.THM_CNT, 31, 16⟩
abbrev F.THM_CNT_CONFL : Fld := ⟨Reg.THM_CNT, 15, 0⟩
abbrev F.THM_DIE_TEMP (i : Nat) : Fld := ⟨Reg.THM_DIE i, 15, 0⟩
abbrev F.THM_TD_WARN (i : Nat) : Fld := ⟨Reg.THM_TD i, 31, 16⟩
abbrev F.THM_TD_TEMP (i : Nat) : Fld := ⟨Reg.THM_TD i, 15, 0⟩
abbrev F.THM_TH_WARN (i : Nat) : Fld := ⟨Reg.THM_TH i, 31, 16⟩
abbrev F.THM_TH_TEMP (i : Nat) : Fld := ⟨Reg.THM_TH i, 15, 0⟩
abbrev F.THM_TDCFG_ETA : Fld := ⟨Reg.THM_TDCFG, 15, 0⟩
abbrev F.THM_THCFG_BETA : Fld := ⟨Reg.THM_THCFG, 15, 0⟩
abbrev F.THM_SDLOG_VALID : Fld := ⟨Reg.THM_SDLOG, 31, 31⟩
abbrev F.THM_SDLOG_BROKEN : Fld := ⟨Reg.THM_SDLOG, 30, 30⟩
abbrev F.THM_SDLOG_SENSOR : Fld := ⟨Reg.THM_SDLOG, 18, 16⟩
abbrev F.THM_SDLOG_TEMP : Fld := ⟨Reg.THM_SDLOG, 15, 0⟩
abbrev F.LOG_STS_CLEARING : Fld := ⟨Reg.LOG_STS, 10, 10⟩
abbrev F.LOG_STS_TORN : Fld := ⟨Reg.LOG_STS, 9, 9⟩
abbrev F.LOG_STS_TORN_L : Fld := ⟨Reg.LOG_STS, 8, 8⟩
abbrev F.LOG_STS_OVERFLOW : Fld := ⟨Reg.LOG_STS, 7, 7⟩
abbrev F.LOG_STS_OVERFLOW_L : Fld := ⟨Reg.LOG_STS, 6, 6⟩
abbrev F.LOG_STS_WRAPPED : Fld := ⟨Reg.LOG_STS, 5, 5⟩
abbrev F.LOG_STS_WRAPPED_L : Fld := ⟨Reg.LOG_STS, 4, 4⟩
abbrev F.LOG_STS_CLEARED : Fld := ⟨Reg.LOG_STS, 3, 3⟩
abbrev F.LOG_STS_CLEARED_L : Fld := ⟨Reg.LOG_STS, 2, 2⟩
abbrev F.LOG_WINDOW_SEC : Fld := ⟨Reg.LOG_WINDOW, 11, 0⟩
abbrev F.WEAR_STS_SPARE_ADVISED : Fld := ⟨Reg.WEAR_STS, 7, 7⟩
abbrev F.WEAR_STS_SPARE_ADVISED_L : Fld := ⟨Reg.WEAR_STS, 6, 6⟩
abbrev F.WEAR_STS_SPARE_EXHAUSTED : Fld := ⟨Reg.WEAR_STS, 5, 5⟩
abbrev F.WEAR_STS_SPARE_EXHAUSTED_L : Fld := ⟨Reg.WEAR_STS, 4, 4⟩
abbrev F.WEAR_STS_REPAIR : Fld := ⟨Reg.WEAR_STS, 3, 3⟩
abbrev F.WEAR_STS_REPAIR_L : Fld := ⟨Reg.WEAR_STS, 2, 2⟩
abbrev F.WEAR_STS_FLUSH_FAIL : Fld := ⟨Reg.WEAR_STS, 1, 1⟩
abbrev F.WEAR_STS_FLUSH_FAIL_L : Fld := ⟨Reg.WEAR_STS, 0, 0⟩
abbrev F.WEAR_SEL_SECTION : Fld := ⟨Reg.WEAR_SEL, 26, 24⟩
abbrev F.WEAR_SEL_ITEM : Fld := ⟨Reg.WEAR_SEL, 15, 0⟩
abbrev F.PMC_CTL_RUN : Fld := ⟨Reg.PMC_CTL, 31, 31⟩
abbrev F.PMC_CTL_SNAPVALID : Fld := ⟨Reg.PMC_CTL, 30, 30⟩
abbrev F.PMC_CTL_SELERR : Fld := ⟨Reg.PMC_CTL, 29, 29⟩
abbrev F.PMC_CTL_CMD : Fld := ⟨Reg.PMC_CTL, 1, 0⟩
abbrev F.PMC_OVF_OVF : Fld := ⟨Reg.PMC_OVF, 23, 0⟩
abbrev F.PMC_SEL_CHAIN (i j : Nat) : Fld := ⟨Reg.PMC_SEL i j, 31, 31⟩
abbrev F.PMC_SEL_EVENT (i j : Nat) : Fld := ⟨Reg.PMC_SEL i j, 7, 0⟩
abbrev F.CLK_STS_PLL_LOCK : Fld := ⟨Reg.CLK_STS, 31, 31⟩
abbrev F.CLK_STS_PLL_UNLOCK : Fld := ⟨Reg.CLK_STS, 13, 13⟩
abbrev F.CLK_STS_PLL_UNLOCK_L : Fld := ⟨Reg.CLK_STS, 12, 12⟩
abbrev F.CLK_STS_CFG_REJ : Fld := ⟨Reg.CLK_STS, 11, 11⟩
abbrev F.CLK_STS_CFG_REJ_L : Fld := ⟨Reg.CLK_STS, 10, 10⟩
abbrev F.CLK_STS_CLKSTOP : Fld := ⟨Reg.CLK_STS, 9, 9⟩
abbrev F.CLK_STS_CLKSTOP_L : Fld := ⟨Reg.CLK_STS, 8, 8⟩
abbrev F.CLK_STS_CDC_RESYNC : Fld := ⟨Reg.CLK_STS, 7, 7⟩
abbrev F.CLK_STS_CDC_RESYNC_L : Fld := ⟨Reg.CLK_STS, 6, 6⟩
abbrev F.CLK_STS_CDC_FALLBACK : Fld := ⟨Reg.CLK_STS, 5, 5⟩
abbrev F.CLK_STS_CDC_FALLBACK_L : Fld := ⟨Reg.CLK_STS, 4, 4⟩
abbrev F.CLK_STS_CDC_TIMEOUT : Fld := ⟨Reg.CLK_STS, 3, 3⟩
abbrev F.CLK_STS_CDC_TIMEOUT_L : Fld := ⟨Reg.CLK_STS, 2, 2⟩
abbrev F.CLK_MON_STOPPED : Fld := ⟨Reg.CLK_MON, 16, 0⟩
abbrev F.CLK_TOINFO_XID : Fld := ⟨Reg.CLK_TOINFO, 20, 16⟩
abbrev F.CLK_TOINFO_COUNT : Fld := ⟨Reg.CLK_TOINFO, 15, 0⟩
abbrev F.CLK_XFB_FB : Fld := ⟨Reg.CLK_XFB, 21, 0⟩
abbrev F.CLK_XEVMODE_FIXED : Fld := ⟨Reg.CLK_XEVMODE, 21, 19⟩
abbrev F.CLK_XEVMODE_MODE : Fld := ⟨Reg.CLK_XEVMODE, 18, 0⟩
abbrev F.CLK_XRESYNC_RESYNC : Fld := ⟨Reg.CLK_XRESYNC, 21, 0⟩
abbrev F.CLK_XSTAT_STATE (i : Nat) : Fld := ⟨Reg.CLK_XSTAT i, 31, 30⟩
abbrev F.CLK_XSTAT_EVMODE (i : Nat) : Fld := ⟨Reg.CLK_XSTAT i, 29, 29⟩
abbrev F.CLK_XSTAT_DISC (i : Nat) : Fld := ⟨Reg.CLK_XSTAT i, 15, 0⟩

/-- The registers of block SYS. -/
def regTableSys : List RegRow := [
  ⟨0x0, 1, 0x100000, 1, 0x4, 0x640A100, 0x0, 0x0, false⟩,
  ⟨0x40, 1, 0x100000, 1, 0x4, 0x14000A, 0x80FF03FF, 0x0, false⟩,
  ⟨0x44, 1, 0x100000, 1, 0x4, 0x0, 0x0, 0x0, false⟩,
  ⟨0x48, 1, 0x100000, 1, 0x4, 0x0, 0x0, 0x2AAA, false⟩,
  ⟨0x4C, 1, 0x100000, 1, 0x4, 0x0, 0x0, 0x0, false⟩,
  ⟨0x50, 1, 0x100000, 5, 0x4, 0x1, 0xFFFFFFFF, 0x0, false⟩,
  ⟨0x80, 1, 0x100000, 1, 0x4, 0x0, 0x107, 0x0, false⟩,
  ⟨0x100, 1, 0x100000, 16, 0x4, 0x0, 0x0, 0x0, false⟩,
  ⟨0x140, 1, 0x100000, 1, 0x4, 0x0, 0x0, 0x0, false⟩,
  ⟨0x144, 1, 0x100000, 1, 0x4, 0x0, 0x0, 0x0, false⟩]

/-- The registers of block TIME. -/
def regTableTime : List RegRow := [
  ⟨0x2000, 1, 0x100000, 1, 0x4, 0x0, 0x0, 0x0, false⟩,
  ⟨0x2004, 1, 0x100000, 1, 0x4, 0x0, 0x0, 0x0, false⟩,
  ⟨0x2008, 1, 0x100000, 1, 0x4, 0x0, 0x0, 0x0, false⟩,
  ⟨0x200C, 1, 0x100000, 1, 0x4, 0x0, 0x0, 0x0, false⟩,
  ⟨0x2010, 1, 0x100000, 1, 0x4, 0x0, 0x0, 0x0, false⟩,
  ⟨0x2014, 1, 0x100000, 1, 0x4, 0x0, 0xFFFFFFFF, 0x0, false⟩,
  ⟨0x2020, 1, 0x100000, 1, 0x4, 0x640001, 0x3FFFF35, 0x0, false⟩,
  ⟨0x2024, 1, 0x100000, 1, 0x4, 0x0, 0x0, 0x7FA, false⟩,
  ⟨0x2028, 1, 0x100000, 1, 0x4, 0x0, 0x0, 0x0, false⟩,
  ⟨0x202C, 1, 0x100000, 1, 0x4, 0xFFFFFFFF, 0x0, 0x0, false⟩,
  ⟨0x2030, 1, 0x100000, 1, 0x4, 0xF4240, 0xFFFFFFFF, 0x0, false⟩,
  ⟨0x2034, 1, 0x100000, 1, 0x4, 0xF003E8, 0xFFFFFFFF, 0x0, false⟩,
  ⟨0x2040, 1, 0x100000, 1, 0x4, 0x0, 0x0, 0x0, false⟩,
  ⟨0x2044, 1, 0x100000, 1, 0x4, 0x0, 0x0, 0x0, false⟩,
  ⟨0x2048, 1, 0x100000, 1, 0x4, 0x25, 0xFFFF, 0x0, false⟩,
  ⟨0x2050, 1, 0x100000, 1, 0x4, 0x0, 0x0, 0x0, false⟩]

/-- The registers of block TRV. -/
def regTableTrv : List RegRow := [
  ⟨0x4000, 1, 0x100000, 1, 0x4, 0x0, 0xF, 0x0, false⟩,
  ⟨0x4010, 1, 0x100000, 4, 0x4, 0x0, 0x0, 0x3F0, false⟩,
  ⟨0x4020, 1, 0x100000, 8, 0x4, 0x0, 0x0, 0x60000000, false⟩,
  ⟨0x4040, 1, 0x100000, 1, 0x4, 0x180008, 0xFF00FF, 0x0, false⟩,
  ⟨0x4044, 1, 0x100000, 1, 0x4, 0x0, 0x0, 0x0, false⟩,
  ⟨0x4100, 1, 0x100000, 96, 0x4, 0x0, 0x0, 0x0, false⟩]

/-- The registers of block ACQ. -/
def regTableAcq : List RegRow := [
  ⟨0x6000, 1, 0x100000, 1, 0x4, 0x0, 0x3FF0000, 0x0, false⟩,
  ⟨0x6004, 1, 0x100000, 1, 0x4, 0x0, 0x0, 0x2AAAAAAA, false⟩,
  ⟨0x6008, 1, 0x100000, 1, 0x4, 0x0, 0x0, 0x0, false⟩,
  ⟨0x600C, 1, 0x100000, 1, 0x4, 0x7D1F40, 0x0, 0x0, false⟩,
  ⟨0x6010, 1, 0x100000, 1, 0x4, 0x0, 0x37, 0x0, false⟩,
  ⟨0x6014, 1, 0x100000, 2, 0x4, 0x0, 0x7FF, 0x0, false⟩,
  ⟨0x6020, 1, 0x100000, 2, 0x8, 0x0, 0xFFFFFF, 0x0, false⟩,
  ⟨0x6024, 1, 0x100000, 2, 0x8, 0x0, 0xFFFFFF, 0x0, false⟩,
  ⟨0x6030, 1, 0x100000, 1, 0x4, 0x30064, 0xFFFFFF, 0x0, false⟩,
  ⟨0x6034, 1, 0x100000, 1, 0x4, 0xA0014, 0xFF00FF, 0x0, false⟩,
  ⟨0x6038, 1, 0x100000, 1, 0x4, 0x1F4FFCE, 0xFFFFFFFF, 0x0, false⟩,
  ⟨0x603C, 1, 0x100000, 1, 0x4, 0x64220414, 0xFFFF0FFF, 0x0, false⟩,
  ⟨0x6040, 1, 0x100000, 1, 0x4, 0x0, 0x3F0000, 0x0, false⟩,
  ⟨0x6100, 1, 0x100000, 48, 0x4, 0x0, 0xFBFF0000, 0x0, false⟩,
  ⟨0x6200, 1, 0x100000, 48, 0x4, 0x0, 0xFFFFFFFF, 0x0, false⟩,
  ⟨0x6300, 1, 0x100000, 48, 0x4, 0x0, 0x0, 0x0, false⟩,
  ⟨0x6400, 1, 0x100000, 48, 0x4, 0x0, 0x0, 0x0, false⟩]

/-- The registers of block ALM. -/
def regTableAlm : List RegRow := [
  ⟨0x8000, 1, 0x100000, 1, 0x4, 0x0, 0x0, 0x0, false⟩,
  ⟨0x8004, 1, 0x100000, 1, 0x4, 0x0, 0x3FFFF, 0x0, false⟩,
  ⟨0x8008, 1, 0x100000, 1, 0x4, 0x0, 0x1FFFF, 0x0, false⟩,
  ⟨0x800C, 1, 0x100000, 1, 0x4, 0x0, 0xFFFFFFFF, 0x0, false⟩,
  ⟨0x8010, 1, 0x100000, 1, 0x4, 0x0, 0x0, 0x0, false⟩,
  ⟨0x8014, 1, 0x100000, 1, 0x4, 0x0, 0x1, 0x0, false⟩,
  ⟨0x8020, 1, 0x100000, 1, 0x4, 0x0, 0x0, 0x2AA, false⟩,
  ⟨0x8024, 1, 0x100000, 1, 0x4, 0x0, 0x0, 0x0, false⟩,
  ⟨0x8028, 1, 0x100000, 1, 0x4, 0x0, 0x0, 0x0, false⟩,
  ⟨0x802C, 1, 0x100000, 1, 0x4, 0x4, 0x0, 0x0, false⟩,
  ⟨0x8030, 1, 0x100000, 2, 0x4, 0x0, 0x0, 0xFFFFFFFF, false⟩,
  ⟨0x8040, 1, 0x100000, 2, 0x4, 0x0, 0x0, 0x0, false⟩,
  ⟨0x8048, 1, 0x100000, 2, 0x4, 0x0, 0x0, 0x0, false⟩,
  ⟨0x8050, 1, 0x100000, 2, 0x4, 0x0, 0x0, 0x0, false⟩,
  ⟨0x8100, 1, 0x100000, 64, 0x4, 0x0, 0x0, 0x0, false⟩]

/-- The registers of block SXT. -/
def regTableSxt : List RegRow := [
  ⟨0xA000, 1, 0x100000, 1, 0x4, 0x0, 0x80000008, 0x0, false⟩,
  ⟨0xA004, 1, 0x100000, 1, 0x4, 0x0, 0x0, 0x2AAA, false⟩,
  ⟨0xA008, 1, 0x100000, 1, 0x4, 0x19000000, 0x0, 0x0, false⟩,
  ⟨0xA00C, 1, 0x100000, 1, 0x4, 0x100010, 0x0, 0x0, false⟩,
  ⟨0xA010, 1, 0x100000, 1, 0x4, 0x0, 0x80000007, 0x0, true⟩,
  ⟨0xA014, 1, 0x100000, 1, 0x4, 0x0, 0x0, 0x0, false⟩,
  ⟨0xA018, 1, 0x100000, 1, 0x4, 0x0, 0x0, 0x0, false⟩,
  ⟨0xA01C, 1, 0x100000, 1, 0x4, 0x0, 0x0, 0x0, false⟩,
  ⟨0xA020, 1, 0x100000, 1, 0x4, 0xA, 0xFF, 0x0, false⟩,
  ⟨0xA040, 1, 0x100000, 1, 0x4, 0x80000000, 0x80000000, 0x0, false⟩,
  ⟨0xA044, 1, 0x100000, 1, 0x4, 0x0, 0x0, 0xAAA, false⟩,
  ⟨0xA048, 1, 0x100000, 1, 0x4, 0x6, 0x1F, 0x0, false⟩,
  ⟨0xA050, 1, 0x100000, 4, 0x4, 0x0, 0xFFFFFFFF, 0x0, false⟩,
  ⟨0xA060, 1, 0x100000, 4, 0x4, 0x3E8, 0x3FF, 0x0, false⟩,
  ⟨0xA070, 1, 0x100000, 1, 0x4, 0x0, 0x0, 0x0, false⟩,
  ⟨0xA074, 1, 0x100000, 1, 0x4, 0x0, 0x0, 0x0, false⟩]

/-- The registers of block AZM. -/
def regTableAzm : List RegRow := [
  ⟨0xC000, 1, 0x100000, 1, 0x4, 0x0, 0x80000F34, 0x0, false⟩,
  ⟨0xC004, 1, 0x100000, 1, 0x4, 0x0, 0x0, 0xAAAA, false⟩,
  ⟨0xC008, 1, 0x100000, 1, 0x4, 0x0, 0x0, 0x0, false⟩,
  ⟨0xC00C, 1, 0x100000, 1, 0x4, 0x0, 0x0, 0x0, false⟩,
  ⟨0xC010, 1, 0x100000, 1, 0x4, 0x0, 0x0, 0x0, false⟩,
  ⟨0xC014, 1, 0x100000, 1, 0x4, 0x1E0003E8, 0xFF00FFFF, 0x0, false⟩,
  ⟨0xC018, 1, 0x100000, 1, 0x4, 0x1F4, 0xFFFF, 0x0, false⟩,
  ⟨0xC020, 1, 0x100000, 4, 0x8, 0x0, 0x7FFF7FFF, 0x0, false⟩,
  ⟨0xC024, 1, 0x100000, 4, 0x8, 0x0, 0x7FFF, 0x0, false⟩,
  ⟨0xC040, 4, 0x20, 8, 0x4, 0x0, 0xFFFFFFFF, 0x0, false⟩,
  ⟨0xC100, 1, 0x100000, 16, 0x40, 0x0, 0xEFFFFFFF, 0x0, false⟩,
  ⟨0xC120, 16, 0x40, 8, 0x4, 0x0, 0xFFFE3FFF, 0x0, false⟩]

/-- The registers of block BAL. -/
def regTableBal : List RegRow := [
  ⟨0xD000, 1, 0x100000, 1, 0x4, 0x0, 0x80000011, 0x0, false⟩,
  ⟨0xD004, 1, 0x100000, 1, 0x4, 0x0, 0x0, 0xAAA, false⟩,
  ⟨0xD008, 1, 0x100000, 1, 0x4, 0xBB804E2, 0xFFFFFFFF, 0x0, false⟩,
  ⟨0xD00C, 1, 0x100000, 1, 0x4, 0xC80032, 0xFFFFFFFF, 0x0, false⟩,
  ⟨0xD010, 1, 0x100000, 1, 0x4, 0x29042134, 0xFFFFFFFF, 0x0, false⟩,
  ⟨0xD014, 1, 0x100000, 1, 0x4, 0xC8, 0x0, 0x0, false⟩,
  ⟨0xD018, 1, 0x100000, 1, 0x4, 0x1F4, 0xFFFF, 0x0, false⟩,
  ⟨0xD100, 1, 0x100000, 48, 0x4, 0x80000000, 0xFFFF, 0x0, false⟩,
  ⟨0xD200, 1, 0x100000, 48, 0x4, 0x0, 0x0, 0x0, false⟩,
  ⟨0xD300, 1, 0x100000, 816, 0x4, 0x1F4, 0x0, 0x0, false⟩]

/-- The registers of block HLM. -/
def regTableHlm : List RegRow := [
  ⟨0xE000, 1, 0x100000, 1, 0x4, 0x200000, 0xE0300000, 0x0, false⟩,
  ⟨0xE004, 1, 0x100000, 1, 0x4, 0x0, 0x0, 0xAAAAA, false⟩,
  ⟨0xE008, 1, 0x100000, 1, 0x4, 0x140009C4, 0xFF003FFF, 0x0, false⟩,
  ⟨0xE00C, 1, 0x100000, 1, 0x4, 0x6000003F, 0xFF, 0x0, false⟩,
  ⟨0xE010, 1, 0x100000, 1, 0x4, 0xF3330CCD, 0xFFFFFFFF, 0x0, false⟩,
  ⟨0xE014, 1, 0x100000, 1, 0x4, 0xC8, 0x3FFFFF, 0x0, false⟩,
  ⟨0xE018, 1, 0x100000, 1, 0x4, 0x0, 0xFFFFFFFF, 0x0, false⟩,
  ⟨0xE01C, 1, 0x100000, 1, 0x4, 0x0, 0xFFFF, 0x0, false⟩,
  ⟨0xE020, 1, 0x100000, 1, 0x4, 0x0, 0xFFFFFFFF, 0x0, false⟩,
  ⟨0xE024, 1, 0x100000, 1, 0x4, 0x0, 0xFFFFFFFF, 0x0, false⟩,
  ⟨0xE028, 1, 0x100000, 1, 0x4, 0x32, 0xFFFF, 0x0, false⟩,
  ⟨0xE02C, 1, 0x100000, 1, 0x4, 0x0, 0xFFFFFFFF, 0x0, false⟩,
  ⟨0xE030, 1, 0x100000, 1, 0x4, 0x0, 0xC000FFFF, 0x0, false⟩,
  ⟨0xE034, 1, 0x100000, 1, 0x4, 0x0, 0xFFFFFFFF, 0x0, false⟩,
  ⟨0xE038, 1, 0x100000, 1, 0x4, 0x0, 0xFFFFFFFF, 0x0, false⟩,
  ⟨0xE03C, 1, 0x100000, 1, 0x4, 0x0, 0x0, 0x0, false⟩,
  ⟨0xE040, 1, 0x100000, 1, 0x4, 0x0, 0xFFFFFFFF, 0x0, false⟩,
  ⟨0xE044, 1, 0x100000, 1, 0x4, 0x0, 0xFFFFFFFF, 0x0, false⟩,
  ⟨0xE048, 1, 0x100000, 1, 0x4, 0x3F800000, 0xFFFFFFFF, 0x0, false⟩,
  ⟨0xE04C, 1, 0x100000, 1, 0x4, 0x0, 0xFFFFFFFF, 0x0, false⟩,
  ⟨0xE050, 1, 0x100000, 1, 0x4, 0x0, 0xFFFFFFFF, 0x0, false⟩,
  ⟨0xE054, 1, 0x100000, 1, 0x4, 0x0, 0xFFFFFFFF, 0x0, false⟩,
  ⟨0xE058, 1, 0x100000, 1, 0x4, 0x0, 0xFFFFFFFF, 0x0, false⟩,
  ⟨0xE05C, 1, 0x100000, 1, 0x4, 0x0, 0xFFFFFFFF, 0x0, false⟩,
  ⟨0xE060, 1, 0x100000, 1, 0x4, 0x0, 0x0, 0x0, false⟩,
  ⟨0xE064, 1, 0x100000, 1, 0x4, 0x0, 0x0, 0x0, false⟩,
  ⟨0xE068, 1, 0x100000, 1, 0x4, 0x0, 0x0, 0x0, false⟩,
  ⟨0xE06C, 1, 0x100000, 1, 0x4, 0x0, 0x0, 0x0, false⟩,
  ⟨0xE070, 1, 0x100000, 1, 0x4, 0x0, 0x0, 0x0, false⟩,
  ⟨0xE074, 1, 0x100000, 1, 0x4, 0x0, 0x0, 0x0, false⟩,
  ⟨0xE078, 1, 0x100000, 1, 0x4, 0x0, 0x0, 0x0, false⟩,
  ⟨0xE080, 1, 0x100000, 11, 0x4, 0x0, 0xFFFFFFFF, 0x0, false⟩,
  ⟨0xE0B0, 1, 0x100000, 11, 0x4, 0x0, 0xFFF, 0x0, false⟩]

/-- The registers of block DSP. -/
def regTableDsp : List RegRow := [
  ⟨0xF000, 1, 0x100000, 1, 0x4, 0x0, 0xF0000003, 0x0, false⟩,
  ⟨0xF004, 1, 0x100000, 1, 0x4, 0x0, 0x0, 0x2AAA, false⟩,
  ⟨0xF008, 1, 0x100000, 1, 0x4, 0x1058000, 0xFFFFFFFF, 0x0, false⟩,
  ⟨0xF00C, 1, 0x100000, 1, 0x4, 0x157C1194, 0xFFFFFFFF, 0x0, false⟩,
  ⟨0xF010, 1, 0x100000, 1, 0x4, 0x3E80000, 0xFFFFFFFF, 0x0, false⟩,
  ⟨0xF014, 1, 0x100000, 1, 0x4, 0xFFFFFFFF, 0xFFFFFFFF, 0x0, false⟩,
  ⟨0xF018, 1, 0x100000, 1, 0x4, 0xFFFFFFFF, 0xFFFFFFFF, 0x0, false⟩,
  ⟨0xF01C, 1, 0x100000, 1, 0x4, 0x0, 0x0, 0x0, false⟩,
  ⟨0xF020, 1, 0x100000, 1, 0x4, 0x0, 0x0, 0x0, false⟩,
  ⟨0xF024, 1, 0x100000, 1, 0x4, 0x0, 0x0, 0x0, false⟩,
  ⟨0xF028, 1, 0x100000, 1, 0x4, 0x0, 0x0, 0x0, false⟩,
  ⟨0xF02C, 1, 0x100000, 1, 0x4, 0x0, 0x9FFFFFFF, 0x0, false⟩,
  ⟨0xF068, 1, 0x100000, 1, 0x4, 0x0, 0x9FFFFFFF, 0x0, false⟩,
  ⟨0xF06C, 1, 0x100000, 1, 0x4, 0x0, 0x9FFFFFFF, 0x0, false⟩,
  ⟨0xF030, 1, 0x100000, 1, 0x4, 0x61A8, 0xFFFF, 0x0, false⟩,
  ⟨0xF040, 1, 0x100000, 4, 0x4, 0x6414, 0xFE00FFFF, 0x0, false⟩,
  ⟨0xF050, 1, 0x100000, 4, 0x4, 0xFA009C4, 0xFFFFFFFF, 0x0, false⟩,
  ⟨0xF060, 1, 0x100000, 1, 0x4, 0x0, 0xFFFFFFFF, 0x0, false⟩,
  ⟨0xF064, 1, 0x100000, 1, 0x4, 0x0, 0x0, 0x0, false⟩,
  ⟨0xF070, 1, 0x100000, 1, 0x4, 0x3E801F4, 0xFFFFFFFF, 0x0, false⟩]

/-- The registers of block LDS. -/
def regTableLds : List RegRow := [
  ⟨0x10000, 1, 0x100000, 1, 0x4, 0x0, 0x0, 0x0, false⟩,
  ⟨0x10004, 1, 0x100000, 1, 0x4, 0x0, 0x0, 0x0, false⟩,
  ⟨0x10008, 1, 0x100000, 1, 0x4, 0x0, 0x0, 0x0, false⟩,
  ⟨0x1000C, 1, 0x100000, 1, 0x4, 0x0, 0x0, 0x0, false⟩,
  ⟨0x10010, 1, 0x100000, 1, 0x4, 0x0, 0x0, 0x0, false⟩,
  ⟨0x10014, 1, 0x100000, 1, 0x4, 0x0, 0x0, 0x0, false⟩,
  ⟨0x10018, 1, 0x100000, 1, 0x4, 0x0, 0x0, 0x0, false⟩,
  ⟨0x10020, 1, 0x100000, 4, 0x4, 0x0, 0x0, 0x0, false⟩]

/-- The registers of block BIN. -/
def regTableBin : List RegRow := [
  ⟨0x11000, 1, 0x100000, 1, 0x4, 0x0, 0xF, 0x0, false⟩,
  ⟨0x11004, 1, 0x100000, 1, 0x4, 0x0, 0x0, 0x2AA, false⟩,
  ⟨0x11008, 1, 0x100000, 1, 0x4, 0x0, 0x0, 0x0, false⟩,
  ⟨0x1100C, 1, 0x100000, 1, 0x4, 0x320A, 0x0, 0x0, false⟩]

/-- The registers of block RDN. -/
def regTableRdn : List RegRow := [
  ⟨0x12000, 1, 0x100000, 1, 0x4, 0x0, 0xC0000000, 0x0, false⟩,
  ⟨0x12004, 1, 0x100000, 1, 0x4, 0x0, 0x0, 0x2AAAA8, false⟩,
  ⟨0x12008, 1, 0x100000, 1, 0x4, 0x0, 0x0, 0x0, false⟩,
  ⟨0x1200C, 1, 0x100000, 1, 0x4, 0x0, 0x0, 0x0, false⟩,
  ⟨0x12010, 1, 0x100000, 1, 0x4, 0x0, 0x0, 0x0, false⟩,
  ⟨0x12014, 1, 0x100000, 1, 0x4, 0x0, 0x0, 0x0, false⟩,
  ⟨0x12018, 1, 0x100000, 1, 0x4, 0x0, 0x0, 0x0, false⟩,
  ⟨0x1201C, 1, 0x100000, 1, 0x4, 0x0, 0x0, 0x0, false⟩,
  ⟨0x12020, 1, 0x100000, 1, 0x4, 0x0, 0x0, 0x0, false⟩,
  ⟨0x12024, 1, 0x100000, 1, 0x4, 0x0, 0x0, 0x0, false⟩]

/-- The registers of block HOST. -/
def regTableHost : List RegRow := [
  ⟨0x3000, 1, 0x100000, 1, 0x4, 0x0, 0x0, 0x2AA, false⟩,
  ⟨0x3004, 1, 0x100000, 1, 0x4, 0x0, 0x0, 0x7F, false⟩,
  ⟨0x3008, 1, 0x100000, 1, 0x4, 0x0, 0x7F, 0x0, false⟩,
  ⟨0x300C, 1, 0x100000, 1, 0x4, 0x0, 0x0, 0xFF00, false⟩,
  ⟨0x3010, 1, 0x100000, 4, 0x4, 0x0, 0xFFFFFFFF, 0x0, false⟩,
  ⟨0x3020, 1, 0x100000, 4, 0x4, 0x0, 0x0, 0x0, false⟩,
  ⟨0x3030, 1, 0x100000, 1, 0x4, 0x0, 0x0, 0x0, false⟩,
  ⟨0x3040, 1, 0x100000, 1, 0x4, 0x0, 0x0, 0xFFFFFFFF, false⟩,
  ⟨0x3044, 1, 0x100000, 1, 0x4, 0x0, 0xFFFFFFFF, 0x0, false⟩,
  ⟨0x3048, 1, 0x100000, 1, 0x4, 0x0, 0x0, 0x0, false⟩,
  ⟨0x3050, 1, 0x100000, 1, 0x4, 0x0, 0xFFFF, 0x0, true⟩,
  ⟨0x3054, 1, 0x100000, 1, 0x4, 0x0, 0x0, 0x0, true⟩,
  ⟨0x3058, 1, 0x100000, 1, 0x4, 0x0, 0x0, 0x0, true⟩,
  ⟨0x305C, 1, 0x100000, 1, 0x4, 0x0, 0xFFFF, 0x0, true⟩,
  ⟨0x3060, 1, 0x100000, 1, 0x4, 0x0, 0x0, 0x0, false⟩,
  ⟨0x3064, 1, 0x100000, 1, 0x4, 0x0, 0xFFFF, 0x0, false⟩,
  ⟨0x3070, 1, 0x100000, 1, 0x4, 0x0, 0x0, 0x0, false⟩]

/-- The registers of block CAN. -/
def regTableCan : List RegRow := [
  ⟨0x13000, 3, 0x400, 1, 0x4, 0x0, 0xF8000000, 0x0, false⟩,
  ⟨0x13004, 3, 0x400, 1, 0x4, 0x0, 0x0, 0x2AAA, false⟩,
  ⟨0x13008, 3, 0x400, 1, 0x4, 0x7E1F1F, 0xFFFF7F7F, 0x0, false⟩,
  ⟨0x1300C, 3, 0x400, 1, 0x4, 0x1E0707, 0x1F1F0F0F, 0x0, false⟩,
  ⟨0x13010, 3, 0x400, 1, 0x4, 0x0, 0x8000007F, 0x0, false⟩,
  ⟨0x13014, 3, 0x400, 1, 0x4, 0x0, 0x0, 0x0, false⟩,
  ⟨0x13018, 3, 0x400, 1, 0x4, 0x0, 0x0, 0x0, false⟩,
  ⟨0x1301C, 3, 0x400, 1, 0x4, 0x0, 0x0, 0x0, false⟩,
  ⟨0x13020, 3, 0x400, 1, 0x4, 0x0, 0x0, 0x0, false⟩,
  ⟨0x13024, 3, 0x400, 1, 0x4, 0x0, 0x0, 0x0, false⟩,
  ⟨0x13080, 3, 0x400, 18, 0x4, 0x0, 0xFFFFFFFF, 0x0, true⟩,
  ⟨0x130D0, 3, 0x400, 1, 0x4, 0x0, 0x0, 0x0, false⟩,
  ⟨0x130D4, 3, 0x400, 1, 0x4, 0x0, 0x0, 0x0, false⟩,
  ⟨0x130D8, 3, 0x400, 1, 0x4, 0x0, 0x0, 0x0, true⟩,
  ⟨0x130E0, 3, 0x400, 2, 0x4, 0x0, 0x0, 0x0, false⟩,
  ⟨0x130E8, 3, 0x400, 2, 0x4, 0x0, 0x0, 0xFFFFFFFF, false⟩,
  ⟨0x130F0, 3, 0x400, 1, 0x4, 0x0, 0x0, 0x0, false⟩,
  ⟨0x130F4, 3, 0x400, 1, 0x4, 0x0, 0x3F, 0x0, true⟩,
  ⟨0x13100, 3, 0x400, 20, 0x4, 0x0, 0x0, 0x0, true⟩,
  ⟨0x13160, 3, 0x400, 1, 0x4, 0x1400, 0xFF00, 0x0, false⟩,
  ⟨0x13180, 3, 0x400, 1, 4, 0x3E0F0F, 0xFFFF7F7F, 0, false⟩,
  ⟨0x13184, 3, 0x400, 1, 4, 0x4E1313, 0xFFFF7F7F, 0, false⟩,
  ⟨0x13188, 3, 0x400, 1, 4, 0x7E1F1F, 0xFFFF7F7F, 0, false⟩,
  ⟨0x1318C, 3, 0x400, 1, 4, 0x17E1F1F, 0xFFFF7F7F, 0, false⟩,
  ⟨0x13190, 3, 0x400, 1, 4, 0x37E1F1F, 0xFFFF7F7F, 0, false⟩,
  ⟨0x13194, 3, 0x400, 1, 4, 0x47E1F1F, 0xFFFF7F7F, 0, false⟩,
  ⟨0x13198, 3, 0x400, 1, 4, 0x97E1F1F, 0xFFFF7F7F, 0, false⟩,
  ⟨0x1319C, 3, 0x400, 1, 4, 0x187E1F1F, 0xFFFF7F7F, 0, false⟩,
  ⟨0x131A0, 3, 0x400, 1, 0x4, 0x2710, 0x8000FFFF, 0x0, false⟩,
  ⟨0x131A4, 3, 0x400, 1, 0x4, 0x0, 0x9FFFFFFF, 0x0, false⟩,
  ⟨0x13200, 3, 0x400, 64, 0x8, 0x0, 0xDFFFFFFF, 0x0, false⟩,
  ⟨0x13204, 3, 0x400, 64, 0x8, 0x0, 0xDFFFFFFF, 0x0, false⟩]

/-- The registers of block UPD. -/
def regTableUpd : List RegRow := [
  ⟨0x14000, 1, 0x100000, 1, 0x4, 0x0, 0x0, 0x2A8, false⟩,
  ⟨0x14004, 1, 0x100000, 1, 0x4, 0x0, 0x0, 0x0, false⟩,
  ⟨0x14010, 1, 0x100000, 5, 0x4, 0x0, 0x0, 0x0, false⟩,
  ⟨0x14030, 1, 0x100000, 1, 0x4, 0x0, 0x0, 0x0, false⟩,
  ⟨0x14034, 1, 0x100000, 1, 0x4, 0x0, 0x0, 0x0, false⟩]

/-- The registers of block SEC. -/
def regTableSec : List RegRow := [
  ⟨0x19000, 1, 0x100000, 1, 0x4, 0x0, 0x0, 0x0, false⟩,
  ⟨0x19004, 1, 0x100000, 1, 0x4, 0x0, 0x0, 0x0, false⟩,
  ⟨0x19008, 1, 0x100000, 2, 0x4, 0x0, 0x0, 0x0, false⟩,
  ⟨0x19010, 1, 0x100000, 8, 0x4, 0x0, 0x0, 0x0, false⟩,
  ⟨0x19030, 1, 0x100000, 1, 0x4, 0x0, 0x0, 0x0, false⟩]

/-- The registers of block THM. -/
def regTableThm : List RegRow := [
  ⟨0x15000, 1, 0x100000, 1, 0x4, 0x6E000403, 0xFF011F03, 0x0, false⟩,
  ⟨0x15004, 1, 0x100000, 1, 0x4, 0x0, 0x0, 0x2A, false⟩,
  ⟨0x15008, 1, 0x100000, 1, 0x4, 0x0, 0x0, 0x0, false⟩,
  ⟨0x1500C, 1, 0x100000, 1, 0x4, 0x0, 0x0, 0x0, false⟩,
  ⟨0x15010, 1, 0x100000, 8, 0x4, 0x8000, 0x0, 0x0, false⟩,
  ⟨0x15030, 1, 0x100000, 4, 0x4, 0x1B588000, 0xFFFF0000, 0x0, false⟩,
  ⟨0x15040, 1, 0x100000, 8, 0x4, 0x1B588000, 0xFFFF0000, 0x0, false⟩,
  ⟨0x15060, 1, 0x100000, 1, 0x4, 0x2760, 0xFFFF, 0x0, false⟩,
  ⟨0x15064, 1, 0x100000, 1, 0x4, 0xD6B, 0xFFFF, 0x0, false⟩,
  ⟨0x15068, 1, 0x100000, 1, 0x4, 0x0, 0x0, 0x80000000, false⟩,
  ⟨0x15070, 1, 0x100000, 1, 0x4, 0x0, 0x0, 0x0, false⟩,
  ⟨0x15074, 1, 0x100000, 1, 0x4, 0x0, 0x0, 0x0, false⟩]

/-- The registers of block LOG. -/
def regTableLog : List RegRow := [
  ⟨0x16000, 1, 0x100000, 1, 0x4, 0x0, 0x0, 0x2A8, false⟩,
  ⟨0x16004, 1, 0x100000, 1, 0x4, 0x0, 0x0, 0x0, false⟩,
  ⟨0x16008, 1, 0x100000, 1, 0x4, 0x0, 0x0, 0x0, false⟩,
  ⟨0x1600C, 1, 0x100000, 1, 0x4, 0xA, 0xFFF, 0x0, false⟩,
  ⟨0x16010, 1, 0x100000, 1, 0x4, 0x0, 0x0, 0x0, false⟩,
  ⟨0x16020, 1, 0x100000, 1, 0x4, 0x0, 0xFFFFFFFF, 0x0, true⟩,
  ⟨0x16040, 1, 0x100000, 16, 0x4, 0x0, 0x0, 0x0, true⟩]

/-- The registers of block WEAR. -/
def regTableWear : List RegRow := [
  ⟨0x17000, 1, 0x100000, 1, 0x4, 0x0, 0x0, 0xAA, false⟩,
  ⟨0x17004, 1, 0x100000, 1, 0x4, 0x0, 0x700FFFF, 0x0, true⟩,
  ⟨0x17008, 1, 0x100000, 1, 0x4, 0x0, 0x0, 0x0, true⟩,
  ⟨0x1700C, 1, 0x100000, 1, 0x4, 0x0, 0x0, 0x0, false⟩,
  ⟨0x17010, 1, 0x100000, 1, 0x4, 0x0, 0x0, 0x0, false⟩]

/-- The registers of block PMC. -/
def regTablePmc : List RegRow := [
  ⟨0x18000, 1, 0x100000, 1, 0x4, 0x0, 0x0, 0x20000000, false⟩,
  ⟨0x18004, 1, 0x100000, 1, 0x4, 0x0, 0x0, 0xFFFFFF, false⟩,
  ⟨0x18100, 1, 0x100000, 3, 0x100, 0x0, 0x0, 0x0, false⟩,
  ⟨0x18104, 1, 0x100000, 3, 0x100, 0x0, 0x0, 0x0, false⟩,
  ⟨0x18108, 3, 0x100, 8, 0x8, 0x0, 0x0, 0x0, false⟩,
  ⟨0x1810C, 3, 0x100, 8, 0x8, 0x0, 0x0, 0x0, false⟩,
  ⟨0x18150, 3, 0x100, 8, 0x4, 0x0, 0x800000FF, 0x0, false⟩,
  ⟨0x18180, 3, 0x100, 18, 0x4, 0x0, 0x0, 0x0, false⟩]

/-- The registers of block CLK. -/
def regTableClk : List RegRow := [
  ⟨0x1000, 1, 0x100000, 1, 0x4, 0x0, 0x0, 0x2AA8, false⟩,
  ⟨0x1004, 1, 0x100000, 1, 0x4, 0x0, 0x0, 0x0, false⟩,
  ⟨0x1008, 1, 0x100000, 1, 0x4, 0x0, 0x0, 0x0, false⟩,
  ⟨0x1010, 1, 0x100000, 1, 0x4, 0x0, 0x3FFFFF, 0x0, false⟩,
  ⟨0x1014, 1, 0x100000, 1, 0x4, 0x80000, 0x7FFFF, 0x0, false⟩,
  ⟨0x1018, 1, 0x100000, 1, 0x4, 0x0, 0x0, 0x0, false⟩,
  ⟨0x1100, 1, 0x100000, 22, 0x4, 0x0, 0x0, 0x0, false⟩]

/-- The rows of the 4 KB or 8 KB block that holds BAR0 offset off (Table 24-1); a range with no block has none (R538). -/
def regBlock (off : Nat) : List RegRow :=
  match off / 0x1000 with
  | 0 => regTableSys
  | 1 => regTableClk
  | 2 => regTableTime
  | 3 => regTableHost
  | 4 => regTableTrv
  | 5 => regTableTrv
  | 6 => regTableAcq
  | 7 => regTableAcq
  | 8 => regTableAlm
  | 9 => regTableAlm
  | 10 => regTableSxt
  | 11 => regTableSxt
  | 12 => regTableAzm
  | 13 => regTableBal
  | 14 => regTableHlm
  | 15 => regTableDsp
  | 16 => regTableLds
  | 17 => regTableBin
  | 18 => regTableRdn
  | 19 => regTableCan
  | 20 => regTableUpd
  | 21 => regTableThm
  | 22 => regTableLog
  | 23 => regTableWear
  | 24 => regTablePmc
  | 25 => regTableSec
  | _ => []

/-- Does the row hold the register at this BAR0 offset? -/
def RegRow.covers (r : RegRow) (off : Nat) : Bool :=
  decide (r.base ≤ off) && decide ((off - r.base) / r.s1 < r.n1) && decide ((off - r.base) % r.s1 / r.s2 < r.n2)
    && (off - r.base) % r.s1 % r.s2 == 0

/-- The register index's row of a BAR0 offset, if any register stands there (R543). -/
def regRow (off : Nat) : Option RegRow := (regBlock off).find? (·.covers off)

/-- The store's key of a register's instance for master ID m (R539): each master of a per-master register has its own. -/
def masterKey (m off : Nat) : Nat := 0x100000 * m + off

/-- What a register that nothing has written reads as: its reset value. -/
def regReset (key : Nat) : Word :=
  match regRow (key % 0x100000) with
  | some r => r.reset
  | none => 0

end Sys2Proof.Machine
end

