-- ==== Sys2Proof/Config.lean ====
section
/-! DEFINITION. What the spec leaves to the implementation or states no value for: free values and fused constants. Each is opaque, so that nothing can be proved from a value of it. -/

namespace Sys2Proof

/-- The fresh values the model draws in order (a nonce, a session ID): the n-th is unconstrained. -/
opaque Config.freshNat : Nat → Nat

/-- Device serial, words 0 and 1, fused (SEC_SERIAL). -/
opaque Config.serial : Nat → Word

/-- MAC address words, fused (THM_MACLO, THM_MACHI). -/
opaque Config.mac : Nat → Word

/-- The filtered offset the servo shows after the offsets measured so far, newest first; the spec names no filter (TIME_OFFSET). -/
opaque Config.filteredOffset : List Int → Int

/-- The disciplined rate the servo reaches after the offsets measured so far; the spec states no servo law (R52, R53). -/
opaque Config.disciplinedRate : List Int → BitVec 32

/-- The slew the servo applies beside the disciplined rate, before the SLEWMAX bound (R53). -/
opaque Config.slew : List Int → Int

/-- Whether RVAR of the last 64 disciplined rates is the next 1/16 ppm above their standard deviation; the spec states no rounding (R55). -/
opaque Config.rvarUp : List Int → Bool

/-- Whether this is the second unit of a twin installation, whose rings attach to interface Y of the tiles: how the board wires it (R107). -/
opaque Config.secondUnit : Bool

/-- The header SEQ a tile chooses for its SNAPR of a snapshot; the spec leaves it to the originator (Table 3-1). -/
opaque Config.snaprSeq : Nat → Nat

/-- BAL_RW.RW after a qualifying edge: the old value and the sample as a fraction, 0.01 mΩ; the spec states no rounding of
rw + (sample - rw)/8 (R278). -/
opaque Config.wireUpdate : Nat → Int → Nat → BitVec 16

/-- Which neighbour of the exact value an elementary function (0 exp, 1 sin, 2 cos, 3 atan2, 4 the laws of R468) gives for its
arguments, true the one farther from zero; the spec states no rounding for them. -/
opaque Config.roundUp : Nat → List Nat → Bool

/-- Word j of a Logbook record whose line write was cut short, by INDEX: its CRC does not match (R484). -/
opaque Config.tornWord : Nat → Nat → Word

/-- RDN_DIGEST of the words that R372 lists, in the order the model lists them: the spec states no order for its CRC-32C. -/
opaque Config.digest : List Word → Word

/-- The 48 bytes of the root key hash fused at manufacture (R440). -/
opaque Config.rootHash : Nat → Nat

end Sys2Proof
end

