-- ==== Sys2Proof/Machine/Float.lean ====
section
/-! DEFINITION. IEEE 754 arithmetic on binary32 and binary64 by exact dyadic numbers, rounded to nearest, ties to even. -/

namespace Sys2Proof.Machine

/-- A floating-point value: not a number, an infinity, or (-1)^neg * m * 2^e. -/
inductive Fl where
  | nan
  | inf (neg : Bool)
  | fin (neg : Bool) (m : Nat) (e : Int)
  deriving DecidableEq, Repr

/-- A format: significand bits, the exponent of the smallest subnormal, and the exponent of the largest binade. -/
structure Fmt where
  p : Nat
  emin : Int
  emax : Int

def b32 : Fmt := ⟨24, -149, 127⟩
def b64 : Fmt := ⟨53, -1074, 1023⟩

/-- Bits of a natural number. -/
def bitLen (m : Nat) : Nat := if m = 0 then 0 else Nat.log2 m + 1

/-- m / 2^k rounded to nearest, ties to even; sticky tells that the exact value lies above m. -/
def rneShift (m k : Nat) (sticky : Bool) : Nat :=
  let q := m / 2 ^ k
  let r := m % 2 ^ k
  let half := 2 ^ k / 2
  if half < r ∨ (r = half ∧ (sticky = true ∨ q % 2 = 1)) then q + 1 else q

/-- Round an exact value to a format. -/
def roundFl (f : Fmt) (neg : Bool) (m : Nat) (e : Int) (sticky : Bool) : Fl :=
  if m = 0 then .fin neg 0 0
  else
    let q := max (e + bitLen m - f.p) f.emin
    let m1 := if q ≤ e then m * 2 ^ (e - q).toNat else rneShift m (q - e).toNat sticky
    if f.emax + 1 < q + bitLen m1 then .inf neg else .fin neg m1 q

/-- Signed integer value of a sign and magnitude. -/
def sgn (neg : Bool) (m : Nat) : Int := if neg then -(m : Int) else m

namespace Fl

def neg : Fl → Fl
  | nan => nan
  | inf s => inf (!s)
  | fin s m e => fin (!s) m e

def abs : Fl → Fl
  | nan => nan
  | inf _ => inf false
  | fin _ m e => fin false m e

def zero : Fl := fin false 0 0

def isZero : Fl → Bool
  | fin _ m _ => m == 0
  | _ => false

def isFinite : Fl → Bool
  | fin _ _ _ => true
  | _ => false

/-- The sign, true when negative. -/
def isNeg : Fl → Bool
  | nan => false
  | inf s => s
  | fin s _ _ => s

/-- An integer, exactly. -/
def ofInt (n : Int) : Fl := fin (decide (n < 0)) n.natAbs 0

/-- The dyadic number n * 2^e, exactly. -/
def ofScaled (n e : Int) : Fl := fin (decide (n < 0)) n.natAbs e

/-- Bring two finite values to one exponent: signed significands and the exponent. -/
def align (s1 : Bool) (m1 : Nat) (e1 : Int) (s2 : Bool) (m2 : Nat) (e2 : Int) : Int × Int × Int :=
  let e := min e1 e2
  (sgn s1 (m1 * 2 ^ (e1 - e).toNat), sgn s2 (m2 * 2 ^ (e2 - e).toNat), e)

def add (f : Fmt) : Fl → Fl → Fl
  | nan, _ => nan
  | _, nan => nan
  | inf a, inf b => if a = b then inf a else nan
  | inf a, _ => inf a
  | _, inf b => inf b
  | fin a m1 e1, fin b m2 e2 =>
    if m1 = 0 ∧ m2 = 0 then fin (a && b) 0 0
    else
      let r := align a m1 e1 b m2 e2
      roundFl f (decide (r.1 + r.2.1 < 0)) (r.1 + r.2.1).natAbs r.2.2 false

def sub (f : Fmt) (a b : Fl) : Fl := add f a b.neg

def mul (f : Fmt) : Fl → Fl → Fl
  | nan, _ => nan
  | _, nan => nan
  | inf a, inf b => inf (a != b)
  | inf a, fin b m _ => if m = 0 then nan else inf (a != b)
  | fin a m _, inf b => if m = 0 then nan else inf (a != b)
  | fin a m1 e1, fin b m2 e2 => roundFl f (a != b) (m1 * m2) (e1 + e2) false

def div (f : Fmt) : Fl → Fl → Fl
  | nan, _ => nan
  | _, nan => nan
  | inf _, inf _ => nan
  | inf a, fin b _ _ => inf (a != b)
  | fin a _ _, inf b => fin (a != b) 0 0
  | fin a m1 e1, fin b m2 e2 =>
    if m2 = 0 then (if m1 = 0 then nan else inf (a != b))
    else
      let k := f.p + 2 + bitLen m2
      let n := m1 * 2 ^ k
      roundFl f (a != b) (n / m2) (e1 - e2 - k) (n % m2 != 0)

def sqrt (f : Fmt) : Fl → Fl
  | nan => nan
  | inf s => if s then nan else inf false
  | fin s m e =>
    if m = 0 then fin s 0 0
    else if s then nan
    else
      let k := 2 * (f.p + 2) + (if e % 2 = 0 then 0 else 1)
      let n := m * 2 ^ k
      let r := isqrtBits n (bitLen n / 2 + 1) 0
      roundFl f false r ((e - k) / 2) (r * r != n)

/-- Is a below b (false where either is not a number)? -/
def lt : Fl → Fl → Bool
  | nan, _ => false
  | _, nan => false
  | inf a, inf b => a && !b
  | inf a, _ => a
  | _, inf b => !b
  | fin a m1 e1, fin b m2 e2 => let r := align a m1 e1 b m2 e2; decide (r.1 < r.2.1)

def le : Fl → Fl → Bool
  | nan, _ => false
  | _, nan => false
  | a, b => !(lt b a)

def eqv (a b : Fl) : Bool := le a b && le b a

/-- max and min as a program computes them: a where the comparison holds. -/
def maxF (a b : Fl) : Fl := if lt a b then b else a
def minF (a b : Fl) : Fl := if lt b a then b else a
def clampF (lo hi v : Fl) : Fl := maxF lo (minF hi v)

/-- sign as an integer, sign(0) = 0. -/
def sign : Fl → Int
  | nan => 0
  | inf s => if s then -1 else 1
  | fin s m _ => if m = 0 then 0 else if s then -1 else 1

/-- Value in a format, rounded. -/
def round (f : Fmt) : Fl → Fl
  | fin s m e => roundFl f s m e false
  | v => v

/-- The nearest integer, halves away from zero; 0 for a value that is not finite. -/
def toIntAway : Fl → Int
  | fin s m e => if 0 ≤ e then sgn s (m * 2 ^ e.toNat) else sgn s ((2 * m + 2 ^ (-e).toNat) / (2 * 2 ^ (-e).toNat))
  | _ => 0

/-- The largest integer at or below the value; 0 for a value that is not finite. -/
def floorInt : Fl → Int
  | fin s m e => if 0 ≤ e then sgn s (m * 2 ^ e.toNat) else (sgn s m) / (2 ^ (-e).toNat : Nat)
  | _ => 0

/-- The value of an encoding with the given exponent and significand widths. -/
def ofBits (f : Fmt) (w : Nat) (bits : Nat) : Fl :=
  let fw := f.p - 1
  let s := bits / 2 ^ (w - 1) % 2 == 1
  let ex := bits / 2 ^ fw % 2 ^ (w - 1 - fw)
  let fr := bits % 2 ^ fw
  if ex = 2 ^ (w - 1 - fw) - 1 then (if fr = 0 then inf s else nan)
  else if ex = 0 then fin s fr f.emin
  else fin s (fr + 2 ^ fw) (f.emin + ex - 1)

/-- The encoding of a value of the format: a quiet NaN for what is not a number. -/
def toBits (f : Fmt) (w : Nat) (v : Fl) : Nat :=
  let fw := f.p - 1
  let top := 2 ^ (w - 1 - fw) - 1
  match round f v with
  | nan => top * 2 ^ fw + 2 ^ (fw - 1)
  | inf s => b2n s * 2 ^ (w - 1) + top * 2 ^ fw
  | fin s m e =>
    if m = 0 then b2n s * 2 ^ (w - 1)
    else
      let q := max (e + bitLen m - f.p) f.emin
      let sig := if q ≤ e then m * 2 ^ (e - q).toNat else m / 2 ^ (q - e).toNat
      if sig < 2 ^ fw then b2n s * 2 ^ (w - 1) + sig
      else b2n s * 2 ^ (w - 1) + (q - f.emin + 1).toNat * 2 ^ fw + (sig - 2 ^ fw)

/-- A binary32 register value, and the word of a value rounded to binary32. -/
def ofWord (w : Word) : Fl := ofBits b32 32 w.toNat
def toWord (v : Fl) : Word := nw (toBits b32 32 v)

/-- A decimal constant n / d in a format. -/
def dec (f : Fmt) (n : Int) (d : Nat) : Fl := div f (ofInt n) (ofInt d)

end Fl

end Sys2Proof.Machine
end

