-- ==== Sys2Proof/Machine/State.lean ====
section
/-! DEFINITION. The state of the SX640 as plain data, the reasons a command can stop, and the state right after reset. -/

namespace Sys2Proof.Machine

/-! ## Epochs and the coherent state space (01_architecture.md) -/

/-- An item of the coherent state space, named by the word and the bit of its STALE bit (R26). -/
abbrev ItemId := Nat × Nat

/-- A contribution on its way to the commit unit (R24): the epoch it belongs to, its producer, the Dial instant from which
it can arrive, the item and the words of the state space it gives. -/
structure Contribution where
  serial : Nat
  src : Producer
  ready : Nat
  item : ItemId
  words : List (Nat × Word)
  /-- the producer has no new value: the item is carried forward with STALE (R140, R142) -/
  stale : Bool := false
  deriving DecidableEq, Repr

/-- One epoch from its opening boundary to its commit (R20, R24, R544). -/
structure EpochRec where
  serial : Nat
  start : Nat
  period : Nat
  deadline : Nat
  clamped : Bool
  en : Bool
  /-- the profile it opened under (R44) -/
  prof : Nat
  snaps : Nat
  scheduled : List ItemId
  arrived : List Contribution
  deriving DecidableEq, Repr

/-- A single-parameter override (R45, Table 17-3): parameter ID and value. -/
structure Override where
  id : Nat
  value : Nat
  deriving DecidableEq, Repr

structure EpochSt where
  /-- the open epoch -/
  opn : EpochRec
  /-- the epochs whose closing boundary has passed and whose commit is still to come, oldest first: one, but for a period that has
  become shorter than a deadline in force (R25) -/
  closing : List EpochRec
  /-- contributions that have not reached the commit unit -/
  flight : List Contribution
  /-- the front window's words, by word index of Table 16-3, once an epoch has committed -/
  front : Store
  /-- window B is the front window -/
  frontB : Bool
  /-- an epoch has committed since reset -/
  committed : Bool
  /-- items that the last commit marked STALE -/
  staleItems : List ItemId
  /-- Dial instant of the last commit -/
  lastCommit : Nat
  /-- serials of the epochs that closed without committing because they opened with EN 0 (R544) -/
  dead : List Nat
  /-- the profile in force (R44) -/
  prof : Nat
  /-- lock owners, master IDs, 0 free -/
  locks : Tab Nat
  /-- locks released in a PERI cycle: lock, former owner, cycle (R41) -/
  freed : List (Nat × Nat × Nat)
  /-- overrides in force, oldest first -/
  ovr : List Override
  /-- overrides accepted for the next boundary, in order of acceptance -/
  ovrNew : List Override
  /-- CLEAR_OVERRIDES accepted for the next boundary -/
  ovrClear : Bool
  deriving DecidableEq, Repr

/-! ## Time (02_time.md) -/

/-- The discipline states of Table 2-3, with the codes of TIME_PTPSTS.STATE. -/
inductive Servo where
  | free | acquiring | locked | holdover
  deriving DecidableEq, Repr

/-- A foreign master seen on a port: its Announce data, the Dial instants of its last two Announces and of its last Sync. -/
structure Foreign where
  ann : Announce
  last : Nat
  prev : Option Nat
  lastSync : Nat
  deriving DecidableEq, Repr

structure TimeSt where
  /-- Meridian in units of 2^-40 ns -/
  mer : Nat
  /-- rate that the servo's slew adds to RATE, in units of 2^-40 -/
  slew : Int
  /-- RATE has been disciplined since reset -/
  disciplined : Bool
  servo : Servo
  foreign : List Foreign
  /-- selected master: port and grandmaster identity -/
  sel : Option (Nat × Nat)
  /-- offsets measured since measurement started, newest first -/
  offsets : List Int
  /-- offsets measured towards the median of four -/
  fresh4 : List Int
  /-- disciplined rates, newest first, at most 64 -/
  rates : List Int
  within : Nat
  beyond : Nat
  /-- filtered |offset| at entry to HOLDOVER and the Dial instant of entry -/
  u0 : Nat
  holdAt : Nat
  /-- the RTC in 10^-6 ns since 1970 (UTC), running, and its valid flag: VBAT domain -/
  rtc : Nat
  rtcRun : Bool
  rtcValid : Bool
  /-- Dial instant of the last rewrite of the RTC since LOCKED was entered (R63) -/
  rtcAt : Option Nat
  /-- Calendar does not fall below this ms value, except at a Meridian step (R65) -/
  calFloor : Nat
  /-- latched high words, by master key of the register (R49) -/
  latch : Store
  /-- Dial instant of the carrier's latest valley -/
  valleyAt : Nat
  /-- PTP messages the device has sent in answer: port and sequence ID of each Pdelay_Resp, newest first -/
  pdelayResp : List (Nat × Nat)
  deriving DecidableEq, Repr

/-! ## Logbook (21_logbook_wear_counters.md) -/

/-- An event on its way to the Logbook writer, with its stamps (R480). -/
structure LogEv where
  code : Nat
  sev : Nat
  inst : Word
  payload : List Word
  calv : Bool
  cal : Nat
  dial : Nat
  epoch : Word
  deriving DecidableEq, Repr

/-- A Logbook record (Table 21-1) and, for R482, the Dial instant of its last occurrence and whether it was written since the
present start. -/
structure LogRec where
  index : Nat
  ev : LogEv
  repsat : Bool
  rept : Nat
  lastDlt : Nat
  lastAt : Nat
  thisStart : Bool
  /-- its line write was cut short, so its CRC does not match (R484) -/
  torn : Bool
  deriving DecidableEq, Repr

structure LogSt where
  recs : Tab (Option LogRec)
  oldest : Nat
  newest : Nat
  queue : List LogEv
  /-- events lost since the last LOG_OVERFLOW record -/
  lost : Nat
  /-- INDEX of the LOG_CLEARED record whose erasure runs (R486) -/
  clearing : Option Nat
  deriving DecidableEq, Repr


/-- The epoch open at Dial 0 after reset: it opens with EN 0 and never commits (R20, R544). -/
def EpochRec.first : EpochRec :=
  { serial := 0, start := 0, period := 10000000, deadline := 20, clamped := false, en := false, prof := 0, snaps := 0, scheduled := [], arrived := [] }

def EpochSt.reset : EpochSt :=
  { opn := EpochRec.first, closing := [], flight := [], front := [], frontB := false, committed := false, staleItems := [],
    lastCommit := 0, dead := [], prof := 0, locks := [], freed := [], ovr := [], ovrNew := [], ovrClear := false }

def TimeSt.reset : TimeSt :=
  { mer := 37000000000 * 2 ^ 40, slew := 0, disciplined := false, servo := .free, foreign := [], sel := none, offsets := [],
    fresh4 := [], rates := [], within := 0, beyond := 0, u0 := 0, holdAt := 0, rtc := 0, rtcRun := false, rtcValid := false, rtcAt := none,
    calFloor := 0, latch := [], valleyAt := 0, pdelayResp := [] }

def LogSt.reset : LogSt := { recs := [], oldest := 1, newest := 0, queue := [], lost := 0, clearing := none }

/-! ## Traverse: rings, ports and tiles (03_traverse.md) -/

/-- The ring states of Table 3-3, with the codes of TRV_RINGSTS.STATE. -/
inductive RingState where
  | down | training | loading | arming | closed | openRing | degraded | lost | fault
  deriving DecidableEq, Repr

/-- Who issued a tile CMD, and for which slot (R545). -/
inductive CmdUse where
  | openWire (t : Nat)
  | balset (t mask : Nat)
  | dieTemp (t : Nat)
  | armstat (t : Nat)
  deriving DecidableEq, Repr

/-- A CMD that awaits its RESP: the frame, its use, the retries made, and the Dial instant its end symbol departed (R87). -/
structure Outst where
  frame : Frame
  use : CmdUse
  retries : Nat
  sentAt : Option Nat
  deriving DecidableEq, Repr

/-- A tile load in progress on a port: HOP of its frames and the next image offset; LOADEND follows the last (R96). -/
structure LoadJob where
  hop : Nat
  off : Nat
  deriving DecidableEq, Repr

structure Port where
  up : Bool
  upSince : Nat
  /-- the frame in progress and the queued frames in order -/
  busy : Option Frame
  queue : List Frame
  load : List LoadJob
  outst : List Outst
  nextSeq : Nat
  deriving DecidableEq, Repr

def Port.idle : Port :=
  { up := false, upSince := 0, busy := none, queue := [], load := [], outst := [], nextSeq := 0 }

/-- What a reachability check was started for: to see a change, to leave ARMING, or to return to CLOSED (Table 3-3). -/
inductive CheckAim where
  | look | leave | restore
  deriving DecidableEq, Repr

structure Ring where
  state : RingState
  fails : Nat
  /-- training from one end only -/
  openFrom : Option Nat
  /-- the enumeration of the attempt has passed and delays are being measured -/
  measuring : Bool
  n : Nat
  /-- counts that the running enumeration or reachability check has obtained from each end -/
  k0 : Option Nat
  k1 : Option Nat
  checking : Bool
  aim : CheckAim
  /-- loop time Lp of the closed-ring ENUM, 1/16 ns -/
  lp : Nat
  /-- Dial of the PROFILE injection of ARMING, and TSYNC periods since -/
  armAt : Option Nat
  tsyncs : Nat
  lostAt : Nat
  /-- every link of the ring has been up since this Dial instant -/
  allUp : Option Nat
  /-- response windows, newest first: start and end -/
  windows : List (Nat × Nat)
  /-- departure of the ring's last SAMPLE (R97) -/
  lastSample : Option Nat
  /-- a PROFILE injection is due for an entry into ARMING or a tile's boot, and Dial of the last one (R98) -/
  profDue : Bool
  profAt : Nat
  /-- Dial of the last ARMSTAT poll in the present ARMING (Table 3-3) -/
  pollAt : Option Nat
  deriving DecidableEq, Repr

def Ring.reset : Ring :=
  { state := .down, fails := 0, openFrom := none, measuring := false, n := 0, k0 := none, k1 := none, checking := false, aim := .look, lp := 0, armAt := none,
    tsyncs := 0, lostAt := 0, allUp := none, windows := [], lastSample := none, profDue := false, profAt := 0, pollAt := none }

/-- Sums over the 64 ECHOs from one end: count, round trips, residences, in 1/16 ns (R91). -/
structure EchoSum where
  cnt : Nat
  rtt : Nat
  res : Nat
  deriving DecidableEq, Repr

/-- What Traverse and Lodestone know of the tile in a slot. -/
structure TileKnown where
  booted : Bool
  failed : Bool
  loadFails : Nat
  /-- a fresh tile whose delays are being measured (R546) -/
  fresh : Bool
  e0 : EchoSum
  e1 : EchoSum
  /-- reported ARMED with ARMCRC equal to PROFCRC since the PROFILE injection -/
  armOk : Bool
  /-- Dial of the last valid ARMCRC, and whether the last one read was bad (R100) -/
  armAt : Nat
  armBad : Bool
  /-- COMP_TRIP or ALERT COMPARATOR seen last -/
  comp : Bool
  deriving DecidableEq, Repr

def TileKnown.reset : TileKnown :=
  { booted := false, failed := false, loadFails := 0, fresh := false, e0 := ⟨0, 0, 0⟩, e1 := ⟨0, 0, 0⟩, armOk := false, armAt := 0,
    armBad := false, comp := false }

/-- A sample a tile has scheduled (R86, R114): the conversions still to take, those taken, newest first. -/
structure Sched where
  target : Nat
  seq : Nat
  ovs : Bool
  quiet : Bool
  late : Bool
  /-- the interface that carried the SAMPLE -/
  iface : Nat
  remaining : Nat
  convs : List Conversion
  deriving DecidableEq, Repr

/-- A BALSET a tile holds: S and end instant on tile time in ns, mask (R262), and whether a phase change has opened the switches
and not yet closed those of the new phase (R260). -/
structure BalCmd where
  s0 : Nat
  fin : Option Nat
  mask : Nat
  opened : Bool
  deriving DecidableEq, Repr

/-- One of a tile's two traverse interfaces (R107): link state toward each end, home end, hop and one-way delay (1/16 ns)
from each end (R82, R92). -/
structure TileIf where
  up0 : Bool
  up1 : Bool
  home : Nat
  hop0 : Nat
  hop1 : Nat
  d0 : Nat
  d1 : Nat
  /-- the tile passes the toggle of the fault loop beside this ring; otherwise its loop output is static (R97, R101) -/
  loop : Bool
  deriving DecidableEq, Repr

def TileIf.down : TileIf := { up0 := false, up1 := false, home := 0, hop0 := 0, hop1 := 0, d0 := 0, d1 := 0, loop := false }

/-- A TW16 tile. Its links are numbered 2 * interface + the end they lead toward. -/
structure Tile where
  powered : Bool
  ncell : Nat
  x : TileIf
  y : TileIf
  /-- tile time minus Dial, 1/16 ns -/
  ofs : Int
  /-- the interface whose TSYNC was used last, and the Dial instant of that use -/
  iface : Nat
  syncAt : Nat
  /-- TSYNCs from the new home end still to be used (R95) -/
  retrain : Nat
  rom : Bool
  /-- image bytes by offset, and the end of the highest block stored -/
  img : Store
  imgLen : Nat
  imgOk : Bool
  thr : List Nat
  armed : Bool
  trip : Bool
  /-- consecutive conversions, up to 4, with each cell beyond OV or UV, and with every cell inside (R101, R331) -/
  ovCount : List Nat
  calm : Nat
  dieHot : Bool
  /-- samples still to take, oldest SAMPLE first -/
  sched : List Sched
  /-- readings that wait for the response slot -/
  result : Option (Sched × Conversion)
  /-- start and end of the latest response window on tile time, ns -/
  win : Nat × Nat
  /-- RESP and ALERT frames held, oldest first, each with the link it leaves on -/
  held : List (Nat × Frame)
  lastSeq : Option Nat
  lastResp : Option Frame
  /-- an open-wire command: mask, S on tile time in ns, settling time in ms -/
  sinkCmd : Option (Nat × Nat × Nat)
  sinks : Nat
  bal : Option BalCmd
  /-- tile time of the last BALSET received, ns -/
  balAt : Nat
  /-- the switches closed by the BALSETs, whether a quiet window holds every switch open (R273), and the instant of the last
  conversion of a sample without QUIET (R275) -/
  sw : Nat
  quietOpen : Bool
  conv : Option Nat
  crcErr : Nat
  frameErr : Nat
  /-- frames sent, with the link they left on, newest first -/
  tx : List (Nat × Frame)
  deriving DecidableEq, Repr

def Tile.unpowered : Tile :=
  { powered := false, ncell := 0, x := TileIf.down, y := TileIf.down, ofs := 0, iface := 0, syncAt := 0, retrain := 0, rom := true,
    img := [], imgLen := 0, imgOk := false, thr := [], armed := false, trip := false, ovCount := [], calm := 0, dieHot := false, sched := [],
    result := none, win := (0, 0), held := [], lastSeq := none, lastResp := none, sinkCmd := none, sinks := 0, bal := none,
    balAt := 0, sw := 0, quietOpen := false, conv := none, crcErr := 0, frameErr := 0, tx := [] }

structure TrvSt where
  ports : Tab Port
  rings : Tab Ring
  known : Tab TileKnown
  tiles : Tab Tile
  /-- the millisecond of Dial whose TSYNCs have been queued last (R94) -/
  tsyncAt : Option Nat
  deriving DecidableEq, Repr

def TrvSt.reset : TrvSt := { ports := [], rings := [], known := [], tiles := [], tsyncAt := none }

/-! ## Acquisition (04_acquisition.md) -/

/-- An accepted SNAPR of one tile in one snapshot. -/
structure SnaprRec where
  armed : Bool
  late : Bool
  retrain : Bool
  mt : Int
  temps : List Int
  /-- raw 24-bit containers (R117) -/
  cells : List Nat
  deriving DecidableEq, Repr

/-- A snapshot from its SNAP to its close (R112, R115). -/
structure Snap where
  seq : Nat
  target : Nat
  ovs : Bool
  /-- sampled in quiet-window mode: its SAMPLEs carry QUIET (R273) -/
  quiet : Bool
  /-- the modulator its current comes from (R125) -/
  src : Nat
  /-- serial of the epoch that holds its target, once that has closed (R20) -/
  serial : Option Nat
  winEnd : Nat
  got : Tab (Option SnaprRec)
  /-- codes of MOD0 and MOD1, each with whether its span ended before a fault was declared (R124) -/
  code0 : Option (Int × Bool)
  code1 : Option (Int × Bool)
  deriving DecidableEq, Repr

/-- The classes of Table 4-2. -/
inductive OwClass where
  | clean | wire (w : Nat) | cellStep | sumOnly | unclassified
  deriving DecidableEq, Repr

/-- What an open-wire test is for (R132, R136, R137). -/
inductive OwUse where
  | suspect | retest | sweepEven | sweepOdd
  deriving DecidableEq, Repr

/-- An open-wire test from its decision to the end of its window (R133). -/
structure OwTest where
  use : OwUse
  mask : Nat
  s0 : Nat
  settle : Nat
  recover : Nat
  respOk : Bool
  /-- the test snapshot has decided the wires -/
  decided : Bool
  pre : Option (List Nat)
  /-- end of the test window once the test snapshot has its target -/
  fin : Option Nat
  deriving DecidableEq, Repr

/-- What Acquisition keeps for a slot. -/
structure AcqSlot where
  /-- the configuration taken into use by APPLY -/
  ncell : Nat
  basep : Nat
  tmap : Nat
  inService : Bool
  /-- the start-up sweep is still to run or running (R137) -/
  sweep : Bool
  /-- the sweep's window for even wires has ended -/
  sweepOdd : Bool
  clean : Option (List Nat)
  cls : OwClass
  run : Nat
  sumRun : Nat
  missed : Nat
  silent : Bool
  last : Option SnaprRec
  lastTarget : Nat
  sumErr : Bool
  subst : Bool
  test : Option OwTest
  /-- the last test window or sweep that has ended: wires, start and end (R135) -/
  window : Option (Nat × Nat × Nat)
  /-- wires that wait for a retest of the confirmed ones -/
  retest : Nat
  nacc : Nat
  deriving DecidableEq, Repr

def AcqSlot.reset : AcqSlot :=
  { ncell := 0, basep := 0, tmap := 0, inService := false, sweep := false, sweepOdd := false, clean := none, cls := .clean, run := 0, sumRun := 0,
    missed := 0, silent := false, last := none, lastTarget := 0, sumErr := false, subst := false, test := none, window := none, retest := 0, nacc := 0 }

/-- What Acquisition accumulates for a position over the epoch, and keeps over epochs (R138). -/
structure PosAcc where
  sum : Int
  n : Nat
  last : Int
  mean : Int
  reason : Nat
  btCorr : Bool
  late : Bool
  /-- the reading of the last closed snapshot, 10 µV, when it was valid -/
  reading : Option Int
  /-- the cell's temperature at that snapshot, 0.01 °C, when a thermistor was valid (R111) -/
  temp : Option Int
  deriving DecidableEq, Repr

def PosAcc.reset : PosAcc :=
  { sum := 0, n := 0, last := 0, mean := 0, reason := 7, btCorr := false, late := false, reading := none, temp := none }

/-- The state of one modulator's supervision (R124). -/
structure ModSt where
  fault : Bool
  /-- Dial of the declaration -/
  faultAt : Nat
  /-- consecutive snapshots without a fault condition, and with a saturated code -/
  good : Nat
  sat : Nat
  /-- a stuck bitstream was seen since the last snapshot -/
  stuck : Bool
  deriving DecidableEq, Repr

structure AcqSt where
  npos : Nat
  slots : Tab AcqSlot
  pos : Tab PosAcc
  snaps : List Snap
  nextSeq : Nat
  lastTarget : Option Nat
  /-- accepted targets of the open and the closing epoch -/
  targets : List Nat
  /-- serial of the epoch the accumulators belong to -/
  serial : Nat
  firstSeq : Nat
  lastSeq : Nat
  lastTgt : Nat
  curSum : Int
  curN : Nat
  curLast : Int
  /-- the current of the last closed snapshot, mA, when valid -/
  curNow : Option Int
  curMean : Int
  vstrSum : Int
  vstrN : Nat
  /-- the epoch mean of the sum of module totals of the last delivered epoch, mV -/
  vstring : Int
  mods : Tab ModSt
  /-- source in use, 0 MOD0, 1 MOD1 -/
  src : Nat
  disRun : Nat
  disagree : Bool
  /-- string-sum check: the means delivered for closing epochs in 100 µV by serial, and the serials of the epochs in which a
  configured tile was out of service (R128) -/
  sumMean : List (Nat × Int)
  outIn : List Nat
  deriving DecidableEq, Repr

def ModSt.reset : ModSt := { fault := false, faultAt := 0, good := 0, sat := 0, stuck := false }

def AcqSt.reset : AcqSt :=
  { npos := 0, slots := [], pos := [], snaps := [], nextSeq := 0, lastTarget := none, targets := [], serial := 0, firstSeq := 0,
    lastSeq := 0, lastTgt := 0, curSum := 0, curN := 0, curLast := 0, curNow := none, curMean := 0,
    vstrSum := 0, vstrN := 0, vstring := 0, mods := [], src := 0,
    disRun := 0, disagree := false, sumMean := [], outIn := [] }

/-! ## Balancing (10_balancing.md) -/

structure BalSlot where
  /-- the last mask confirmed by the tile and the Dial instant it was sent -/
  okMask : Nat
  okAt : Nat
  /-- the mask last sent, when, its S and its end, and the mask before it -/
  cmdMask : Nat
  cmdAt : Nat
  cmdS : Nat
  cmdEnd : Option Nat
  prevMask : Nat
  /-- commanded switches that have changed: Dial instants and inputs, newest last (R279) -/
  edges : List (Nat × Nat)
  unsure : Bool
  hot : Bool
  susp : Bool
  /-- last die temperature, 0.01 °C, and whether it is known -/
  td : Option Int
  nmax : Nat
  /-- eligible inputs of the latest plan in order of falling excess, lowest p first among equals, and the candidates among them -/
  order : List Nat
  cands : List Nat
  /-- for wire learning (R278): the raw readings and the mask in force at the tile's last snapshot, when all were valid -/
  prevRaw : Option (List Nat × Nat)
  deriving DecidableEq, Repr

def BalSlot.reset : BalSlot :=
  { okMask := 0, okAt := 0, cmdMask := 0, cmdAt := 0, cmdS := 0, cmdEnd := none, prevMask := 0, edges := [], unsure := false, hot := false,
    susp := false, td := none, nmax := 0, order := [], cands := [], prevRaw := none }

structure BalSt where
  /-- phase 0 or 1 in force since S, and its end -/
  phase : Option Nat
  s0 : Nat
  fin : Option Nat
  /-- launched changes that have not reached their S, oldest first: phase to start (none stops), S and end -/
  next : List (Option Nat × Nat × Option Nat)
  /-- Dial of the last BALSETs of a phase start or refresh, and of the last die temperature poll (R262, R268) -/
  sentAt : Nat
  pollAt : Option Nat
  /-- the phase started last, none after reset -/
  lastPh : Option Nat
  slots : Tab BalSlot
  /-- candidate positions of the latest plan -/
  cand : List Nat
  prevCur : Option Int
  /-- the balancing parameters in use, by register offset (R17) -/
  use : Store
  deriving DecidableEq, Repr

def BalSt.reset : BalSt := { phase := none, s0 := 0, fin := none, next := [], sentAt := 0, pollAt := none, lastPh := none, slots := [], cand := [], prevCur := none, use := [] }

/-! ## Almanac (05_almanac_isa.md, 06_almanac_programs.md) -/

/-- What the issue stage keeps for a watch, in FAB cycles: the first in which it may issue, one from which the results it needs are
there whatever their latency (Table 5-9), the one a YIELD gives up (R174), and a wait that LT's target has ended, with the cycle of
its end (R163). -/
structure Gate where
  from_ : Nat
  sure : Nat
  yield : Option Nat
  ended : Option (Nat × Wait)
  deriving DecidableEq, Repr

def Gate.reset : Gate := { from_ := 0, sure := 0, yield := none, ended := none }

/-- A watch that a KILL has halted: the FAB cycle at whose end that takes effect, the watch as it stood, the actions cancelled (R173). -/
structure Dying where
  w : Nat
  cyc : Nat
  was : Watch
  n : Nat
  deriving DecidableEq, Repr

/-- A SPAWN of the present FAB cycle: the watch named, the spawner, the cycle, the named watch as it stood (R173). -/
structure Spawned where
  w : Nat
  by_ : Nat
  cyc : Nat
  was : Watch
  deriving DecidableEq, Repr

/-- An access to data memory in the present FAB cycle (R152): word, watch (64 for the host), the value of a store, and for a load the
register, or the master, that takes the word. -/
structure MemAcc where
  idx : Nat
  who : Nat
  st : Option Word
  rd : Nat
  deriving DecidableEq, Repr

structure AlmSt where
  watches : Tab Watch
  gates : Tab Gate
  /-- the FAB cycle of the last issues, with watch, priority and rank of each, and for each priority the watch its round starts at (R182) -/
  cyc : Nat
  issued : List (Nat × Nat × Nat)
  round : Tab Nat
  dying : List Dying
  spawned : List Spawned
  /-- the FAB cycle of the last data memory accesses, these in order of service, and each word before that cycle -/
  accCyc : Nat
  accs : List MemAcc
  accBase : List (Nat × Word)
  /-- program and data memory by word index -/
  pmem : Store
  dmem : Store
  /-- actions armed so far -/
  order : Nat
  /-- the FAB cycle after the last set of each event flag (R186), and after the last in which it woke a watch (R163) -/
  evAt : Tab Nat
  evWoke : Tab Nat
  deriving DecidableEq, Repr

def AlmSt.reset : AlmSt :=
  { watches := [], gates := [], cyc := 0, issued := [], round := [], dying := [], spawned := [], accCyc := 0, accs := [], accBase := [],
    pmem := [], dmem := [], order := 0, evAt := [], evWoke := [] }

/-! ## Sextant and the learned store (07_sextant.md, 08_learning.md) -/

/-- A cell's reading at an update snapshot: 10 µV when valid, BT_CORR, REASON, and its thermistor temperature in 0.01 °C when valid. -/
structure SxtCell where
  reading : Option Int
  bt : Bool
  reason : Nat
  temp : Option Int
  deriving DecidableEq, Repr

/-- One update of the contexts, from the close of its update snapshot (R199): its target and the one before, the snapshots
between with their currents in mA where valid, the readings, the sum and count of the valid thermistors of each tile, the ready
instant, the epoch it is scheduled in once one qualifies (R201), the contexts done and what they have delivered. The time before a
snapshot in gaps has not been observed (R210); lanes is L when the update started (R200); held is what has been computed under the
tables of before a boundary and not been delivered yet, by context, the string section under 1024 (R17). -/
structure SxtJob where
  target : Nat
  prev : Option Nat
  snaps : List (Nat × Option Int)
  gaps : List Nat
  lanes : Nat
  cells : List SxtCell
  tiles : List (Int × Nat)
  ready : Nat
  /-- it is the first update after EN, and PRERESTED acts from it -/
  first : Bool
  prest : Bool
  serial : Option Nat
  done : List Nat
  out : List (ItemId × List (Nat × Word))
  held : List (Nat × List (ItemId × List (Nat × Word)))
  deriving DecidableEq, Repr

/-- What Sextant keeps beside a context: a first estimate is due (R205), the present invalid interval has had REASON 1, 2 or 6, a
valid temperature has been used (R203), PRERESTED acts (R206), consecutive updates that agree (R211), CAPL at the learn-full event
(R223). -/
structure SxtSide where
  needFirst : Bool
  invBad : Bool
  tOk : Bool
  prest : Bool
  agree : Nat
  capl0 : Word
  deriving DecidableEq, Repr

def SxtSide.reset : SxtSide := { needFirst := false, invBad := false, tOk := false, prest := false, agree := 0, capl0 := 0 }

structure SxtSt where
  /-- Sextant memory by word: contexts, descriptor images, position map, staging area -/
  mem : Store
  /-- descriptor images and map in use -/
  use : Store
  side : Tab SxtSide
  /-- snapshots closed since the last update snapshot, newest first -/
  hist : List (Nat × Option Int)
  /-- target of the last update snapshot -/
  prev : Option Nat
  /-- the next closed snapshot is an update snapshot (after EN or a profile change) -/
  fresh : Bool
  /-- an update has started since EN became 1 -/
  started : Bool
  /-- PRERESTED waits for the first update after EN -/
  prest : Bool
  jobs : List SxtJob
  /-- a takeover: the time up to the next snapshot counts as unobserved (R210) -/
  gap : Bool
  /-- snapshots of hist before which a time has not been observed -/
  gaps : List Nat
  /-- lanes available since the last update snapshot: healthy and not gated (R200) -/
  lanes : Nat
  /-- SXT_LRNV and SXT_LRNSPAN in use, by descriptor (R17, R218) -/
  lrnUse : List (Word × Word)
  dapply : Bool
  /-- RESTORE (with the accepted image), NOMINAL and EXPORT accepted for the boundary -/
  restore : Option Store
  nominal : Bool
  doExport : Bool
  exports : Nat
  /-- journal slots A and B in MRAM, by word (R227) -/
  slotA : Store
  slotB : Store
  /-- the save in progress: slot (0 A, 1 B) and the header it ends with -/
  save : Option (Nat × List Word)
  /-- the trigger that waits for a save to start, by its TRIG code -/
  trig : Option Nat
  /-- no save starts: BROWN_N is low or has not been high for 100 ms (R230) -/
  hold : Bool
  /-- Dial of the last completed save -/
  savedAt : Nat
  /-- SEQ of the last completed save (R227) -/
  savedSeq : Word
  deriving DecidableEq, Repr

def SxtSt.reset : SxtSt :=
  { mem := [], use := [], side := [], hist := [], prev := none, fresh := true, started := false, prest := false, jobs := [], gap := false,
    gaps := [], lanes := 16, lrnUse := List.replicate 4 (0, 0x3E8), dapply := false, restore := none, nominal := false, doExport := false, exports := 0, slotA := [], slotB := [], save := none,
    trig := none, hold := false, savedAt := 0, savedSeq := 0 }

/-! ## Azimuth (09_azimuth.md) -/

/-- A tone plan in use: its header word and its eight tone words. -/
structure Plan where
  hdr : Word
  tones : List Word
  deriving DecidableEq, Repr

/-- A calibration set in use: CALA, CALB and the eight TCAL words. -/
structure Calib where
  a : Word
  b : Word
  tcal : List Word
  deriving DecidableEq, Repr

/-- An excitation window (R244): its copied plan and the plan's number, t0 in 2^-40 ns of Meridian, its length in ms (none:
unbounded), and whether it is the INDIGO automatic window. -/
structure AzmWin where
  plan : Plan
  num : Nat
  t0 : Nat
  len : Option Nat
  auto : Bool
  deriving DecidableEq, Repr

/-- A snapshot of a block: its target on Meridian (2^-40 ns) and on Dial, the current in mA, and per position the reading in
10 µV. -/
structure AzmSample where
  tau : Nat
  tgt : Nat
  cur : Option Int
  pos : List (Option Int)
  deriving DecidableEq, Repr

/-- One position of a correlated block: its Z at each tone, whether each is valid, ROHM and CT in ohm, TINT in 0.01 °C, and its flags. -/
structure AzmCell where
  z : List (Fl × Fl)
  valid : List Bool
  rohm : Option Fl
  ct : Option Fl
  tint : Option Int
  balsw : Bool
  trange : Bool
  nmiss : Nat
  deriving DecidableEq, Repr

/-- A correlated block: the string section and the configured positions. -/
structure AzmResult where
  cur : List (Fl × Fl)
  curOk : Bool
  noexc : List Bool
  meanCur : Rat
  m : Nat
  cells : List (Nat × AzmCell)
  deriving DecidableEq, Repr

/-- A block from its start to its ready instant (R247, R255): samples newest first, whether the clamp or derating acted, the Dial
target of its last snapshot once that has closed, the serial of the epoch it is scheduled in. -/
structure AzmJob where
  win : AzmWin
  b : Nat
  zscale : Nat
  samples : List AzmSample
  clip : Bool
  ended : Bool
  lastTgt : Option Nat
  serial : Option Nat
  result : Option AzmResult
  deriving DecidableEq, Repr

/-- What Azimuth keeps for a position: the last TINT with the Meridian end of its block and the one before it, the previous
qualifying block's CT and start, PTREND in ohm per hour, ZSCALE of that block, PLAT_RISK. -/
structure AzmPos where
  tint : Option (Int × Nat)
  ctPrev : Option (Fl × Nat)
  ptrend : Fl
  zs : Nat
  risk : Bool
  deriving DecidableEq, Repr

structure AzmSt where
  plans : Tab Plan
  cals : Tab Calib
  papply : Bool
  win : Option AzmWin
  susp : Bool
  /-- ended windows in their end ramp, with the Meridian instant they ended at -/
  tails : List (AzmWin × Nat)
  jobs : List AzmJob
  /-- no block that starts before this Meridian instant is measured -/
  from_ : Nat
  /-- Dial at which a window length last elapsed (R244) -/
  elapsed : Option Nat
  pos : Tab AzmPos
  deriving DecidableEq, Repr

def Plan.none_ : Plan := { hdr := 0, tones := List.replicate 8 0 }
def Calib.none_ : Calib := { a := 0, b := 0, tcal := List.replicate 8 0 }
def AzmPos.reset : AzmPos := { tint := none, ctPrev := none, ptrend := Fl.zero, zs := 0, risk := false }
def AzmSt.reset : AzmSt :=
  { plans := [], cals := [], papply := false, win := none, susp := false, tails := [], jobs := [], from_ := 0, elapsed := none, pos := [] }

/-! ## Helm (11_helm.md) -/

/-- A host write or an Almanac launch on its way into the reference chain (R302): Dial of the write, what it gives (0 HOSTI, 1 VSET,
2 class, 3 RCTGT), the value, and whether Almanac launched it. -/
structure SpWrite where
  at_ : Nat
  sel : Nat
  v : Word
  alm : Bool
  deriving DecidableEq, Repr

/-- A coefficient write that has not taken effect (R291): Dial of the write, the coefficient (0 KP to 7 KIV), the value. -/
structure CoefWrite where
  at_ : Nat
  idx : Nat
  v : Word
  deriving DecidableEq, Repr

/-- A leg's compare value: the one in use until Dial loadAt, and the one its shadow gives from then on (R283). -/
structure LegCmp where
  old : Nat
  new : Nat
  loadAt : Nat
  deriving DecidableEq, Repr

/-- VSTR over an epoch (R288): the exact sum, the samples, and whether every condition has held. -/
structure VstrAcc where
  sum : Rat
  n : Nat
  ok : Bool
  deriving DecidableEq, Repr

structure HlmSt where
  /-- Dial of the carrier's start, and the half-period in force -/
  carrierAt : Nat
  cper : Nat
  /-- RUN has been accepted and the entry of Table 11-4 waits for the next sample -/
  entry : Bool
  rs : Rat
  hold : Rat
  side : Int
  x : Fl
  xv : Fl
  iv : Fl
  yf : Fl
  cls : Nat
  hosti : Word
  hostv : Word
  rctgt : Word
  sp : List SpWrite
  coefQ : List CoefWrite
  coefs : Store
  vs1 : Fl
  vl1 : Fl
  /-- SPA of the previous sample: code and value -/
  spaCode : Nat
  spa : Fl
  srcFault : Bool
  srcBad : Nat
  srcGood : Nat
  /-- yf takes the next valid input -/
  yfLoad : Bool
  /-- the latest SPP measurement: period and high time in HELM cycles, and the Dial of its end -/
  sppPer : Nat
  sppHigh : Nat
  sppAt : Nat
  /-- samples since the last run of the outer loop, and the OVDEC in force -/
  ovn : Nat
  ovdec : Nat
  vloop : Bool
  /-- computed duties as compare values by leg ordinal, and the Dial at which they latch -/
  duties : List Nat
  latchAt : Nat
  legs : Tab LegCmp
  vstr : VstrAcc
  /-- VSTR over the epoch that closed last -/
  vstrC : VstrAcc
  /-- shortfall in mA·ms: since reset, and of the open epoch; a conflict sample in the open epoch (R311) -/
  short : Rat
  shortEp : Rat
  conflict : Bool
  /-- the same of the epoch that closed last -/
  shortC : Rat
  conflictC : Bool
  deriving DecidableEq, Repr

def VstrAcc.empty : VstrAcc := { sum := 0, n := 0, ok := false }

def HlmSt.reset : HlmSt :=
  { carrierAt := 0, cper := 2500, entry := false, rs := 0, hold := 0, side := 0, x := Fl.zero, xv := Fl.zero, iv := Fl.zero,
    yf := Fl.zero, cls := 2, hosti := 0, hostv := 0, rctgt := 0, sp := [], coefQ := [], coefs := [], vs1 := Fl.zero, vl1 := Fl.zero,
    spaCode := 0, spa := Fl.zero, srcFault := false, srcBad := 0, srcGood := 0, yfLoad := false, sppPer := 0, sppHigh := 0, sppAt := 0,
    ovn := 0, ovdec := 4, vloop := false, duties := [], latchAt := 0, legs := [], vstr := VstrAcc.empty, vstrC := VstrAcc.empty,
    short := 0, shortEp := 0, conflict := false, shortC := 0, conflictC := false }

/-! ## Power limits, cooling and HVAC (12_dispatch.md) -/

structure DspSt where
  /-- consecutive committed epochs whose Sextant string limits were STALE (R308) -/
  staleRun : Nat
  /-- TMAX and TMIN of the last commit, 0.01 °C, when valid (R305) -/
  tmax : Option Int
  tmin : Option Int
  /-- automatic duties in force by output, % (R318) -/
  auto : Tab Nat
  /-- falls that wait: Dial since which the computed duty has stayed below the one in force, and the highest computed since -/
  fall : Tab (Option (Nat × Nat))
  /-- last commanded HVAC mode and demand, the frame sequence, the last status byte -/
  hvMode : Nat
  hvDem : Nat
  hvSeq : Nat
  hvSt : Nat
  /-- Dial of the last HVAC frame queued and of the last status frame -/
  hvSentAt : Option Nat
  hvRxAt : Nat
  deriving DecidableEq, Repr

def DspSt.reset : DspSt :=
  { staleRun := 0, tmax := none, tmin := none, auto := [], fall := [], hvMode := 0, hvDem := 0, hvSeq := 0, hvSt := 0,
    hvSentAt := none, hvRxAt := 0 }

/-! ## Lodestone (13_safety_functions.md, 14_safety_io.md) -/

/-- What an output stage is doing besides the levels LDS_OUTn shows. -/
inductive OutPhase where
  | rest | energizing | releasing
  deriving DecidableEq, Repr

/-- The off-pulse of an output: none, a switch open, or pulse over and its last check due. -/
inductive OutPulse where
  | none | open_ | ended
  deriving DecidableEq, Repr

/-- One output stage (R356, R357, R361). -/
structure OutSt where
  phase : OutPhase
  /-- checks of the sequence already made, and the tick the sequence counts from -/
  step : Nat
  from_ : Nat
  /-- the first switch of the de-energize sequence: 0 high side, 1 low side, 2 both at once -/
  first : Nat
  /-- the check at 2 ticks is skipped -/
  skip2 : Bool
  /-- the running sequence has failed a check -/
  failed : Bool
  pulse : OutPulse
  /-- side of the pulse in progress and of the next one: the low-side switch -/
  pulseLow : Bool
  nextLow : Bool
  /-- tick at which the last energize sequence ended -/
  since : Nat
  /-- ticks energized since then -/
  age : Nat
  /-- Dial since which the request waits for the twin's report (R377) -/
  twinWait : Option Nat
  deriving DecidableEq, Repr

def OutSt.reset : OutSt :=
  { phase := .rest, step := 0, from_ := 0, first := 0, skip2 := false, failed := false, pulse := .none, pulseLow := false,
    nextLow := false, since := 0, age := 0, twinWait := none }

structure LdsSt where
  /-- power-up has ended (R519) -/
  up : Bool
  /-- Lodestone ticks since then -/
  tick : Nat
  outs : Tab OutSt
  /-- the last seal read before the latest one -/
  sealPrev : Nat
  /-- consecutive ticks with a FAB count out of range (R336) -/
  fabBad : Nat
  /-- Binnacle held in reset -/
  binHeld : Bool
  /-- heartbeat supervision and Pilot watchdog running (R444), and the tick from which the 500-tick bound counts -/
  hbSup : Bool
  wdSup : Bool
  supFrom : Nat
  /-- a device reset has suspended the heartbeat supervision, so LPERMIT substitutes for BPERMIT -/
  hbSubst : Bool
  hbLast : Option Nat
  /-- tick of the last watchdog service and of the last write of RDN_CTL.HB -/
  wdAt : Nat
  rhbAt : Option Nat
  /-- level of REF_HB -/
  refHb : Bool
  /-- SAFE_B is high -/
  safeB : Bool
  /-- overcurrent comparators tripped (bit 0 A, bit 1 B), the tick of the trip, and whether the contactors tripped with it -/
  oc : Nat
  ocAt : Nat
  ocAll : Bool
  /-- outputs that a Binnacle demand named -/
  binMask : Nat
  /-- consecutive hot ticks of LTH0 to LTH3 -/
  lth : Tab Nat
  /-- pairs whose channels have demanded together since DISCREPANCY latched; tick edges since each disagreement began -/
  both : Nat
  dis : Tab Nat
  /-- the value of RDN_CTL.TWIN Lodestone holds (R343) -/
  twin : Bool
  /-- outputs the twin reports energized (R377) -/
  twinEnerg : Nat
  /-- the oscillator has stopped (Table 22-1): every drive removed until power-on reset -/
  oscStop : Bool
  /-- Dial of a voltage-limit CONV_EN trip of Binnacle that an open trip follows (Table 13-5) -/
  binDelay : Option Nat
  deriving DecidableEq, Repr

def LdsSt.reset : LdsSt :=
  { up := false, tick := 0, outs := [], sealPrev := 0, fabBad := 0, binHeld := false, hbSup := false, wdSup := false, supFrom := 0,
    hbSubst := false, hbLast := none, wdAt := 0, rhbAt := none, refHb := false, safeB := false, oc := 0, ocAt := 0, ocAll := false,
    binMask := 0, lth := [], both := 0, dis := [], twin := false, twinEnerg := 0, oscStop := false, binDelay := none }

/-! ## Binnacle's checks (13_safety_functions.md, Table 13-5) -/

/-- What Binnacle has received of a cell's last block beside TINT: ROHM and CT in ohm where valid, and PLAT_RISK (R258). -/
structure BinCell where
  rohm : Option Fl
  ct : Option Fl
  risk : Bool
  deriving DecidableEq, Repr

def BinCell.reset : BinCell := { rohm := none, ct := none, risk := false }

/-- What Binnacle keeps for its checks: consecutive snapshots of each position beyond the profile's and its own limits, the
readings of the last second at low current (target and 10 µV, newest first), the start of a current beyond the limits, the
temperatures of past epochs (Dial; per slot the four thermistors and Tc in 0.01 °C), the Dial instants at which a tile met the
thermal precursor and at which EMPTY or FULL with current began at a position, the last TINT of a position with the Meridian end
of its block, and consecutive low insulation estimates. -/
structure BinSt where
  plaus : Tab Nat
  vlim : Tab Nat
  falls : Tab (List (Nat × Int))
  limFrom : Option Nat
  temps : List (Nat × List (Nat × List (Option Int)))
  thermAt : Tab (Option Nat)
  socFrom : Tab (Option Nat)
  tint : Tab (Option (Int × Nat))
  isoRun : Nat
  /-- Dial at which Acquisition last reported a cell step of a slot's tile (R132) -/
  stepAt : Tab (Option Nat)
  cells : Tab BinCell
  deriving DecidableEq, Repr

def BinSt.reset : BinSt :=
  { plaus := [], vlim := [], falls := [], limFrom := none, temps := [], thermAt := [], socFrom := [], tint := [], isoRun := 0, stepAt := [],
    cells := [] }

/-! ## Twin operation (15_redundancy.md) -/

/-- PEER lanes up, the last mirror applied (standby, and after a takeover) and the Dial of its application, the Dial of the raw rise
of REF_GRANT, an AUTORUN request that is still due, the twin's seal, whether carried items of the next commit are older than the
twin's last commit (R29), and the Dial at which the mirror being sent completes. -/
structure RdnSt where
  lanes : Nat
  mir : Option Mirror
  mirAt : Nat
  riseAt : Nat
  autorun : Bool
  peerSeal : Nat
  stale : Bool
  sendAt : Option Nat
  deriving DecidableEq, Repr

def RdnSt.reset : RdnSt :=
  { lanes := 0, mir := none, mirAt := 0, riseAt := 0, autorun := false, peerSeal := 0, stale := false, sendAt := none }

/-! ## Host interfaces (16_host_interface.md) -/

/-- A UDP session (R400, R401): session ID, key material and nonces as byte lists, the highest SEQ accepted and those seen
within 64 below it, commands outstanding, the port, the Dial instant of the last valid datagram, its awaited epoch. -/
structure Session where
  open_ : Bool
  confirmed : Bool
  port : Nat
  slot : Nat
  sid : Nat
  nc : List Nat
  nd : List Nat
  ks : List Nat
  top : Nat
  seen : List Nat
  outstanding : Nat
  lastAt : Nat
  await : Word
  sendSeq : Nat
  /-- entries accepted and not yet taken, oldest first -/
  inbox : List (List Word)
  deriving DecidableEq, Repr

/-- A datagram the device has sent (R400, R401): the port, and its bytes before the tag. -/
structure Datagram where
  port : Nat
  bytes : List Nat
  tag : List Nat
  deriving DecidableEq, Repr

def Session.closed : Session :=
  { open_ := false, confirmed := false, port := 0, slot := 0, sid := 0, nc := [], nd := [], ks := [], top := 0, seen := [],
    outstanding := 0, lastAt := 0, await := 1, sendSeq := 0, inbox := [] }

structure HostSt where
  /-- Ethernet ports whose link is up -/
  ethUp : Tab Bool
  pcieUp : Bool
  /-- a PCIe memory read of BAR2: the words served so far, and the offset and length of what is still to be served (R380) -/
  readData : List Word
  readNext : Option (Nat × Nat)
  /-- MSI-X messages sent, by vector -/
  msix : Tab Nat
  /-- command and response rings, by master key of the word index, and the post ring -/
  cmdRing : Store
  rspRing : Store
  postRing : Store
  /-- host-to-device doorbells pending -/
  dbOut : Word
  /-- words queued for a FULL D2H mailbox: mailbox number and word, oldest first -/
  d2hQueue : List (Nat × Word)
  /-- Dial instant since which D2Hn is FULL, and whether it is being relayed through the ring (R392) -/
  d2hSince : Tab Nat
  d2hRelay : Tab Bool
  /-- Pilot and Binnacle mailboxes (two each way): word when FULL -/
  pilotBin : Tab (Option Word)
  binPilot : Tab (Option Word)
  /-- HSPI: result of the last frame (R397), 0x66 armed (R399), data of the last read frame -/
  hspiResult : Nat
  hspiArmed : Bool
  hspiData : List Word
  /-- words of the last state read, for the model's own output (STATE_READ, LDS and BAR2 reads answer from the front window) -/
  sessions : Tab Session
  udpOut : List Datagram
  deriving DecidableEq, Repr

def HostSt.reset : HostSt :=
  { ethUp := [], pcieUp := false, readData := [], readNext := none, msix := [], cmdRing := [], rspRing := [], postRing := [], dbOut := 0, d2hQueue := [], d2hSince := [],
    d2hRelay := [], pilotBin := [], binPilot := [], hspiResult := 0, hspiArmed := false, hspiData := [], sessions := [],
    udpOut := [] }

/-! ## Pilot's command processing (17_pilot_commands.md) -/

/-- What a command that has been taken waits for before its response is posted (R407): the commit of an epoch of the given serial or
later, with whether the change was refused at its boundary; a count in HLM_COEFCNT; the journal save it asked for; the carrier's first
period (HLM_RUN); automatic rate detection; the converter's ramp and then the pause and commit of ACTIVATE; the erasure of LOG_CLEAR;
the next update snapshot (a Sextant lane); the save before WATCH or OFF. -/
inductive Await where
  | boundary (serial : Nat) (bad : Bool)
  | coef (target : Nat)
  | save (behind : Bool)
  | carrier (at_ : Nat)
  | autobaud (n limitAt : Nat)
  | ramp (from_ : Nat)
  | pause
  | erase
  | lane (entry : Nat)
  | sleep (off behind : Bool)
  deriving DecidableEq, Repr

/-- A command taken and not yet answered. -/
structure Waiting where
  src : Issuer
  tag : Nat
  op : Nat
  what : Await
  /-- its host has lost its rings since, so the response will be discarded (R388) -/
  drop : Bool
  deriving DecidableEq, Repr

/-- An entry of the sealed-configuration history (R330): Calendar ms, old and new seal, newest first in the list. -/
structure SealEntry where
  cal : Nat
  old : Nat
  new : Nat
  deriving DecidableEq, Repr

structure PilotSt where
  waiting : List Waiting
  /-- words relayed towards H2D3 (R412), and words Pilot has received on H2D0 to H2D2, mailbox and word, newest first -/
  relay : List Word
  rx : List (Nat × Word)
  /-- the LOG_CLEAR nonce in force: its 8 bytes and the Dial of its issue (R418) -/
  nonce : Option (List Nat × Nat)
  /-- network settings by 3 * port: address, mask, gateway (MRAM) -/
  net : Store
  /-- the sealed-configuration history (MRAM) -/
  seals : List SealEntry
  deriving DecidableEq, Repr

def PilotSt.reset : PilotSt := { waiting := [], relay := [], rx := [], nonce := none, net := [], seals := [] }

/-! ## CAN FD controllers (18_can_fd.md) -/

/-- An entry of a transmit queue: its serial number and the 18 words of its descriptor (R427, Table 18-3). -/
structure CanTx where
  serial : Nat
  words : List Word
  deriving DecidableEq, Repr

structure CanSt where
  queue : List CanTx
  nextSerial : Nat
  /-- the reference slot's cycle count while it is pending (R437) -/
  refSlot : Option Nat
  /-- the last cycle count received or sent, and received -/
  cycle : Nat
  lastRx : Option Nat
  /-- no reference message has been sent since TMEN became 1 -/
  tmFirst : Bool
  /-- Dial of the last reference message's start of frame; none before the first -/
  refSof : Option Nat
  /-- Dial of the last reference message, or of the start of waiting for one (R62) -/
  refAt : Nat
  /-- main and shadow buffers of the receive objects (R425) -/
  main : Tab (Option CanFrame)
  shadow : Tab (Option CanFrame)
  /-- error counters (ISO 11898-1) -/
  tec : Nat
  rec_ : Nat
  busOff : Bool
  /-- bus-off recovery has been started -/
  recovering : Bool
  /-- waiting for bus integration after a protocol exception -/
  integrating : Bool
  /-- Dial of the start of frame of the last frame sent (R438) -/
  txSof : Nat
  /-- rate detection: the candidate tried, its Dial of start, and the NBT in force before GO (R435) -/
  abCand : Nat
  abAt : Nat
  abOld : Word
  deriving DecidableEq, Repr

def CanSt.reset : CanSt :=
  { queue := [], nextSerial := 0, refSlot := none, cycle := 0, lastRx := none, tmFirst := true, refSof := none, refAt := 0, main := [],
    shadow := [], tec := 0, rec_ := 0, busOff := false, recovering := false, integrating := false, txSof := 0, abCand := 0, abAt := 0,
    abOld := 0 }

/-! ## Boot and update (19_update_boot.md) -/

/-- The TW16 payload that the ROM verified at this start, in Pilot SRAM: length in bytes, version and bytes as words (R447). -/
structure Tw16 where
  len : Nat
  ver : Word
  data : Store
  deriving DecidableEq, Repr

/-- A word of the QSPI flash that nothing has written: an erased word. -/
def flashErased : Nat → Word := fun _ => 0xFFFFFFFF

/-- An image being staged (R448): its issuer, kind, length and version. -/
structure Stage where
  src : Issuer
  kind : Nat
  len : Nat
  ver : Word
  deriving DecidableEq, Repr

/-- The QSPI flash by word index; the staging in progress; the service pause: Dial of its acceptance, whether resumption has come,
the tick of acceptance; a boot record write in progress since a Dial instant, with the bank and PENDING it writes; the end of the
confirmation window; the first RINGS command since reset with its mask; a recovery-mode reset that is due; the secret keys by 8 * slot + word
(MRAM). -/
structure UpdSt where
  tw16 : Tw16
  flash : Store
  stage : Option Stage
  pauseAt : Option Nat
  pauseTick : Nat
  resumed : Bool
  recWrite : Option (Nat × Nat)
  winEnd : Option Nat
  ringsAt : Option (Nat × Nat)
  resetAt : Option Nat
  keys : Store
  deriving DecidableEq, Repr

def UpdSt.reset : UpdSt :=
  { tw16 := { len := 0, ver := 0, data := [] }, flash := [], stage := none, pauseAt := none, pauseTick := 0, resumed := false,
    recWrite := none, winEnd := none, ringsAt := none, resetAt := none, keys := [] }

/-! ## Power states, thermal protection and resets (20_power_thermal.md, 23_package_electrical.md) -/

/-- What the thermal unit stores in MRAM at a shutdown (R474, R476): broken sensor, sensor, reading. -/
structure ShutLog where
  broken : Bool
  sensor : Nat
  temp : Word
  deriving DecidableEq, Repr

structure PwrSt where
  /-- a device reset holds the logic (reset pin, a low supply, or start not yet released) -/
  held : Bool
  /-- the root clock has no supply: Dial stands (R48) -/
  off : Bool
  /-- the thermal shutdown latch (VDD_LS) and what it stored (MRAM) -/
  shut : Bool
  shutLog : Option ShutLog
  /-- consecutive conversions with the hottest die at or above LIMIT, and with a shutdown condition -/
  hot : Nat
  crit : Nat
  /-- Dial of the shutdown -/
  shutAt : Nat
  /-- broken sensors: bits 0 to 7 the dies, 8 to 15 TH, 16 to 19 TD -/
  broken : Nat
  /-- Dial since which the hottest die has stayed below LIMIT - 5 °C -/
  coolAt : Option Nat
  /-- board channels whose warning holds: bits 0 to 7 TH, 8 to 11 TD, and the die warning -/
  warn : Nat
  dieWarn : Bool
  deriving DecidableEq, Repr

def PwrSt.reset : PwrSt :=
  { held := true, off := false, shut := false, shutLog := none, hot := 0, crit := 0, shutAt := 0, broken := 0, coolAt := none, warn := 0, dieWarn := false }

/-! ## Wear ledger and performance counters (21_logbook_wear_counters.md) -/

/-- The wear ledger: counts as they stand, by section * 65536 + item, and the two MRAM copies with their sequence numbers (R488). -/
structure WearSt where
  live : Tab Nat
  copyA : Tab Nat
  copyB : Tab Nat
  seqA : Nat
  seqB : Nat
  /-- Dial of the last flush, and whole power-on hours counted since the power-up -/
  flushAt : Nat
  hoursAt : Nat
  /-- index of the next history entry -/
  nextEntry : Nat
  /-- scrub passes with corrected errors by memory * 2^20 + row, and rows scheduled for repair (R490) -/
  passes : Tab Nat
  sched : List (Nat × Nat)
  deriving DecidableEq, Repr

def WearSt.reset : WearSt :=
  { live := [], copyA := [], copyB := [], seqA := 0, seqB := 0, flushAt := 0, hoursAt := 0, nextEntry := 0, passes := [], sched := [] }

structure PmcSt where
  /-- cycle counters by unit and programmable counters by 8 u + i -/
  cyc : Tab Nat
  cnt : Tab Nat
  /-- Dial up to which cycles and slots have been counted -/
  mark : Nat
  /-- slots retired and wasted since then, by unit -/
  ret : Tab Nat
  was : Tab Nat
  deriving DecidableEq, Repr

def PmcSt.reset : PmcSt := { cyc := [], cnt := [], mark := 0, ret := [], was := [] }

/-! ## Clock crossings (22_clocks_crossings.md) -/

/-- What one hold register carries across a crossing: a PCIe request, the head of an HSPI frame (its address word, its length, whether
it writes), or one data word. -/
inductive XWord where
  | write (sp : Space) (off bytes : Nat) (v : Word)
  | read (sp : Space) (off bytes : Nat)
  | frame (addr len : Nat) (wr : Bool)
  | data (w : Word)
  deriving DecidableEq, Repr

/-- A data crossing (R503 to R505): its four hold registers, of which the fall-back path uses the first, the hold registers with
words that the destination has not taken, oldest first, the words written since the last handshake, and the words that the source
waits to write. -/
structure Xing where
  regs : List XWord
  full : List Nat
  wr : Nat
  wait : List XWord
  deriving DecidableEq, Repr

def Xing.reset : Xing := { regs := List.replicate 4 (.data 0), full := [], wr := 0, wait := [] }

structure ClkSt where
  /-- hold registers and pointers of each crossing -/
  xing : Tab Xing
  /-- reset-handshake phase reached by a crossing in HANDSHAKE, 1 to 4 (Table 22-4) -/
  phase : Tab Nat
  /-- a pointer check has failed since the crossing's last handshake -/
  failed : Tab Bool
  deriving DecidableEq, Repr

def ClkSt.reset : ClkSt := { xing := [], phase := [], failed := [] }

/-! ## The whole state -/

/-- The sticky bits whose conditions have set them in one PERI cycle, by register (R13, the model's own note of the same cycle). -/
structure MarkSt where
  /-- the cycle the bits belong to -/
  cycle : Nat
  /-- the bits, by register key; none where nothing is listed -/
  bits : Store
  deriving DecidableEq, Repr

/-- No bit has been set. -/
def MarkSt.reset : MarkSt := { cycle := 0, bits := [] }

/-- The state of the SX640: every register, queue, memory and mode the spec gives it, and the queue of commands that wait. -/
structure State where
  /-- the queue of commands that wait, first in first out -/
  pending : List Instr
  /-- the model's own counter of fresh values drawn (DESIGN CHOICE) -/
  freeCtr : Nat
  /-- Dial in ns (R48) -/
  dial : Nat
  /-- the BAR0 registers by offset, per-master instances at masterKey (R543, R539) -/
  regs : Store
  /-- the word each master's last register read returned, by master ID (the model's own output) -/
  lastRead : Store
  /-- epochs, the coherent state space, locks and overrides -/
  ep : EpochSt
  /-- the time bases -/
  time : TimeSt
  /-- the Logbook -/
  log : LogSt
  /-- host interfaces -/
  host : HostSt
  /-- Traverse rings, ports and tiles -/
  trv : TrvSt
  /-- Acquisition -/
  acq : AcqSt
  /-- balancing -/
  bal : BalSt
  /-- boot, update and the QSPI flash -/
  upd : UpdSt
  /-- the wear ledger -/
  wear : WearSt
  /-- clock crossings -/
  clk : ClkSt
  /-- Helm -/
  hlm : HlmSt
  /-- Lodestone -/
  lds : LdsSt
  /-- CAN controllers 0 to 2 -/
  can : Tab CanSt
  /-- Sextant and the learned store -/
  sxt : SxtSt
  /-- Azimuth -/
  azm : AzmSt
  /-- Almanac -/
  alm : AlmSt
  /-- the performance counters -/
  pmc : PmcSt
  /-- power limits, cooling and HVAC -/
  dsp : DspSt
  /-- power states, thermal protection and resets -/
  pwr : PwrSt
  /-- Binnacle's checks -/
  bin : BinSt
  /-- twin operation -/
  rdn : RdnSt
  /-- Pilot's command processing -/
  pilot : PilotSt
  /-- which sticky bits set in the latest PERI cycle with a set (R13) -/
  marks : MarkSt
  deriving DecidableEq, Repr

/-- The reasons a command stops the model with a fault. -/
inductive Fault where
  /-- reserved: no command of this hardware stops with a fault; raised by nothing (safe) -/
  | none
  deriving DecidableEq, Repr

/-- The reasons a command is refused. -/
inductive Refusal where
  /-- the dispatcher answers it for a command whose meaning is not written (safe: the machine stops) -/
  | notModelled (mnemonic : String)
  deriving DecidableEq, Repr

/-- The outcome of one command. -/
abbrev Out := Host.Outcome State Fault Refusal


/-- The machine right after reset (R478, R518): every register at its reset value, Dial 0, nothing pending. -/
def State.reset : State :=
  { pending := [],
    freeCtr := 0,
    dial := 0,
    regs := [],
    lastRead := [],
    ep := EpochSt.reset,
    time := TimeSt.reset,
    log := LogSt.reset,
    host := HostSt.reset,
    trv := TrvSt.reset,
    acq := AcqSt.reset,
    bal := BalSt.reset,
    upd := UpdSt.reset,
    wear := WearSt.reset,
    clk := ClkSt.reset,
    hlm := HlmSt.reset,
    lds := LdsSt.reset,
    can := [],
    sxt := SxtSt.reset,
    azm := AzmSt.reset,
    alm := AlmSt.reset,
    pmc := PmcSt.reset,
    dsp := DspSt.reset,
    pwr := PwrSt.reset,
    bin := BinSt.reset,
    rdn := RdnSt.reset,
    pilot := PilotSt.reset,
    marks := MarkSt.reset }

end Sys2Proof.Machine
end

