-- ==== Sys2Proof/Machine/Ops.lean ====
section
/-! DEFINITION. The named operations over registers, time, status bits, the Logbook queue and the interrupt causes that the meanings share. -/

namespace Sys2Proof.Machine

/-! ## Registers and fields -/

/-- The word at a register key: what was last stored, or its reset value. -/
def State.word (s : State) (k : Nat) : Word := Tab.get regReset s.regs k

/-- Store a word at a register key. -/
def State.setWord (s : State) (k : Nat) (v : Word) : State := { s with regs := Tab.set regReset s.regs k v }

/-- A register field, unsigned. -/
def State.fld (s : State) (f : Fld) : Nat := getBits (s.word f.reg) f.lo (f.hi - f.lo + 1)

/-- A register field, two's complement. -/
def State.fldS (s : State) (f : Fld) : Int := getBitsS (s.word f.reg) f.lo (f.hi - f.lo + 1)

/-- A one-bit register field. -/
def State.flag (s : State) (f : Fld) : Bool := (s.word f.reg).getLsbD f.lo

/-- Give a register field a value. -/
def State.setFld (s : State) (f : Fld) (v : Nat) : State :=
  s.setWord f.reg (setBits (s.word f.reg) f.lo (f.hi - f.lo + 1) v)

/-- Give a register field a signed value, two's complement. -/
def State.setFldS (s : State) (f : Fld) (v : Int) : State := s.setFld f (v % 2 ^ (f.hi - f.lo + 1)).toNat

/-- Give a one-bit register field a value. -/
def State.setFlag (s : State) (f : Fld) (b : Bool) : State := s.setFld f (b2n b)

/-- Raise a counter field by n, holding at all ones. -/
def State.satAdd (s : State) (f : Fld) (n : Nat) : State :=
  s.setFld f (min (s.fld f + n) (2 ^ (f.hi - f.lo + 1) - 1))

/-- Apply f when the condition holds. -/
def State.when (s : State) (b : Bool) (f : State → State) : State := if b then f s else s

/-- The live bit beside a sticky bit: the bit below it. -/
def Fld.live (f : Fld) : Fld := ⟨f.reg, f.lo - 1, f.lo - 1⟩

/-- The PERI cycle of a Dial instant: registers count cycles of 10 ns (R13). -/
def periCycle (t : Nat) : Nat := t / 10

/-- The FAB cycle of a Dial instant: 2.5 ns (Table 1-1). -/
def fabCycle (t : Nat) : Nat := 2 * t / 5

/-- The bits of a register whose condition has set them in the present cycle of its clock (R13). -/
def State.setNow (s : State) (k : Nat) : Word :=
  if s.marks.cycle = periCycle s.dial then Tab.get zeroWord s.marks.bits k else 0

/-- Note that a bit's condition sets it in the present cycle. -/
def State.markSet (s : State) (f : Fld) : State :=
  let old := if s.marks.cycle = periCycle s.dial then s.marks.bits else []
  { s with marks := { cycle := periCycle s.dial, bits := Tab.set zeroWord old f.reg (setBits (s.setNow f.reg) f.lo 1 1) } }

/-- Set a sticky bit. -/
def State.raise (s : State) (f : Fld) : State := (s.markSet f).setFld f 1

/-- An event: its sticky bit and its live bit are set (R477, R548). -/
def State.raiseEv (s : State) (f : Fld) : State := (s.raise f).setFld f.live 1

/-- A held condition: the live bit shows it, and it sets the sticky bit in every cycle in which it holds, that of its end included
(R477). -/
def State.setHeld (s : State) (f : Fld) (b : Bool) : State :=
  if b then (s.raise f).setFld f.live 1 else (s.when (s.flag f.live) fun s => s.markSet f).setFld f.live 0

/-- A fresh free value: the model's counter is read and advanced; nothing constrains the value. -/
def State.freshNat (s : State) : Nat × State := (Config.freshNat s.freeCtr, { s with freeCtr := s.freeCtr + 1 })

/-- The bus ID of a master (Hardware semaphores). -/
def masterId : Master → Nat
  | .pilot => 1 | .binnacle => 2 | .almanac => 3 | .pcie => 4 | .hspi => 5

/-! ## Time -/

/-- Time passes until Dial reads t: Meridian advances by 1 + RATE * 2^-40 per ns, the RTC by 1 + TRIM * 10^-6 (R47, R48, R64). A Dial
instant that has passed leaves the state as it is: Dial never runs back. While the root clock stands (OFF, no supply), so does Dial. -/
def State.at (s : State) (t : Nat) : State :=
  if s.pwr.off ∨ t ≤ s.dial then s else
    { s with
      dial := t
      time := { s.time with
        mer := (s.time.mer + ((t - s.dial : Nat) : Int) * (2 ^ 40 + (s.word Reg.TIME_RATE).toInt + s.time.slew)).toNat
        rtc := if s.time.rtcRun then s.time.rtc + (t - s.dial) * (1000000 + s.fldS F.TIME_CALCTL_TRIM).toNat else s.time.rtc } }

/-- Meridian in whole ns. -/
def State.merNs (s : State) : Nat := s.time.mer / 2 ^ 40

/-- Calendar in ms: Meridian minus the UTC offset while LOCKED, otherwise the RTC, never below the leap-second floor (R63, R65). -/
def State.calMs (s : State) : Nat :=
  max s.time.calFloor
    (if s.time.servo = .locked then (s.merNs - s.fld F.TIME_CALCTL_UTCOFS * 1000000000) / 1000000 else s.time.rtc / 1000000000000)

/-- Dial short time (Table 2-1). -/
def State.dialShort (s : State) : Nat := s.dial % 2 ^ 40

/-! ## The Logbook queue -/

/-- An event reaches the Logbook writer's queue with its stamps (R480, R483): a full queue counts it as lost. -/
def State.logEvent (s : State) (code sev : Nat) (inst : Word) (p : List Word) : State :=
  if s.log.queue.length < 64 then
    { s with log := { s.log with queue := s.log.queue ++
        [{ code := code, sev := sev, inst := inst, payload := p, calv := s.flag F.TIME_PTPSTS_CAL_VALID, cal := s.calMs,
           dial := s.dial, epoch := s.word Reg.SYS_EPOCHNUM }] } }
  else
    ({ s with log := { s.log with lost := s.log.lost + 1 } }).setWord Reg.LOG_LOST
        (nw (min ((s.word Reg.LOG_LOST).toNat + 1) 0xFFFFFFFF)) |>.raiseEv F.LOG_STS_OVERFLOW

/-! ## Interrupt causes and doorbells (R394, R396) -/

/-- Count one MSI-X message on vector n. -/
def State.sendMsix (s : State) (n : Nat) : State :=
  if s.host.pcieUp then { s with host := { s.host with msix := Tab.modify (fun _ => 0) s.host.msix n (· + 1) } } else s

/-- Cause n of Table 16-5 sets; it sends its vector only when it was clear and its enable bit is 1 (R396). -/
def State.irq (s : State) (n : Nat) : State :=
  let was := (s.word Reg.HOST_IRQSTS).getLsbD n
  let s1 := s.setFld ⟨Reg.HOST_IRQSTS, n, n⟩ 1
  if was = false ∧ (s.word Reg.HOST_IRQEN).getLsbD n = true then s1.sendMsix n else s1

/-- Raise device-to-host doorbell n: a pending bit merges; a bit that becomes pending with its mask bit 1 sets DB (R394). -/
def State.doorbell (s : State) (n : Nat) : State :=
  if (s.word Reg.HOST_DBIN).getLsbD n then s else
    let s1 := s.setFld ⟨Reg.HOST_DBIN, n, n⟩ 1
    if (s.word Reg.HOST_DBINMASK).getLsbD n then s1.irq 0 else s1

/-- An error event of HOST_STS: its bits and the ERR cause (R396). -/
def State.hostErr (s : State) (f : Fld) : State := (s.raiseEv f).irq 4

/-- Is the HSPI_IRQ_N pin driven low? (R396) -/
def State.hspiIrqLow (s : State) : Bool := (s.word Reg.HOST_IRQSTS &&& s.word Reg.HOST_IRQEN) != 0

/-- A write by the access codes of Table 0-3: RW bits take the value, W1C bits clear where it is 1, except a sticky bit whose
held condition still holds, shown by the live bit below it that held names (R477), and one that sets in the cycle of the write, which
now names (R13); every other bit is left. -/
def accessWrite (rw w1c held now : Word) (old v : Word) : Word :=
  (old &&& ~~~ rw &&& ~~~ (v &&& w1c &&& ~~~ ((held &&& old) <<< 1) &&& ~~~ now)) ||| (v &&& rw)

end Sys2Proof.Machine
end

