-- ==== Sys2Proof/Machine/Epoch.lean ====
section
/-! DEFINITION. Epochs, the coherent state space, the hardware semaphores and the profile parameters (01_architecture.md). -/

namespace Sys2Proof.Machine

/-! ## The profiles of Table 1-3 -/

/-- The value of an override in force, if there is one (R45). -/
def State.ovrOf (s : State) (id : Nat) : Option Nat := (s.ep.ovr.find? fun o => o.id == id).map (·.value)

/-- Snapshots per second of a profile. -/
def profSnapRate : Nat → Nat
  | 0 => 1000 | 1 => 250 | 2 => 8000 | 3 => 4000 | _ => 100

/-- Sextant updates per second of a profile. -/
def profSxtRate : Nat → Nat
  | 0 => 100 | 1 => 50 | 2 => 100 | 3 => 1000 | _ => 10

/-- TQUIET of a profile in µs: INDIGO has no quiet window, and its TQUIET reads 0. -/
def profTquiet : Nat → Nat
  | 2 => 0 | 3 => 100 | _ => 200

/-- Does a profile balance through its samples? Only INDIGO. -/
def profBalThrough (p : Nat) : Bool := p == 2

/-- Does a profile run Helm at maximum bandwidth? Only MADDER. -/
def profMaxBw (p : Nat) : Bool := p == 3

/-- Does a profile use the reduced model (one RC branch, no parameter states)? Only MADDER. -/
def profReduced (p : Nat) : Bool := p == 3

/-- Sextant lanes a profile keeps ungated: WOAD gates 12 of 16. -/
def profLanes (p : Nat) : Nat := if p == 4 then 4 else 16

/-- The snapshot rate in force. -/
def State.snapRate (s : State) : Nat := (s.ovrOf 1).getD (profSnapRate s.ep.prof)
/-- The Sextant rate in force. -/
def State.sxtRate (s : State) : Nat := (s.ovrOf 2).getD (profSxtRate s.ep.prof)
/-- TQUIET in force, µs. -/
def State.tquiet (s : State) : Nat := (s.ovrOf 3).getD (profTquiet s.ep.prof)
/-- Balance-through in force. -/
def State.balThrough (s : State) : Bool := ((s.ovrOf 4).map (· == 1)).getD (profBalThrough s.ep.prof)
/-- Is OVS in force: UMBER samples with OVS (Table 4-5)? -/
def State.ovs (s : State) : Bool := s.ep.prof == 1
/-- Does TQUIET take all of the conversion spacing, 1/f or 250 µs under OVS (R274)? -/
def State.starvedNow (s : State) : Bool :=
  !s.balThrough && s.tquiet != 0 && (if s.ovs then decide (250 ≤ s.tquiet) else decide (1000000 ≤ s.tquiet * s.snapRate))
/-- Helm's maximum bandwidth in force. -/
def State.maxBw (s : State) : Bool := ((s.ovrOf 5).map (· == 1)).getD (profMaxBw s.ep.prof)

/-! ## The layout of the state space (Table 16-3), by word index -/

/-- First words of the dispatch, acquisition, Sextant and Azimuth records. -/
def dspBase : Nat := 16
def acqBase : Nat := 64
def sxtBase : Nat := 2048
def azmBase : Nat := 6144

/-- Base and length in words of each record. -/
def records : List (Nat × Nat) := [(dspBase, 20), (acqBase, 1481), (sxtBase, 3217), (azmBase, 7065)]

/-- The items, by the word and bit of their STALE bit (Tables 4-3, 7-6, 9-3). -/
def itemAcqCur : ItemId := (acqBase + 4, 30)
def itemAcqTile (t : Nat) : ItemId := (acqBase + 8 + 4 * t, 30)
def itemAcqPos (p : Nat) : ItemId := (acqBase + 200 + 2 * p, 30)
def itemSxtString : ItemId := (sxtBase + 3, 15)
def itemSxtPos (p : Nat) : ItemId := (sxtBase + 17 + 5 * p, 15)
def itemAzmString : ItemId := (azmBase + 6, 31)
def itemAzmPos (p : Nat) : ItemId := (azmBase + 34 + 11 * p, 31)

/-- What a word of the state space reads as before the first commit (R38): every STALE bit 1, ANY_STALE 1, all else 0. -/
def spaceReset (k : Nat) : Word :=
  if k = dspBase + 1 ∨ k = acqBase + 1 ∨ k = sxtBase + 1 ∨ k = azmBase + 1 then 0x40000000
  else if k = acqBase + 4 then 0x40000000
  else if acqBase + 8 ≤ k ∧ k < acqBase + 200 then (if (k - acqBase) % 4 = 0 then 0x40000000 else 0)
  else if acqBase + 200 ≤ k ∧ k < acqBase + 1480 then (if k % 2 = 0 then 0x40000000 else 0)
  else if k = sxtBase + 3 then 0x00008000
  else if sxtBase + 16 ≤ k ∧ k < sxtBase + 3216 then (if (k - sxtBase - 16) % 5 = 1 then 0x00008000 else 0)
  else if k = azmBase + 6 then 0x80000000
  else if azmBase + 24 ≤ k ∧ k < azmBase + 7064 then (if (k - azmBase - 24) % 11 = 10 then 0x80000000 else 0)
  else 0

/-- A word of the front window as stored. -/
def State.frontWord (s : State) (k : Nat) : Word :=
  if s.ep.committed then Tab.get zeroWord s.ep.front k else spaceReset k

/-- Is the word a record's FLAGS word? -/
def isFlagsWord (k : Nat) : Bool := records.any fun r => k == r.1 + 1

/-- Does a byte offset lie inside COMMITTED or a record (Table 16-3, R154)? -/
def inSpace (off : Nat) : Bool := off / 4 == 0 || records.any fun r => decide (r.1 ≤ off / 4 ∧ off / 4 < r.1 + r.2)

/-- A read of a word of the front window by a reader that awaits epoch aw: NEW is computed for the reader (R35, R36). -/
def State.spaceRead (s : State) (aw : Word) (k : Nat) : Word :=
  if isFlagsWord k then
    setBits (s.frontWord k) 31 1 (b2n (s.ep.committed && decide (0 ≤ seqDiff (s.frontWord (k - 1)) aw)))
  else s.frontWord k

/-- The awaited epoch of a bus master (SYS_AWAITn). -/
def State.awaitOf (s : State) (m : Master) : Word := s.word (Reg.SYS_AWAIT (masterId m - 1))

/-! ## Contributions (R24, R27) -/

/-- Apply f to the record of the epoch of the given serial, open or closing. -/
def State.modEpoch (s : State) (serial : Nat) (f : EpochRec → EpochRec) : State :=
  if s.ep.opn.serial = serial then { s with ep := { s.ep with opn := f s.ep.opn } }
  else { s with ep := { s.ep with closing := s.ep.closing.map fun e => if e.serial = serial then f e else e } }

/-- One contribution for each item is scheduled in the epoch of the given serial: an item of which an epoch takes several updates
stands there several times (R24). -/
def State.schedule (s : State) (serial : Nat) (items : List ItemId) : State :=
  s.modEpoch serial fun r => { r with scheduled := r.scheduled ++ items }

/-- Send a contribution on its way to the commit unit. -/
def State.contribute (s : State) (cs : List Contribution) : State := { s with ep := { s.ep with flight := s.ep.flight ++ cs } }

/-- The commit deadline of an epoch (R24). -/
def EpochRec.limit (e : EpochRec) : Nat := e.start + e.period + 100000 * e.deadline

/-- An instant at which an epoch may commit: at least 0.1 ms after the commit before it (R25). -/
def State.afterLast (s : State) (t : Nat) : Nat := if s.ep.committed then max t (s.ep.lastCommit + 100000) else t

/-- The oldest closing epoch. -/
def State.closingHead (s : State) : Option EpochRec := s.ep.closing.head?

/-- Has the cycle in which an epoch commits at the latest come? Only the oldest closing epoch commits, and none does before
resumption from a service pause (R25, R27, R451). -/
def State.pastCommit (s : State) (e : EpochRec) : Bool :=
  (s.closingHead.map (·.serial)) == some e.serial && (s.upd.pauseAt.isNone || s.upd.resumed) &&
    decide (fabCycle (s.afterLast e.limit) ≤ fabCycle s.dial)

/-- One contribution reaches the commit unit: taken for the open epoch or one that is closing, discarded with LATE_WRITE from the
cycle of its commit on (R27), discarded in silence for an epoch that never commits (R544). -/
def State.takeContribution (s : State) (c : Contribution) : State :=
  if c.serial = s.ep.opn.serial then
    if s.ep.opn.en then s.modEpoch c.serial fun e => { e with arrived := e.arrived ++ [c] } else s
  else match s.ep.closing.find? fun e => e.serial == c.serial with
    | some e =>
      if s.pastCommit e then s.raiseEv F.SYS_EPOCHSTS_LATE_WRITE
      else s.modEpoch c.serial fun e => { e with arrived := e.arrived ++ [c] }
    | none => if s.ep.dead.contains c.serial then s else s.raiseEv F.SYS_EPOCHSTS_LATE_WRITE

/-- CONTRIBUTION_ARRIVAL: the producer's contributions whose instant has come reach the commit unit. -/
def execContributionArrival (t : Nat) (p : Producer) (s : State) : Out :=
  let s := s.at t
  let due := s.ep.flight.filter fun c => c.src == p && decide (c.ready ≤ s.dial)
  let rest := s.ep.flight.filter fun c => !(c.src == p && decide (c.ready ≤ s.dial))
  .next (due.foldl State.takeContribution { s with ep := { s.ep with flight := rest } })

/-! ## Committing (R24 to R30) -/

/-- How often an item has arrived in the epoch. -/
def EpochRec.times (e : EpochRec) (i : ItemId) : Nat := (e.arrived.filter fun c => c.item == i).length

/-- Items of which a scheduled contribution has not arrived (R26). -/
def EpochRec.missing (e : EpochRec) : List ItemId :=
  e.scheduled.eraseDups.filter fun i => decide (e.times i < (e.scheduled.filter fun j => j == i).length)

/-- The instant an epoch commits: every scheduled contribution arrived, or its deadline, never before its closing boundary, at least
0.1 ms after the commit before it (R24, R25). An epoch without a snapshot (R28), the first one of a takeover (R374) and the first one
after a service pause (R451) commit at their deadline. -/
def State.commitAt (s : State) (e : EpochRec) : Nat :=
  let early := e.missing.isEmpty && e.snaps != 0 && s.fld F.RDN_STS_ROLE != 3 && s.upd.pauseAt.isNone
  s.afterLast (if early then min (max s.dial (e.start + e.period)) e.limit else e.limit)

/-- Give the STALE bit of an item a value in a window. -/
def markStale (b : Bool) (m : Store) (i : ItemId) : Store :=
  Tab.set zeroWord m i.1 (setBits (Tab.get zeroWord m i.1) i.2 1 (b2n b))

/-- Write one contribution's words into a window. -/
def applyWords (m : Store) (ws : List (Nat × Word)) : Store := ws.foldl (fun m w => Tab.set zeroWord m w.1 w.2) m

/-- The back window completed for the commit: the front carried forward with STALE clear, the contributions written in the order of
their arrival, but for those of an item of which one is missing: such an item keeps the value of the previous epoch (R26). The items of
marks carry STALE. -/
def completeBack (front : Store) (stale marks : List ItemId) (e : EpochRec) : Store :=
  let m := stale.foldl (markStale false) front
  let miss := e.missing
  let m := e.arrived.foldl (fun m c => if miss.contains c.item then m else applyWords m c.words) m
  marks.foldl (markStale true) m

/-- The stamp of one record: EPOCH, FLAGS with its count and ANY_STALE, and the trailer (R31). -/
def stampRecord (num : Word) (stale : List ItemId) (count : Nat) (m : Store) (r : Nat × Nat) : Store :=
  let any := stale.any fun i => decide (r.1 ≤ i.1 ∧ i.1 < r.1 + r.2)
  let m := Tab.set zeroWord m r.1 num
  let m := Tab.set zeroWord m (r.1 + 1) (setBits (nw (min count 0xFFFF)) 30 1 (b2n any))
  Tab.set zeroWord m (r.1 + r.2 - 1) num

/-- The number the next commit gives: one above the last, and 1 after 0xFFFF_FFFF (R22). -/
def nextEpochNum (n : Word) : Word := if n = 0xFFFFFFFF#32 then 1 else n + 1

/-- The count of a record's FLAGS word: snapshots, updates or blocks (R31). -/
def EpochRec.countOf (e : EpochRec) (base : Nat) : Nat :=
  if base = sxtBase then e.times itemSxtString else if base = azmBase then e.times itemAzmString else e.snaps

/-- The Azimuth record holds 0 for positions that are not configured (R254). -/
def azmTrim (npos : Nat) (m : Store) : Store :=
  m.filter fun e => !(decide (azmBase + 24 + 11 * npos ≤ e.1) && decide (e.1 < azmBase + 7064))

/-- The exchange of the windows at a commit (R30): the back window completed, dispatch words written, every record stamped; stale
lists the items that carry STALE. -/
def State.exchange (s : State) (e : EpochRec) (stale : List ItemId) (dsp : List (Nat × Word)) : State :=
  let num := nextEpochNum (s.word Reg.SYS_EPOCHNUM)
  let m := azmTrim s.acq.npos (applyWords (completeBack s.ep.front s.ep.staleItems stale e) dsp)
  let m := records.foldl (fun m r => stampRecord num stale (e.countOf r.1) m r) m
  let m := Tab.set zeroWord m 0 num
  { s with ep := { s.ep with front := m, frontB := !s.ep.frontB, committed := true, staleItems := stale,
                              lastCommit := s.dial, closing := s.ep.closing.filter fun x => x.serial != e.serial } }.setWord Reg.SYS_EPOCHNUM num

/-! ## The hardware semaphores (R39 to R42) -/

/-- The owner of lock n, 0 when it is free. -/
def State.lockOwner (s : State) (n : Nat) : Nat := Tab.get (fun _ => 0) s.ep.locks n

/-- Give lock n an owner, 0 to free it. -/
def State.setLock (s : State) (n o : Nat) : State := { s with ep := { s.ep with locks := Tab.set (fun _ => 0) s.ep.locks n o } }

/-- The owner of lock n as a read in the present cycle finds it: a release takes effect at the end of its cycle (R41). -/
def State.lockHolder (s : State) (n : Nat) : Nat :=
  match s.ep.freed.find? fun x => x.1 == n && x.2.2 == periCycle s.dial with
  | some x => x.2.1
  | none => s.lockOwner n

/-- A read of lock n in a cycle by a command that waits: its master. -/
def lockBid (n cyc : Nat) : Instr → Option Nat
  | .lockAcquire t m k => if k = n ∧ periCycle t = cyc then some (masterId m) else none
  | .almStcLockAcquire t _ _ k => if k % 16 = n ∧ periCycle t = cyc then some 3 else none
  | .timeLowWordRead t m r => if r = ⟨.bar0, Reg.SYS_LOCK n, 4⟩ ∧ periCycle t = cyc then some (masterId m) else none
  | _ => none

/-- The master that a free lock goes to among m and those whose reads of the same cycle wait: the first in the order Pilot, Binnacle,
Almanac, PCIe host, HSPI host, which is that of their IDs (R40). -/
def State.lockWinner (s : State) (m n : Nat) : Nat := (s.pending.filterMap (lockBid n (periCycle s.dial))).foldl min m

/-- A read of SYS_LOCKn by master ID m: a free lock is acquired by the first of the masters that read it in the cycle and that master
reads 0, the owner reads 0, another master reads the owner with BUSY (R39, R40). -/
def State.lockRead (s : State) (m n : Nat) : Word × State :=
  let busy := fun (o : Nat) => if o = m then (0 : Word) else nw (0x80000000 + o)
  if s.lockHolder n = 0 then (busy (s.lockWinner m n), s.setLock n (s.lockWinner m n)) else (busy (s.lockHolder n), s)

/-- A release of lock n by master ID m (R41). -/
def State.lockFree (s : State) (m n : Nat) : State :=
  if s.lockOwner n = m then
    { s.setLock n 0 with ep := { (s.setLock n 0).ep with
        freed := (n, m, periCycle s.dial) :: s.ep.freed.filter fun x => x.1 != n && x.2.2 == periCycle s.dial } }
  else s.raiseEv F.SYS_EPOCHSTS_LOCK_ERR

/-- A write of SYS_LOCKREL: each bit at 1 releases its lock. -/
def State.lockRelWrite (s : State) (m : Nat) (v : Word) : State := (onesBelow 16 v.toNat).foldl (fun s n => s.lockFree m n) s

/-- An event that frees every lock of a master; LOCK_ORPHAN only when it frees one (R42). -/
def State.freeLocks (s : State) (m : Nat) : State :=
  let held := (List.range 16).filter fun n => s.lockOwner n == m
  if held.isEmpty then s else (held.foldl (fun s n => s.setLock n 0) s).raiseEv F.SYS_EPOCHSTS_LOCK_ORPHAN

/-- SYS_LOCKSTAT: bit n is 1 while lock n has an owner. -/
def State.lockStat (s : State) : Word := nw (((List.range 16).map fun n => if s.lockHolder n = 0 then 0 else 2 ^ n).sum)

/-- LOCK_ACQUIRE: a read of SYS_LOCKn. -/
def execLockAcquire (t : Nat) (m : Master) (n : Nat) (s : State) : Out :=
  let s := s.at t
  .next (if n < 16 then
    let r := s.lockRead (masterId m) n
    { r.2 with lastRead := Tab.set zeroWord r.2.lastRead (masterId m) r.1 }
  else { s with lastRead := Tab.set zeroWord s.lastRead (masterId m) 0 })

/-- LOCK_RELEASE: a write of SYS_LOCKREL. -/
def execLockRelease (t : Nat) (m : Master) (v : Word) (s : State) : Out := .next ((s.at t).lockRelWrite (masterId m) v)

/-! ## Epoch and profile settings -/

/-- A write of SYS_EPOCHCTL: a PERIOD outside 1 to 1,000 is rejected whole. -/
def State.epochctlWrite (s : State) (v : Word) : State :=
  let p := getBits v 0 10
  if 1 ≤ p ∧ p ≤ 1000 then s.setWord Reg.SYS_EPOCHCTL (v &&& 0x80FF03FF#32) else s.raiseEv F.SYS_EPOCHSTS_CFG_REJECT

/-- A write of SYS_PROFILE: codes 5 to 7 are rejected whole (R44). -/
def State.profileWrite (s : State) (v : Word) : State :=
  if getBits v 0 3 ≤ 4 then
    (s.setFld F.SYS_PROFILE_PROFILE (getBits v 0 3)).setFld F.SYS_PROFILE_KEEP_OVR (getBits v 8 1)
  else s.raiseEv F.SYS_EPOCHSTS_CFG_REJECT

/-- The commit deadline in force for an epoch, in units of 100 µs, and whether it was clamped (SYS_EPOCHCTL.DEADLINE). -/
def clampDeadline (d pms : Nat) : Nat × Bool :=
  if d = 0 then (1, true) else if 10 * pms ≤ d then (10 * pms - 1, true) else (d, false)

/-- A fresh epoch that opens at a boundary under the settings then in force (R20, R21, R544). -/
def State.openEpoch (s : State) (b : Nat) : EpochRec :=
  let pms := s.fld F.SYS_EPOCHCTL_PERIOD
  let dl := clampDeadline (s.fld F.SYS_EPOCHCTL_DEADLINE) pms
  { serial := s.ep.opn.serial + 1, start := b, period := 1000000 * pms, deadline := dl.1, clamped := dl.2,
    en := s.flag F.SYS_EPOCHCTL_EN, prof := s.ep.prof, snaps := 0, scheduled := [], arrived := [] }

/-- Does a Dial instant lie in the epoch (R20)? -/
def EpochRec.holds (e : EpochRec) (t : Nat) : Bool := decide (e.start ≤ t ∧ t < e.start + e.period)

/-- The record of the epoch that holds a Dial instant, if it is open or closing (R20). -/
def State.epochOf (s : State) (t : Nat) : Option EpochRec := (s.ep.opn :: s.ep.closing).find? fun e => e.holds t

end Sys2Proof.Machine
end

