-- ==== Sys2Proof/Machine/Tile.lean ====
section
/-! DEFINITION. The TW16 tile: hop arithmetic, home ends, tile time, sampling, image loading, arming, and the CMD functions a tile executes (03_traverse.md). -/

namespace Sys2Proof.Machine

/-! ## Tiles and their links -/

/-- The tile in slot k. -/
def State.tile (s : State) (k : Nat) : Tile := Tab.get (fun _ => Tile.unpowered) s.trv.tiles k

/-- Give slot k a tile. -/
def State.setTile (s : State) (k : Nat) (x : Tile) : State :=
  { s with trv := { s.trv with tiles := Tab.set (fun _ => Tile.unpowered) s.trv.tiles k x } }

/-- The interface a link belongs to, and the end it leads toward. -/
def linkIf (link : Nat) : Nat := link / 2 % 2
def linkEnd (link : Nat) : Nat := link % 2

/-- The other link of the same interface. -/
def linkOther (link : Nat) : Nat := 2 * linkIf link + (1 - linkEnd link)

/-- The record of one interface. -/
def tileIf (x : Tile) (i : Nat) : TileIf := if i = 0 then x.x else x.y

/-- Change the record of one interface. -/
def tileModIf (x : Tile) (i : Nat) (f : TileIf → TileIf) : Tile := if i = 0 then { x with x := f x.x } else { x with y := f x.y }

/-- Is a link up? -/
def tileUp (x : Tile) (link : Nat) : Bool :=
  if linkEnd link = 0 then (tileIf x (linkIf link)).up0 else (tileIf x (linkIf link)).up1

/-- Note a link's state. -/
def tileSetUp (x : Tile) (link : Nat) (b : Bool) : Tile :=
  tileModIf x (linkIf link) fun i => if linkEnd link = 0 then { i with up0 := b } else { i with up1 := b }

/-- The link toward the home end of an interface. -/
def tileHomeLink (x : Tile) (i : Nat) : Nat := 2 * i + (tileIf x i).home % 2

/-- The slot index: the hop from the present home end (R82). -/
def tileSlotIndex (x : Tile) (i : Nat) : Nat := if (tileIf x i).home = 0 then (tileIf x i).hop0 else (tileIf x i).hop1

/-- A frame leaves on a link. -/
def tileTx (x : Tile) (link : Nat) (f : Frame) : Tile := { x with tx := (link, f) :: x.tx }

/-- Turn a tile's home end to the other end of an interface; it then retrains over 16 TSYNCs (R82, R95). -/
def tileTurnHome (x : Tile) (i : Nat) : Tile :=
  { tileModIf x i (fun r => { r with home := 1 - r.home % 2 }) with retrain := 16 }

/-- Send a frame of the tile's own on a link: on the other link where that one is down, held where both are. -/
def tileSendOn (x : Tile) (link : Nat) (f : Frame) : Tile :=
  if tileUp x link then tileTx x link f
  else if tileUp x (linkOther link) then tileTx x (linkOther link) f
  else { x with held := x.held ++ [(link, f)] }

/-- Forward a frame received on a link to the tile's other link; with that link down the frame is returned on the link it came
from with TURNBACK set and DIR inverted, a returned outbound frame with HOP 0 (R80). -/
def tileForward (x : Tile) (side : Nat) (f : Frame) : Tile :=
  if tileUp x (linkOther side) then tileTx x (linkOther side) f
  else tileTx x side { f with turnback := true, inbound := !f.inbound, hop := if f.inbound then f.hop else 0 }

/-- The hop arithmetic of a frame that is not for this tile (R77, R79): an inbound frame counts up, an addressed outbound frame
counts down, a broadcast is unchanged. -/
def hopStep (f : Frame) : Frame :=
  if f.inbound then { f with hop := f.hop + 1 } else if 1 ≤ f.hop ∧ f.hop ≤ 12 then { f with hop := f.hop - 1 } else f

/-- Is an outbound frame addressed to the tile that receives it with this count (R77)? -/
def addressed (f : Frame) : Bool := !f.inbound && (f.hop == 1 || f.hop == 15)

/-- A payload length within the range Table 3-2 gives its type, and a type of the table (R75). -/
def bodyOk : Body → Bool
  | .cmd _ data => decide (3 ≤ data.length ∧ data.length ≤ 63)
  | .load _ data => data.length == 256
  | .profile thr _ => decide (32 ≤ thr.length ∧ thr.length ≤ 64)
  | .snapr _ _ _ _ _ _ _ temps cells => temps.length == 4 && decide (cells.length ≤ 81)
  | .resp _ _ data => decide (2 ≤ data.length ∧ data.length ≤ 62)
  | .other _ _ => false
  | _ => true

/-- The bytes of a payload padded with 0 to n (R545). -/
def padTo (n : Nat) (l : List Nat) : List Nat := l ++ List.replicate (n - l.length) 0

/-- The interface of the tiles that this unit's rings attach to: X, and Y for the second unit of a twin installation (R107). -/
def State.unitIf (s : State) : Nat := b2n (s.flag F.RDN_CTL_TWIN && Config.secondUnit)

/-! ## Tile time -/

/-- A tile's time in 1/16 ns and in whole ns. -/
def State.tile16 (s : State) (x : Tile) : Nat := (16 * (s.dial : Int) + x.ofs).toNat
def State.tileNs (s : State) (x : Tile) : Nat := s.tile16 x / 16

/-- The full time nearest to now that a 40-bit short time names. -/
def fromShort (now short : Nat) : Nat := ((now : Int) + signed 40 ((short + 2 ^ 40 - now % 2 ^ 40) % 2 ^ 40)).toNat

/-- The length of a response window in ns (R85). -/
def State.windowNs (s : State) : Nat := 1000 * (s.fld F.TRV_SLOTCFG_RESPDLY + 12 * s.fld F.TRV_SLOTCFG_SLOT)

/-- Is a response window open for the tile now: that of the sample taken last, or of one whose target has just come? -/
def tileInWindow (len now : Nat) (x : Tile) : Bool :=
  decide (x.win.1 ≤ now ∧ now < x.win.2) || x.sched.any fun c => decide (c.target ≤ now ∧ now < c.target + len)

/-- Send a RESP or an ALERT: held while a response window is open (R85). -/
def State.tileAnswer (s : State) (x : Tile) (link : Nat) (f : Frame) : Tile :=
  if tileInWindow s.windowNs (s.tileNs x) x then { x with held := x.held ++ [(link, f)] } else tileSendOn x link f

/-! ## Balancing switches (R260, R263, R275) -/

/-- The instants of the conversions a scheduled sample still takes. -/
def convInstants (c : Sched) : List Nat :=
  if c.ovs then (List.range c.remaining).map fun i => c.target - i * 250000 else [c.target]

/-- The next of them. -/
def Sched.next (c : Sched) : Nat := c.target - (c.remaining - 1) * 250000

/-- The conversions around which a tile defers switch changes: the last one taken and those still to take, of samples without
QUIET. -/
def throughConvs (x : Tile) : List Nat := x.conv.toList ++ (x.sched.filter fun c => !c.quiet).flatMap convInstants

/-- The instant at which a switch change that falls due takes place: less than 30 µs before a conversion of a sample without QUIET it
waits until 5 µs after that conversion (R275). -/
def deferChange (x : Tile) (due : Nat) : Nat :=
  match (throughConvs x).find? fun v => decide (due ≤ v ∧ v < due + 30000) with
  | some v => v + 5000
  | none => due

/-- Does a change from one mask to another start a phase: from the other phase, or from no switch closed? -/
def phaseChange (a b : Nat) : Bool :=
  b != 0 && (a == 0 || (a &&& 0x5555 != 0 && b &&& 0xAAAA != 0) || (a &&& 0xAAAA != 0 && b &&& 0x5555 != 0))

/-- The switches as they stand at tile time now: a BALSET takes effect at S; a phase change opens every switch at S and closes
the new phase 100 µs later (R260). -/
def tileSettle (now : Nat) (x : Tile) : Tile :=
  match x.bal with
  | some b =>
    if b.opened || phaseChange x.sw b.mask then
      if deferChange x (b.s0 + 100000) ≤ now then { x with sw := b.mask, bal := some { b with opened := false } }
      else if deferChange x b.s0 ≤ now then { x with sw := 0, bal := some { b with opened := true } } else x
    else if deferChange x b.s0 ≤ now then { x with sw := b.mask } else x
  | none => x

/-- Does a quiet window hold every switch open: for TQUIET before each conversion of a sample with QUIET, and at all times where TQUIET
takes the whole spacing (R273, R274)? -/
def State.quietNow (s : State) (now : Nat) (x : Tile) : Bool :=
  !s.balThrough && s.tquiet != 0 &&
    (s.starvedNow || x.sched.any fun c => c.quiet && decide (c.next ≤ now + 1000 * s.tquiet))

/-- A tile's switches brought up to the present instant. -/
def State.settle (s : State) (x : Tile) : Tile :=
  let y := tileSettle (s.tileNs x) x
  { y with quietOpen := s.quietNow (s.tileNs x) y }

/-- The switches that are closed. -/
def Tile.closed (x : Tile) : Nat := if x.quietOpen then 0 else x.sw

/-- The instant on tile time at which the tile opens every switch: the end instant or 2 s after its last BALSET (R263). -/
def tileExpiry (x : Tile) : Nat :=
  match x.bal.bind (·.fin) with
  | some e => min e (x.balAt + 2000000000)
  | none => x.balAt + 2000000000

/-- Open every switch and drop the BALSET held. -/
def tileOpenAll (x : Tile) : Tile := { x with sw := 0, bal := none }

/-! ## CMD functions (R545) -/

/-- Bytes of a little-endian number. -/
def leNat : List Nat → Nat
  | [] => 0
  | b :: bs => b % 256 + 256 * leNat bs

/-- The n low bytes of v, least significant first. -/
def leBytes (v : Nat) : Nat → List Nat
  | 0 => []
  | n + 1 => v % 256 :: leBytes (v / 256) n

/-- Does a mask break R259: bits of both phases? -/
def breaksNeighbour (mask : Nat) : Bool := mask &&& 0x5555 != 0 && mask &&& 0xAAAA != 0

/-- A tile executes a CMD: its state after, and the status and data of the RESP. A mask that breaks R259 opens every switch although
the CMD is refused (R263). -/
def State.tileExecute (s : State) (x : Tile) (td : Int) (fn : Nat) (data : List Nat) : Tile × Nat × List Nat :=
  let now := s.tileNs x
  if fn = 0x21 then
    let mask := leNat ((data.drop 10).take 2)
    let s0 := fromShort now (leNat (data.take 5))
    let fin := leNat ((data.drop 5).take 5)
    if breaksNeighbour mask then (tileOpenAll x, 1, [])
    else if 2 ^ x.ncell ≤ mask then (x, 1, [])
    else
      let x := tileSettle now x
      let b : BalCmd := ⟨max s0 now, if fin = 0xFFFFFFFFFF then none else some (fromShort now fin), mask, false⟩
      (tileSettle now { x with balAt := now, bal := some b }, 0, [])
  else if fn = 0x22 then (x, 0, leBytes (td % 65536).toNat 2)
  else if fn = 0x23 then (x, 0, (if x.armed then 0x80 else 0) :: leBytes (crc16 x.thr).toNat 2)
  else if fn = 0x31 then
    let mask := leNat (data.take 3)
    if 2 ^ (x.ncell + 1) ≤ mask then (x, 1, [])
    else ({ x with sinkCmd := some (mask, fromShort now (leNat ((data.drop 3).take 5)), data.getD 8 0) }, 0, [])
  else (x, 1, [])

/-- A CMD for this tile arrives on a link: one whose SEQ equals that of the last it executed repeats its RESP (R87), a refused one
not being executed; the RESP, padded to 4 bytes, leaves on the link the CMD came from (R107, R545). -/
def State.tileCmd (s : State) (x : Tile) (side : Nat) (td : Int) (seq fn : Nat) (data : List Nat) : Tile :=
  match (if x.lastSeq = some seq then x.lastResp else none) with
  | some r => s.tileAnswer x side r
  | none =>
    let r := s.tileExecute x td fn data
    let f : Frame :=
      { hop := 0, inbound := true, turnback := false, active := false, seq := seq, body := .resp fn r.2.1 (padTo 2 r.2.2) }
    s.tileAnswer (if r.2.1 = 0 then { r.1 with lastSeq := some seq, lastResp := some f } else r.1) side f

/-! ## Frames a tile acts on -/

/-- A SAMPLE: the conversion is scheduled; a target that has passed on tile time is sampled at once with LATE_SAMPLE, and under
OVS the instants that have passed are skipped (R86, R114). -/
def State.tileSample (s : State) (x : Tile) (side target seq flags : Nat) : Tile :=
  let now := s.tileNs x
  let tgt := fromShort now target
  let ovs := flags.testBit 7
  let left := if ovs then ((List.range 16).filter fun i => decide (now ≤ tgt - i * 250000)).length else if now ≤ tgt then 1 else 0
  { x with sched := x.sched ++ [{ target := tgt, seq := seq, ovs := ovs, quiet := flags.testBit 6,
                                  late := decide (left < if ovs then 16 else 1), iface := linkIf side, remaining := max 1 left, convs := [] }] }

/-- A TSYNC: used when it has ACTIVE set, comes from the home end, and comes on the interface used last or finds that one
silent for two periods (R94, R107). -/
def State.tileTsync (s : State) (x : Tile) (side dial : Nat) (active : Bool) : Tile :=
  let i := linkIf side
  let r := tileIf x i
  if active && r.home % 2 == linkEnd side && (i == x.iface || decide (x.syncAt + 2000000 ≤ s.dial)) then
    let d := if linkEnd side = 0 then r.d0 else r.d1
    { x with ofs := 16 * ((dial : Int) - s.dial) + d, iface := i, syncAt := s.dial, retrain := x.retrain - 1 }
  else x

/-- An outbound ENUM: the count rises by 1 and is the tile's hop from the end of origin (R81). -/
def tileEnum (x : Tile) (side count origin : Nat) : Tile :=
  tileModIf x (linkIf side) fun r => if origin = 0 then { r with hop0 := count + 1 } else { r with hop1 := count + 1 }

/-- Store image bytes at an offset. -/
def putImg (m : Store) (off : Nat) : List Nat → Store
  | [] => m
  | b :: bs => putImg (Tab.set zeroWord m off (nw (b % 256))) (off + 1) bs

/-- The first len image bytes. -/
def imgBytes (m : Store) (len : Nat) : List Nat := (List.range len).map fun k => (Tab.get zeroWord m k).toNat

/-- LOADEND: the image length and its CRC-32C are checked and the result is reported in a RESP (R96). DESIGN CHOICE (log entry 101): the
RESP has function code 0 and status 0 for a good image, 1 otherwise. -/
def State.tileLoadend (s : State) (x : Tile) (side seq len : Nat) (crc : Word) : Tile :=
  let ok := decide (len ≤ x.imgLen ∧ x.imgLen < len + 256) && crc32c (imgBytes x.img len) == crc
  s.tileAnswer { x with imgOk := ok } side
    { hop := 0, inbound := true, turnback := false, active := false, seq := seq, body := .resp 0 (if ok then 0 else 1) [0, 0] }

/-- A PROFILE: the comparators arm from it only when PROFCRC equals the CRC of its threshold bytes (R99). -/
def tileProfile (x : Tile) (thr : List Nat) (crc : Nat) : Tile :=
  if (crc16 thr).toNat = crc then { x with thr := thr, armed := true } else x

/-- An addressed outbound frame acts on the tile by its type. -/
def State.tileAct (s : State) (x : Tile) (side residence : Nat) (td : Int) (f : Frame) : Tile :=
  match f.body with
  | .sample target seq flags => s.tileSample x side target seq flags
  | .tsync dial => s.tileTsync x side dial f.active
  | .cmd fn data => s.tileCmd x side td f.seq fn data
  | .echo tag => tileSendOn x side { hop := 0, inbound := true, turnback := false, active := false, seq := f.seq,
                                     body := .echor tag residence }
  | .load off data => if x.rom then { x with img := putImg x.img off data, imgLen := max x.imgLen (off + 256) } else x
  | .loadend len crc _ => if x.rom then s.tileLoadend x side f.seq len crc else x
  | .profile thr crc => if x.rom then x else tileProfile x thr crc
  | .enum _ _ | .snapr .. | .resp .. | .echor .. | .alert .. | .other .. => x

/-- A tile receives a frame on a link: CRC failures and malformed frames are discarded and counted (R75, R76); an outbound ENUM
is acted on and forwarded (R81); an addressed frame is acted on, and a broadcast forwarded unchanged; every other frame is
forwarded with its hop count (R77, R79) or returned (R80). -/
def State.tileReceive (s : State) (k side : Nat) (crcOk : Bool) (residence : Nat) (td : Int) (f : Frame) : State :=
  let x := s.settle (s.tile k)
  if !x.powered then s
  else if !crcOk then s.setTile k { x with crcErr := x.crcErr + 1 }
  else if !bodyOk f.body then s.setTile k { x with frameErr := x.frameErr + 1 }
  else match f.inbound, f.body with
    | false, .enum c o => s.setTile k (tileForward (tileEnum x side c o) side { f with body := .enum (c + 1) o })
    | _, _ =>
      if addressed f then
        let y := s.settle (s.tileAct x side residence td f)
        s.setTile k (if f.hop = 15 then tileForward y side f else y)
      else s.setTile k (tileForward x side (hopStep f))

/-! ## Meanings -/

/-- SAMPLE_FRAME (R86). -/
def execSampleFrame (t k side : Nat) (f : Frame) (s : State) : Out := .next ((s.at t).tileReceive k side true 0 0 f)
/-- TSYNC_FRAME (R94). -/
def execTsyncFrame (t k side : Nat) (f : Frame) (s : State) : Out := .next ((s.at t).tileReceive k side true 0 0 f)
/-- ENUM_FRAME (R81). -/
def execEnumFrame (t k side : Nat) (f : Frame) (s : State) : Out := .next ((s.at t).tileReceive k side true 0 0 f)
/-- ECHO_FRAME (R91): the residence in the ECHOR is the tile's own figure. -/
def execEchoFrame (t k side residence : Nat) (f : Frame) (s : State) : Out := .next ((s.at t).tileReceive k side true residence 0 f)
/-- LOAD_FRAME (R96, R97). -/
def execLoadFrame (t k side : Nat) (f : Frame) (s : State) : Out := .next ((s.at t).tileReceive k side true 0 0 f)
/-- LOADEND_FRAME (R96). -/
def execLoadendFrame (t k side : Nat) (f : Frame) (s : State) : Out := .next ((s.at t).tileReceive k side true 0 0 f)
/-- PROFILE_FRAME (R99). -/
def execProfileFrame (t k side : Nat) (f : Frame) (s : State) : Out := .next ((s.at t).tileReceive k side true 0 0 f)
/-- TILE_FRAME_RELAY (R77, R79, R80). -/
def execTileFrameRelay (t k side : Nat) (crcOk : Bool) (f : Frame) (s : State) : Out := .next ((s.at t).tileReceive k side crcOk 0 0 f)
/-- BALSET: CMD function 0x21 (R262, R263). -/
def execBalset (t k side : Nat) (f : Frame) (s : State) : Out := .next ((s.at t).tileReceive k side true 0 0 f)
/-- DIE_TEMPERATURE_READ: CMD function 0x22 (R268). -/
def execDieTemperatureRead (t k side : Nat) (td : Int) (f : Frame) (s : State) : Out := .next ((s.at t).tileReceive k side true 0 td f)
/-- ARMSTAT: CMD function 0x23 (R545). -/
def execArmstat (t k side : Nat) (f : Frame) (s : State) : Out := .next ((s.at t).tileReceive k side true 0 0 f)
/-- OPEN_WIRE_SINKS: CMD function 0x31 (R133). -/
def execOpenWireSinks (t k side : Nat) (f : Frame) (s : State) : Out := .next ((s.at t).tileReceive k side true 0 0 f)

/-- Apply f to a powered tile. -/
def State.onTile (s : State) (k : Nat) (f : Tile → Tile) : State :=
  if (s.tile k).powered then s.setTile k (s.settle (f (s.settle (s.tile k)))) else s

/-- TILE_SINK_ON: at S the sinks of the command held connect (R133). -/
def execTileSinkOn (t k : Nat) (s : State) : Out :=
  let s := s.at t
  .next (s.onTile k fun x => match x.sinkCmd with
    | some (m, at0, _) => if at0 ≤ s.tileNs x then { x with sinks := m } else x
    | none => x)

/-- An ALERT frame of a tile (Table 3-2). -/
def alertFrame (code side : Nat) : Frame :=
  { hop := 0, inbound := true, turnback := false, active := false, seq := 0, body := .alert code side }

/-- A tile declares a link down: its home end turns if that link led there, and ALERT LINKDOWN leaves on the other link at once
(R82, R83). -/
def tileLinkDown (x : Tile) (link : Nat) : Tile :=
  let y := tileSetUp x link false
  let y := if (tileIf x (linkIf link)).home % 2 = linkEnd link then tileTurnHome y (linkIf link) else y
  if tileUp y (linkOther link) then tileTx y (linkOther link) (alertFrame 1 (linkEnd link)) else y

/-- Frames that were held leave. -/
def tileFlush (x : Tile) : Tile := x.held.foldl (fun x h => tileSendOn x h.1 h.2) { x with held := [] }

/-- ALERT_LINKDOWN: forwarded, and from the home side it turns the home end (R83). -/
def execAlertLinkdown (t k side : Nat) (f : Frame) (s : State) : Out :=
  .next ((s.at t).onTile k fun x =>
    let y := tileForward x side (hopStep f)
    if (tileIf x (linkIf side)).home % 2 = linkEnd side then tileTurnHome y (linkIf side) else y)

/-- A tile's outputs on the fault loops of both interfaces pass the toggle, or are static (R97, R101, R107). -/
def tileLoops (x : Tile) (b : Bool) : Tile := { x with x := { x.x with loop := b }, y := { x.y with loop := b } }

/-- TILE_BOOT: a tile in its ROM loader whose image check passed boots it, and passes the toggles from then on (R96, R97). -/
def tileBoot (x : Tile) : Tile := if x.rom && x.imgOk then tileLoops { x with rom := false } true else x

/-- The instant on tile time at which a tile's SNAPR for a sample begins (R84). -/
def State.slotTime (s : State) (x : Tile) (c : Sched) : Nat :=
  c.target + 1000 * (s.fld F.TRV_SLOTCFG_RESPDLY + (tileSlotIndex x c.iface - 1) * s.fld F.TRV_SLOTCFG_SLOT)

/-- TILE_SNAPR_SLOT: from its slot on, the tile sends its SNAPR toward its home end, on the interface that carried the SAMPLE (R84,
R107). -/
def execTileSnaprSlot (t k : Nat) (s : State) : Out :=
  let s := s.at t
  .next (s.onTile k fun x => match x.result with
    | some (c, v) => if s.tileNs x < s.slotTime x c then x else tileSendOn { x with result := none } (tileHomeLink x c.iface)
        { hop := 0, inbound := true, turnback := false, active := false, seq := Config.snaprSeq c.seq
          body := .snapr c.seq x.armed c.late (decide (0 < x.retrain)) x.trip (crc16 x.thr).toNat v.mt v.temps v.cells }
    | none => x)

/-- The mean of raw containers of n bits, rounded half away from zero; a bad code stands (R114). -/
def meanCode (n : Nat) (bad : Option Nat) (cs : List Nat) : Nat :=
  if bad.isSome && cs.contains (bad.getD 0) then bad.getD 0 else (divRound ((cs.map (signed n)).foldl (· + ·) 0) cs.length % 2 ^ n).toNat

/-- The mean of the conversions taken. -/
def meanConv (cs : List Conversion) : Conversion :=
  match cs with
  | [] => ⟨0, [], []⟩
  | [c] => c
  | c :: _ =>
    { mt := meanCode 24 none (cs.map (·.mt))
      temps := (List.range c.temps.length).map fun i => meanCode 16 (some 0x8000) (cs.map fun c => c.temps.getD i 0)
      cells := (List.range c.cells.length).map fun i => meanCode 24 (some 0xF80000) (cs.map fun c => c.cells.getD i 0) }

/-- OV and UV of the comparators, from the threshold bytes of R332. -/
def tileLimits (x : Tile) : Int × Int := (signed 24 (leNat (x.thr.take 3)), signed 24 (leNat ((x.thr.drop 3).take 3)))

/-- The comparators' filter over consecutive conversions: each cell beyond OV or UV, and every cell inside (R101, R331). -/
def tileFilter (x : Tile) (cells : List Nat) : Tile :=
  let l := tileLimits x
  let out := fun (c : Nat) => c != 0xF80000 && (decide (l.1 < signed 24 c) || decide (signed 24 c < l.2))
  { x with
    ovCount := (List.range cells.length).map fun i => if out (cells.getD i 0xF80000) then min 4 (x.ovCount.getD i 0 + 1) else 0
    calm := if cells.all fun c => c != 0xF80000 && !out c then min 4 (x.calm + 1) else 0 }

/-- The mask of test sinks after the conversion of a sample: disconnected by the first one at or after S + settling time (R133). -/
def tileSinksOff (x : Tile) (target : Nat) : Tile :=
  match x.sinkCmd with
  | some (_, at0, ms) => if at0 + 1000000 * ms ≤ target then { x with sinks := 0, sinkCmd := none } else x
  | none => x

/-- A conversion enters the sample it was due for; after its last one the readings wait for the response slot, the response window is
set, and test sinks whose settling has passed disconnect (R85, R114, R133). -/
def State.tileConvert (s : State) (x : Tile) (d : Sched) (c : Conversion) : Tile :=
  let v := d.next
  let rest := x.sched.filter fun e => e != d
  let n : Sched := { d with remaining := d.remaining - 1, convs := c :: d.convs }
  let x := if d.quiet then x else { x with conv := some v }
  if n.remaining = 0 then
    tileSinksOff { x with sched := rest, result := some (n, meanConv n.convs), win := (d.target, d.target + s.windowNs) } d.target
  else { x with sched := n :: rest }

/-- TILE_CONVERSION: a conversion passes the comparators' filter, and where one of a sample is due it is taken for that sample (R101,
R114). -/
def execTileConversion (t k : Nat) (c : Conversion) (s : State) : Out :=
  let s := s.at t
  .next (s.onTile k fun x =>
    let x := tileFilter x c.cells
    match x.sched.find? fun d => decide (d.next ≤ s.tileNs x) with
    | none => x
    | some d => s.tileConvert x d c)

/-- TILE_COMPARATOR_TRIP: a cell has lain beyond OV or UV for 4 conversions: COMP_TRIP shows, the loop outputs go static and ALERT
COMPARATOR is sent toward the home end (R101, R331). -/
def execTileComparatorTrip (t k : Nat) (s : State) : Out :=
  let s := s.at t
  .next (s.onTile k fun x =>
    if x.armed && x.ovCount.contains 4 then
      s.tileAnswer (tileLoops { x with trip := true } false) (tileHomeLink x x.iface) (alertFrame 3 0)
    else x)

/-- TILE_COMPARATOR_RELEASE: every cell has been inside OV and UV for 4 conversions: COMP_TRIP clears and the loop outputs are
released (R101). -/
def execTileComparatorRelease (t k : Nat) (s : State) : Out :=
  .next ((s.at t).onTile k fun x => if x.trip && x.calm == 4 then tileLoops { x with trip := false } true else x)

/-- TILE_DIE_HOT: the tile opens every switch and sends ALERT DIE_HOT (R269). -/
def execTileDieHot (t k : Nat) (s : State) : Out :=
  let s := s.at t
  .next (s.onTile k fun x => s.tileAnswer { tileOpenAll x with dieHot := true } (tileHomeLink x x.iface) (alertFrame 4 0))

/-- TILE_BALSET_EXPIRY: the end instant or 2 s since the last BALSET have passed, and every switch opens (R263), unless a
conversion defers the change (R275). -/
def execTileBalsetExpiry (t k : Nat) (s : State) : Out :=
  let s := s.at t
  .next (s.onTile k fun x => if deferChange x (tileExpiry x) ≤ s.tileNs x then tileOpenAll x else x)

/-- TILE_POWER_UP: the tile starts fresh in its ROM loader, nothing armed, and sends ALERT BOOT (R97, R546). -/
def execTilePowerUp (t k ncell : Nat) (s : State) : Out :=
  let s := s.at t
  .next (s.setTile k { Tile.unpowered with powered := true, ncell := ncell, held := [(0, alertFrame 2 0)], tx := (s.tile k).tx })

/-- TILE_RESPONSE_WINDOW_END: the frames held leave (R85). -/
def execTileResponseWindowEnd (t k : Nat) (s : State) : Out :=
  let s := s.at t
  .next (s.onTile k fun x => if tileInWindow s.windowNs (s.tileNs x) x then x else tileFlush x)

end Sys2Proof.Machine
end

