-- ==== Sys2Proof/Machine/TrvPort.lean ====
section
/-! DEFINITION. Traverse ports: what a port sends and in which order, tile CMDs and their retries, and tile loads (03_traverse.md). -/

namespace Sys2Proof.Machine

/-! ## Wear counts (R488, R489) -/

/-- Raise a count of the wear ledger, saturating. -/
def State.wearAdd (s : State) (sec item n : Nat) : State :=
  { s with wear := { s.wear with live := Tab.modify (fun _ => 0) s.wear.live (65536 * sec + item) fun v => min 0xFFFFFFFF (v + n) } }

/-- An item of the wear ledger as it stands. -/
def State.wearGet (s : State) (sec item : Nat) : Nat := Tab.get (fun _ => 0) s.wear.live (65536 * sec + item)

/-! ## Ports, rings and known tiles -/

def State.port (s : State) (p : Nat) : Port := Tab.get (fun _ => Port.idle) s.trv.ports p
def State.setPort (s : State) (p : Nat) (x : Port) : State :=
  { s with trv := { s.trv with ports := Tab.set (fun _ => Port.idle) s.trv.ports p x } }
def State.ring (s : State) (r : Nat) : Ring := Tab.get (fun _ => Ring.reset) s.trv.rings r
def State.setRing (s : State) (r : Nat) (x : Ring) : State :=
  { s with trv := { s.trv with rings := Tab.set (fun _ => Ring.reset) s.trv.rings r x } }
def State.known (s : State) (k : Nat) : TileKnown := Tab.get (fun _ => TileKnown.reset) s.trv.known k
def State.setKnown (s : State) (k : Nat) (x : TileKnown) : State :=
  { s with trv := { s.trv with known := Tab.set (fun _ => TileKnown.reset) s.trv.known k x } }
def State.modRing (s : State) (r : Nat) (f : Ring → Ring) : State := s.setRing r (f (s.ring r))
def State.modPort (s : State) (p : Nat) (f : Port → Port) : State := s.setPort p (f (s.port p))
def State.modKnown (s : State) (k : Nat) (f : TileKnown → TileKnown) : State := s.setKnown k (f (s.known k))

/-- The codes of TRV_RINGSTS.STATE. -/
def RingState.code : RingState → Nat
  | .down => 0 | .training => 1 | .loading => 2 | .arming => 3 | .closed => 4 | .openRing => 5 | .degraded => 6 | .lost => 7
  | .fault => 8

/-- CLOSED, OPEN and DEGRADED: the ring carries snapshots. -/
def RingState.running : RingState → Bool
  | .closed | .openRing | .degraded => true
  | .down | .training | .loading | .arming | .lost | .fault => false

/-- A ring takes a state, and TRV_RINGSTS shows it. -/
def State.setRingState (s : State) (r : Nat) (v : RingState) : State :=
  (s.modRing r fun x => { x with state := v }).setFld (F.TRV_RINGSTS_STATE r) v.code

/-- Is the unit in the active role: ACTIVE or TAKING, which a single installation is from the end of start-up (R107, R365); in dead
reckoning none is (R344, R366)? -/
def State.activeRole (s : State) : Bool :=
  s.fld F.LDS_DRM_STATE == 0 && (s.fld F.RDN_STS_ROLE == 4 || s.fld F.RDN_STS_ROLE == 3)

/-- Is a service pause in force, from the acceptance of ACTIVATE to resumption (R450, R451)? -/
def State.updPaused (s : State) : Bool := s.upd.pauseAt.isSome && !s.upd.resumed

/-! ## Sending (R77, R86, R94, R97) -/

/-- The place of a frame among those that wait: SAMPLE, then TSYNC, then the rest. -/
def bodyRank : Body → Nat
  | .sample .. => 0 | .tsync .. => 1 | _ => 2

/-- Queue a frame behind those of its own rank. -/
def enqueue (f : Frame) : List Frame → List Frame
  | [] => [f]
  | g :: gs => if bodyRank f.body < bodyRank g.body then f :: g :: gs else g :: enqueue f gs

/-- The next SAMPLE of a ring is due at this instant: the last SAMPLE's departure plus 1/f; once it has passed none is due (R97). -/
def State.sampleDue (s : State) (r : Nat) : Option Nat :=
  match (s.ring r).lastSample with
  | some d => let due := d + 1000000000 / max 1 s.snapRate; if s.dial ≤ due then some due else none
  | none => none

/-- May a load frame of the given link time start now (R97)? -/
def State.loadMayStart (s : State) (r ns : Nat) : Bool :=
  match (s.ring r).state with
  | .loading => true
  | _ => match s.sampleDue r with
    | some due => decide (s.dial + ns + 30000 ≤ due)
    | none => true

/-- The 256 image bytes at an offset of the verified TW16 payload (R96). -/
def State.loadBytes (s : State) (off : Nat) : List Nat :=
  wordsBytes ((List.range 64).map fun i => Tab.get zeroWord s.upd.tw16.data (off / 4 + i))

/-- All bytes of the verified TW16 payload. -/
def State.tw16Bytes (s : State) : List Nat :=
  (wordsBytes ((List.range ((s.upd.tw16.len + 3) / 4)).map fun i => Tab.get zeroWord s.upd.tw16.data i)).take s.upd.tw16.len

/-- An outbound frame of this unit: ACTIVE shows the role, and is 1 in a single installation (Table 3-1). -/
def State.outFrame (s : State) (hop seq : Nat) (b : Body) : Frame :=
  { hop := hop, inbound := false, turnback := false, active := !s.flag F.RDN_CTL_TWIN || s.activeRole, seq := seq, body := b }

/-- The next frame of a port's load jobs, and the jobs after it: LOAD frames to the end of the image, then LOADEND. -/
def State.nextLoad (s : State) (x : Port) : Option (Frame × Nat × Port) :=
  match x.load with
  | [] => none
  | j :: js =>
    if j.off < s.upd.tw16.len then
      some (s.outFrame j.hop (x.nextSeq % 32) (.load j.off (s.loadBytes j.off)), 21760,
        { x with load := { j with off := j.off + 256 } :: js, nextSeq := x.nextSeq + 1 })
    else
      some (s.outFrame j.hop (x.nextSeq % 32) (.loadend s.upd.tw16.len (crc32c s.tw16Bytes) s.upd.tw16.ver), 1920,
        { x with load := js, nextSeq := x.nextSeq + 1 })

/-- Start the next frame of an idle port: the queue first, a TSYNC stamped with its departure; then a load frame where R97 allows. -/
def State.portKick (s : State) (p : Nat) : State :=
  let x := s.port p
  match x.busy with
  | some _ => s
  | none => match x.queue with
    | f :: fs =>
      let f := match f.body with
        | .tsync _ => { f with body := .tsync s.dial }
        | _ => f
      let s := s.setPort p { x with busy := some f, queue := fs }
      match f.body with
      | .sample .. => s.modRing (p / 2) fun g => { g with lastSample := some s.dial }
      | _ => s
    | [] => match s.nextLoad x with
      | some (f, ns, y) => if s.loadMayStart (p / 2) ns then s.setPort p { y with busy := some f } else s
      | none => s

/-- A frame enters a port's queue; a ring that is DOWN sends idle only. -/
def State.portQueue (s : State) (p : Nat) (f : Frame) : State :=
  if (s.ring (p / 2)).state = .down then s
  else (s.modPort p fun x => { x with queue := enqueue f x.queue }).portKick p

/-- A request to send a frame on a port: HOP 0x0, 0xD and 0xE are refused with HOP_REJECT (R77), and a PROFILE, which only Lodestone's
own path injects, with PROF_REJECT (R98). -/
def State.portSend (s : State) (p : Nat) (f : Frame) : State :=
  if f.hop = 0 ∨ f.hop = 13 ∨ f.hop = 14 then s.raise (F.TRV_PORTSTS_HOP_REJECT p)
  else match f.body with
    | .profile .. => s.raise (F.TRV_PORTSTS_PROF_REJECT p)
    | _ => s.portQueue p f

/-- Send a frame that is no CMD: SEQ counts up. -/
def State.portSendBody (s : State) (p hop : Nat) (b : Body) : State :=
  let q := (s.port p).nextSeq
  (s.modPort p fun x => { x with nextSeq := q + 1 }).portSend p (s.outFrame hop (q % 32) b)

/-! ## Hops and slots -/

/-- Ring of a slot and hop of the slot from end 0. -/
def slotRing (k : Nat) : Nat := k / 12
def slotHop (k : Nat) : Nat := k % 12 + 1

/-- The slot of the tile at hop h from end e of ring r with N tiles. -/
def slotAt (r e h n : Nat) : Nat := if e = 0 then 12 * r + h - 1 else 12 * r + (n + 1 - h) - 1

/-- Hop of a slot from end e. -/
def State.hopFrom (s : State) (e k : Nat) : Nat := if e = 0 then slotHop k else (s.ring (slotRing k)).n + 1 - slotHop k

/-- Tiles that the last check reached from end e. -/
def State.reachFrom (s : State) (r e : Nat) : Nat := if e = 0 then s.fld (F.TRV_RINGSTS_K0 r) else s.fld (F.TRV_RINGSTS_K1 r)

/-- Did the last check reach a slot from end e? -/
def State.reachedFrom (s : State) (e k : Nat) : Bool :=
  decide (1 ≤ slotHop k ∧ slotHop k ≤ (s.ring (slotRing k)).n ∧ s.hopFrom e k ≤ s.reachFrom (slotRing k) e)

/-- Is a slot's tile reachable (R89)? -/
def State.reachable (s : State) (k : Nat) : Bool := s.reachedFrom 0 k || s.reachedFrom 1 k

/-- The slots of a ring that hold tiles found at its last full enumeration. -/
def State.ringSlots (s : State) (r : Nat) : List Nat := (List.range (s.ring r).n).map fun i => 12 * r + i

/-! ## CMDs (R87, R545) -/

/-- Send a CMD, padded to 4 bytes (R545), to a slot's tile, from end 0 where that reaches it, otherwise from end 1. -/
def State.sendCmd (s : State) (k : Nat) (use : CmdUse) (fn : Nat) (data : List Nat) : State :=
  let e := if s.reachedFrom 0 k then 0 else 1
  let p := 2 * slotRing k + e
  let q := (s.port p).nextSeq
  let f := s.outFrame (s.hopFrom e k) (q % 32) (.cmd fn (padTo 3 data))
  (s.modPort p fun x => { x with nextSeq := q + 1, outst := x.outst ++ [{ frame := f, use := use, retries := 0, sentAt := none }] }).portSend p f

/-- Time of an interval that lies inside a ring's response windows. -/
def windowTime (a b : Nat) (ws : List (Nat × Nat)) : Nat :=
  (ws.map fun w => min b w.2 - max a w.1).sum

/-- Has the 500 µs timeout of a CMD run out: only time outside response windows counts (R87)? -/
def State.cmdTimedOut (s : State) (r : Nat) (o : Outst) : Bool :=
  match o.sentAt with
  | some a => decide (500000 + windowTime a s.dial (s.ring r).windows ≤ s.dial - a)
  | none => false

/-- Queue a load of a slot's tile, addressed, or a broadcast load on a port (R96). -/
def State.startLoad (s : State) (p hop : Nat) : State :=
  (s.modPort p fun x => { x with load := x.load ++ [{ hop := hop, off := 0 }] }).portKick p

/-- An addressed load of a slot's tile. -/
def State.loadTile (s : State) (k : Nat) : State :=
  let e := if s.reachedFrom 0 k then 0 else 1
  s.startLoad (2 * slotRing k + e) (s.hopFrom e k)

/-! ## Frames received at a port -/

/-- The checks every received frame passes: a CRC failure is counted in CRCERR and in the wear ledger, a malformed frame in
FRAMEERR (R75, R76). -/
def State.portCheck (s : State) (p : Nat) (crcOk : Bool) (f : Frame) : Bool × State :=
  if !crcOk then (false, (s.satAdd (F.TRV_PORTSTS_CRCERR p) 1).wearAdd 3 (4 + p) 1)
  else if !bodyOk f.body then (false, s.satAdd (F.TRV_PORTSTS_FRAMEERR p) 1)
  else (true, s)

/-- The slot of the tile a frame at a port comes from: HOP k at end e is hop k + 1 (R79). -/
def State.sourceSlot (s : State) (p : Nat) (f : Frame) : Nat := slotAt (p / 2) (p % 2) (f.hop + 1) (s.ring (p / 2)).n

end Sys2Proof.Machine
end

