-- ==== Sys2Proof/Machine/Acq.lean ====
section
/-! DEFINITION. Acquisition: slots and service, snapshots, current, the checks on every snapshot, open-wire tests, and the epoch's acquisition record (04_acquisition.md), with the balance-through correction of 10_balancing.md. -/

namespace Sys2Proof.Machine

/-! ## Slots -/

def State.acqSlot (s : State) (k : Nat) : AcqSlot := Tab.get (fun _ => AcqSlot.reset) s.acq.slots k
def State.setAcqSlot (s : State) (k : Nat) (x : AcqSlot) : State :=
  { s with acq := { s.acq with slots := Tab.set (fun _ => AcqSlot.reset) s.acq.slots k x } }
def State.modAcqSlot (s : State) (k : Nat) (f : AcqSlot → AcqSlot) : State := s.setAcqSlot k (f (s.acqSlot k))
def State.balSlot (s : State) (k : Nat) : BalSlot := Tab.get (fun _ => BalSlot.reset) s.bal.slots k
def State.modBalSlot (s : State) (k : Nat) (f : BalSlot → BalSlot) : State :=
  { s with bal := { s.bal with slots := Tab.modify (fun _ => BalSlot.reset) s.bal.slots k f } }
/-- A balancing parameter in use: the registers act from the epoch boundary after their write (R17). -/
def State.balParam (s : State) (f : Fld) : Nat := getBits (Tab.get regReset s.bal.use f.reg) f.lo (f.hi - f.lo + 1)
def State.balParamS (s : State) (f : Fld) : Int := getBitsS (Tab.get regReset s.bal.use f.reg) f.lo (f.hi - f.lo + 1)
/-- The balancing parameters written before a boundary come into use. -/
def State.balTake (s : State) : State :=
  { s with bal := { s.bal with
      use := [Reg.BAL_CTL, Reg.BAL_CFG, Reg.BAL_THR, Reg.BAL_TDER].foldl (fun m o => Tab.set regReset m o (s.word o)) s.bal.use } }
def State.posAcc (s : State) (p : Nat) : PosAcc := Tab.get (fun _ => PosAcc.reset) s.acq.pos p
def State.modPosAcc (s : State) (p : Nat) (f : PosAcc → PosAcc) : State :=
  { s with acq := { s.acq with pos := Tab.modify (fun _ => PosAcc.reset) s.acq.pos p f } }

/-- What Sextant keeps beside context c. -/
def State.sxtSide (s : State) (c : Nat) : SxtSide := Tab.get (fun _ => SxtSide.reset) s.sxt.side c
def State.modSide (s : State) (c : Nat) (f : SxtSide → SxtSide) : State :=
  { s with sxt := { s.sxt with side := Tab.modify (fun _ => SxtSide.reset) s.sxt.side c f } }

/-- All tile slots. -/
def allSlots : List Nat := List.range 48

/-- Tiles configured on a ring (R110). -/
def State.ringTiles (s : State) (r : Nat) : Nat := ((List.range 12).filter fun i => (s.acqSlot (12 * r + i)).ncell != 0).length

/-- The slot and input of a position (R108). -/
def State.slotOfPos (s : State) (p : Nat) : Option (Nat × Nat) :=
  (allSlots.find? fun k => let x := s.acqSlot k; x.ncell != 0 && decide (x.basep ≤ p ∧ p < x.basep + x.ncell)).map
    fun k => (k, p - (s.acqSlot k).basep)

/-- Confirmed and suspected wires of a slot. -/
def State.owCnf (s : State) (k : Nat) : Nat := s.fld (F.ACQ_OWCNF_CONFIRMED k)
def State.owSus (s : State) (k : Nat) : Nat := s.fld (F.ACQ_OWSUS_SUSPECT k)

/-- Does any slot hold a confirmed wire? The live bit of OW_CONFIRMED follows it. -/
def State.owAny (s : State) : Bool := allSlots.any fun k => s.owCnf k != 0

/-! ## Capacity (R143) -/

/-- TMIN in µs for a given OVS setting. -/
def State.tminFor (s : State) (ovs : Bool) : Nat :=
  s.fld F.TRV_SLOTCFG_RESPDLY + 12 * s.fld F.TRV_SLOTCFG_SLOT + 5 + if ovs then 3750 else 0

/-- Does SLOT carry tiles of n cells? -/
def State.slotFits (s : State) (n : Nat) : Bool := decide ((28 + 3 * n) * 80 + 1000 ≤ 1000 * s.fld F.TRV_SLOTCFG_SLOT)

/-- The largest configured cell count. -/
def State.nmaxCells (s : State) : Nat := allSlots.foldl (fun m k => max m (s.acqSlot k).ncell) 0

/-- Does a snapshot rate pass the traverse capacity check? -/
def State.rateFits (s : State) (ovs : Bool) (f : Nat) : Bool :=
  decide (100 ≤ f ∧ f ≤ 8000 ∧ s.tminFor ovs * f ≤ 1000000) && s.slotFits s.nmaxCells

/-- ACQ_CAP shows TMIN and the highest rate that passes. -/
def State.refreshCap (s : State) : State :=
  let t := s.tminFor s.ovs
  (s.setFld F.ACQ_CAP_TMIN t).setFld F.ACQ_CAP_MAXRATE (min 8000 (1000000 / t))

/-- A write of TRV_SLOTCFG: a field outside its range leaves the register unchanged. -/
def State.slotcfgWrite (s : State) (v : Word) : State :=
  if 16 ≤ getBits v 16 8 ∧ 8 ≤ getBits v 0 8 ∧ getBits v 0 8 ≤ 64 then (s.setWord Reg.TRV_SLOTCFG (v &&& 0x00FF00FF#32)).refreshCap
  else s

/-! ## BALSET and suspension (R262, R264, R270) -/

/-- Where the last mask commanded to a slot ends: at its end instant, or 2 s after the BALSET (R263). -/
def BalSlot.endsAt (x : BalSlot) : Nat := match x.cmdEnd with
  | some e => min e (x.cmdAt + 2000000000)
  | none => x.cmdAt + 2000000000

/-- Commanded switches that have changed up to an instant, the end of the last command among them (R279). -/
def BalSlot.edgesTo (x : BalSlot) (now : Nat) : List (Nat × Nat) := x.edges ++ (if x.endsAt ≤ now then [(x.endsAt, x.cmdMask)] else [])

/-- Send a BALSET to a slot's tile with S, end instant and mask: only the unit in the active role sends it, and only to a tile
in service (R262, R264). -/
def State.sendBalset (s : State) (k s0 : Nat) (fin : Option Nat) (mask : Nat) : State :=
  if s.activeRole && (s.acqSlot k).inService then
    let short := match fin with
      | some e => if e ≤ s0 + 500000000000 then e % 2 ^ 40 else 0xFFFFFFFFFF
      | none => 0xFFFFFFFFFF
    let old := fun (x : BalSlot) => if x.endsAt ≤ s.dial then 0 else x.cmdMask
    let edges := fun (x : BalSlot) =>
      (x.edgesTo s.dial ++ (if old x = mask then [] else [(max s0 s.dial, old x ^^^ mask)])).filter fun e => decide (s.dial < e.1 + 30000000000)
    let s := s.modBalSlot k fun x => { x with edges := edges x, prevMask := old x, cmdMask := mask, cmdAt := s.dial, cmdS := s0, cmdEnd := fin }
    (s.setFld (F.BAL_TILE_ONMASK k) mask).sendCmd k (.balset k mask) 0x21
      (leBytes (s0 % 2 ^ 40) 5 ++ leBytes short 5 ++ leBytes mask 2 ++ leBytes 2000 2)
  else s

/-- Is a configured slot suspended: out of service, in its sweep, or in a test window (R270)? -/
def State.suspNow (s : State) (k : Nat) : Bool :=
  let x := s.acqSlot k
  x.ncell != 0 && (!x.inService || x.sweep || (match x.test with | some u => decide (u.s0 ≤ s.dial) | none => false))

/-- Does the planner keep a slot's switches open: suspended, or with a test whose window is about to begin (R270)? The BALSET that opens
them at S would not outlast another one. -/
def State.balOff (s : State) (k : Nat) : Bool := s.suspNow k || (s.acqSlot k).test.isSome

/-- SUSP of a slot and the held condition of BAL_STS follow. -/
def State.suspRefresh (s : State) (k : Nat) : State :=
  let b := s.suspNow k
  let s := (s.modBalSlot k fun x => { x with susp := b }).setFlag (F.BAL_TILE_SUSP k) b
  s.setHeld F.BAL_STS_SUSP (allSlots.any fun k => (s.balSlot k).susp)

/-- SUSP of every slot is brought up to the present: a test window begins at its S without a command (R270). -/
def State.suspAll (s : State) : State :=
  allSlots.foldl (fun s k => if (s.balSlot k).susp == s.suspNow k then s else s.suspRefresh k) s

/-! ## Open-wire tests (R132 to R137) -/

/-- Effective values of ACQ_OWCFG. -/
def State.owConf (s : State) : Nat := 100 * max 1 (s.fld F.ACQ_OWCFG_OWCONF)
def State.owRecover (s : State) : Nat := max 1 (s.fld F.ACQ_OWCFG_OWRECOVER)
def State.owSettle (s : State) : Nat := max 1 (s.fld F.ACQ_OWCFG_OWSETTLE)
def State.owPersist (s : State) : Nat := max 2 (s.fld F.ACQ_OWCFG_OWPERSIST)
def State.owThr (s : State) : Nat := 100 * max 5 (s.fld F.ACQ_OWCFG_OWTHR)

/-- Even and odd wires of a tile of n cells. -/
def wireMask (n par : Nat) : Nat := ((List.range (n + 1)).filter (fun w => w % 2 == par)).foldl (fun m w => m + 2 ^ w) 0

/-- The first whole millisecond of Dial that lies at least 1 ms after an instant (R133). -/
def nextWholeMs (t : Nat) : Nat := (t + 1000000 + 999999) / 1000000 * 1000000

/-- Instant of the test snapshot of a test, once one has been launched. -/
def owTarget (x : OwTest) : Option Nat := x.fin.map fun f => f - 1000000 * x.recover

/-- Decide a test of a slot's wires: the CMD goes out with S and the settling time of this instant (R133). -/
def State.owStart (s : State) (k : Nat) (use : OwUse) (mask : Nat) : State :=
  let s0 := nextWholeMs s.dial
  let x := s.acqSlot k
  let settle := s.owSettle
  let fin := ((s.acq.snaps.filter fun c => decide (s0 + 1000000 * settle ≤ c.target)).head?).map
    fun c => c.target + 1000000 * s.owRecover
  let u : OwTest := { use := use, mask := mask, s0 := s0, settle := settle, recover := s.owRecover, respOk := false, decided := false,
                      pre := x.last.map fun r => r.cells, fin := fin }
  ((s.setAcqSlot k { x with test := some u }).sendCmd k (.openWire k) 0x31 (leBytes mask 3 ++ leBytes (s0 % 2 ^ 40) 5 ++ [settle])
    |>.when ((s.balSlot k).cmdMask != 0) fun s => s.sendBalset k s0 none 0).suspRefresh k

/-- Schedule the test a slot waits for, if it is in service and none runs: the sweep's windows first, then the wires of one
parity among those to retest and those suspected (R132, R133, R137). -/
def State.owSchedule (s : State) (k : Nat) : State :=
  let x := s.acqSlot k
  if x.inService = false ∨ x.test.isSome = true ∨ x.last.isNone = true then s
  else if x.sweep then
    if x.sweepOdd then s.owStart k .sweepOdd (wireMask x.ncell 1) else s.owStart k .sweepEven (wireMask x.ncell 0)
  else
    let wait := x.retest ||| s.owSus k
    let even := wait &&& wireMask 16 0
    if wait = 0 then s
    else
      let m := if even ≠ 0 then even else wait
      s.owStart k (if x.retest &&& m ≠ 0 then .retest else .suspect) m

/-- A slot's test ends now: a snapshot targeted in its window still falls in it (R135). -/
def endTest (now : Nat) (x : AcqSlot) : AcqSlot :=
  match x.test with
  | some u => { x with test := none, window := if u.s0 ≤ now then some (u.mask, u.s0, min now (u.fin.getD now)) else x.window }
  | none => x

/-- Abandon a slot's test and schedule it again (R134, R135). -/
def State.owAbandon (s : State) (k : Nat) : State := (s.modAcqSlot k (endTest s.dial)).owSchedule k |>.suspRefresh k

/-- Is a code unusable for the condition of R134: malformed, or of an incomplete conversion (R117)? -/
def badCode (c : Nat) : Bool := c == 0xF80000 || c / 0x100000 != (if c / 0x80000 % 2 = 1 then 15 else 0)

/-- A cell code in units of 10 µV. -/
def cellVal (c : Nat) : Int := signed 24 c

/-- The verdict on wire w of a tile of n cells: none where a code the condition needs is unusable (R134). -/
def wireVerdict (conf n : Nat) (pre now : List Nat) (w : Nat) : Option Bool :=
  let fell := fun k => if badCode (pre.getD k 0xF80000) || badCode (now.getD k 0xF80000) then none
    else some (decide ((conf : Int) ≤ cellVal (pre.getD k 0) - cellVal (now.getD k 0)))
  let rose := fun k => if badCode (pre.getD k 0xF80000) || badCode (now.getD k 0xF80000) then none
    else some (decide ((conf : Int) ≤ cellVal (now.getD k 0) - cellVal (pre.getD k 0)))
  if w = 0 then fell 0
  else if w = n then fell (n - 1)
  else match fell (w - 1), rose w with
    | some a, some b => some (a && b)
    | _, _ => none

/-- A test's outcome for one wire: confirmed, or cleared with OW_UNCONF counted for a suspected one (R134, R136). -/
def State.owWire (s : State) (k w : Nat) (ok : Bool) : State :=
  let bit := 2 ^ w
  let sus := s.owSus k
  let cnf := s.owCnf k
  let s := s.setFld (F.ACQ_OWSUS_SUSPECT k) (if sus.testBit w then sus - bit else sus)
  if ok then s.setFld (F.ACQ_OWCNF_CONFIRMED k) (cnf ||| bit)
  else (s.setFld (F.ACQ_OWCNF_CONFIRMED k) (if cnf.testBit w then cnf - bit else cnf)).when (sus.testBit w) fun s => s.wearAdd 6 k 1

/-- The wires of a mask. -/
def wiresOf (mask : Nat) : List Nat := onesBelow 17 mask

/-- The test snapshot has closed with an accepted SNAPR: every wire is decided, or the test is abandoned (R134, R136). -/
def State.owDecide (s : State) (k : Nat) (x : OwTest) (now : List Nat) : State :=
  match x.pre with
  | none => s.owAbandon k
  | some pre =>
    let n := (s.acqSlot k).ncell
    let vs := (wiresOf x.mask).map fun w => (w, wireVerdict s.owConf n pre now w)
    if !x.respOk || vs.any (fun v => v.2 == none) then s.owAbandon k
    else
      let conf := (vs.filter fun v => v.2 == some true).map (·.1)
      let s := vs.foldl (fun s v => s.owWire k v.1 (v.2 == some true)) s
      let s := s.modAcqSlot k fun y => { y with retest := y.retest &&& (0x1FFFF ^^^ x.mask), test := some { x with decided := true } }
      if conf.isEmpty then s.setFlag F.ACQ_STS_OW_CONFIRMED_L s.owAny
      else (s.raiseEv F.ACQ_STS_OW_CONFIRMED).logEvent 0x0401 2 (nw k) [nw (conf.foldl (fun m w => m + 2 ^ w) 0)]

/-- Has no test snapshot come within 1 s of S (R135)? -/
def noTestSnap (now : Nat) (x : OwTest) : Bool :=
  decide (x.s0 + 1000000000 ≤ now) && (match owTarget x with | some v => decide (x.s0 + 1000000000 < v) | none => true)

/-- OW_TEST_ABANDON: the RESP has not arrived by S, or no test snapshot came within 1 s of S (R135). -/
def execOwTestAbandon (t k : Nat) (s : State) : Out :=
  let s := s.at t
  .next (match (s.acqSlot k).test with
    | some x => if (x.s0 ≤ s.dial ∧ x.respOk = false) ∨ noTestSnap s.dial x = true then s.owAbandon k else s
    | none => s)

/-- OW_TEST_WINDOW_END: the window ends OWRECOVER after the test snapshot; the sweep goes on to the odd wires or ends, and the
next test is decided (R133, R137). -/
def execOwTestWindowEnd (t k : Nat) (s : State) : Out :=
  let s := s.at t
  .next (match (s.acqSlot k).test with
    | some x => match x.fin with
      | some f =>
        if x.decided = true ∧ f ≤ s.dial then
          (s.modAcqSlot k fun y => { endTest s.dial y with
              sweepOdd := y.sweepOdd || x.use == OwUse.sweepEven, sweep := y.sweep && x.use != OwUse.sweepOdd,
              window := some (if x.use = .sweepOdd then (0x1FFFF, 0, f) else (x.mask, x.s0, f)) }).owSchedule k |>.suspRefresh k
        else s
      | none => s
    | none => s)

/-- A retest of every confirmed wire of a slot is asked for (ACQ_OWCMD). -/
def State.owRetest (s : State) (k : Nat) : State :=
  if k < 48 then (s.modAcqSlot k fun x => { x with retest := s.owCnf k }).owSchedule k else s

/-- OW_RETEST_GO: a write of ACQ_OWCMD; without GO it stores TILE only. -/
def State.owcmdWrite (s : State) (v : Word) : State :=
  let s := s.setFld F.ACQ_OWCMD_TILE (getBits v 16 6)
  if v.getLsbD 0 then s.owRetest (getBits v 16 6) else s

def execOwRetestGo (t : Nat) (_m : Master) (v : Word) (s : State) : Out := .next ((s.at t).owcmdWrite v)

/-! ## Service (R137, Table 4-4) -/

/-- Is a configured slot's tile in service: its ring running, the tile reachable, booted, neither FAILED nor fresh? -/
def State.serviceNow (s : State) (k : Nat) : Bool :=
  let x := s.known k
  (s.ring (slotRing k)).state.running && s.reachable k && x.booted && !x.failed && !x.fresh && (s.acqSlot k).ncell != 0

/-- Follow a slot's service state: a tile that leaves service loses its test (R135), and its epoch the string-sum check (R128); one that
comes back waits for its first accepted SNAPR. -/
def State.serviceSlot (s : State) (k : Nat) : State :=
  let x := s.acqSlot k
  let now := s.serviceNow k
  if now = x.inService then s
  else if now then
    let s := (s.setAcqSlot k { x with inService := true, missed := 0, silent := false }).suspRefresh k
    (List.range x.ncell).foldl (fun s j => s.modSide (x.basep + j) fun y => { y with needFirst := true }) s
  else (({ s with acq := { s.acq with outIn := s.ep.opn.serial :: s.acq.outIn } }).setAcqSlot k
      { endTest s.dial x with inService := false, silent := false }).suspRefresh k

/-- Follow the service of every slot of a ring. -/
def State.serviceRing (s : State) (r : Nat) : State := (List.range 12).foldl (fun s i => s.serviceSlot (12 * r + i)) s

/-- The tiles of a ring that leaves ARMING, or a tile that has booted afresh, run a start-up sweep (R137, R546). -/
def State.sweepSlot (s : State) (k : Nat) : State :=
  s.modAcqSlot k fun x => { x with sweep := true, sweepOdd := false, clean := none, cls := OwClass.clean, run := 0, sumRun := 0,
                                   missed := 0, silent := false, last := none, test := none, window := none, sumErr := false, subst := false }

/-- A change of a ring's state abandons the tests on it (R135). -/
def State.abandonRing (s : State) (r : Nat) : State :=
  (List.range 12).foldl (fun s i => if (s.acqSlot (12 * r + i)).test.isSome then s.owAbandon (12 * r + i) else s) s

/-! ## APPLY (R109) -/

/-- The positions a slot's written configuration names. -/
def State.cfgPositions (s : State) (k : Nat) : List Nat :=
  (List.range (s.fld (F.ACQ_TILECFG_NCELL k))).map fun i => s.fld (F.ACQ_TILECFG_BASEP k) + i

/-- Every check of R109. -/
def State.applyOk (s : State) : Bool :=
  let nc := fun k => s.fld (F.ACQ_TILECFG_NCELL k)
  let npos := s.fld F.ACQ_CTL_NPOS
  let ps := allSlots.flatMap s.cfgPositions
  s.fld F.TRV_CTL_EN == 0 && allSlots.all (fun k => nc k == 0 || decide (8 ≤ nc k ∧ nc k ≤ 16)) &&
  allSlots.all (fun k => k % 12 == 0 || nc k == 0 || nc (k - 1) != 0) &&
  decide (npos ≤ 640) && ps.length == npos && (List.range npos).all (fun p => (ps.filter (· == p)).length == 1) &&
  s.slotFits (allSlots.foldl (fun m k => max m (nc k)) 0)

/-- APPLY accepted: the slot values are taken into use, every test and sweep ends, suspected wires clear, and confirmed wires
that no longer exist with them (R109). -/
def State.applySlots (s : State) : State :=
  let s := allSlots.foldl (fun s k =>
    let n := s.fld (F.ACQ_TILECFG_NCELL k)
    let s := s.setFld (F.ACQ_OWSUS_SUSPECT k) 0
    let s := s.setFld (F.ACQ_OWCNF_CONFIRMED k) (if n = 0 then 0 else s.owCnf k % 2 ^ (n + 1))
    s.setAcqSlot k { AcqSlot.reset with ncell := n, basep := s.fld (F.ACQ_TILECFG_BASEP k), tmap := (s.word (Reg.ACQ_TMAP k)).toNat }) s
  ({ s with acq := { s.acq with npos := s.fld F.ACQ_CTL_NPOS } }).setFlag F.ACQ_STS_OW_CONFIRMED_L s.owAny

/-! ## Source of the current (R125) -/

/-- What Acquisition keeps for modulator n. -/
def State.modSt (s : State) (n : Nat) : ModSt := Tab.get (fun _ => ModSt.reset) s.acq.mods n
def State.setModSt (s : State) (n : Nat) (x : ModSt) : State :=
  { s with acq := { s.acq with mods := Tab.set (fun _ => ModSt.reset) s.acq.mods n x } }

/-- SRCSEL with 3 taken as 0. -/
def State.srcSel (s : State) : Nat := if s.fld F.ACQ_MODCFG_SRCSEL = 3 then 0 else s.fld F.ACQ_MODCFG_SRCSEL

/-- The source the next snapshot uses (R125): the modulator forced, else the first without a fault, else the one in use. -/
def State.nextSrc (s : State) : Nat :=
  if s.srcSel = 1 then 0 else if s.srcSel = 2 then 1
  else if !(s.modSt 0).fault then 0 else if !(s.modSt 1).fault then 1 else s.acq.src

/-! ## Snapshots (R112, R113) -/

/-- A SNAP is accepted or refused; an accepted one fixes the source of its current, sends SAMPLE on every port of every running ring
and opens the response window (R86, R112, R113, R125). 128 windows of a ring are kept: more than 500 µs of time outside them (R87,
R143). -/
def State.acqSnap (s : State) (target : Nat) : Bool × State :=
  let early := match s.acq.lastTarget with
    | some l => decide (target < l + 1000 * s.tminFor s.ovs)
    | none => false
  if early then
    (false, (s.raiseEv F.ACQ_STS_SNAP_OVERRUN).satAdd F.ACQ_SNAPSTS_OVERRUNS 1)
  else
    let q := s.acq.nextSeq
    let flags := 128 * b2n s.ovs + 64 * b2n (!s.balThrough)
    let wend := target + s.windowNs
    let serial := (s.ep.closing.find? fun e => e.holds target).map (·.serial)
    let src := s.nextSrc
    let s : State := { s with acq := { s.acq with
      nextSeq := (q + 1) % 0x10000, lastTarget := some target, targets := target :: s.acq.targets,
      snaps := s.acq.snaps ++ [{ seq := q, target := target, ovs := s.ovs, quiet := !s.balThrough, src := src, serial := serial, winEnd := wend,
                                 got := [], code0 := none, code1 := none }] } }
    let s := (s.setFld F.ACQ_SNAPSTS_LASTSEQ q).setFld F.ACQ_MODCFG_CURSRC src
    let s := (List.range 4).foldl (fun s r =>
      if (s.ring r).state.running then
        let s := s.modRing r fun g => { g with windows := (target, wend) :: g.windows.take 127 }
        [2 * r, 2 * r + 1].foldl (fun s p => s.portSendBody p 15 (.sample (target % 2 ^ 40) q flags)) s
      else s) s
    (true, allSlots.foldl (fun s k => match (s.acqSlot k).test with
      | some x => if x.fin.isNone ∧ x.s0 + 1000000 * x.settle ≤ target then
          s.modAcqSlot k fun y => { y with test := some { x with fin := some (target + 1000000 * x.recover) } }
        else s
      | none => s) s)

/-! ## SNAPRs (R100, R116) -/

/-- Lodestone's reading of ARMED and ARMCRC (R100): on a running ring each is noted as good or bad. -/
def State.armRead (s : State) (k : Nat) (armed : Bool) (crc : Nat) : State :=
  let ok := armed && crc == s.fld F.LDS_CFG_PROFCRC
  s.modKnown k fun x => if ok then { x with armAt := s.dial, armBad := false } else { x with armBad := true }

/-- Does a SNAPR belong to an open snapshot? -/
def State.snapOpen (s : State) (q : Nat) : Bool := s.acq.snaps.any fun c => c.seq == q

/-- A SNAPR that passed its CRC reaches Acquisition: accepted into its snapshot, the first one standing, or discarded (R116). -/
def State.takeSnapr (s : State) (k q : Nat) (len : Nat) (r : SnaprRec) : State :=
  let x := s.acqSlot k
  let base := s.snapOpen q && x.ncell != 0 && x.inService
  if base && len == x.ncell then
    { s with acq := { s.acq with snaps := s.acq.snaps.map fun (c : Snap) =>
        if c.seq = q ∧ (Tab.get (fun _ => none) c.got k).isNone then { c with got := Tab.set (fun _ => none) c.got k (some r) } else c } }
  else
    (s.raiseEv F.ACQ_STS_LATE_SNAPR).when base fun s => s.raiseEv F.ACQ_STS_NCELL_MISMATCH

/-- SNAPR_RECEIVE: one that fails its CRC is discarded with LATE_SNAPR (R116). -/
def execSnaprReceive (t p : Nat) (crcOk : Bool) (f : Frame) (s : State) : Out :=
  let s := s.at t
  let c := s.portCheck p crcOk f
  .next (if c.1 then match f.body with
    | .snapr q armed late retrain trip crc mt temps cells =>
      let k := c.2.sourceSlot p f
      ((c.2.armRead k armed crc).modKnown k fun x => { x with comp := trip }).takeSnapr k q cells.length
        { armed := armed, late := late, retrain := retrain, mt := signed 24 mt, temps := temps.map (signed 16), cells := cells }
    | _ => c.2
    else match f.body with
      | .snapr .. => c.2.when (!crcOk) fun s => s.raiseEv F.ACQ_STS_LATE_SNAPR
      | _ => c.2)

/-! ## String current (R120 to R126) -/

/-- The sticky bit of MODn_FAULT. -/
def modFaultFld (n : Nat) : Fld := if n = 0 then F.ACQ_STS_MOD0_FAULT else F.ACQ_STS_MOD1_FAULT

/-- Declare MODn_FAULT (R124). -/
def State.modFault (s : State) (n : Nat) : State :=
  let x := s.modSt n
  (s.setModSt n { x with fault := true, faultAt := if x.fault then x.faultAt else s.dial, good := 0 }).setHeld (modFaultFld n) true

/-- MOD_FAULT: the bitstream of MODn has held one level for 256 bits. -/
def execModFault (t n : Nat) (s : State) : Out :=
  let s := s.at t
  .next ((s.setModSt n { s.modSt n with stuck := true }).modFault n)

/-- A write of ACQ_MODCFG: MCLKEN 0 is a fault condition of both modulators (R124). -/
def State.modcfgWrite (s : State) (v : Word) : State :=
  let s := s.setWord Reg.ACQ_MODCFG ((s.word Reg.ACQ_MODCFG &&& 0x40#32) ||| (v &&& 0x37#32))
  if v.getLsbD 0 then s else (s.modFault 0).modFault 1

/-- The Dial instant at which the response span of MODn's code of a snapshot ends (R121). -/
def State.spanEnd (s : State) (n : Nat) (c : Snap) : Nat := c.target + s.fld (F.ACQ_MODDLY_DLY n) + 54350

/-- MOD_CODE_READY: MODn's code of a snapshot whose span has ended, saturated, with whether the span ended before a fault was declared
(R121, R123, R124). -/
def execModCodeReady (t n seq : Nat) (code : Int) (s : State) : Out :=
  let s := s.at t
  let x := s.modSt n
  let v := clampI (-0x7FFFFF) 0x7FFFFF code
  let put := fun (c : Snap) =>
    if c.seq = seq ∧ s.spanEnd n c ≤ s.dial then
      let ok := !x.fault || decide (s.spanEnd n c < x.faultAt)
      if n = 0 then { c with code0 := some (v, ok) } else { c with code1 := some (v, ok) }
    else c
  .next { s with acq := { s.acq with snaps := s.acq.snaps.map put } }

/-- The current in mA that MODn's code publishes (R123). -/
def State.published (s : State) (n : Nat) (code : Int) : Int :=
  let v := divRound ((code - s.fldS (F.ACQ_MODOFS_OFS n)) * s.fld (F.ACQ_MODGAIN_GAIN n)) 4096000
  if (s.word Reg.ACQ_MODCFG).getLsbD (1 + n) then -v else v

/-- Has a code saturated? -/
def codeSat (code : Int) : Bool := code.natAbs == 0x7FFFFF

/-- The current of a snapshot from its source, none where it is invalid (R123, R125). -/
def State.snapCurrent (s : State) (c : Snap) : Option Int :=
  match (if c.src = 0 then c.code0 else c.code1) with
  | some (code, ok) => if ok && !codeSat code then some (s.published c.src code) else none
  | none => none

/-- One modulator's supervision at a snapshot: three saturated codes in a row are a fault, 64 snapshots without a condition
clear it (R124). -/
def State.modWatch (s : State) (n : Nat) (code : Option (Int × Bool)) : State :=
  let x := s.modSt n
  let sat := match code with
    | some (v, _) => if codeSat v then x.sat + 1 else 0
    | none => x.sat
  let bad := x.stuck || !s.flag F.ACQ_MODCFG_MCLKEN || decide (3 ≤ sat)
  let s := s.setModSt n { x with sat := sat, stuck := false, good := if bad then 0 else x.good + 1 }
  if bad then s.modFault n
  else if x.fault = true ∧ 64 ≤ x.good + 1 then (s.setModSt n { s.modSt n with fault := false }).setHeld (modFaultFld n) false
  else s

/-- Agreement of the two modulators at a snapshot (R126). -/
def State.modAgree (s : State) (c : Snap) : State :=
  match c.code0, c.code1 with
  | some (a, _), some (b, _) =>
    if (s.modSt 0).fault || (s.modSt 1).fault then { s with acq := { s.acq with disRun := 0, disagree := false } }.setHeld F.ACQ_STS_CUR_DISAGREE false
    else
      let far := decide (100 * s.fld F.ACQ_CURTOL_MODTOL < (s.published 0 a - s.published 1 b).natAbs)
      let run := if far then s.acq.disRun + 1 else 0
      let dis := decide (max 1 (s.fld F.ACQ_CURTOL_MODCNT) ≤ run)
      { s with acq := { s.acq with disRun := run, disagree := dis } }.setHeld F.ACQ_STS_CUR_DISAGREE dis
  | _, _ => s

/-- The current path of a closing snapshot. -/
def State.closeCurrent (s : State) (c : Snap) : State :=
  let cur := s.snapCurrent c
  let s : State := { s with acq := { s.acq with
      src := c.src, curNow := cur, curSum := s.acq.curSum + cur.getD 0, curN := s.acq.curN + b2n cur.isSome,
      curLast := cur.getD s.acq.curLast } }
  ((s.modWatch 0 c.code0).modWatch 1 c.code1).modAgree c

/-! ## Balance-through correction (R276) -/

/-- The mask in force on a tile for a conversion at the target, from the commands sent to it: a change due less than 30 µs
before the conversion waits (R275), a phase change opens every switch for 100 µs (R260), the end or 2 s open them (R263). -/
def State.maskAt (s : State) (k target : Nat) : Nat :=
  let x := s.balSlot k
  let lim := target - 30000
  if lim < x.cmdS then x.prevMask
  else if x.endsAt ≤ lim then 0
  else if phaseChange x.prevMask x.cmdMask ∧ lim < x.cmdS + 100000 then 0
  else x.cmdMask

/-- BAL_CFG.RBAL, 0 taken as 1. -/
def State.rbal (s : State) : Nat := max 1 (s.balParam F.BAL_CFG_RBAL)

/-- Resistance of wire w of slot k in 0.01 mΩ. -/
def State.rw (s : State) (k w : Nat) : Nat := s.fld (F.BAL_RW_RW (17 * k + w))

/-- The corrected reading of input j of a tile in 10 µV: raw readings and mask given (R276). -/
def State.btCorrect (s : State) (k : Nat) (raw : List Nat) (mask j : Nat) : Int :=
  let on := fun i => if mask.testBit i && decide (i < raw.length) then cellVal (raw.getD i 0) else 0
  let d := (1000 * s.rbal : Nat)
  divRound (cellVal (raw.getD j 0) * d + on j * (s.rw k j + s.rw k (j + 1) : Nat)
    - (if j = 0 then 0 else on (j - 1) * (s.rw k j : Nat)) - on (j + 1) * (s.rw k (j + 1) : Nat)) d

/-! ## Checks on every snapshot (R127 to R132, R141) -/

/-- Is a temperature code plausible (R129)? -/
def tempOk (c : Int) : Bool := decide (-5500 ≤ c ∧ c ≤ 15000)

/-- Is a cell reading within VMIN to VMAX? -/
def State.voltOk (s : State) (v : Int) : Bool := decide (1000 * s.fldS F.ACQ_PLCFG_VMIN ≤ v ∧ v ≤ 1000 * s.fldS F.ACQ_PLCFG_VMAX)

/-- The temperature of input j from four codes and the map, and whether it is a substitute (R111). -/
def cellTemp (tmap : Nat) (temps : List Int) (j : Nat) : Option Int × Bool :=
  let own := temps.getD (tmap / 4 ^ j % 4) (-32768)
  if tempOk own then (some own, false)
  else
    let ok := temps.filter tempOk
    match ok with
    | [] => (none, false)
    | a :: as => (some (as.foldl max a), true)

/-- Does input j of a slot lie next to a wire of a mask? -/
def nextTo (mask j : Nat) : Bool := mask.testBit j || mask.testBit (j + 1)

/-- The wires in whose test window a target falls: that of the present test, and the last one that has ended (R135). -/
def testWires (x : AcqSlot) (target : Nat) : Nat :=
  (match x.test with
    | some u => if u.s0 ≤ target ∧ (match u.fin with | some f => decide (target ≤ f) | none => true) = true then u.mask else 0
    | none => 0) |||
  (match x.window with
    | some (m, a, b) => if a ≤ target ∧ target ≤ b then m else 0
    | none => 0)

/-- The reason of input j of a slot at a snapshot, 0 when valid, without R129 (Table 4-4). -/
def State.reasonOf (s : State) (k j target : Nat) : Nat :=
  let x := s.acqSlot k
  if (s.known k).failed then 2
  else if !x.inService then 1
  else if x.silent then 6
  else if nextTo (s.owCnf k) j then 3
  else if x.sweep || nextTo (testWires x target) j then 4
  else 0

/-- The middle of a sorted list, doubled. -/
def median2 (l : List Int) : Int :=
  let m := l.mergeSort (fun a b => decide (a ≤ b))
  m.getD (m.length / 2) 0 + m.getD ((m.length - 1) / 2) 0

/-- The class of Table 4-2: deviations doubled of each cell (none without two complete readings), the sum check. -/
def classify (thr2 n : Nat) (dev2 : List (Option Int)) (sumOk : Bool) : OwClass :=
  let hit := (List.range n).filter fun j => match dev2.getD j none with
    | some d => decide (thr2 ≤ d.natAbs)
    | none => false
  match hit, sumOk with
  | [], true => .clean
  | [a, b], true =>
    if b = a + 1 ∧ (dev2.getD a none).getD 0 * (dev2.getD b none).getD 0 < 0 then .wire b else .unclassified
  | [a], false => if a = 0 then .wire 0 else if a + 1 = n then .wire n else .sumOnly
  | [_], true => .cellStep
  | _, false => .sumOnly
  | _, true => .unclassified

/-- Act on a class that has held for the given number of consecutive snapshots (R132). -/
def State.actOnClass (s : State) (k run : Nat) (c : OwClass) (codes : List Nat) : State :=
  if run < s.owPersist then s
  else match c with
    | .clean => s
    | .wire w =>
      if (s.owSus k).testBit w then s
      else ((s.setFld (F.ACQ_OWSUS_SUSPECT k) (s.owSus k + 2 ^ w)).raiseEv F.ACQ_STS_OW_SUSPECT).owSchedule k
    | .cellStep =>
      let s := (s.modAcqSlot k fun x => { x with clean := some codes, run := 0 }).raiseEv F.ACQ_STS_CELL_STEP
      { s with bin := { s.bin with stepAt := Tab.set (fun _ => none) s.bin.stepAt k (some s.dial) } }
    | .sumOnly | .unclassified => s.modAcqSlot k fun x => { x with clean := some codes, run := 0 }

/-- Sum check and classification of an accepted SNAPR (R127, R130 to R132). -/
def State.checkTile (s : State) (k target : Nat) (r : SnaprRec) : State :=
  let x := s.acqSlot k
  let n := x.ncell
  let malformed := r.cells.any fun c => badCode c && c != 0xF80000
  if malformed then s.setAcqSlot k { x with sumErr := false, sumRun := 0, run := 0 }
  else
    let sum := (r.cells.map cellVal).foldl (· + ·) 0
    let sumOk := decide ((sum - 10 * r.mt).natAbs ≤ 10 * n * s.fld F.ACQ_SUMCFG_TOLPC)
    let sumRun := if sumOk then 0 else x.sumRun + 1
    let ok := fun j => s.reasonOf k j target == 0 && !badCode (r.cells.getD j 0xF80000) && s.voltOk (cellVal (r.cells.getD j 0))
    let dev := fun j => match x.clean with
      | some ref =>
        if badCode (r.cells.getD j 0xF80000) || badCode (ref.getD j 0xF80000) then none
        else some (cellVal (r.cells.getD j 0) - cellVal (ref.getD j 0))
      | none => none
    let d := (List.range n).map dev
    let m2 := median2 ((List.range n).filterMap fun j => if ok j then dev j else none)
    let cls := classify (2 * s.owThr) n (d.map fun v => v.map fun v => 2 * v - m2) sumOk
    let run := if cls = x.cls then x.run + 1 else 1
    let s := s.setAcqSlot k { x with sumErr := !sumOk, sumRun := sumRun, cls := cls, run := run,
                                     clean := if cls = .clean then some r.cells else x.clean }
    let s := s.when (decide (s.owPersist ≤ sumRun)) fun s => s.raiseEv F.ACQ_STS_SUM_MISMATCH
    s.actOnClass k run cls r.cells

/-- The reading of one input of a tile with an accepted SNAPR enters its position, corrected where the snapshot was taken in
balance-through mode (R119, R129, R138, R140, R276). -/
def State.readCell (s : State) (k target : Nat) (bt : Bool) (r : SnaprRec) (mask j : Nat) : State :=
  let x := s.acqSlot k
  let raw := r.cells.getD j 0xF80000
  let v := if bt then s.btCorrect k r.cells mask j else cellVal raw
  let base := s.reasonOf k j target
  let plaus := !badCode raw && s.voltOk v
  let reason := if base ≠ 0 then base else if plaus then 0 else 5
  let tmp := cellTemp x.tmap r.temps j
  let s := s.when (!plaus) fun s => s.raiseEv F.ACQ_STS_PLAUS
  s.modPosAcc (x.basep + j) fun a =>
    let a := { a with reason := reason, btCorr := bt, late := r.late, temp := tmp.1, reading := if reason = 0 then some v else none }
    if reason = 0 then { a with sum := a.sum + v, n := a.n + 1, last := v } else a

/-- The positions of a tile without an accepted SNAPR at a snapshot. -/
def State.missCell (s : State) (k target j : Nat) : State :=
  s.modPosAcc ((s.acqSlot k).basep + j) fun a => { a with reason := s.reasonOf k j target, reading := none, temp := none }

/-- One configured tile at a closing snapshot. -/
def State.closeTile (s : State) (c : Snap) (k : Nat) : State :=
  let x := s.acqSlot k
  match Tab.get (fun _ => none) c.got k with
  | some r =>
    let s := s.setAcqSlot k { x with missed := 0, silent := false, last := some r, lastTarget := c.target, nacc := min 255 (x.nacc + 1) }
    let s := s.checkTile k c.target r
    let mask := s.maskAt k c.target
    let s := (List.range x.ncell).foldl (fun s j => s.readCell k c.target (!c.quiet) r mask j) s
    let subst := (List.range x.ncell).any fun j => (cellTemp x.tmap r.temps j).2
    let s := s.modAcqSlot k fun y => { y with subst := subst }
    let s := s.when subst fun s => s.raiseEv F.ACQ_STS_TEMP_SUBST
    let s := s.when (r.temps.any fun v => !tempOk v) fun s => s.raiseEv F.ACQ_STS_PLAUS
    let s := match (s.acqSlot k).test with
      | some u =>
        if owTarget u = some c.target then s.owDecide k u r.cells
        else if c.target < u.s0 then s.modAcqSlot k fun y => { y with test := some { u with pre := some r.cells } }
        else s
      | none => s
    (s.owSchedule k).suspRefresh k
  | none =>
    let s := if x.inService then
        let m := x.missed + 1
        let s := s.setAcqSlot k { x with missed := m, silent := x.silent || decide (16 ≤ m) }
        let s := s.when (!x.silent && decide (16 ≤ m)) fun s => s.raiseEv F.ACQ_STS_SILENT
        match x.test with
        | some u => if owTarget u = some c.target ∧ u.decided = false then s.owAbandon k else s
        | none => s
      else s
    (List.range x.ncell).foldl (fun s j => s.missCell k c.target j) s

/-! ## The epoch's record (R138 to R142) -/

/-- Start accumulating for another epoch. -/
def State.acqNewEpoch (s : State) (serial seq : Nat) : State :=
  let pos : Tab PosAcc := s.acq.pos.map fun (p, a) => (p, { a with sum := 0, n := 0 })
  let slots : Tab AcqSlot := s.acq.slots.map fun (k, x) => (k, { x with nacc := 0 })
  { s with acq := { s.acq with
      serial := serial, firstSeq := seq, curSum := 0, curN := 0, vstrSum := 0, vstrN := 0,
      pos := pos.filter fun e => e.2 != PosAcc.reset, slots := slots.filter fun e => e.2 != AcqSlot.reset } }

/-- The words of a tile's items (Table 4-3). -/
def State.tileWords (s : State) (k : Nat) : List (Nat × Word) :=
  let x := s.acqSlot k
  let r := x.last.getD { armed := false, late := false, retrain := false, mt := 0, temps := [0, 0, 0, 0], cells := [] }
  let b := acqBase + 8 + 4 * k
  let t := fun i => (r.temps.getD i 0 % 65536).toNat
  [(b, nw (0x80000000 * b2n x.inService + 0x20000000 * b2n x.sumErr + 0x10000000 * b2n r.armed + 0x8000000 * b2n r.retrain
      + 0x4000000 * b2n r.late + 0x2000000 * b2n x.subst + 0x1000000 * b2n x.silent + (r.mt % 2 ^ 24).toNat)),
   (b + 1, nw (t 1 * 65536 + t 0)), (b + 2, nw (t 3 * 65536 + t 2)), (b + 3, nw (x.nacc * 0x1000000))]

/-- The words of a position's item (Table 4-3). -/
def State.posWords (s : State) (p : Nat) : List (Nat × Word) :=
  let a := s.posAcc p
  let reason := if s.acq.npos ≤ p then 7 else a.reason
  let sus := match s.slotOfPos p with
    | some (k, j) => nextTo (s.owSus k) j
    | none => false
  let b := acqBase + 200 + 2 * p
  [(b, nw (0x80000000 * b2n (reason == 0) + 0x8000000 * reason + 0x4000000 * b2n sus + 0x2000000 * b2n a.btCorr
      + 0x1000000 * b2n a.late + (a.last % 2 ^ 24).toNat)),
   (b + 1, nw (0x1000000 * min 255 a.n + (a.mean % 2 ^ 24).toNat))]

/-- The words of the current items (Table 4-3). -/
def State.curWords (s : State) : List (Nat × Word) :=
  let b := acqBase
  let tgt := s.acq.lastTgt
  [(b + 2, nw (s.acq.lastSeq * 65536 + s.acq.firstSeq)), (b + 3, nw tgt),
   (b + 4, nw (0x80000000 * b2n (s.acq.curN != 0) + 0x20000000 * s.acq.src + 0x10000000 * b2n s.acq.disagree
      + 0x8000000 * b2n (s.modSt 0).fault + 0x4000000 * b2n (s.modSt 1).fault + tgt / 2 ^ 32 % 256)),
   (b + 5, iw s.acq.curLast), (b + 6, iw s.acq.curMean), (b + 7, iw s.acq.vstring)]

/-- The items an epoch with a snapshot schedules: the current, and the tile and positions of every in-service tile that is not
silent (R140, R142). -/
def State.acqItems (s : State) : List ItemId :=
  itemAcqCur :: allSlots.flatMap fun k =>
    let x := s.acqSlot k
    if x.inService && !x.silent && x.ncell != 0 then itemAcqTile k :: (List.range x.ncell).map fun j => itemAcqPos (x.basep + j) else []

/-- Is every configured tile in service, and is there one (R128)? -/
def State.allInService (s : State) : Bool := s.acq.npos != 0 && allSlots.all fun k => (s.acqSlot k).ncell == 0 || (s.acqSlot k).inService

/-- Acquisition's contribution to the epoch it has accumulated: means are taken, and every item goes to the commit unit, those of a
scheduled tile that delivered nothing and a current without a valid value with STALE: they keep the values of the last epoch that had
them, with the counts and flags of this one (R138, R140, R142). -/
def State.acqDeliver (s : State) : State :=
  let serial := s.acq.serial
  let pos : Tab PosAcc := s.acq.pos.map fun (p, a) => (p, if a.n = 0 then a else { a with mean := divRound a.sum a.n })
  let s : State := { s with acq := { s.acq with
    pos := pos.filter fun e => e.2 != PosAcc.reset,
    curMean := if s.acq.curN = 0 then s.acq.curMean else divRound s.acq.curSum s.acq.curN,
    vstring := if s.acq.vstrN = 0 then s.acq.vstring else divRound s.acq.vstrSum (10 * s.acq.vstrN),
    sumMean := if s.acq.vstrN ≠ 0 ∧ s.allInService = true ∧ s.acq.outIn.contains serial = false then
        ((serial, divRound s.acq.vstrSum s.acq.vstrN) :: s.acq.sumMean).take 8 else s.acq.sumMean } }
  let item := fun (i : ItemId) (ws : List (Nat × Word)) (st : Bool) =>
    ({ serial := serial, src := .acquisition, ready := s.dial, item := i, words := ws, stale := st } : Contribution)
  let lost := fun k => let x := s.acqSlot k; x.inService && !x.silent && x.nacc == 0
  let tiles := allSlots.map fun k => item (itemAcqTile k) (s.tileWords k) (lost k)
  let cells := (List.range 640).map fun p =>
    item (itemAcqPos p) (s.posWords p) (match s.slotOfPos p with | some (k, _) => lost k | none => false)
  s.contribute (item itemAcqCur s.curWords (s.acq.curN == 0) :: tiles ++ cells)

/-- The epoch's last snapshot has closed: no open snapshot has its target in the closing epoch. -/
def State.acqDone (s : State) (serial : Nat) : Bool := !(s.acq.snaps.any fun c => c.serial == some serial)

/-- May a snapshot close: every in-service tile's SNAPR and the current are in, or the window end plus 10 µs has come (R115)? -/
def State.mayClose (s : State) (c : Snap) : Bool :=
  decide (c.winEnd + 10000 ≤ s.dial) ||
    ((if c.src = 0 then c.code0 else c.code1).isSome &&
      allSlots.all fun k => !(s.acqSlot k).inService || (Tab.get (fun _ => none) c.got k).isSome)

/-- A snapshot closes in Acquisition: current, tiles and accumulators; the epoch's contribution goes out after its last one
(R115, R138), also where that epoch has committed meanwhile: the commit unit then discards it (R27). -/
def State.acqClose (s : State) (c : Snap) : State :=
  let s : State := { s with acq := { s.acq with snaps := s.acq.snaps.filter fun d => d.seq != c.seq } }
  let s := match c.serial <|> (s.epochOf c.target).map (·.serial) with
    | some q => if q ≠ s.acq.serial then s.acqNewEpoch q c.seq else s
    | none => s
  let s : State := { s with acq := { s.acq with lastSeq := c.seq, lastTgt := c.target } }
  let s := s.closeCurrent c
  let s := allSlots.foldl (fun s k => if (s.acqSlot k).ncell = 0 then s else s.closeTile c k) s
  let tot := allSlots.filterMap fun k => let x := s.acqSlot k; if x.inService then x.last.map (·.mt) else none
  let s := if tot.isEmpty then s else
    { s with acq := { s.acq with vstrSum := s.acq.vstrSum + tot.foldl (· + ·) 0, vstrN := s.acq.vstrN + 1 } }
  if c.serial = some s.acq.serial ∧ s.acqDone s.acq.serial = true then s.acqDeliver else s

/-- At an epoch boundary: the open snapshots of the closing epoch are noted as its own, the items of an epoch with a snapshot are
scheduled, and a contribution whose last snapshot has closed already goes out. An epoch in which a tile is out of service loses the
string-sum check (R128). -/
def State.acqBoundary (s : State) (e : EpochRec) : State :=
  let n := (s.acq.targets.filter e.holds).length
  let out := if s.allInService then [] else [e.serial, s.ep.opn.serial]
  let s : State := { s with acq := { s.acq with
    targets := s.acq.targets.filter fun t => decide (e.start + e.period ≤ t),
    snaps := s.acq.snaps.map fun (c : Snap) => if e.holds c.target then { c with serial := some e.serial } else c,
    outIn := (out ++ s.acq.outIn).take 64 } }
  if n = 0 then s
  else
    let s := (s.modEpoch e.serial fun e => { e with snaps := n }).schedule e.serial s.acqItems
    if s.acqDone e.serial = true ∧ s.acq.serial = e.serial then s.acqDeliver else s

end Sys2Proof.Machine
end

