-- ==== Sys2Proof/Machine/Elem.lean ====
section
/-! DEFINITION. exp, sin, cos and atan2 for the laws that use them: the exact value bracketed between the two neighbours of the target format. The spec states no rounding for these functions, so which neighbour results is a free value (Config.roundUp). -/

namespace Sys2Proof.Machine

/-- The working precision of the series below. -/
def hp : Fmt := ⟨256, -1000000, 1000000⟩

namespace Fl

/-- The value as an exact rational; 0 for a value that is not finite. -/
def toRat : Fl → Rat
  | fin s m e => if 0 ≤ e then ((sgn s (m * 2 ^ e.toNat) : Int) : Rat) else mkRat (sgn s m) (2 ^ (-e).toNat)
  | _ => 0

/-- A rational rounded to a format. -/
def ofRat (f : Fmt) (r : Rat) : Fl := div f (ofInt r.num) (ofInt r.den)

/-- One of the two values of the format next to a value known to the working precision, chosen by the free rounding. -/
def faithful (f : Fmt) (fn : Nat) (args : List Nat) : Fl → Fl
  | fin s m e =>
    let q := max (e + bitLen m - f.p) f.emin
    if q ≤ e then fin s m e
    else
      let m0 := m / 2 ^ (q - e).toNat
      let m1 := if Config.roundUp fn args then m0 + 1 else m0
      if f.emax + 1 < q + bitLen m1 then inf s else fin s m1 q
  | v => v

/-- The series term + term * y/(k*(k+d-1)...) : each next term is the last times y divided by the next d factors from k on. -/
def series (y : Fl) (d : Nat) : Nat → Nat → Fl → Fl → Fl
  | 0, _, _, acc => acc
  | n + 1, k, term, acc =>
    let t := div hp (mul hp term y) (ofInt (if d = 1 then k else k * (k + 1)))
    series y d n (k + d) t (add hp acc t)

/-- Square n times. -/
def squares : Nat → Fl → Fl
  | 0, v => v
  | n + 1, v => squares n (mul hp v v)

/-- Halve a value n times, exactly. -/
def halved (n : Nat) : Fl → Fl
  | fin s m e => fin s m (e - n)
  | v => v

/-- exp to the working precision, for |x| up to 1,000. -/
def expHp (x : Fl) : Fl := squares 12 (series (halved 12 x) 1 40 1 (ofInt 1) (ofInt 1))

/-- exp in a format. -/
def exp (f : Fmt) (x : Fl) : Fl :=
  match x with
  | nan => nan
  | inf s => if s then zero else inf false
  | fin _ _ _ =>
    if x.isZero then ofInt 1
    else if lt x (ofInt (-1000)) then (if Config.roundUp 0 [toBits b64 64 x] then fin false 1 f.emin else zero)
    else if lt (ofInt 1000) x then inf false
    else faithful f 0 [toBits b64 64 x] (expHp x)

/-- pi to 256 bits. -/
def pi : Fl := fin false 363771576891766324280234942777729862653393377328392429958772151117938894466185 (-256)

/-- The angle of a fraction of a turn, radians, with the fraction reduced to one turn. -/
def turnAngle (q : Rat) : Fl := mul hp (mul hp (ofInt 2) pi) (ofRat hp (q - q.floor))

/-- sin and cos of a fraction of a turn, to the working precision. -/
def sinTurn (q : Rat) : Fl := let x := turnAngle q; series (mul hp x x).neg 2 40 2 x x
def cosTurn (q : Rat) : Fl := let x := turnAngle q; series (mul hp x x).neg 2 40 1 (ofInt 1) (ofInt 1)

/-- The odd series of atan for small z, from the term z^k on. -/
def atanSeries (z2 : Fl) : Nat → Nat → Fl → Fl → Fl
  | 0, _, _, acc => acc
  | n + 1, k, pw, acc =>
    let p := (mul hp pw z2).neg
    atanSeries z2 n (k + 2) p (add hp acc (div hp p (ofInt k)))

/-- atan z = 2 atan (z / (1 + sqrt (1 + z^2))), n times, then the series. -/
def atanHp : Nat → Fl → Fl
  | 0, z => atanSeries (mul hp z z) 60 3 z z
  | n + 1, z => mul hp (ofInt 2) (atanHp n (div hp z (add hp (ofInt 1) (sqrt hp (add hp (ofInt 1) (mul hp z z))))))

/-- The angle of the point (x, y), in (-pi, pi], to the working precision; 0 for the origin. -/
def atan2Hp (y x : Fl) : Fl :=
  if x.isZero && y.isZero then zero
  else if lt x.abs y.abs then
    let h := div hp pi (ofInt (if y.isNeg then -2 else 2))
    sub hp h (atanHp 5 (div hp x y))
  else
    let a := atanHp 5 (div hp y x)
    if !x.isNeg then a else if y.isNeg && !y.isZero then sub hp a pi else add hp a pi

/-- The odd series of atanh for small z, from the term z^k on. -/
def atanhSeries (z2 : Fl) : Nat → Nat → Fl → Fl → Fl
  | 0, _, _, acc => acc
  | n + 1, k, pw, acc =>
    let p := mul hp pw z2
    atanhSeries z2 n (k + 2) p (add hp acc (div hp p (ofInt k)))

/-- The square root taken n times. -/
def roots : Nat → Fl → Fl
  | 0, v => v
  | n + 1, v => roots n (sqrt hp v)

/-- The natural logarithm of a positive value to the working precision: 2^9 atanh ((y - 1)/(y + 1)) with y the 256th root. -/
def lnHp (x : Fl) : Fl :=
  let y := roots 8 x
  let z := div hp (sub hp y (ofInt 1)) (add hp y (ofInt 1))
  mul hp (ofInt 512) (atanhSeries (mul hp z z) 24 3 z z)

end Fl

end Sys2Proof.Machine
end

