-- ==== Sys2Proof/Machine/Helm.lean ====
section
/-! DEFINITION. Helm: legs and carrier, channels, reference chain, control law, coefficient writes, run and stop (11_helm.md). The commands that start, stop or sample Helm stand in HelmRun. -/

namespace Sys2Proof.Machine

/-- Change Helm's state. -/
def State.modHlm (s : State) (f : HlmSt → HlmSt) : State := { s with hlm := f s.hlm }

/-- Is Helm in RUN? -/
def State.helmRun (s : State) : Bool := s.flag F.HLM_CTL_STATE

/-- The physical legs in use, in order of their ordinals (R280). -/
def State.usedLegs (s : State) : List Nat := onesBelow 8 (s.fld F.HLM_LEGS_MAP)

/-- The carrier period Tc in ns of a half-period in HELM cycles (R281). -/
def tcNs (cper : Nat) : Nat := 10 * cper

/-- Stop of Helm (Table 11-4): every PWM output low, RUN and STATE 0. -/
def State.helmStop (s : State) : State :=
  ((s.modHlm fun h => { h with entry := false, duties := [], legs := [] }).setFld F.HLM_CTL_STATE 0).setFld F.HLM_CTL_RUN 0

/-- A stop by Lodestone, Binnacle, dead reckoning, thermal shutdown or loss of the active role (Table 11-4, row 1). -/
def State.helmExtStop (s : State) : State :=
  if s.helmRun || s.hlm.entry then s.helmStop.raiseEv F.HLM_STS_STOP_EXT else s

/-! ## PWM (R282, R283) -/

/-- The shift of leg ordinal j of n, in HELM cycles (R281). -/
def legShift (cper n j : Nat) : Nat := j * 2 * cper / n

/-- The phase in HELM cycles of leg ordinal j at the present instant. -/
def State.legPhase (s : State) (j : Nat) : Nat :=
  let per := 2 * s.hlm.cper
  ((s.dial - s.time.valleyAt) / 5 + per - legShift s.hlm.cper s.usedLegs.length j) % per

/-- The compare value in force on leg ordinal j (R283). -/
def State.legCmp (s : State) (j : Nat) : Nat :=
  let l := Tab.get (fun _ => ⟨0, 0, 0⟩) s.hlm.legs j
  if l.loadAt ≤ s.dial then l.new else l.old

/-- The level of PWMH before dead time: the counter is below the compare value. -/
def pwmRaw (cper cmp phase : Nat) : Bool := decide ((if phase ≤ cper then phase else 2 * cper - phase) < cmp)

/-- HELM cycles since the latest edge of PWMH. -/
def sincePwmEdge (cper cmp phase : Nat) : Nat :=
  if cper < cmp ∨ cmp = 0 then 2 * cper
  else if phase < cmp then phase + cmp - 1
  else if phase ≤ 2 * cper - cmp then phase - cmp
  else phase - (2 * cper - cmp + 1)

/-- The levels of PWMH and PWML of physical leg k: low for a leg not in MAP, while Helm is stopped, and in the dead time (R280, R282). -/
def State.pwm (s : State) (k : Nat) : Bool × Bool :=
  match s.usedLegs.findIdx? (· == k) with
  | none => (false, false)
  | some j =>
    if !s.helmRun || !s.flag F.HLM_CTL_CEN || !(s.hlm.legs.any fun e => e.1 == j) then (false, false)
    else
      let cmp := s.legCmp j
      let p := s.legPhase j
      if sincePwmEdge s.hlm.cper cmp p < s.fld F.HLM_CARRIER_DT then (false, false)
      else (pwmRaw s.hlm.cper cmp p, !pwmRaw s.hlm.cper cmp p)

/-- HELM_DUTY_LATCH: the computed duties reach the shadow compares, and each leg loads its shadow at the first 0 or CPER of its own
counter from then on (R283). -/
def execHelmDutyLatch (t : Nat) (s : State) : Out :=
  let s := s.at t
  .next (if s.hlm.duties.isEmpty then s
  else
    let n := s.usedLegs.length
    let load := fun (j : Nat) =>
      let sh : Int := legShift s.hlm.cper n j
      let k : Int := (250 - sh + s.hlm.cper - 1) / s.hlm.cper
      ((s.time.valleyAt : Int) + 5 * (sh + k * s.hlm.cper)).toNat
    let legs := s.hlm.duties.zipIdx.foldl (fun m (v, j) =>
      Tab.set (fun _ => ⟨0, 0, 0⟩) m j (LegCmp.mk (s.legCmp j) v (load j))) s.hlm.legs
    s.modHlm fun h => { h with legs := legs, duties := [] })

/-! ## Channels and feedback (R286, R287) -/

/-- A channel's value in A or V from its code. -/
def State.chanValue (s : State) (c code : Nat) : Fl :=
  Fl.mul b32 (Fl.ofWord (s.word (Reg.HLM_AGAIN c))) (Fl.ofInt ((code : Int) - s.fld (F.HLM_AOFS_OFS c)))

/-- A saturated code. -/
def chanSat (code : Nat) : Bool := code == 0 || code == 0xFFF

/-- MOD0's sinc3 output in A, scaled with the gain, offset and sign of R123. -/
def State.mod0Amps (s : State) (code : Int) : Fl :=
  let v := Fl.div b32 (Fl.ofInt ((code - s.fldS (F.ACQ_MODOFS_OFS 0)) * s.fld (F.ACQ_MODGAIN_GAIN 0))) (Fl.ofInt 4096000000)
  if (s.word Reg.ACQ_MODCFG).getLsbD 1 then v.neg else v

/-- The code of channel c of a sample. -/
def helmCode (x : HelmIn) (c : Nat) : Nat := x.codes.getD c 0 % 0x1000

/-- The leg currents of a sample in order of the ordinals. -/
def State.legAmps (s : State) (x : HelmIn) : List Fl := s.usedLegs.map fun k => s.chanValue k (helmCode x k)

/-- The sum of values, in order, in binary32. -/
def sum32 (vs : List Fl) : Fl := vs.foldl (Fl.add b32) Fl.zero

/-- The current feedback y in A (R287). -/
def State.feedback (s : State) (x : HelmIn) : Fl :=
  if (s.modSt 0).fault then sum32 (s.legAmps x) else s.mod0Amps x.mod0

/-- A value in mA or mV from A or V, to the nearest integer. -/
def milli (v : Fl) : Int := (Fl.mul b64 v (Fl.ofInt 1000)).toIntAway

/-- A rational in mA, to the nearest integer. -/
def milliR (r : Rat) : Int := divRound (r.num * 1000) r.den

/-! ## Writes that wait for a sample (R291, R302) -/

/-- The coefficient in force: 0 KP, 1 KI, 2 BW, 3 KFF0, 4 KFF1, 5 KSH, 6 KPV, 7 KIV. -/
def State.coef (s : State) (n : Nat) : Fl := Fl.ofWord (Tab.get (fun n => regReset (Reg.HLM_KP + 4 * n)) s.hlm.coefs n)

/-- A write of a coefficient register (R291). -/
def State.coefWrite (s : State) (n : Nat) (v : Word) : State :=
  if (Fl.ofWord v).isFinite then
    (s.modHlm fun h => { h with coefQ := h.coefQ ++ [⟨s.dial, n, v⟩] }).setWord (Reg.HLM_KP + 4 * (n % 8)) v
  else s.raiseEv F.HLM_STS_COEF_REJ

/-- Coefficient writes at least 2 HELM cycles old take effect, in their order of arrival (R291). -/
def State.takeCoefs (s : State) : State :=
  let due := s.hlm.coefQ.filter fun w => decide (w.at_ + 10 ≤ s.dial)
  let s1 := s.modHlm fun h => { h with
    coefQ := h.coefQ.filter fun w => !decide (w.at_ + 10 ≤ s.dial)
    coefs := due.foldl (fun m w => Tab.set (fun n => regReset (Reg.HLM_KP + 4 * n)) m w.idx w.v) h.coefs }
  s1.setWord Reg.HLM_COEFCNT (s1.word Reg.HLM_COEFCNT + nw due.length)

/-- The register a set-point write gives its value to, HLM_CTL.CLASS apart. -/
def spReg (sel : Nat) : Nat := if sel = 0 then Reg.HLM_HOSTI else if sel = 1 then Reg.HLM_HOSTV else Reg.HLM_RCTGT

/-- A host write or an Almanac launch into the reference chain (R302): the register shows it, and it takes effect at a sample. -/
def State.spWrite (s : State) (sel : Nat) (v : Word) (alm : Bool) : State :=
  let s1 := s.modHlm fun h => { h with sp := h.sp ++ [⟨s.dial, sel, v, alm⟩] }
  if sel = 2 then s1.setFld F.HLM_CTL_CLASS v.toNat else s1.setWord (spReg sel) v

/-- Does w give way to the write before it: a host write in the HELM cycle of an Almanac launch to the same value (R302)? -/
def SpWrite.yields (w v : SpWrite) : Bool := !w.alm && v.alm && w.at_ / 5 == v.at_ / 5

/-- The write that stands for one value among those due at a sample. -/
def winner (ws : List SpWrite) : Option SpWrite :=
  ws.foldl (fun b w => match b with
    | none => some w
    | some v => if w.yields v then some v else some w) none

/-- The writes due at the present sample take effect, the class first (R302); rs moves on entry to RECONNECT alone (R301). -/
def State.takeSetpoints (s : State) (y : Fl) : State :=
  let due := s.hlm.sp.filter fun w => decide (w.at_ + 10 ≤ s.dial)
  let win := fun (k : Nat) => winner (due.filter fun w => w.sel == k)
  let s := s.modHlm fun h => { h with sp := h.sp.filter fun w => !decide (w.at_ + 10 ≤ s.dial) }
  let s := match win 2 with
    | none => s
    | some w =>
      let c := w.v.toNat
      let s1 := (s.modHlm fun h => { h with cls := c }).setFld F.HLM_CTL_CLASS c
      if c = 1 ∧ s.hlm.cls ≠ 1 then s1.modHlm fun h => { h with rs := y.toRat, hold := 0 } else s1
  let s := match win 0 with
    | none => s
    | some w => (s.modHlm fun h => { h with hosti := w.v }).setWord Reg.HLM_HOSTI w.v
  let s := match win 1 with
    | none => s
    | some w => (s.modHlm fun h => { h with hostv := w.v }).setWord Reg.HLM_HOSTV w.v
  match win 3 with
    | none => s
    | some w => (s.modHlm fun h => { h with rctgt := w.v }).setWord Reg.HLM_RCTGT w.v

/-! ## The DISPATCH source (R297, R298) -/

/-- DSPCFG.SRC, 3 taken as 0. -/
def State.dspSrc (s : State) : Nat := if s.fld F.HLM_DSPCFG_SRC = 3 then 0 else s.fld F.HLM_DSPCFG_SRC

/-- One measurement of the source, valid or not: 16 in a row declare (in SPA mode) or end the fault. -/
def State.srcMeasure (s : State) (valid : Bool) (need : Nat) : State :=
  let h := s.hlm
  let good := if valid then h.srcGood + 1 else 0
  let bad := if valid then 0 else h.srcBad + 1
  let fault := if h.srcFault then decide (good < 16) else decide (need ≤ bad)
  (s.modHlm fun h => { h with srcGood := good, srcBad := bad, srcFault := fault, yfLoad := h.yfLoad || (h.srcFault && !fault) }).setHeld
    F.HLM_STS_SRCFAULT fault

/-- The frequency in Hz and the duty in percent of the latest SPP measurement. -/
def State.sppFreq (s : State) : Rat := if s.hlm.sppPer = 0 then 0 else mkRat 200000000 s.hlm.sppPer
def State.sppDuty (s : State) : Rat := if s.hlm.sppPer = 0 then 0 else mkRat (100 * s.hlm.sppHigh) s.hlm.sppPer

/-- SPP_PERIOD: a complete input period of per HELM cycles, high of them at level 1, is measured. -/
def execSppPeriod (t per high : Nat) (s : State) : Out :=
  let s := s.at t
  let s := s.modHlm fun h => { h with sppPer := per, sppHigh := min high per, sppAt := s.dial }
  .next (match s.dspSrc with
    | 1 => s.srcMeasure (decide (1000 ≤ s.sppFreq ∧ s.sppFreq ≤ 10000)) 1
    | 2 => s.srcMeasure (decide (5 ≤ s.sppDuty ∧ s.sppDuty ≤ 95)) 1
    | _ => s)

/-- SPP_TIMEOUT: in an SPP mode no complete period has arrived for 2 ms. -/
def execSppTimeout (t : Nat) (s : State) : Out :=
  let s := s.at t
  .next (if s.dspSrc ≠ 0 ∧ s.hlm.sppAt + 2000000 ≤ s.dial then
    (s.modHlm fun h => { h with srcFault := true, srcGood := 0 }).setHeld F.HLM_STS_SRCFAULT true
    else s)

/-- xa of R297 in A, and the value yf takes at this sample. -/
def State.dspInput (s : State) : Fl :=
  let x := match s.dspSrc with
    | 1 => Fl.ofRat b32 s.sppFreq
    | 2 => Fl.ofRat b32 s.sppDuty
    | _ => s.hlm.spa
  Fl.mul b32 (Fl.ofWord (s.word Reg.HLM_DSPK)) (Fl.sub b32 x (Fl.ofWord (s.word Reg.HLM_DSPX0)))

/-- The filter of R297 and the DISPATCH target; while SRCFAULT holds the target is 0 A and yf is held. -/
def State.dspTarget (s : State) : Fl × Fl :=
  let yf := s.hlm.yf
  if s.hlm.srcFault then (Fl.zero, yf)
  else
    let xa := s.dspInput
    let dtau := s.fld F.HLM_DSPCFG_DTAU
    let y' := if s.hlm.yfLoad || dtau == 0 then xa
      else
        let k := Fl.sub b32 (Fl.ofInt 1) (Fl.exp b32 (Fl.ofRat b32 (mkRat (-(tcNs s.hlm.cper : Int)) (100000 * dtau))))
        Fl.add b32 yf (Fl.mul b32 (Fl.sub b32 xa yf) k)
    (y', y')

/-! ## The reference chain (Table 11-3) -/

/-- The sign of a rational. -/
def sgnR (r : Rat) : Int := if r < 0 then -1 else if 0 < r then 1 else 0

/-- The slew limiter's state. -/
structure Slew where
  rs : Rat
  hold : Rat
  side : Int
  deriving DecidableEq, Repr

/-- Stage 2 exactly as R300 gives it: rate in A/ms, tc and dwell in ms. -/
def slewStep (rate tc dwell tgt : Rat) (v : Slew) : Slew :=
  let hold := if v.hold > 0 then (if sgnR tgt = -v.side then v.hold - tc else 0) else v.hold
  if v.hold > 0 ∧ sgnR tgt = -v.side ∧ hold > 0 then { v with hold := hold }
  else
    let step := rate * tc
    let nxt := v.rs + max (-step) (min step (tgt - v.rs))
    if v.rs ≠ 0 ∧ sgnR nxt ≠ sgnR v.rs ∧ sgnR tgt = -sgnR v.rs then { side := sgnR v.rs, rs := 0, hold := dwell }
    else { rs := nxt, hold := 0, side := v.side }

/-- The slew rate in A/ms: SLEW, or min(SLEW, RRATE) in RECONNECT; a 0 is taken as 1. -/
def State.slewRate (s : State) : Rat :=
  let sl := max 1 (s.fld F.HLM_SLEW_SLEW)
  mkRat (if s.hlm.cls = 1 then min sl (max 1 (s.fld F.HLM_RECON_RRATE)) else sl) 100

/-- Stage 1: the class target in A and the new yf. -/
def State.classTarget (s : State) : Rat × Fl :=
  match s.hlm.cls with
  | 0 => let r := s.dspTarget; (r.1.toRat, r.2)
  | 1 => (mkRat s.hlm.rctgt.toInt 1000, s.hlm.yf)
  | _ => (mkRat s.hlm.hosti.toInt 1000, s.hlm.yf)

/-- The entry of Table 11-4 at the first sample in RUN. -/
def State.helmEntry (s : State) (y : Fl) : State :=
  if !s.hlm.entry then s
  else
    let xv := Fl.minF Fl.zero y
    s.modHlm fun h => { h with entry := false, rs := y.toRat, x := Fl.zero, xv := xv, iv := xv, yf := s.dspInput, hold := 0 }

/-- The outer string-voltage loop of R290, when it runs at this sample. -/
def State.outerLoop (s : State) : State :=
  let vl := s.flag F.HLM_CTL_VLOOP
  if !vl then s.modHlm fun h => { h with vloop := false, ovn := 0 }
  else
    let s := if s.hlm.vloop then s else
      s.modHlm fun h => { h with vloop := true, ovn := 0, xv := Fl.minF Fl.zero (Fl.ofRat b32 h.rs), iv := Fl.minF Fl.zero (Fl.ofRat b32 h.rs) }
    if s.hlm.ovn ≠ 0 then s.modHlm fun h => { h with ovn := h.ovn - 1 }
    else
      let h := s.hlm
      let lo := (Fl.ofInt (s.fld F.HLM_IMAG_IMAGC)).neg
      let ev := Fl.sub b32 h.vs1 (Fl.ofRat b32 (mkRat h.hostv.toNat 1000))
      let w := Fl.add b32 (Fl.mul b32 (s.coef 6) ev) h.xv
      let iv := Fl.clampF lo Fl.zero w
      let keep := (Fl.lt Fl.zero w && Fl.lt Fl.zero ev) || (Fl.lt w lo && Fl.lt ev Fl.zero)
      let xv := if keep then h.xv else Fl.clampF lo Fl.zero (Fl.add b32 h.xv (Fl.mul b32 (s.coef 7) ev))
      let dec := if s.maxBw then 1 else 4
      (s.modHlm fun h => { h with iv := iv, xv := xv, ovdec := dec, ovn := dec - 1 })

/-- What the chain and the law give for one sample. -/
structure HelmOut where
  r : Fl
  rc : Fl
  y : Fl
  clampActed : Bool
  derActed : Bool
  deriving DecidableEq, Repr

/-- Stages 1 to 6 of Table 11-3 with the excitation of the sample (R295 to R301, R310, R311). -/
def State.refChain (s : State) (y iexc : Fl) : State × HelmOut :=
  let c := s.classTarget
  let tc := mkRat (tcNs s.hlm.cper) 1000000
  let dwell : Rat := (min (s.fld F.HLM_SLEW_DWELL) 50 : Nat)
  let v := slewStep s.slewRate tc dwell c.1 ⟨s.hlm.rs, s.hlm.hold, s.hlm.side⟩
  let s := s.modHlm fun h => { h with rs := v.rs, hold := v.hold, side := v.side, yf := c.2, yfLoad := h.yfLoad && h.cls != 0 }
  let s := s.outerLoop
  let rs := Fl.ofRat b32 v.rs
  let rv := if s.flag F.HLM_CTL_VLOOP then Fl.maxF rs s.hlm.iv else rs
  let re := Fl.add b32 rv iexc
  let rc := Fl.clampF (Fl.ofInt (s.fld F.HLM_IMAG_IMAGC)).neg (Fl.ofInt (s.fld F.HLM_IMAG_IMAGD)) re
  let r := Fl.clampF (Fl.ofRat b32 (mkRat (s.word Reg.DSP_ILIMC).toInt 1000)) (Fl.ofRat b32 (mkRat (s.word Reg.DSP_ILIMD).toInt 1000)) rc
  let o : HelmOut := { r := r, rc := rc, y := y, clampActed := !Fl.eqv rc re, derActed := !Fl.eqv r rc }
  let s := s.setHeld F.HLM_STS_SP_CLAMPED (decide (v.rs ≠ c.1) || o.clampActed || o.derActed)
  let s := s.setHeld F.HLM_STS_DWELL (decide (v.hold > 0))
  let s := s.setFlag F.HLM_STS_RCDONE_L (s.hlm.cls == 1 && decide (v.rs = mkRat s.hlm.rctgt.toInt 1000))
  let s := if !o.derActed then s else
    let add := (Fl.sub hp rc r).abs.toRat * tc * 1000
    s.modHlm fun h => { h with short := h.short + add, shortEp := h.shortEp + add, conflict := true }
  let s := if !o.derActed then s else
    (s.setWord Reg.DSP_SHORT (nw (min s.hlm.short.floor.toNat 0xFFFFFFFF))).raiseEv F.DSP_STS_POLICY_CONFLICT |>.setFld F.DSP_STS_CONFL_DER 1
  (s, o)

/-! ## The control law (R289) -/

/-- The law of R289 for one sample: the new state with the duties that wait for their latch. -/
def State.controlLaw (s : State) (o : HelmOut) (legs : List Fl) : State :=
  let one := Fl.ofInt 1
  let dmin := Fl.ofScaled (s.fld F.HLM_DLIM_DMIN) (-16)
  let dmax := Fl.ofScaled (s.fld F.HLM_DLIM_DMAX) (-16)
  let e := Fl.sub b32 o.r o.y
  let dff := if Fl.lt Fl.zero s.hlm.vl1 then Fl.add b32 (s.coef 3) (Fl.mul b32 (s.coef 4) (Fl.div b32 s.hlm.vs1 s.hlm.vl1)) else Fl.zero
  let u := Fl.add b32 (Fl.add b32 (Fl.mul b32 (s.coef 0) (Fl.sub b32 (Fl.mul b32 (s.coef 2) o.r) o.y)) s.hlm.x) dff
  let d := Fl.clampF dmin dmax u
  let keep := (Fl.lt dmax u && Fl.lt Fl.zero e) || (Fl.lt u dmin && Fl.lt e Fl.zero)
  let x := if keep then s.hlm.x else Fl.clampF one.neg one (Fl.add b32 s.hlm.x (Fl.mul b32 (s.coef 1) e))
  let ibar := Fl.div b32 (sum32 legs) (Fl.ofInt legs.length)
  let dj := legs.map fun i => Fl.clampF dmin dmax (Fl.add b32 d (Fl.mul b32 (s.coef 5) (Fl.sub b32 ibar i)))
  let cmp := dj.map fun v => (Fl.mul hp v (Fl.ofInt s.hlm.cper)).toIntAway.toNat
  let s := s.modHlm fun h => { h with x := x, duties := cmp, latchAt := s.dial + 1250 }
  let s := s.setHeld F.HLM_STS_DUTYSAT (Fl.lt dmax u || Fl.lt u dmin)
  ((s.setFld F.HLM_DUTY_VALUE (min 0xFFFF (Fl.mul hp d (Fl.ofInt 65536)).toIntAway.toNat)).setWord (Reg.HLM_NSAMP)
    (s.word Reg.HLM_NSAMP + 1)).setWord Reg.HLM_IREF (iw (milliR s.hlm.rs)) |>.setWord Reg.HLM_IOUT (iw (milli o.r))

/-- The channels of a sample reach their places: VLINK, VSTR and SPA for the next sample, AIN_SAT, the epoch mean of VSTR (R284, R286, R288). -/
def State.channels (s : State) (x : HelmIn) (y : Fl) : State :=
  let used := s.usedLegs ++ [8, 9, 10]
  let vstr := s.chanValue 9 (helmCode x 9)
  let vlink := s.chanValue 8 (helmCode x 8)
  let s := s.setHeld F.HLM_STS_AIN_SAT (used.any fun c => chanSat (helmCode x c))
  let s := s.setHeld F.HLM_STS_FB_LEGSUM (s.modSt 0).fault
  let s := s.setFlag F.HLM_CTL_FBSRC (s.modSt 0).fault
  let s := s.modHlm fun h => { h with
    vs1 := vstr
    vl1 := vlink
    spaCode := helmCode x 10
    spa := s.chanValue 10 (helmCode x 10)
    vstr := { sum := h.vstr.sum + vstr.toRat, n := h.vstr.n + 1,
              ok := h.vstr.ok && !chanSat (helmCode x 9) && !(Fl.ofWord (s.word (Reg.HLM_AGAIN 9))).isZero } }
  ((s.setWord Reg.HLM_IMEAS (iw (milli y))).setWord Reg.HLM_VSTR (nw (milli vstr).toNat)).setWord Reg.HLM_VLINK (nw (milli vlink).toNat)

/-! ## Register writes -/

/-- A write of HLM_LEGS (R280). -/
def State.legsWrite (s : State) (v : Word) : State :=
  let map := getBits v 0 8
  if s.helmRun ∨ popCount 8 map = 0 ∨ 6 < popCount 8 map then s.raiseEv F.HLM_STS_CFG_REJ
  else (s.setFld F.HLM_LEGS_MAP map).setFld F.HLM_LEGS_N (popCount 8 map)

/-- LEGS_WRITE. -/
def execLegsWrite (t : Nat) (_m : Master) (v : Word) (s : State) : Out := .next ((s.at t).legsWrite v)

/-- A write of HLM_CARRIER (R281): DT as any RW field; a CPER outside 1,000 to 10,000 leaves the register unchanged, and so does a
new CPER while Helm is in RUN. -/
def State.carrierWrite (s : State) (v : Word) : State :=
  let c := getBits v 0 14
  if c < 1000 ∨ 10000 < c then s.raiseEv F.HLM_STS_CFG_REJ
  else if s.helmRun ∧ c ≠ s.fld F.HLM_CARRIER_CPER then s.raiseEv F.HLM_STS_CFG_REJ
  else (s.setFld F.HLM_CARRIER_CPER c).setFld F.HLM_CARRIER_DT (getBits v 24 8)

/-- CARRIER_WRITE. -/
def execCarrierWrite (t : Nat) (_m : Master) (v : Word) (s : State) : Out := .next ((s.at t).carrierWrite v)

/-- COEFFICIENT_WRITE: a write of one of the eight coefficient registers, n = 0 KP to 7 KIV. -/
def execCoefficientWrite (t : Nat) (_m : Master) (n : Nat) (v : Word) (s : State) : Out :=
  let s := s.at t
  .next (if n < 8 then s.coefWrite n v else s)

/-- The set-point a register offset names: HLM_HOSTI, HLM_HOSTV or HLM_RCTGT. -/
def setpointOf (off : Nat) : Option Nat :=
  if off = Reg.HLM_HOSTI then some 0 else if off = Reg.HLM_HOSTV then some 1 else if off = Reg.HLM_RCTGT then some 3 else none

/-- HOST_SETPOINT_WRITE: a host write of HLM_HOSTI, HLM_HOSTV or HLM_RCTGT. -/
def execHostSetpointWrite (t : Nat) (_m : Master) (off : Nat) (v : Word) (s : State) : Out :=
  let s := s.at t
  .next (match setpointOf off with
    | some sel => s.spWrite sel v false
    | none => s)

end Sys2Proof.Machine
end

