-- ==== Sys2Proof/Machine/AzmExc.lean ====
section
/-! DEFINITION. Azimuth's tone plans, the excitation window and the excitation current (09_azimuth.md). -/

namespace Sys2Proof.Machine

/-- Change Azimuth's state. -/
def State.modAzm (s : State) (f : AzmSt → AzmSt) : State := { s with azm := f s.azm }

/-! ## Plans (R237 to R240) -/

/-- The fields of a plan's words. -/
def Plan.ntone (p : Plan) : Nat := getBits p.hdr 24 4
def Plan.shape (p : Plan) : Nat := getBits p.hdr 30 2
def Plan.prbs (p : Plan) : Bool := p.shape == 1
def Plan.schr (p : Plan) : Bool := p.hdr.getLsbD 29
def Plan.order (p : Plan) : Nat := [7, 9, 11, 15].getD (getBits p.hdr 22 2) 7
def Plan.jper (p : Plan) : Nat := getBits p.hdr 14 8
def Plan.pamp (p : Plan) : Nat := getBits p.hdr 0 14
def Plan.fk (p : Plan) (k : Nat) : Nat := getBits (p.tones.getD k 0) 17 15
def Plan.amp (p : Plan) (k : Nat) : Nat := getBits (p.tones.getD k 0) 0 14

/-- The used tones of a plan. -/
def Plan.used (p : Plan) : List Nat := List.range (min 8 p.ntone)

/-- The chip rate fc of a PRBS plan in units of 0.1 Hz (R239). -/
def Plan.fc10 (p : Plan) : Nat := p.jper * (2 ^ p.order - 1)

/-- The frequencies of a plan in units of 0.1 Hz, with fc for a PRBS (R242). -/
def Plan.freqs (p : Plan) : List Nat := p.used.map p.fk ++ (if p.prbs then [p.fc10] else [])

/-- The peak bound in mA (R242). -/
def Plan.peak (p : Plan) : Nat := if p.prbs then p.pamp else (p.used.map p.amp).sum

/-- A failed check of R240: number and tone. -/
abbrev PlanFail := Nat × Nat

/-- The first tone of a list that fails a test, as check n. -/
def firstTone (n : Nat) (ks : List Nat) (bad : Nat → Bool) : Option PlanFail := (ks.find? bad).map fun k => (n, k)

/-- Checks 1 to 5 of R240 on one plan. -/
def Plan.check (p : Plan) : Option PlanFail :=
  let us := p.used
  if p.ntone < 1 ∨ 8 < p.ntone then some (1, 0)
  else
    (firstTone 2 us fun k => p.fk k < 1 || 20000 < p.fk k || (List.range k).any fun i => p.fk i == p.fk k)
    <|> (if p.shape ≠ 0 then none
         else (firstTone 3 us fun k => p.amp k < 1 || 10000 < p.amp k)
           <|> (if 10000 < (us.map p.amp).sum ∨ p.pamp ≠ 0 then some (3, 0) else none))
    <|> (if 1 < p.shape ∨ p.hdr.getLsbD 28 then some (4, 0) else none)
    <|> (firstTone 4 (List.range 8) fun k => if k < p.ntone then getBits (p.tones.getD k 0) 14 3 != 0 else p.tones.getD k 0 != 0)
    <|> (if p.shape ≠ 1 then none
         else if p.jper < 1 ∨ 40000 < p.fc10 then some (5, 0)
         else (firstTone 5 us fun k => p.fk k % p.jper != 0 || decide (45 * p.fc10 < 100 * p.fk k) || p.amp k != 0)
           <|> (if p.pamp < 1 ∨ 10000 < p.pamp then some (5, 0) else none))

/-- TCAL temperature and phase of a calibration set's point, 0.01 °C and 0.01°. -/
def Calib.temp (c : Calib) (j : Nat) : Int := getBitsS (c.tcal.getD j 0) 16 16
def Calib.phase (c : Calib) (j : Nat) : Int := getBitsS (c.tcal.getD j 0) 0 16
def Calib.fohm (c : Calib) : Nat := getBits c.a 16 15
def Calib.fct (c : Calib) : Nat := getBits c.a 0 15
def Calib.fcal (c : Calib) : Nat := getBits c.b 0 15

/-- Checks 6 and 7 of R240 on one calibration set. -/
def Calib.check (c : Calib) : Option PlanFail :=
  let steps := List.range 7
  let up := steps.all fun j => decide (c.phase j < c.phase (j + 1))
  let down := steps.all fun j => decide (c.phase (j + 1) < c.phase j)
  if !(steps.all fun j => decide (c.temp j < c.temp (j + 1))) || !(up || down) then some (6, 0)
  else if [c.fohm, c.fct, c.fcal].any (fun f => decide (20000 < f)) then some (7, 0)
  else none

/-- A plan and a calibration set as the registers hold them. -/
def State.planImage (s : State) (n : Nat) : Plan :=
  { hdr := s.word (Reg.AZM_PLAN_HDR n), tones := (List.range 8).map fun k => s.word (Reg.AZM_PLAN_T n k) }
def State.calImage (s : State) (d : Nat) : Calib :=
  { a := s.word (Reg.AZM_CALA d), b := s.word (Reg.AZM_CALB d), tcal := (List.range 8).map fun j => s.word (Reg.AZM_TCAL d j) }

/-- A plan and a calibration set in use. -/
def State.plan (s : State) (n : Nat) : Plan := Tab.get (fun _ => Plan.none_) s.azm.plans n
def State.calib (s : State) (d : Nat) : Calib := Tab.get (fun _ => Calib.none_) s.azm.cals d

/-- The first failure over the plans and then the calibration sets: index, check, tone. -/
def State.planFail (s : State) : Option (Nat × PlanFail) :=
  ((List.range 16).findSome? fun n => (s.planImage n).check.map fun f => (n, f))
    <|> ((List.range 4).findSome? fun d => (s.calImage d).check.map fun f => (d, f))

/-- At the boundary after PAPPLY: every plan and calibration set into use, or none (R240). -/
def State.papplyTake (s : State) : State :=
  if !s.azm.papply then s
  else
    let s := s.modAzm fun a => { a with papply := false }
    match s.planFail with
    | some (i, c, k) =>
      ((((s.setFld F.AZM_PLANERR_INDEX i).setFld F.AZM_PLANERR_TONE k).setFld F.AZM_PLANERR_CHECK c)).raiseEv F.AZM_STS_PLAN_REJ
    | none =>
      (s.modAzm fun a => { a with
        plans := (List.range 16).foldl (fun m n => Tab.set (fun _ => Plan.none_) m n (s.planImage n)) a.plans
        cals := (List.range 4).foldl (fun m d => Tab.set (fun _ => Calib.none_) m d (s.calImage d)) a.cals }).setWord Reg.AZM_PLANERR 0

/-! ## The window (R242 to R245, Table 9-2) -/

/-- Units of Meridian in a block of 10 s and in 1 ms. -/
def azmBlock : Nat := 10000000000 * 2 ^ 40
def merMs : Nat := 1000000 * 2 ^ 40

/-- Does a profile have Azimuth Off in Table 1-3? -/
def azmOffIn (p : Nat) : Bool := p == 1 || p == 3 || p == 4

/-- AZM_EXCSTS shows the window. -/
def State.azmShow (s : State) : State :=
  let st := if s.azm.win.isSome then 1 else if s.azm.susp then 2 else 0
  let s := (s.setFld F.AZM_EXCSTS_STATE st).setFlag F.AZM_EXCSTS_AUTO ((s.azm.win.map (·.auto)).getD false)
  match s.azm.win with
  | some w => s.setFld F.AZM_EXCSTS_PLAN w.num
  | none => s

/-- Does a plan's tone or chip rate exceed 0.4 f? -/
def State.tooFast (s : State) (p : Plan) : Bool := p.freqs.any fun q => decide (4 * s.snapRate < q)

/-- The refusal code of a start with plan n, 0 when it is accepted; auto tells an automatic start (R242, Table 9-1). -/
def State.excCode (s : State) (n : Nat) (auto : Bool) : Nat :=
  let p := s.plan n
  if !s.flag F.AZM_CTL_EN || azmOffIn s.ep.prof || s.flag F.THM_TRIM_AZM then 1
  else if !auto && ((s.azm.win.map fun w => !w.auto).getD false) then 2
  else if s.tooFast p then 3
  else if min (50 * s.fld F.HLM_IRATED_IRATED) 10000 < p.peak then 4
  else if p.ntone = 0 then 5
  else 0

/-- A refused start. -/
def State.excRefuse (s : State) (code : Nat) : State :=
  ((s.setFld F.AZM_EXCSTS_REJCODE code).satAdd F.AZM_CNT_REJCNT 1).raiseEv F.AZM_STS_EXC_REJ

/-- The start of block b of a window. -/
def AzmWin.blockStart (w : AzmWin) (b : Nat) : Nat := w.t0 + b * azmBlock

/-- Blocks of the window that a Meridian instant cuts: those not over are discarded, counted when some of the block has passed. -/
def State.dropBlocks (s : State) (w : AzmWin) (fin : Nat) : State :=
  let past := fun (j : AzmJob) => j.win == w && !j.ended && decide (fin < w.blockStart (j.b + 1))
  let cut := w.t0 < fin && (fin - w.t0) % azmBlock != 0 && decide (s.azm.from_ ≤ w.blockStart ((fin - w.t0) / azmBlock))
  let s := s.modAzm fun a => { a with jobs := a.jobs.filter fun j => !past j }
  if cut then (s.satAdd F.AZM_CNT_DISCNT 1).raiseEv F.AZM_STS_DISCARD else s

/-- Blocks of a window that are complete at a Meridian instant end: each is counted (R244, R247). -/
def State.endBlocks (s : State) (w : AzmWin) (fin : Nat) : State :=
  let full := fun (j : AzmJob) => j.win == w && !j.ended && decide (w.blockStart (j.b + 1) ≤ fin)
  let n := (s.azm.jobs.filter full).length
  (s.modAzm fun a => { a with jobs := a.jobs.map fun j => if full j then { j with ended := true } else j }).satAdd F.AZM_EXCSTS_BLOCK n

/-- The running window ends at a Meridian instant, or where its length elapsed before it, with its end ramp. -/
def State.winEnd (s : State) (fin : Nat) (susp : Bool) : State :=
  match s.azm.win with
  | none => (s.modAzm fun a => { a with susp := susp }).azmShow
  | some w =>
    let fin := match w.len with
      | some n => min fin (w.t0 + n * merMs)
      | none => fin
    (((s.endBlocks w fin).dropBlocks w fin).modAzm fun a => { a with win := none, susp := susp, tails := (w, fin) :: a.tails }).azmShow

/-- EN written 0 or the active role left: the excitation stops without the end ramp. -/
def State.excCut (s : State) : State :=
  (s.winEnd s.time.mer false).modAzm fun a => { a with tails := [] }

/-- A window starts at a Meridian instant. -/
def State.winStart (s : State) (n t0 : Nat) (len : Option Nat) (auto : Bool) : State :=
  let w : AzmWin := { plan := s.plan n, num := n, t0 := t0, len := len, auto := auto }
  let j : AzmJob := { win := w, b := 0, zscale := s.fld F.AZM_CTL_ZSCALE, samples := [], clip := false, ended := false,
                      lastTgt := none, serial := none, result := none }
  ((s.modAzm fun a => { a with win := some w, susp := false, from_ := t0, jobs := a.jobs ++ [j] }).setFld F.AZM_EXCSTS_BLOCK 0).azmShow

/-- An EXC start launches: plan n, length ga ms, 0 until stopped (R242, R244). -/
def State.excStart (s : State) (n ga : Nat) : State :=
  let code := s.excCode n false
  if code ≠ 0 then s.excRefuse code
  else
    let s := if s.azm.win.isSome then s.winEnd s.time.mer false else s
    s.winStart n s.time.mer (if ga = 0 then none else some ga) false

/-- An EXC stop launches: it comes before a window length that elapses in the same FAB cycle (Table 9-2). -/
def State.excStop (s : State) : State :=
  let same := match s.azm.elapsed with
    | some d => fabCycle d == fabCycle s.dial
    | none => false
  if s.azm.win.isSome then s.winEnd s.time.mer (s.ep.prof == 2)
  else if same && s.ep.prof == 2 then (s.modAzm fun a => { a with susp := true }).azmShow
  else s

/-- EXC_WINDOW_ELAPSE: the window length has elapsed. -/
def execExcWindowElapse (t : Nat) (s : State) : Out :=
  let s := s.at t
  .next (match s.azm.win with
    | some w =>
      match w.len with
      | some n => if w.t0 + n * merMs ≤ s.time.mer then
        (s.winEnd (w.t0 + n * merMs) false).modAzm fun a => { a with elapsed := some s.dial }
      else s
      | none => s
    | none => s)

/-- AZM_AUTO_START: under INDIGO with EN 1, Meridian has just reached a whole multiple of 10 s in IDLE (R244). -/
def execAzmAutoStart (t : Nat) (s : State) : Out :=
  let s := s.at t
  let t0 := s.time.mer / azmBlock * azmBlock
  .next (if s.ep.prof = 2 ∧ s.flag F.AZM_CTL_EN = true ∧ s.activeRole = true ∧ s.azm.win = none ∧ s.azm.susp = false
      ∧ s.time.mer < t0 + 2 ^ 41 then
    let n := s.fld F.AZM_CTL_CPLAN
    let code := s.excCode n true
    if code ≠ 0 then s.excRefuse code else s.winStart n t0 none true
    else s)

/-- A profile change has applied at a boundary; old is the profile before it (Table 9-2). -/
def State.azmProfile (s : State) (old : Nat) : State :=
  match s.azm.win with
  | some w =>
    if azmOffIn s.ep.prof then s.winEnd s.time.mer false
    else if s.tooFast w.plan then ((s.winEnd s.time.mer false).setFld F.AZM_EXCSTS_REJCODE 3).raiseEv F.AZM_STS_EXC_REJ
    else if w.auto ∧ old = 2 then s.winEnd s.time.mer false
    else s
  | none => (s.modAzm fun a => { a with susp := false }).azmShow

/-- A write of AZM_CTL. -/
def State.azmctlWrite (s : State) (v : Word) : State :=
  let s := s.setWord Reg.AZM_CTL (v &&& 0x80000F34#32)
  let s := s.when (v.getLsbD 0) fun s => s.modAzm fun a => { a with papply := true }
  if v.getLsbD 31 then s else s.excCut

/-- Meridian has stepped: old is its value before the step; the block in progress is discarded (R246). An end ramp goes on where it
stood, and one that is over stays over (R243). -/
def State.azmStep (s : State) (old : Nat) : State :=
  let done := fun (j : AzmJob) => j.ended || decide (j.win.blockStart (j.b + 1) ≤ old)
  let cut := s.azm.jobs.any fun j => !done j
  let s := s.modAzm fun a => { a with
    jobs := (a.jobs.filter done).map fun j => { j with ended := true }
    tails := (a.tails.filter fun e => decide (old < e.2 + 10 * merMs)).map fun e => (e.1, e.2 + s.time.mer - old)
    from_ := s.time.mer }
  if cut then (s.satAdd F.AZM_CNT_DISCNT 1).raiseEv F.AZM_STS_STEP else s

/-! ## The excitation current (R238, R239, R241, R243) -/

/-- One shift of the PRBS register of m bits: bit 0 is stage 1, and the feedback takes the taps of R239. -/
def prbsShift (m r : Nat) : Nat :=
  let tap := if m = 7 then 6 else if m = 9 then 5 else if m = 11 then 9 else 14
  let fb := (r / 2 ^ (m - 1) + r / 2 ^ (tap - 1)) % 2
  (2 * r + fb) % 2 ^ m

/-- The register after n shifts. -/
def prbsRun (m : Nat) : Nat → Nat → Nat
  | 0, r => r
  | n + 1, r => prbsRun m n (prbsShift m r)

/-- The output bit in a chip: the last stage, after one shift per chip since t0. -/
def prbsBit (m chip : Nat) : Bool := (prbsRun m (chip % (2 ^ m - 1)) (2 ^ m - 1)).testBit (m - 1)

/-- Seconds of a difference of Meridian instants. -/
def merSecs (m t0 : Nat) : Rat := mkRat ((m : Int) - t0) (1000000000 * 2 ^ 40)

/-- The chip of a PRBS plan at a Meridian instant. -/
def Plan.chip (p : Plan) (m t0 : Nat) : Nat := (merSecs m t0 * mkRat p.fc10 10).floor.toNat

/-- The phase of tone k at a Meridian instant, in turns (R238). -/
def Plan.turns (p : Plan) (k m t0 : Nat) : Rat :=
  mkRat (p.fk k) 10 * merSecs m t0 + (if p.schr && !p.prbs then mkRat (-((k * (k - 1) : Nat) : Int)) (2 * p.ntone) else 0)

/-- The excitation of a plan in A before the ramps, to the working precision. -/
def Plan.wave (p : Plan) (m t0 : Nat) : Fl :=
  let amps := fun (a : Int) => Fl.div hp (Fl.ofInt a) (Fl.ofInt 1000)
  if p.prbs then amps (if prbsBit p.order (p.chip m t0) then p.pamp else -(p.pamp : Int))
  else p.used.foldl (fun acc k => Fl.add hp acc (Fl.mul hp (amps (p.amp k)) (Fl.sinTurn (p.turns k m t0)))) Fl.zero

/-- A linear ramp over 10 ms. -/
def ramp (d : Int) : Rat := max 0 (min 1 (mkRat d (10 * merMs)))

/-- The excitation current in A at a Meridian instant: the running window and those in their end ramp. -/
def State.iexc (s : State) (m : Nat) : Fl :=
  let one := fun (w : AzmWin) (down : Rat) =>
    Fl.mul hp (Fl.ofRat hp (ramp ((m : Int) - w.t0) * down)) (w.plan.wave m w.t0)
  let run := match s.azm.win with
    | some w => one w 1
    | none => Fl.zero
  let sum := s.azm.tails.foldl (fun acc (w, fin) => Fl.add hp acc (one w (1 - ramp ((m : Int) - fin)))) run
  Fl.round b32 sum

/-- The clamp or derating acted on a Helm sample: every block in progress is clipped (R249). -/
def State.azmClip (s : State) : State :=
  s.modAzm fun a => { a with
    jobs := a.jobs.map fun j =>
      if j.win.blockStart j.b ≤ s.time.mer ∧ s.time.mer < j.win.blockStart (j.b + 1) then { j with clip := true } else j
    tails := a.tails.filter fun e => decide (s.time.mer < e.2 + 10 * merMs) }

end Sys2Proof.Machine
end

