-- ==== Sys2Proof/Machine/Bal.lean ====
section
/-! DEFINITION. Balancing: phases, BALSETs, die temperatures and wire learning (10_balancing.md). The plan itself, which needs Sextant's estimates, is in BalPlan. -/

namespace Sys2Proof.Machine

/-! ## NMAX (R268) -/

/-- NMAX of a tile of n cells at die temperature td: 0 when it is unknown. -/
def State.nmaxFor (s : State) (n : Nat) (td : Option Int) : Nat :=
  match td with
  | none => 0
  | some v =>
    let h : Int := ((n + 1) / 2 : Nat)
    (clampI 0 h ((h * (s.balParamS F.BAL_TDER_TDER1 - v)) / (s.balParamS F.BAL_TDER_TDER1 - s.balParamS F.BAL_TDER_TDER0))).toNat

/-- Recompute NMAX of a slot. -/
def State.nmaxRefresh (s : State) (k : Nat) : State :=
  let n := s.nmaxFor (s.acqSlot k).ncell (s.balSlot k).td
  (s.modBalSlot k fun x => { x with nmax := n }).setFld (F.BAL_TILE_NMAX k) n

/-- The balancing parameters written before a boundary come into use, and NMAX follows them (R17, R268). -/
def State.balBoundary (s : State) : State := allSlots.foldl State.nmaxRefresh s.balTake

/-- HOT of a slot (R269). -/
def State.setHot (s : State) (k : Nat) (b : Bool) : State :=
  let s := (s.modBalSlot k fun x => { x with hot := b }).setFlag (F.BAL_TILE_HOT k) b
  s.setHeld F.BAL_STS_HOT (allSlots.any fun k => (s.balSlot k).hot)

/-- A die temperature read from a tile: HOT clears below TDER0 - 5 °C. -/
def State.dieTempRead (s : State) (k : Nat) (td : Int) : State :=
  let s := (s.modBalSlot k fun x => { x with td := some td }).setFldS (F.BAL_MAN_TDIE k) td
  let s := if td < s.balParamS F.BAL_TDER_TDER0 - 500 then s.setHot k false else s
  s.nmaxRefresh k

/-- DIE_TEMPERATURE_POLL: once per second every in-service tile is asked for its die temperature (R268). -/
def execDieTemperaturePoll (t : Nat) (s : State) : Out :=
  let s := s.at t
  .next (if (match s.bal.pollAt with | some a => decide (s.dial < a + 1000000000) | none => false) = true then s
  else
    let s : State := { s with bal := { s.bal with pollAt := some s.dial } }
    allSlots.foldl (fun s k => if (s.acqSlot k).inService then (s.nmaxRefresh k).sendCmd k (.dieTemp k) 0x22 [] else s) s)

/-! ## Masks (R259, R266 to R271) -/

/-- The inputs a slot closes in a phase: the candidates, or with MAN the eligible inputs of the manual mask, of that phase, those
with the largest excess first, at most NMAX; none while the tile is out of service, HOT, UNSURE or suspended. -/
def State.phaseInputs (s : State) (k ph : Nat) : List Nat :=
  let x := s.balSlot k
  if !(s.acqSlot k).inService || x.hot || x.unsure || s.balOff k then []
  else
    let base := if s.balParam F.BAL_CTL_MAN = 1 then x.order.filter fun j => (s.fld (F.BAL_MAN_MASK k)).testBit j
      else x.order.filter fun j => x.cands.contains j
    (base.filter fun j => j % 2 == ph).take x.nmax

/-- A mask from a list of inputs. -/
def maskOf (l : List Nat) : Nat := ((List.range 16).filter fun j => l.contains j).foldl (fun m j => m + 2 ^ j) 0

/-- Does a manual mask have two adjacent bits set (R271)? -/
def adjacentBits (m : Nat) : Bool := m &&& (m / 2) != 0

/-- Send the phase's masks to every in-service tile; the next refresh falls due 1 s later (R262). -/
def State.sendMasks (s : State) (ph s0 : Nat) (fin : Option Nat) : State :=
  let s : State := { s with bal := { s.bal with sentAt := s.dial } }
  let s := s.when (s.balParam F.BAL_CTL_MAN == 1 && allSlots.any fun k => adjacentBits (s.fld (F.BAL_MAN_MASK k))) fun s => s.raiseEv F.BAL_STS_BAL_SPLIT
  if s.updPaused then s else allSlots.foldl (fun s k => s.sendBalset k s0 fin (maskOf (s.phaseInputs k ph))) s

/-- Open every switch: BALSET with an empty mask to every in-service tile. -/
def State.sendStop (s : State) (s0 : Nat) : State :=
  if s.updPaused then s else allSlots.foldl (fun s k => s.sendBalset k s0 none 0) s

/-- BAL_MODE shows the phase in force and the one started last. -/
def State.phaseShow (s : State) : State :=
  (s.setFld F.BAL_MODE_PHASE (match s.bal.phase with | none => 0 | some p => p + 1)).setFld F.BAL_MODE_LASTPH (s.bal.lastPh.getD 0)

/-! ## Phases (R261) -/

/-- The phase started last, by launches that have not reached their S too. -/
def State.lastPhase (s : State) : Option Nat := (s.bal.next.filterMap (·.1)).getLast? <|> s.bal.lastPh

/-- A BAL launches at L: refused with REJ while EN is 0; otherwise the phase or the stop takes effect at L + 200 µs, after the launches
before it. -/
def State.balLaunch (s : State) (sel ga : Nat) : State :=
  if !s.flag F.BAL_CTL_EN then s.raiseEv F.BAL_STS_REJ
  else
    let s0 := s.dial + 200000
    let ph := if sel = 1 then 0 else if sel = 2 then 1 else match s.lastPhase with | some 0 => 1 | _ => 0
    let nx : Option Nat × Nat × Option Nat :=
      if sel = 0 then (none, s0, none) else (some ph, s0, if ga = 0 then none else some (s0 + 1000000 * ga))
    { s with bal := { s.bal with next := s.bal.next ++ [nx] } }

/-- BAL_PHASE_EFFECT: at S the change is in force and the BALSETs go out (R259, R260, R262). -/
def execBalPhaseEffect (t : Nat) (s : State) : Out :=
  let s := s.at t
  .next (match s.bal.next with
    | (none, s0, _) :: rest =>
      if s0 ≤ s.dial then (({ s with bal := { s.bal with phase := none, next := rest, fin := none } }).sendStop s0).phaseShow else s
    | (some ph, s0, fin) :: rest =>
      if s0 ≤ s.dial then
        (({ s with bal := { s.bal with phase := some ph, s0 := s0, fin := fin, next := rest, lastPh := some ph } }).sendMasks ph s0 fin).phaseShow
      else s
    | [] => s)

/-- BAL_PHASE_END: the phase's end has come; the tiles open their switches at the end instant they hold (R261, R263). -/
def execBalPhaseEnd (t : Nat) (s : State) : Out :=
  let s := s.at t
  .next (match s.bal.phase, s.bal.fin with
    | some _, some e => if e ≤ s.dial then ({ s with bal := { s.bal with phase := none, fin := none } }).phaseShow else s
    | _, _ => s)

/-- BALSET_REFRESH: 1 s after the last BALSETs of a phase that has not ended each in-service tile gets the latest mask with S 200 µs
ahead (R262). -/
def execBalsetRefresh (t : Nat) (s : State) : Out :=
  let s := s.at t
  let runs := match s.bal.fin with | some e => decide (s.dial < e) | none => true
  .next (match s.bal.phase with
    | some ph => if s.bal.sentAt + 1000000000 ≤ s.dial ∧ runs = true then s.sendMasks ph (s.dial + 200000) s.bal.fin else s
    | none => s)

/-- Clearing EN stops all balancing at once. -/
def State.balctlWrite (s : State) (v : Word) : State :=
  let s := s.setWord Reg.BAL_CTL (v &&& 0x80000011#32)
  if v.getLsbD 31 then s
  else
    let live := s.bal.phase.isSome || !s.bal.next.isEmpty
    let s : State := { s with bal := { s.bal with phase := none, next := [], fin := none } }
    (s.when live fun s => s.sendStop s.dial).phaseShow

/-- A write of BAL_TDER: TDER0 at or above TDER1 leaves it unchanged. -/
def State.balTderWrite (s : State) (v : Word) : State :=
  if getBitsS v 0 16 < getBitsS v 16 16 then s.setWord Reg.BAL_TDER v else s

/-! ## Failed BALSETs (R265) -/

/-- A BALSET is reported done or failed. -/
def State.balsetDone (s : State) (k mask : Nat) (ok : Bool) : State :=
  if ok then (s.modBalSlot k fun x => { x with okMask := mask, okAt := x.cmdAt, unsure := false }).setFld (F.BAL_TILE_UNSURE k) 0
  else ((s.modBalSlot k fun x => { x with unsure := true }).setFld (F.BAL_TILE_UNSURE k) 1).raiseEv F.BAL_STS_CMDFAIL

/-- UNSURE_EXPIRY: 2 s since the last BALSET the tile confirmed. -/
def execUnsureExpiry (t k : Nat) (s : State) : Out :=
  let s := s.at t
  .next (if (s.balSlot k).unsure = true ∧ (s.balSlot k).okAt + 2000000000 ≤ s.dial then
    (s.modBalSlot k fun x => { x with unsure := false }).setFld (F.BAL_TILE_UNSURE k) 0 else s)

/-! ## Mode (R273, R274) -/

/-- BAL_MODE and STARVED follow the profile and the overrides in force. -/
def State.balModeRefresh (s : State) : State :=
  ((s.setFlag F.BAL_MODE_BT s.balThrough).setFld F.BAL_MODE_TQUIET (if s.balThrough then 0 else s.tquiet)).setHeld
    F.BAL_STS_STARVED s.starvedNow

/-! ## Wire learning (R278) -/

/-- One sample of a wire, a fraction in 0.01 mΩ: outside 0 to 50 mΩ it is discarded. -/
def State.wireSample (s : State) (k w : Nat) (num : Int) (den : Nat) : State :=
  if den = 0 ∨ num < 0 ∨ (5000 * den : Nat) < num then s
  else
    let i := 17 * k + w
    let s := s.setFld (F.BAL_RW_RW i) (Config.wireUpdate (s.rw k w) num den).toNat
    let s := s.satAdd (F.BAL_RW_EDGES i) 1
    s.when (decide (16 ≤ s.fld (F.BAL_RW_EDGES i))) fun s => s.setFld (F.BAL_RW_LEARNED i) 1

/-- The samples of a qualifying edge of input j: readings before and after, on true for a switch-on edge. -/
def State.wireEdge (s : State) (k n j : Nat) (on : Bool) (pre now : List Nat) : State :=
  let d := fun i => (if on then 1 else -1) * (cellVal (now.getD i 0) - cellVal (pre.getD i 0))
  let raw := cellVal ((if on then now else pre).getD j 0)
  if raw ≤ 0 then s
  else
    let den := raw.toNat
    let m : Int := (1000 * s.rbal : Nat)
    let s1 := if 1 ≤ j then s.wireSample k j (d (j - 1) * m) den else s
    let s2 := if j + 2 ≤ n then s1.wireSample k (j + 1) (d (j + 1) * m) den else s1
    let s3 := if j = 0 then s2.wireSample k 0 (-(d 0) * m - (s.rw k 1 : Nat) * den) den else s2
    if j + 1 = n then s3.wireSample k n (-(d j) * m - (s.rw k j : Nat) * den) den else s3

/-- Is every reading of a tile valid at the snapshot that has just closed? -/
def State.allValid (s : State) (k : Nat) : Bool :=
  let x := s.acqSlot k
  (List.range x.ncell).all fun j => (s.posAcc (x.basep + j)).reading.isSome

/-- Wire learning of one tile at a closing snapshot. -/
def State.learnTile (s : State) (target : Nat) (quiet : Bool) (k : Nat) : State :=
  let x := s.acqSlot k
  match x.last with
  | none => s
  | some r =>
    if x.lastTarget ≠ target ∨ s.allValid k = false then s.modBalSlot k fun y => { y with prevRaw := none }
    else
      let mask := s.maskAt k target
      let s := match (s.balSlot k).prevRaw with
        | some (pre, pm) =>
          let ch := (List.range x.ncell).filter fun j => pm.testBit j != mask.testBit j
          match ch with
          | [j] => if quiet then s.wireEdge k x.ncell j (mask.testBit j) pre r.cells else s
          | _ => s
        | none => s
      s.modBalSlot k fun y => { y with prevRaw := some (r.cells, mask) }

/-- Wire learning at a closing snapshot taken in balance-through mode: the string current must not have moved by more than 1 A. -/
def State.btLearn (s : State) (target : Nat) (bt : Bool) : State :=
  let quiet := match s.bal.prevCur, s.acq.curNow with
    | some a, some b => decide ((a - b).natAbs ≤ 1000)
    | _, _ => false
  let s := if bt then allSlots.foldl (fun s k => if (s.acqSlot k).inService then s.learnTile target quiet k else s) s else s
  { s with bal := { s.bal with prevCur := s.acq.curNow } }

/-- An accepted APPLY sets every wire resistance to RWINIT and every count to 0. -/
def State.rwInit (s : State) : State :=
  (List.range 816).foldl (fun s i => s.setWord (Reg.BAL_RW i) (nw (s.fld F.BAL_RWINIT_RWINIT))) s

end Sys2Proof.Machine
end

