-- ==== Sys2Proof/Machine/Can.lean ====
section
/-! DEFINITION. The CAN FD controllers: timing checks, receive objects, the transmit queue, fault confinement, rate detection and the reference slot (18_can_fd.md). Reception and bus time, which wake Almanac, are in CanBus. -/

namespace Sys2Proof.Machine

/-- Controller n. -/
def State.can1 (s : State) (n : Nat) : CanSt := Tab.get (fun _ => CanSt.reset) s.can n

/-- Change controller n. -/
def State.modCan (s : State) (n : Nat) (f : CanSt → CanSt) : State :=
  { s with can := Tab.set (fun _ => CanSt.reset) s.can n (f (s.can1 n)) }

/-! ## Bit timing (R422) -/

/-- CANCLK periods of a bit and the SJW check, from an NBT word; none for a value refused on its own. -/
def nbtBit (v : Word) : Option Nat :=
  let brp := getBits v 24 8 + 1
  let t1 := getBits v 16 8 + 1
  let t2 := getBits v 8 7 + 1
  let sjw := getBits v 0 7 + 1
  if t1 < 2 ∨ t2 < sjw then none else some (brp * (1 + t1 + t2))

/-- The same from a DBT word. -/
def dbtBit (v : Word) : Option Nat :=
  let brp := getBits v 24 5 + 1
  let t1 := getBits v 16 5 + 1
  let t2 := getBits v 8 4 + 1
  let sjw := getBits v 0 4 + 1
  if t2 < sjw then none else some (brp * (1 + t1 + t2))

/-- May an NBT value stand beside a DBT value: at most 1 Mbit/s, and the data rate at least the nominal rate? -/
def nbtOk (v dbt : Word) : Bool :=
  match nbtBit v, dbtBit dbt with
  | some b, some d => decide (80 ≤ b) && decide (d ≤ b)
  | _, _ => false

/-- May a DBT value stand beside an NBT value: at most 8 Mbit/s, and at least the nominal rate? -/
def dbtOk (v nbt : Word) : Bool :=
  match dbtBit v, nbtBit nbt with
  | some d, some b => decide (10 ≤ d) && decide (d ≤ b)
  | _, _ => false

/-- A write of CANn_NBT, DBT, TDC or ABCAND by its offset from the controller's base (R422). -/
def State.canTimingWrite (s : State) (n off : Nat) (v : Word) : State :=
  let rej := s.raiseEv (F.CAN_STS_CFG_REJ n)
  let en := s.flag (F.CAN_CTL_EN n)
  if off = 0x008 then
    (if en || !nbtOk (v &&& 0xFFFF7F7F#32) (s.word (Reg.CAN_DBT n)) then rej else s.setWord (Reg.CAN_NBT n) (v &&& 0xFFFF7F7F#32))
  else if off = 0x00C then
    (if en || !dbtOk (v &&& 0x1F1F0F0F#32) (s.word (Reg.CAN_NBT n)) then rej else s.setWord (Reg.CAN_DBT n) (v &&& 0x1F1F0F0F#32))
  else if off = 0x010 then
    (if en then rej else (s.setFld (F.CAN_TDC_TDCEN n) (getBits v 31 1)).setFld (F.CAN_TDC_TDCO n) (getBits v 0 7))
  else if 0x180 ≤ off ∧ off < 0x1A0 then
    (if !nbtOk (v &&& 0xFFFF7F7F#32) (s.word (Reg.CAN_DBT n)) then rej
     else s.setWord (Reg.CAN_ABCAND n ((off - 0x180) / 4)) (v &&& 0xFFFF7F7F#32))
  else s

/-- The controller and the offset from its base that a BAR0 offset names. -/
def canOff (off : Nat) : Option (Nat × Nat) :=
  if 0x13000 ≤ off ∧ off < 0x13C00 then some ((off - 0x13000) / 0x400, (off - 0x13000) % 0x400) else none

/-- CAN_TIMING_WRITE. -/
def execCanTimingWrite (t : Nat) (_m : Master) (off : Nat) (v : Word) (s : State) : Out :=
  let s := s.at t
  .next (match canOff off with
    | some x => s.canTimingWrite x.1 x.2 v
    | none => s)

/-! ## The transmit queue (R427 to R431) -/

/-- CANn_TQSTS follows the queue. -/
def State.canShow (s : State) (n : Nat) : State :=
  let c := s.can1 n
  let s := (s.setFld (F.CAN_TQSTS_COUNT n) c.queue.length).setFlag (F.CAN_TQSTS_REFPEND n) c.refSlot.isSome
  match c.queue with
  | e :: _ => s.setFld (F.CAN_TQSTS_HEAD n) e.serial
  | [] => s

/-- Must a descriptor be refused with DESC_ERR (R428)? -/
def State.descBad (s : State) (n : Nat) (ws : List Word) : Bool :=
  let w0 := ws.getD 0 0
  let w1 := ws.getD 1 0
  let fdf := w1.getLsbD 31
  let brs := w1.getLsbD 30
  let rtr := w1.getLsbD 29
  (!fdf && brs) || (fdf && rtr) || (fdf && !s.flag (F.CAN_CTL_FDEN n)) ||
    (brs && nbtBit (s.word (Reg.CAN_NBT n)) == dbtBit (s.word (Reg.CAN_DBT n))) || getBits w0 29 2 != 0 || getBits w1 0 24 != 0

/-- The result of an attempt to queue a descriptor: 0 queued, 1 queue full, 2 DESC_ERR (R428). -/
def State.canQueue (s : State) (n : Nat) (ws : List Word) : Nat × State :=
  if s.descBad n ws then (2, s.raiseEv (F.CAN_STS_DESC_ERR n))
  else if 16 ≤ (s.can1 n).queue.length then (1, s)
  else (0, (s.modCan n fun c => { c with queue := c.queue ++ [⟨c.nextSerial, ws⟩], nextSerial := (c.nextSerial + 1) % 0x10000 }).canShow n)

/-- A frame is discarded and counted (TXDROP). -/
def State.canDrop (s : State) (n k : Nat) : State :=
  if k = 0 then s else (s.satAdd (F.CAN_TXCNT_TXDROP n) k).raiseEv (F.CAN_STS_TXDROP n)

/-- A write of CANn_TXGO by master ID m: its TXBUF is queued, or TXRES tells the refusal (R428, R432). -/
def State.txgo (s : State) (n m : Nat) (v : Word) : State :=
  if !v.getLsbD 0 then s
  else
    let res := masterKey m (Reg.CAN_TXRES n)
    let set := fun (s : State) (r : Nat) => s.setWord res (setBits (s.word res) 30 2 r)
    if !s.activeRole then set s 3
    else
      let serial := (s.can1 n).nextSerial
      let q := s.canQueue n ((List.range 18).map fun j => s.word (masterKey m (Reg.CAN_TXBUF n j)))
      let s1 := set q.2 q.1
      if q.1 = 0 then s1.setWord res (setBits (s1.word res) 0 16 serial) else s1

/-- TXGO. -/
def execTxgo (t n : Nat) (m : Master) (v : Word) (s : State) : Out :=
  let s := s.at t
  .next (if n < 3 then s.txgo n (masterId m) v else s)

/-- A cancellation by serial number (R431): it succeeds for an entry in the queue whose attempt has not begun; begun tells that the
head's has. -/
def State.canCancel (s : State) (n serial : Nat) (begun : Bool) : Bool × State :=
  let q := (s.can1 n).queue
  let headBegun := begun && (match q with | e :: _ => e.serial == serial | [] => false)
  if q.any (fun e => e.serial == serial) && !headBegun then
    (true, (s.modCan n fun c => { c with queue := c.queue.filter fun e => e.serial != serial }).canShow n)
  else (false, s)

/-- A write of CANn_TXCAN by master ID m. -/
def State.txcan (s : State) (n m : Nat) (v : Word) (begun : Bool) : State :=
  let r := s.canCancel n (getBits v 0 16) begun
  let res := masterKey m (Reg.CAN_TXRES n)
  r.2.setWord res (setBits (r.2.word res) 29 1 (b2n r.1))

/-- TXCAN. -/
def execTxcan (t n : Nat) (m : Master) (v : Word) (begun : Bool) (s : State) : Out :=
  let s := s.at t
  .next (if n < 3 then s.txcan n (masterId m) v begun else s)

/-- Every queue entry and the pending reference message of a unit that leaves the active role are discarded (R433). -/
def State.canLeave (s : State) : State :=
  (List.range 3).foldl (fun s n =>
    ((s.canDrop n ((s.can1 n).queue.length)).modCan n fun c => { c with queue := [], refSlot := none }).canShow n) s

/-! ## Fault confinement (R421, ISO 11898-1) -/

/-- The error counters take new values: CANn_ERR and the held conditions follow. A TEC above 255 is bus-off, counted in the wear ledger. -/
def State.canErr (s : State) (n tec rec_ : Nat) : State :=
  let was := (s.can1 n).busOff
  let off := was || decide (255 < tec)
  let s := s.modCan n fun c => { c with tec := tec, rec_ := rec_, busOff := off, recovering := c.recovering && was }
  let s := ((s.setFld (F.CAN_ERR_TEC n) (min tec 255)).setFld (F.CAN_ERR_REC n) (min rec_ 127)).setFlag (F.CAN_ERR_RP n) (decide (127 < rec_))
  let s := s.setHeld (F.CAN_STS_ERRPASS n) (!off && (decide (127 < tec) || decide (127 < rec_)))
  let s := s.setHeld (F.CAN_STS_BUSOFF n) off
  if off && !was then s.wearAdd 3 (14 + n) 1 else s

/-- Does controller n take part in the bus: enabled, not bus-off, not gated (R434)? -/
def State.canOn (s : State) (n : Nat) : Bool :=
  decide (n < 3) && s.flag (F.CAN_CTL_EN n) && !(s.can1 n).busOff && !(s.fld F.THM_TRIM_CAN).testBit n

/-- May it send: not in listen-only? -/
def State.canSends (s : State) (n : Nat) : Bool := s.canOn n && !s.flag (F.CAN_CTL_LISTEN n)

/-- Is an entry single shot? -/
def CanTx.ss (e : CanTx) : Bool := (e.words.getD 1 0).getLsbD 28

/-- Has an entry FDF 1? -/
def CanTx.fdf (e : CanTx) : Bool := (e.words.getD 1 0).getLsbD 31

/-- CAN_TX_DONE: the head entry is sent; TEC falls by 1, an FD frame under TDCEN shows the measured delay (R423, R430, R438). -/
def execCanTxDone (t n sof tdcv : Nat) (s : State) : Out :=
  let s := s.at t
  .next (match (s.can1 n).queue with
    | e :: q =>
      if !s.canSends n then s
      else
        let s := (s.modCan n fun c => { c with queue := q, txSof := sof, integrating := false }).canShow n
        let s := (s.satAdd (F.CAN_TXCNT_SENT n) 1).canErr n ((s.can1 n).tec - 1) (s.can1 n).rec_
        if e.fdf && s.flag (F.CAN_TDC_TDCEN n) then s.setFld (F.CAN_TDC_TDCV n) tdcv else s
    | [] => s)

/-- CAN_TX_ATTEMPT_FAIL: the head has lost arbitration, or met an error, which raises TEC by 8; a single-shot entry leaves (R430). -/
def execCanTxAttemptFail (t n : Nat) (arb : Bool) (s : State) : Out :=
  let s := s.at t
  .next (match (s.can1 n).queue with
    | e :: q =>
      if !s.canSends n then s
      else
        let s := if e.ss then
            ((s.modCan n fun c => { c with queue := q }).canShow n).satAdd (F.CAN_TXFAIL_FAIL n) 1
          else s
        if arb then s else s.canErr n ((s.can1 n).tec + 8) (s.can1 n).rec_
    | [] => s)

/-- CAN_RX_ERROR: a protocol error during reception raises REC by inc, 1 or 8 as ISO 11898-1 has it. -/
def execCanRxError (t n inc : Nat) (s : State) : Out :=
  let s := s.at t
  .next (if s.canOn n then s.canErr n (s.can1 n).tec ((s.can1 n).rec_ + (if inc = 8 then 8 else 1)) else s)

/-- CAN_PROTOCOL_EXCEPTION: the controller waits for bus integration and counts the event (Table 18-1). -/
def execCanProtocolException (t n : Nat) (s : State) : Out :=
  let s := s.at t
  .next (if s.canOn n then
    ((s.modCan n fun c => { c with integrating := true }).satAdd (F.CAN_ERR_PXECNT n) 1).raiseEv (F.CAN_STS_PXE n)
    else s)

/-- RESTART: bus-off recovery starts when ABOR is 0. -/
def State.canRestart (s : State) (n : Nat) (v : Word) : State :=
  if v.getLsbD 0 && (s.can1 n).busOff && !s.flag (F.CAN_CTL_ABOR n) then s.modCan n fun c => { c with recovering := true } else s

/-- A write of CANn_CTL. -/
def State.canCtlWrite (s : State) (n : Nat) (v : Word) : State :=
  (s.setWord (Reg.CAN_CTL n) (v &&& 0xF8000000#32)).canRestart n v

/-- RESTART. -/
def execRestart (t n : Nat) (_m : Master) (v : Word) (s : State) : Out :=
  let s := s.at t
  .next (if n < 3 then s.canCtlWrite n v else s)

/-- BUS_OFF_RECOVERY: 128 x 11 recessive bits have passed; the counters are 0 and the kept queue resumes (R430). -/
def execBusOffRecovery (t n : Nat) (s : State) : Out :=
  let s := s.at t
  .next (if n < 3 ∧ (s.can1 n).busOff = true ∧ (s.flag (F.CAN_CTL_ABOR n) || (s.can1 n).recovering) = true then
    (s.modCan n fun c => { c with busOff := false, recovering := false }).canErr n 0 0
    else s)

/-! ## Receive objects (R424 to R426) -/

/-- Bit o of a pair of registers. -/
def objFld (r : Nat → Nat) (o : Nat) : Fld := ⟨r (o / 32), o % 32, o % 32⟩

/-- A release of object o: a waiting shadow frame moves forward (R426). -/
def State.canRelease (s : State) (n o : Nat) : State :=
  let c := s.can1 n
  let sh := Tab.get (fun _ => none) c.shadow o
  let s := s.modCan n fun c => { c with
    main := Tab.set (fun _ => none) c.main o sh
    shadow := Tab.set (fun _ => none) c.shadow o none }
  s.setFlag (objFld (Reg.CAN_RXFULL n) o) sh.isSome

/-- RXREL: a write of CANn_RXREL. -/
def execRxrel (t n : Nat) (_m : Master) (v : Word) (s : State) : Out :=
  let s := s.at t
  .next (if n < 3 then s.canRelease n (getBits v 0 6) else s)

/-- Does a frame match an object's filter (R424)? -/
def State.canMatch (s : State) (n : Nat) (f : CanFrame) (o : Nat) : Bool :=
  let fmt := s.fld (F.CAN_FMASK_FMT n o)
  let ids := if f.ide then 0x1FFFFFFF else 0x7FF
  s.flag (F.CAN_FID_EN n o) && (f.ide == s.flag (F.CAN_FID_IDE n o)) &&
    ((f.id ^^^ s.fld (F.CAN_FID_FID n o)) &&& s.fld (F.CAN_FMASK_MASK n o) &&& ids) == 0 &&
    (fmt == 0 || fmt == 3 || (fmt == 1 && !f.fdf) || (fmt == 2 && f.fdf))

/-- A frame is stored in the lowest matching object (R424, R425). -/
def State.canStore (s : State) (n : Nat) (f : CanFrame) : State :=
  match (List.range 64).find? fun o => s.canMatch n f o with
  | none => s
  | some o =>
    let s := s.satAdd (F.CAN_RXCNT_RECVD n) 1
    let c := s.can1 n
    match Tab.get (fun _ => none) c.main o, Tab.get (fun _ => none) c.shadow o with
    | none, _ => (s.modCan n fun c => { c with main := Tab.set (fun _ => none) c.main o (some f) }).setFld (objFld (Reg.CAN_RXFULL n) o) 1
    | some _, none => s.modCan n fun c => { c with shadow := Tab.set (fun _ => none) c.shadow o (some f) }
    | some _, some _ =>
      let s := s.modCan n fun c => { c with shadow := Tab.set (fun _ => none) c.shadow o (some f) }
      ((s.setFld (objFld (Reg.CAN_RXOVR n) o) 1).satAdd (F.CAN_RXCNT_OVRCNT n) 1).raiseEv (F.CAN_STS_RXOVR n)

/-- Bytes of a DLC: 0 to 8, then 12 to 64 in FD frames. -/
def dlcBytes (fdf : Bool) (dlc : Nat) : Nat :=
  if dlc ≤ 8 then dlc else if fdf then [12, 16, 20, 24, 32, 48, 64].getD (dlc - 9) 64 else 8

/-- Word j of the received descriptor of object o (Table 18-2). -/
def State.rxWord (s : State) (n o j : Nat) : Word :=
  match Tab.get (fun _ => none) (s.can1 n).main o with
  | none => 0
  | some f =>
    if j = 0 then nw (b2n f.ide * 0x80000000 + f.id % (if f.ide then 0x20000000 else 0x800))
    else if j = 1 then
      nw (b2n f.fdf * 0x80000000 + b2n f.brs * 0x40000000 + b2n f.rtr * 0x20000000 + b2n f.esi * 0x10000000 + f.dlc % 16 * 0x1000000 +
        o % 64 * 0x10000 + b2n (Tab.get (fun _ => none) (s.can1 n).shadow o).isSome * 0x8000)
    else if j = 2 then nw f.sof
    else if j = 3 then nw (f.sof / 2 ^ 32)
    else if j < 20 then
      let d := if f.rtr then [] else f.data.take (dlcBytes f.fdf f.dlc)
      bytesWord [d.getD (4 * (j - 4)) 0, d.getD (4 * (j - 4) + 1) 0, d.getD (4 * (j - 4) + 2) 0, d.getD (4 * (j - 4) + 3) 0]
    else 0

/-! ## Rate detection (R435) -/

/-- A write of GO: LISTEN is set and candidate 0 is tried, while EN is 1. -/
def State.abGo (s : State) (n : Nat) : State :=
  if !s.flag (F.CAN_CTL_EN n) then s
  else
    let s := s.modCan n fun c => { c with abCand := 0, abAt := s.dial, abOld := if s.flag (F.CAN_ABCTL_BUSY n) then c.abOld else s.word (Reg.CAN_NBT n) }
    ((s.setFld (F.CAN_CTL_LISTEN n) 1).setFld (F.CAN_ABCTL_BUSY n) 1).setFld (F.CAN_ABCTL_FOUND n) 0

/-- A write of STOP: detection ends with FOUND clear, and the NBT in force before GO returns. -/
def State.abStop (s : State) (n : Nat) : State :=
  let s := if s.flag (F.CAN_ABCTL_BUSY n) then s.setWord (Reg.CAN_NBT n) (s.can1 n).abOld else s
  (s.setFld (F.CAN_ABCTL_BUSY n) 0).setFld (F.CAN_ABCTL_FOUND n) 0

/-- A write of CANn_ABCTL: ABDWELL, then STOP, then GO. -/
def State.abctlWrite (s : State) (n : Nat) (v : Word) : State :=
  let s := s.setFld (F.CAN_ABCTL_ABDWELL n) (getBits v 8 8)
  let s := if v.getLsbD 1 then s.abStop n else s
  if v.getLsbD 0 then s.abGo n else s

/-- ABCTL_GO. -/
def execAbctlGo (t n : Nat) (_m : Master) (v : Word) (s : State) : Out :=
  let s := s.at t
  .next (if n < 3 then s.abctlWrite n v else s)

/-- ABCTL_STOP. -/
def execAbctlStop (t n : Nat) (_m : Master) (v : Word) (s : State) : Out :=
  let s := s.at t
  .next (if n < 3 then s.abctlWrite n v else s)

/-- AUTOBAUD_DWELL_END: the candidate's dwell has elapsed, or it met an error; the next one is tried. -/
def execAutobaudDwellEnd (t n : Nat) (err : Bool) (s : State) : Out :=
  let s := s.at t
  let due := decide ((s.can1 n).abAt + 1000000 * max 1 (s.fld (F.CAN_ABCTL_ABDWELL n)) ≤ s.dial)
  .next (if n < 3 ∧ s.flag (F.CAN_ABCTL_BUSY n) = true ∧ (err || due) = true then
    s.modCan n fun c => { c with abCand := (c.abCand + 1) % 8, abAt := s.dial }
    else s)

/-- A candidate is found at the first frame received without error: it becomes the NBT. -/
def State.abFound (s : State) (n : Nat) : State :=
  if s.flag (F.CAN_ABCTL_BUSY n) then
    let c := (s.can1 n).abCand
    (((s.setWord (Reg.CAN_NBT n) (s.word (Reg.CAN_ABCAND n c))).setFld (F.CAN_ABCTL_BUSY n) 0).setFld (F.CAN_ABCTL_FOUND n) 1).setFld
      (F.CAN_ABCTL_INDEX n) c
  else s

/-! ## The time master (R437) -/

/-- A write of CANn_TMCTL: a TMCYC below 100 leaves the register unchanged; TMEN from 0 to 1 starts the count afresh. -/
def State.tmctlWrite (s : State) (n : Nat) (v : Word) : State :=
  if getBits v 0 16 < 100 then s
  else
    let on := v.getLsbD 31 && !s.flag (F.CAN_TMCTL_TMEN n)
    let s := (s.setFld (F.CAN_TMCTL_TMEN n) (getBits v 31 1)).setFld (F.CAN_TMCTL_TMCYC n) (getBits v 0 16)
    if on then s.modCan n fun c => { c with tmFirst := true } else s

/-- The cycle count of the next reference message. -/
def CanSt.nextCycle (c : CanSt) : Nat :=
  if c.tmFirst then (match c.lastRx with | some k => (k + 1) % 64 | none => 0) else (c.cycle + 1) % 64

/-- REFERENCE_CYCLE_START: at a multiple of TMCYC the time master places its message, or counts a skip. -/
def execReferenceCycleStart (t n : Nat) (s : State) : Out :=
  let s := s.at t
  .next (if n < 3 ∧ s.flag (F.CAN_TMCTL_TMEN n) = true ∧ s.activeRole = true ∧ s.dial % (1000 * s.fld (F.CAN_TMCTL_TMCYC n)) = 0 then
    (if (s.can1 n).refSlot.isSome then s.satAdd (F.CAN_TXFAIL_REFSKIP n) 1
     else (s.modCan n fun c => { c with refSlot := some c.nextCycle }).canShow n)
    else s)

/-- Held in reset (R434): queue, objects and error counters cleared; the registers keep their values. -/
def State.canHold (s : State) (n : Nat) : State :=
  let s := s.modCan n fun c => { c with queue := [], refSlot := none, main := [], shadow := [], busOff := false, recovering := false,
                                         integrating := false }
  let s := ((s.setWord (Reg.CAN_RXFULL n 0) 0).setWord (Reg.CAN_RXFULL n 1) 0).canShow n
  s.canErr n 0 0

end Sys2Proof.Machine
end

