-- ==== Sys2Proof/Machine/Flags.lean ====
section
/-! DEFINITION. The flag computations of Almanac's arithmetic (R149, Table 5-4). -/

namespace Sys2Proof.Machine

/-- A result word with its four flags. -/
structure AluOut where
  r : Word
  z : Bool
  n : Bool
  c : Bool
  v : Bool
  deriving DecidableEq, Repr

/-- A result with Z and N from it. -/
def aluOut (r : Word) (c v : Bool) : AluOut := { r := r, z := r == 0, n := r.msb, c := c, v := v }

/-- Does an exact value fit in 32 signed bits? -/
def fits32 (x : Int) : Bool := decide (-2147483648 ≤ x ∧ x ≤ 2147483647)

/-- ADD and ADDI: unsigned carry and signed overflow (R149). -/
def aluAdd (a b : Word) : AluOut := aluOut (a + b) (decide (2 ^ 32 ≤ a.toNat + b.toNat)) (!fits32 (a.toInt + b.toInt))

/-- SUB: unsigned borrow and signed overflow (R149). -/
def aluSub (a b : Word) : AluOut := aluOut (a - b) (decide (a.toNat < b.toNat)) (!fits32 (a.toInt - b.toInt))

/-- A logical result: C and V 0. -/
def aluLogic (r : Word) : AluOut := aluOut r false false

/-- MUL: the low word, V when the signed product does not fit. -/
def aluMul (a b : Word) : AluOut := aluOut (a * b) false (!fits32 (a.toInt * b.toInt))

/-- MULH: the high word of the signed product. -/
def aluMulh (a b : Word) : AluOut := aluLogic (iw (a.toInt * b.toInt / 2 ^ 32))

/-- Signed minimum and maximum. -/
def minS (a b : Word) : Word := if a.slt b then a else b
def maxS (a b : Word) : Word := if a.slt b then b else a

/-- CLAMP: min(max(a, lo), hi), C when it differs from a. -/
def aluClamp (a lo hi : Word) : AluOut :=
  let r := minS (maxS a lo) hi
  aluOut r (decide (r ≠ a)) false

end Sys2Proof.Machine
end

