-- ==== Sys2Proof/Machine/Mbox.lean ====
section
/-! DEFINITION. The host mailboxes and the post ring (16_host_interface.md). -/

namespace Sys2Proof.Machine

/-- FULL flags of the mailboxes. -/
def d2hFull (n : Nat) : Fld := ⟨Reg.HOST_MBXSTS, 4 + n, 4 + n⟩
def h2dFull (n : Nat) : Fld := ⟨Reg.HOST_MBXSTS, n, n⟩

/-- A word is written to D2Hn: stored when it is empty, with D2H_ARRIVED and the MBX cause; ignored with MBX_OVR when FULL (R390). -/
def State.d2hWrite (s : State) (n : Nat) (v : Word) : Bool × State :=
  if s.flag (d2hFull n) then (false, s.hostErr F.HOST_STS_MBX_OVR)
  else
    let s := ((s.setWord (Reg.HOST_D2HMBX n) v).setFld (d2hFull n) 1).setFld ⟨Reg.HOST_MBXSTS, 12 + n, 12 + n⟩ 1
    (true, ({ s with host := { s.host with d2hSince := Tab.set (fun _ => 0) s.host.d2hSince n s.dial } }).irq 1)

/-- The host writes H2Dn. -/
def State.h2dWrite (s : State) (n : Nat) (v : Word) : State :=
  if s.flag (h2dFull n) then s.hostErr F.HOST_STS_MBX_OVR else (s.setWord (Reg.HOST_H2DMBX n) v).setFld (h2dFull n) 1

/-- The device empties H2Dn: FULL clears, H2D_EMPTIED and the MBX cause set; the next word relayed towards H2D3 follows (R412). -/
def State.h2dEmpty (s : State) (n : Nat) : State :=
  if s.flag (h2dFull n) then
    let s := ((s.setFld (h2dFull n) 0).setFld ⟨Reg.HOST_MBXSTS, 8 + n, 8 + n⟩ 1).irq 1
    match s.pilot.relay with
    | w :: ws => if n = 3 then { s with pilot := { s.pilot with relay := ws } }.h2dWrite 3 w else s
    | [] => s
  else s

/-- How many entries a ring holds (R385). -/
def ringHeld (pi ci : Nat) : Nat := (pi + 65536 - ci) % 65536

/-- An Almanac POST: the entry is written and POSTPI advances, or a full ring refuses it (R389). -/
def State.postPut (s : State) (ws : List Word) : Bool × State :=
  let pi := s.fld F.HOST_POSTPI_INDEX
  let held := ringHeld pi (s.fld F.HOST_POSTCI_INDEX)
  if 256 ≤ held then (false, s.satAdd F.HOST_POSTPI_REFUSED 1)
  else
    let s : State := { s with host := { s.host with postRing := Store.putAll zeroWord s.host.postRing (4 * (pi % 256)) ws } }
    let s := s.setFld F.HOST_POSTPI_INDEX ((pi + 1) % 65536)
    (true, if held = 0 then s.irq 3 else s)

end Sys2Proof.Machine
end

