-- ==== Sys2Proof/Machine/Operands.lean ====
section
/-! DEFINITION. The operand forms of Almanac's instructions: immediates, timed offsets and the 40-bit target arithmetic of R156. -/

namespace Sys2Proof.Machine

/-- An 18-bit immediate, sign-extended and zero-extended (R147). -/
def sextImm (imm : Nat) : Word := iw (signed 18 imm)
def zextImm (imm : Nat) : Word := nw (imm % 2 ^ 18)

/-- OFFSET times the unit that SCALE names, in ns. -/
def timedDelta (scale ofs : Nat) : Nat := (ofs % 2 ^ 20) * [1, 16, 1000, 1000000].getD (scale % 4) 1

/-- The nearest 40-bit value to now whose low word is x (R156). -/
def ext40 (x : Word) (now : Nat) : Nat :=
  let v : Int := (now - now % 2 ^ 32 + x.toNat : Nat)
  let d := v - now
  ((if 2 ^ 31 ≤ d then v - 2 ^ 32 else if d < -2 ^ 31 then v + 2 ^ 32 else v) % 2 ^ 40).toNat

/-- The distance from now to a 40-bit target, signed (R67). -/
def dist40 (tgt now : Nat) : Int := signed 40 ((tgt % 2 ^ 40 + 2 ^ 40 - now % 2 ^ 40) % 2 ^ 40)

/-- A target as an instruction's operand fixes it, or the fault it meets (R156). -/
inductive TgtOut where
  | ok (tgt : Nat)
  | tbase
  | range
  deriving DecidableEq, Repr

/-- absolute of R156 for base tb, operand x and delta, with now the base's short time. -/
def absTarget (tb : Nat) (x : Word) (delta now : Nat) : TgtOut :=
  match tb with
  | 0 | 1 => .ok ((ext40 x now + delta) % 2 ^ 40)
  | 2 => if 131071 < delta then .range else .ok (x.toNat % 2 ^ 23 * 2 ^ 17 + delta)
  | 3 | 4 | 5 => if 2 ^ 34 - 1 < delta then .range else .ok (x.toNat % 64 * 2 ^ 34 + delta)
  | _ => .tbase

/-- ATR's new target from LT, operand x and delta (R156). -/
def relTarget (tb ltBase lt : Nat) (x : Word) (delta : Nat) : TgtOut :=
  if 5 < tb ∨ ltBase ≠ tb then .tbase
  else match tb with
    | 0 | 1 => .ok (((lt : Int) + x.toInt + delta) % 2 ^ 40).toNat
    | 2 => if 131071 < delta then .range else .ok ((lt / 2 ^ 17 + x.toNat) % 2 ^ 23 * 2 ^ 17 + delta)
    | _ => if 2 ^ 34 - 1 < delta then .range else .ok ((lt / 2 ^ 34 + x.toNat) % 64 * 2 ^ 34 + delta)

end Sys2Proof.Machine
end

