-- ==== Sys2Proof/Machine/Pmc.lean ====
section
/-! DEFINITION. The performance counters (21_logbook_wear_counters.md). -/

namespace Sys2Proof.Machine

/-- Change the counters' state. -/
def State.modPmc (s : State) (f : PmcSt → PmcSt) : State := { s with pmc := f s.pmc }

/-- Are the counters running? -/
def State.pmcRun (s : State) : Bool := s.flag F.PMC_CTL_RUN

/-- Is an EVENT code assigned to unit u (Table 21-5)? -/
def pmcAssigned (u e : Nat) : Bool :=
  e ≤ 5 || (u == 0 && 0x10 ≤ e && e ≤ 0x14) || (u == 1 && 0x20 ≤ e && e ≤ 0x23) || (u == 2 && 0x30 ≤ e && e ≤ 0x32)

/-- Does counter i of unit u count the overflows of the one below it? -/
def State.pmcChained (s : State) (u i : Nat) : Bool := i != 0 && s.flag (F.PMC_SEL_CHAIN u i)

/-- Counter i of unit u rises by n; each wrap at 2^48 sets its OVF bit and reaches a chained successor (R496). -/
def State.pmcAdd (s : State) (u : Nat) : Nat → Nat → Nat → State
  | 0, _, _ => s
  | fuel + 1, i, n =>
    let v := Tab.get (fun _ => 0) s.pmc.cnt (8 * u + i) + n
    let s := s.modPmc fun p => { p with cnt := Tab.set (fun _ => 0) p.cnt (8 * u + i) (v % 2 ^ 48) }
    if v < 2 ^ 48 then s
    else
      let s := s.setFld ⟨Reg.PMC_OVF, 8 * u + i, 8 * u + i⟩ 1
      if i < 7 ∧ s.pmcChained u (i + 1) = true then s.pmcAdd u fuel (i + 1) (v / 2 ^ 48) else s

/-- n events of a code in unit u, while the counters run. -/
def State.pmcEvent (s : State) (u code n : Nat) : State :=
  if !s.pmcRun || n == 0 then s
  else (List.range 8).foldl (fun s i =>
    if !s.pmcChained u i && s.fld (F.PMC_SEL_EVENT u i) == code then s.pmcAdd u 8 i n else s) s

/-- The slot width of a unit (R493). -/
def State.slotWidth (s : State) (u : Nat) : Nat :=
  if u = 0 then s.fld F.ALM_PIPES_HEALTHY else if u = 1 then s.fld F.SXT_LANES_ACTIVE else 2

/-- Cycles of a unit since the last count: 400 MHz, less what throttling takes from Sextant and Azimuth (R470). -/
def State.pmcCycles (s : State) (u : Nat) : Nat :=
  let c := s.dial * 2 / 5 - s.pmc.mark * 2 / 5
  if u = 0 ∨ s.flag F.THM_STS_THROTTLE_L = false then c
  else if s.flag F.THM_CTL_METHOD then
    let n := max 2 (s.fld F.THM_CTL_N)
    c * (n - 1) / n
  else c / 2

/-- One slot retired or wasted by a step of unit u. -/
def State.pmcRetired (s : State) (u : Nat) : State :=
  s.when s.pmcRun fun s => s.modPmc fun p => { p with ret := Tab.modify (fun _ => 0) p.ret u (· + 1) }
def State.pmcWasted (s : State) (u : Nat) : State :=
  s.when s.pmcRun fun s => s.modPmc fun p => { p with was := Tab.modify (fun _ => 0) p.was u (· + 1) }

/-- The slots of unit u since the last count, in the four categories: Almanac's retired and wasted as its steps counted them, the
rest of each split freely, always summing to the slots (R494). -/
def State.pmcUnit (s : State) (u : Nat) : State :=
  let c := s.pmcCycles u
  let slots := c * s.slotWidth u
  let f1 := s.freshNat
  let f2 := f1.2.freshNat
  let ret := if u = 0 then min slots (Tab.get (fun _ => 0) s.pmc.ret u) else f1.1 % (slots + 1)
  let was := if u = 0 then min (slots - ret) (Tab.get (fun _ => 0) s.pmc.was u) else 0
  let front := f2.1 % (slots - ret - was + 1)
  let s := f2.2.modPmc fun p => { p with cyc := Tab.modify (fun _ => 0) p.cyc u fun v => (v + c) % 2 ^ 64 }
  ((((s.pmcEvent u 1 slots).pmcEvent u 2 ret).pmcEvent u 3 was).pmcEvent u 4 front).pmcEvent u 5 (slots - ret - was - front)

/-- Bring the counters up to the present Dial. -/
def State.pmcSync (s : State) : State :=
  let s := if s.pmcRun then (List.range 3).foldl State.pmcUnit s else s
  s.modPmc fun p => { p with mark := s.dial, ret := [], was := [] }

/-- The eighteen words of unit u's live counters, in the order of their registers. -/
def State.pmcWords (s : State) (u : Nat) : List Word :=
  let two := fun (v : Nat) => [nw v, nw (v / 2 ^ 32)]
  two (Tab.get (fun _ => 0) s.pmc.cyc u) ++ (List.range 8).flatMap fun i => two (Tab.get (fun _ => 0) s.pmc.cnt (8 * u + i))

/-- A counter command: 0 START, 1 STOP, 2 FREEZE, 3 CLEAR (R497). -/
def State.pmcCommand (s : State) (c : Nat) : State :=
  let s := s.pmcSync
  match c with
  | 0 => s.setFld F.PMC_CTL_RUN 1
  | 1 => s.setFld F.PMC_CTL_RUN 0
  | 2 =>
    ((List.range 3).foldl (fun s u => (s.pmcWords u).zipIdx.foldl (fun s (w, j) => s.setWord (Reg.PMC_SNAP u j) w) s) s).setFld
      F.PMC_CTL_SNAPVALID 1
  | _ => ((s.modPmc fun p => { p with cyc := [], cnt := [] }).setWord Reg.PMC_OVF 0).setFld F.PMC_CTL_SNAPVALID 0

/-- SELERR holds while a counter's EVENT is not assigned to its unit (R495). -/
def State.pmcSelCheck (s : State) : State :=
  s.when ((List.range 24).any fun k => !pmcAssigned (k / 8) (s.fld (F.PMC_SEL_EVENT (k / 8) (k % 8)))) fun s => s.setFld F.PMC_CTL_SELERR 1

/-- A write of a counter select. -/
def State.pmcSelWrite (s : State) (u i : Nat) (v : Word) : State :=
  (s.pmcSync.setWord (Reg.PMC_SEL u i) (v &&& 0x800000FF#32)).pmcSelCheck

/-- A write of PMC_CTL. -/
def State.pmcctlWrite (s : State) (v : Word) : State :=
  let s := s.pmcCommand (getBits v 0 2)
  (s.when (v.getLsbD 29) fun s => s.setFld F.PMC_CTL_SELERR 0).pmcSelCheck

/-- PMC_START, PMC_STOP, PMC_FREEZE, PMC_CLEAR: PMC_CTL.CMD 0 to 3. -/
def execPmcStart (t : Nat) (_m : Master) (s : State) : Out := .next ((s.at t).pmcctlWrite 0)
/-- PMC_CTL.CMD 1. -/
def execPmcStop (t : Nat) (_m : Master) (s : State) : Out := .next ((s.at t).pmcctlWrite 1)
/-- PMC_CTL.CMD 2. -/
def execPmcFreeze (t : Nat) (_m : Master) (s : State) : Out := .next ((s.at t).pmcctlWrite 2)
/-- PMC_CTL.CMD 3. -/
def execPmcClear (t : Nat) (_m : Master) (s : State) : Out := .next ((s.at t).pmcctlWrite 3)

end Sys2Proof.Machine
end

