-- ==== Sys2Proof/Machine/Almanac.lean ====
section
/-! DEFINITION. Almanac's watches: registers, faults, targets, launch slots, waits and event flags (05_almanac_isa.md). The instructions stand in AlmExec. -/

namespace Sys2Proof.Machine

/-! ## Watches (R145) -/

def State.watch (s : State) (w : Nat) : Watch := Tab.get (fun _ => Watch.reset) s.alm.watches w
def State.setWatch (s : State) (w : Nat) (x : Watch) : State :=
  { s with alm := { s.alm with watches := Tab.set (fun _ => Watch.reset) s.alm.watches w x } }
def State.updWatch (s : State) (w : Nat) (f : Watch → Watch) : State := s.setWatch w (f (s.watch w))

/-- All watches in order. -/
def allWatches : List Nat := List.range 64

/-- A general register: g0 reads 0. -/
def Watch.reg (x : Watch) (k : Nat) : Word := if k % 16 = 0 then 0 else Tab.get zeroWord x.g (k % 16)

/-- A register write: one to g0 is discarded. -/
def Watch.put (x : Watch) (k : Nat) (v : Word) : Watch :=
  if k % 16 = 0 then x else { x with g := Tab.set zeroWord x.g (k % 16) v }

/-- A register of watch w. -/
def State.greg (s : State) (w k : Nat) : Word := (s.watch w).reg k

/-- The next instruction: PC advances, wrapping. -/
def Watch.step (x : Watch) : Watch := { x with pc := (x.pc + 1) % 2 ^ 16 }

/-- Give gd and all four flags their values and go on. -/
def State.aluPut (s : State) (w d : Nat) (o : AluOut) : State :=
  s.updWatch w fun x => { (x.put d o.r).step with z := o.z, n := o.n, c := o.c, v := o.v }

/-- Give gd its value, flags unchanged, and go on. -/
def State.putGo (s : State) (w d : Nat) (v : Word) : State := s.updWatch w fun x => (x.put d v).step

/-- Give C its value and go on. -/
def State.cGo (s : State) (w : Nat) (c : Bool) : State := s.updWatch w fun x => { x.step with c := c }

/-- Set LATE of a watch with its host-visible bit (R161). -/
def State.setLate (s : State) (w : Nat) : State :=
  ((s.updWatch w fun x => { x with late := true }).setFld ⟨Reg.ALM_LATE (w / 32), w % 32, w % 32⟩ 1).raiseEv F.ALM_STS_LATE

/-- Cancel every pending action of a watch (R160). -/
def State.almCancel (s : State) (w : Nat) : State :=
  let n := (s.watch w).slots.length
  (s.updWatch w fun x => { x with slots := [] }).setWord Reg.ALM_CANCNT (nw (min 0xFFFFFFFF ((s.word Reg.ALM_CANCNT).toNat + n)))

/-- KILL: HALTED, wait cleared, actions cancelled (R146, R173). -/
def State.almKill (s : State) (w : Nat) : State := (s.almCancel w).updWatch w fun x => { x with st := .halted, wait := none }

/-- A fault: FAULTED at the faulting word, wait and actions cancelled, recorded (R176). -/
def State.almFault (s : State) (w code : Nat) : State :=
  let pc := (s.watch w).pc
  let s := (s.almCancel w).updWatch w fun x => { x with st := .faulted, wait := none, fcode := code }
  let s := ((s.setFld F.ALM_FAULT_FCODE code).setFld F.ALM_FAULT_WATCH w).setFld F.ALM_FAULT_PC pc
  ((s.raiseEv F.ALM_STS_FAULT).logEvent 0x0501 2 (nw w) [nw pc, nw code]).pmcWasted 0

/-! ## The end of a FAB cycle (R160, R173) -/

/-- The present FAB cycle. -/
def State.fab (s : State) : Nat := fabCycle s.dial

/-- The watches killed in the present FAB cycle. -/
def State.dyingNow (s : State) : List Dying := s.alm.dying.filter fun e => e.cyc == s.fab

/-- A KILL acts at the end of its FAB cycle: the watch as it stood is kept until then. -/
def State.almKillEnd (s : State) (w : Nat) : State :=
  if s.dyingNow.any fun e => e.w == w then s
  else
    let x := s.watch w
    let d : Dying := { w := w, cyc := s.fab, was := x, n := x.slots.length }
    let s := s.almKill w
    { s with alm := { s.alm with dying := d :: s.dyingNow } }

/-- A watch killed in the present FAB cycle as it stands until the end of the cycle, its actions not yet cancelled. -/
def State.undie (s : State) (d : Dying) : State :=
  let s := (s.setWatch d.w d.was).setWord Reg.ALM_CANCNT (nw ((s.word Reg.ALM_CANCNT).toNat - d.n))
  { s with alm := { s.alm with dying := s.alm.dying.filter fun e => e != d } }

/-- Undo the KILL of a watch where it is one of the present cycle: whether it was, and the state. -/
def State.revive (s : State) (w : Nat) : Bool × State :=
  match s.dyingNow.find? fun d => d.w == w with
  | some d => (true, s.undie d)
  | none => (false, s)

/-! ## Issue (R174, R177, R182) -/

def State.gate (s : State) (w : Nat) : Gate := Tab.get (fun _ => Gate.reset) s.alm.gates w
def State.modGate (s : State) (w : Nat) (f : Gate → Gate) : State :=
  { s with alm := { s.alm with gates := Tab.modify (fun _ => Gate.reset) s.alm.gates w f } }

/-- A watch may issue from a FAB cycle so many ahead. -/
def State.openGate (s : State) (w ahead : Nat) : State := s.modGate w fun g => { g with from_ := s.fab + ahead }

/-- The issues of the present FAB cycle. -/
def State.issuedNow (s : State) : List (Nat × Nat × Nat) := if s.alm.cyc = s.fab then s.alm.issued else []

/-- The watch a priority's round starts at: the one after the last of it to issue in an earlier cycle. -/
def State.roundAt (s : State) (p : Nat) : Nat :=
  let old := Tab.get (fun _ => 0) s.alm.round p
  if s.alm.cyc = s.fab then old
  else ((s.alm.issued.filter fun e => e.2.1 == p).foldl (fun (b : Nat × Nat) e => if b.2 ≤ e.2.2 then (e.1 + 1, e.2.2) else b) (old, 0)).1

/-- The place of a watch in the order of issue, lower first: descending priority, then the round of its priority. -/
def State.issueRank (s : State) (w : Nat) : Nat :=
  let p := (s.watch w).pri % 4
  64 * (3 - p) + (w + 64 - s.roundAt p % 64) % 64

/-- Is a watch READY and not held back by its own issue, wake or start? -/
def State.ready (s : State) (w : Nat) : Bool := (s.watch w).st == WatchState.ready && decide ((s.gate w).from_ ≤ s.fab)

/-- Does a watch give way in this cycle: it has issued YIELD in the one before, and another of its priority is ready (R174)? -/
def State.yields (s : State) (w : Nat) : Bool :=
  (s.gate w).yield == some s.fab && allWatches.any fun v => v != w && s.ready v && (s.watch v).pri % 4 == (s.watch w).pri % 4

/-- Watches that certainly issue before w in this cycle: ready, with no result outstanding, of lower rank. -/
def State.ahead (s : State) (w : Nat) : List Nat :=
  allWatches.filter fun v => v != w && s.ready v && decide ((s.gate v).sure ≤ s.fab) && !s.yields v
    && !(s.issuedNow.any fun e => e.1 == v) && decide (s.issueRank v < s.issueRank w)

/-- May watch w issue: READY in the active role, once in a FAB cycle, not giving way, with a healthy pipe left by the issues of this
cycle and by the watches that come first (R177, R182)? -/
def State.issues (s : State) (w : Nat) : Bool :=
  decide (w < 64) && s.ready w && s.activeRole && !s.yields w &&
    decide (s.issuedNow.length + (s.ahead w).length < s.fld F.ALM_PIPES_HEALTHY)

/-- The program-memory word at a watch's PC. -/
def State.fetched (s : State) (w : Nat) : Word := Tab.get zeroWord s.alm.pmem (s.watch w).pc

/-- Watch w has issued in this FAB cycle. -/
def State.issueMark (s : State) (w : Nat) : State :=
  let e := (w, (s.watch w).pri % 4, s.issueRank w)
  let round := (List.range 4).foldl (fun m p => Tab.set (fun _ => 0) m p (s.roundAt p)) s.alm.round
  let s : State := { s with alm := { s.alm with round := round, issued := s.issuedNow ++ [e], cyc := s.fab } }
  s.modGate w fun g => { g with from_ := s.fab + 1, sure := s.fab + 64 }

/-- Issue an instruction of watch w: f acts when the word at its PC is the instruction's; a retired instruction is counted. A watch
killed in this cycle still issues in it, and is halted then (R173). -/
def State.issue (s : State) (w : Nat) (x : Option Word) (f : State → State) : State :=
  let r := s.revive w
  if r.2.issues w && x == some (r.2.fetched w) then
    let s' := f (r.2.issueMark w)
    let s' := if (s'.watch w).st == WatchState.faulted then s' else s'.pmcRetired 0
    s'.when r.1 fun s => s.almKillEnd w
  else s

/-- The watch issues a word that faults with a code, when p finds it so. -/
def State.issueBad (s : State) (w code : Nat) (p : State → Bool) : State :=
  let r := s.revive w
  if r.2.issues w && p r.2 then ((r.2.issueMark w).almFault w code).when r.1 fun s => s.almKillEnd w else s

/-! ## Targets (R59, R61, R67) -/

/-- Is the carrier running? -/
def State.carrierRun (s : State) : Bool := s.flag F.TIME_PTPSTS_CARRIER_RUN

/-- The short time of a base (Table 2-1). DESIGN CHOICE (log entry 98): before the first reference message of a bus, the ns of its bus
time count from Dial 0. -/
def State.shortTime (s : State) (tb : Nat) : Nat :=
  match tb with
  | 0 => s.dialShort
  | 1 => s.merNs % 2 ^ 40
  | 2 => (s.word Reg.TIME_CARRIER).toNat % 2 ^ 23 * 2 ^ 17 + min 0x1FFFF (s.dial - s.time.valleyAt)
  | _ =>
    let c := s.can1 (tb - 3)
    c.cycle % 64 * 2 ^ 34 + min (2 ^ 34 - 1) (s.dial - c.refSof.getD 0)

/-- What a target is at the instant it is looked at: passed, due at a distance in ns of its base, or naming a valley or a cycle still
to come. -/
inductive TgtState where
  | passed
  | dist (d : Int)
  | ahead
  deriving DecidableEq, Repr

/-- The state of a target of base tb that has not been converted (R59, R61, R67). DESIGN CHOICE (log entry 98): before the first
reference message of a bus the current cycle count is 0, and a target that names it waits for a reference. -/
def State.tgtState (s : State) (tb tgt : Nat) : TgtState :=
  let inst := fun (a : Nat) => if a < s.dial then TgtState.passed else .dist ((a : Int) - s.dial)
  match tb with
  | 0 | 1 => let d := dist40 tgt (s.shortTime tb); if d < 0 then .passed else .dist d
  | 2 =>
    let d := signed 23 ((tgt / 2 ^ 17 + 2 ^ 23 - (s.word Reg.TIME_CARRIER).toNat % 2 ^ 23) % 2 ^ 23)
    if !s.carrierRun || d < 0 then .passed
    else if d = 0 then inst (s.time.valleyAt + tgt % 2 ^ 17) else .ahead
  | _ =>
    let c := s.can1 (tb - 3)
    let d := signed 6 ((tgt / 2 ^ 34 + 64 - c.cycle % 64) % 64)
    if d < 0 then .passed
    else match c.refSof with
      | some a => if d = 0 then inst (a + tgt % 2 ^ 34) else .ahead
      | none => .ahead

/-- The Dial instant a target is converted to when it is armed: that of a Carrier or bus target whose reference has come. -/
def State.tgtConv (s : State) (tb tgt : Nat) : Option Nat :=
  if tb < 2 then none
  else match s.tgtState tb tgt with
    | .dist d => some (s.dial + d.toNat)
    | _ => none

/-- How far a pending target lies from now in ns, none for a Carrier or bus target still to be converted. -/
def State.tgtDist (s : State) (tb tgt : Nat) (at_ : Option Nat) : Option Int :=
  if tb < 2 then some (dist40 tgt (s.shortTime tb)) else at_.map fun a => (a : Int) - s.dial

/-- The Dial instant at which Meridian, at the rate applied now, reaches a Meridian short-time target (R166). -/
def State.merToDial (s : State) (tgt : Nat) : Int :=
  let goal : Int := ((s.merNs : Int) + dist40 tgt (s.merNs % 2 ^ 40)) * 2 ^ 40
  let rate : Int := 2 ^ 40 + (s.word Reg.TIME_RATE).toInt + s.time.slew
  (s.dial : Int) + (goal - s.time.mer + rate - 1) / rate

/-! ## Waits (R162, R163, R547) -/

/-- A wait has met its end; the watch becomes READY at WAITEV_WAKE. -/
def State.meet (s : State) (w : Nat) (m : Met) : State :=
  s.updWatch w fun x => match x.wait with
    | some y => if y.met.isSome then x else { x with wait := some { y with met := some m } }
    | none => x

/-- Does a wait await an event that p selects by class and argument? An EPOCH, SNAPCLOSE or BUSREF of the cycle of arming counts as
before it (R163). -/
def State.awaits (s : State) (y : Wait) (p : Nat → Nat → Bool) : Bool :=
  match y.what with
  | .event _ cls arg _ => y.met.isNone && p cls arg && (!(cls == 2 || cls == 3 || cls == 6) || y.armed != s.fab + 1)
  | _ => false

/-- Does a watch wait for an event that p selects? -/
def State.waits (s : State) (w : Nat) (p : Nat → Nat → Bool) : Bool :=
  match (s.watch w).wait with
  | some y => s.awaits y p
  | none => false

/-- Has LT's target ended a wait for such an event in the present FAB cycle? -/
def State.justEnded (s : State) (w : Nat) (p : Nat → Nat → Bool) : Bool :=
  match (s.gate w).ended with
  | some (c, y) => c == s.fab && s.awaits y p
  | none => false

/-- Does an event that p selects reach a watch? -/
def State.hears (s : State) (w : Nat) (p : Nat → Nat → Bool) : Bool := s.waits w p || s.justEnded w p

/-- An event reaches a watch: its wait is met, or the event wins over the target that has ended it in the same cycle (R163). -/
def State.tell (s : State) (w : Nat) (p : Nat → Nat → Bool) (m : Met) : State :=
  if s.waits w p then s.meet w m
  else match (s.gate w).ended with
    | some (_, { what := .event rd _ _ _, .. }) =>
      s.updWatch w fun x => { (match m.gd with | some v => x.put rd v | none => x) with c := m.c }
    | _ => s

/-- An event ends every wait for it. -/
def State.meetAll (s : State) (p : Nat → Nat → Bool) (m : Met) : State :=
  allWatches.foldl (fun s w => if s.hears w p then s.tell w p m else s) s

/-- End a WAITEV now: gd, C and LATE as given; the watch goes on from the next FAB cycle. -/
def State.wakeGo (s : State) (w rd : Nat) (m : Met) : State :=
  let s := (s.openGate w 1).updWatch w fun x =>
    let y := match m.gd with | some v => x.put rd v | none => x
    { y with st := .ready, wait := none, c := m.c }
  s.when m.late fun s => s.setLate w

/-- The slots of a watch have changed: a WAITEV LAUNCHED ends when none is left. -/
def State.slotsChanged (s : State) (w : Nat) : State :=
  let p := fun (c _ : Nat) => c == 1
  if (s.watch w).slots.isEmpty && s.hears w p then s.tell w p ⟨none, false, false⟩ else s

/-! ## Event flags (R163, R186) -/

/-- An event flag. -/
def evFld (f : Nat) : Fld := ⟨Reg.ALM_EVSTS (f / 32), f % 32, f % 32⟩

/-- Has an event flag woken a watch in the present FAB cycle? It is set until the end of that cycle (R163). -/
def State.evWokeNow (s : State) (f : Nat) : Bool := Tab.get (fun _ => 0) s.alm.evWoke f == s.fab + 1

/-- An event flag has woken a watch: it clears at the end of the cycle. -/
def State.evUse (s : State) (f : Nat) : State :=
  let s : State := { s with alm := { s.alm with evWoke := Tab.set (fun _ => 0) s.alm.evWoke f (s.fab + 1) } }
  s.setFld (evFld f) 0

/-- Set an event flag: every watch that waits on it wakes and it clears; with none waiting it stays set. -/
def State.evSet (s : State) (f : Nat) : State :=
  let s : State := { s with alm := { s.alm with evAt := Tab.set (fun _ => 0) s.alm.evAt f (s.fab + 1) } }
  let p := fun (c a : Nat) => c == 5 && a == f
  if allWatches.any fun w => s.hears w p then (s.meetAll p ⟨some (nw f), false, false⟩).evUse f
  else if s.evWokeNow f then s
  else s.setFld (evFld f) 1

/-- Clear an event flag: a set in the same cycle wins. -/
def State.evClear (s : State) (f : Nat) : State :=
  if Tab.get (fun _ => 0) s.alm.evAt f = s.fab + 1 then s else s.setFld (evFld f) 0

/-! ## Actions (R159, R164, R165) -/

/-- An action takes effect; the Bool tells that its destination accepted it. A BAL refused by BAL_CTL.EN sets REJ and never C (R261). -/
def State.act (s : State) (w : Nat) : Act → Bool × State
  | .bal sel ga => (true, s.balLaunch sel ga)
  | .excStart p ga => (true, s.excStart p ga)
  | .excStop => (true, s.excStop)
  | .setp sel v =>
    if sel = 2 ∧ 2 < v.toNat then (false, s.raiseEv F.HLM_STS_CLASS_REJ) else (true, s.spWrite sel v true)
  | .trig sel v =>
    if sel < 256 then (true, s.evSet (sel % 64)) else if sel < 512 then (true, s.evClear (sel % 64))
    else (true, s.logEvent 0x0502 0 (nw w) [v])
  | .can n ws => let r := s.canQueue n ws; (r.1 == 0, r.2)
  | .pmc c => (true, s.pmcCommand c)

/-- A timed action launches; a CAN descriptor that finds its queue full or is refused is counted (R168, R428). -/
def State.launch (s : State) (w : Nat) (a : Act) (late : Bool) : State :=
  let s := s.when late fun s => (s.setLate w).pmcEvent 0 0x13 1
  let r := s.act w a
  match a with
  | .can n _ => if r.1 then r.2 else r.2.canDrop n 1
  | _ => r.2

/-- Take a pending action out of its slot and launch it. -/
def State.launchSlot (s : State) (w : Nat) (a : Armed) (late : Bool) : State :=
  ((s.updWatch w fun x => { x with slots := x.slots.filter fun b => b.order != a.order }).launch w a.act late).slotsChanged w

/-- Pending actions that p selects, with their watches, in the order of R159: due instant, watch, arming. -/
def State.pendingBy (s : State) (p : Armed → Option Int) : List (Nat × Armed × Int) :=
  let all := allWatches.flatMap fun w => (s.watch w).slots.filterMap fun a => (p a).map fun d => (w, a, d)
  all.mergeSort fun x y =>
    decide (x.2.2 < y.2.2) || (x.2.2 == y.2.2 && (decide (x.1 < y.1) || (x.1 == y.1 && decide (x.2.1.order ≤ y.2.1.order))))

/-- TIMED_ACTION_LAUNCH: every slot whose target is reached launches in order; LATE where the target lies further back than the
launch accuracy of R68 or had passed when its reference came. The actions of a watch killed in the same FAB cycle have launched before
it (R160). -/
def execTimedActionLaunch (t : Nat) (s : State) : Out :=
  let s := s.at t
  let dead := s.dyingNow
  let s := dead.foldl State.undie s
  let due := s.pendingBy fun a => match s.tgtDist a.base a.tgt a.at_ with
    | some d => if d ≤ 0 then some d else none
    | none => none
  let crowd := due.any fun x => decide (8 < (due.filter fun y => y.2.2 == x.2.2).length)
  let s := due.foldl (fun s x => s.launchSlot x.1 x.2.1 (decide (x.2.2 < -5) || x.2.1.late)) s
  let s := dead.foldl (fun s d => s.almKillEnd d.w) s
  .next (s.when crowd fun s => s.raiseEv F.ALM_STS_LAUNCH_CROWD)

/-- The pending targets of a base are lost or passed: each action launches late in order of target, watch, arming, and each wait on
that base's LT ends (R57, R60, R62, R547). p selects among them by target and conversion. -/
def State.loseTargets (s : State) (p : Nat → Nat → Option Nat → Option Int) : State :=
  let due := s.pendingBy fun a => p a.base a.tgt a.at_
  let s := due.foldl (fun s x => s.launchSlot x.1 x.2.1 true) s
  allWatches.foldl (fun s w =>
    let x := s.watch w
    match x.wait with
    | some y => match y.what with
      | .event _ cls _ tmo =>
        if (cls = 0 ∨ tmo = true) ∧ (p x.ltBase x.lt y.at_).isSome then
          if cls = 0 then s.meet w ⟨some (nw (y.at_.getD s.dial)), false, true⟩ else s.meet w ⟨none, true, true⟩
        else s
      | _ => s
    | none => s) s

/-- The reference of a base's targets has come at a Dial instant: those that name it are converted (R59, R61), and one that lies before
the present is late (R61, R547). -/
def State.convert (s : State) (base : Nat) (hit : Nat → Option Nat) : State :=
  let late := fun (tgt : Nat) => (hit tgt).any fun a => decide (a < s.dial)
  allWatches.foldl (fun s w => s.updWatch w fun x =>
    { x with
      slots := x.slots.map fun a => if a.base = base ∧ a.at_ = none then { a with at_ := hit a.tgt, late := late a.tgt } else a
      wait := x.wait.map fun y => if x.ltBase = base ∧ y.at_ = none then { y with at_ := hit x.lt, late := late x.lt } else y }) s

/-- Issue a timed action: at once with T 0, or into a free launch slot; with both slots full the watch waits (R157, R158). A target
passed at arming launches at once with LATE. -/
def State.timed (s : State) (w : Nat) (tm : Bool) (a : Act) : State :=
  if !tm then
    let r := s.act w a
    r.2.cGo w (!r.1)
  else
    let x := s.watch w
    if 2 ≤ x.slots.length then s.setWatch w { x with st := .waiting, wait := some (Wait.plain .slot) }
    else
      let s := s.pmcEvent 0 0x12 1
      match s.tgtState x.ltBase x.lt with
      | .passed => (s.launch w a true).cGo w false
      | _ =>
        let arm : Armed := { base := x.ltBase, tgt := x.lt, at_ := s.tgtConv x.ltBase x.lt, act := a, order := s.alm.order, late := false }
        let s : State := { s with alm := { s.alm with order := s.alm.order + 1 } }
        (s.updWatch w fun x => { x with slots := x.slots ++ [arm] }).cGo w false

/-! ## Program loads and starts (R179 to R181) -/

/-- CRC-32C over the first PMLEN words of program memory. -/
def State.pmCrc (s : State) : Word :=
  crc32c (wordsBytes (Store.getAll zeroWord s.alm.pmem 0 (min 65536 (s.fld F.ALM_PMLEN_LEN))))

/-- A program load. -/
def State.almLoad (s : State) : State :=
  let s := allWatches.foldl State.almKill s
  let s := s.freeLocks 3
  let s := ((s.setWord (Reg.ALM_EVSTS 0) 0).setWord (Reg.ALM_EVSTS 1) 0).setFld F.ALM_CTL_RUN 0
  { s with alm := { s.alm with pmem := [] } }

/-- A program start. -/
def State.almStart (s : State) : State :=
  if s.flag F.ALM_CTL_RUN ∨ s.pmCrc ≠ s.word Reg.ALM_PMEXP then s.raiseEv F.ALM_STS_START_REJ
  else
    ((s.setFld F.ALM_CTL_RUN 1).openGate 0 1).updWatch 0 fun x =>
      { Watch.reset with
        st := .ready, pc := s.fld F.ALM_START_PC, pri := s.fld F.ALM_START_PRI, ltBase := 0, lt := s.dialShort, slots := x.slots
        tlatch := x.tlatch }

/-- A write of ALM_CTL: LOAD and START together load and refuse the start. -/
def State.almctlWrite (s : State) (v : Word) : State :=
  if v.getLsbD 0 then
    let s := s.almLoad
    if v.getLsbD 1 then s.raiseEv F.ALM_STS_START_REJ else s
  else if v.getLsbD 1 then s.almStart else s

/-- PROGRAM_LOAD: a write of ALM_CTL with LOAD 1. -/
def execProgramLoad (t : Nat) (_m : Master) (v : Word) (s : State) : Out := .next ((s.at t).almctlWrite v)
/-- PROGRAM_START: a write of ALM_CTL with START 1. -/
def execProgramStart (t : Nat) (_m : Master) (v : Word) (s : State) : Out := .next ((s.at t).almctlWrite v)

/-- A write of program memory by its word index: ignored with PM_WPROT while RUN is 1 (R180). -/
def State.pmWrite (s : State) (idx : Nat) (v : Word) : State :=
  if s.flag F.ALM_CTL_RUN then s.raiseEv F.ALM_STS_PM_WPROT
  else { s with alm := { s.alm with pmem := Tab.set zeroWord s.alm.pmem idx v } }

/-- The program memory word a window index shows (R180). -/
def State.pmIndex (s : State) (idx : Nat) : Nat := 32768 * s.fld F.ALM_PMPAGE_PAGE + idx % 32768

/-- PROGRAM_MEMORY_WRITE. -/
def execProgramMemoryWrite (t : Nat) (_m : Master) (idx : Nat) (v : Word) (s : State) : Out :=
  let s := s.at t
  .next (s.pmWrite (s.pmIndex idx) v)

/-- A data memory word by its index, and a write of it. -/
def State.dmRead (s : State) (idx : Nat) : Word := Tab.get zeroWord s.alm.dmem idx
def State.dmWrite (s : State) (idx : Nat) (v : Word) : State :=
  { s with alm := { s.alm with dmem := Tab.set zeroWord s.alm.dmem idx v } }

/-- The word a master's read returns, kept as the model's output. -/
def State.answer (s : State) (m : Nat) (v : Word) : State := { s with lastRead := Tab.set zeroWord s.lastRead m v }

/-- The accesses to one word in the order of their service: the word after them, and what each load among them returns (R152). -/
def accRun : Word → List MemAcc → Word × List (MemAcc × Word)
  | v, [] => (v, [])
  | v, a :: l => match a.st with
    | some x => accRun x l
    | none => let r := accRun v l; (r.1, (a, v) :: r.2)

/-- The accesses of the present FAB cycle, in the order of their service. -/
def State.accsNow (s : State) : List MemAcc := if s.alm.accCyc = s.fab then s.alm.accs else []

/-- An access to data memory: those of one FAB cycle are served in ascending order of watch, the host after every watch (R152, R153).
An access given after one that is served later in its cycle is put before it, and what that one returned follows. -/
def State.dmAccess (s : State) (a : MemAcc) : State :=
  let old := s.accsNow
  let base := if s.alm.accCyc = s.fab then s.alm.accBase else []
  let b := ((base.find? fun e => e.1 == a.idx).map (·.2)).getD (s.dmRead a.idx)
  let accs := (old.filter fun e => decide (e.who ≤ a.who)) ++ a :: old.filter fun e => decide (a.who < e.who)
  let r := accRun b (accs.filter fun e => e.idx == a.idx)
  let alm : AlmSt := { s.alm with
    accCyc := s.fab, accs := accs, accBase := (a.idx, b) :: base.filter fun e => e.1 != a.idx
    dmem := Tab.set zeroWord s.alm.dmem a.idx r.1 }
  (r.2.filter fun e => decide (a.who ≤ e.1.who)).foldl (fun s e => if e.1.who = 64 then s.answer e.1.rd e.2 else s.updWatch e.1.who fun x => x.put e.1.rd e.2) { s with alm := alm }

/-- DATA_MEMORY_ACCESS: a host word access through the window (R153). -/
def execDataMemoryAccess (t : Nat) (m : Master) (wr : Bool) (idx : Nat) (v : Word) (s : State) : Out :=
  let s := s.at t
  .next (s.dmAccess { idx := idx % 32768, who := 64, st := if wr then some v else none, rd := masterId m })

/-- A write of an ALM_EVSET or ALM_EVCLR register (R186). -/
def State.evRegWrite (s : State) (off : Nat) (v : Word) : State :=
  let go := fun (base : Nat) (f : State → Nat → State) => (onesBelow 32 v.toNat).foldl (fun s b => f s (base + b)) s
  if off = Reg.ALM_EVSET 0 then go 0 State.evSet else if off = Reg.ALM_EVSET 1 then go 32 State.evSet
  else if off = Reg.ALM_EVCLR 0 then go 0 State.evClear else if off = Reg.ALM_EVCLR 1 then go 32 State.evClear
  else s

/-- EVFLAG_HOST_WRITE. -/
def execEvflagHostWrite (t : Nat) (_m : Master) (off : Nat) (v : Word) (s : State) : Out := .next ((s.at t).evRegWrite off v)

/-- The word ALM_WATCHn shows. -/
def State.watchWord (s : State) (w : Nat) : Word :=
  let x := s.watch w
  let st := match x.st with | .halted => 0 | .ready => 1 | .waiting => 2 | .faulted => 3
  nw (0x40000000 * st + 0x10000000 * (x.pri % 4) + 0x8000000 * b2n x.late + 0x1000000 * (x.fcode % 8) + 0x400000 * min 2 x.slots.length + x.pc % 65536)

end Sys2Proof.Machine
end

