-- ==== Sys2Proof/Machine/AlmExec.lean ====
section
/-! DEFINITION. The Almanac instructions, one definition each (05_almanac_isa.md). Every one acts only where the word at its watch's PC is its own (State.issue). -/

namespace Sys2Proof.Machine

/-! ## Arithmetic (R148, R149) -/

/-- A register-format operation of two operands: gd takes f ga gb with its flags. -/
def State.alu2 (s : State) (w d a b : Nat) (f : Word → Word → AluOut) : State := s.aluPut w d (f (s.greg w a) (s.greg w b))

/-- ADD: gd ← ga + gb. -/
def execAlmAdd (t w d a b : Nat) (s : State) : Out :=
  let s := s.at t
  .next (s.issue w (almEncode (.almAdd t w d a b)) fun s => s.alu2 w d a b aluAdd)

/-- SUB: gd ← ga - gb; C is the unsigned borrow. -/
def execAlmSub (t w d a b : Nat) (s : State) : Out :=
  let s := s.at t
  .next (s.issue w (almEncode (.almSub t w d a b)) fun s => s.alu2 w d a b aluSub)

/-- AND. -/
def execAlmAnd (t w d a b : Nat) (s : State) : Out :=
  let s := s.at t
  .next (s.issue w (almEncode (.almAnd t w d a b)) fun s => s.alu2 w d a b fun a b => aluLogic (a &&& b))

/-- OR. -/
def execAlmOr (t w d a b : Nat) (s : State) : Out :=
  let s := s.at t
  .next (s.issue w (almEncode (.almOr t w d a b)) fun s => s.alu2 w d a b fun a b => aluLogic (a ||| b))

/-- XOR. -/
def execAlmXor (t w d a b : Nat) (s : State) : Out :=
  let s := s.at t
  .next (s.issue w (almEncode (.almXor t w d a b)) fun s => s.alu2 w d a b fun a b => aluLogic (a ^^^ b))

/-- SLL: left shift by gb[4:0]. -/
def execAlmSll (t w d a b : Nat) (s : State) : Out :=
  let s := s.at t
  .next (s.issue w (almEncode (.almSll t w d a b)) fun s => s.alu2 w d a b fun a b => aluLogic (a <<< (b.toNat % 32)))

/-- SRL: logical right shift by gb[4:0]. -/
def execAlmSrl (t w d a b : Nat) (s : State) : Out :=
  let s := s.at t
  .next (s.issue w (almEncode (.almSrl t w d a b)) fun s => s.alu2 w d a b fun a b => aluLogic (a >>> (b.toNat % 32)))

/-- SRA: arithmetic right shift by gb[4:0]. -/
def execAlmSra (t w d a b : Nat) (s : State) : Out :=
  let s := s.at t
  .next (s.issue w (almEncode (.almSra t w d a b)) fun s => s.alu2 w d a b fun a b => aluLogic (a.sshiftRight (b.toNat % 32)))

/-- MUL: low 32 bits of the signed product. -/
def execAlmMul (t w d a b : Nat) (s : State) : Out :=
  let s := s.at t
  .next (s.issue w (almEncode (.almMul t w d a b)) fun s => s.alu2 w d a b aluMul)

/-- MULH: high 32 bits of the signed product. -/
def execAlmMulh (t w d a b : Nat) (s : State) : Out :=
  let s := s.at t
  .next (s.issue w (almEncode (.almMulh t w d a b)) fun s => s.alu2 w d a b aluMulh)

/-- MIN, signed. -/
def execAlmMin (t w d a b : Nat) (s : State) : Out :=
  let s := s.at t
  .next (s.issue w (almEncode (.almMin t w d a b)) fun s => s.alu2 w d a b fun a b => aluLogic (minS a b))

/-- MAX, signed. -/
def execAlmMax (t w d a b : Nat) (s : State) : Out :=
  let s := s.at t
  .next (s.issue w (almEncode (.almMax t w d a b)) fun s => s.alu2 w d a b fun a b => aluLogic (maxS a b))

/-- CLAMP: gd ← min(max(ga, gb), gc), signed; C when it differs from ga. -/
def execAlmClamp (t w d a b c : Nat) (s : State) : Out :=
  let s := s.at t
  .next (s.issue w (almEncode (.almClamp t w d a b c)) fun s => s.aluPut w d (aluClamp (s.greg w a) (s.greg w b) (s.greg w c)))

/-- ADDI: gd ← ga + sext(IMM). -/
def execAlmAddi (t w d a imm : Nat) (s : State) : Out :=
  let s := s.at t
  .next (s.issue w (almEncode (.almAddi t w d a imm)) fun s => s.aluPut w d (aluAdd (s.greg w a) (sextImm imm)))

/-- ANDI, zero-extended. -/
def execAlmAndi (t w d a imm : Nat) (s : State) : Out :=
  let s := s.at t
  .next (s.issue w (almEncode (.almAndi t w d a imm)) fun s => s.aluPut w d (aluLogic (s.greg w a &&& zextImm imm)))

/-- ORI, zero-extended. -/
def execAlmOri (t w d a imm : Nat) (s : State) : Out :=
  let s := s.at t
  .next (s.issue w (almEncode (.almOri t w d a imm)) fun s => s.aluPut w d (aluLogic (s.greg w a ||| zextImm imm)))

/-- SLLI. -/
def execAlmSlli (t w d a sh : Nat) (s : State) : Out :=
  let s := s.at t
  .next (s.issue w (almEncode (.almSlli t w d a sh)) fun s => s.aluPut w d (aluLogic (s.greg w a <<< (sh % 32))))

/-- SRLI. -/
def execAlmSrli (t w d a sh : Nat) (s : State) : Out :=
  let s := s.at t
  .next (s.issue w (almEncode (.almSrli t w d a sh)) fun s => s.aluPut w d (aluLogic (s.greg w a >>> (sh % 32))))

/-- SRAI. -/
def execAlmSrai (t w d a sh : Nat) (s : State) : Out :=
  let s := s.at t
  .next (s.issue w (almEncode (.almSrai t w d a sh)) fun s => s.aluPut w d (aluLogic ((s.greg w a).sshiftRight (sh % 32))))

/-- LUI: gd ← IMM * 2^14, flags unchanged. -/
def execAlmLui (t w d imm : Nat) (s : State) : Out :=
  let s := s.at t
  .next (s.issue w (almEncode (.almLui t w d imm)) fun s => s.putGo w d (zextImm imm <<< 14))

/-! ## Memory (R151, R154) -/

/-- Is a byte address one that LDW and STW accept (R151)? -/
def dmemOk (a : Word) : Bool := a.toNat % 4 == 0 && decide (a.toNat ≤ 0x1FFFF)

/-- LDW: gd ← the data word at ga + sext(IMM), or a DMEM fault. -/
def execAlmLdw (t w d a imm : Nat) (s : State) : Out :=
  let s := s.at t
  .next (s.issue w (almEncode (.almLdw t w d a imm)) fun s => 
    let a := s.greg w a + sextImm imm
    if dmemOk a then (s.dmAccess { idx := a.toNat / 4, who := w, st := none, rd := d }).updWatch w Watch.step else s.almFault w 4)

/-- STW: the data word at ga + sext(IMM) ← gd, or a DMEM fault. -/
def execAlmStw (t w d a imm : Nat) (s : State) : Out :=
  let s := s.at t
  .next (s.issue w (almEncode (.almStw t w d a imm)) fun s => 
    let a := s.greg w a + sextImm imm
    if dmemOk a then
      (s.dmAccess { idx := a.toNat / 4, who := w, st := some (s.greg w d), rd := 0 }).updWatch w Watch.step
    else s.almFault w 4)

/-- LDS: gd ← a word of the front window, or an SMEM fault (R154). -/
def execAlmLds (t w d a imm : Nat) (s : State) : Out :=
  let s := s.at t
  .next (s.issue w (almEncode (.almLds t w d a imm)) fun s => 
    let s := s.pmcEvent 0 0x10 1
    let a := (s.greg w a + sextImm imm).toNat
    if a % 4 = 0 ∧ inSpace a = true then s.putGo w d (s.spaceRead (s.awaitOf .almanac) (a / 4)) else s.almFault w 5)

/-- RDT: a part of a time base, TLATCH, a count, or LATE (R155). -/
def execAlmRdt (t w d part tb : Nat) (s : State) : Out :=
  let s := s.at t
  .next (s.issue w (almEncode (.almRdt t w d part tb)) fun s => 
    match part % 4 with
    | 0 =>
      if 6 ≤ tb % 8 then s.almFault w 2
      else
        let v := s.shortTime (tb % 8)
        (s.updWatch w fun x => { x with tlatch := v / 2 ^ 32 % 256 }).putGo w d (nw v)
    | 1 => s.putGo w d (nw (s.watch w).tlatch)
    | 2 =>
      match tb % 8 with
      | 0 | 1 => s.almFault w 1
      | 2 => s.putGo w d (s.word Reg.TIME_CARRIER)
      | 3 | 4 | 5 => s.putGo w d (nw ((s.can1 (tb % 8 - 3)).cycle % 64))
      | _ => s.almFault w 2
    | _ =>
      let v := nw (b2n (s.watch w).late)
      (s.updWatch w fun x => { x with late := false }).putGo w d v)

/-! ## Branches (R148, R150) -/

/-- Go to a word index, or on. -/
def State.branch (s : State) (w : Nat) (b : Bool) (tgt : Nat) : State :=
  if b then (s.updWatch w fun x => { x with pc := tgt % 2 ^ 16 }).pmcEvent 0 0x14 1 else s.updWatch w Watch.step

/-- BEQ: branch if equal. -/
def execAlmBeq (t w a b tgt : Nat) (s : State) : Out :=
  let s := s.at t
  .next (s.issue w (almEncode (.almBeq t w a b tgt)) fun s => s.branch w (s.greg w a == s.greg w b) tgt)

/-- BNE: branch if not equal. -/
def execAlmBne (t w a b tgt : Nat) (s : State) : Out :=
  let s := s.at t
  .next (s.issue w (almEncode (.almBne t w a b tgt)) fun s => s.branch w (s.greg w a != s.greg w b) tgt)

/-- BLT: branch if less than, signed. -/
def execAlmBlt (t w a b tgt : Nat) (s : State) : Out :=
  let s := s.at t
  .next (s.issue w (almEncode (.almBlt t w a b tgt)) fun s => s.branch w ((s.greg w a).slt (s.greg w b)) tgt)

/-- BGE: branch if greater or equal, signed. -/
def execAlmBge (t w a b tgt : Nat) (s : State) : Out :=
  let s := s.at t
  .next (s.issue w (almEncode (.almBge t w a b tgt)) fun s => s.branch w (!(s.greg w a).slt (s.greg w b)) tgt)

/-- BLTU: branch if less than, unsigned. -/
def execAlmBltu (t w a b tgt : Nat) (s : State) : Out :=
  let s := s.at t
  .next (s.issue w (almEncode (.almBltu t w a b tgt)) fun s => s.branch w ((s.greg w a).ult (s.greg w b)) tgt)

/-- BGEU: branch if greater or equal, unsigned. -/
def execAlmBgeu (t w a b tgt : Nat) (s : State) : Out :=
  let s := s.at t
  .next (s.issue w (almEncode (.almBgeu t w a b tgt)) fun s => s.branch w (!(s.greg w a).ult (s.greg w b)) tgt)

/-- The flag a branch selects: 0 Z, 1 N, 2 C, 3 V. -/
def Watch.flag (x : Watch) (f : Nat) : Bool :=
  match f % 4 with | 0 => x.z | 1 => x.n | 2 => x.c | _ => x.v

/-- BFS: branch if the selected flag is set. -/
def execAlmBfs (t w f tgt : Nat) (s : State) : Out :=
  let s := s.at t
  .next (s.issue w (almEncode (.almBfs t w f tgt)) fun s => s.branch w ((s.watch w).flag f) tgt)

/-- BFC: branch if the selected flag is clear. -/
def execAlmBfc (t w f tgt : Nat) (s : State) : Out :=
  let s := s.at t
  .next (s.issue w (almEncode (.almBfc t w f tgt)) fun s => s.branch w (!(s.watch w).flag f) tgt)

/-- JAL: save the return index and jump. -/
def execAlmJal (t w d tgt : Nat) (s : State) : Out :=
  let s := s.at t
  .next (s.issue w (almEncode (.almJal t w d tgt)) fun s => (s.updWatch w fun x => x.put d (nw ((x.pc + 1) % 2 ^ 16))).branch w true tgt)

/-- JR: jump to ga[15:0]. -/
def execAlmJr (t w a : Nat) (s : State) : Out :=
  let s := s.at t
  .next (s.issue w (almEncode (.almJr t w a)) fun s => s.branch w true (s.greg w a).toNat)

/-! ## Time (R156) -/

/-- LT takes a target, or the watch faults. -/
def State.ltPut (s : State) (w tb : Nat) (o : TgtOut) : State :=
  match o with
  | .ok v => s.updWatch w fun x => { x.step with ltBase := tb, lt := v }
  | .tbase => s.almFault w 2
  | .range => s.almFault w 3

/-- AT: LT ← an absolute target. -/
def execAlmAt (t w tb b scale ofs : Nat) (s : State) : Out :=
  let s := s.at t
  .next (s.issue w (almEncode (.almAt t w tb b scale ofs)) fun s => 
    s.ltPut w (tb % 8) (absTarget (tb % 8) (s.greg w b) (timedDelta scale ofs) (s.shortTime (tb % 8))))

/-- ATR: LT advances from its previous target. -/
def execAlmAtr (t w tb b scale ofs : Nat) (s : State) : Out :=
  let s := s.at t
  .next (s.issue w (almEncode (.almAtr t w tb b scale ofs)) fun s => 
    s.ltPut w (tb % 8) (relTarget (tb % 8) (s.watch w).ltBase (s.watch w).lt (s.greg w b) (timedDelta scale ofs)))

/-- TCMP: Z when the target is reached exactly now, N when it has passed; C and V 0. -/
def execAlmTcmp (t w tb b scale ofs : Nat) (s : State) : Out :=
  let s := s.at t
  .next (s.issue w (almEncode (.almTcmp t w tb b scale ofs)) fun s => 
    match absTarget (tb % 8) (s.greg w b) (timedDelta scale ofs) (s.shortTime (tb % 8)) with
    | .ok v =>
      let r := s.tgtState (tb % 8) v
      s.updWatch w fun x => { x.step with z := r == TgtState.dist 0, n := r == TgtState.passed, c := false, v := false }
    | .tbase => s.almFault w 2
    | .range => s.almFault w 3)

/-! ## Messaging (R169 to R171) -/

/-- POST: an entry of four words to the post ring, or refused with C 1 (R169). -/
def execAlmPost (t w sel a b : Nat) (s : State) : Out :=
  let s := s.at t
  .next (s.issue w (almEncode (.almPost t w sel a b)) fun s => 
    let r := s.postPut [nw (65536 * w + sel % 1024), s.greg w a, s.greg w b, nw s.dialShort]
    r.2.cGo w (!r.1))

/-- RING: a device-to-host doorbell; those of Pilot are refused (R170). -/
def execAlmRing (t w n : Nat) (s : State) : Out :=
  let s := s.at t
  .next (s.issue w (almEncode (.almRing t w n)) fun s => 
    if n % 32 < 24 then (s.doorbell (n % 32)).cGo w false else s.cGo w true)

/-- MBX send: ga into D2H3 when it is empty (R171). -/
def execAlmMbxSend (t w a : Nat) (s : State) : Out :=
  let s := s.at t
  .next (s.issue w (almEncode (.almMbxSend t w a)) fun s => 
    if s.flag (d2hFull 3) then s.cGo w true else (s.d2hWrite 3 (s.greg w a)).2.cGo w false)

/-- MBX receive: gd ← the word of a FULL H2D3, which empties (R171). -/
def execAlmMbxReceive (t w d : Nat) (s : State) : Out :=
  let s := s.at t
  .next (s.issue w (almEncode (.almMbxReceive t w d)) fun s => 
    if s.flag (h2dFull 3) then
      let v := s.word (Reg.HOST_H2DMBX 3)
      ((s.h2dEmpty 3).updWatch w fun x => x.put d v).cGo w false
    else s.cGo w true)

/-! ## Waiting (R162, R163, R547) -/

/-- The Dial instant that a passed target names, or the present one. -/
def State.passedAt (s : State) (tb tgt : Nat) : Nat :=
  match tb with
  | 0 => tgt
  | 2 => if s.carrierRun && tgt / 2 ^ 17 == (s.word Reg.TIME_CARRIER).toNat % 2 ^ 23 then s.time.valleyAt + tgt % 2 ^ 17 else s.dial
  | 3 | 4 | 5 =>
    let c := s.can1 (tb - 3)
    match c.refSof with
    | some a => if tgt / 2 ^ 34 = c.cycle % 64 then a + tgt % 2 ^ 34 else s.dial
    | none => s.dial
  | _ => s.dial

/-- An event that has already occurred at arming ends the wait at once. -/
def State.waitNow (s : State) (w cls arg : Nat) : Option Met :=
  let x := s.watch w
  match cls with
  | 0 => match s.tgtState x.ltBase x.lt with
    | .passed => some ⟨some (nw (s.passedAt x.ltBase x.lt)), false, true⟩
    | .dist d => if d = 0 then some ⟨some (nw s.dial), false, false⟩ else none
    | .ahead => none
  | 1 => if x.slots.isEmpty then some ⟨none, false, false⟩ else none
  | 4 => if s.carrierRun then none else some ⟨none, true, false⟩
  | 5 => if s.flag (evFld (arg % 64)) || s.evWokeNow (arg % 64) then some ⟨some (nw (arg % 64)), false, false⟩ else none
  | _ => none

/-- TMO at arming: LT's target reached or passed ends the wait with C 1. -/
def State.tmoNow (s : State) (w : Nat) : Option Met :=
  let x := s.watch w
  match s.tgtState x.ltBase x.lt with
  | .passed => some ⟨none, true, true⟩
  | .dist d => if d = 0 then some ⟨none, true, false⟩ else none
  | .ahead => none

/-- WAITEV: WAITING until the event of Table 5-5, or no wait at all where it has occurred. -/
def execAlmWaitev (t w d : Nat) (tmo : Bool) (cls arg : Nat) (s : State) : Out :=
  let s := s.at t
  .next (s.issue w (almEncode (.almWaitev t w d tmo cls arg)) fun s => 
    let s := s.updWatch w Watch.step
    match s.waitNow w cls arg with
    | some m => (s.when (cls == 5) fun s => s.evUse (arg % 64)).wakeGo w d m
    | none =>
      match (if tmo then s.tmoNow w else none) with
      | some m => s.wakeGo w d m
      | none =>
        s.updWatch w fun x => { x with
          st := .waiting
          wait := some { what := .event d cls arg tmo, left := arg + 1, at_ := s.tgtConv x.ltBase x.lt, met := none,
                         armed := s.fab + 1, late := false } })

/-- WAITEV_WAKE: the awaited event has occurred, or LT's target is reached by a TIME wait or a TMO; the watch becomes READY. A target that
had passed when its reference came sets LATE (R547). -/
def execAlmWaitevWake (t w : Nat) (s : State) : Out :=
  let s := s.at t
  let x := s.watch w
  .next (match x.wait with
    | some y =>
      match y.what with
      | .event rd cls _ tmo =>
        match y.met with
        | some m => s.wakeGo w rd m
        | none =>
          if cls = 0 ∨ tmo = true then
            match s.tgtDist x.ltBase x.lt y.at_ with
            | some d =>
              if 0 < d then s
              else if cls = 0 then s.wakeGo w rd ⟨some (iw (if x.ltBase = 1 then (s.dial : Int) else s.dial + d)), false, y.late⟩
              else (s.modGate w fun g => { g with ended := some (s.fab, y) }).wakeGo w rd ⟨none, true, y.late⟩
            | none => s
          else s
      | _ => s
    | none => s)

/-- SLOT_WAIT_RELEASE: a slot has emptied, and the watch issues its timed action again (R158). -/
def execAlmSlotWaitRelease (t w : Nat) (s : State) : Out :=
  let s := s.at t
  let x := s.watch w
  .next (if (x.wait.map fun y => y.what) = some .slot ∧ x.slots.length < 2 then
    (s.openGate w 1).setWatch w { x with st := .ready, wait := none }
    else s)

/-- FENCE_RELEASE: the fenced watch's writes have been accepted (R174). -/
def execAlmFenceRelease (t w : Nat) (s : State) : Out :=
  let s := s.at t
  let x := s.watch w
  .next (if (x.wait.map fun y => y.what) = some .fence then (s.openGate w 1).setWatch w { x with st := .ready, wait := none } else s)

/-! ## Threads (R172 to R174) -/

/-- The SPAWN of the present FAB cycle that has set up a watch. -/
def State.spawnNow (s : State) (k : Nat) : Option Spawned := s.alm.spawned.find? fun e => e.w == k && e.cyc == s.fab

/-- Watch w's SPAWN sets up watch k, which stood as old, and makes it READY from the second FAB cycle on (R172, Table 5-9). -/
def State.spawnGo (s : State) (w k : Nat) (old : Watch) (pc pri : Nat) (g1 : Word) : State :=
  let me := s.watch w
  let alm : AlmSt := { s.alm with spawned := { w := k, by_ := w, cyc := s.fab, was := old } :: s.alm.spawned.filter fun e => e.w != k && e.cyc == s.fab }
  let s : State := { s with alm := alm }
  let s := s.modGate k fun g => { g with from_ := s.fab + 2, sure := s.fab + 2 }
  (s.setWatch k ({ Watch.reset with
    st := .ready, pc := pc, pri := pri, ltBase := me.ltBase, lt := me.lt, slots := old.slots, tlatch := old.tlatch }.put 1 g1)).cGo w false

/-- SPAWN: start a HALTED watch, or C 1 (R172). Of two in one FAB cycle that of the lower watch succeeds, and none beside a KILL of the
watch in that cycle (R173). -/
def execAlmSpawn (t w a b tgt : Nat) (s : State) : Out :=
  let s := s.at t
  .next (s.issue w (almEncode (.almSpawn t w a b tgt)) fun s => 
    let ga := (s.greg w a).toNat
    let k := ga % 64
    let go := fun (s : State) (old : Watch) => s.spawnGo w k old (tgt % 2 ^ 16) (ga / 256 % 4) (s.greg w b)
    if s.dyingNow.any fun d => d.w == k then s.cGo w true
    else match s.spawnNow k with
      | some e => if w < e.by_ then go (s.updWatch e.by_ fun x => { x with c := true }) e.was else s.cGo w true
      | none => if (s.watch k).st == WatchState.halted then go s (s.watch k) else s.cGo w true)

/-- KILL: watch ga[5:0] is HALTED at the end of the cycle, its actions and wait cancelled; C 0. A SPAWN of it in this cycle has not
happened and gives its spawner C 1 (R173). -/
def execAlmKill (t w a : Nat) (s : State) : Out :=
  let s := s.at t
  .next (s.issue w (almEncode (.almKill t w a)) fun s => 
    let k := (s.greg w a).toNat % 64
    let s := s.cGo w false
    let s := match s.spawnNow k with
      | some e =>
        let s := (s.setWatch k e.was).updWatch e.by_ fun x => { x with c := true }
        { s with alm := { s.alm with spawned := s.alm.spawned.filter fun x => x != e } }
      | none => s
    s.almKillEnd k)

/-- YIELD: the watch gives way in the next FAB cycle (R174). -/
def execAlmYield (t w : Nat) (s : State) : Out :=
  let s := s.at t
  .next (s.issue w (almEncode (.almYield t w)) fun s =>
    (s.modGate w fun g => { g with yield := some (s.fab + 1) }).updWatch w Watch.step)

/-- HALT: the watch stops and keeps its launch slots (R146). -/
def execAlmHalt (t w : Nat) (s : State) : Out :=
  let s := s.at t
  .next (s.issue w (almEncode (.almHalt t w)) fun s => s.updWatch w fun x => { x.step with st := .halted })

/-- FENCE: WAITING while an earlier write of the watch has not been accepted (R174). -/
def execAlmFence (t w : Nat) (busy : Bool) (s : State) : Out :=
  let s := s.at t
  .next (s.issue w (almEncode (.almFence t w busy)) fun s => 
    s.updWatch w fun x => if busy then { x.step with st := .waiting, wait := some (Wait.plain .fence) } else x.step)

/-! ## Command ports (R167, R168) -/

/-- STC LOCK acquire: gd ← the SYS_LOCKn read value, C = BUSY. -/
def execAlmStcLockAcquire (t w d n : Nat) (s : State) : Out :=
  let s := s.at t
  .next (s.issue w (almEncode (.almStcLockAcquire t w d n)) fun s => 
    let r := s.lockRead 3 (n % 16)
    (r.2.updWatch w fun x => x.put d r.1).cGo w r.1.msb)

/-- STC LOCK release: C 1 when refused. -/
def execAlmStcLockRelease (t w n : Nat) (s : State) : Out :=
  let s := s.at t
  .next (s.issue w (almEncode (.almStcLockRelease t w n)) fun s => 
    (s.lockFree 3 (n % 16)).cGo w (s.lockOwner (n % 16) != 3))

/-- STC AWAIT: SYS_AWAIT2 ← ga. -/
def execAlmStcAwait (t w a : Nat) (s : State) : Out :=
  let s := s.at t
  .next (s.issue w (almEncode (.almStcAwait t w a)) fun s => (s.setWord (Reg.SYS_AWAIT 2) (s.greg w a)).cGo w false)

/-- STC CAN: copy a transmit descriptor from data memory and queue it now or at LT (R168, R429). -/
def execAlmStcCan (t w : Nat) (tm : Bool) (n a : Nat) (s : State) : Out :=
  let s := s.at t
  .next (s.issue w (almEncode (.almStcCan t w tm n a)) fun s => 
    let g := (s.greg w a).toNat
    if g % 4 = 0 ∧ g + 68 ≤ 0x1FFFC then s.timed w tm (.can (n % 3) ((List.range 18).map fun j => s.dmRead (g / 4 + j))) else s.almFault w 4)

/-- STC PMC: a counter command, now or at LT (R497). -/
def execAlmStcPmc (t w : Nat) (tm : Bool) (c : Nat) (s : State) : Out :=
  let s := s.at t
  .next (s.issue w (almEncode (.almStcPmc t w tm c)) fun s => s.timed w tm (.pmc (c % 4)))

/-! ## Actions (R165, R166) -/

/-- A SNAP at a Dial instant: gd takes the sequence number or all ones; a lead shorter than required sets LATE (R161, R166). -/
def State.snapAt (s : State) (w d : Nat) (target : Int) : State :=
  let lead := target - s.dial
  let q := s.acq.nextSeq
  let r := s.acqSnap target.toNat
  if r.1 then
    let s := (r.2.updWatch w fun x => x.put d (nw q)).cGo w false
    s.when (decide (lead < (if s.ovs then 3774000 else 24000))) fun s => s.setLate w
  else (r.2.updWatch w fun x => x.put d 0xFFFFFFFF).cGo w true

/-- SNAP: Acquisition launches a snapshot with the target taken from LT; a base other than Dial or Meridian faults TBASE. -/
def execSnap (t w d : Nat) (s : State) : Out :=
  let s := s.at t
  .next (s.issue w (almEncode (.snap t w d)) fun s =>
    let x := s.watch w
    match x.ltBase with
    | 0 => s.snapAt w d ((s.dial : Int) + dist40 x.lt s.dialShort)
    | 1 => s.snapAt w d (s.merToDial x.lt)
    | _ => s.almFault w 2)

/-- BAL with SEL 0: stop all balancing at the launch (R261). -/
def execAlmBalStop (t w : Nat) (tm : Bool) (s : State) : Out :=
  let s := s.at t
  .next (s.issue w (almEncode (.almBalStop t w tm)) fun s => s.timed w tm (.bal 0 0))

/-- BAL with SEL 1 to 3: start a phase at the launch + 200 µs (R261). -/
def execAlmBalPhaseStart (t w : Nat) (tm : Bool) (sel a : Nat) (s : State) : Out :=
  let s := s.at t
  .next (s.issue w (almEncode (.almBalPhaseStart t w tm sel a)) fun s => s.timed w tm (.bal (sel % 4) (s.greg w a).toNat))

/-- EXC start: an excitation window with a tone plan (R242, R244). -/
def execAlmExcStart (t w : Nat) (tm : Bool) (plan a : Nat) (s : State) : Out :=
  let s := s.at t
  .next (s.issue w (almEncode (.almExcStart t w tm plan a)) fun s => s.timed w tm (.excStart (plan % 16) (s.greg w a).toNat))

/-- EXC stop: the running window ends (R244). -/
def execAlmExcStop (t w : Nat) (tm : Bool) (plan : Nat) (s : State) : Out :=
  let s := s.at t
  .next (s.issue w (almEncode (.almExcStop t w tm plan)) fun s => s.timed w tm .excStop)

/-- SETP 0: the HOST current set-point (R302). -/
def execAlmSetpHosti (t w : Nat) (tm : Bool) (a : Nat) (s : State) : Out :=
  let s := s.at t
  .next (s.issue w (almEncode (.almSetpHosti t w tm a)) fun s => s.timed w tm (.setp 0 (s.greg w a)))

/-- SETP 1: the HOST string-voltage set-point (R302). -/
def execAlmSetpHostv (t w : Nat) (tm : Bool) (a : Nat) (s : State) : Out :=
  let s := s.at t
  .next (s.issue w (almEncode (.almSetpHostv t w tm a)) fun s => s.timed w tm (.setp 1 (s.greg w a)))

/-- SETP 2: the set-point class (R302). -/
def execAlmSetpClass (t w : Nat) (tm : Bool) (a : Nat) (s : State) : Out :=
  let s := s.at t
  .next (s.issue w (almEncode (.almSetpClass t w tm a)) fun s => s.timed w tm (.setp 2 (s.greg w a)))

/-- TRIG set: a watch event flag (R163). -/
def execAlmTrigSet (t w : Nat) (tm : Bool) (f : Nat) (s : State) : Out :=
  let s := s.at t
  .next (s.issue w (almEncode (.almTrigSet t w tm f)) fun s => s.timed w tm (.trig (f % 64) 0))

/-- TRIG clear: a watch event flag. -/
def execAlmTrigClear (t w : Nat) (tm : Bool) (f : Nat) (s : State) : Out :=
  let s := s.at t
  .next (s.issue w (almEncode (.almTrigClear t w tm f)) fun s => s.timed w tm (.trig (256 + f % 64) 0))

/-- TRIG mark: Logbook record ALM_MARK with ga and the watch number. -/
def execAlmTrigMark (t w : Nat) (tm : Bool) (a : Nat) (s : State) : Out :=
  let s := s.at t
  .next (s.issue w (almEncode (.almTrigMark t w tm a)) fun s => s.timed w tm (.trig 512 (s.greg w a)))

/-! ## Faults (R148, R175) -/

/-- ILLEGAL_INSTRUCTION: the word at the watch's PC is unassigned or has a non-zero unused field. -/
def execIllegalInstruction (t w : Nat) (s : State) : Out :=
  let s := s.at t
  .next (s.issueBad w 1 fun s => (almDecode t w (s.fetched w)).isNone)

/-- ECC_FAULT: an uncorrectable ECC error in the word the watch fetches or loads. -/
def execEccFault (t w : Nat) (s : State) : Out :=
  let s := s.at t
  .next (s.issueBad w 6 fun _ => true)

end Sys2Proof.Machine
end

