-- ==== Sys2Proof/Machine/Log.lean ====
section
/-! DEFINITION. The Logbook writer and the wear ledger (21_logbook_wear_counters.md). -/

namespace Sys2Proof.Machine

/-- Change the Logbook's state, the ledger's state. -/
def State.modLog (s : State) (f : LogSt → LogSt) : State := { s with log := f s.log }
def State.modWear (s : State) (f : WearSt → WearSt) : State := { s with wear := f s.wear }

/-! ## Records (R479, R481) -/

/-- The record held under an INDEX, if it is held. -/
def State.logRec (s : State) (idx : Nat) : Option LogRec :=
  match Tab.get (fun _ => none) s.log.recs (idx % 65536) with
  | some r => if r.index = idx then some r else none
  | none => none

/-- The words of a record before its CRC (Table 21-1). -/
def LogRec.body (r : LogRec) : List Word :=
  [nw r.index, nw (65536 * (r.ev.code % 65536) + 16384 * (r.ev.sev % 4) + 8192 * b2n r.ev.calv + 4096 * b2n r.repsat), nw r.ev.cal,
    nw (65536 * (r.rept % 65536) + r.ev.cal / 2 ^ 32 % 65536), nw r.ev.dial, nw (r.ev.dial / 2 ^ 32), nw r.lastDlt, r.ev.epoch, r.ev.inst]
    ++ (List.range 6).map fun i => r.ev.payload.getD i 0

/-- The sixteen words of a record, the CRC over words 0 to 14 last. -/
def LogRec.words (r : LogRec) : List Word :=
  if r.torn then (List.range 16).map (Config.tornWord r.index) else r.body ++ [crc32c (wordsBytes r.body)]

/-- The record words an INDEX reads: 16 words of 0 where it is not held (R485). -/
def State.logWords (s : State) (idx : Nat) : List Word :=
  match s.logRec idx with
  | some r => r.words
  | none => List.replicate 16 0

/-- The INDEX after one (R481). -/
def nextIndex (i : Nat) : Nat := if i = 0xFFFFFFFF then 1 else i + 1

/-- How many records are held: NEWEST one below OLDEST is empty. -/
def State.logHeld (s : State) : Nat :=
  if nextIndex s.log.newest = s.log.oldest then 0
  else if s.log.oldest ≤ s.log.newest then s.log.newest - s.log.oldest + 1 else s.log.newest + 0xFFFFFFFF - s.log.oldest + 1

/-- Write a new record (R481, R484): a full ring overwrites its oldest and sets WRAPPED. -/
def State.logNew (s : State) (e : LogEv) : State :=
  let idx := nextIndex s.log.newest
  let full := decide (65536 ≤ s.logHeld)
  let r : LogRec := { index := idx, ev := e, repsat := false, rept := 0, lastDlt := 0, lastAt := e.dial, thisStart := true, torn := false }
  let s := s.modLog fun l => { l with
    recs := Tab.set (fun _ => none) l.recs (idx % 65536) (some r), newest := idx, oldest := if full then nextIndex l.oldest else l.oldest }
  let s := (s.wearAdd 0 3 1).wearAdd 4 2 1
  s.when full fun s => s.raiseEv F.LOG_STS_WRAPPED

/-- Is an event a repeat of the newest record (R482)? -/
def State.repeats (s : State) (e : LogEv) : Option LogRec :=
  match s.logRec s.log.newest with
  | some r =>
    if s.logHeld ≠ 0 ∧ r.ev.code = e.code ∧ r.ev.inst = e.inst ∧ r.thisStart = true ∧
        e.dial ≤ r.lastAt + 1000000000 * s.fld F.LOG_WINDOW_SEC then some r
    else none
  | none => none

/-- An event is recorded, or merged into the newest record. -/
def State.logWrite (s : State) (e : LogEv) : State :=
  match s.repeats e with
  | some r =>
    let r := { r with
      rept := min 0xFFFF (r.rept + 1), repsat := r.repsat || r.rept == 0xFFFF, lastAt := e.dial,
      lastDlt := min 0xFFFFFFFF ((e.dial - r.ev.dial) / 1000000) }
    (s.modLog fun l => { l with recs := Tab.set (fun _ => none) l.recs (r.index % 65536) (some r) }).wearAdd 4 2 1
  | none => s.logNew e

/-- Of the queued events that reached the writer with the first, the one of the lowest CODE (R483). -/
def firstEvent : List LogEv → Option LogEv
  | [] => none
  | e :: es => some (es.foldl (fun b x => if x.dial = e.dial ∧ x.code < b.code then x else b) e)

/-- Record the events still queued, oldest first. -/
def State.logDrain (s : State) : Nat → State
  | 0 => s
  | n + 1 =>
    match firstEvent s.log.queue with
    | some e => ((s.modLog fun l => { l with queue := l.queue.erase e }).logWrite e).logDrain n
    | none => s

/-- LOG_EVENT: the writer records the next queued event; at the free entry the loss since the last LOG_OVERFLOW is recorded (R482,
R483). The writer pauses while a journal save runs. -/
def execLogEvent (t : Nat) (s : State) : Out :=
  let s := s.at t
  .next (if s.flag F.SXT_LRNSTS_SAVING then s
    else
      let s := s.logDrain 1
      if s.log.lost ≠ 0 ∧ s.log.queue.length < 64 then
        (s.modLog fun l => { l with lost := 0 }).logEvent 0x1104 1 0 [nw s.log.lost]
      else s)

/-- A write of LOG_RDIDX by master ID m: the record is copied to the master's buffer (R485). -/
def State.rdidxWrite (s : State) (m : Nat) (v : Word) : State :=
  ((s.logWords v.toNat).zipIdx.foldl (fun s (w, i) => s.setWord (masterKey m (Reg.LOG_RDATA i)) w) s).setWord (masterKey m Reg.LOG_RDIDX) v

/-- LOG_RDIDX_WRITE. -/
def execLogRdidxWrite (t : Nat) (m : Master) (v : Word) (s : State) : Out := .next ((s.at t).rdidxWrite (masterId m) v)

/-! ## The wear ledger (R488 to R490, R492) -/

/-- Spare rows or sectors of a memory: 32 in an SRAM, 64 in the MRAM. -/
def spareRows (m : Nat) : Nat := if m = 6 then 64 else 32

/-- Ledger SEQ: that of the newest copy. -/
def State.ledgerSeq (s : State) : Nat := max s.wear.seqA s.wear.seqB

/-- What COMMISSION_SPARE has recorded of unit item i of section 1: 0 nothing, 1 commissioned, 2 retired. -/
def State.unitMark (s : State) (i : Nat) : Nat := getBits (nw (s.wearGet 1 i)) 30 2

/-- Does a cooling output take board channel ch as its source? -/
def State.channelUsed (s : State) (ch : Nat) : Bool :=
  (List.range 4).any fun k => s.fld (F.DSP_COOLCFG_SRC k) == 3 && s.fld (F.DSP_COOLCFG_BCH k) == ch

/-- Is unit item i of section 1 in service: a regular lane, pipe or core, a leg in MAP, a referenced channel, or a commissioned spare? -/
def State.unitIn (s : State) (i : Nat) : Bool :=
  s.unitMark i != 2 &&
    (if 28 ≤ i ∧ i < 36 then (s.fld F.HLM_LEGS_MAP).testBit (i - 28)
     else if 36 ≤ i then s.unitMark i == 1 || s.channelUsed (i - 36)
     else s.unitMark i == 1 || !(i == 16 || i == 17 || i == 22 || i == 27))

/-- The state of a unit (Table 21-3): 0 in service, 1 spare, 2 retired. -/
def State.unitState (s : State) (i : Nat) : Nat := if s.unitMark i = 2 then 2 else if s.unitIn i then 0 else 1

/-- A failed self-test, or a broken episode of a channel, is counted, saturating at 255. -/
def State.unitFault (s : State) (i : Nat) : State :=
  let v := nw (s.wearGet 1 i)
  s.modWear fun w => { w with live := Tab.set (fun _ => 0) w.live (65536 + i) (setBits v 16 8 (min 255 (getBits v 16 8 + 1))).toNat }

/-- Record a unit as commissioned (1) or retired (2). -/
def State.unitSet (s : State) (i m : Nat) : State :=
  s.modWear fun w => { w with live := Tab.set (fun _ => 0) w.live (65536 + i) (setBits (nw (s.wearGet 1 i)) 30 2 m).toNat }

/-- An item as WEAR_READ and WEAR_DATA give it (Table 21-3): beyond a section's end 0. -/
def State.wearItem (s : State) (sec item : Nat) : Word :=
  let n := [4, 48, 28, 17, 6, 24, 48, 1024].getD sec 0
  if n ≤ item then 0
  else if sec = 0 ∧ item = 2 then nw s.ledgerSeq
  else if sec = 1 then setBits (nw (s.wearGet 1 item)) 30 2 (s.unitState item)
  else if sec = 2 ∧ item % 4 = 3 then nw (spareRows (item / 4) - s.wearGet 2 (item - 1))
  else nw (s.wearGet sec item)

/-- Flush the counts to the MRAM copy that is not the newest; a flush that fails sets FLUSH_FAIL (R488). -/
def State.wearFlush (s : State) (ok : Bool) : State :=
  if ok then
    let seq := s.ledgerSeq + 1
    let s := s.wearAdd 4 3 1
    let s := s.modWear fun w =>
      if w.seqB < w.seqA then { w with copyB := w.live, seqB := seq, flushAt := s.dial } else { w with copyA := w.live, seqA := seq, flushAt := s.dial }
    s.setWord Reg.WEAR_SEQ (nw seq)
  else (s.modWear fun w => { w with flushAt := s.dial }).raiseEv F.WEAR_STS_FLUSH_FAIL

/-- Power-on hours follow Dial. -/
def State.wearHours (s : State) : State :=
  let h := s.dial / 3600000000000
  let s := s.wearAdd 0 0 (h - s.wear.hoursAt)
  (s.modWear fun w => { w with hoursAt := max w.hoursAt h }).setWord Reg.WEAR_HOURS (nw (s.wearGet 0 0))

/-- LEDGER_FLUSH: an hour of Dial since the last flush. -/
def execLedgerFlush (t : Nat) (ok : Bool) (s : State) : Out :=
  let s := s.at t
  .next (if s.wear.flushAt + 3600000000000 ≤ s.dial then s.wearHours.wearFlush ok else s)

/-- A history entry: Calendar, kind, and its two words; after 256 entries the first is overwritten (R492). -/
def State.wearHistory (s : State) (kind a b : Nat) : State :=
  let e := s.wear.nextEntry % 256
  let put := fun (s : State) (i v : Nat) => s.modWear fun w => { w with live := Tab.set (fun _ => 0) w.live (65536 * 7 + 4 * e + i) v }
  (put (put (put (put s 0 (s.calMs % 2 ^ 32)) 1 (65536 * kind + s.calMs / 2 ^ 32 % 65536)) 2 a) 3 b).modWear fun w => { w with nextEntry := e + 1 }

/-- A row or sector of a memory is repaired with a spare: MEM_REPAIR, a history entry, a flush; the last spare sets
SPARE_EXHAUSTED (R490). Without a spare nothing happens. -/
def State.memRepair (s : State) (m row : Nat) : State :=
  if spareRows m ≤ s.wearGet 2 (4 * m + 2) then s
  else
    let s := s.wearAdd 2 (4 * m + 2) 1
    let left := spareRows m - s.wearGet 2 (4 * m + 2)
    let s := (s.logEvent 0x1201 1 (nw m) [nw row, nw left]).wearHistory 6 m row
    let s := (s.raiseEv F.WEAR_STS_REPAIR).wearFlush true
    s.when (left == 0) fun s => s.setHeld F.WEAR_STS_SPARE_EXHAUSTED true

/-- One finding of a scrub pass: counted, and the row scheduled for repair at the next start at an uncorrectable error or after 4
passes with corrected errors. -/
def State.scrubRow (s : State) (f : EccFinding) : State :=
  let k := 2 ^ 20 * f.mem + f.row
  let s := (s.wearAdd 2 (4 * f.mem) f.corrected).wearAdd 2 (4 * f.mem + 1) (b2n f.uncorrectable)
  let n := Tab.get (fun _ => 0) s.wear.passes k + b2n (f.corrected != 0)
  let s := s.modWear fun w => { w with passes := Tab.set (fun _ => 0) w.passes k n }
  if (f.uncorrectable || decide (4 ≤ n)) && f.mem < 6 && !s.wear.sched.contains (f.mem, f.row) then
    s.modWear fun w => { w with sched := w.sched ++ [(f.mem, f.row)] }
  else s

/-- ECC_SCRUB: a scrub pass of every ECC memory. -/
def execEccScrub (t : Nat) (found : List EccFinding) (s : State) : Out := .next (found.foldl State.scrubRow (s.at t))

/-- At a start the scheduled rows are mapped to spare rows. -/
def State.repairSched (s : State) : State :=
  let q := s.wear.sched
  (q.foldl (fun s r => s.memRepair r.1 r.2) s).modWear fun w => { w with sched := [], passes := [] }

/-- WEAR_DATA_READ: the selected item; the master's ITEM rises by 1 (R489). -/
def State.wearDataRead (s : State) (m : Nat) : Word × State :=
  let k := masterKey m Reg.WEAR_SEL
  let sel := s.word k
  (s.wearItem (getBits sel 24 3) (getBits sel 0 16), s.setWord k (setBits sel 0 16 (getBits sel 0 16 + 1)))

/-- WEAR_DATA_READ. -/
def execWearDataRead (t : Nat) (m : Master) (s : State) : Out :=
  let r := (s.at t).wearDataRead (masterId m)
  .next (r.2.answer (masterId m) r.1)

end Sys2Proof.Machine
end

