-- ==== Sys2Proof/Machine/SxtModel.lean ====
section
/-! DEFINITION. The equivalent-circuit model of a cell and the filter's equations: descriptor tables, prediction, correction, first estimate and limits (07_sextant.md). Arithmetic is binary64 from stored binary32 values (R194). -/

namespace Sys2Proof.Machine

/-! ## binary64 arithmetic -/

def fadd (a b : Fl) : Fl := Fl.add b64 a b
def fsub (a b : Fl) : Fl := Fl.sub b64 a b
def fmul (a b : Fl) : Fl := Fl.mul b64 a b
def fdiv (a b : Fl) : Fl := Fl.div b64 a b
def fsum (l : List Fl) : Fl := l.foldl fadd Fl.zero
def fint (n : Int) : Fl := Fl.ofInt n
def fdec (n : Int) (d : Nat) : Fl := Fl.dec b64 n d
/-- The value as binary32 stores it. -/
def r32 (a : Fl) : Fl := Fl.round b32 a
/-- Linear interpolation from a to b at weight w. -/
def lerp (a b w : Fl) : Fl := fadd a (fmul w (fsub b a))

/-! ## Descriptors (Tables 7-1 and 7-2) -/

/-- A descriptor image: the memory that holds it and its number. -/
abbrev Dsc := Store × Nat

/-- A halfword at a byte offset of an image. -/
def Dsc.half (d : Dsc) (off : Nat) : Nat :=
  getBits (Tab.get zeroWord d.1 ((0x80000 + 0x1000 * d.2 + off) / 4)) (16 * (off / 2 % 2)) 16

/-- PARAM i. -/
def Dsc.param (d : Dsc) (i : Nat) : Fl := Fl.ofWord (Tab.get zeroWord d.1 ((0x80920 + 0x1000 * d.2) / 4 + i))

def Dsc.extRc (d : Dsc) : Bool := (d.half 2).testBit 0
/-- TSRC, with 3 taken as 0. -/
def Dsc.tsrc (d : Dsc) : Nat := d.half 2 / 2 % 4 % 3
/-- Column temperature j, °C. -/
def Dsc.tcol (d : Dsc) (j : Nat) : Fl := fdec (signed 16 (d.half (0x10 + 2 * j))) 100
/-- Resistance factor at column j. -/
def Dsc.frCol (d : Dsc) (j : Nat) : Fl := fdec (d.half (0x24 + 2 * j)) 4096
def Dsc.imaxdCol (d : Dsc) (j : Nat) : Fl := fdec (d.half (0x36 + 2 * j)) 10
def Dsc.imaxcCol (d : Dsc) (j : Nat) : Fl := fdec (d.half (0x48 + 2 * j)) 10
/-- OCV of row i at column j, V. -/
def Dsc.ocvAt (d : Dsc) (i j : Nat) : Fl := fdec (d.half (0x60 + 2 * (9 * i + j))) 10000
/-- M of row i, V. -/
def Dsc.mAt (d : Dsc) (i : Nat) : Fl := fdec (d.half (0x77A + 2 * i)) 100000
/-- E of row i, V/K. -/
def Dsc.eAt (d : Dsc) (i : Nat) : Fl := fdec (signed 16 (d.half (0x844 + 2 * i))) 1000000

def Dsc.crated (d : Dsc) : Fl := d.param 0
def Dsc.etac (d : Dsc) : Fl := d.param 1
/-- The largest entry of IMAXD and IMAXC, A (R192). -/
def Dsc.imax (d : Dsc) : Fl :=
  fdec (((List.range 9).flatMap fun j => [d.half (0x36 + 2 * j), d.half (0x48 + 2 * j)]).foldl max 0 : Nat) 10

/-- The column a temperature lies in and its weight there, held at the edges (R188). -/
def Dsc.column (d : Dsc) (t : Fl) : Nat × Fl :=
  if Fl.lt t (d.tcol 0) then (0, Fl.zero)
  else if !Fl.lt t (d.tcol 8) then (7, fint 1)
  else
    let j := ((List.range 8).filter fun j => !Fl.lt t (d.tcol j)).length - 1
    (j, fdiv (fsub t (d.tcol j)) (fsub (d.tcol (j + 1)) (d.tcol j)))

/-- How far a temperature lies outside the columns. -/
def Dsc.beyond (d : Dsc) (t : Fl) : Fl :=
  if Fl.lt t (d.tcol 0) then fsub t (d.tcol 0) else if Fl.lt (d.tcol 8) t then fsub t (d.tcol 8) else Fl.zero

/-- A nine-entry table at a temperature, held constant beyond the end columns. -/
def Dsc.atT (d : Dsc) (col : Nat → Fl) (t : Fl) : Fl := let c := d.column t; lerp (col c.1) (col (c.1 + 1)) c.2

def Dsc.fr (d : Dsc) (t : Fl) : Fl := d.atT d.frCol t
def Dsc.imaxd (d : Dsc) (t : Fl) : Fl := d.atT d.imaxdCol t
def Dsc.imaxc (d : Dsc) (t : Fl) : Fl := d.atT d.imaxcCol t

/-- 100 s, exactly. -/
def hundredS (s : Fl) : Fl := match s with
  | .fin n m e => .fin n (100 * m) e
  | v => v

/-- The row segment that contains s: at a row boundary the one above it, the outermost beyond 0 to 1 (R188). -/
def rowOf (s : Fl) : Nat := (clampI 0 99 (Fl.floorInt (hundredS s))).toNat

/-- How far s lies into its row segment, in rows. -/
def rowWeight (s : Fl) : Fl := fsub (hundredS s) (fint (rowOf s))

/-- A 101-entry table at s, held constant beyond the end rows. -/
def atS (tab : Nat → Fl) (s : Fl) : Fl :=
  if Fl.lt s Fl.zero then tab 0 else if !Fl.lt s (fint 1) then tab 100
  else lerp (tab (rowOf s)) (tab (rowOf s + 1)) (rowWeight s)

/-- The slope of a 101-entry table at s: 0 beyond the end rows. -/
def slopeS (tab : Nat → Fl) (s : Fl) : Fl :=
  if Fl.lt s Fl.zero || !Fl.lt s (fint 1) then Fl.zero else fmul (fint 100) (fsub (tab (rowOf s + 1)) (tab (rowOf s)))

def Dsc.m (d : Dsc) (s : Fl) : Fl := atS d.mAt s
def Dsc.mSlope (d : Dsc) (s : Fl) : Fl := slopeS d.mAt s
def Dsc.e (d : Dsc) (s : Fl) : Fl := atS d.eAt s

/-- Row i of the OCV table at a temperature. -/
def Dsc.ocvRow (d : Dsc) (i : Nat) (t : Fl) : Fl := d.atT (d.ocvAt i) t

/-- ocv(s, T) (R188). -/
def Dsc.ocv (d : Dsc) (s t : Fl) : Fl :=
  let v := lerp (d.ocvRow (rowOf s) t) (d.ocvRow (rowOf s + 1) t) (rowWeight s)
  let b := d.beyond t
  if b.isZero then v else fadd v (fmul (d.e s) b)

/-- ocv'(s, T): the slope of the row segment that contains s. -/
def Dsc.ocvSlope (d : Dsc) (s t : Fl) : Fl :=
  let v := fmul (fint 100) (fsub (d.ocvRow (rowOf s + 1) t) (d.ocvRow (rowOf s) t))
  let b := d.beyond t
  if b.isZero then v else fadd v (fmul (slopeS d.eAt s) b)

/-- Bisect the interval lo to hi for the value v. -/
def Dsc.bisect (d : Dsc) (v t : Fl) : Nat → Fl → Fl → Fl
  | 0, lo, hi => fdiv (fadd lo hi) (fint 2)
  | n + 1, lo, hi =>
    let mid := fdiv (fadd lo hi) (fint 2)
    if Fl.lt (d.ocv mid t) v then d.bisect v t n mid hi else d.bisect v t n lo mid

/-- The bounds of s (R189). -/
def sMin : Fl := fdec (-20) 100
def sMax : Fl := fdec 120 100

/-- ocvinv(v, T): the inversion of R188 by bisection within the range of R189. -/
def Dsc.ocvinv (d : Dsc) (v t : Fl) : Fl :=
  if !Fl.lt (d.ocv sMin t) v then sMin else if !Fl.lt v (d.ocv sMax t) then sMax else d.bisect v t 60 sMin sMax

/-! ## The checks of SXT_DESCERR -/

/-- The byte ranges of an image that are reserved, and the words that hold them. -/
def Dsc.reservedOk (d : Dsc) : Bool :=
  let z := fun (lo hi : Nat) => (List.range ((hi - lo) / 2)).all fun k => d.half (lo + 2 * k) == 0
  z 4 0x10 && z 0x22 0x24 && z 0x5A 0x60 && z 0x90E 0x920 && z 0x9BC 0x1000 && decide (d.half 2 < 8)

/-- The first failing check of an image, 0 when all pass (SXT_DESCERR.CHECK 1 to 6). -/
def Dsc.check (d : Dsc) : Nat :=
  let pos := fun i => Fl.lt Fl.zero (d.param i)
  let rows := List.range 100
  let r := fadd (d.param 10) (d.param 11)
  if d.half 0 ≠ 1 ∨ d.reservedOk = false then 1
  else if !((List.range 8).all fun j => decide (signed 16 (d.half (0x10 + 2 * j)) < signed 16 (d.half (0x12 + 2 * j)))) then 2
  else if !(rows.all fun i => (List.range 9).all fun j =>
      decide (d.half (0x60 + 2 * (9 * i + j)) + 1 ≤ d.half (0x60 + 2 * (9 * (i + 1) + j)))) then 3
  else if Fl.le (fint 100) r || Fl.lt (d.param 10) Fl.zero || Fl.lt (d.param 11) Fl.zero then 4
  else if !((List.range 39).all fun i => (d.param i).isFinite)
      || !(pos 0 && pos 4 && pos 6 && pos 22 && pos 37 && pos 38 && pos 34 && Fl.le (fint 1) (d.param 31)) then 5
  else if Fl.lt (d.param 35) (d.param 34) || !Fl.lt (d.param 8) (d.param 9)
      || Fl.lt d.etac (r32 (fdec 90 100)) || Fl.lt (fint 1) d.etac then 6
  else 0

/-! ## A context's figures -/

/-- The figures of a CELL context that the equations use (Table 7-4). -/
structure Cx where
  model : Nat
  x : List Fl
  p : List Fl
  rs : Fl
  qinv : Fl
  ra : Fl
  rb : Fl
  taua : Fl
  taub : Fl
  capl : Fl

/-- The active slots of a model (Table 7-3). -/
def activeSlots : Nat → List Nat
  | 0 => [0, 1, 2, 3, 4, 5]
  | 1 => [0, 1, 2, 3]
  | 2 => [0, 1, 3]
  | _ => [0, 1, 2, 3, 4, 5, 6, 7]

def slotActive (m k : Nat) : Bool := (activeSlots m).contains k

/-- Where element (i, j) of P lies in the stored upper triangle. -/
def pIndex (i j : Nat) : Nat := let a := min i j; let b := max i j; 8 * a - a * (a - 1) / 2 + b - a

def Cx.st (c : Cx) (k : Nat) : Fl := c.x.getD k Fl.zero
def Cx.pe (c : Cx) (i j : Nat) : Fl := c.p.getD (pIndex i j) Fl.zero
/-- Rs, qinv, Ra and Rb: the state where its slot is active, the fixed value otherwise (R191). -/
def Cx.par (c : Cx) (k : Nat) : Fl :=
  if slotActive c.model k then c.st k
  else if k = 4 then c.rs else if k = 5 then c.qinv else if k = 6 then c.ra else c.rb

def Cx.setX (c : Cx) (k : Nat) (v : Fl) : Cx := { c with x := c.x.set k v }

/-- Build the upper triangle of P: f on the active slots, 0 elsewhere, each element rounded once to binary32 (R194). -/
def Cx.setP (c : Cx) (f : Nat → Nat → Fl) : Cx :=
  { c with p := (List.range 8).flatMap fun i => (List.range (8 - i)).map fun k =>
      if slotActive c.model i && slotActive c.model (i + k) then r32 (f i (i + k)) else Fl.zero }

/-- Initial variance of slot k (R195). -/
def Dsc.p0 (d : Dsc) (k : Nat) : Fl :=
  if k = 0 then d.param 29 else if k = 3 then fdiv (fint 1) (fint 3)
  else d.param ([29, 23, 24, 0, 25, 26, 27, 28].getD k 29)

/-- Hold s within its bounds (R189), with whether it left them. -/
def Cx.clipS (c : Cx) : Cx × Bool :=
  if Fl.lt (c.st 0) (r32 sMin) then (c.setX 0 (r32 sMin), true)
  else if Fl.lt (r32 sMax) (c.st 0) then (c.setX 0 (r32 sMax), true) else (c, false)

/-- The charge sums of an interval: qc, qa, qn and tu of R192, and its length, in A s and s. -/
structure Charge where
  qc : Fl
  qa : Fl
  qn : Fl
  tu : Fl
  dt : Fl

/-- A difference of Dial instants in seconds, and a current in A. -/
def secs (ns : Nat) : Fl := fdec ns 1000000000
def amps (ma : Int) : Fl := fdec ma 1000

/-- Sum the charge over the snapshots of an interval that starts at target t0. The time before a snapshot in gaps has not been
observed whatever its current (R210, R451). -/
def chargeSums (etac : Fl) (gaps : List Nat) : Nat → List (Nat × Option Int) → Charge → Charge
  | _, [], a => a
  | t0, (t, i) :: l, a =>
    let dt := secs (t - t0)
    chargeSums etac gaps t l (match (if gaps.contains t then none else i) with
      | some ma =>
        let i := amps ma
        let q := if 0 ≤ ma then fmul i dt else fmul (fmul etac i) dt
        { a with qc := fadd a.qc q, qa := fadd a.qa (fmul i.abs dt), qn := fadd a.qn (fmul i dt) }
      | none => { a with tu := fadd a.tu dt })

/-- The charge sums of an update from the previous update snapshot to this one; nothing when there is no previous one. -/
def chargeOf (etac : Fl) (gaps : List Nat) (prev : Option Nat) (target : Nat) (snaps : List (Nat × Option Int)) : Charge :=
  let z : Charge := { qc := Fl.zero, qa := Fl.zero, qn := Fl.zero, tu := Fl.zero, dt := Fl.zero }
  match prev with
  | some t0 => chargeSums etac gaps t0 snaps { z with dt := secs (target - t0) }
  | none => z

/-- The prediction of R192, with whether s left its range. A held context keeps its parameter states: their process noise is 0
(R209). -/
def Cx.predict (c : Cx) (d : Dsc) (q : Charge) (t : Fl) (held : Bool) : Cx × Bool :=
  let ibar := if Fl.lt q.tu q.dt then fdiv q.qn (fsub q.dt q.tu) else Fl.zero
  let fr := d.fr t
  let one := fint 1
  let h36 := fint 3600
  let ea := Fl.exp b64 (fdiv q.dt.neg c.taua)
  let eb := Fl.exp b64 (fdiv q.dt.neg c.taub)
  let ga := fdiv (fmul (d.param 7) q.qa) h36
  let ek := Fl.exp b64 (fdiv (fmul (fmul (d.param 7) (c.par 5)) q.qa) h36).neg
  let sg := fint (Fl.sign q.qn)
  let ra := fmul (fmul (fmul (c.par 6) fr) (fsub one ea)) ibar
  let rb := fmul (fmul (fmul (c.par 7) fr) (fsub one eb)) ibar
  let f : Nat → Nat → Fl := fun i j =>
    if i = j then (if i = 1 then ea else if i = 2 then eb else if i = 3 then ek else one)
    else if i = 0 ∧ j = 5 then (fdiv q.qc h36).neg
    else if i = 3 ∧ j = 5 then (fmul (fmul ga ek) (fadd (c.st 3) sg)).neg
    else if i = 1 ∧ j = 6 then fmul (fmul fr (fsub one ea)) ibar
    else if i = 2 ∧ j = 7 then fmul (fmul fr (fsub one eb)) ibar
    else Fl.zero
  let act := activeSlots c.model
  let fp := fun i j => fsum (act.map fun k => fmul (f i k) (c.pe k j))
  let noise := fun k => if held && decide (4 ≤ k) then Fl.zero else fmul (d.param (14 + k)) q.dt
  let imq := fdiv (fmul (fmul d.imax (c.par 5)) q.tu) h36
  let n := c.setP fun i j => fadd (fsum (act.map fun k => fmul (fp i k) (f j k))) (if i = j then noise i else Fl.zero)
  let n := n.setP fun i j => if i = 0 ∧ j = 0 then fadd (n.pe 0 0) (fmul imq imq) else n.pe i j
  let n := n.setX 0 (r32 (fsub (c.st 0) (fdiv (fmul (c.par 5) q.qc) h36)))
  let n := n.setX 1 (r32 (fadd (fmul ea (c.st 1)) ra))
  let n := if slotActive c.model 2 then n.setX 2 (r32 (fadd (fmul eb (c.st 2)) rb)) else n
  let n := n.setX 3 (r32 (fsub (fmul ek (c.st 3)) (fmul (fsub one ek) sg)))
  n.clipS

/-- The terminal voltage of the model for a current (R188, R193). -/
def Cx.voltage (c : Cx) (d : Dsc) (t i : Fl) : Fl :=
  fsub (fsub (fsub (fadd (d.ocv (c.st 0) t) (fmul (d.m (c.st 0)) (c.st 3))) (fmul (fmul (c.par 4) (d.fr t)) i)) (c.st 1)) (c.st 2)

/-- The measurement row hrow of R193. -/
def Cx.hrow (c : Cx) (d : Dsc) (t i : Fl) (k : Nat) : Fl :=
  if k = 0 then fadd (d.ocvSlope (c.st 0) t) (fmul (d.mSlope (c.st 0)) (c.st 3))
  else if k = 1 ∨ k = 2 then fint (-1)
  else if k = 3 then d.m (c.st 0)
  else if k = 4 then (fmul (d.fr t) i).neg
  else Fl.zero

/-- The measurement update of R193 in Joseph form: the context, nu, sv, and whether s left its range. -/
def Cx.correct (c : Cx) (d : Dsc) (t v i : Fl) (bt : Bool) : Cx × Fl × Fl × Bool :=
  let act := activeSlots c.model
  let nu := fsub v (c.voltage d t i)
  let h := c.hrow d t i
  let r := if bt then fadd (d.param 22) (fmul (fdec 15 10000) (fdec 15 10000)) else d.param 22
  let ph := fun k => r32 (fsum (act.map fun j => fmul (c.pe k j) (h j)))
  let hph := fsum (act.map fun k => fmul (h k) (fsum (act.map fun j => fmul (c.pe k j) (h j))))
  let sv := r32 (fadd hph r)
  let kgs := (List.range 8).map fun k => if act.contains k then fdiv (ph k) sv else Fl.zero
  let kg := fun k => kgs.getD k Fl.zero
  let a := fun i j => fsub (fint (if i = j then 1 else 0)) (fmul (kg i) (h j))
  let ap := fun i j => fsum (act.map fun l => fmul (a i l) (c.pe l j))
  let n := c.setP fun i j => fadd (fsum (act.map fun l => fmul (ap i l) (a j l))) (fmul (fmul (kg i) r) (kg j))
  let n := act.foldl (fun n k => n.setX k (r32 (fadd (c.st k) (fmul (kg k) nu)))) n
  let s := n.clipS
  (s.1, nu, sv, s.2)

/-- Must P be repaired: an active diagonal element zero, negative or not finite, or an active element not finite (R195)? -/
def Cx.badP (c : Cx) : Bool :=
  let act := activeSlots c.model
  act.any (fun k => !Fl.lt Fl.zero (c.pe k k)) || act.any fun i => act.any fun j => !(c.pe i j).isFinite

/-- P at its initial values. -/
def Cx.initP (c : Cx) (d : Dsc) : Cx := c.setP fun i j => if i = j then d.p0 i else Fl.zero

/-- The bounds of parameter state k (R196). -/
def Cx.bounds (c : Cx) (d : Dsc) (k : Nat) : Fl × Fl :=
  if k = 4 then (d.param 34, d.param 35)
  else if k = 5 then (fdiv (fsub (fint 1) (d.param 33)) c.capl, fdiv (fadd (fint 1) (d.param 33)) c.capl)
  else let r0 := d.param (if k = 6 then 3 else 5); (fdiv r0 (fint 4), fmul (fint 4) r0)

/-- Hold one parameter state within its bounds, with whether one has been held. -/
def Cx.clampOne (d : Dsc) (a : Cx × Bool) (k : Nat) : Cx × Bool :=
  if slotActive a.1.model k then
    let b := a.1.bounds d k
    if Fl.lt (a.1.st k) b.1 then (a.1.setX k (r32 b.1), true)
    else if Fl.lt b.2 (a.1.st k) then (a.1.setX k (r32 b.2), true) else a
  else a

/-- Hold the parameter states within their bounds (R196). -/
def Cx.clampPars (c : Cx) (d : Dsc) : Cx × Bool := [4, 5, 6, 7].foldl (Cx.clampOne d) (c, false)

/-- The first estimate of R207; est tells that the context holds an estimate, mult scales the start variances of Rs and qinv while
NOT_RESTORED is set (R233). -/
def Cx.first (c : Cx) (d : Dsc) (t v i : Fl) (rested est : Bool) (mult : Nat) : Cx :=
  let cur := fun k fixed => if est && slotActive c.model k && (c.st k).isFinite then c.st k else fixed
  let rs := cur 4 c.rs
  let vc := if rested then v else fadd v (fmul (fmul i rs) (d.fr t))
  let s0 := d.ocvinv vc t
  let m0 := d.m s0
  let dd := fdiv (fsub (d.ocvinv (fadd vc m0) t) (d.ocvinv (fsub vc m0) t)) (fint 2)
  let x := [s0, Fl.zero, Fl.zero, Fl.zero, rs, fdiv (fint 1) c.capl, cur 6 c.ra, cur 7 c.rb]
  let n := { c with x := (List.range 8).map fun k => if slotActive c.model k then r32 (x.getD k Fl.zero) else Fl.zero }
  let n := n.setP fun i j =>
    if i = 0 ∧ j = 0 then fdiv (fmul dd dd) (fint 3)
    else if i = 0 ∧ j = 3 then fdiv dd.neg (fint 3)
    else if i = j then (if i = 4 ∨ i = 5 then fmul (fint mult) (d.p0 i) else d.p0 i) else Fl.zero
  if rested then n
  else n.setP fun i j => if i = 0 ∧ j = 0 then fadd (n.pe 0 0) (fmul (d.param 13) (d.param 13)) else n.pe i j

/-- The discharge and charge limits for a horizon of h seconds (R213). -/
def Cx.limit (c : Cx) (d : Dsc) (t : Fl) (h : Nat) : Fl × Fl :=
  let one := fint 1
  let hh := fint h
  let two := slotActive c.model 2
  let a := Fl.exp b64 (fdiv hh.neg c.taua)
  let b := Fl.exp b64 (fdiv hh.neg c.taub)
  let ra := fmul (c.par 6) (fsub one a)
  let rb := if two then fmul (c.par 7) (fsub one b) else Fl.zero
  let rh := fmul (fadd (fadd (c.par 4) ra) rb) (d.fr t)
  let v := fsub (fadd (d.ocv (c.st 0) t) (fmul (d.m (c.st 0)) (c.st 3))) (fmul (c.st 1) a)
  let vd := if two then fsub v (fmul (c.st 2) b) else v
  let kq := fdiv (fmul (fmul (d.ocvSlope (c.st 0) t) hh) (c.par 5)) (fint 3600)
  let qh := fmul (c.par 5) hh
  let lo := fdiv (d.param 10) (fint 100)
  let hi := fdiv (d.param 11) (fint 100)
  let idis := Fl.minF (Fl.minF (fdiv (fsub vd (d.param 8)) (fadd rh kq)) (fdiv (fmul (fsub (c.st 0) lo) (fint 3600)) qh)) (d.imaxd t)
  let ichg := Fl.maxF (Fl.maxF (fdiv (fsub vd (d.param 9)) (fadd rh (fmul d.etac kq)))
    (fdiv (fmul (fsub (fsub one hi) (c.st 0)) (fint 3600)) (fmul d.etac qh)).neg) (d.imaxc t).neg
  (Fl.maxF idis Fl.zero, Fl.minF ichg Fl.zero)

/-- Reserve-adjusted usable SOC as a fraction of 1, before the clamp (R212). -/
def Cx.usable (c : Cx) (d : Dsc) : Fl :=
  fdiv (fsub (fmul (fint 100) (c.st 0)) (d.param 10)) (fsub (fsub (fint 100) (d.param 10)) (d.param 11))

/-- A fraction as the record encodes a percentage: times 65,535, rounded half away from zero, saturated (R215). -/
def encFrac (f : Fl) : Nat := (clampI 0 65535 (Fl.toIntAway (fmul f (fint 65535)))).toNat

/-- A value in units of 1/d, rounded half away from zero and saturated to lo and hi. -/
def encUnit (f : Fl) (d : Nat) (lo hi : Int) : Int := clampI lo hi (Fl.toIntAway (fmul f (fint d)))

/-- The integral of ocv ds from a to b, a below b, by the trapezoid rule on the 0.01 rows (R215). -/
def Dsc.area (d : Dsc) (t a b : Fl) : Fl :=
  let k0 := Fl.floorInt (hundredS a) + 1
  let rows := (List.range 150).filterMap fun (n : Nat) =>
    let s := fdec (k0 + n) 100
    if Fl.lt s b then some s else none
  let pts := rows ++ [b]
  (pts.foldl (fun (acc : Fl × Fl) s =>
    (s, fadd acc.2 (fdiv (fmul (fsub s acc.1) (fadd (d.ocv acc.1 t) (d.ocv s t))) (fint 2)))) (a, Fl.zero)).2

end Sys2Proof.Machine
end

