-- ==== Sys2Proof/Machine/Sextant.lean ====
section
/-! DEFINITION. Sextant: contexts, update scheduling, the context update, the Sextant record, and learning runs (07_sextant.md, 08_learning.md). -/

namespace Sys2Proof.Machine

/-! ## Sextant memory (R197, R198) -/

def State.modSxt (s : State) (f : SxtSt → SxtSt) : State := { s with sxt := f s.sxt }

/-- The word of a context at a byte offset, and 64-bit and binary32 fields of it. -/
def ctxKey (c off : Nat) : Nat := 0x80 * c + off / 4
def State.cxWord (s : State) (c off : Nat) : Word := Tab.get zeroWord s.sxt.mem (ctxKey c off)
def State.setCxWord (s : State) (c off : Nat) (v : Word) : State :=
  s.modSxt fun x => { x with mem := Tab.set zeroWord x.mem (ctxKey c off) v }
def State.cxLong (s : State) (c off : Nat) : Nat := (s.cxWord c off).toNat + 2 ^ 32 * (s.cxWord c (off + 4)).toNat
def State.setCxLong (s : State) (c off v : Nat) : State := (s.setCxWord c off (nw v)).setCxWord c (off + 4) (nw (v / 2 ^ 32))
def State.cxF (s : State) (c off : Nat) : Fl := Fl.ofWord (s.cxWord c off)
def State.setCxF (s : State) (c off : Nat) (v : Fl) : State := s.setCxWord c off v.toWord
/-- A field of HDR, CSTAT or LSTATE. -/
def State.cxBits (s : State) (c off lo len : Nat) : Nat := getBits (s.cxWord c off) lo len
def State.setCxBits (s : State) (c off lo len v : Nat) : State := s.setCxWord c off (setBits (s.cxWord c off) lo len v)

/-- KIND of a context: 0 FREE, 1 CELL, 2 TILE. -/
def State.cxKind (s : State) (c : Nat) : Nat := s.cxBits c 0 30 2
/-- A cell flag of CSTAT (Table 7-7). -/
def State.cxFlag (s : State) (c b : Nat) : Bool := (s.cxWord c 4).getLsbD b
def State.setCxFlag (s : State) (c b : Nat) (v : Bool) : State := s.setCxBits c 4 b 1 (b2n v)

def fEst : Nat := 14
def fFirst : Nat := 13
def fHeld : Nat := 12
def fDis : Nat := 11
def fNotRest : Nat := 10
def fNoCur : Nat := 9
def fTazm : Nat := 8
def fTsub : Nat := 7
def fEmpty : Nat := 6
def fFull : Nat := 5
def fClip : Nat := 4
def fLearn : Nat := 3
def fClamp : Nat := 2
def fNum : Nat := 1

/-- The descriptor in use for position p, and whether descriptors have been taken into use. -/
def mapByte (m : Store) (p : Nat) : Nat := getBits (Tab.get zeroWord m ((0x84000 + p) / 4)) (8 * (p % 4)) 8
def State.dscOf (s : State) (p : Nat) : Dsc := (s.sxt.use, mapByte s.sxt.use p % 4)
def State.dscReady (s : State) : Bool := Dsc.half (s.sxt.use, 0) 0 != 0

/-- The figures of a CELL context. -/
def State.cx (s : State) (c : Nat) : Cx :=
  { model := s.cxBits c 0 25 3
    x := (List.range 8).map fun k => s.cxF c (8 + 4 * k)
    p := (List.range 36).map fun k => s.cxF c (0x28 + 4 * k)
    rs := s.cxF c 0xB8, qinv := s.cxF c 0xBC, ra := s.cxF c 0xC0, rb := s.cxF c 0xC4
    taua := s.cxF c 0xC8, taub := s.cxF c 0xCC, capl := s.cxF c 0xD0 }

/-- Put words into a context from a byte offset. -/
def State.putCx (s : State) (c off : Nat) (ws : List Word) : State :=
  s.modSxt fun x => { x with mem := Store.putAll zeroWord x.mem (ctxKey c off) ws }

/-- Store the states and P of a context. -/
def State.storeCx (s : State) (c : Nat) (x : Cx) : State := s.putCx c 8 (x.x.map Fl.toWord ++ x.p.map Fl.toWord)

/-- Store the FIXED values of a context. -/
def State.storeFixed (s : State) (c : Nat) (x : Cx) : State :=
  s.putCx c 0xB8 ([x.rs, x.qinv, x.ra, x.rb, x.taua, x.taub, x.capl].map Fl.toWord)

/-- A write through the Sextant window at a Sextant byte address (R198). -/
def State.sxtWinWrite (s : State) (a : Nat) (v : Word) : State :=
  if a < 0x80000 then
    if s.cxKind (a / 0x200) = 0 then s
    else if s.flag F.SXT_CTL_EN then s.raiseEv F.SXT_STS_CTX_WPROT
    else s.modSxt fun x => { x with mem := Tab.set zeroWord x.mem (a / 4) v }
  else if a < 0x84280 ∨ (0x85000 ≤ a ∧ a < 0x87820) then s.modSxt fun x => { x with mem := Tab.set zeroWord x.mem (a / 4) v }
  else s

/-- A read through the Sextant window. -/
def State.sxtWinRead (s : State) (a : Nat) : Word := Tab.get zeroWord s.sxt.mem (a / 4)

/-! ## Lanes and TUPD (R200) -/

/-- The model class of a profile, and the model of a position (Table 7-3). -/
def classOf (prof : Nat) : Nat := if prof = 1 then 1 else if prof = 3 then 2 else 0
def State.modelOf (s : State) (p : Nat) : Nat :=
  if classOf s.ep.prof = 0 ∧ (s.dscOf p).extRc = true then 3 else classOf s.ep.prof

/-- Lane cycles of a model (Table 7-5). -/
def cModel (m : Nat) : Nat := [7800, 5000, 2600, 12400].getD m 0

/-- TUPD in µs for L lanes: the slowest lane at the lane clock, 1 µs for each ⌈48/L⌉, and 100 µs, rounded up (R200, R472). -/
def State.tupdFor (s : State) (l : Nat) : Nat :=
  let n := s.acq.npos
  let b := (n + l - 1) / l
  let lane := fun k => ((List.range b).map fun i => if k * b + i < n then cModel (s.modelOf (k * b + i)) else 0).sum
  let top := (List.range l).foldl (fun m k => max m (lane k)) 0
  let num := if !s.flag F.THM_STS_THROTTLE_L then top
    else if s.fld F.THM_CTL_METHOD = 0 then 2 * top
    else top * s.fld F.THM_CTL_N
  let den := if s.flag F.THM_STS_THROTTLE_L && s.fld F.THM_CTL_METHOD != 0 then 400 * (s.fld F.THM_CTL_N - 1) else 400
  (num + den - 1) / den + (48 + l - 1) / l + 100

/-- SXT_SCHED shows the rate, the model class and TUPD. -/
def State.sxtSched (s : State) : State :=
  ((s.setFld F.SXT_SCHED_RATE s.sxtRate).setFld F.SXT_SCHED_MODEL (classOf s.ep.prof)).setFld F.SXT_SCHED_TUPD
    (if s.flag F.SXT_CTL_EN then s.tupdFor (s.fld F.SXT_LANES_ACTIVE) else 0)

/-- SXT_LANES.ACTIVE: the lanes of the profile in force, and no more than are available (R200). -/
def State.sxtActive (s : State) : State :=
  (s.pmcSync.setFld F.SXT_LANES_ACTIVE (max 1 (min (profLanes s.ep.prof) s.sxt.lanes))).sxtSched

/-- At an update snapshot lanes healthy and ungated become the lanes available, spare lanes commissioned meanwhile among them (R462,
Table 17-17). -/
def State.sxtLanes (s : State) : State :=
  let s := s.setFld F.SXT_LANES_SPARES_USED ((List.range 2).filter fun i => s.unitMark (16 + i) == 1).length
  (s.modSxt fun x => { x with lanes := s.fld F.SXT_LANES_HEALTHY - s.fld F.THM_TRIM_SXTGATE }).sxtActive

/-! ## Scheduling (R199, R201) -/

/-- The items of an update. -/
def State.sxtItems (s : State) : List ItemId := itemSxtString :: (List.range s.acq.npos).map itemSxtPos

/-- The instant an epoch's commit deadline falls at. -/
def EpochRec.deadAt (e : EpochRec) : Nat := e.start + e.period + 100000 * e.deadline

/-- Send what a job has delivered on its way to the commit unit of its epoch. -/
def State.sxtFlush (s : State) (j : SxtJob) : State :=
  match j.serial with
  | some n => s.contribute (j.out.map fun o => { serial := n, src := .sextant, ready := s.dial, item := o.1, words := o.2 })
  | none => s

/-- Put back a job, delivered as far as it is, and drop it when it is done and delivered. -/
def State.putJob (s : State) (old new : SxtJob) (fin : Bool) : State :=
  let s := s.sxtFlush new
  let new := if new.serial.isSome then { new with out := [] } else new
  s.modSxt fun x => { x with jobs := x.jobs.flatMap fun k => if k == old then (if fin && new.serial.isSome then [] else [new]) else [k] }

/-- Schedule a job in an epoch that holds or follows its target and whose deadline lies at or after its ready instant. -/
def jobEpoch (j : SxtJob) (e : EpochRec) : Option Nat :=
  if j.target < e.start + e.period ∧ j.ready ≤ e.deadAt then some e.serial else none

/-- Is a closed snapshot an update snapshot (R199)? -/
def State.sxtDue (s : State) (target : Nat) : Bool :=
  s.sxt.fresh || match s.sxt.prev with
    | none => true
    | some p => let f := s.snapRate; let r := s.sxtRate
                decide ((1000000000 : Int) * (2 * f - r) ≤ ((target : Int) - p) * (2 * f * r))

/-- Sum and count of the valid thermistors of slot k at a snapshot. -/
def State.tileTemps (s : State) (k target : Nat) : Int × Nat :=
  let x := s.acqSlot k
  let ts := if x.lastTarget = target then ((x.last.map (·.temps)).getD []).filter tempOk else []
  (ts.foldl (· + ·) 0, ts.length)

/-- A snapshot has closed: it is kept for the prediction, and an update snapshot starts one update of every CELL and TILE context,
whose items are scheduled now (R199, R201). -/
def State.sxtClose (s : State) (target : Nat) : State :=
  if s.updPaused then s else
  let h := (target, s.acq.curNow) :: s.sxt.hist
  let g := s.sxt.gaps ++ (if s.sxt.gap then [target] else [])
  let s := s.modSxt fun x => { x with hist := h, gaps := g, gap := false }
  if !s.flag F.SXT_CTL_EN || !s.sxtDue target then s
  else
    let s := s.sxtLanes
    let cells := (List.range s.acq.npos).map fun p =>
      let a := s.posAcc p
      ({ reading := a.reading, bt := a.btCorr, reason := a.reason, temp := a.temp } : SxtCell)
    let tmin := 1000 * s.fld F.ACQ_CAP_TMIN
    let j : SxtJob := { target := target, prev := s.sxt.prev, snaps := h.reverse, gaps := g,
                        lanes := s.fld F.SXT_LANES_ACTIVE, cells := cells,
                        tiles := allSlots.map fun k => s.tileTemps k target,
                        ready := target + tmin + 5000 + 1000 * s.fld F.SXT_SCHED_TUPD,
                        first := !s.sxt.started, prest := !s.sxt.started && s.sxt.prest, serial := none, done := [], out := [],
                        held := [] }
    let cand := s.ep.closing ++ [s.ep.opn]
    let j := { j with serial := cand.findSome? (jobEpoch j) }
    let s := s.modSxt fun x => { x with hist := [], gaps := [], prev := some target, fresh := false, started := true, prest := false,
                                        jobs := x.jobs ++ [j] }
    let s := match j.serial with
      | some n => s.schedule n s.sxtItems
      | none => s
    s.setHeld F.SXT_STS_NOCUR s.acq.curNow.isNone

/-- The contexts of an update: CELL and TILE. -/
def State.sxtContexts (s : State) : List Nat :=
  List.range s.acq.npos ++ ((List.range 48).filter fun k => (s.acqSlot k).ncell != 0).map (976 + ·)

/-- Has an update been delivered whole? -/
def State.jobOver (s : State) (j : SxtJob) : Bool := s.sxtContexts.all (fun c => j.done.contains c) && j.held.isEmpty

/-- At an epoch boundary: updates that wait for an epoch whose deadline they can meet. -/
def State.sxtEpoch (s : State) : State :=
  s.sxt.jobs.foldl (fun s j =>
    if j.serial.isSome then s else match jobEpoch j s.ep.opn with
      | some n =>
        (s.schedule n s.sxtItems).putJob j { j with serial := some n } (s.jobOver j)
      | none => s) s

/-! ## The learned values (08_learning.md) -/

/-- A run in progress is voided with a reason of Table 8-2. -/
def State.lrnVoid (s : State) (p code : Nat) : State :=
  ((((s.setCxBits p 0xD8 30 2 0).setCxBits p 0xD8 26 4 code).setCxFlag p fLearn false).satAdd F.SXT_LRNCNT_VOID 1)

/-- The first row of Table 8-1: the state becomes IDLE, a run is voided with reason CONFIG. -/
def State.lrnConfig (s : State) (p : Nat) : State :=
  if s.cxBits p 0xD8 30 2 = 2 then s.lrnVoid p 9 else s.setCxBits p 0xD8 30 2 0

/-- The learned capacity changes: qinv is set to 1/CAPL and its variance to P0Q (R196). -/
def State.setCapl (s : State) (p : Nat) (capl : Fl) : State :=
  let d := s.dscOf p
  let q := r32 (fdiv (fint 1) (r32 capl))
  let s := (s.setCxF p 0xD0 capl).setCxF p 0xBC q
  if slotActive (s.cxBits p 0 25 3) 5 && s.cxFlag p fEst then
    (s.setCxF p (8 + 4 * 5) q).setCxF p (0x28 + 4 * pIndex 5 5) (d.p0 5)
  else s

/-- VFULL and VEMPTY in mV and SPAN in 0.1 % of descriptor d, as they are in use. -/
def State.lrnFull (s : State) (d : Nat) : Nat := getBits (s.sxt.lrnUse.getD d (0, 0x3E8)).1 16 16
def State.lrnEmpty (s : State) (d : Nat) : Nat := getBits (s.sxt.lrnUse.getD d (0, 0x3E8)).1 0 16
def State.lrnSpan (s : State) (d : Nat) : Nat := getBits (s.sxt.lrnUse.getD d (0, 0x3E8)).2 0 10

/-- SXT_LRNV and SXT_LRNSPAN as they have been written. -/
def State.lrnTables (s : State) : List (Word × Word) :=
  (List.range 4).map fun d => (s.word (Reg.SXT_LRNV d), s.word (Reg.SXT_LRNSPAN d))

/-- May learning run for a position (R218)? -/
def State.lrnRuns (s : State) (p : Nat) : Bool :=
  s.flag F.SXT_LRNCTL_LEN && s.lrnFull (s.dscOf p).2 != 0 && !s.cxFlag p fNotRest

/-- Is this unit the active one, or the only one (R225, R446)? -/
def State.mayCommit (s : State) : Bool := !s.flag F.RDN_CTL_TWIN || s.fld F.RDN_STS_ROLE == 3 || s.fld F.RDN_STS_ROLE == 4

/-- Journal mode: an accepted APPLY has given 1 to 320 positions (R226). -/
def State.journalMode (s : State) : Bool := !s.flag F.SXT_LRNSTS_MODE && s.acq.npos != 0

/-- The trigger of a journal save (R229, R230): none but in journal mode; further triggers merge into the one that waits. -/
def State.saveTrig (s : State) (code : Nat) : State :=
  if s.journalMode then s.modSxt fun x => { x with trig := x.trig <|> some code } else s

/-- The learn-empty event: Cmeas, and CAPL moved towards it (R224). -/
def State.lrnDone (s : State) (p : Nat) : State :=
  let d := s.dscOf p
  let capl := s.cxF p 0xD0
  let cm := r32 (fdiv (s.cxF p 0xEC) (fdec (s.lrnSpan d.2) 1000))
  let s := s.setCxF p 0xF4 cm
  if Fl.lt cm (fmul (fdec 1 2) d.crated) || Fl.lt (fmul (fdec 3 2) d.crated) cm || !cm.isFinite then s.lrnVoid p 8
  else
    let dl := fmul (fdec 1 4) (fsub cm capl)
    let lim := fmul (fdec 5 100) capl
    let cut := Fl.lt lim dl || Fl.lt dl lim.neg
    let new := fadd capl (Fl.clampF lim.neg lim dl)
    let s := ((s.setCxF p 0xF8 capl).setCapl p new).setCxBits p 0xD8 25 1 (b2n cut)
    let s := (s.setCxBits p 0xD8 0 16 (min 0xFFFF (s.cxBits p 0xD8 0 16 + 1))).setCxBits p 0xD8 30 2 0
    let s := ((s.setCxWord p 0xFC (nw (s.calMs / 1000))).setCxFlag p fLearn false).satAdd F.SXT_LRNCNT_DONE 1
    (s.logEvent 0x0601 0 (nw p) [capl.toWord, s.cxWord p 0xD0, cm.toWord]).saveTrig 2

/-- QEP over the snapshots of an update: charge of the present charge episode, Ah (R222). -/
def episode (gaps : List Nat) (t0 : Nat) (q : Fl) : List (Nat × Option Int) → Fl
  | [] => q
  | (t, some i) :: l =>
    episode gaps t (if gaps.contains t then Fl.zero
      else if i < 0 then fadd q (fdiv (fmul (amps i).abs (secs (t - t0))) (fint 3600)) else Fl.zero) l
  | (t, none) :: l => episode gaps t Fl.zero l

/-- The learning state of a position moves at an update (Table 8-1): rd is the cell's reading in 10 µV when valid, cur the current in
mA when valid, t the temperature used. It moves on the active unit only (R225). -/
def State.lrnStep (s : State) (p : Nat) (j : SxtJob) (rd cur : Option Int) (t : Fl) (q : Charge) : State :=
  if !s.mayCommit then s else
  let d := s.dscOf p
  let ma20 := fdiv d.crated (fint 20)
  let runs := s.lrnRuns p
  let full := match rd, cur with
    | some v, some i => decide (100 * (s.lrnFull d.2 : Int) ≤ v) && Fl.lt (amps i).abs ma20
    | _, _ => false
  let f0 := s.cxLong p 0xDC
  let f := if full then (if f0 = 0 then j.target else f0) else 0
  let s := s.setCxLong p 0xDC f
  let evFull := f0 != 0 && f != 0 && decide (f + 60000000000 ≤ j.target) &&
    decide (j.prev.getD 0 < f + 60000000000)
  let low := match rd with
    | some v => decide (v ≤ 100 * (s.lrnEmpty d.2 : Int))
    | none => false
  let a5 := fdiv d.crated (fint 5)
  let enter := fun (s : State) =>
    ((((s.setCxBits p 0xD8 30 2 2).setCxLong p 0xE4 j.target).setCxWord p 0xEC 0).setCxWord p 0xF0 0).setCxFlag p fLearn true
      |>.modSide p fun x => { x with capl0 := s.cxWord p 0xD0 }
  match s.cxBits p 0xD8 30 2 with
  | 0 => if runs && f != 0 then s.setCxBits p 0xD8 30 2 1 else s
  | 1 => if !runs then s.setCxBits p 0xD8 30 2 0 else if evFull then enter s else s
  | _ =>
    let s := (s.setCxF p 0xEC (fadd (s.cxF p 0xEC) (fdiv q.qc (fint 3600)))).setCxF p 0xF0
      (match j.prev with
       | some t0 => episode j.gaps t0 (s.cxF p 0xF0) j.snaps
       | none => s.cxF p 0xF0)
    if Fl.lt t (fint 15) || Fl.lt (fint 35) t || s.cxFlag p fTsub then s.lrnVoid p 1
    else if Fl.lt (fmul (fdec 5 1000) (Fl.ofWord (s.sxtSide p).capl0)) (s.cxF p 0xF0) then s.lrnVoid p 2
    else if s.cxLong p 0xE4 + 259200000000000 ≤ j.target then s.lrnVoid p 3
    else if rd.isNone then s.lrnVoid p 4
    else if Fl.lt Fl.zero q.tu then s.lrnVoid p 5
    else if s.cxFlag p fDis then s.lrnVoid p 6
    else if low && (match cur with | some i => Fl.lt a5 (amps i) | none => false) then s.lrnVoid p 7
    else if evFull then enter s
    else if low && (match cur with | some i => decide (0 ≤ i) | none => false) then s.lrnDone p
    else s

/-! ## The context update (R192 to R213) -/

/-- Meridian, in units of 2^-40 ns, at a Dial instant, by the rate in force. -/
def State.merOf (s : State) (t : Nat) : Nat :=
  (s.time.mer + ((t : Int) - s.dial) * (2 ^ 40 + (s.word Reg.TIME_RATE).toInt + s.time.slew)).toNat

/-- Azimuth's internal temperature of a position at an update snapshot, °C, while it is valid (R256). -/
def State.azmTemp (s : State) (p target : Nat) : Option Fl :=
  match (Tab.get (fun _ => AzmPos.reset) s.azm.pos p).tint with
  | some (c, e) =>
    if s.merOf target ≤ e + max 1 (s.fld F.AZM_TCFG_TAGE) * 1000000000 * 2 ^ 40 then some (fdec c 100) else none
  | none => none

/-- The temperature source of a cell, when it is valid, and whether Azimuth supplies it (R203). -/
def State.cellT (s : State) (p : Nat) (j : SxtJob) (x : SxtCell) : Option Fl × Bool :=
  let src := (s.dscOf p).tsrc
  let th := x.temp.map fun c => fdec c 100
  if src = 1 ∨ (src = 0 ∧ s.ep.prof = 2) then
    match s.azmTemp p j.target with
    | some t => (some t, true)
    | none => (th, false)
  else if src = 2 then
    match s.slotOfPos p with
    | some (k, _) => (if (s.sxtSide (976 + k)).tOk then some (s.cxF (976 + k) 0x160) else none, false)
    | none => (none, false)
  else (th, false)

/-- Rest over the snapshots of an update (R206): TREST0 (all ones while not at rest) and PRERESTED. -/
def restStep (lim : Fl) (a : Nat × Bool) (x : Nat × Option Int) : Nat × Bool :=
  match x.2 with
  | some ma => if Fl.lt (amps ma).abs lim then ((if a.1 = 2 ^ 64 - 1 then x.1 else a.1), a.2) else (2 ^ 64 - 1, false)
  | none => (2 ^ 64 - 1, a.2)

/-- DISCNT and SOC_DISAGREE after a measurement update (R211). -/
def State.disagreeStep (s : State) (c : Nat) (nu sv : Fl) : State :=
  let d := s.dscOf c
  let ndis := d.param 31
  if Fl.lt (fmul (d.param 30) (Fl.sqrt b64 sv)) nu.abs then
    let n0 := s.cxBits c 4 24 8
    let n := min 255 (n0 + 1)
    let s := (s.setCxBits c 4 24 8 n).modSide c fun x => { x with agree := 0 }
    if Fl.le ndis (fint n) && Fl.lt (fint n0) ndis then
      let s := s.setCxFlag c fDis true
      let x := s.cx c
      let new := r32 (fmul (d.param 32) (d.param 32))
      let old := x.pe 0 0
      if Fl.lt old new then
        let k := Fl.sqrt b64 (fdiv new old)
        s.storeCx c (x.setP fun i j => if i = 0 ∧ j = 0 then new else if i = 0 then fmul (x.pe 0 j) k else x.pe i j)
      else s
    else s
  else
    let a := (s.sxtSide c).agree + 1
    let s := (s.setCxBits c 4 24 8 0).modSide c fun x => { x with agree := a }
    if Fl.le ndis (fint a) then s.setCxFlag c fDis false else s

/-- The checks after an update: P repaired (R195), parameter states held (R196), the flags they set. -/
def State.checkCx (s : State) (c : Nat) : State :=
  let d := s.dscOf c
  let x := s.cx c
  let bad := x.badP
  let x := if bad then x.initP d else x
  let s := if bad then
      (((s.setCxFlag c fNum true).satAdd ⟨Reg.SXT_NUMCNT, 31, 0⟩ 1).raiseEv F.SXT_STS_NUMERIC).pmcEvent 1 0x23 1 else s
  let nf := (activeSlots x.model).any fun k => !(x.st k).isFinite
  let s := s.when nf fun s => s.modSide c fun y => { y with needFirst := true }
  let r := x.clampPars d
  (s.storeCx c r.1).setCxFlag c fClamp r.2

/-- Usable SOC as a fraction within 0 to 1. -/
def Cx.usoc (x : Cx) (d : Dsc) : Fl := Fl.clampF Fl.zero (fint 1) (x.usable d)

/-- The limits and the flags that follow from the states (R208, R212, R213). -/
def State.outputsCx (s : State) (c : Nat) (t : Fl) : State :=
  let d := s.dscOf c
  let x := s.cx c
  let lim := [2, 10, 60].map fun h => x.limit d t h
  let s := s.putCx c 0x120 ((lim.map fun l => l.1.toWord) ++ lim.map fun l => l.2.toWord)
  let u := encFrac (x.usoc d)
  let raw := Fl.toIntAway (fmul (x.st 0) (fint 65535))
  let s := (s.setCxFlag c fEmpty (u == 0)).setCxFlag c fFull (u == 65535)
  let s := s.when (decide (raw < 0 ∨ 65535 < raw)) fun s => s.setCxFlag c fClip true
  s.when (Fl.lt (Fl.sqrt b64 (x.pe 0 0)) (fdec 2 100)) fun s => s.setCxFlag c fFirst false

/-- One update of a CELL context (R192 to R213, R221). -/
def State.cellUpdate (s : State) (j : SxtJob) (c : Nat) : State :=
  let x := j.cells.getD c { reading := none, bt := false, reason := 7, temp := none }
  let cur := (j.snaps.getLast?.map (·.2)).getD none
  let s := (s.setCxWord c 0x1F8 (s.cxWord c 0x1F8 + 1)).pmcEvent 1 0x20 1
  let s := (s.setCxFlag c fNoCur cur.isNone).setCxFlag c fHeld x.reading.isNone
  if !s.dscReady then s
  else
    let d := s.dscOf c
    let q := chargeOf d.etac j.gaps j.prev j.target j.snaps
    -- temperature (R203)
    let src := s.cellT c j x
    let t := match src.1 with
      | some v => v
      | none => if (s.sxtSide c).tOk then s.cxF c 0x10C else d.param 36
    let s := s.when src.1.isSome fun s => s.modSide c fun y => { y with tOk := true }
    let s := ((s.setCxFlag c fTsub src.1.isNone).setCxFlag c fTazm src.2).setCxF c 0x10C t
    let s := [fClip, fClamp, fNum].foldl (fun s b => s.setCxFlag c b false) (s.setCxLong c 0x140 j.target)
    -- rest (R206)
    let lim := fdiv d.crated (fint 50)
    let r := j.snaps.dropLast.foldl (restStep lim) (s.cxLong c 0x158, (s.sxtSide c).prest)
    let r := j.snaps.getLast?.toList.foldl (restStep lim) (r.1, r.2 || j.prest)
    let s := (s.setCxLong c 0x158 r.1).modSide c fun y => { y with prest := r.2, needFirst := y.needFirst || j.first }
    let rested := r.2 || (r.1 != 2 ^ 64 - 1 && Fl.le (d.param 12) (secs (j.target - r.1)))
    let est := s.cxFlag c fEst
    let tinv := s.cxLong c 0x150
    let fin := fun (s : State) (nu sv : Fl) =>
      let s := s.checkCx c
      let s := s.when sv.isFinite fun s => if sv.isZero then s else s.disagreeStep c nu sv
      let s := s.lrnStep c j x.reading cur t q
      let s := s.outputsCx c t
      let iA := (cur.map amps).getD Fl.zero
      let y := s.cx c
      s.putCx c 0x100 ([nu, sv, d.ocv (y.st 0) t, t, iA, q.qc].map Fl.toWord)
    match x.reading with
    | none =>
      let s := s.when (tinv == 0) fun s => s.setCxLong c 0x150 j.target
      let s := s.when (x.reason == 1 || x.reason == 2 || x.reason == 6) fun s => s.modSide c fun y => { y with invBad := true }
      if !est then s.lrnStep c j none cur t q
      else
        let n := (s.cx c).predict d q t true
        fin ((s.storeCx c n.1).setCxFlag c fClip n.2) Fl.zero Fl.zero
    | some rd =>
      let v := fdec rd 100000
      let back := tinv != 0 && ((s.sxtSide c).invBad || decide (tinv + 1000000000 * s.fld F.SXT_REINIT_SEC < j.target))
      let s := (s.setCxLong c 0x150 0).modSide c fun y => { y with invBad := false, needFirst := y.needFirst || back }
      if (s.sxtSide c).needFirst || !est then
        let fr := s.freshNat
        let known := cur.isSome || rested
        let s := if known then s else fr.2
        let i := match cur with
          | some ma => amps ma
          | none => if rested then Fl.zero else amps (signed 32 fr.1)
        let n := (s.cx c).first d t v i rested est (if s.cxFlag c fNotRest then 4 else 1)
        let s := (s.storeCx c n).modSide c fun y => { y with needFirst := false }
        let s := (s.setCxFlag c fEst true).setCxFlag c fFirst true
        fin (s.setCxLong c 0x148 j.target) Fl.zero Fl.zero
      else
        let n := (s.cx c).predict d q t false
        match cur with
        | some ma =>
          let m := n.1.correct d t v (amps ma) x.bt
          fin (((s.storeCx c m.1).setCxFlag c fClip (n.2 || m.2.2.2)).pmcEvent 1 0x21 1) m.2.1 m.2.2.1
        | none => fin ((s.storeCx c n.1).setCxFlag c fClip n.2) Fl.zero Fl.zero

/-- One update of a TILE context: the core temperature of the module (R204). The current of the update snapshot stands for i; where
it is invalid its value is free. -/
def State.tileUpdate (s : State) (j : SxtJob) (c : Nat) : State :=
  let k := c - 976
  let cur := (j.snaps.getLast?.map (·.2)).getD none
  let s := (s.setCxWord c 0x1F8 (s.cxWord c 0x1F8 + 1)).pmcEvent 1 0x20 1
  let s := s.setCxFlag c fNoCur cur.isNone
  if !s.dscReady then s
  else
    let x := s.acqSlot k
    let fr := s.freshNat
    let s := if cur.isSome then s else fr.2
    let i := amps (cur.getD (signed 32 fr.1))
    let heat := fsum (((List.range x.ncell).filter fun n => s.cxFlag (x.basep + n) fEst).map fun n =>
      let p := x.basep + n
      let y := s.cx p
      let d := s.dscOf p
      let t := s.cxF p 0x10C
      fadd (fmul (fmul (fmul i i) (y.par 4)) (d.fr t)) (fmul (fmul i (fadd t (fdec 27315 100))) (d.e (y.st 0))))
    let d := s.dscOf x.basep
    let tt := j.tiles.getD k (0, 0)
    let s := if tt.2 = 0 then s
      else
        let ts := fdiv (fdec tt.1 100) (fint tt.2)
        if !(s.sxtSide c).tOk then (s.setCxF c 0x160 ts).modSide c fun y => { y with tOk := true }
        else
          let dt := match j.prev with
            | some t0 => secs (j.target - t0)
            | none => Fl.zero
          let top := fadd ts (fmul heat (d.param 37))
          let a := Fl.exp b64 (fdiv dt.neg (fmul (d.param 37) (d.param 38)))
          s.setCxF c 0x160 (fadd top (fmul (fsub (s.cxF c 0x160) top) a))
    (s.setCxF c 0x164 heat).setCxLong c 0x140 j.target

/-! ## The Sextant record (R212 to R217) -/

/-- The five words of a position (Table 7-6). -/
def State.sxtPosWords (s : State) (p : Nat) : List (Nat × Word) :=
  let b := sxtBase + 16 + 5 * p
  let fl := s.cxBits p 4 0 15
  if !s.cxFlag p fEst then [(b, 0), (b + 1, nw fl), (b + 2, 0), (b + 3, 0), (b + 4, 0)]
  else
    let d := s.dscOf p
    let x := s.cx p
    let cap := if x.model = 0 ∨ x.model = 3 then fdiv (fint 1) (x.par 5) else x.capl
    let t := encUnit (s.cxF p 0x10C) 100 (-32767) 32767
    [(b, nw (65536 * encFrac (x.st 0) + encFrac (x.usoc d))),
     (b + 1, nw (65536 * encFrac (Fl.sqrt b64 (x.pe 0 0)) + fl)),
     (b + 2, nw (65536 * (encUnit (x.par 4) 1000000 0 65535).toNat + (t % 65536).toNat)),
     (b + 3, nw (65536 * (encUnit (s.cxF p 0x108) 10000 0 65535).toNat + (encUnit (fdiv cap d.crated) 10000 0 65535).toNat)),
     (b + 4, nw (0x10000000 * x.model + (encUnit cap 1000 0 0xFFFFFF).toNat))]

/-- The smallest of a list of values, the first among equals. -/
def leastF : List Fl → Fl
  | [] => Fl.zero
  | a :: l => l.foldl Fl.minF a

/-- Energy to the reserves over the estimated cells, Wh (R215): true for discharge. -/
def State.energy (s : State) (est : List Nat) (dis : Bool) : Nat :=
  let lo := fun p => fdiv ((s.dscOf p).param 10) (fint 100)
  let hi := fun p => fdiv ((s.dscOf p).param 11) (fint 100)
  let q := leastF (est.map fun p =>
    let x := s.cx p
    if dis then fdiv (fsub (x.st 0) (lo p)) (x.par 5) else fdiv (fsub (fsub (fint 1) (hi p)) (x.st 0)) (x.par 5))
  if !Fl.lt Fl.zero q then 0
  else
    let sum := fsum (est.map fun p =>
      let x := s.cx p
      let ds := fmul q (x.par 5)
      let d := s.dscOf p
      let t := s.cxF p 0x10C
      let a := if dis then d.area t (fsub (x.st 0) ds) (x.st 0) else d.area t (x.st 0) (fadd (x.st 0) ds)
      fdiv a (x.par 5))
    (clampI 0 0xFFFFFFFF (Fl.floorInt sum)).toNat

/-- A value in A as mA, truncated toward zero. -/
def toMa (f : Fl) : Word :=
  let m := Fl.floorInt (fmul f.abs (fint 1000))
  iw (clampI (-(2 ^ 31)) (2 ^ 31 - 1) (if f.isNeg then -m else m))

/-- Words 2 to 13 of the record (Table 7-6). -/
def State.sxtStringWords (s : State) (j : SxtJob) : List (Nat × Word) :=
  let all := List.range s.acq.npos
  let est := all.filter fun p => s.cxFlag p fEst
  let any := fun b => all.any fun p => s.cxFlag p b
  let inc := est.length != s.acq.npos
  let us := est.map fun p => encFrac ((s.cx p).usoc (s.dscOf p))
  let weak := est.foldl (fun (w : Option Nat) p => match w with
    | none => some p
    | some o => if Fl.lt ((s.cx p).usoc (s.dscOf p)) ((s.cx o).usoc (s.dscOf o)) then some p else some o) none
  let lim := fun (off : Nat) (f : Fl → Fl → Fl) =>
    if est.isEmpty || (inc && !s.flag F.SXT_CTL_PARTIAL) then (0 : Word)
    else match est.map fun p => s.cxF p off with
      | [] => 0
      | a :: l => toMa (l.foldl f a)
  let b := sxtBase
  [(b + 2, nw (65536 * us.foldl min 65535 * b2n (!us.isEmpty) + us.foldl max 0)),
   (b + 3, nw (65536 * weak.getD 0x3FF + 0x4000 * b2n inc + 0x2000 * b2n (any fNoCur) + 0x1000 * b2n (any fDis) + 0x800 * b2n (any fFirst)
      + 0x400 * b2n (any fHeld) + 0x200 * b2n (any fEmpty) + 0x100 * b2n (any fFull))),
   (b + 4, nw (s.energy est true)), (b + 5, nw (s.energy est false)),
   (b + 6, lim 0x120 Fl.minF), (b + 7, lim 0x124 Fl.minF), (b + 8, lim 0x128 Fl.minF),
   (b + 9, lim 0x12C Fl.maxF), (b + 10, lim 0x130 Fl.maxF), (b + 11, lim 0x134 Fl.maxF),
   (b + 12, nw j.target), (b + 13, nw est.length)]

/-- Live bits that follow the flags of the contexts (R211, R214). -/
def State.sxtStatus (s : State) : State :=
  let all := List.range s.acq.npos
  (s.setHeld F.SXT_STS_INCOMPLETE (all.any fun p => !s.cxFlag p fEst)).setHeld F.SXT_STS_DISAGREE (all.any fun p => s.cxFlag p fDis)

/-- STALE of each context follows the commit that carried its item (R217). -/
def State.sxtStaleMarks (s : State) (stale : List ItemId) : State :=
  (List.range s.acq.npos).foldl (fun s p => s.setCxFlag p 15 (stale.contains (itemSxtPos p))) s

/-- Is context c still to be delivered in an update? -/
def SxtJob.waits (j : SxtJob) (c : Nat) : Bool := !j.done.contains c || j.held.any fun h => h.1 == c

/-- The cells of lane l of an update, ascending (R200). -/
def State.laneCells (s : State) (j : SxtJob) (l : Nat) : List Nat :=
  let b := (s.acq.npos + j.lanes - 1) / j.lanes
  (List.range b).map (l * b + ·) |>.filter (· < s.acq.npos)

/-- May context c be delivered in an update: its turn in its lane has come, and a TILE context follows every cell of its lane and of
its tile (R200)? -/
def State.sxtReady (s : State) (j : SxtJob) (c : Nat) : Bool :=
  j.waits c && s.sxtContexts.contains c &&
    (if c < 976 then (s.laneCells j (c / ((s.acq.npos + j.lanes - 1) / j.lanes))).all fun p => decide (c ≤ p) || !j.waits p
     else
       let x := s.acqSlot (c - 976)
       ((List.range x.ncell).all fun n => !j.waits (x.basep + n)) && (s.laneCells j ((c - 976) % j.lanes)).all fun p => !j.waits p)

/-- The update of a context: what it delivers is held until its lane delivers it; the string section, under 1024, is formed after
the last cell. -/
def State.cxCompute (s : State) (j : SxtJob) (c : Nat) : SxtJob × State :=
  let s := (if c < 976 then s.cellUpdate j c else s.tileUpdate j c).sxtStatus
  let done := j.done ++ [c]
  let last := decide (c < 976) && (List.range s.acq.npos).all fun p => done.contains p
  let items := (if c < 976 then [(c, [(itemSxtPos c, s.sxtPosWords c)])] else []) ++
    (if last then [(1024, [(itemSxtString, s.sxtStringWords j)])] else [])
  ({ j with done := done, held := j.held ++ items }, s)

/-- A lane delivers context c: its item, and after the last cell the string section. -/
def State.cxDeliver (s : State) (j : SxtJob) (c : Nat) : SxtJob :=
  let j := { j with out := j.out ++ (j.held.filter fun h => h.1 == c).flatMap (·.2), held := j.held.filter fun h => h.1 != c }
  if (List.range s.acq.npos).all fun p => !j.waits p then
    { j with out := j.out ++ (j.held.filter fun h => h.1 == 1024).flatMap (·.2), held := j.held.filter fun h => h.1 != 1024 }
  else j

/-- CONTEXT_UPDATE_DONE: a lane finishes context c's earliest update and delivers its items; the string section follows the last
cell. -/
def execContextUpdateDone (t c : Nat) (s : State) : Out :=
  let s := s.at t
  .next (match s.sxt.jobs.find? fun j => j.waits c with
    | none => s
    | some j =>
      if !s.sxtReady j c then s
      else
        let r := if j.done.contains c then (j, s) else s.cxCompute j c
        let n := r.2.cxDeliver r.1 c
        r.2.putJob j n (r.2.jobOver n))

/-- Updates still running at a boundary that changes what they use are computed whole under the tables and models of before it (R17);
DESIGN CHOICE (log entry 104). Their lanes deliver them as before. -/
def State.sxtCatchUp (s : State) : State :=
  s.sxt.jobs.foldl (fun s j =>
    let r := (s.sxtContexts.filter fun c => !j.done.contains c).foldl (fun (a : SxtJob × State) c => a.2.cxCompute a.1 c) (j, s)
    r.2.putJob j r.1 false) s

/-- Does the coming boundary change tables, models or learned values that an update uses? -/
def State.sxtChanges (s : State) : Bool :=
  s.fld F.SYS_PROFILE_PROFILE != s.ep.prof || s.sxt.dapply || s.sxt.restore.isSome || s.sxt.nominal || s.sxt.lrnUse != s.lrnTables

/-! ## Allocation, model changes and descriptors (R44, R190, R197, R232, R233) -/

/-- The nominal FIXED values of a position, and NOT_RESTORED (R190, R233). -/
def State.sxtNominal (s : State) (p : Nat) : State :=
  let d := s.dscOf p
  let x := s.cx p
  let q := r32 (fdiv (fint 1) d.crated)
  let s := s.storeFixed p { x with rs := d.param 2, qinv := q, ra := d.param 3, rb := d.param 5, taua := d.param 4,
                                   taub := d.param 6, capl := d.crated }
  let start := fun (s : State) k v => if slotActive x.model k && s.cxFlag p fEst then
    (s.setCxF p (8 + 4 * k) v).setCxF p (0x28 + 4 * pIndex k k) (fmul (fint 4) (d.p0 k)) else s
  (start (start s 4 (d.param 2)) 5 q).setCxFlag p fNotRest true

/-- LRNSTS.NOT_RESTORED follows the positions. -/
def State.sxtNotRestored (s : State) : State :=
  s.setHeld F.SXT_LRNSTS_NOT_RESTORED ((List.range s.acq.npos).any fun p => s.cxFlag p fNotRest)

/-- A context's model becomes the one in force: dropped parameter states stay as fixed values, new slots start from the context's
values (R44). -/
def State.sxtModel (s : State) (p : Nat) : State :=
  let d := s.dscOf p
  let old := s.cxBits p 0 25 3
  let new := s.modelOf p
  let x := s.cx p
  let s := (s.setCxBits p 0 25 3 new).setCxBits p 0 28 2 d.2
  if old = new then s
  else if !s.cxFlag p fEst then
    let y := { x with model := new, x := (List.range 8).map fun k => if slotActive new k then x.st k else Fl.zero }
    s.storeCx p (y.setP x.pe)
  else
    let drop := fun k => slotActive old k && !slotActive new k
    let take := fun k => slotActive new k && !slotActive old k
    let keep := fun k (f : Fl) => if drop k then x.st k else f
    let y := { x with model := new, rs := keep 4 x.rs, qinv := keep 5 x.qinv, ra := keep 6 x.ra, rb := keep 7 x.rb }
    let start := fun k => if k = 4 then y.rs else if k = 5 then r32 (fdiv (fint 1) y.capl) else if k = 6 then y.ra else if k = 7 then y.rb else Fl.zero
    let y := { y with x := (List.range 8).map fun k => if take k then start k else if slotActive new k then x.st k else Fl.zero }
    let y := y.setP fun i j => if take i || take j then (if i = j then d.p0 i else Fl.zero) else x.pe i j
    (s.storeFixed p y).storeCx p y

/-- Every context takes the model in force. -/
def State.sxtModels (s : State) : State := (List.range s.acq.npos).foldl State.sxtModel s

/-- A restart of a position under a new descriptor (R190). -/
def State.sxtRestart (s : State) (p : Nat) : State :=
  ((s.lrnConfig p).sxtNominal p).setCxFlag p fEst false

/-- The first descriptors come into use: a position that gets another number than 0 or is without learned values restarts, one that
has kept number 0 with restored learned values keeps them and takes the other nominal values. -/
def State.sxtBegin (s : State) (p : Nat) : State :=
  if s.cxFlag p fNotRest || (s.dscOf p).2 != 0 then s.sxtRestart p
  else
    let d := s.dscOf p
    let x := s.cx p
    s.storeFixed p { x with qinv := r32 (fdiv (fint 1) x.capl), ra := d.param 3, rb := d.param 5, taua := d.param 4, taub := d.param 6 }

/-- At the boundary after DAPPLY: all images and the map into use, or none (R190). -/
def State.dapplyTake (s : State) : State :=
  if !s.sxt.dapply then s
  else
    let s := s.modSxt fun x => { x with dapply := false }
    let bad := (List.range 4).findSome? fun d => let c := Dsc.check (s.sxt.mem, d); if c = 0 then none else some (d, c)
    let badMap := (List.range 640).find? fun p => decide (3 < mapByte s.sxt.mem p)
    match bad, badMap with
    | some (d, c), _ => (s.setWord Reg.SXT_DESCERR (nw (256 * d + c))).raiseEv F.SXT_STS_DESC_REJ
    | none, some p => (s.setWord Reg.SXT_DESCERR (nw (65536 * p + 7))).raiseEv F.SXT_STS_DESC_REJ
    | none, none =>
      let old := s.sxt.use
      let ready := s.dscReady
      let new := s.sxt.mem.filter fun e => decide (0x20000 ≤ e.1 ∧ e.1 < 0x210A0)
      let image := fun (m : Store) (d : Nat) => m.filter fun e => decide (0x20000 + 0x400 * d ≤ e.1 ∧ e.1 < 0x20400 + 0x400 * d)
      let s := (s.setWord Reg.SXT_DESCERR 0).modSxt fun x => { x with use := new }
      let s := (List.range s.acq.npos).foldl (fun s p =>
        let a := mapByte old p % 4
        let b := mapByte new p % 4
        let s := if ready = false then s.sxtBegin p else if a ≠ b then s.sxtRestart p
          else if image old a ≠ image new a then s.lrnConfig p else s
        s.sxtModel p) s
      let s := (allSlots.filter fun k => (s.acqSlot k).ncell != 0).foldl (fun s k =>
        s.setCxBits (976 + k) 0 28 2 (s.dscOf (s.acqSlot k).basep).2) s
      s.sxtNotRestored.sxtStatus.sxtSched

/-- Clear a context to 0. -/
def State.clearCx (s : State) (c : Nat) : State :=
  (s.modSxt fun x => { x with mem := x.mem.filter fun e => decide (e.1 / 0x80 ≠ c) }).modSide c fun _ => SxtSide.reset

/-- Give a context its kind; a change of kind clears it to 0 (R197). -/
def State.sxtKind (s : State) (c kind : Nat) : State :=
  if s.cxKind c = kind then s
  else
    let s := s.clearCx c
    if kind = 0 then s
    else
      let n := if kind = 2 then c - 976 else c
      let p := if kind = 2 then (s.acqSlot n).basep else c
      let s := s.setCxWord c 0 (nw (0x40000000 * kind + 0x10000000 * (s.dscOf p).2 + n))
      if kind = 2 then s else (s.setCxLong c 0x158 (2 ^ 64 - 1)).sxtModel c

/-- SXT_CTL written: EN starts and stops updates, PRERESTED and DAPPLY act (R190, R199, R206). -/
def State.sxtctlWrite (s : State) (v : Word) : State :=
  let was := s.flag F.SXT_CTL_EN
  let s := s.setWord Reg.SXT_CTL (v &&& 0x80000008#32)
  let on := v.getLsbD 31
  let s := s.when (on && !was) fun s => s.modSxt fun x => { x with fresh := true, started := false }
  let s := s.when (v.getLsbD 1 && !(on && s.sxt.started)) fun s => s.modSxt fun x => { x with prest := true }
  let s := s.when (v.getLsbD 0) fun s => s.modSxt fun x => { x with dapply := true }
  s.sxtSched

/-- PRERESTED: SXT_CTL written with its other fields as they stand. -/
def execPrerested (t : Nat) (_m : Master) (s : State) : Out :=
  let s := s.at t
  .next (s.sxtctlWrite (s.word Reg.SXT_CTL ||| 2))

end Sys2Proof.Machine
end

