-- ==== Sys2Proof/Machine/Learning.lean ====
section
/-! DEFINITION. The learned store: images, the journal, restore, nominal values and export, and the allocation of contexts (08_learning.md, R197). -/

namespace Sys2Proof.Machine

/-! ## Images (Table 8-4) -/

def lrnMagic : Word := 0x4C535431#32

/-- Where the staging area starts, by word of Sextant memory. -/
def stagingKey : Nat := 0x21400

/-- CRC-32C over the n records of an image at word b. -/
def imageRcrc (m : Store) (b n : Nat) : Word := crc32c (wordsBytes (Store.getAll zeroWord m (b + 8) (4 * n)))

/-- MAGIC and HCRC of the header at word b. -/
def imageHead (m : Store) (b : Nat) : Bool :=
  Tab.get zeroWord m b == lrnMagic && Tab.get zeroWord m (b + 7) == crc32c (wordsBytes (Store.getAll zeroWord m b 7))

/-- The first failure of an image for n positions: 0 valid, 1 MAGIC or HCRC, 2 COUNT, 3 RCRC (R226, R234). -/
def imageCheck (m : Store) (b n : Nat) : Nat :=
  if !imageHead m b then 1
  else if (Tab.get zeroWord m (b + 2)).toNat ≠ n then 2
  else if Tab.get zeroWord m (b + 6) ≠ imageRcrc m b n then 3
  else 0

/-- Does an image fail only because its COUNT differs (R232)? -/
def imageOther (m : Store) (b n : Nat) : Bool :=
  let c := (Tab.get zeroWord m (b + 2)).toNat
  imageHead m b && c != n && decide (c ≤ 320) && Tab.get zeroWord m (b + 6) == imageRcrc m b c

/-- The words of a position's record: CAPL, RS, LCOUNT with DESC, LCAL. -/
def State.lrnRecord (s : State) (p : Nat) : List Word :=
  let rs := if slotActive (s.cxBits p 0 25 3) 4 && s.cxFlag p fEst then s.cxWord p (8 + 4 * 4) else s.cxWord p 0xB8
  [s.cxWord p 0xD0, rs, nw (s.cxBits p 0xD8 0 16 + 65536 * (s.dscOf p).2), s.cxWord p 0xFC]

/-- The records of every position as they stand. -/
def State.lrnRecords (s : State) : List Word := (List.range s.acq.npos).flatMap s.lrnRecord

/-- A header over records. -/
def State.lrnHeader (s : State) (seq : Word) (trig : Nat) (recs : List Word) : List Word :=
  let h := [lrnMagic, seq, nw s.acq.npos, nw s.calMs, nw (s.calMs / 2 ^ 32), nw trig, crc32c (wordsBytes recs)]
  h ++ [crc32c (wordsBytes h)]

/-- A position takes learned values: CAPL, the Rs value, LCOUNT and LCAL; NOT_RESTORED clears (R232, R234). -/
def State.lrnTake (s : State) (p : Nat) (m : Store) (b : Nat) : State :=
  let w := fun k => Tab.get zeroWord m (b + 8 + 4 * p + k)
  let d := s.dscOf p
  let s := ((s.setCapl p (Fl.ofWord (w 0))).setCxWord p 0xB8 (w 1)).setCxFlag p fNotRest false
  let s := (s.setCxBits p 0xD8 0 16 (getBits (w 2) 0 16)).setCxWord p 0xFC (w 3)
  if slotActive (s.cxBits p 0 25 3) 4 && s.cxFlag p fEst then
    (s.setCxWord p (8 + 4 * 4) (w 1)).setCxF p (0x28 + 4 * pIndex 4 4) (d.p0 4)
  else s

/-! ## The journal (R227 to R232) -/

/-- Is a slot's image valid? -/
def State.slotValid (s : State) (m : Store) : Bool := s.acq.npos != 0 && imageCheck m 0 s.acq.npos == 0

/-- The slot of the newest valid image: 0 A, 1 B (R232). -/
def State.newestSlot (s : State) : Option Nat :=
  let a := s.slotValid s.sxt.slotA
  let b := s.slotValid s.sxt.slotB
  if a && b then some (if 0 < seqDiff (Tab.get zeroWord s.sxt.slotB 1) (Tab.get zeroWord s.sxt.slotA 1) then 1 else 0)
  else if a then some 0 else if b then some 1 else none

/-- A journal slot. -/
def State.slot (s : State) (n : Nat) : Store := if n = 0 then s.sxt.slotA else s.sxt.slotB
def State.setSlot (s : State) (n : Nat) (m : Store) : State :=
  s.modSxt fun x => if n = 0 then { x with slotA := m } else { x with slotB := m }

/-- SXT_LRNSTS.NEWEST, JMISMATCH and SXT_LRNSEQ follow the slots (R232). -/
def State.journalShow (s : State) : State :=
  let n := s.acq.npos
  let s := s.setHeld F.SXT_LRNSTS_JMISMATCH (s.journalMode && (imageOther s.sxt.slotA 0 n || imageOther s.sxt.slotB 0 n))
  match (if s.flag F.SXT_LRNSTS_MODE then none else s.newestSlot) with
  | some n => (s.setFld F.SXT_LRNSTS_NEWEST n).setWord Reg.SXT_LRNSEQ (Tab.get zeroWord (s.slot n) 1)
  | none => s.setWord Reg.SXT_LRNSEQ 0

/-- JOURNAL_SAVE_START: the waiting trigger starts a save into the slot that does not hold the newest valid image. While BROWN_N is
low no save starts but the one its falling edge started (R227, R229, R230). -/
def execJournalSaveStart (t : Nat) (s : State) : Out :=
  let s := s.at t
  .next (match s.sxt.trig with
    | none => s
    | some code =>
      if s.sxt.save.isSome || (s.sxt.hold && code != 4) then s
      else
        let n := match s.newestSlot with
          | some k => 1 - k
          | none => 0
        let recs := s.lrnRecords
        let seq := s.sxt.savedSeq + 1
        let head := s.lrnHeader seq code recs
        let s := s.setSlot n (Store.putAll zeroWord (s.slot n) 8 recs)
        (s.modSxt fun x => { x with trig := none, save := some (n, head) }).setFld F.SXT_LRNSTS_SAVING 1)

/-- PERIODIC_SAVE: JPERIOD hours of Dial have passed since the last completed save (R229). -/
def execPeriodicSave (t : Nat) (s : State) : Out :=
  let s := s.at t
  .next (if s.sxt.savedAt + s.fld F.SXT_LRNCFG_JPERIOD * 3600000000000 ≤ s.dial then s.saveTrig 1 else s)

/-- A falling edge of BROWN_N: it merges into a save in progress, otherwise a save starts; no other starts until BROWN_N has been
high for 100 ms, a further edge meanwhile included (R229, R230). -/
def State.brownSave (s : State) : State :=
  if s.sxt.hold then s
  else
    let s := s.modSxt fun x => { x with hold := true }
    if s.sxt.save.isNone && s.journalMode then s.modSxt fun x => { x with trig := some 4 } else s

/-! ## Restore, nominal values and export (R233 to R235) -/

/-- The first reason a staged image cannot be restored (SXT_LRNSTS.RJCODE), 0 when it can. -/
def State.restoreCode (s : State) : Nat :=
  let m := s.sxt.mem
  let n := s.acq.npos
  let c := imageCheck m stagingKey n
  let w := fun p k => Tab.get zeroWord m (stagingKey + 8 + 4 * p + k)
  let all := List.range n
  let capl := fun p => Fl.ofWord (w p 0)
  if c ≠ 0 then c
  else if all.any fun p => getBits (w p 2) 16 8 != (s.dscOf p).2 then 4
  else if all.any fun p => (capl p).isFinite && (Fl.lt (capl p) (fmul (fdec 1 2) (s.dscOf p).crated) ||
      Fl.lt (fmul (fdec 3 2) (s.dscOf p).crated) (capl p)) then 5
  else if all.any fun p => !(capl p).isFinite then 6
  else 0

/-- SXT_LRNCTL.RESTORE written 1. -/
def State.restoreWrite (s : State) : State :=
  let c := s.restoreCode
  if c = 0 then (s.modSxt fun x => { x with restore := some x.mem }).setFld F.SXT_LRNSTS_RJCODE 0
  else (s.setFld F.SXT_LRNSTS_RJCODE c).raiseEv F.SXT_LRNSTS_RESTORE_REJ

/-- NOMINAL at the boundary: values kept, the two variances nominal, NOT_RESTORED clear. -/
def State.nominalTake (s : State) (p : Nat) : State :=
  let d := s.dscOf p
  let one := fun (s : State) k =>
    if slotActive (s.cxBits p 0 25 3) k && s.cxFlag p fEst then s.setCxF p (0x28 + 4 * pIndex k k) (d.p0 k) else s
  (one (one s 4) 5).setCxFlag p fNotRest false

/-- An epoch boundary: SXT_LRNV and SXT_LRNSPAN come into use; an accepted RESTORE, then NOMINAL, then EXPORT. -/
def State.lrnBoundary (s : State) : State :=
  let all := List.range s.acq.npos
  let s := s.modSxt fun x => { x with lrnUse := s.lrnTables }
  let s := match s.sxt.restore with
    | some m => (all.foldl (fun s p => s.lrnTake p m stagingKey) s).modSxt fun x => { x with restore := none }
    | none => s
  let s := if s.sxt.nominal then (all.foldl State.nominalTake s).modSxt fun x => { x with nominal := false } else s
  let s := s.sxtNotRestored
  if s.sxt.doExport then
    let recs := s.lrnRecords
    let head := s.lrnHeader (nw (s.sxt.exports + 1)) 6 recs
    (s.modSxt fun x => { x with
      doExport := false, exports := x.exports + 1
      mem := Store.putAll zeroWord x.mem stagingKey (head ++ recs) }).raiseEv F.SXT_LRNSTS_EXPORTED
  else s

/-- A write of SXT_LRNCTL: LEN 0 ends learning, the other bits act (R221, R229, R233 to R235). -/
def State.lrnctlWrite (s : State) (v : Word) : State :=
  let s := s.setWord Reg.SXT_LRNCTL (v &&& 0x80000000#32)
  let s := s.when (!v.getLsbD 31) fun s => (List.range s.acq.npos).foldl State.lrnConfig s
  let s := s.when (v.getLsbD 0) fun s => s.saveTrig 5
  let s := s.when (v.getLsbD 1) State.restoreWrite
  let s := s.when (v.getLsbD 2) fun s => s.modSxt fun x => { x with nominal := true }
  s.when (v.getLsbD 3) fun s => s.modSxt fun x => { x with doExport := true }

/-- SXT_LRNCTL written with LEN as it stands and one of its other bits 1. -/
def State.lrnctlBit (s : State) (b : Nat) : State := s.lrnctlWrite ((s.word Reg.SXT_LRNCTL &&& 0x80000000#32) ||| nw (2 ^ b))

/-- SAVE: a save of the learned values is asked for. -/
def execLearnSave (t : Nat) (_m : Master) (s : State) : Out := .next ((s.at t).lrnctlBit 0)

/-! ## Allocation (R197, R226, R232, R233) -/

/-- Contexts are allocated after an accepted APPLY: kinds, the learned-store mode, and every position's learned values. -/
def State.sxtAllocate (s : State) : State :=
  let n := s.acq.npos
  let s := ((List.range 640).filter fun c => s.cxKind c == 1).foldl State.lrnConfig s
  let s := (List.range 640).foldl (fun s c => s.sxtKind c (if c < n then 1 else 0)) s
  let s := allSlots.foldl (fun s k => s.sxtKind (976 + k) (if (s.acqSlot k).ncell = 0 then 0 else 2)) s
  let all := List.range n
  let s := (s.setFlag F.SXT_LRNSTS_MODE (decide (320 < n))).modSxt fun x => { x with trig := if 320 < n then none else x.trig }
  let none_ := fun (s : State) => all.foldl State.sxtNominal s
  let s :=
    if n = 0 then s
    else if 320 < n then none_ s
    else match s.newestSlot with
      | some k => all.foldl (fun s p =>
          let s := s.sxtNominal p
          s.lrnTake p (s.slot k) 0) s
      | none => (none_ s).raiseEv F.SXT_LRNSTS_STORE_EMPTY
  (s.sxtModels.sxtNotRestored.journalShow).sxtStatus.sxtSched

end Sys2Proof.Machine
end

