-- ==== Sys2Proof/Machine/Azimuth.lean ====
section
/-! DEFINITION. Azimuth's blocks: samples, correlation, derived values, the plating trend and the Azimuth record (09_azimuth.md). -/

namespace Sys2Proof.Machine

/-! ## Samples of a block (R247) -/

/-- Block b of a window is started, unless it is there. -/
def State.azmEnsure (s : State) (w : AzmWin) (b : Nat) : State :=
  if s.azm.jobs.any fun j => j.win == w && j.b == b then s
  else s.modAzm fun a => { a with jobs := a.jobs ++ [{ win := w, b := b, zscale := s.fld F.AZM_CTL_ZSCALE, samples := [], clip := false,
                                                       ended := false, lastTgt := none, serial := none, result := none }] }

/-- Units of Meridian between snapshots, and snapshots a block expects. -/
def State.azmStepLen (s : State) : Nat := 1000000000 * 2 ^ 40 / s.snapRate
def State.azmM (s : State) : Nat := 10 * s.snapRate

/-- A channel: for each grid index the Meridian target and the value, none where the sample is missing. -/
abbrev Chan := List (Nat × Option Int)

/-- The samples of a block after one at tau t, oldest first, with the Meridian targets of those that are absent: where the distance of
two holds several snapshot intervals, and at the end as long as another target would lie in the block, which ends at fin. -/
def gridFrom (fin step t : Nat) : List AzmSample → List (Nat × Option AzmSample)
  | [] => (List.range ((fin - 1 - t) / step)).map fun i => (t + (i + 1) * step, none)
  | x :: l =>
    let d := max 1 ((2 * (x.tau - t) + step) / (2 * step))
    (List.range (d - 1)).map (fun i => (t + (i + 1) * (x.tau - t) / d, none)) ++ (x.tau, some x) :: gridFrom fin step x.tau l

/-- The grid of a block from start to fin: every snapshot that belongs to it, and a target for each that is absent (R247). -/
def azmGrid (start fin step : Nat) : List AzmSample → List (Nat × Option AzmSample)
  | [] => []
  | x :: l =>
    let n := (x.tau - start) / step
    (List.range n).map (fun i => (x.tau - (n - i) * step, none)) ++ (x.tau, some x) :: gridFrom fin step x.tau l

/-- The longest run of missing samples. -/
def missRun : Chan → Nat → Nat → Nat
  | [], r, best => max r best
  | (_, none) :: l, r, best => missRun l (r + 1) best
  | (_, some _) :: l, r, best => missRun l 0 (max r best)

def missing (c : Chan) : Nat := (c.filter fun x => x.2.isNone).length

/-- Is a channel's block usable (R247)? -/
def usable (m : Nat) (c : Chan) : Bool := decide (missing c ≤ m / 1000) && decide (missRun c 0 0 ≤ 2)

/-- The next present sample. -/
def nextPresent : Chan → Option (Nat × Int)
  | [] => none
  | (t, some v) :: _ => some (t, v)
  | (_, none) :: l => nextPresent l

/-- Missing samples filled by linear interpolation in target time between the nearest present ones, and at an edge by the nearer
one (R247). -/
def fillFrom (last : Option (Nat × Int)) : Chan → List (Nat × Rat)
  | [] => []
  | (t, some v) :: l => (t, (v : Rat)) :: fillFrom (some (t, v)) l
  | (t, none) :: l =>
    let x : Rat := match last, nextPresent l with
      | some (ta, va), some (tb, vb) => (va : Rat) + ((vb - va : Int) : Rat) * mkRat ((t : Int) - ta) (tb - ta)
      | some (_, va), none => (va : Rat)
      | none, some (_, vb) => (vb : Rat)
      | none, none => 0
    (t, x) :: fillFrom last l

/-! ## Correlation (R248, R249) -/

/-- The least-squares line taken out of a channel: values in units of 1/scale, rounded to binary64. -/
def detrend (start scale : Nat) (c : List (Nat × Rat)) : List (Nat × Fl) :=
  let n : Rat := (c.length : Nat)
  let tx := c.map fun x => (merSecs x.1 start, x.2)
  let st := (tx.map (·.1)).foldl (· + ·) 0
  let sx := (tx.map (·.2)).foldl (· + ·) 0
  let stt := (tx.map fun x => x.1 * x.1).foldl (· + ·) 0
  let stx := (tx.map fun x => x.1 * x.2).foldl (· + ·) 0
  let den := n * stt - st * st
  let b := if den = 0 then 0 else (n * stx - st * sx) / den
  let a := if n = 0 then 0 else (sx - b * st) / n
  c.map fun x => (x.1, Fl.ofRat b64 ((x.2 - a - b * merSecs x.1 start) / (scale : Nat)))

/-- The phasor of a detrended channel at tone k: accumulated in binary64, rounded once to binary32 (R248). -/
def phasor (p : Plan) (t0 k : Nat) (c : List (Nat × Fl)) : Fl × Fl :=
  let acc := c.foldl (fun (a : Fl × Fl) x =>
    let q := p.turns k x.1 t0
    (fadd a.1 (fmul x.2 (Fl.round b64 (Fl.sinTurn q))), fadd a.2 (fmul x.2 (Fl.round b64 (Fl.cosTurn q))))) (Fl.zero, Fl.zero)
  let g := fdec 2 c.length
  (r32 (fmul g acc.1), r32 (fmul g acc.2))

/-- |x|^2 of a phasor, exactly. -/
def norm2 (x : Fl × Fl) : Rat := x.1.toRat * x.1.toRat + x.2.toRat * x.2.toRat

/-- z = -v/i, rounded to binary32. -/
def zOf (v i : Fl × Fl) : Fl × Fl :=
  let d := norm2 i
  if d = 0 then (Fl.zero, Fl.zero)
  else (Fl.ofRat b32 (-(v.1.toRat * i.1.toRat + v.2.toRat * i.2.toRat) / d),
        Fl.ofRat b32 (-(v.2.toRat * i.1.toRat - v.1.toRat * i.2.toRat) / d))

/-- arg of a phasor in units of 0.01°, to the working precision. -/
def arg100 (z : Fl × Fl) : Fl := Fl.div hp (Fl.mul hp (Fl.atan2Hp z.2 z.1) (Fl.ofInt 18000)) Fl.pi

/-- The internal temperature for an angle: interpolation in the TCAL points, none outside their span (R251). -/
def Calib.tempAt (c : Calib) (a : Fl) : Option Int :=
  (List.range 7).findSome? fun j =>
    let p0 := c.phase j
    let p1 := c.phase (j + 1)
    let inside := fun (lo hi : Int) => Fl.le (Fl.ofInt lo) a && Fl.le a (Fl.ofInt hi)
    if inside (min p0 p1) (max p0 p1) && p0 != p1 then
      let w := Fl.div hp (Fl.sub hp a (Fl.ofInt p0)) (Fl.ofInt (p1 - p0))
      some (Fl.toIntAway (Fl.add hp (Fl.ofInt (c.temp j)) (Fl.mul hp (Fl.ofInt (c.temp (j + 1) - c.temp j)) w)))
    else none

/-- The tone of a plan with a frequency code, 0 naming none. -/
def Plan.toneOf (p : Plan) (fk : Nat) : Option Nat := if fk = 0 then none else p.used.find? fun k => p.fk k == fk

/-- Has a cell's balancing state changed inside the block that starts at a Meridian instant: its commanded switch opened or closed
(R249, R279)? -/
def State.balMoved (s : State) (pos start : Nat) : Bool :=
  match s.slotOfPos pos with
  | some (k, i) => ((s.balSlot k).edgesTo s.dial).any fun e =>
      e.2.testBit i && decide (start ≤ s.merOf e.1 ∧ s.merOf e.1 < start + azmBlock)
  | none => false

/-- One position of a block (R249 to R251). -/
def State.azmCell (s : State) (w : AzmWin) (start m : Nat) (grid : List (Nat × Option AzmSample)) (cur : List (Fl × Fl)) (ok : Nat → Bool)
    (pos : Nat) : AzmCell :=
  let p := w.plan
  let ch : Chan := grid.map fun g => (g.1, g.2.bind fun x => x.pos.getD pos none)
  let u := usable m ch
  let dt := if u then detrend start 100000 (fillFrom none ch) else []
  let sw := s.balMoved pos start
  let z := p.used.map fun k => if u && ok k then zOf (phasor p w.t0 k dt) (cur.getD k (Fl.zero, Fl.zero)) else (Fl.zero, Fl.zero)
  let v := p.used.map fun k => u && ok k && !(sw && decide (p.fk k < 10))
  let c := s.calib (s.dscOf pos).2
  let at' := fun fk => (p.toneOf fk).bind fun k => if v.getD k false then some (z.getD k (Fl.zero, Fl.zero)) else none
  let ohm := (at' c.fohm).map (·.1)
  let tz := at' c.fcal
  let ti := tz.bind fun x => c.tempAt (arg100 x)
  { z := z, valid := v, rohm := ohm
    ct := match ohm, at' c.fct with
      | some r, some x => some (r32 (fsub x.1 r))
      | _, _ => none
    tint := ti, balsw := sw, trange := tz.isSome && ti.isNone, nmiss := missing ch }

/-- The correlation of a block. -/
def State.azmCorrelate (s : State) (j : AzmJob) : AzmResult :=
  let w := j.win
  let start := w.blockStart j.b
  let m := s.azmM
  let grid := azmGrid start (start + azmBlock) s.azmStepLen (j.samples.mergeSort fun a b => decide (a.tau ≤ b.tau))
  let ch : Chan := grid.map fun g => (g.1, g.2.bind (·.cur))
  let u := usable m ch
  let full := if u then fillFrom none ch else []
  let dt := detrend start 1000 full
  let p := w.plan
  let cur := p.used.map fun k => if u then phasor p w.t0 k dt else (Fl.zero, Fl.zero)
  let mean := fun (f : Nat × Rat → Rat) => if full.isEmpty then (0 : Rat) else ((full.map f).foldl (· + ·) (0 : Rat)) / (full.length : Rat)
  let chip := mean fun x => if prbsBit p.order (p.chip x.1 w.t0) then x.2 else -x.2
  let no := p.used.map fun k => u && (if p.prbs then decide (4 * chip < ((p.pamp : Nat) : Rat))
    else decide (norm2 (cur.getD k (Fl.zero, Fl.zero)) * 16000000 < ((p.amp k * p.amp k : Nat) : Rat)))
  let ok := fun k => u && !j.clip && !no.getD k false
  { cur := cur, curOk := u, noexc := no, meanCur := mean (·.2), m := m
    cells := (List.range s.acq.npos).map fun q => (q, s.azmCell w start m grid cur ok q) }

/-! ## A block's end and its schedule (R247, R255) -/

/-- The instant a block's values are ready. -/
def State.azmReady (s : State) (lastTgt : Nat) : Nat := lastTgt + 1000 * s.fld F.ACQ_CAP_TMIN + 5000 + 2000000

/-- The items of a block. -/
def State.azmItems (s : State) : List ItemId := itemAzmString :: (List.range s.acq.npos).map itemAzmPos

/-- Replace a job. -/
def State.azmPut (s : State) (old new : AzmJob) : State :=
  s.modAzm fun a => { a with jobs := a.jobs.map fun k => if k == old then new else k }

/-- Schedule a block whose last snapshot has closed in the first epoch that can take it. -/
def State.azmSchedule (s : State) (j : AzmJob) (es : List EpochRec) : State :=
  match j.lastTgt, j.serial with
  | some t, none =>
    match es.find? fun e => decide (t < e.start + e.period ∧ s.azmReady t ≤ e.deadAt) with
    | some e => (s.schedule e.serial s.azmItems).azmPut j { j with serial := some e.serial }
    | none => s
  | _, _ => s

/-- At an epoch boundary: blocks that wait for an epoch. -/
def State.azmEpoch (s : State) : State := s.azm.jobs.foldl (fun s j => s.azmSchedule j [s.ep.opn]) s

/-- A block that has ended and whose snapshots have all closed is correlated; one without a snapshot is dropped. -/
def State.azmFinish (s : State) (j : AzmJob) : State :=
  let fin := j.win.blockStart (j.b + 1)
  if !j.ended || j.result.isSome || (s.acq.snaps.any fun c => decide (s.merOf c.target < fin)) then s
  else match j.samples with
    | [] => s.modAzm fun a => { a with jobs := a.jobs.filter fun k => k != j }
    | x :: _ =>
      let r := s.azmCorrelate j
      let tgt := (j.samples.map (·.tgt)).foldl max x.tgt
      let n := { j with result := some r, lastTgt := some tgt }
      let s := (s.azmPut j n).pmcEvent 2 0x30 (r.m * (b2n r.curOk + (r.cells.filter fun c => decide (c.2.nmiss ≤ r.m / 1000)).length))
      let s := s.when (r.noexc.any id) fun s => s.raiseEv F.AZM_STS_NOEXC
      let s := s.when j.clip fun s => s.raiseEv F.AZM_STS_CLIPPED
      s.azmSchedule n (s.ep.closing ++ [s.ep.opn])

def State.azmFinishAll (s : State) : State := s.azm.jobs.foldl State.azmFinish s

/-- A snapshot closes: its sample goes to the block that holds its Meridian target; the last one of a block makes its items
scheduled (R247, R255). -/
def State.azmSample (s : State) (target : Nat) : State :=
  let tau := s.merOf target
  let s := match s.azm.win with
    | some w =>
      let b := (tau - w.t0) / azmBlock
      if w.t0 ≤ tau ∧ s.azm.from_ ≤ w.blockStart b then s.azmEnsure w b else s
    | none => s
  let pos := (List.range s.acq.npos).map fun p => (s.posAcc p).reading
  let x : AzmSample := { tau := tau, tgt := target, cur := s.acq.curNow, pos := pos }
  let s := s.azm.jobs.foldl (fun s j =>
    if j.win.blockStart j.b ≤ tau ∧ tau < j.win.blockStart (j.b + 1) ∧ j.result = none then
      let last := decide (j.win.blockStart (j.b + 1) ≤ tau + s.azmStepLen)
      let n := { j with samples := x :: j.samples, lastTgt := if last then some target else j.lastTgt }
      (s.azmPut j n).azmSchedule n (s.ep.closing ++ [s.ep.opn])
    else s) s
  s.azmFinishAll

/-- AZM_BLOCK_END: a block of the running window has passed: it is counted, the next one starts, and its channels are correlated. -/
def execAzmBlockEnd (t : Nat) (s : State) : Out :=
  let s := s.at t
  .next (match s.azm.win with
    | none => s.azmFinishAll
    | some w =>
      let s := s.endBlocks w s.time.mer
      let b := (s.time.mer - w.t0) / azmBlock
      let s := if s.azm.from_ ≤ w.blockStart b then s.azmEnsure w b else s
      s.azmFinishAll)

/-! ## A block's values (R252 to R257) -/

/-- ZLSB units in one ohm. -/
def zUnits (zs : Nat) : Nat := 10 ^ (8 - zs)

/-- A value in ohm as a field of ZLSB units, and whether it saturated. -/
def zField (zs : Nat) (v : Fl) (lo hi : Int) : Int × Bool :=
  let n := Fl.toIntAway (Fl.mul hp v (Fl.ofInt (zUnits zs)))
  (clampI lo hi n, decide (n < lo ∨ hi < n))

/-- A phase in 0.01°, from -18,000 to 17,999. -/
def phaseField (z : Fl × Fl) : Int := let n := Fl.toIntAway (arg100 z); if n = 18000 then -18000 else n

/-- |z|, to the working precision. -/
def mag (z : Fl × Fl) : Fl := Fl.sqrt hp (Fl.add hp (Fl.mul hp z.1 z.1) (Fl.mul hp z.2 z.2))

def State.azmPos (s : State) (p : Nat) : AzmPos := Tab.get (fun _ => AzmPos.reset) s.azm.pos p
def State.modAzmPos (s : State) (p : Nat) (f : AzmPos → AzmPos) : State :=
  s.modAzm fun a => { a with pos := Tab.modify (fun _ => AzmPos.reset) a.pos p f }

/-- The plating trend of a cell at a block (R252). -/
def State.azmTrend (s : State) (start zs : Nat) (mean : Rat) (p : Nat) (c : AzmCell) : State :=
  match c.ct with
  | none => s
  | some ct =>
    let t := s.cxF p 0x10C
    if !(decide (mean < 0) && s.cxLong p 0x140 != 0 && Fl.lt t (fdec (s.fldS F.AZM_TCFG_TPLT) 100)) then s
    else s.modAzmPos p fun a =>
      let tr := match a.ctPrev with
        | some (c0, s0) =>
          if start ≤ s0 + 360 * azmBlock then
            let g := fdiv (fsub ct c0) (Fl.ofRat b64 (merSecs start s0 / 3600))
            fadd a.ptrend (fdiv (fsub g a.ptrend) (fint 8))
          else a.ptrend
        | none => a.ptrend
      { a with ctPrev := some (ct, start), ptrend := tr, zs := zs }

/-- PLAT_RISK of every position while its PTREND, in ZLSB per hour of its last qualifying block, is at or below -PTHR, and the live bit
(R252). -/
def State.platRefresh (s : State) : State :=
  let risk := fun (a : AzmPos) => Fl.le (fmul a.ptrend (fint (zUnits a.zs))) (fint (-(s.fld F.AZM_PTHR_PTHR : Int)))
  let s := (List.range s.acq.npos).foldl (fun s p => s.modAzmPos p fun a => { a with risk := risk a }) s
  s.setHeld F.AZM_STS_PLAT_RISK (s.azm.pos.any fun e => e.2.risk)

/-- A write of AZM_PTHR moves the flags that depend on it. -/
def State.azmPthrWrite (s : State) (v : Word) : State := (s.setFld F.AZM_PTHR_PTHR (getBits v 0 16)).platRefresh

/-- What Sextant takes of a cell: TINT with the end of its block, and under RSFEED the fixed Rs (R256, R257). -/
def State.azmFeed (s : State) (fin p : Nat) (c : AzmCell) : State :=
  let s := match c.tint with
    | some v => s.modAzmPos p fun a => { a with tint := some (v, fin) }
    | none => s
  match c.rohm with
  | some r =>
    if s.flag F.AZM_CTL_RSFEED = true ∧ slotActive (s.cxBits p 0 25 3) 4 = false then
      s.setCxF p 0xB8 (fdiv r ((s.dscOf p).fr (s.cxF p 0x10C)))
    else s
  | none => s

/-- The words of a position's item (Table 9-3). -/
def State.azmPosWords (s : State) (zs p : Nat) (c : AzmCell) : List (Nat × Word) :=
  let b := azmBase + 24 + 11 * p
  let mags := c.z.map fun z => zField zs (mag z) 0 65535
  let tone := fun k => if c.valid.getD k false then
      nw (65536 * (mags.getD k (0, false)).1.toNat + (phaseField (c.z.getD k (Fl.zero, Fl.zero)) % 65536).toNat) else (0 : Word)
  let ohm := zField zs (c.rohm.getD Fl.zero) 0 65535
  let ct := zField zs (c.ct.getD Fl.zero) (-32768) 32767
  let a := s.azmPos p
  let tr := clampI (-32768) 32767 (Fl.toIntAway (Fl.mul hp a.ptrend (Fl.ofInt (zUnits zs))))
  let sat := ohm.2 || ct.2 || (List.range 8).any fun k => c.valid.getD k false && (mags.getD k (0, false)).2
  let zv := ((List.range 8).map fun k => if c.valid.getD k false then 2 ^ k else 0).sum
  (List.range 8).map (fun k => (b + k, tone k)) ++
  [(b + 8, nw (65536 * ohm.1.toNat + (ct.1 % 65536).toNat)),
   (b + 9, nw (65536 * (match c.tint with | some v => (clampI (-32767) 32767 v % 65536).toNat | none => 0x8000) + (tr % 65536).toNat)),
   (b + 10, nw (0x40000000 * b2n c.rohm.isSome + 0x20000000 * b2n c.ct.isSome + 0x10000000 * b2n c.tint.isSome + 0x8000000 * b2n a.risk
      + 0x4000000 * b2n c.balsw + 0x2000000 * b2n c.trange + 0x1000000 * b2n sat + 65536 * zv + min 65535 c.nmiss))]

/-- The words of the string section (Table 9-3). -/
def azmStringWords (j : AzmJob) (r : AzmResult) : List (Nat × Word) :=
  let p := j.win.plan
  let start := j.win.blockStart j.b / 2 ^ 40
  let b := azmBase
  let ok := fun k => r.curOk && !j.clip && !r.noexc.getD k false
  let tone := fun k => if k < p.ntone then
      nw (0x20000 * p.fk k + 0x80 * b2n (ok k) + 0x40 * b2n (r.noexc.getD k false) + 0x20 * b2n j.clip + 0x10 * b2n (!r.curOk))
    else nw (0x20000 * p.fk k + 8)
  let cur := fun k =>
    let z := r.cur.getD k (Fl.zero, Fl.zero)
    if k < p.ntone ∧ ok k = true then
      nw (65536 * (clampI 0 65535 (Fl.toIntAway (Fl.mul hp (mag z) (Fl.ofInt 1000)))).toNat + (phaseField z % 65536).toNat)
    else (0 : Word)
  [(b + 2, nw (0x10000000 * j.win.num + 0x1000000 * p.ntone + 65536 * j.zscale + min 65535 j.b)),
   (b + 3, nw (start / 1000000000)), (b + 4, nw (start % 1000000000)), (b + 5, nw r.m),
   (b + 6, nw (0x40000000 * b2n j.win.auto + 0x20000000 * b2n j.clip + 0x10000000 * b2n (!r.curOk) + 0x8000000 * b2n p.prbs))] ++
  (List.range 8).flatMap fun k => [(b + 8 + 2 * k, tone k), (b + 9 + 2 * k, cur k)]

/-- A correlated block whose ready instant has come. -/
def State.azmDue (s : State) : Option (AzmJob × AzmResult) :=
  s.azm.jobs.findSome? fun j => match j.result, j.lastTgt with
    | some r, some t => if s.azmReady t ≤ s.dial then some (j, r) else none
    | _, _ => none

/-- A block's values reach Sextant and the commit unit (R252, R255 to R257). -/
def State.blockReady (s : State) (j : AzmJob) (r : AzmResult) : State :=
  let s := s.modAzm fun a => { a with jobs := a.jobs.filter fun k => k != j }
  let start := j.win.blockStart j.b
  let fin := j.win.blockStart (j.b + 1)
  let cells := r.cells.filter fun c => decide (c.1 < s.acq.npos)
  let s := cells.foldl (fun s c => (s.azmTrend start j.zscale r.meanCur c.1 c.2).azmFeed fin c.1 c.2) s
  let s := s.platRefresh
  let n := j.serial.getD s.ep.opn.serial
  let item := fun (i : ItemId) (ws : List (Nat × Word)) =>
    ({ serial := n, src := .azimuth, ready := s.dial, item := i, words := ws } : Contribution)
  (s.contribute (item itemAzmString (azmStringWords j r) ::
    cells.map fun c => item (itemAzmPos c.1) (s.azmPosWords j.zscale c.1 c.2))).pmcEvent 2 0x31 1

/-- Each allocation of CELL contexts: the plating trends start again (R252). -/
def State.azmAllocate (s : State) : State :=
  let clear := fun (e : Nat × AzmPos) => (e.1, { e.2 with ctPrev := none, ptrend := Fl.zero, zs := 0, risk := false })
  (s.modAzm fun a => { a with pos := (a.pos.map clear).filter (fun e => e.2 != AzmPos.reset) }).platRefresh

end Sys2Proof.Machine
end

