-- ==== Sys2Proof/Machine/BalPlan.lean ====
section
/-! DEFINITION. The balancing plan, recomputed at the ready instant of every Sextant update (R266, R267). -/

namespace Sys2Proof.Machine

/-- The integral of ocv ds from a to b, negative where b lies below a. -/
def Dsc.areaS (d : Dsc) (t a b : Fl) : Fl := if Fl.lt b a then (d.area t b a).neg else d.area t a b

/-- Is a position eligible for bleeding (R266)? A context whose reading at the update snapshot was not valid is HELD (R209). -/
def State.eligible (s : State) (p : Nat) : Bool :=
  s.cxFlag p fEst && !s.cxFlag p fHeld && !s.cxFlag p fFirst && !s.cxFlag p fDis && !s.cxFlag p fEmpty &&
    decide ((100 * s.balParam F.BAL_CFG_VBMIN : Nat) ≤ (s.posAcc p).last) &&
    match s.slotOfPos p with
    | some (k, _) => (s.acqSlot k).inService && !(s.balSlot k).hot && !(s.balSlot k).unsure && !s.suspNow k
    | none => false

/-- E_p in Wh (R267). -/
def State.cellEnergy (s : State) (p : Nat) : Fl :=
  let x := s.cx p
  let d := s.dscOf p
  let t := s.cxF p 0x10C
  let a := if s.balParam F.BAL_CTL_REF = 1 then (d.areaS t (x.st 0) (fsub (fint 1) (fdiv (d.param 11) (fint 100)))).neg
    else d.areaS t (fdiv (d.param 10) (fint 100)) (x.st 0)
  fdiv a (x.par 5)

/-- The plan: eligible cells with their excess over the least of them, and the candidates under XON and XOFF. -/
def State.balPlan (s : State) : State :=
  let el := ((List.range s.acq.npos).filter s.eligible).map fun p => (p, s.cellEnergy p)
  let least := leastF (el.map (·.2))
  let ex := el.map fun e => (e.1, fsub e.2 least)
  let xon := s.balParam F.BAL_THR_XON
  let xoff := min xon (s.balParam F.BAL_THR_XOFF)
  let cand := (ex.filter fun e =>
    Fl.le (fdec xon 100) e.2 || (s.bal.cand.contains e.1 && Fl.le (fdec xoff 100) e.2)).map (·.1)
  let sorted := ex.mergeSort fun a b => Fl.lt b.2 a.2 || (Fl.eqv a.2 b.2 && decide (a.1 ≤ b.1))
  let s : State := { s with bal := { s.bal with cand := cand } }
  allSlots.foldl (fun s k =>
    let x := s.acqSlot k
    let mine := (sorted.filter fun e => decide (x.ncell ≠ 0 ∧ x.basep ≤ e.1 ∧ e.1 < x.basep + x.ncell)).map (·.1)
    s.modBalSlot k fun y => { y with
      order := mine.map (· - x.basep)
      cands := (mine.filter fun p => cand.contains p).map (· - x.basep) }) s

/-- BAL_PLAN: the planner recomputes eligible cells and candidates; it runs while BAL_CTL.EN is 1. -/
def execBalPlan (t : Nat) (s : State) : Out :=
  let s := s.at t
  .next (if s.flag F.BAL_CTL_EN then s.balPlan else s)

end Sys2Proof.Machine
end

