-- ==== Sys2Proof/Machine/Role.lean ====
section
/-! DEFINITION. The roles of Table 15-1: leaving the active role, claiming, takeover (15_redundancy.md). -/

namespace Sys2Proof.Machine

/-- Every lock of every master is freed (R42, R368). -/
def State.freeAllLocks (s : State) : State := [1, 2, 3, 4, 5].foldl State.freeLocks s

/-- The unit stops every active-only action (R344, R367, R368): watches halt and their pending actions are cancelled, Helm stops,
excitation is removed, the CAN queues empty (R433), every lock is freed. -/
def State.roleLeave (s : State) : State :=
  let s := (allWatches.foldl State.almKill s).setFld F.ALM_CTL_RUN 0
  (s.helmExtStop.excCut.canLeave).freeAllLocks

/-- Change what twin operation keeps. -/
def State.modRdn (s : State) (f : RdnSt → RdnSt) : State := { s with rdn := f s.rdn }

/-- Take a role; REF_CLAIM is high or low with it. -/
def State.setRole (s : State) (r : Nat) (claim : Bool) : State := (s.setFld F.RDN_STS_ROLE r).setFlag F.RDN_STS_CLAIM_L claim

/-- The twin's Dial minus our own (RDN_PEEROFS), ns. -/
def State.peerOfs (s : State) : Int := signed 64 ((s.word Reg.RDN_PEEROFS_LO).toNat + 2 ^ 32 * (s.word Reg.RDN_PEEROFS_HI).toNat)

/-- A Dial short time of the twin on our own Dial. -/
def State.ownDial (s : State) (v : Nat) : Nat := (((v : Int) - s.peerOfs) % 2 ^ 40).toNat

/-- A mirrored watch on this unit: Dial targets moved by RDN_PEEROFS, targets converted anew (R373). -/
def State.mirrorWatch (s : State) (x : Watch) : Watch :=
  let lt := if x.ltBase = 0 then s.ownDial x.lt else x.lt
  { x with
    lt := lt
    slots := x.slots.map fun a =>
      let tgt := if a.base = 0 then s.ownDial a.tgt else a.tgt
      { a with tgt := tgt, at_ := s.tgtConv a.base tgt }
    wait := x.wait.map fun y => { y with at_ := s.tgtConv x.ltBase lt, armed := 0 } }

/-- Every watch is restored from the last mirror: Carrier targets launch late, valley waits end with C 1 (R373). -/
def State.restoreWatches (s : State) (m : Mirror) : State :=
  let s := m.watches.foldl (fun s e => s.setWatch e.1 (s.mirrorWatch e.2)) s
  let s : State := { s with alm := { s.alm with
    order := m.watches.foldl (fun n e => e.2.slots.foldl (fun n a => max n (a.order + 1)) n) s.alm.order } }
  let now := s.shortTime 2
  (s.loseTargets fun b tgt _ => if b = 2 then some (dist40 tgt now) else none).meetAll (fun c _ => c == 4) ⟨none, true, false⟩

/-- TSYNC on every ring that is not DOWN. -/
def State.tsyncAll (s : State) : State :=
  (List.range 8).foldl (fun s p => (s.portSendBody p 15 (.tsync s.dial)).portKick p) s

/-- Sextant continues from the mirrored contexts: the update before is the mirrored one, whose TUPDT is an instant of the twin's Dial,
and the time up to the first own snapshot has not been observed (R210). -/
def State.sxtTakeover (s : State) : State :=
  let u := s.cxLong 0 0x140
  let s := s.modSxt fun x => { x with gap := true }
  if s.rdn.mir.isNone || u = 0 then s
  else s.modSxt fun x => { x with hist := [], gaps := [], prev := some ((u : Int) - s.peerOfs).toNat, started := true }

/-- TAKING is entered (R29, R373): TSYNC, watches, ALM_CTL.RUN, a Helm start that falls due, suspected wires, the epoch number. -/
def State.takeover (s : State) : State :=
  let s := (s.setRole 3 true).tsyncAll
  let num := if 0 < seqDiff (s.word Reg.RDN_PEEREPOCH) (s.word Reg.SYS_EPOCHNUM) then s.word Reg.RDN_PEEREPOCH else s.word Reg.SYS_EPOCHNUM
  let s := match s.rdn.mir with
    | none => s
    | some m =>
      let s := s.restoreWatches m
      s.modRdn fun r => { r with autorun := m.run && s.flag F.RDN_CTL_AUTORUN, stale := decide (0 < seqDiff num m.epoch) }
  let s := (s.setFld F.ALM_CTL_RUN 1).setWord Reg.SYS_EPOCHNUM num
  let s := (allSlots.filter fun k => s.owSus k != 0).foldl State.owSchedule s
  s.sxtTakeover

/-- The twin's role as last received. -/
def State.twinRole (s : State) : Nat := s.fld F.RDN_STS_TWINROLE

/-- One transition of Table 15-1, the first row that holds (R366). Dead reckoning takes its own way in drmEnter. -/
def State.roleStep (s : State) : State :=
  if !s.flag F.RDN_CTL_TWIN || s.fld F.LDS_DRM_STATE != 0 then s
  else
    let grant := s.flag F.RDN_STS_GRANT_L
    match s.fld F.RDN_STS_ROLE with
    | 0 =>
      if !s.flag F.RDN_STS_CLAIM_L then
        if !s.flag F.UPD_STS_STARTED then s
        else if s.twinRole = 3 ∨ s.twinRole = 4 then s.setRole 1 false
        else s.setRole 0 true
      else if grant then s.setRole 4 true
      else if s.twinRole = 4 then s.setRole 1 false
      else s
    | 2 =>
      if s.rdn.mirAt + 100000000 ≤ s.dial then (s.setRole 1 false).setHeld F.RDN_STS_UNFIT true
      else if grant then s.takeover
      else s
    | 3 | 4 => if grant then s else ((s.setRole 1 false).roleLeave).raiseEv F.RDN_STS_GRANT_LOST
    | _ => s

end Sys2Proof.Machine
end

