-- ==== Sys2Proof/Machine/Clock.lean ====
section
/-! DEFINITION. The root PLL, the clock monitors and the 22 crossings (22_clocks_crossings.md). Effects of a stopped clock on links, RTC and Lodestone are in Links. -/

namespace Sys2Proof.Machine

/-! ## Crossings (R502 to R513) -/

/-- Does a crossing allow the fall-back path (Table 22-3)? -/
def xFallback (n : Nat) : Bool := n == 2 || n == 3 || n == 4 || n == 5 || n == 17

/-- The crossings on an asynchronous clock (Tables 22-2, 22-3). -/
def clockCrossings (i : Nat) : List Nat :=
  if i = 2 then [2, 3] else if i = 3 then [4, 5] else if i < 2 then [i]
  else if 4 ≤ i ∧ i < 12 then [i + 2] else if i = 12 ∨ i = 13 then [i + 2]
  else if i = 14 then [17, 18, 19, 20] else if i = 15 then [21] else if i = 16 then [16] else []

/-- A crossing's state: 0 OPEN, 1 FALLBACK, 2 HANDSHAKE, 3 TIMEDOUT. -/
def State.xState (s : State) (n : Nat) : Nat := s.fld (F.CLK_XSTAT_STATE n)

/-- Has a pointer check failed since the last handshake? -/
def State.xFailed (s : State) (n : Nat) : Bool := Tab.get (fun _ => false) s.clk.failed n
def State.setXFailed (s : State) (n : Nat) (b : Bool) : State :=
  { s with clk := { s.clk with failed := Tab.set (fun _ => false) s.clk.failed n b } }

/-- The handshake phase a crossing has reached. -/
def State.xPhase (s : State) (n : Nat) : Nat := Tab.get (fun _ => 0) s.clk.phase n
def State.setXPhase (s : State) (n v : Nat) : State := { s with clk := { s.clk with phase := Tab.set (fun _ => 0) s.clk.phase n v } }

/-! ## Hold registers (R503 to R505, R508) -/

/-- A crossing's hold registers. -/
def State.xing (s : State) (n : Nat) : Xing := Tab.get (fun _ => Xing.reset) s.clk.xing n
def State.modXing (s : State) (n : Nat) (f : Xing → Xing) : State :=
  { s with clk := { s.clk with xing := Tab.modify (fun _ => Xing.reset) s.clk.xing n f } }

/-- The Gray code of a count of words, modulo 8: the write and read pointers (R503). -/
def grayCode (n : Nat) : Nat := n % 8 ^^^ n % 8 / 2

/-- The write pointer, and the read pointer, which lies the untaken words behind it. -/
def Xing.wptr (x : Xing) : Nat := grayCode x.wr
def Xing.rptr (x : Xing) : Nat := grayCode (x.wr - x.full.length)

/-- The hold registers a path has: four in turn on the main path, one on the fall-back path. -/
def xDepth (fb : Bool) : Nat := if fb then 1 else 4

/-- The source writes a word into the next hold register and advances the write pointer. -/
def Xing.put (fb : Bool) (x : Xing) (w : XWord) : Xing :=
  let i := if fb then 0 else x.wr % 4
  { x with regs := x.regs.set i w, full := x.full ++ [i], wr := x.wr + 1 }

/-- Words that the source waits to write go in order into the hold registers that are free. -/
def Xing.fill (fb : Bool) (x : Xing) : List XWord → Xing
  | [] => { x with wait := [] }
  | w :: ws => if x.full.length < xDepth fb then Xing.fill fb (x.put fb w) ws else { x with wait := w :: ws }

/-- The source hands over a word: while every hold register is untaken, it waits. -/
def Xing.offer (fb : Bool) (x : Xing) (w : XWord) : Xing := Xing.fill fb x (x.wait ++ [w])

/-- The destination takes the oldest word that the write pointer shows; the register is free for reuse. -/
def Xing.take (fb : Bool) (x : Xing) : Option XWord × Xing :=
  match x.full with
  | [] => (none, x)
  | i :: is => (x.regs[i]?, Xing.fill fb { x with full := is } x.wait)

/-- A word crosses: the source writes it and the destination, whose clock runs, takes what it finds. -/
def Xing.pass (fb : Bool) (x : Xing) (w : XWord) : Xing := ((x.offer fb w).take fb).2

/-- The destination clock of a crossing stands: PCIe for completions, the Lodestone oscillator for what goes to Lodestone. -/
def State.xStill (s : State) (n : Nat) : Bool :=
  (n == 3 && (s.word Reg.CLK_MON).getLsbD 2) || ((n == 17 || n == 20) && (s.word Reg.CLK_MON).getLsbD 14)

/-- Words are handed to a crossing's source. During a handshake they wait, in TIMEDOUT they are discarded and counted (R510, R512);
with the destination's clock standing they fill the hold registers and then wait; otherwise each crosses. -/
def State.xSend (s : State) (n : Nat) (ws : List XWord) : State :=
  let fb := s.xState n == 1
  if s.xState n = 3 then s.satAdd (F.CLK_XSTAT_DISC n) ws.length
  else if s.xState n = 2 then s.modXing n fun x => { x with wait := x.wait ++ ws }
  else if s.xStill n then s.modXing n fun x => ws.foldl (Xing.offer fb) x
  else s.modXing n fun x => ws.foldl (Xing.pass fb) x

/-- The words that waited through a handshake cross once it is complete, while the destination's clock runs: what the destination
takes, and the state. -/
def State.xDrain (s : State) (n : Nat) : List XWord × State :=
  let x := s.xing n
  let fb := s.xState n == 1
  if s.xStill n then ([], s.modXing n fun x => Xing.fill fb x x.wait)
  else (x.wait, s.modXing n fun x => x.wait.foldl (Xing.pass fb) { x with wait := [] })

/-! ## Reset handshake, timeout, modes (R506, R509 to R513) -/

/-- A start of R511: the crossing enters HANDSHAKE from any state. -/
def State.xStart (s : State) (n : Nat) : State := if n < 22 then (s.setFld (F.CLK_XSTAT_STATE n) 2).setXPhase n 1 else s

/-- Start the handshakes of several crossings. -/
def State.xStartAll (s : State) (l : List Nat) : State := l.foldl State.xStart s

/-- The event mode CLK_XEVMODE asks for. -/
def State.xEvMode (s : State) (n : Nat) : Bool := (s.word Reg.CLK_XEVMODE).getLsbD n

/-- A handshake phase: in phase 2 the untaken words in the hold registers and the u events and words beyond them are discarded and
the pointers zeroed; phase 4 completes to OPEN, or to FALLBACK while the CLK_XFB bit is 1, with the event mode asked for in force
(R509, R510). -/
def State.xPhaseStep (s : State) (n u : Nat) : State :=
  if s.xState n ≠ 2 then s
  else match s.xPhase n with
    | 1 =>
      ((s.satAdd (F.CLK_XSTAT_DISC n) (u + (s.xing n).full.length)).modXing n fun x => { x with full := [], wr := 0 }).setXPhase n 2
    | 2 => s.setXPhase n 3
    | _ =>
      (((s.setXPhase n 0).setXFailed n false).setFld (F.CLK_XSTAT_STATE n) (if (s.word Reg.CLK_XFB).getLsbD n then 1 else 0)
        |>.setFlag (F.CLK_XSTAT_EVMODE n) (s.xEvMode n)).raiseEv F.CLK_STS_CDC_RESYNC

/-- CROSSING_TIMEOUT: a wait has reached 1,024 cycles; the waiting and every later word are discarded, with u more that wait (R512). -/
def execCrossingTimeout (t n u : Nat) (s : State) : Out :=
  let s := s.at t
  .next (if n < 22 ∧ s.xState n ≠ 3 then
    ((((s.setFld (F.CLK_XSTAT_STATE n) 3).setXPhase n 0).satAdd (F.CLK_XSTAT_DISC n) (u + (s.xing n).wait.length)).modXing n
        fun x => { x with wait := [] }).setFld F.CLK_TOINFO_XID n
      |>.satAdd F.CLK_TOINFO_COUNT 1 |>.raiseEv F.CLK_STS_CDC_TIMEOUT
    else s)

/-- POINTER_CHECK_FAIL: fall-back where the crossing allows it, otherwise a reset handshake (R506). -/
def execPointerCheckFail (t n : Nat) (s : State) : Out :=
  let s := s.at t
  .next (if xFallback n then
      if s.xState n = 0 ∨ s.xState n = 1 then
        ((s.setXFailed n true).setFld (F.CLK_XSTAT_STATE n) 1).raiseEv F.CLK_STS_CDC_FALLBACK
      else s
    else s.xStart n)

/-- A write of CLK_XRESYNC: each bit at 1 starts its crossing's handshake (R511). -/
def State.xresyncWrite (s : State) (v : Word) : State := s.xStartAll (onesBelow 22 v.toNat)

/-- XRESYNC. -/
def execXresync (t : Nat) (_m : Master) (v : Word) (s : State) : Out := .next ((s.at t).xresyncWrite v)

/-- The bits of CLK_XFB that can be 1. -/
def xfbMask : Word := 0x0002003C#32

/-- A write of CLK_XFB: bits of main-only and event crossings stay 0 and set CFG_REJ (R506); OPEN crossings with their bit at 1
fall back, and those in FALLBACK with it at 0 and no failed check open (R513). -/
def State.xfbWrite (s : State) (v : Word) : State :=
  let s := s.when ((v &&& 0x003FFFFF#32 &&& ~~~ xfbMask) != 0) fun s => s.raiseEv F.CLK_STS_CFG_REJ
  let s := s.setWord Reg.CLK_XFB (v &&& xfbMask)
  [2, 3, 4, 5, 17].foldl (fun s n =>
    if v.getLsbD n = true ∧ s.xState n = 0 then s.setFld (F.CLK_XSTAT_STATE n) 1
    else if v.getLsbD n = false ∧ s.xState n = 1 ∧ s.xFailed n = false then s.setFld (F.CLK_XSTAT_STATE n) 0
    else s) s

/-- XFB_WRITE. -/
def execXfbWrite (t : Nat) (_m : Master) (v : Word) (s : State) : Out := .next ((s.at t).xfbWrite v)

/-- A write of CLK_XEVMODE: the mode is in force at once on each channel that holds no untaken event (R509). -/
def State.xevmodeWrite (s : State) (v busy : Word) : State :=
  let s := s.setFld F.CLK_XEVMODE_MODE (v.toNat % 2 ^ 19)
  (onesBelow 19 (~~~ busy).toNat).foldl (fun s n => s.setFlag (F.CLK_XSTAT_EVMODE n) (v.getLsbD n)) s

/-- XEVMODE_WRITE: busy has a bit for each channel that holds an untaken event. -/
def execXevmodeWrite (t : Nat) (_m : Master) (v busy : Word) (s : State) : Out := .next ((s.at t).xevmodeWrite v busy)

/-! ## PLL and monitors (R498, R500) -/

/-- PLL_LOCK. -/
def execPllLock (t : Nat) (s : State) : Out := .next ((s.at t).setFld F.CLK_STS_PLL_LOCK 1)

/-- PLL_UNLOCK: a loss of lock while running sets PLL_UNLOCK and stops nothing. -/
def execPllUnlock (t : Nat) (s : State) : Out := .next (((s.at t).setFld F.CLK_STS_PLL_LOCK 0).raiseEv F.CLK_STS_PLL_UNLOCK)

/-- A monitored clock is declared stopped or running: CLK_MON and the held condition CLKSTOP follow. -/
def State.clkMon (s : State) (i : Nat) (stop : Bool) : State :=
  if i < 17 ∧ i ≠ 3 then
    let s := s.setFlag ⟨Reg.CLK_MON, i, i⟩ stop
    s.setHeld F.CLK_STS_CLKSTOP (s.word Reg.CLK_MON != 0)
  else s

end Sys2Proof.Machine
end

