-- ==== Sys2Proof/Machine/Traverse.lean ====
section
/-! DEFINITION. Traverse rings: training, loading, arming, reachability, and what the device does with the frames its ports receive (03_traverse.md, Table 3-3). -/

namespace Sys2Proof.Machine

/-! ## Links -/

/-- Are all links of a ring up: both ports, and each tile's links on this unit's interface (R107)? -/
def State.allLinksUp (s : State) (r : Nat) : Bool :=
  (s.port (2 * r)).up && (s.port (2 * r + 1)).up &&
    (s.ringSlots r).all fun k => (tileIf (s.tile k) s.unitIf).up0 && (tileIf (s.tile k) s.unitIf).up1

/-- Note since when every link of a ring has been up (Table 3-3). -/
def State.trackLinks (s : State) (r : Nat) : State :=
  s.modRing r fun g => { g with allUp := if s.allLinksUp r then some (g.allUp.getD s.dial) else none }

/-- Is a ring enabled by TRV_CTL.EN and not gated in TRIM (R462)? -/
def State.ringEn (s : State) (r : Nat) : Bool := (s.word Reg.TRV_CTL).getLsbD r && !(s.fld F.THM_TRIM_RING).testBit r

/-! ## Reachability (R89, R105) -/

/-- Send an ENUM from an end of a ring. DESIGN CHOICE (log entry 103): it leaves with HOP 0xF, which no tile counts down. -/
def State.sendEnum (s : State) (r e : Nat) : State := s.portSendBody (2 * r + e) 15 (.enum 0 e)

/-- The state R89 gives a ring from its counts. -/
def State.reachState (s : State) (r : Nat) : RingState :=
  let n := (s.ring r).n
  let slots := (s.ringSlots r).filter fun k => decide (k - 12 * r < s.ringTiles r) || s.ringTiles r == 0
  let failed := slots.any fun k => (s.known k).failed
  let all := s.reachFrom r 0 == n && s.reachFrom r 1 == n
  if s.reachFrom r 0 = 0 ∧ s.reachFrom r 1 = 0 then .lost
  else if failed || !(s.ringSlots r).all s.reachable then .degraded
  else if (s.ring r).state = .arming ∧ all then .closed
  else .openRing

/-- Entry into a state by a reachability check: LOST is noted with its record, and every transition into OPEN, DEGRADED or LOST is
a retrain in the wear ledger (R106, R487). -/
def State.enterReach (s : State) (r : Nat) (v : RingState) : State :=
  let old := (s.ring r).state
  let s := s.setRingState r v
  let s := s.setFld (F.TRV_RINGSTS_BRKHOP r) (if v = RingState.closed then 0 else s.reachFrom r 0)
  if v = old then s
  else
    let s := if v = RingState.closed then s else s.wearAdd 3 r 1
    let s := if v = RingState.lost then
        ((s.modRing r fun g => { g with lostAt := s.dial }).raise (F.TRV_RINGSTS_LOST r)).logEvent 0x0302 2 (nw r) []
      else s
    s.abandonRing r

/-- RINGUP: the ring has left ARMING (R88); its reachable tiles run a start-up sweep (R137). -/
def State.ringUp (s : State) (r : Nat) : State :=
  let s := (s.ringSlots r).foldl (fun s k => s.modKnown k fun x => { x with armAt := s.dial, armBad := false }) s
  (s.ringSlots r).foldl (fun s k => s.sweepSlot k) (s.raise (F.TRV_RINGSTS_RINGUP r))

/-- The home ends of R82 on a closed ring; a tile that turns retrains. -/
def State.restoreHome (s : State) (r k : Nat) : State :=
  let home := if slotHop k ≤ ((s.ring r).n + 1) / 2 then 0 else 1
  if (tileIf (s.tile k) s.unitIf).home % 2 = home then s else s.setTile k (tileTurnHome (s.tile k) s.unitIf)

/-- May a ring in OPEN or DEGRADED return to CLOSED: every link up for 1 s and no tile FAILED (Table 3-3)? -/
def State.mayRestore (s : State) (r : Nat) : Bool :=
  (match (s.ring r).allUp with | some a => decide (a + 1000000000 ≤ s.dial) | none => false) && s.allLinksUp r &&
    (s.ringSlots r).all fun k => !(s.known k).failed

/-- A ring returns to CLOSED with the home ends of R82. -/
def State.restoreRing (s : State) (r : Nat) : State :=
  (s.ringSlots r).foldl (fun s k => s.restoreHome r k) (((s.setRingState r .closed).setFld (F.TRV_RINGSTS_BRKHOP r) 0).abandonRing r)

/-- The counts of a check are in: K0 and K1 show them, and the ring takes the state of R89. LOADING keeps its state, and ARMING unless
its conditions are met; a ring whose check for the return finds every tile from both ends is CLOSED again. -/
def State.evaluate (s : State) (r : Nat) : State :=
  let g := s.ring r
  let s := (s.setFld (F.TRV_RINGSTS_K0 r) (g.k0.getD 0)).setFld (F.TRV_RINGSTS_K1 r) (g.k1.getD 0)
  let s := s.modRing r fun g => { g with checking := false }
  let v : RingState := s.reachState r
  let s := match g.state with
    | .arming => if g.aim = CheckAim.leave then (if v = RingState.lost then s else s.ringUp r).enterReach r v else s
    | .closed =>
      let s1 := s.enterReach r v
      if v = RingState.closed then s1
      else s1.logEvent 0x0301 1 (nw r) [nw (s1.reachFrom r 0), nw (s1.reachFrom r 1), nw (s1.fld (F.TRV_RINGSTS_BRKHOP r)), nw v.code]
    | .openRing | .degraded =>
      if g.aim = CheckAim.restore ∧ s.mayRestore r = true ∧ s.reachFrom r 0 = g.n ∧ s.reachFrom r 1 = g.n then s.restoreRing r else s.enterReach r v
    | .down | .training | .loading | .lost | .fault => s
  s.serviceRing r

/-- Start a reachability check: an ENUM from each end whose link is up; an end whose link is down reaches nothing (R105). From
CLOSED it sets BREAK. -/
def State.startCheck (s : State) (r : Nat) (aim : CheckAim) : State :=
  let u0 := (s.port (2 * r)).up
  let u1 := (s.port (2 * r + 1)).up
  let s := if (s.ring r).state = .closed then s.raise (F.TRV_RINGSTS_BREAK r) else s
  let s := s.modRing r fun g => { g with checking := true, aim := aim, k0 := if u0 then none else some 0, k1 := if u1 then none else some 0 }
  let s := if u0 then s.sendEnum r 0 else s
  let s := if u1 then s.sendEnum r 1 else s
  if !u0 && !u1 then s.evaluate r else s

/-- The slots of a ring that take part: found by enumeration and within the configured count (R90). -/
def State.activeSlots (s : State) (r : Nat) : List Nat :=
  (s.ringSlots r).filter fun k => decide (k < 12 * r + s.ringTiles r) && s.reachable k

/-- Every booted tile has reported ARMED with the right CRC and 16 TSYNC periods have passed: the reachability check that leaves
ARMING starts (Table 3-3). -/
def State.armingDone (s : State) (r : Nat) : State :=
  let g := s.ring r
  if g.state = .arming ∧ g.checking = false ∧ 16 ≤ g.tsyncs ∧
      (s.activeSlots r).all (fun k => !(s.known k).booted || (s.known k).armOk) = true then s.startCheck r .leave else s

/-! ## Training (R88 to R92) -/

/-- Forget what the ECHOs measured on a ring. -/
def State.clearEchos (s : State) (r : Nat) : State :=
  (List.range 12).foldl (fun s i => s.modKnown (12 * r + i) fun x => { x with e0 := ⟨0, 0, 0⟩, e1 := ⟨0, 0, 0⟩ }) s

/-- Start a training attempt: from both ends, or from the one end of an open ring. -/
def State.startTraining (s : State) (r : Nat) (from1 : Option Nat) : State :=
  let s := s.setRingState r .training
  let s := (s.modRing r fun g => { g with openFrom := from1, measuring := false, checking := false, k0 := none, k1 := none, lp := 0 }).clearEchos r
  match from1 with
  | some e => s.sendEnum r e
  | none => (s.sendEnum r 0).sendEnum r 1

/-- A ring in DOWN with EN 1 and both ports up trains (Table 3-3). -/
def State.tryTrain (s : State) (r : Nat) : State :=
  if (s.ring r).state = .down ∧ s.ringEn r = true ∧ (s.port (2 * r)).up = true ∧ (s.port (2 * r + 1)).up = true then
    (s.modRing r fun g => { g with fails := 0 }).startTraining r none
  else s

/-- A training attempt fails: the third in a row sends the ring to FAULT with TRAIN_FAIL (R88). Otherwise the next attempt starts
in the form the ports allow; with no port up it fails too. -/
def State.failAttempt (s : State) (r : Nat) : Nat → State
  | 0 => s
  | fuel + 1 =>
    let s := s.modRing r fun g => { g with fails := g.fails + 1 }
    if 3 ≤ (s.ring r).fails then (s.setRingState r .fault).raise (F.TRV_RINGSTS_TRAIN_FAIL r)
    else match (s.port (2 * r)).up, (s.port (2 * r + 1)).up with
      | true, true => s.startTraining r none
      | true, false => s.startTraining r (some 0)
      | false, true => s.startTraining r (some 1)
      | false, false => s.failAttempt r fuel

/-- The ends a training attempt measures from. -/
def trainEnds (g : Ring) : List Nat := match g.openFrom with | some e => [e] | none => [0, 1]

/-- 64 ECHO frames to a slot's tile from end e (R91). -/
def State.sendEchos (s : State) (r e h : Nat) : State :=
  (List.range 64).foldl (fun s i => s.portSendBody (2 * r + e) h (.echo (64 * h + i))) s

/-- The enumeration of an attempt has passed with N tiles: N shows, TOPO_MISMATCH where it differs from ACQ's count, and the delays
are measured (R90, R91). -/
def State.enumPassed (s : State) (r n : Nat) : State :=
  let g := s.ring r
  let s := (s.modRing r fun g => { g with n := n, measuring := true }).setFld (F.TRV_RINGSTS_N r) n
  let s := s.when (n != s.ringTiles r) fun s => s.raise (F.TRV_RINGSTS_TOPO_MISMATCH r)
  let k := fun e => if (trainEnds g).contains e then n else 0
  let s := (s.setFld (F.TRV_RINGSTS_K0 r) (k 0)).setFld (F.TRV_RINGSTS_K1 r) (k 1)
  (trainEnds g).foldl (fun s e => (List.range n).foldl (fun s i => s.sendEchos r e (i + 1)) s) s

/-- An ENUM of a training attempt has come back. -/
def State.trainEnum (s : State) (r origin count : Nat) (turned : Bool) (lp : Nat) : State :=
  let g := s.ring r
  match g.openFrom with
  | some e =>
    if origin ≠ e then s
    else if turned && decide (1 ≤ count ∧ count ≤ 12) then s.enumPassed r count else s.failAttempt r 3
  | none =>
    if turned then s.failAttempt r 3
    else
      let s := s.modRing r fun g => if origin = 0 then { g with k0 := some count, lp := lp } else { g with k1 := some count }
      match (s.ring r).k0, (s.ring r).k1 with
      | some a, some b => if a = b ∧ 1 ≤ a ∧ a ≤ 12 then s.enumPassed r a else s.failAttempt r 3
      | _, _ => s

/-- ENUM_RETURN: an ENUM arrives at a port, at the far port with N or turned back with the tiles reachable (R81, R90, R105);
loopTime is the port 0 to port 1 time of a closed ring in 1/16 ns. -/
def execEnumReturn (t p : Nat) (f : Frame) (loopTime : Nat) (s : State) : Out :=
  let s := s.at t
  let r := p / 2
  .next (match f.body with
    | .enum count origin =>
      let g := s.ring r
      if g.state = .training then (if g.measuring then s else s.trainEnum r origin count f.inbound loopTime)
      else if g.checking then
        let s := s.modRing r fun g => if origin = 0 then { g with k0 := some count } else { g with k1 := some count }
        match (s.ring r).k0, (s.ring r).k1 with
        | some _, some _ => (s.evaluate r).armingDone r
        | _, _ => s
      else s
    | _ => s)

/-! ## Delays (R91, R92) -/

/-- The ECHO sums of a slot from end e. -/
def State.echoSum (s : State) (e k : Nat) : EchoSum := if e = 0 then (s.known k).e0 else (s.known k).e1

/-- Twice 64 times the one-way delay of a slot from end e, in 1/16 ns: D = mean(RTT - residence) / 2. -/
def State.delay128 (s : State) (e k : Nat) : Int := ((s.echoSum e k).rtt : Int) - (s.echoSum e k).res

/-- Are the 64 ECHOs of a slot from end e in? -/
def State.echoDone (s : State) (e k : Nat) : Bool := decide (64 ≤ (s.echoSum e k).cnt)

/-- The delay checks of R91: no hop's delay step above 1,000 ns, and on a closed ring the loop check within 8 ns. -/
def State.delaysOk (s : State) (r : Nat) : Bool :=
  let g := s.ring r
  let n := g.n
  (trainEnds g).all (fun e => (List.range n).all fun i =>
    let d := s.delay128 e (slotAt r e (i + 1) n)
    let d0 := if i = 0 then 0 else s.delay128 e (slotAt r e i n)
    s.echoDone e (slotAt r e (i + 1) n) && decide (d - d0 ≤ 16000 * 128)) &&
  (g.openFrom.isSome || (s.ringSlots r).all fun k =>
    let res : Int := ((s.echoSum 0 k).res : Int) + (s.echoSum 1 k).res
    decide ((s.delay128 0 k + s.delay128 1 k + res - 128 * (g.lp : Int)).natAbs ≤ 128 * 128))

/-- The hops that a training has not reached read 0 in TRV_HOPDLY (R92). -/
def State.clearHops (s : State) (r : Nat) : State :=
  ((List.range 12).filter fun i => decide ((s.ring r).n ≤ i)).foldl (fun s i =>
    (s.setFld (F.TRV_HOPDLY_DELAY (24 * r + i)) 0).setFld (F.TRV_HOPDLY_DELAY (24 * r + 12 + i)) 0) s

/-- Write a tile's hops, delays and home end as training does, and TRV_HOPDLY with them (R82, R92). DESIGN CHOICE (log entry 99): D(h) is
rounded down to whole 1/16 ns. -/
def State.configTile (s : State) (k : Nat) : State :=
  let r := slotRing k
  let n := (s.ring r).n
  let d := fun e => if s.echoDone e k then (s.delay128 e k / 128).toNat else 0
  let home := if s.reachedFrom 0 k && s.reachedFrom 1 k then (if slotHop k ≤ (n + 1) / 2 then 0 else 1)
    else if s.reachedFrom 0 k then 0 else 1
  let s := s.setFld (F.TRV_HOPDLY_DELAY (24 * r + slotHop k - 1)) (d 0)
  let s := s.setFld (F.TRV_HOPDLY_DELAY (24 * r + 12 + (n + 1 - slotHop k) - 1)) (d 1)
  s.setTile k (tileModIf (s.tile k) s.unitIf fun i =>
    { i with home := home, hop0 := slotHop k, hop1 := n + 1 - slotHop k, d0 := d 0, d1 := d 1 })

/-! ## Loading and arming (R96, R98) -/

/-- ARMING is entered: TSYNC starts, a PROFILE injection is due, and no tile counts as armed yet (R94, R98). -/
def State.enterArming (s : State) (r : Nat) : State :=
  let s := s.setRingState r .arming
  let s := s.modRing r fun g => { g with armAt := none, pollAt := none, tsyncs := 0, profDue := true }
  (s.ringSlots r).foldl (fun s k => s.modKnown k fun x => { x with armOk := false }) s

/-- LOADING is left once every reachable tile has booted its image or has been marked FAILED (Table 3-3). -/
def State.loadingDone (s : State) (r : Nat) : State :=
  if (s.ring r).state = .loading ∧ (s.activeSlots r).all (fun k => (s.known k).booted || (s.known k).failed) = true then s.enterArming r else s

/-- LOADING is entered: tiles found in their ROM loader are loaded, by broadcast where every tile of the ring is in it and none lies
beyond the configured count, otherwise addressed (R90, R96, R97). -/
def State.enterLoading (s : State) (r : Nat) : State :=
  let s := s.setRingState r .loading
  let s := (s.ringSlots r).foldl (fun s k => s.modKnown k fun x =>
    { x with booted := !(s.tile k).rom && (s.tile k).powered, failed := false, loadFails := 0, fresh := false }) s
  let rom := (s.activeSlots r).filter fun k => !(s.known k).booted
  let s := if rom.isEmpty then s
    else if (s.ring r).n ≤ s.ringTiles r ∧ (s.ringSlots r).all (fun k => !(s.known k).booted) = true then s.startLoad (2 * r + (s.ring r).openFrom.getD 0) 15
    else rom.foldl State.loadTile s
  s.loadingDone r

/-- TRAINING_DONE: the enumeration and delay checks are finished, and the ring passes to LOADING or the attempt fails (R88, R91). -/
def execTrainingDone (t r : Nat) (s : State) : Out :=
  let s := s.at t
  .next (if (s.ring r).state ≠ .training then s
    else if (s.ring r).measuring && s.delaysOk r then
      ((s.ringSlots r).foldl State.configTile ((s.modRing r fun g => { g with fails := 0, measuring := false }).clearHops r)).enterLoading r
    else s.failAttempt r 3)

/-- OPEN_RING_TRAIN_START: exactly one port has been up for 100 ms with EN 1 (R88). -/
def execOpenRingTrainStart (t p : Nat) (s : State) : Out :=
  let s := s.at t
  let r := p / 2
  let o := if p % 2 = 0 then p + 1 else p - 1
  .next (if (s.ring r).state = .down ∧ s.ringEn r = true ∧ (s.port p).up = true ∧ (s.port o).up = false ∧
      (s.port p).upSince + 100000000 ≤ s.dial then
    (s.modRing r fun g => { g with fails := 0 }).startTraining r (some (p % 2))
    else s)

/-- A tile of a ring has been marked FAILED, or is no longer: a running ring takes the state of R89 anew, except that a CLOSED ring
without a FAILED tile stays CLOSED. -/
def State.failedChanged (s : State) (r : Nat) : State :=
  let st := (s.ring r).state
  let v := s.reachState r
  (if st.running && !(st == RingState.closed && v == RingState.openRing) then s.enterReach r v else s).serviceRing r

/-- A tile's load has failed: it is reloaded, addressed, or after the third failure marked FAILED with LOAD_FAIL (R96). -/
def State.loadFailed (s : State) (k : Nat) : State :=
  let r := slotRing k
  let s := s.modKnown k fun x => { x with loadFails := x.loadFails + 1 }
  if 3 ≤ (s.known k).loadFails then
    (((s.modKnown k fun x => { x with failed := true, fresh := false }).raise (F.TRV_RINGSTS_LOAD_FAIL r)).loadingDone r).failedChanged r
  else s.loadTile k

/-- TILE_BOOT: the tile boots its image; LOADING may end, and a tile on a running ring returns to service with a sweep (R96, R546). -/
def execTileBoot (t k : Nat) (s : State) : Out :=
  let s := s.at t
  let ok := (s.tile k).powered && (s.tile k).rom && (s.tile k).imgOk
  let s := s.onTile k tileBoot
  let r := slotRing k
  .next (if ok then
    let s := (s.modKnown k fun x => { x with booted := true, failed := false, loadFails := 0, fresh := false }).modRing r
      fun g => { g with profDue := true }
    if (s.ring r).state.running then (s.sweepSlot k).failedChanged r else s.loadingDone r
    else s)

/-- ARMSTAT_POLL: every 1 ms from the PROFILE injection of ARMING each booted tile gets an ARMSTAT CMD (Table 3-3). -/
def execArmstatPoll (t r : Nat) (s : State) : Out :=
  let s := s.at t
  let g := s.ring r
  .next (if g.state = .arming ∧ g.armAt.isSome = true ∧ (match g.pollAt with | some a => decide (a + 1000000 ≤ s.dial) | none => true) = true then
    (s.activeSlots r).foldl (fun s k => if (s.known k).booted then s.sendCmd k (.armstat k) 0x23 [] else s)
      (s.modRing r fun g => { g with pollAt := some s.dial })
    else s)

/-! ## Outcomes of CMDs -/

/-- A CMD's outcome reaches its issuer: a RESP done with its data, or a failure (R87, R545). -/
def State.cmdOutcome (s : State) (use : CmdUse) (ok : Bool) (data : List Nat) : State :=
  match use with
  | .openWire k =>
    match (s.acqSlot k).test with
    | some x => if ok then s.modAcqSlot k fun y => { y with test := some { x with respOk := true } } else s.owAbandon k
    | none => s
  | .balset k mask => s.balsetDone k mask ok
  | .dieTemp k => if ok then s.dieTempRead k (signed 16 (leNat (data.take 2))) else s
  | .armstat k =>
    let good := ok && decide (128 ≤ data.getD 0 0) && leNat ((data.drop 1).take 2) == s.fld F.LDS_CFG_PROFCRC
    (s.modKnown k fun x => { x with armOk := good }).armingDone (slotRing k)

/-- Take a CMD that awaits its RESP off a port. -/
def State.dropOutst (s : State) (p seq : Nat) : State := s.modPort p fun x => { x with outst := x.outst.filter fun o => o.frame.seq != seq }

/-- The CMD of a SEQ that awaits its RESP at a port. -/
def State.findOutst (s : State) (p seq : Nat) : Option Outst := (s.port p).outst.find? fun o => o.frame.seq == seq

/-- RESP_RECEIVE: a LOADEND result (function code 0), or the answer to a CMD; a refused CMD has failed without retry (R545). DESIGN CHOICE
(log entry 100): a refused CMD is not counted in CMDFAIL, which counts CMDs failed after retries. -/
def execRespReceive (t p : Nat) (crcOk : Bool) (f : Frame) (s : State) : Out :=
  let s := s.at t
  let c := s.portCheck p crcOk f
  .next (if c.1 then match f.body with
    | .resp fn status data =>
      let s := c.2
      if fn = 0 then (if status = 0 then s else s.loadFailed (s.sourceSlot p f))
      else match s.findOutst p f.seq with
        | some o => (s.dropOutst p f.seq).cmdOutcome o.use (status == 0) data
        | none => s
    | _ => c.2
    else c.2)

/-- CMD_TIMEOUT: the CMD is sent again with the same SEQ, at most twice; then it is reported failed and counted (R87). -/
def execCmdTimeout (t p seq : Nat) (s : State) : Out :=
  let s := s.at t
  .next (match s.findOutst p seq with
    | some o =>
      if !s.cmdTimedOut (p / 2) o then s
      else if o.retries < 2 then
        (s.modPort p fun x => { x with outst := x.outst.map fun (q : Outst) =>
          if q.frame.seq = seq then { q with retries := q.retries + 1, sentAt := none } else q }).portSend p o.frame
      else ((s.dropOutst p seq).satAdd (F.TRV_PORTSTS_CMDFAIL p) 1).cmdOutcome o.use false []
    | none => s)

/-- UNCLAIMED_FRAME: an outbound frame with a non-zero count reaches the far port: counted, unless it is an ENUM; a CMD is reported to
its issuer as not delivered (R78). -/
def execUnclaimedFrame (t p : Nat) (f : Frame) (s : State) : Out :=
  let s := s.at t
  .next (match f.body with
    | .enum .. => s
    | b =>
      if f.hop = 0 then s
      else
        let s := s.satAdd (F.TRV_PORTSTS_UNCLAIMED p) 1
        let o := if p % 2 = 0 then p + 1 else p - 1
        match b with
        | .cmd .. => match s.findOutst o f.seq with
          | some q => (s.dropOutst o f.seq).cmdOutcome q.use false []
          | none => s
        | _ => s)

/-- ECHOR_RECEIVE: the round trip and the residence enter the sums of the tile and end; a fresh tile whose ECHOs are all in is
configured and loaded (R91, R546). -/
def execEchorReceive (t p rtt : Nat) (f : Frame) (s : State) : Out :=
  let s := s.at t
  .next (match f.body with
    | .echor _ res =>
      let k := s.sourceSlot p f
      let add := fun (e : EchoSum) => if e.cnt < 64 then { cnt := e.cnt + 1, rtt := e.rtt + rtt, res := e.res + res } else e
      let s := s.modKnown k fun x => if p % 2 = 0 then { x with e0 := add x.e0 } else { x with e1 := add x.e1 }
      let ready := [0, 1].all fun e => !s.reachedFrom e k || s.echoDone e k
      if (s.known k).fresh && (s.activeSlots (p / 2)).contains k && ready && !(s.known k).booted && decide ((s.known k).loadFails = 0) then (s.configTile k).loadTile k else s
    | _ => s)

/-- Something on a ring shows a break: a training attempt fails, a ring past training is checked (R88, R105). -/
def State.breakSeen (s : State) (r : Nat) : State :=
  match (s.ring r).state with
  | .training => s.failAttempt r 3
  | .arming => (s.startCheck r .look).armingDone r
  | .loading | .closed | .openRing | .degraded => s.startCheck r .look
  | .down | .lost | .fault => s

/-- TURNBACK_FRAME_RECEIVE: a frame other than ENUM came back (R80, R88). -/
def execTurnbackFrameReceive (t p : Nat) (f : Frame) (s : State) : Out :=
  let s := s.at t
  .next (if f.turnback then s.breakSeen (p / 2) else s)

/-- ALERT_RECEIVE: LINKDOWN starts a check, COMPARATOR and DIE_HOT are noted for the tile (R83, R101, R269). -/
def execAlertReceive (t p : Nat) (crcOk : Bool) (f : Frame) (s : State) : Out :=
  let s := s.at t
  let c := s.portCheck p crcOk f
  .next (if c.1 then match f.body with
    | .alert code _ =>
      let s := c.2
      let k := s.sourceSlot p f
      if code = 1 then s.breakSeen (p / 2)
      else if code = 3 then s.modKnown k fun x => { x with comp := true }
      else if code = 4 then s.setHot k true
      else s
    | _ => c.2
    else c.2)

/-- ALERT_BOOT_RECEIVE: the tile is fresh: nothing of the tile that stood there carries over but what belongs to the slot; its
delays are measured from each reachable end (R546). A tile beyond the configured count stays in its ROM loader (R90). -/
def execAlertBootReceive (t p : Nat) (f : Frame) (s : State) : Out :=
  let s := s.at t
  let k := s.sourceSlot p f
  let r := p / 2
  .next (if ((s.ring r).state.running ∨ (s.ring r).state = .arming ∨ (s.ring r).state = .loading) ∧ k < 12 * r + s.ringTiles r then
    let s := s.setKnown k { TileKnown.reset with fresh := true, failed := (s.known k).failed, armAt := s.dial }
    let s := ((s.modAcqSlot k fun x => { AcqSlot.reset with ncell := x.ncell, basep := x.basep, tmap := x.tmap, inService := x.inService }).modBalSlot
      k fun _ => BalSlot.reset).serviceRing r
    let s := (s.setFld (F.ACQ_OWSUS_SUSPECT k) 0).setFld (F.BAL_MAN_TDIE k) 0x8000 |>.setWord (Reg.BAL_TILE k) 0 |>.suspRefresh k
    [0, 1].foldl (fun s e => if s.reachedFrom e k then s.sendEchos r e (s.hopFrom e k) else s) s
    else s)

/-! ## Ports and rings -/

/-- A port's link comes up: LINK shows it, a ring in LOST or FAULT with EN 1 goes DOWN and trains again, and a ring past training is
checked (R73, R88); its crossing starts a handshake (R511). -/
def State.portUp (s : State) (p : Nat) : State :=
  let r := p / 2
  if (s.port p).up then s
  else
    let s := ((s.modPort p fun x => { x with up := true, upSince := s.dial }).setFld (F.TRV_PORTSTS_LINK p) 1).xStart (6 + p)
    let s := s.trackLinks r
    match (s.ring r).state with
    | .lost | .fault => if s.ringEn r then (s.setRingState r .down).tryTrain r else s
    | .down => s.tryTrain r
    | .training => s
    | .arming => (s.startCheck r .look).armingDone r
    | .loading | .closed | .openRing | .degraded => s.startCheck r .look

/-- PORT_LINK_UP. -/
def execPortLinkUp (t p : Nat) (s : State) : Out := .next ((s.at t).portUp p)

/-- A port's link goes down: both down on a running ring is LOST, otherwise a check starts; a training attempt fails (R88). -/
def State.portDown (s : State) (p : Nat) : State :=
  let r := p / 2
  if !(s.port p).up then s
  else
    let s := (s.modPort p fun x => { x with up := false }).setFld (F.TRV_PORTSTS_LINK p) 0
    (s.trackLinks r).breakSeen r

/-- PORT_LINK_DOWN. -/
def execPortLinkDown (t p : Nat) (s : State) : Out := .next ((s.at t).portDown p)

/-- A ring goes DOWN: its ports send idle only, and nothing of it stays in service. DESIGN CHOICE (log entry 102): CMDs that await their
RESP are dropped without a report to their issuers. -/
def State.ringDown (s : State) (r : Nat) : State :=
  let s := s.setRingState r .down
  let s := [2 * r, 2 * r + 1].foldl (fun s p => s.modPort p fun x => { x with queue := [], load := [], outst := [] }) s
  ((s.modRing r fun g => { g with checking := false, measuring := false, armAt := none, fails := 0 }).abandonRing r).serviceRing r

/-- The rings follow TRV_CTL.EN and the TRIM gating: one that is not enabled goes DOWN, an enabled one trains (R88, R462). -/
def State.ringsFollow (s : State) : State :=
  (List.range 4).foldl (fun s r =>
    if s.ringEn r then s.tryTrain r else if (s.ring r).state = .down then s else s.ringDown r) s

/-- A write of TRV_CTL: EN 0 sends a ring to DOWN from any state, EN 1 lets it train (R88). -/
def State.trvctlWrite (s : State) (v : Word) : State := (s.setWord Reg.TRV_CTL (v &&& 0xF#32)).ringsFollow

/-- TRV_CTL_WRITE. -/
def execTrvCtlWrite (t : Nat) (_m : Master) (v : Word) (s : State) : Out := .next ((s.at t).trvctlWrite v)

/-- RING_RESTORE: every link of a ring in OPEN or DEGRADED has been up for 1 s and no tile is FAILED: an enumeration from both ends
starts, and N from both closes the ring (Table 3-3). -/
def execRingRestore (t r : Nat) (s : State) : Out :=
  let s := s.at t
  let g := s.ring r
  .next (if (g.state = .openRing ∨ g.state = .degraded) ∧ g.checking = false ∧ s.mayRestore r = true then s.startCheck r .restore else s)

/-- The TSYNCs of a ring: one on each port, and in ARMING one period more, after which the ring may leave (R94, Table 3-3). -/
def State.ringTsync (s : State) (r : Nat) : State :=
  if (s.ring r).state.running ∨ (s.ring r).state = .arming then
    let s := if (s.ring r).state = .arming then s.modRing r fun g => { g with tsyncs := g.tsyncs + 1 } else s
    ([2 * r, 2 * r + 1].foldl (fun s p => (s.portSendBody p 15 (.tsync s.dial)).portKick p) s).armingDone r
  else s

/-- TSYNC_SEND: at each whole millisecond of Dial each port of a ring in ARMING, CLOSED, OPEN or DEGRADED queues one TSYNC (R94). -/
def execTsyncSend (t : Nat) (s : State) : Out :=
  let s := s.at t
  let ms := s.dial / 1000000
  .next (if s.dial % 1000000 = 0 ∧ s.trv.tsyncAt ≠ some ms then
    (List.range 4).foldl State.ringTsync { s with trv := { s.trv with tsyncAt := some ms } }
  else s)

/-- PORT_FRAME_SENT: the frame in progress has departed; a CMD's timeout starts, and the next frame departs (R86, R87). -/
def execPortFrameSent (t p : Nat) (s : State) : Out :=
  let s := s.at t
  .next (match (s.port p).busy with
    | some f =>
      let s := s.modPort p fun x => { x with busy := none, outst := x.outst.map fun (o : Outst) =>
        match f.body with
        | .cmd .. => if o.frame.seq = f.seq ∧ o.sentAt.isNone = true then { o with sentAt := some s.dial } else o
        | _ => o }
      s.portKick p
    | none => s)

/-- A tile's link toward an end changes: the time since which every link of the ring is up follows. -/
def State.tileLinks (s : State) (k : Nat) : State := s.trackLinks (slotRing k)

/-- TILE_LINK_DOWN. -/
def execTileLinkDown (t k side : Nat) (s : State) : Out := .next (((s.at t).onTile k fun x => tileLinkDown x side).tileLinks k)

/-- TILE_LINK_UP: the link is up again (R73); frames that found no link leave when no window holds them. -/
def execTileLinkUp (t k side : Nat) (s : State) : Out :=
  let s := s.at t
  .next ((s.onTile k fun x =>
    let y := tileSetUp x side true
    if tileInWindow s.windowNs (s.tileNs y) y then y else tileFlush y).tileLinks k)

end Sys2Proof.Machine
end

