-- ==== Sys2Proof/Machine/Lodestone.lean ====
section
/-! DEFINITION. Lodestone: seal, fault loops, permits, trips, dead reckoning, two-channel inputs, output stages and their tests (13_safety_functions.md, 14_safety_io.md). -/

namespace Sys2Proof.Machine

/-- Change Lodestone's state. -/
def State.modLds (s : State) (f : LdsSt → LdsSt) : State := { s with lds := f s.lds }

/-- The stage of output n: 0 CONT_POS, 1 CONT_NEG, 2 PRECHARGE, 3 CONV_EN. -/
def State.outSt (s : State) (n : Nat) : OutSt := Tab.get (fun _ => OutSt.reset) s.lds.outs n

/-- Change the stage of output n. -/
def State.modOut (s : State) (n : Nat) (f : OutSt → OutSt) : State :=
  s.modLds fun l => { l with outs := Tab.set (fun _ => OutSt.reset) l.outs n (f (s.outSt n)) }

/-! ## The profiles (Table 13-2, R331, R332) -/

/-- OV and UV in mV of a profile code; none for an empty code. -/
def profileLimits : Nat → Option (Nat × Nat)
  | 1 => some (3750, 2300)
  | 2 => some (3700, 2500)
  | 3 => some (4300, 2700)
  | 4 => some (4400, 2800)
  | 5 => some (4250, 2600)
  | 6 => some (2850, 1400)
  | 7 => some (4100, 1300)
  | _ => none

/-- The 32 threshold bytes of a profile (R332). -/
def thresholdBytes (code ov uv : Nat) : List Nat :=
  leBytes (100 * ov) 3 ++ leBytes (100 * uv) 3 ++ [4, code] ++ List.replicate 24 0

/-- The threshold bytes of the profile in force; none while the code is empty. -/
def State.thresholds (s : State) : Option (List Nat) :=
  (profileLimits (s.fld F.LDS_CFG_PROFILE)).map fun l => thresholdBytes (s.fld F.LDS_CFG_PROFILE) l.1 l.2

/-- A frame on Lodestone's injection path into a traverse port (R98). -/
def State.inject (s : State) (p : Nat) (b : Body) : State :=
  let q := (s.port p).nextSeq
  (s.modPort p fun x => { x with nextSeq := q + 1 }).portQueue p (s.outFrame 15 (q % 32) b)

/-- Is a PROFILE injection on a ring due: it has entered ARMING, one of its tiles has booted, or 10 s have passed since the last (R98)? -/
def State.profDue (s : State) (r : Nat) : Bool := (s.ring r).profDue || decide ((s.ring r).profAt + 10000000000 ≤ s.dial)

/-- PROFILE_INJECT: Lodestone injects a broadcast PROFILE on a ring, from its own path (R98). -/
def execProfileInject (t r : Nat) (s : State) : Out :=
  let s := s.at t
  .next (match s.thresholds with
    | none => s
    | some thr =>
      if !s.profDue r then s
      else
        let s := (s.inject (2 * r) (.profile thr (s.fld F.LDS_CFG_PROFCRC))).inject (2 * r + 1) (.profile thr (s.fld F.LDS_CFG_PROFCRC))
        s.modRing r fun g => { g with
          armAt := if g.state = .arming then some (g.armAt.getD s.dial) else g.armAt, profDue := false, profAt := s.dial })

/-! ## Permits (R322, R335, R340, R344, R450) -/

/-- TEST of the seal: 0 native, 1 off-pulse, 2 both. -/
def State.testMode (s : State) : Nat := s.fld F.LDS_CFG_TEST

/-- Is an output energized: its sequence has ended without a fault and no de-energize sequence has started? -/
def State.energized (s : State) (n : Nat) : Bool := s.flag (F.LDS_OUT_ENERGIZED_L n)

/-- Is a close request standing? -/
def State.outReq (s : State) (n : Nat) : Bool := (s.word Reg.BIN_OUTREQ).getLsbD n

/-- Clear a close request. -/
def State.clearReq (s : State) (n : Nat) : State := s.setFld ⟨Reg.BIN_OUTREQ, n, n⟩ 0

/-- Outputs that a demanding pair makes safe (Table 14-2). -/
def pairMask (n : Nat) : Nat := if n < 6 then 15 else 12

/-- The outputs that the latched cause bits name (Table 13-4), as a mask. -/
def State.causeMask (s : State) : Nat :=
  let all := s.flag F.LDS_TRIP_THERMAL || s.flag F.LDS_TRIP_LTH || s.flag F.LDS_TRIP_ARMCRC || s.flag F.LDS_TRIP_FL ||
    s.flag F.LDS_TRIP_SEAL || ((s.flag F.LDS_TRIP_OCA || s.flag F.LDS_TRIP_OCB) && s.lds.ocAll)
  if all then 15
  else
    let m := if s.flag F.LDS_TRIP_OCA || s.flag F.LDS_TRIP_OCB then 12 else 0
    let m := m ||| (if s.flag F.LDS_TRIP_BIN_DEMAND then s.lds.binMask else 0)
    if s.flag F.LDS_TRIP_INPUT then (onesBelow 8 (s.fld F.LDS_INSTS_DEMAND)).foldl (fun m n => m ||| pairMask n) m else m

/-- Does a slot show an armed-threshold fault now (R100)? -/
def State.armFault (s : State) (k : Nat) : Bool :=
  (s.ring (slotRing k)).state.running && (s.activeSlots (slotRing k)).contains k &&
    ((s.known k).armBad || decide ((s.known k).armAt + 100000000 ≤ s.dial))

/-- Is any armed-threshold fault present? -/
def State.anyArmFault (s : State) : Bool := allSlots.any s.armFault

/-- Does something stand in for BPERMIT on the contactors: UPDATE_HOLD (R450), or a heartbeat supervision that a device reset has
suspended (R444)? -/
def State.updHold (s : State) : Bool := s.flag F.UPD_STS_HOLD || s.lds.hbSubst

/-- LPERMIT of an output but for the dead-reckoning condition (R338, R340, R450). -/
def State.basePermit (s : State) (n : Nat) : Bool :=
  s.lds.up && !s.lds.oscStop && !s.flag F.LDS_SEAL_SEAL_FAULT && !s.flag F.LDS_SEAL_SEAL_CHANGED && !s.causeMask.testBit n &&
    s.fld F.TRV_FLSTS_TOGGLING == 15 && !s.anyArmFault && s.fld (F.LDS_OUT_OUTFAULT n) == 0 && s.lds.safeB &&
    (decide (n < 2) || (s.energized 1 && s.fld F.THM_STS_PSTATE != 2 && !s.updHold))

/-- Does dead reckoning keep an output: HOLDING or RIDING, a contactor, and already closed (R344)? -/
def State.drmKeeps (s : State) (n : Nat) : Bool :=
  (s.fld F.LDS_DRM_STATE == 1 || s.fld F.LDS_DRM_STATE == 2) && decide (n < 2) && s.energized n

/-- LPERMIT (R340, R344). -/
def State.lpermit (s : State) (n : Nat) : Bool := s.basePermit n && (s.fld F.LDS_DRM_STATE == 0 || s.drmKeeps n)

/-- BPERMIT as Lodestone accepts it (R324). -/
def State.bpermit (s : State) (n : Nat) : Bool := (s.fld F.LDS_TRIP_BPERMIT_L).testBit n

/-- Both permits, or LPERMIT in place of BPERMIT where a rule says so. -/
def State.permitted (s : State) (n : Nat) : Bool :=
  s.lpermit n && (s.bpermit n || s.drmKeeps n || (s.updHold && decide (n < 2) && s.energized n))

/-- The live bits of LDS_TRIP and LDS_INSTS follow the state. -/
def State.ldsRefresh (s : State) : State :=
  (s.setFld F.LDS_TRIP_PERMIT_L (((List.range 4).map fun n => if s.lpermit n then 2 ^ n else 0).sum)).setFlag F.LDS_TRIP_TRIPPED_L
    (s.causeMask != 0)

/-! ## Output stages (R356 to R364) -/

/-- TLOAD of an output in ticks (R355). -/
def tload (n : Nat) : Nat := if n = 3 then 5 else 100

/-- Does the unit evaluate LOAD_RB (R376)? -/
def State.loadEval (s : State) : Bool := !s.flag F.RDN_CTL_TWIN || s.fld F.RDN_STS_ROLE == 3 || s.fld F.RDN_STS_ROLE == 4

/-- Show the readbacks of an output. -/
def State.setRb (s : State) (n : Nat) (hs ls load : Bool) : State :=
  ((s.setFlag (F.LDS_OUT_HS_RB_L n) hs).setFlag (F.LDS_OUT_LS_RB_L n) ls).setFlag (F.LDS_OUT_LOAD_RB_L n) load

/-- Latch an OUTFAULT code with its record; a code already latched stays. -/
def State.outFault (s : State) (n code : Nat) : State :=
  let s := s.modOut n fun o => { o with failed := true }
  if s.fld (F.LDS_OUT_OUTFAULT n) = 0 then (s.setFld (F.LDS_OUT_OUTFAULT n) code).logEvent 0x0B04 2 (nw n) [nw code] else s

/-- Removal of CONV_EN's drive stops Helm (Table 11-4). -/
def State.driveGone (s : State) (n : Nat) : State := if n = 3 then s.helmExtStop else s

/-- An energize sequence fails: both drives removed, OUTFAULT, the request cleared (R356). -/
def State.energizeFail (s : State) (n code : Nat) : State :=
  let s := ((s.outFault n code).setFld (F.LDS_OUT_HS_DRV_L n) 0).setFld (F.LDS_OUT_LS_DRV_L n) 0
  (((s.modOut n fun o => { o with phase := .rest }).setFld (F.LDS_OUT_SEQ_L n) 0).clearReq n).driveGone n

/-- t = 0 of Table 14-6. -/
def State.energizeStart (s : State) (n : Nat) : State :=
  let s := s.modOut n fun o => { o with failed := false, twinWait := none, age := 0 }
  let s := s.setFld (F.LDS_OUT_PROOFAGE n) 0
  if s.flag (F.LDS_OUT_HS_RB_L n) || s.flag (F.LDS_OUT_LS_RB_L n) || (s.loadEval && s.flag (F.LDS_OUT_LOAD_RB_L n)) then s.energizeFail n 1
  else
    ((s.modOut n fun o => { o with phase := .energizing, step := 0, from_ := s.lds.tick }).setFld (F.LDS_OUT_SEQ_L n) 1).setFld
      (F.LDS_OUT_LS_DRV_L n) 1

/-- t = 0 of Table 14-7: the first drive is removed, or both (R357, R363). -/
def State.releaseStart (s : State) (n : Nat) : State :=
  let o := s.outSt n
  let pulse := o.pulse == OutPulse.open_
  let both := s.testMode == 1 || o.phase == OutPhase.energizing
  let first := if both then 2 else if pulse then b2n o.pulseLow else s.fld (F.LDS_OUT_NEXTFIRST n)
  let s := if pulse then s.raise (F.LDS_OUT_TESTABANDON n) else s
  let s := s.modOut n fun o => { o with
    phase := .releasing
    step := if both then 1 else 0
    from_ := if pulse then o.from_ else s.lds.tick
    first := first
    skip2 := both
    failed := false
    pulse := .none }
  let s := if first ≠ 1 then s.setFld (F.LDS_OUT_HS_DRV_L n) 0 else s
  let s := if first ≠ 0 then s.setFld (F.LDS_OUT_LS_DRV_L n) 0 else s
  ((s.setFld (F.LDS_OUT_ENERGIZED_L n) 0).setFld (F.LDS_OUT_SEQ_L n) 1).driveGone n

/-- Is a standing request discarded: dead reckoning, a latched cause that names the output, a seal or output fault (R341, R342, R344)? -/
def State.discards (s : State) (n : Nat) : Bool :=
  s.fld F.LDS_DRM_STATE != 0 || s.causeMask.testBit n || s.flag F.LDS_SEAL_SEAL_FAULT || s.flag F.LDS_SEAL_SEAL_CHANGED ||
    s.fld (F.LDS_OUT_OUTFAULT n) != 0

/-- Is an off-pulse in progress on any output (R363)? -/
def State.anyPulse (s : State) : Bool := (List.range 4).any fun n => (s.outSt n).pulse == OutPulse.open_

/-- Must an active unit of an either-opens pair wait for the twin's report (R377)? -/
def State.waitsTwin (s : State) (n : Nat) : Bool :=
  s.flag F.RDN_CTL_TWIN && !s.flag F.LDS_CFG_RECIPE && s.fld F.RDN_STS_ROLE == 4 && !s.lds.twinEnerg.testBit n

/-- What an output does under the three signals of R322: it starts its energize sequence, goes safe, or stays. -/
def State.outputEval (s : State) (n : Nat) : State :=
  let o := s.outSt n
  if o.phase = .releasing then s
  else if s.energized n ∨ o.phase = .energizing then
    if s.outReq n && s.permitted n then s
    else (if s.outReq n then s.clearReq n else s).releaseStart n
  else if !s.outReq n then s
  else if s.discards n then s.clearReq n
  else if s.permitted n && !s.anyPulse then
    (if s.waitsTwin n then s.modOut n fun o => { o with twinWait := some (o.twinWait.getD s.dial) } else s.energizeStart n)
  else s

/-- Every output answers the present permits and requests; the live bits follow. -/
def State.outputsEval (s : State) : State := ((List.range 4).foldl State.outputEval s).ldsRefresh

/-- ENERGIZE_CHECK: the next check of Table 14-6, with the readbacks at that instant. -/
def execEnergizeCheck (t n : Nat) (hs ls load : Bool) (s : State) : Out :=
  let s := (s.at t).setRb n hs ls load
  let o := s.outSt n
  let due := fun k => decide (o.from_ + k ≤ s.lds.tick)
  .next (if o.phase ≠ .energizing then s
    else match o.step with
    | 0 =>
      if !due 1 then s
      else if hs || ls then (s.energizeFail n 2).outputsEval
      else (s.modOut n fun o => { o with step := 1 }).setFld (F.LDS_OUT_HS_DRV_L n) 1
    | 1 =>
      if !due 3 then s
      else if hs && !ls then s.modOut n fun o => { o with step := 2 }
      else (s.energizeFail n 2).outputsEval
    | _ =>
      if !due (1 + tload n) then s
      else if load || !s.loadEval then
        let s := s.modOut n fun o => { o with phase := .rest, since := s.lds.tick, age := 0 }
        ((s.setFld (F.LDS_OUT_SEQ_L n) 0).setFld (F.LDS_OUT_ENERGIZED_L n) 1).outputsEval
      else (s.energizeFail n 3).outputsEval)

/-- The end of a de-energize sequence: NEXTFIRST toggles after a fault-free one, and the wear ledger counts it (R358, Table 21-3). -/
def State.releaseEnd (s : State) (n : Nat) : State :=
  let o := s.outSt n
  let s := s.wearAdd 5 (6 * n) 1
  let s := if o.failed then s.wearAdd 5 (6 * n + 1) 1
    else
      let s := s.setFld (F.LDS_OUT_NEXTFIRST n) (1 - s.fld (F.LDS_OUT_NEXTFIRST n))
      if o.first < 2 then s.wearAdd 5 (6 * n + 2 + o.first) 1 else s
  ((s.modOut n fun o => { o with phase := .rest }).setFld (F.LDS_OUT_SEQ_L n) 0).outputsEval

/-- DEENERGIZE_CHECK: the next check of Table 14-7. -/
def execDeenergizeCheck (t n : Nat) (hs ls load : Bool) (s : State) : Out :=
  let s := (s.at t).setRb n hs ls load
  let o := s.outSt n
  let due := fun k => decide (o.from_ + k ≤ s.lds.tick)
  .next (if o.phase ≠ .releasing then s
    else match o.step with
    | 0 =>
      if !due 2 then s
      else
        let good := if o.first = 0 then !hs else ls
        let s := if good then s else s.outFault n 4
        ((s.modOut n fun o => { o with step := 1 }).setFld (F.LDS_OUT_HS_DRV_L n) 0).setFld (F.LDS_OUT_LS_DRV_L n) 0
    | 1 =>
      if !due 4 then s
      else (if hs || ls then s.outFault n 5 else s).modOut n fun o => { o with step := 2 }
    | _ =>
      if !due (max 4 (tload n)) then s
      else (if load && s.loadEval then s.outFault n 6 else s).releaseEnd n)

/-- OFF_PULSE_START: tick 2,500 n of a 10,000-tick period begins under TEST 1 or 2; one switch of an output energized for 1,000 ticks
opens, or a pulse whose output is being de-energized in this tick is abandoned (R361, R363, R364). -/
def execOffPulseStart (t n : Nat) (s : State) : Out :=
  let s := s.at t
  let o := s.outSt n
  .next (if n < 4 ∧ s.testMode ≠ 0 ∧ s.lds.tick % 10000 = 2500 * n then
    if s.energized n ∧ o.since + 1000 ≤ s.lds.tick ∧ o.pulse = .none then
      let s := s.modOut n fun o => { o with pulse := .open_, pulseLow := o.nextLow, from_ := s.lds.tick }
      (s.setFld (if o.nextLow then F.LDS_OUT_LS_DRV_L n else F.LDS_OUT_HS_DRV_L n) 0).setFld (F.LDS_OUT_SEQ_L n) 1
    else if o.phase = .releasing ∧ o.from_ = s.lds.tick ∧ o.since + 1000 ≤ s.lds.tick then s.raise (F.LDS_OUT_TESTABANDON n)
    else s
    else s)

/-- The pulse of an output ends: its switch closes again. -/
def State.pulseEnd (s : State) (n : Nat) (p : OutPulse) : State :=
  let s := s.setFld (if (s.outSt n).pulseLow then F.LDS_OUT_LS_DRV_L n else F.LDS_OUT_HS_DRV_L n) 1
  (s.modOut n fun o => { o with pulse := p, nextLow := !o.pulseLow }).setFld (F.LDS_OUT_SEQ_L n) 0

/-- An off-pulse check fails: OUTFAULT 7 and the de-energize sequence. -/
def State.pulseFail (s : State) (n : Nat) : State :=
  (((s.pulseEnd n .none).outFault n 7).wearAdd 5 (6 * n + 5) 1).outputsEval

/-- OFF_PULSE_CHECK: the check 32 cycles before the end of the pulse, then the one 1 tick after it (R362). -/
def execOffPulseCheck (t n : Nat) (hs ls : Bool) (s : State) : Out :=
  let s := s.at t
  let s := s.setRb n hs ls (s.flag (F.LDS_OUT_LOAD_RB_L n))
  let o := s.outSt n
  .next (match o.pulse with
    | .none => s
    | .open_ =>
      let good := if o.pulseLow then ls else !hs && !ls
      if good then (s.pulseEnd n .ended).outputsEval else s.pulseFail n
    | .ended =>
      let s := s.modOut n fun o => { o with pulse := .none }
      if hs && !ls then s.wearAdd 5 (6 * n + 4) 1
      else ((s.outFault n 7).wearAdd 5 (6 * n + 5) 1).outputsEval)

/-- PROOF_WARN: under TEST 0 an output has stayed energized for 86,400,000 ticks (R360). -/
def execProofWarn (t n : Nat) (s : State) : Out :=
  let s := s.at t
  .next (if s.testMode = 0 ∧ s.energized n = true ∧ 86400000 ≤ (s.outSt n).age ∧ s.flag (F.LDS_OUT_PROOF_WARN n) = false then
    (s.raise (F.LDS_OUT_PROOF_WARN n)).logEvent 0x0B05 1 (nw n) []
    else s)

/-! ## Close requests -/

/-- A write of BIN_OUTREQ (R322, R357, R363, R450). A unit that follows its twin takes no request of its own host (R376). -/
def State.outreqBit (s : State) (n : Nat) (b : Bool) : State :=
  if b = s.outReq n then s
  else if !b then s.clearReq n
  else if (s.outSt n).phase = .releasing ∨ s.flag F.UPD_STS_HOLD = true then s.raise (F.LDS_OUT_CLOSE_REJ n)
  else if s.discards n then s
  else s.setFld ⟨Reg.BIN_OUTREQ, n, n⟩ 1

/-- The four request bits take the value of a word. -/
def State.outreqSet (s : State) (v : Nat) : State := ((List.range 4).foldl (fun s n => s.outreqBit n (v.testBit n)) s).outputsEval

/-- Do the request bits follow the twin (R376)? -/
def State.followsTwin (s : State) : Bool := s.flag F.RDN_CTL_TWIN && decide (1 ≤ s.fld F.RDN_STS_ROLE ∧ s.fld F.RDN_STS_ROLE ≤ 3)

/-- A host write of BIN_OUTREQ. -/
def State.outreqWrite (s : State) (v : Word) : State := if s.followsTwin then s else s.outreqSet (v.toNat % 16)

/-- CLOSE_REQUEST: a write of BIN_OUTREQ that sets bits. -/
def execCloseRequest (t : Nat) (_m : Master) (v : Word) (s : State) : Out := .next ((s.at t).outreqWrite v)

/-- CLOSE_RELEASE: a write of BIN_OUTREQ that clears bits. -/
def execCloseRelease (t : Nat) (_m : Master) (v : Word) (s : State) : Out := .next ((s.at t).outreqWrite v)

/-- TWIN_ENERGIZE_TIMEOUT: the twin's report has not come within 500 ms (R377). -/
def execTwinEnergizeTimeout (t n : Nat) (s : State) : Out :=
  let s := s.at t
  .next (match (s.outSt n).twinWait with
    | some d =>
      if d + 500000000 ≤ s.dial ∧ s.outReq n = true then
        ((s.clearReq n).raise (F.LDS_OUT_CLOSE_REJ n)).modOut n fun o => { o with twinWait := none }
      else s
    | none => s)

/-! ## Trips (R335) -/

/-- An open trip in HOLDING or RIDING leads to OPENED, and one in the service pause ends UPDATE_HOLD (Table 13-6, R450). -/
def State.openTrip (s : State) : State :=
  let s := if s.fld F.LDS_DRM_STATE = 1 ∨ s.fld F.LDS_DRM_STATE = 2 then s.setFld F.LDS_DRM_STATE 3 else s
  s.setFld F.UPD_STS_HOLD 0

/-- A trip: its cause bit latches; when it was clear the event is recorded and the SAFETY cause sets. The outputs it names go safe. -/
def State.trip (s : State) (cause : Fld) : State :=
  let new := !s.flag cause
  let s := (s.raise cause).ldsRefresh
  let s := if new then
      (s.logEvent 0x0B01 3 0 [s.word Reg.LDS_TRIP, s.word Reg.LDS_INSTS, s.word (Reg.LDS_OUT 0), s.word (Reg.LDS_OUT 1),
        s.word (Reg.LDS_OUT 2), s.word (Reg.LDS_OUT 3)]).irq 5
    else s
  let s := if s.causeMask = 15 then s.openTrip else s
  s.outputsEval

/-- FAULT_LOOP_LOSS: no edge for 6,144 cycles (R102). -/
def execFaultLoopLoss (t r : Nat) (s : State) : Out :=
  let s := s.at t
  .next (if r < 4 ∧ s.lds.up = true then
    ((s.setFld ⟨Reg.TRV_FLSTS, 4 + r, 4 + r⟩ 1).setFld ⟨Reg.TRV_FLSTS, r, r⟩ 0).trip F.LDS_TRIP_FL
    else s)

/-- FL_FAST: two edges less than 640 cycles apart (R102). -/
def execFlFast (t r : Nat) (s : State) : Out :=
  let s := s.at t
  .next (if r < 4 ∧ s.lds.up = true then
    ((s.setFld ⟨Reg.TRV_FLSTS, 8 + r, 8 + r⟩ 1).setFld ⟨Reg.TRV_FLSTS, r, r⟩ 0).trip F.LDS_TRIP_FL
    else s)

/-- FAULT_LOOP_RETURN: the edges on a loop meet R102 again. -/
def execFaultLoopReturn (t r : Nat) (s : State) : Out :=
  let s := s.at t
  .next (if r < 4 then (s.setFld ⟨Reg.TRV_FLSTS, r, r⟩ 1).outputsEval else s)

/-- ARMED_THRESHOLD_FAULT: a slot shows the fault of R100. -/
def execArmedThresholdFault (t k : Nat) (s : State) : Out :=
  let s := s.at t
  .next (if s.armFault k then s.trip F.LDS_TRIP_ARMCRC else s)

/-- OVERCURRENT: the comparators' levels after the 2 µs filter; one that has tripped makes CONV_EN and PRECHARGE safe (R333). -/
def execOvercurrent (t : Nat) (a b : Bool) (s : State) : Out :=
  let s := s.at t
  let s := s.modLds fun l => { l with oc := b2n a + 2 * b2n b, ocAt := if l.oc = 0 then l.tick else l.ocAt }
  let s := if a then s.trip F.LDS_TRIP_OCA else s
  .next (if b then s.trip F.LDS_TRIP_OCB else s)

/-- OVERCURRENT_CONTACTOR_TRIP: the condition still holds 20 ticks after the trip (Table 13-4). -/
def execOvercurrentContactorTrip (t : Nat) (s : State) : Out :=
  let s := s.at t
  .next (if s.lds.oc ≠ 0 ∧ s.lds.ocAt + 20 ≤ s.lds.tick ∧ (s.flag F.LDS_TRIP_OCA || s.flag F.LDS_TRIP_OCB) = true then
    (s.modLds fun l => { l with ocAll := true }).openTrip.outputsEval
    else s)

/-- OVER_TEMPERATURE: a comparator has read hot on 4 consecutive ticks. -/
def execOverTemperature (t : Nat) (s : State) : Out :=
  let s := s.at t
  let hot := (List.range 4).filter fun k => decide (4 ≤ Tab.get (fun _ => 0) s.lds.lth k)
  .next (if hot.isEmpty then s
    else (hot.foldl (fun s k => s.setFld ⟨Reg.LDS_TRIP, 6 + k, 6 + k⟩ 1) s).trip F.LDS_TRIP_LTH)

/-- A Binnacle demand on a mask of outputs (R325, R326). -/
def State.binDemand (s : State) (mask : Nat) : State :=
  (s.modLds fun l => { l with binMask := l.binMask ||| mask }).trip F.LDS_TRIP_BIN_DEMAND

/-- SAFE_B_LOW. -/
def execSafeBLow (t : Nat) (s : State) : Out :=
  .next (((s.at t).modLds fun l => { l with safeB := false }).binDemand 15)

/-- Is Binnacle running, so that a withdrawn permit is a demand and no absence (R326)? -/
def State.binRunning (s : State) : Bool :=
  s.lds.hbSup && !s.lds.binHeld && s.lds.hbLast.isSome && !s.flag F.UPD_STS_HOLD && s.fld F.THM_STS_PSTATE != 2 && s.fld F.LDS_DRM_CAUSE != 2

/-- BPERMIT_LOSS: waves show no edge for 64 cycles (R324). -/
def execBpermitLoss (t mask : Nat) (s : State) : Out :=
  let s := s.at t
  let lost := s.fld F.LDS_TRIP_BPERMIT_L &&& mask
  let s := s.setFld F.LDS_TRIP_BPERMIT_L (s.fld F.LDS_TRIP_BPERMIT_L &&& (15 ^^^ lost))
  .next (if lost ≠ 0 ∧ s.binRunning = true then s.binDemand lost else s.outputsEval)

/-- BPERMIT_RETURN: waves have shown 16 valid periods (R324). -/
def execBpermitReturn (t mask : Nat) (s : State) : Out :=
  let s := s.at t
  .next (if s.lds.binHeld then s else (s.setFld F.LDS_TRIP_BPERMIT_L (s.fld F.LDS_TRIP_BPERMIT_L ||| mask % 16)).outputsEval)

/-! ## The seal (R327 to R329) -/

/-- SEALCHK as Table 13-1 requires it. -/
def sealCheck (v : Nat) : Nat := 15 ^^^ (v / 4096 % 16 ^^^ v / 256 % 16 ^^^ v / 16 % 16 ^^^ v % 16)

/-- Is a read of the 20 lines a valid seal by itself (R328)? -/
def sealOk (v : Nat) : Bool :=
  v / 65536 % 16 == sealCheck v && v / 1024 % 4 != 3 && (profileLimits (v % 16)).isSome

/-- Decode the seal into LDS_CFG (Table 13-1). -/
def State.sealDecode (s : State) (v : Nat) : State :=
  let crc := match profileLimits (v % 16) with
    | some l => (crc16 (thresholdBytes (v % 16) l.1 l.2)).toNat
    | none => 0
  let s := (s.setFld F.LDS_CFG_PROFILE (v % 16)).setFld F.LDS_CFG_TDISC (v / 16 % 8)
  let s := (s.setFld F.LDS_CFG_ANT03 (v / 128 % 2)).setFld F.LDS_CFG_HOLD (v / 256 % 4)
  let s := (s.setFld F.LDS_CFG_TEST (v / 1024 % 4)).setFld F.LDS_CFG_ANT47 (v / 4096 % 2)
  let s := (s.setFld F.LDS_CFG_RECIPE (v / 8192 % 2)).setFld F.LDS_CFG_OCCLASS (v / 16384 % 4)
  s.setFld F.LDS_CFG_PROFCRC crc

/-- SEAL_READ: a 100 ms read of the lines, SEALCHK above SEAL (R329). -/
def execSealRead (t v : Nat) (s : State) : Out :=
  let s := s.at t
  let v := v % 2 ^ 20
  let pv := (s.word Reg.LDS_SEAL).toNat % 2 ^ 20
  let prev := s.lds.sealPrev
  let s := ((s.setFld F.LDS_SEALNOW_SEALCHK (v / 65536)).setFld F.LDS_SEALNOW_SEAL v).modLds fun l => { l with sealPrev := v }
  .next (if !s.lds.up then s
    else if prev = v ∧ v ≠ pv then (s.raise F.LDS_SEAL_SEAL_CHANGED).trip F.LDS_TRIP_SEAL
    else if prev ≠ pv ∧ v = pv then s.raise F.LDS_SEAL_SEAL_GLITCH
    else s)

/-! ## Two-channel inputs (R346 to R353) -/

/-- Is pair n antivalent? -/
def State.pairAnt (s : State) (n : Nat) : Bool := if n < 4 then s.flag F.LDS_CFG_ANT03 else s.flag F.LDS_CFG_ANT47

/-- Are channels A and B of pair n in demand (Table 14-1)? -/
def State.pairIn (s : State) (n : Nat) : Bool × Bool :=
  let a := (s.word Reg.LDS_INRAW).getLsbD n
  let b := (s.word Reg.LDS_INRAW).getLsbD (8 + n)
  (!a, if s.pairAnt n then b else !b)

/-- DISCREPANCY of a pair. -/
def State.pairDisc (s : State) (n : Nat) : Bool := (s.fld F.LDS_INSTS_DISC).testBit n

/-- Does a pair demand (R349)? -/
def State.pairDemands (s : State) (n : Nat) : Bool := (s.pairIn n).1 || (s.pairIn n).2 || s.pairDisc n

/-- Clear or set bit n of a mask. -/
def maskBit (m n : Nat) (b : Bool) : Nat := if b then m ||| 2 ^ n else if m.testBit n then m - 2 ^ n else m

/-- The filtered levels of a pair act: disagreement, the clearing of DISCREPANCY, and the demand with its trip. -/
def State.pairEval (s : State) (n : Nat) : State :=
  let a := (s.pairIn n).1
  let b := (s.pairIn n).2
  let s := s.modLds fun l => { l with
    dis := if a != b then l.dis else Tab.set (fun _ => 0) l.dis n 0
    both := maskBit l.both n (s.pairDisc n && (l.both.testBit n || (a && b))) }
  let s := if s.pairDisc n ∧ s.lds.both.testBit n = true ∧ a = false ∧ b = false then
      (s.setFld F.LDS_INSTS_DISC (maskBit (s.fld F.LDS_INSTS_DISC) n false)).modLds fun l => { l with both := maskBit l.both n false }
    else s
  let d := s.pairDemands n
  let s := s.setFld F.LDS_INSTS_DISAGREE_L (maskBit (s.fld F.LDS_INSTS_DISAGREE_L) n (a != b))
  let s := s.setFld F.LDS_INSTS_DEMAND_L (maskBit (s.fld F.LDS_INSTS_DEMAND_L) n d)
  if d then (s.setFld F.LDS_INSTS_DEMAND (maskBit (s.fld F.LDS_INSTS_DEMAND) n true)).trip F.LDS_TRIP_INPUT else s

/-- Show the filtered levels of a pair. -/
def State.setPair (s : State) (n : Nat) (a b : Bool) : State :=
  (s.setFld ⟨Reg.LDS_INRAW, n, n⟩ (b2n a)).setFld ⟨Reg.LDS_INRAW, 8 + n, 8 + n⟩ (b2n b)

/-- INPUT_FILTER_PASS: new levels of pair n have held for 64 cycles (R348). -/
def execInputFilterPass (t n : Nat) (a b : Bool) (s : State) : Out :=
  let s := s.at t
  .next (if n < 8 ∧ s.lds.up = true then (s.setPair n a b).pairEval n else s)

/-- Td in ticks (Table 13-1). -/
def State.tdTicks (s : State) : Nat := [10, 20, 50, 100, 200, 500, 1000, 2000].getD (s.fld F.LDS_CFG_TDISC) 10

/-- DISCREPANCY: a pair has disagreed without a break to the Td-th tick edge (R350). -/
def execDiscrepancy (t n : Nat) (s : State) : Out :=
  let s := s.at t
  .next (if n < 8 ∧ (s.pairIn n).1 ≠ (s.pairIn n).2 ∧ s.tdTicks ≤ Tab.get (fun _ => 0) s.lds.dis n then
    (s.setFld F.LDS_INSTS_DISC (maskBit (s.fld F.LDS_INSTS_DISC) n true)).pairEval n
    else s)

/-! ## Dead reckoning (R343 to R345) -/

/-- HOLD of the seal in ticks. -/
def State.holdTicks (s : State) : Nat := [0, 10000, 60000, 300000].getD (s.fld F.LDS_CFG_HOLD) 0

/-- Is the twin's takeover seen: a twin installation and REF_GRANT low (R343, R371)? -/
def State.takeoverSeen (s : State) : Bool := s.lds.twin && !s.flag F.RDN_STS_GRANT_L

/-- In HOLDING: RIDING once the takeover is seen, OPENED once the timer has run out (Table 13-6). -/
def State.drmStep (s : State) : State :=
  if s.fld F.LDS_DRM_STATE ≠ 1 then s
  else if s.takeoverSeen then (s.setFld F.LDS_DRM_STATE 2).outputsEval
  else if s.fld F.LDS_DRM_HOLDLEFT = 0 then ((s.setFld F.LDS_DRM_STATE 3).setFld F.LDS_DRM_HOLD_EXPIRED 1).outputsEval
  else s

/-- Dead-reckoning entry with a cause (1 CLK_MISMATCH, 2 BIN_ABSENT, 3 Pilot watchdog, 4 ring loss): only from NORMAL, and only the
first cause is stored. -/
def State.drmEnter (s : State) (cause : Nat) : State :=
  if s.fld F.LDS_DRM_STATE ≠ 0 then s
  else
    let s := ((s.setFld F.LDS_DRM_STATE 1).setFld F.LDS_DRM_CAUSE cause).setFld F.LDS_DRM_HOLDLEFT s.holdTicks
    let s := (s.setFld F.UPD_STS_HOLD 0).setFld F.RDN_STS_CLAIM_L 0
    let s := if s.flag F.RDN_CTL_TWIN then s.setFld F.RDN_STS_ROLE 5 else s
    let s := s.modLds fun l => { l with refHb := false }
    let s := if cause = 3 then s else s.logEvent 0x0B02 3 0 [s.word Reg.LDS_DRM]
    (s.roleLeave.outputsEval).drmStep

/-- BIN_ABSENT is declared: every BPERMIT is withdrawn (R326, R337); not in UPDATE_HOLD (R450). -/
def State.binAbsent (s : State) : State :=
  if s.flag F.UPD_STS_HOLD then s else ((s.modLds fun l => { l with hbSubst := false }).setFld F.LDS_TRIP_BPERMIT_L 0).drmEnter 2

/-- CLK_MISMATCH: two consecutive ticks were out of range (R336). -/
def execClkMismatch (t : Nat) (s : State) : Out :=
  let s := s.at t
  .next (if 2 ≤ s.lds.fabBad then s.drmEnter 1 else s)

/-- Binnacle's start: it sets its own voltage limits 50 mV below OV and 100 mV above UV where the host has set none (BIN_VLIM). -/
def State.binStart (s : State) : State :=
  match profileLimits (s.fld F.LDS_CFG_PROFILE) with
  | some l => if s.word Reg.BIN_VLIM = 0 then (s.setFld F.BIN_VLIM_BOV (l.1 - 50)).setFld F.BIN_VLIM_BUV (l.2 + 100) else s
  | none => s

/-- HEARTBEAT_WRITE: Binnacle writes v, cyc oscillator cycles after its last write (R337, R444). -/
def execHeartbeatWrite (t v cyc : Nat) (s : State) : Out :=
  let s := s.at t
  let bad := match s.lds.hbLast with
    | some w => s.lds.hbSup && (decide (cyc < 16000) || w == v)
    | none => false
  let s := s.when s.lds.hbLast.isNone State.binStart
  let s := s.modLds fun l => { l with hbLast := some v, hbSup := true, hbSubst := false }
  .next (if bad then s.binAbsent else s.outputsEval)

/-- HEARTBEAT_TIMEOUT: cyc cycles have passed without a write. -/
def execHeartbeatTimeout (t cyc : Nat) (s : State) : Out :=
  let s := s.at t
  .next (if s.lds.hbSup ∧ 64000 ≤ cyc then s.binAbsent else s)

/-- LOCKSTEP_MISMATCH: Binnacle is held in reset at once, and its locks are freed (R42). -/
def execLockstepMismatch (t : Nat) (s : State) : Out :=
  let s := (s.at t).modLds fun l => { l with binHeld := true }
  .next (s.freeLocks 2).binAbsent

/-- PILOT_WATCHDOG_EXPIRY: 50 ticks without service (Table 13-4). -/
def execPilotWatchdogExpiry (t : Nat) (s : State) : Out :=
  let s := s.at t
  .next (if s.lds.wdSup ∧ s.lds.wdAt + 50 ≤ s.lds.tick then s.drmEnter 3 else s)

/-- Pilot services the watchdog and writes RDN_CTL.HB (R370, R409, R444). -/
def State.pilotService (s : State) : State :=
  s.modLds fun l => { l with wdSup := true, wdAt := l.tick, rhbAt := some l.tick }

/-- PILOT_SERVICE. -/
def execPilotService (t : Nat) (s : State) : Out := .next (s.at t).pilotService

/-- HB: a write of RDN_CTL.HB; writes of other masters than Pilot are ignored (R370). -/
def execHb (t : Nat) (m : Master) (s : State) : Out :=
  let s := s.at t
  .next (if m = .pilot then s.modLds fun l => { l with rhbAt := some l.tick } else s)

/-- SUPERVISION_START: 500 ticks have passed since the power-up or the release of the reset (R444). -/
def execSupervisionStart (t : Nat) (s : State) : Out :=
  let s := s.at t
  .next (if s.lds.up ∧ s.pwr.held = false ∧ s.lds.supFrom + 500 ≤ s.lds.tick then
    (s.modLds fun l => { l with
      hbSup := true
      hbSubst := false
      wdSup := true
      wdAt := if l.wdSup then l.wdAt else l.tick }).outputsEval
    else s)

/-- LOST_RING: a ring has stayed in LOST for 100 ms; the second one enters dead reckoning (R106). -/
def execLostRing (t r : Nat) (s : State) : Out :=
  let s := s.at t
  let lost := fun r => decide ((s.ring r).state = .lost ∧ (s.ring r).lostAt + 100000000 ≤ s.dial)
  .next (if lost r ∧ 2 ≤ ((List.range 4).filter lost).length then s.drmEnter 4 else s)

/-- HOLD_TIMER_EXPIRY: the hold time has run out in HOLDING. -/
def execHoldTimerExpiry (t : Nat) (s : State) : Out := .next (s.at t).drmStep

/-! ## The tick (R334, R336, R370) -/

/-- REF_HB toggles while the role is not DEAD and Pilot has written HB within the last 10 ticks; low in a single installation. -/
def State.refHbTick (s : State) : State :=
  let run := s.flag F.RDN_CTL_TWIN && s.fld F.RDN_STS_ROLE != 5 && s.fld F.LDS_DRM_STATE == 0 &&
    (match s.lds.rhbAt with | some k => decide (s.lds.tick ≤ k + 10) | none => false)
  s.modLds fun l => { l with refHb := if run then !l.refHb else (l.refHb && s.flag F.RDN_CTL_TWIN && s.fld F.LDS_DRM_STATE == 0) }

/-- What one tick counts. -/
def State.tickCounts (s : State) (x : TickIn) : State :=
  let s := s.modLds fun l => { l with
    tick := l.tick + 1
    fabBad := if x.fab < 23750 ∨ 26250 < x.fab then l.fabBad + 1 else 0
    oc := x.oc % 4
    ocAt := if l.oc = 0 then l.tick + 1 else l.ocAt
    safeB := l.safeB || x.safeB
    lth := (List.range 4).foldl (fun m k => Tab.set (fun _ => 0) m k (if x.lth.testBit k then Tab.get (fun _ => 0) m k + 1 else 0)) l.lth
    dis := (List.range 8).foldl (fun m n => if (s.pairIn n).1 != (s.pairIn n).2 then Tab.set (fun _ => 0) m n (Tab.get (fun _ => 0) m n + 1)
      else m) l.dis }
  (List.range 4).foldl (fun s n =>
    let s := s.setRb n (x.rb.testBit (3 * n)) (x.rb.testBit (3 * n + 1)) (x.rb.testBit (3 * n + 2))
    if s.energized n then
      let s := s.modOut n fun o => { o with age := o.age + 1 }
      s.setFld (F.LDS_OUT_PROOFAGE n) (min 0xFFFF ((s.outSt n).age / 3600000))
    else s) s

/-- LODESTONE_TICK: one tick of 32,000 oscillator cycles. -/
def execLodestoneTick (t : Nat) (x : TickIn) (s : State) : Out :=
  let s := s.at t
  .next (if !s.lds.up || s.lds.oscStop then s
    else
      let s := (s.tickCounts x).refHbTick
      let s := if s.fld F.LDS_DRM_STATE = 1 ∧ !s.takeoverSeen then s.setFld F.LDS_DRM_HOLDLEFT (s.fld F.LDS_DRM_HOLDLEFT - 1) else s
      let s := if s.takeoverSeen then s.drmStep else s
      s.roleStep.outputsEval)

/-! ## Power-up, stop and the safety reset -/

/-- LODESTONE_POWER_UP_END: the seal is read three times (r0, r1, r2), the inputs show a and b, supervision begins suspended (R328,
R338, R444, R511, R519). -/
def execLodestonePowerUpEnd (t r0 r1 r2 a b : Nat) (safeB : Bool) (s : State) : Out :=
  let s := s.at t
  .next (if s.lds.up then s
    else
      let v := r2 % 2 ^ 20
      let valid := r0 % 2 ^ 20 == v && r1 % 2 ^ 20 == v && sealOk v
      let s := (s.xStartAll [17, 18, 19, 20]).modLds fun l => { l with up := true, tick := 0, sealPrev := v, safeB := safeB, supFrom := 0 }
      let s := ((s.setFld F.LDS_SEAL_SEAL v).setFld F.LDS_SEAL_SEALCHK (v / 65536)).sealDecode v
      let s := (s.setFld F.LDS_SEALNOW_SEAL v).setFld F.LDS_SEALNOW_SEALCHK (v / 65536)
      let s := if valid then s else (s.raise F.LDS_SEAL_SEAL_FAULT).trip F.LDS_TRIP_SEAL
      ((List.range 8).foldl (fun s n => (s.setPair n (a.testBit n) (b.testBit n)).pairEval n) s).outputsEval)

/-- LODESTONE_OSC_STOP: an analog watchdog removes every drive, latched until power-on reset; Binnacle drives SAFE_B low. -/
def execLodestoneOscStop (t : Nat) (s : State) : Out :=
  let s := (s.at t).modLds fun l => { l with oscStop := true, safeB := false }
  .next ((List.range 4).foldl (fun s n =>
    let s := (s.setFld (F.LDS_OUT_HS_DRV_L n) 0).setFld (F.LDS_OUT_LS_DRV_L n) 0
    let s := ((s.setFld (F.LDS_OUT_ENERGIZED_L n) 0).setFld (F.LDS_OUT_SEQ_L n) 0).clearReq n
    s.modOut n fun o => { o with phase := .rest, pulse := .none }) s).helmExtStop

/-- The safety reset of R341, R353 and R359: each latch whose condition has ended clears; nothing is energized by it. -/
def State.safetyReset (s : State) : State :=
  let still := (onesBelow 8 (s.fld F.LDS_INSTS_DEMAND)).filter s.pairDemands
  let s := s.setFld F.LDS_INSTS_DEMAND (still.foldl (fun m n => m + 2 ^ n) 0)
  let s := if still.isEmpty then s.setFld F.LDS_TRIP_INPUT 0 else s
  let s := if s.lds.oc.testBit 0 then s else s.setFld F.LDS_TRIP_OCA 0
  let s := if s.lds.oc.testBit 1 then s else s.setFld F.LDS_TRIP_OCB 0
  let s := if s.lds.oc = 0 then s.modLds fun l => { l with ocAll := false } else s
  let hot := fun k => Tab.get (fun _ => 0) s.lds.lth k != 0
  let s := (List.range 4).foldl (fun s k => if hot k then s else s.setFld ⟨Reg.LDS_TRIP, 6 + k, 6 + k⟩ 0) s
  let s := if (List.range 4).any hot then s else s.setFld F.LDS_TRIP_LTH 0
  let s := if s.anyArmFault then s else s.setFld F.LDS_TRIP_ARMCRC 0
  let s := if s.fld F.TRV_FLSTS_TOGGLING = 15 then s.setFld F.LDS_TRIP_FL 0 else s
  let s := if s.lds.safeB ∧ s.lds.binMask &&& s.fld F.LDS_TRIP_BPERMIT_L = s.lds.binMask then
      (s.setFld F.LDS_TRIP_BIN_DEMAND 0).modLds fun l => { l with binMask := 0 }
    else s
  let s := (List.range 4).foldl (fun s n =>
    if s.flag (F.LDS_OUT_HS_RB_L n) || s.flag (F.LDS_OUT_LS_RB_L n) || s.flag (F.LDS_OUT_LOAD_RB_L n) then s
    else s.setFld (F.LDS_OUT_OUTFAULT n) 0) s
  (s.setFld F.LDS_SEAL_SEAL_GLITCH 0).outputsEval

end Sys2Proof.Machine
end

