-- ==== Sys2Proof/Machine/Binnacle.lean ====
section
/-! DEFINITION. Binnacle's checks, its warnings and its demands (R339, Table 13-5). -/

namespace Sys2Proof.Machine

/-- Change what Binnacle keeps. -/
def State.modBin (s : State) (f : BinSt → BinSt) : State := { s with bin := f s.bin }

/-- A check withdraws permits: the waves of the outputs of a mask stop, BIN_TRIP, and the demand reaches Lodestone (R323, R324, R326). -/
def State.binTrip (s : State) (mask : Nat) : State :=
  let lost := s.fld F.LDS_TRIP_BPERMIT_L &&& mask
  if lost = 0 then s
  else ((s.setFld F.LDS_TRIP_BPERMIT_L (s.fld F.LDS_TRIP_BPERMIT_L &&& (15 ^^^ lost))).raiseEv F.BIN_STS_BIN_TRIP).binDemand mask

/-- A warning: its status bit and a Logbook record (Table 13-5, Table 21-2). -/
def State.binWarn (s : State) (f : Fld) (inst v : Word) : State :=
  let s := s.raiseEv f
  s.logEvent 0x0C01 1 inst [s.word Reg.BIN_STS, v]

/-- Is the current valid and below a position's CRATED / k in magnitude? -/
def State.lowCurrent (s : State) (p k : Nat) : Bool :=
  match s.acq.curNow with
  | some i => decide ((i.natAbs : Rat) * (k : Rat) < 1000 * (s.dscOf p).crated.toRat)
  | none => false

/-- Is a signed current (discharge positive) above a position's CRATED / k? -/
def State.highCurrent (s : State) (p k : Nat) (sign : Int) : Bool :=
  match s.acq.curNow with
  | some i => decide (1000 * (s.dscOf p).crated.toRat < ((sign * i : Int) : Rat) * (k : Rat))
  | none => false

/-- The per-snapshot checks of one position with the reading of the snapshot at the target (Table 13-5): threshold plausibility,
voltage limits, voltage precursor. Gives the mask of outputs to trip as a pair: at once, and whether the voltage limits say so. -/
def State.binCell (s : State) (target k p : Nat) : State :=
  match (s.posAcc p).reading with
  | none => s.modBin fun b => { b with
      plaus := Tab.set (fun _ => 0) b.plaus p 0
      vlim := Tab.set (fun _ => 0) b.vlim p 0 }
  | some v =>
    let lim := (profileLimits (s.fld F.LDS_CFG_PROFILE)).getD (0, 0)
    let out := decide ((100 * lim.1 : Nat) < v ∨ v < (100 * lim.2 : Nat)) && !(s.known k).comp
    let far := decide ((100 * s.fld F.BIN_VLIM_BOV : Nat) < v ∨ v < (100 * s.fld F.BIN_VLIM_BUV : Nat))
    let old := if s.lowCurrent p 10 then
        (Tab.get (fun _ => []) s.bin.falls p).filter fun e => decide (target ≤ e.1 + 1000000000) else []
    let drop := s.lowCurrent p 10 && old.any fun e => decide (5000 ≤ e.2 - v)
    let keep := if drop then [(target, v)] else if s.lowCurrent p 10 then (target, v) :: old else []
    let s := s.modBin fun b => { b with
      plaus := Tab.set (fun _ => 0) b.plaus p (if out then Tab.get (fun _ => 0) b.plaus p + 1 else 0)
      vlim := Tab.set (fun _ => 0) b.vlim p (if far then Tab.get (fun _ => 0) b.vlim p + 1 else 0)
      falls := Tab.set (fun _ => []) b.falls p keep }
    if !drop then s
    else
      let s := s.binWarn F.BIN_STS_DV_WARN (nw p) (iw v)
      match Tab.get (fun _ => none) s.bin.thermAt k with
      | some d => if s.dial ≤ d + 60000000000 then s.binTrip 15 else s
      | none => s

/-- Does the current of the last snapshot lie beyond a limit by more than 10 % + 10 A? -/
def State.beyondLimits (s : State) : Bool :=
  match s.acq.curNow with
  | some i =>
    let d := (s.word Reg.DSP_ILIMD).toInt
    let c := (s.word Reg.DSP_ILIMC).toInt
    decide (11 * d + 100000 < 10 * i ∨ 10 * i < 11 * c - 100000)
  | none => false

/-- The checks that Binnacle runs on every snapshot. -/
def State.binSnapshot (s : State) (target : Nat) : State :=
  if !s.binRunning then s
  else
    let s := allSlots.foldl (fun s k =>
      (List.range (s.acqSlot k).ncell).foldl (fun s j => s.binCell target k ((s.acqSlot k).basep + j)) s) s
    let own := (s.thresholds.map fun b => (crc16 b).toNat).getD (s.fld F.LDS_CFG_PROFCRC)
    let s := if (s.bin.plaus.any fun e => decide (3 ≤ e.2)) || own != s.fld F.LDS_CFG_PROFCRC then s.binTrip 15 else s
    let s := if (s.bin.vlim.any fun e => decide (3 ≤ e.2)) then
        (s.binTrip 8).modLds fun l => { l with binDelay := some (l.binDelay.getD s.dial) }
      else s
    let from_ := if s.beyondLimits then some (s.bin.limFrom.getD target) else none
    let s := s.modBin fun b => { b with limFrom := from_ }
    match s.bin.limFrom with
    | some f => if f + 100000000 ≤ target then s.binTrip 8 else s
    | none => s

/-- BINNACLE_DELAYED_TRIP: a further 1 s after a voltage-limit trip of CONV_EN comes an open trip. -/
def execBinnacleDelayedTrip (t : Nat) (s : State) : Out :=
  let s := s.at t
  .next (match s.lds.binDelay with
    | some d => if d + 1000000000 ≤ s.dial then (s.modLds fun l => { l with binDelay := none }).binTrip 15 else s
    | none => s)

/-- INSULATION_ESTIMATE: one estimate every 2 s, in kΩ; VSTRING is word 7 of the acquisition record. -/
def execInsulationEstimate (t riso : Nat) (s : State) : Out :=
  let s := s.at t
  .next (if !s.binRunning then s
    else
      let s := s.setFld F.BIN_ISO_RISO (min riso 0xFFFF)
      let below := fun (per : Nat) => decide (1000000 * (riso : Int) < 10 * (per : Int) * s.acq.vstring)
      let warn := below (s.fld F.BIN_ISO_WARN)
      let low := below (s.fld F.BIN_ISO_TRIP)
      let was := s.flag F.BIN_STS_ISO_WARN.live
      let s := s.setHeld F.BIN_STS_ISO_WARN warn
      let s := if warn && !was then s.logEvent 0x0C01 1 0xFFFFFFFF [s.word Reg.BIN_STS, nw (min riso 0xFFFF)] else s
      let s := s.modBin fun b => { b with isoRun := if low then b.isoRun + 1 else 0 }
      if 2 ≤ s.bin.isoRun then s.binTrip 15 else s)

/-! ## Checks at every epoch -/

/-- The temperatures of a tile that the thermal precursor watches: its thermistors and its Tc, 0.01 °C. -/
def State.tileWatch (s : State) (k : Nat) : List (Option Int) :=
  let x := s.acqSlot k
  let th := match x.last with
    | some r => r.temps.map fun c => if tempOk c then some c else none
    | none => []
  th ++ [if (s.sxtSide (976 + k)).tOk then some (Fl.toIntAway (Fl.mul hp (s.cxF (976 + k) 0x160) (Fl.ofInt 100))) else none]

/-- Does a temperature rise by 1.0 °C/s or more from a sample dt ns old? -/
def fastRise (dt : Nat) : Option Int → Option Int → Bool
  | some a, some b => decide (0 < dt) && decide ((dt : Int) ≤ (b - a) * 10000000)
  | _, _ => false

/-- The checks that Binnacle runs at every epoch: thermal precursor over 10 s, EMPTY and FULL with current for 10 s. -/
def State.binEpoch (s : State) : State :=
  if !s.binRunning then s
  else
    let now := (allSlots.filter fun k => (s.acqSlot k).inService).map fun k => (k, s.tileWatch k)
    let old := (s.bin.temps.find? fun e => decide (e.1 + 10000000000 ≤ s.dial))
    let was := fun (l : List (Nat × List (Option Int))) (k i : Nat) => (l.find? fun x => x.1 == k).elim none fun x => x.2.getD i none
    let hits : List Nat := match old with
      | some (d, l) => (now.filter fun e => (List.range 5).any fun i => fastRise (s.dial - d) (was l e.1 i) (e.2.getD i none)).map (·.1)
      | none => []
    let kept := s.bin.temps.takeWhile fun e => decide (s.dial < e.1 + 10000000000)
    let last := (s.bin.temps.drop kept.length).take 1
    let s := s.modBin fun b => { b with
      temps := (s.dial, now) :: kept ++ last
      thermAt := hits.foldl (fun m k => Tab.set (fun _ => none) m k (some s.dial)) b.thermAt }
    let s := if hits.isEmpty then s else s.binTrip 15
    let s := (List.range s.acq.npos).foldl (fun s p =>
      let on := (s.cxFlag p fEmpty && s.highCurrent p 20 1) || (s.cxFlag p fFull && s.highCurrent p 20 (-1))
      let f := if on then some ((Tab.get (fun _ => none) s.bin.socFrom p).getD s.dial) else none
      s.modBin fun b => { b with socFrom := Tab.set (fun _ => none) b.socFrom p f }) s
    if s.bin.socFrom.any fun e => (match e.2 with | some d => decide (d + 10000000000 ≤ s.dial) | none => false) then s.binTrip 8 else s

/-! ## Azimuth blocks (R258) -/

/-- One cell of a block: ROHM, CT and PLAT_RISK are received; the checks are a rise of TINT by 5 °C since the block before and an
offset of 15 °C from its thermistor. -/
def State.binBlockCell (s : State) (start fin p : Nat) (c : AzmCell) : State :=
  let got : BinCell := { rohm := c.rohm, ct := c.ct, risk := (s.azmPos p).risk }
  let s := s.modBin fun b => { b with cells := Tab.set (fun _ => BinCell.reset) b.cells p got }
  match c.tint with
  | none => s.modBin fun b => { b with tint := Tab.set (fun _ => none) b.tint p none }
  | some v =>
    let rise := match Tab.get (fun _ => none) s.bin.tint p with
      | some (v0, f0) => f0 == start && decide (500 ≤ v - v0)
      | none => false
    let s := s.modBin fun b => { b with tint := Tab.set (fun _ => none) b.tint p (some (v, fin)) }
    let s := match (s.posAcc p).temp with
      | some x => if 1500 ≤ v - x then s.binWarn F.BIN_STS_TINT_WARN (nw p) (iw v) else s
      | none => s
    if rise then s.binTrip 15 else s

/-- AZM_BLOCK_READY: a block's values go to Sextant, Binnacle and the commit unit (R255, R256, R258). -/
def execAzmBlockReady (t : Nat) (s : State) : Out :=
  let s := s.at t
  .next (match s.azmDue with
    | some (j, r) =>
      let s := s.blockReady j r
      if !s.binRunning then s
      else
        let start := j.win.blockStart j.b
        let fin := j.win.blockStart (j.b + 1)
        (r.cells.filter fun c => decide (c.1 < s.acq.npos)).foldl (fun s c => s.binBlockCell start fin c.1 c.2) s
    | none => s)

end Sys2Proof.Machine
end

