-- ==== Sys2Proof/Machine/Crypto.lean ====
section
/-! DEFINITION. The standard algorithms the update and session rules name: SHA-256, SHA-384 (FIPS 180-4), HMAC-SHA-256 (FIPS 198-1) and ECDSA verification on P-384 (FIPS 186). -/

namespace Sys2Proof.Machine

/-! ## SHA-2 -/

/-- The round constants of SHA-256, from number 0 on. -/
def sha256KA : List (BitVec 32) := [
  0x428A2F98#32, 0x71374491#32, 0xB5C0FBCF#32, 0xE9B5DBA5#32,
  0x3956C25B#32, 0x59F111F1#32, 0x923F82A4#32, 0xAB1C5ED5#32,
  0xD807AA98#32, 0x12835B01#32, 0x243185BE#32, 0x550C7DC3#32,
  0x72BE5D74#32, 0x80DEB1FE#32, 0x9BDC06A7#32, 0xC19BF174#32]
/-- The round constants of SHA-256, from number 16 on. -/
def sha256KB : List (BitVec 32) := [
  0xE49B69C1#32, 0xEFBE4786#32, 0x0FC19DC6#32, 0x240CA1CC#32,
  0x2DE92C6F#32, 0x4A7484AA#32, 0x5CB0A9DC#32, 0x76F988DA#32,
  0x983E5152#32, 0xA831C66D#32, 0xB00327C8#32, 0xBF597FC7#32,
  0xC6E00BF3#32, 0xD5A79147#32, 0x06CA6351#32, 0x14292967#32]
/-- The round constants of SHA-256, from number 32 on. -/
def sha256KC : List (BitVec 32) := [
  0x27B70A85#32, 0x2E1B2138#32, 0x4D2C6DFC#32, 0x53380D13#32,
  0x650A7354#32, 0x766A0ABB#32, 0x81C2C92E#32, 0x92722C85#32,
  0xA2BFE8A1#32, 0xA81A664B#32, 0xC24B8B70#32, 0xC76C51A3#32,
  0xD192E819#32, 0xD6990624#32, 0xF40E3585#32, 0x106AA070#32]
/-- The round constants of SHA-256, from number 48 on. -/
def sha256KD : List (BitVec 32) := [
  0x19A4C116#32, 0x1E376C08#32, 0x2748774C#32, 0x34B0BCB5#32,
  0x391C0CB3#32, 0x4ED8AA4A#32, 0x5B9CCA4F#32, 0x682E6FF3#32,
  0x748F82EE#32, 0x78A5636F#32, 0x84C87814#32, 0x8CC70208#32,
  0x90BEFFFA#32, 0xA4506CEB#32, 0xBEF9A3F7#32, 0xC67178F2#32]
/-- The round constants of SHA-256. -/
def sha256K : List (BitVec 32) := sha256KA ++ sha256KB ++ sha256KC ++ sha256KD

/-- The round constants of SHA-384, from number 0 on. -/
def sha384KA : List (BitVec 64) := [
  0x428A2F98D728AE22#64, 0x7137449123EF65CD#64,
  0xB5C0FBCFEC4D3B2F#64, 0xE9B5DBA58189DBBC#64,
  0x3956C25BF348B538#64, 0x59F111F1B605D019#64,
  0x923F82A4AF194F9B#64, 0xAB1C5ED5DA6D8118#64,
  0xD807AA98A3030242#64, 0x12835B0145706FBE#64,
  0x243185BE4EE4B28C#64, 0x550C7DC3D5FFB4E2#64,
  0x72BE5D74F27B896F#64, 0x80DEB1FE3B1696B1#64,
  0x9BDC06A725C71235#64, 0xC19BF174CF692694#64]
/-- The round constants of SHA-384, from number 16 on. -/
def sha384KB : List (BitVec 64) := [
  0xE49B69C19EF14AD2#64, 0xEFBE4786384F25E3#64,
  0x0FC19DC68B8CD5B5#64, 0x240CA1CC77AC9C65#64,
  0x2DE92C6F592B0275#64, 0x4A7484AA6EA6E483#64,
  0x5CB0A9DCBD41FBD4#64, 0x76F988DA831153B5#64,
  0x983E5152EE66DFAB#64, 0xA831C66D2DB43210#64,
  0xB00327C898FB213F#64, 0xBF597FC7BEEF0EE4#64,
  0xC6E00BF33DA88FC2#64, 0xD5A79147930AA725#64,
  0x06CA6351E003826F#64, 0x142929670A0E6E70#64]
/-- The round constants of SHA-384, from number 32 on. -/
def sha384KC : List (BitVec 64) := [
  0x27B70A8546D22FFC#64, 0x2E1B21385C26C926#64,
  0x4D2C6DFC5AC42AED#64, 0x53380D139D95B3DF#64,
  0x650A73548BAF63DE#64, 0x766A0ABB3C77B2A8#64,
  0x81C2C92E47EDAEE6#64, 0x92722C851482353B#64,
  0xA2BFE8A14CF10364#64, 0xA81A664BBC423001#64,
  0xC24B8B70D0F89791#64, 0xC76C51A30654BE30#64,
  0xD192E819D6EF5218#64, 0xD69906245565A910#64,
  0xF40E35855771202A#64, 0x106AA07032BBD1B8#64]
/-- The round constants of SHA-384, from number 48 on. -/
def sha384KD : List (BitVec 64) := [
  0x19A4C116B8D2D0C8#64, 0x1E376C085141AB53#64,
  0x2748774CDF8EEB99#64, 0x34B0BCB5E19B48A8#64,
  0x391C0CB3C5C95A63#64, 0x4ED8AA4AE3418ACB#64,
  0x5B9CCA4F7763E373#64, 0x682E6FF3D6B2B8A3#64,
  0x748F82EE5DEFB2FC#64, 0x78A5636F43172F60#64,
  0x84C87814A1F0AB72#64, 0x8CC702081A6439EC#64,
  0x90BEFFFA23631E28#64, 0xA4506CEBDE82BDE9#64,
  0xBEF9A3F7B2C67915#64, 0xC67178F2E372532B#64]
/-- The round constants of SHA-384, from number 64 on. -/
def sha384KE : List (BitVec 64) := [
  0xCA273ECEEA26619C#64, 0xD186B8C721C0C207#64,
  0xEADA7DD6CDE0EB1E#64, 0xF57D4F7FEE6ED178#64,
  0x06F067AA72176FBA#64, 0x0A637DC5A2C898A6#64,
  0x113F9804BEF90DAE#64, 0x1B710B35131C471B#64,
  0x28DB77F523047D84#64, 0x32CAAB7B40C72493#64,
  0x3C9EBE0A15C9BEBC#64, 0x431D67C49C100D4C#64,
  0x4CC5D4BECB3E42B6#64, 0x597F299CFC657E2A#64,
  0x5FCB6FAB3AD6FAEC#64, 0x6C44198C4A475817#64]
/-- The round constants of SHA-384. -/
def sha384K : List (BitVec 64) := sha384KA ++ sha384KB ++ sha384KC ++ sha384KD ++ sha384KE

/-- The initial hash value of SHA-256. -/
def sha256H : List (BitVec 32) := [
  0x6A09E667#32, 0xBB67AE85#32, 0x3C6EF372#32, 0xA54FF53A#32,
  0x510E527F#32, 0x9B05688C#32, 0x1F83D9AB#32, 0x5BE0CD19#32]

/-- The initial hash value of SHA-384. -/
def sha384H : List (BitVec 64) := [
  0xCBBB9D5DC1059ED8#64, 0x629A292A367CD507#64,
  0x9159015A3070DD17#64, 0x152FECD8F70E5939#64,
  0x67332667FFC00B31#64, 0x8EB44A8768581511#64,
  0xDB0C2E0D64F98FA7#64, 0x47B5481DBEFA4FA4#64]

/-- The six functions of a SHA-2 variant, by their rotations. -/
structure ShaFns (w : Nat) where
  s0 : BitVec w → BitVec w
  s1 : BitVec w → BitVec w
  e0 : BitVec w → BitVec w
  e1 : BitVec w → BitVec w

/-- The functions of SHA-256. -/
def sha256F : ShaFns 32 :=
  { s0 := fun x => x.rotateRight 7 ^^^ x.rotateRight 18 ^^^ (x >>> 3)
    s1 := fun x => x.rotateRight 17 ^^^ x.rotateRight 19 ^^^ (x >>> 10)
    e0 := fun x => x.rotateRight 2 ^^^ x.rotateRight 13 ^^^ x.rotateRight 22
    e1 := fun x => x.rotateRight 6 ^^^ x.rotateRight 11 ^^^ x.rotateRight 25 }

/-- The functions of SHA-384. -/
def sha384F : ShaFns 64 :=
  { s0 := fun x => x.rotateRight 1 ^^^ x.rotateRight 8 ^^^ (x >>> 7)
    s1 := fun x => x.rotateRight 19 ^^^ x.rotateRight 61 ^^^ (x >>> 6)
    e0 := fun x => x.rotateRight 28 ^^^ x.rotateRight 34 ^^^ x.rotateRight 39
    e1 := fun x => x.rotateRight 14 ^^^ x.rotateRight 18 ^^^ x.rotateRight 41 }

/-- The message schedule, newest word first: n further words from the last sixteen. -/
def shaSched {w : Nat} (f : ShaFns w) : Nat → List (BitVec w) → List (BitVec w)
  | 0, l => l
  | n + 1, l => shaSched f n ((f.s1 (l.getD 1 0) + l.getD 6 0 + f.s0 (l.getD 14 0) + l.getD 15 0) :: l)

/-- One round on the eight working variables. -/
def shaRound {w : Nat} (f : ShaFns w) (v : List (BitVec w)) (kw : BitVec w × BitVec w) : List (BitVec w) :=
  match v with
  | [a, b, c, d, e, g, h, i] =>
    let t1 := i + f.e1 e + ((e &&& g) ^^^ (~~~e &&& h)) + kw.1 + kw.2
    let t2 := f.e0 a + ((a &&& b) ^^^ (a &&& c) ^^^ (b &&& c))
    [t1 + t2, a, b, c, d + t1, e, g, h]
  | _ => v

/-- One block into the hash value. -/
def shaBlock {w : Nat} (f : ShaFns w) (ks : List (BitVec w)) (h : List (BitVec w)) (blk : List (BitVec w)) : List (BitVec w) :=
  let sched := (shaSched f (ks.length - 16) blk.reverse).reverse
  (h.zip ((ks.zip sched).foldl (shaRound f) h)).map fun p => p.1 + p.2

/-- A list of bytes as one number, most significant first. -/
def beNat (bs : List Nat) : Nat := bs.foldl (fun n b => 256 * n + b % 256) 0

/-- A number as n bytes, most significant first. -/
def beBytes : Nat → Nat → List Nat
  | 0, _ => []
  | n + 1, v => (v / 256 ^ n % 256) :: beBytes n v

/-- Cut a list of bytes into n words of k bytes. -/
def cutWords (w k : Nat) : Nat → List Nat → List (BitVec w)
  | 0, _ => []
  | n + 1, bs => BitVec.ofNat w (beNat (bs.take k)) :: cutWords w k n (bs.drop k)

/-- Cut a list of words into n blocks of sixteen. -/
def cutBlocks {w : Nat} : Nat → List (BitVec w) → List (List (BitVec w))
  | 0, _ => []
  | n + 1, l => l.take 16 :: cutBlocks n (l.drop 16)

/-- The padding of a message of n bytes to whole blocks of b bytes, with a length field of l bytes. -/
def shaPad (b l n : Nat) : List Nat := 0x80 :: List.replicate ((2 * b - 1 - l - n % b) % b) 0 ++ beBytes l (8 * n)

/-- SHA-256 of a list of bytes. -/
def sha256 (m : List Nat) : List Nat :=
  let p := m ++ shaPad 64 8 m.length
  let n := p.length / 64
  ((cutBlocks n (cutWords 32 4 (16 * n) p)).foldl (shaBlock sha256F sha256K) sha256H).flatMap fun x => beBytes 4 x.toNat

/-- SHA-384 of a list of bytes. -/
def sha384 (m : List Nat) : List Nat :=
  let p := m ++ shaPad 128 16 m.length
  let n := p.length / 128
  (((cutBlocks n (cutWords 64 8 (16 * n) p)).foldl (shaBlock sha384F sha384K) sha384H).take 6).flatMap fun x => beBytes 8 x.toNat

/-- HMAC-SHA-256 of a message under a key of at most 64 bytes. -/
def hmac256 (key m : List Nat) : List Nat :=
  let k := key ++ List.replicate (64 - key.length) 0
  sha256 (k.map (· ^^^ 0x5C) ++ sha256 (k.map (· ^^^ 0x36) ++ m))

/-! ## ECDSA on P-384 -/

/-- The field prime, the group order, b and the base point of P-384. -/
def p384P : Nat := 0xfffffffffffffffffffffffffffffffffffffffffffffffffffffffffffffffeffffffff0000000000000000ffffffff
def p384N : Nat := 0xffffffffffffffffffffffffffffffffffffffffffffffffc7634d81f4372ddf581a0db248b0a77aecec196accc52973
def p384B : Nat := 0xb3312fa7e23ee7e4988e056be3f82d19181d9c6efe8141120314088f5013875ac656398d8a2ed19d2a85c8edd3ec2aef
def p384G : Nat × Nat := (0xaa87ca22be8b05378eb1c71ef320ad746e1d3b628ba79b9859f741e082542a385502f25dbf55296c3a545e3872760ab7,
  0x3617de4a96262c6f5d9e98bf9292dc29f8f41dbd289a147ce9da3113b5f0b8c00a60b1ce1d7e819d7a431d7c90ea0e5f)

/-- b ^ e modulo m over the low n bits of e. -/
def powMod (m : Nat) : Nat → Nat → Nat → Nat
  | 0, _, _ => 1 % m
  | n + 1, b, e => powMod m n (b * b % m) (e / 2) * (if e % 2 = 1 then b else 1) % m

/-- The inverse modulo a prime. -/
def invMod (m a : Nat) : Nat := powMod m 384 (a % m) (m - 2)

/-- The sum of two points of the curve; none is the point at infinity. -/
def p384Add : Option (Nat × Nat) → Option (Nat × Nat) → Option (Nat × Nat)
  | none, q => q
  | p, none => p
  | some (x1, y1), some (x2, y2) =>
    if x1 = x2 ∧ (y1 + y2) % p384P = 0 then none
    else
      let l := if x1 = x2 then (3 * x1 * x1 + (p384P - 3)) * invMod p384P (2 * y1) % p384P
        else (y2 + (p384P - y1)) * invMod p384P (x2 + (p384P - x1)) % p384P
      let x := (l * l + (p384P - x1) + (p384P - x2)) % p384P
      some (x, (l * (x1 + (p384P - x)) + (p384P - y1)) % p384P)

/-- k times a point, over the low n bits of k. -/
def p384Mul : Nat → Nat → Option (Nat × Nat) → Option (Nat × Nat)
  | 0, _, _ => none
  | n + 1, k, q => p384Add (if k % 2 = 1 then q else none) (p384Mul n (k / 2) (p384Add q q))

/-- Does a point lie on the curve? -/
def p384On (x y : Nat) : Bool :=
  decide (x < p384P ∧ y < p384P) && y * y % p384P == (x * x * x + (p384P - 3) * x + p384B) % p384P

/-- Is (r, s) a valid signature of a digest under an uncompressed public key of 97 bytes? -/
def ecdsaOk (pub digest sig : List Nat) : Bool :=
  let x := beNat ((pub.drop 1).take 48)
  let y := beNat ((pub.drop 49).take 48)
  let r := beNat (sig.take 48)
  let t := beNat ((sig.drop 48).take 48)
  let w := invMod p384N t
  pub.headD 0 == 4 && p384On x y && decide (0 < r ∧ r < p384N ∧ 0 < t ∧ t < p384N) &&
    match p384Add (p384Mul 384 (beNat digest * w % p384N) (some p384G)) (p384Mul 384 (r * w % p384N) (some (x, y))) with
    | some (x1, _) => x1 % p384N == r
    | none => false

end Sys2Proof.Machine
end

