-- ==== Sys2Proof/Machine/Pilot.lean ====
section
/-! DEFINITION. Pilot's taking of command entries and posting of responses (R384 to R388, R401 to R407). -/

namespace Sys2Proof.Machine

/-- Change Pilot's state, the host interfaces' state. -/
def State.modPilot (s : State) (f : PilotSt → PilotSt) : State := { s with pilot := f s.pilot }
def State.modHost (s : State) (f : HostSt → HostSt) : State := { s with host := f s.host }

/-- The master ID of a local host's ring; a session has none. -/
def ringMaster : Issuer → Option Nat
  | .pcie => some 4
  | .hspi => some 5
  | .session _ => none

/-- The index registers of a master's rings. -/
def State.ringIdx (s : State) (m reg : Nat) : Nat := getBits (s.word (masterKey m reg)) 0 16
def State.setRingIdx (s : State) (m reg v : Nat) : State := s.setWord (masterKey m reg) (nw (v % 65536))

/-- How many entries a master's command ring and response ring hold. -/
def State.cmdHeld (s : State) (m : Nat) : Nat := ringHeld (s.ringIdx m Reg.HOST_CMDPI) (s.ringIdx m Reg.HOST_CMDCI)
def State.rspHeld (s : State) (m : Nat) : Nat := ringHeld (s.ringIdx m Reg.HOST_RSPPI) (s.ringIdx m Reg.HOST_RSPCI)

/-- The words of an entry (R384, R402). -/
def entryWords (tag len op w1lo : Nat) (p : List Word) : List Word := nw (65536 * tag + len) :: nw (65536 * op + w1lo) :: p

/-- Post an entry on a master's response ring; one that was empty raises doorbell 24 (R386, Table 16-4). -/
def State.rspPut (s : State) (m : Nat) (ws : List Word) : State :=
  let pi := s.ringIdx m Reg.HOST_RSPPI
  let empty := s.rspHeld m == 0
  let s := s.modHost fun h => { h with rspRing := Store.putAll zeroWord h.rspRing (masterKey m (64 * (pi % 256))) ws }
  let s := s.setRingIdx m Reg.HOST_RSPPI (pi + 1)
  if empty then s.doorbell 24 else s

/-- Session k. -/
def State.session (s : State) (k : Nat) : Session := Tab.get (fun _ => Session.closed) s.host.sessions k
def State.setSession (s : State) (k : Nat) (x : Session) : State :=
  s.modHost fun h => { h with sessions := Tab.set (fun _ => Session.closed) h.sessions k x }

/-- A number as n bytes, least significant first. -/
def numBytes (v n : Nat) : List Nat := (List.range n).map fun i => v / 256 ^ i % 256

/-- The bytes of a datagram before its tag (R401). -/
def datagramBytes (sid seq typ : Nat) (ws : List Word) : List Nat :=
  numBytes sid 4 ++ numBytes seq 8 ++ [typ, 0, 0, 0] ++ wordsBytes ws

/-- Send a response entry to a session. -/
def State.sessionSend (s : State) (k : Nat) (ws : List Word) : State :=
  let x := s.session k
  let bs := datagramBytes x.sid (x.sendSeq + 1) 2 ws
  let s := s.setSession k { x with sendSeq := x.sendSeq + 1, outstanding := x.outstanding - 1 }
  s.modHost fun h => { h with udpOut := { port := x.port, bytes := bs, tag := hmac256 x.ks bs } :: h.udpOut }

/-- Post the response of a command (R403). -/
def State.respond (s : State) (src : Issuer) (tag op status : Nat) (data : List Word) : State :=
  let ws := entryWords tag (4 + 4 * data.length) op status data
  match src with
  | .pcie => s.rspPut 4 ws
  | .hspi => s.rspPut 5 ws
  | .session k => if (s.session k).open_ then s.sessionSend k ws else s

/-- Status codes (Table 17-1). -/
def stOk : Nat := 0
def stMalformed : Nat := 1
def stUnknown : Nat := 2
def stBadParam : Nat := 3
def stBusy : Nat := 4
def stState : Nat := 5
def stNotActive : Nat := 6
def stDenied : Nat := 7
def stRejected : Nat := 8
def stVerify : Nat := 9
def stTimeout : Nat := 10

/-- How a command ends its turn: a response with a status and data words, or a wait. -/
inductive Ans where
  | done (status : Nat) (data : List Word)
  | wait (what : Await)
  deriving DecidableEq, Repr

/-- OK without data, OK with data, a status without data, REJECTED with a register's word. -/
def Ans.ok : Ans := .done stOk []
def Ans.data (ws : List Word) : Ans := .done stOk ws
def Ans.st (n : Nat) : Ans := .done n []

/-- Is the device awake: neither held in reset, nor in WATCH or OFF, nor shut down? -/
def State.awake (s : State) : Bool := !s.pwr.held && !s.pwr.shut && decide (s.fld F.THM_STS_PSTATE < 2)

/-- Does Pilot serve commands: the start sequence has ended, or recovery mode is in force (Table 19-3, R457)? -/
def State.pilotUp (s : State) : Bool := s.awake && (s.flag F.UPD_STS_READY || s.flag F.UPD_STS_RECOVERY)

/-- May Pilot take the next entry of an issuer (R386, R401, R405, R407, R417, R454)? -/
def State.pilotTakes (s : State) (src : Issuer) (ws : List Word) : Bool :=
  s.pilotUp && s.upd.pauseAt.isNone && s.upd.recWrite.isNone &&
  !(s.pilot.waiting.any fun w => w.src == src || (match w.what with | .carrier _ => true | _ => false)) &&
  match src with
  | .pcie => s.host.pcieUp && decide (s.rspHeld 4 < 256)
  | .hspi => decide (s.rspHeld 5 < 256)
  | .session k => (s.session k).open_ && (s.session k).inbox.head? == some ws

/-- The entry leaves its ring or inbox. An entry the host has placed and not yet counted in HOST_CMDPI is counted with it; a full
command ring gains space (R385, R387, Table 16-4). -/
def State.takeEntry (s : State) (src : Issuer) (ws : List Word) : State :=
  match ringMaster src with
  | some m =>
    let ci := s.ringIdx m Reg.HOST_CMDCI
    let held := s.cmdHeld m
    let s := s.modHost fun h => { h with cmdRing := Store.putAll zeroWord h.cmdRing (masterKey m (64 * (ci % 256))) ws }
    let s := if held = 0 then s.setRingIdx m Reg.HOST_CMDPI (ci + 1) else s
    let s := s.setRingIdx m Reg.HOST_CMDCI (ci + 1)
    if held = 256 then s.doorbell 25 else s
  | none =>
    match src with
    | .session k => s.setSession k { s.session k with inbox := (s.session k).inbox.drop 1 }
    | _ => s

/-- The parameter words of an entry: LEN / 4 - 1 words from w2. -/
def entryPs (c : Entry) : List Word := (c.p ++ List.replicate 62 0).take (c.len / 4 - 1)

/-- Does LEN meet R384? -/
def lenOk (n : Nat) : Bool := decide (4 ≤ n ∧ n ≤ 252 ∧ n % 4 = 0)

/-- The opcodes that recovery mode serves (R457). -/
def recoveryOps : List Nat :=
  [0x0100, 0x0101, 0x0102, 0x0108, 0x0C00, 0x0C01, 0x0C02, 0x0C03, 0x0C05, 0x0E00, 0x0E01]

/-- The checks that precede every command, then the command itself: need tells whether the words are exactly those of its row,
flags L and A as given (R402, R404, R407, R457). -/
def State.pilotAns (s : State) (c : Entry) (op : Nat) (need : List Word → Bool) (l a : Bool) (f : List Word → State → Ans × State) :
    Ans × State :=
  let local_ := (ringMaster c.iss).isSome
  if !lenOk c.len then (.st stMalformed, s)
  else if s.flag F.UPD_STS_RECOVERY && !recoveryOps.contains op then (.st stState, s)
  else if !need (entryPs c) then (.st stMalformed, s)
  else if l && !local_ then (.st stDenied, s)
  else if a && s.flag F.RDN_CTL_TWIN && s.fld F.RDN_STS_ROLE != 4 then (.st stNotActive, s)
  else if c.w1lo ≠ 0 then (.st stBadParam, s)
  else f (entryPs c) s

/-- One command: Pilot takes the entry, runs it, and posts its response or keeps it waiting (R402 to R407). -/
def State.pilotCmd (s : State) (t : Nat) (c : Entry) (op : Nat) (need : List Word → Bool) (l a : Bool) (f : List Word → State → Ans × State) :
    State :=
  let s := s.at t
  let ws := entryWords c.tag c.len op c.w1lo (entryPs c)
  if !s.pilotTakes c.iss ws then s
  else
    let r := (s.takeEntry c.iss ws).pilotAns c op need l a f
    match r.1 with
    | .done st data => r.2.respond c.iss c.tag op st data
    | .wait w => r.2.modPilot fun p => { p with waiting := p.waiting ++ [{ src := c.iss, tag := c.tag, op := op, what := w, drop := false }] }

/-- Answer a waiting command. -/
def State.answerWaiting (s : State) (w : Waiting) (status : Nat) (data : List Word) : State :=
  let s := s.modPilot fun p => { p with waiting := p.waiting.filter fun x => x != w }
  if w.drop then s else s.respond w.src w.tag w.op status data

/-- Answer every waiting command that f gives an answer for. -/
def State.answerAll (s : State) (f : State → Waiting → Option (Nat × List Word)) : State :=
  s.pilot.waiting.foldl (fun s w => match f s w with
    | some (st, data) => s.answerWaiting w st data
    | none => s) s

/-- The awaited count of HLM_COEF has come (R416). -/
def State.coefAnswer (s : State) : State :=
  s.answerAll fun s w => match w.what with
    | .coef n => if 0 ≤ seqDiff (s.word Reg.HLM_COEFCNT) (nw n) then some (stOk, []) else none
    | _ => none

/-- Automatic rate detection has found a candidate (R435). -/
def State.autobaudAnswer (s : State) : State :=
  s.answerAll fun s w => match w.what with
    | .autobaud n _ => if s.flag (F.CAN_ABCTL_FOUND n) then some (stOk, [nw (s.fld (F.CAN_ABCTL_INDEX n))]) else none
    | _ => none

/-- A journal save has ended, well or not: JOURNAL_SAVE is answered, unless the save was already running when it was taken, so that
the next save is its own (R230). -/
def State.saveAnswer (s : State) (ok : Bool) : State :=
  let s := s.answerAll fun s w => match w.what with
    | .save false => some (if ok then (stOk, [s.word Reg.SXT_LRNSEQ]) else (stRejected, [s.word Reg.SXT_LRNSTS]))
    | _ => none
  s.modPilot fun p => { p with waiting := p.waiting.map fun w => match w.what with
    | .save true => { w with what := .save false }
    | .sleep off true => { w with what := .sleep off false }
    | _ => w }

/-- An update snapshot has brought a commissioned lane into use (Table 17-17). -/
def State.laneAnswer (s : State) : State :=
  s.answerAll fun _ w => match w.what with
    | .lane e => some (stOk, [nw e])
    | _ => none

/-- The register that a REJECTED answer of a boundary command carries, and the data its OK answer carries (Tables 17-2, 17-7, 17-8). -/
def boundaryReject : Nat → Nat
  | 0x0501 => Reg.SXT_DESCERR
  | 0x0505 => Reg.SXT_LRNSTS
  | 0x0602 => Reg.AZM_PLANERR
  | _ => Reg.SYS_EPOCHSTS

/-- At a commit: commands whose boundary has passed are answered (R407). -/
def State.boundaryAnswer (s : State) : State :=
  s.answerAll fun s w => match w.what with
    | .boundary n bad =>
      if s.ep.opn.serial < n then none
      else if bad then some (stRejected, [s.word (boundaryReject w.op)])
      else some (stOk, if w.op = 0x0505 ∨ w.op = 0x0508 then [s.word Reg.SXT_LRNSTS] else [])
    | _ => none

/-- At a boundary: commands of an opcode that the boundary refused are marked. -/
def State.boundaryBad (s : State) (op : Nat) (bad : Bool) : State :=
  s.modPilot fun p => { p with waiting := p.waiting.map fun w => match w.what with
    | .boundary n b => if w.op = op ∧ n = s.ep.opn.serial then { w with what := .boundary n (b || bad) } else w
    | _ => w }

end Sys2Proof.Machine
end

