-- ==== Sys2Proof/Machine/CanBus.lean ====
section
/-! DEFINITION. Reception of CAN frames, bus time and reference messages, and the HVAC link over CAN2 (18_can_fd.md, R61, R62, R320, R321). -/

namespace Sys2Proof.Machine

/-! ## Bus time (R61, R62, R436) -/

/-- BUSn_LOST of controller n. -/
def busLost (n : Nat) : Fld := if n = 0 then F.TIME_PTPSTS_BUS0_LOST else if n = 1 then F.TIME_PTPSTS_BUS1_LOST else F.TIME_PTPSTS_BUS2_LOST

/-- A reference message carries cycle count k and started at Dial sof: targets that name k are converted, targets whose cycle has
been passed over launch late, and waits for the reference end (R61, R163, R436). -/
def State.busReference (s : State) (n k sof : Nat) : State :=
  let s := s.modCan n fun c => { c with cycle := k, refSof := some sof, refAt := s.dial }
  let s := s.convert (3 + n) fun tgt => if tgt / 2 ^ 34 = k then some (sof + tgt % 2 ^ 34) else none
  let s := s.loseTargets fun b tgt a =>
    let d := signed 6 ((tgt / 2 ^ 34 + 64 - k) % 64)
    if b = 3 + n ∧ a = none ∧ d < 0 then some (d * 2 ^ 34 + (tgt % 2 ^ 34 : Nat)) else none
  s.meetAll (fun c a => c == 6 && a % 4 == n) ⟨some (nw sof), false, false⟩

/-- How a bus-time target lies to the present cycle, for the order of late launches. -/
def State.busOrder (s : State) (n tgt : Nat) : Int :=
  signed 6 ((tgt / 2 ^ 34 + 64 - (s.can1 n).cycle % 64) % 64) * 2 ^ 34 + (tgt % 2 ^ 34 : Nat)

/-- BUS_REFERENCE_LOST: three nominal cycles have passed without a reference message (R62). DESIGN CHOICE (log entry 98): before the
first reference message they count from Dial 0. -/
def execBusReferenceLost (t n : Nat) (s : State) : Out :=
  let s := s.at t
  .next (if n < 3 ∧ (s.can1 n).refAt + 3000 * s.fld (F.CAN_TMCTL_TMCYC n) ≤ s.dial then
    let s := s.loseTargets fun b tgt a => if b = 3 + n then some (match a with | some x => (x : Int) - s.dial | none => s.busOrder n tgt) else none
    (s.meetAll (fun c a => c == 6 && a % 4 == n) ⟨none, true, false⟩).raise (busLost n)
  else s)

/-! ## Reception (R424 to R426, R435, R436) -/

/-- Does a frame have the identifier of a register (IDE in [31])? -/
def idMatches (w : Word) (f : CanFrame) : Bool :=
  f.ide == w.getLsbD 31 && (if f.ide then f.id == getBits w 0 29 else f.id % 2048 == getBits w 0 11)

/-- The HVAC status frame (R321). -/
def State.hvacStatus (s : State) (b : Nat) : State :=
  let s := { s with dsp := { s.dsp with hvSt := b % 256, hvRxAt := s.dial } }.setHeld F.DSP_STS_HVAC_LOST false
  if b.testBit 1 then s.raiseEv F.DSP_STS_HVAC_FAULT else s

/-- REC after a frame received without error: one less, and from above 127 a value between 119 and 127, which ISO 11898-1 leaves
open. -/
def State.canRxOk (s : State) (n : Nat) : State :=
  let c := s.can1 n
  if c.rec_ = 0 then s
  else if c.rec_ ≤ 127 then s.canErr n c.tec (c.rec_ - 1)
  else
    let r := s.freshNat
    r.2.canErr n c.tec (119 + r.1 % 9)

/-- CAN_FRAME_RECEIVE: a frame without error ends rate detection, is stored, and serves bus time and the HVAC status. -/
def execCanFrameReceive (t n : Nat) (f : CanFrame) (s : State) : Out :=
  let s := s.at t
  .next (if s.canOn n = false ∨ (f.fdf = true ∧ s.flag (F.CAN_CTL_FDEN n) = false) then s
  else
    let s := s.modCan n fun c => { c with integrating := false }
    let s := (((s.abFound n).canRxOk n).canStore n f).autobaudAnswer
    let s := if n = 2 ∧ idMatches (s.word Reg.DSP_HVSTID) f = true ∧ 0 < f.dlc ∧ f.rtr = false then s.hvacStatus (f.data.getD 0 0) else s
    if idMatches (s.word (Reg.CAN_TMID n)) f = true ∧ 0 < f.dlc ∧ f.rtr = false then
      let k := f.data.getD 0 0 % 64
      (s.busReference n k f.sof).modCan n fun c => { c with lastRx := some k }
    else s)

/-- REFERENCE_MESSAGE_SENT: the reference slot's message has been sent; sof is the Dial of its start of frame (R436 to R438). -/
def execReferenceMessageSent (t n sof : Nat) (s : State) : Out :=
  let s := s.at t
  .next (match (s.can1 n).refSlot with
    | none => s
    | some k =>
      if s.canSends n then
        let s := (s.modCan n fun c => { c with refSlot := none, tmFirst := false, txSof := sof }).canShow n
        ((s.satAdd (F.CAN_TXCNT_SENT n) 1).canErr n ((s.can1 n).tec - 1) (s.can1 n).rec_).busReference n k sof
      else s)

/-! ## HVAC (R320, R321) -/

/-- HVPER in ns. -/
def State.hvper (s : State) : Nat :=
  let p := s.fld F.DSP_HVCFG_HVPER
  1000000 * (if 100 ≤ p ∧ p ≤ 10000 then p else 1000)

/-- Mode and demand of the HVAC frame. -/
def State.hvacMode (s : State) : Nat × Nat :=
  match s.dsp.tmax, s.dsp.tmin with
  | some hi, some lo =>
    let th := s.fldS F.DSP_HVCFG_THEAT
    if s.fldS (F.DSP_COOLCRV_T0 0) ≤ hi then (1, Tab.get (fun _ => 0) s.dsp.auto 0)
    else if lo < th then (2, (min 100 ((th - lo) / 10)).toNat)
    else (3, 0)
  | _, _ => (1, 100)

/-- A 16-bit temperature as two bytes, least significant first; 0x8000 when invalid. -/
def tempBytes (t : Option Int) : List Nat :=
  let v := (t.getD (-32768) % 65536).toNat
  [v % 256, v / 256]

/-- HVAC_FRAME_SEND: HVPER has passed since the last frame; the active unit queues the next (R320). -/
def execHvacFrameSend (t : Nat) (s : State) : Out :=
  let s := s.at t
  let due := match s.dsp.hvSentAt with
    | some a => decide (a + s.hvper ≤ s.dial)
    | none => true
  .next (if s.flag F.DSP_CTL_HVEN && s.activeRole && due then
    let m := s.hvacMode
    let bytes := [m.1, m.2] ++ tempBytes s.dsp.tmax ++ tempBytes s.dsp.tmin ++ [s.dsp.hvSeq % 256, 0]
    let ws := [s.word Reg.DSP_HVID &&& 0x9FFFFFFF#32, nw (8 * 0x1000000), bytesWord (bytes.take 4), bytesWord (bytes.drop 4)]
      ++ List.replicate 14 0
    let s := { s with dsp := { s.dsp with hvMode := m.1, hvDem := m.2, hvSeq := (s.dsp.hvSeq + 1) % 256, hvSentAt := some s.dial } }
    let r := s.canQueue 2 ws
    if r.1 = 1 then r.2.canDrop 2 1 else r.2
  else s)

/-- HVAC_STATUS_RECEIVE: the first data byte of a frame with the identifier of DSP_HVSTID. -/
def execHvacStatusReceive (t b : Nat) (s : State) : Out := .next ((s.at t).hvacStatus b)

/-- HVAC_LOST: no status frame for 3 x HVPER. -/
def execHvacLost (t : Nat) (s : State) : Out :=
  let s := s.at t
  .next (if s.dsp.hvRxAt + 3 * s.hvper ≤ s.dial then s.setHeld F.DSP_STS_HVAC_LOST true else s)

end Sys2Proof.Machine
end

