-- ==== Sys2Proof/Machine/Limits.lean ====
section
/-! DEFINITION. Derating limits, availability, the dispatch record and the cooling outputs, computed at every commit (12_dispatch.md). -/

namespace Sys2Proof.Machine

def State.modDsp (s : State) (f : DspSt → DspSt) : State := { s with dsp := f s.dsp }

/-! ## Temperatures (R305) -/

/-- The greatest and the least of a list. -/
def maxInt : List Int → Option Int
  | [] => none
  | a :: l => some (l.foldl max a)
def minInt : List Int → Option Int
  | [] => none
  | a :: l => some (l.foldl min a)

/-- A word of the Sextant record of position p in a window that is being committed. -/
def sxtRecWord (m : Store) (p i : Nat) : Word := Tab.get zeroWord m (sxtBase + 16 + 5 * p + i)

/-- The positions whose cells are estimated in a window. -/
def State.estimated (s : State) (m : Store) : List Nat := (List.range s.acq.npos).filter fun p => (sxtRecWord m p 1).getLsbD 14

/-- T used of the estimated cells, 0.01 °C. -/
def State.recTemps (s : State) (m : Store) : List Int := (s.estimated m).map fun p => getBitsS (sxtRecWord m p 2) 0 16

/-- The core temperatures of the TILE contexts that have one, 0.01 °C. -/
def State.coreTemps (s : State) : List Int :=
  (allSlots.filter fun k => (s.acqSlot k).ncell != 0 && (s.sxtSide (976 + k)).tOk).map fun k =>
    Fl.toIntAway (Fl.mul hp (s.cxF (976 + k) 0x160) (Fl.ofInt 100))

/-! ## Factors and limits (R306 to R308) -/

/-- num / den held within 0 to 1. -/
def unitRatio (num den : Int) : Rat := max 0 (min 1 (if den = 0 then 0 else mkRat num den.toNat))

/-- Does any cell show a plating risk (R252)? -/
def State.anyPlating (s : State) : Bool :=
  (List.range s.acq.npos).any fun p => (Tab.get (fun _ => AzmPos.reset) s.azm.pos p).risk

/-- fd and fc in units of 1/65,536, quantized down. -/
def State.factors (s : State) (tmax tmin : Option Int) : Nat × Nat :=
  match tmax, tmin with
  | some hi, some lo =>
    let t0 := s.fldS F.DSP_THOT_THOT0
    let t1 := s.fldS F.DSP_THOT_THOT1
    let c0 := s.fldS F.DSP_TCOLD_TCOLD0
    let c1 := s.fldS F.DSP_TCOLD_TCOLD1
    let fhot := unitRatio (t1 - hi) (t1 - t0)
    let fcold := unitRatio (lo - c1) (c0 - c1)
    let fc := min fhot fcold * (if s.anyPlating then mkRat (s.fld F.DSP_CFG_PLATF) 65536 else 1)
    ((fhot * 65536).floor.toNat, (fc * 65536).floor.toNat)
  | _, _ => (0, 0)

/-- The derated limits of one horizon from the record's limits: word sxtBase + 6 + h discharge, sxtBase + 9 + h charge (R307). -/
def State.horizon (s : State) (m : Store) (f : Nat × Nat) (h : Nat) : Int × Int :=
  let d := (Tab.get zeroWord m (sxtBase + 6 + h)).toInt
  let c := (Tab.get zeroWord m (sxtBase + 9 + h)).toInt
  (min ((d * f.1).tdiv 65536) (s.word Reg.DSP_SWLIMD).toNat, max ((c * f.2).tdiv 65536) (-((s.word Reg.DSP_SWLIMC).toNat : Int)))

/-- HOR: 3 is taken as 0. -/
def State.hor (s : State) : Nat := if s.fld F.DSP_CTL_HOR = 3 then 0 else s.fld F.DSP_CTL_HOR

/-- A power in W from a current in mA, VSTRING in mV and RSTR in µΩ (R314): a negative bracket gives 0. -/
def powerW (i vstr rstr : Int) : Word :=
  let br := vstr * 1000000 - i * rstr
  if br < 0 then 0 else iw (clampI (-(2 ^ 31)) (2 ^ 31 - 1) ((i * br).tdiv (10 ^ 12)))

/-- A signed value held within 32 bits as a word. -/
def satI32 (v : Int) : Word := iw (clampI (-(2 ^ 31)) (2 ^ 31 - 1) v)

/-- Is dead reckoning in force? -/
def State.drmOn (s : State) : Bool := s.fld F.LDS_DRM_STATE != 0

/-- AV of Table 12-1. -/
def State.avState (s : State) (d c : Int) : Nat :=
  if s.drmOn || !s.activeRole || !s.helmRun then 0
  else if d = 0 ∧ c = 0 then 1 else if c = 0 then 2 else if d = 0 then 3 else 4

/-- Is the unit a standby: of a twin installation and neither ACTIVE nor TAKING (R316)? -/
def State.standby (s : State) : Bool := s.flag F.RDN_CTL_TWIN && s.fld F.RDN_STS_ROLE != 4 && s.fld F.RDN_STS_ROLE != 3

/-! ## Cooling (R317 to R319) -/

/-- A temperature register's reading, none where it reads 0x8000. -/
def State.reading (s : State) (f : Fld) : Option Int := if s.fld f = 0x8000 then none else some (s.fldS f)

/-- The hottest on-die sensor; none while any of them has no reading. -/
def State.hottestDie (s : State) : Option Int :=
  let l := (List.range 8).map fun i => s.reading (F.THM_DIE_TEMP i)
  if l.any (·.isNone) then none else maxInt (l.filterMap id)

/-- The source temperature of output k. -/
def State.coolSource (s : State) (k : Nat) : Option Int :=
  match s.fld (F.DSP_COOLCFG_SRC k) with
  | 0 => s.dsp.tmax
  | 1 => maxInt s.coreTemps
  | 2 => s.hottestDie
  | _ =>
    let b := s.fld (F.DSP_COOLCFG_BCH k)
    if b < 8 then s.reading (F.THM_TH_TEMP b) else if b < 12 then s.reading (F.THM_TD_TEMP (b - 8)) else none

/-- The computed duty of output k in %. -/
def State.coolDuty (s : State) (k : Nat) : Nat :=
  match s.coolSource k with
  | none => min 100 (s.fld (F.DSP_COOLCFG_FAILDUTY k))
  | some t =>
    let t0 := s.fldS (F.DSP_COOLCRV_T0 k)
    let t1 := s.fldS (F.DSP_COOLCRV_T1 k)
    let lo := min 100 (s.fld (F.DSP_COOLCFG_DMIN k))
    if t ≤ t0 then lo
    else if t1 ≤ t then 100
    else ((lo : Rat) + mkRat ((100 - lo : Nat) * (t - t0)) (t1 - t0).toNat).ceil.toNat

/-- One output at a commit: a rise at once, a fall after 10 s, FAILDUTY at once while the source is invalid. -/
def State.coolStep (s : State) (k : Nat) : State :=
  let d := s.coolDuty k
  let a := Tab.get (fun _ => 0) s.dsp.auto k
  let put := fun (s : State) (v : Nat) (f : Option (Nat × Nat)) => s.modDsp fun x => { x with
    auto := Tab.set (fun _ => 0) x.auto k v, fall := Tab.set (fun _ => none) x.fall k f }
  if (s.coolSource k).isNone || decide (a ≤ d) then put s d none
  else match Tab.get (fun _ => none) s.dsp.fall k with
    | none => put s a (some (s.dial, d))
    | some (t, hi) =>
      let hi := max hi d
      if t + 10000000000 ≤ s.dial then put s hi none else put s a (some (t, hi))

/-- Every cooling output at a commit. -/
def State.coolAll (s : State) : State :=
  ((List.range 4).foldl State.coolStep s).setHeld F.DSP_STS_COOL_SRCERR ((List.range 4).any fun k => (s.coolSource k).isNone)

/-- The effective duty of output k (R319). -/
def State.coolEff (s : State) (k : Nat) : Nat :=
  if s.drmOn || s.pwr.shut then min 100 (s.fld (F.DSP_COOLCFG_FAILDUTY k))
  else max (Tab.get (fun _ => 0) s.dsp.auto k) (min 100 (getBits (s.word Reg.DSP_COOLMAN) (8 * k) 8))

/-- DSP_COOLDUTY. -/
def State.coolWord (s : State) : Word := nw (((List.range 4).map fun k => 256 ^ k * s.coolEff k).sum)

/-! ## The commit (R305 to R316) -/

/-- What the dispatch computations take into use at a commit. -/
structure DspOut where
  words : List (Nat × Word)
  av : Nat
  flags : Nat
  d10 : Int
  c10 : Int
  deriving DecidableEq, Repr

/-- Limits, availability and the words of the dispatch record for a window m that is being committed; conf tells whether a conflict
stands in the epoch. -/
def State.dspCommit (s : State) (m : Store) (stale conf : Bool) : State × DspOut :=
  let ts := s.recTemps m
  let tmax := maxInt (ts ++ s.coreTemps)
  let tmin := minInt ts
  let run := if stale then s.dsp.staleRun + 1 else 0
  let s := s.modDsp fun x => { x with tmax := tmax, tmin := tmin, staleRun := run }
  let s := s.coolAll
  let f := s.factors tmax tmin
  let limStale := decide (max 1 (s.fld F.DSP_CFG_STALEMAX) ≤ run)
  let zero := !s.flag F.DSP_CTL_EN || !s.flag F.SXT_CTL_EN || limStale || s.drmOn
  let lim := fun h => if zero then ((0 : Int), (0 : Int)) else s.horizon m f h
  let now := lim s.hor
  let s := (s.setHeld F.DSP_STS_LIM_ZERO zero).setHeld F.DSP_STS_LIM_STALE limStale
  let s := (s.setWord Reg.DSP_ILIMD (satI32 now.1)).setWord Reg.DSP_ILIMC (satI32 now.2)
  let vstr := ((Tab.get zeroWord m (acqBase + 7)).toNat : Int)
  let rstr := ((s.estimated m).map fun p => getBits (sxtRecWord m p 2) 16 16).sum
  let pow := fun h => (powerW (lim h).1 vstr rstr, powerW (lim h).2 vstr rstr)
  let av := s.avState now.1 now.2
  let flags := 16 * b2n limStale + 8 * b2n zero + 4 * b2n conf + 2 * b2n s.anyPlating + b2n s.standby
  let t16 := fun (t : Option Int) => ((t.getD (-32768)) % 65536).toNat
  let f16 := fun (n : Nat) => min 0xFFFF n
  let b := dspBase
  let ws := [(b + 2, nw (0x20000000 * av + 0x1000000 * flags + s.hor)), (b + 3, satI32 now.1), (b + 4, satI32 now.2),
    (b + 5, (pow 0).1), (b + 6, (pow 1).1), (b + 7, (pow 2).1), (b + 8, (pow 0).2), (b + 9, (pow 1).2), (b + 10, (pow 2).2),
    (b + 11, nw (65536 * f16 f.1 + f16 f.2)), (b + 12, nw (65536 * t16 tmax + t16 tmin)),
    (b + 13, nw (min s.hlm.shortC.floor.toNat 0xFFFFFFFF)), (b + 14, s.coolWord),
    (b + 15, nw (0x1000000 * (s.dsp.hvMode % 256) + 0x10000 * (s.dsp.hvDem % 256) + 0x100 * (s.dsp.hvSt % 256)))]
  (s, { words := ws, av := av, flags := flags, d10 := (lim 1).1, c10 := (lim 1).2 })

/-- Queue the availability frame of a commit on CAN0 (R316). -/
def State.avFrame (s : State) (num : Word) (o : DspOut) : State :=
  if s.flag F.DSP_CTL_AVEN && s.activeRole && num.toNat % max 1 (s.fld F.DSP_CFG_AVDIV) == 0 then
    let w := fun i => s.frontWord (dspBase + i)
    let u16 := fun (n : Nat) => let v := min n 0xFFFF; [v % 256, v / 256]
    let us := getBits (s.frontWord (sxtBase + 2)) 16 16
    let bytes := u16 (num.toNat % 65536) ++ [o.av, o.flags] ++ u16 ((w 3).toInt.natAbs / 100) ++ u16 ((w 4).toInt.natAbs / 100)
      ++ u16 ((w 6).toInt.natAbs / 100) ++ u16 ((w 9).toInt.natAbs / 100) ++ u16 us ++ tempBytes s.dsp.tmax
    let hdr := nw (0x80000000 + 10 * 0x1000000)
    let ws := [s.word Reg.DSP_AVID &&& 0x9FFFFFFF#32, hdr] ++ ((List.range 4).map fun i => bytesWord ((bytes.drop (4 * i)).take 4))
      ++ List.replicate 12 0
    let r := s.canQueue 0 ws
    if r.1 = 1 then (r.2.canDrop 0 1).raiseEv F.DSP_STS_AV_DROP else r.2
  else s

/-! ## Register writes -/

/-- A write of DSP_THOT, DSP_TCOLD, DSP_COOLCRVk: the low threshold must lie below the high one. -/
def State.orderedWrite (s : State) (off : Nat) (v : Word) : State :=
  if getBitsS v 0 16 < getBitsS v 16 16 then s.setWord off v else s

/-- A write of DSP_COOLFREQ. -/
def State.coolfreqWrite (s : State) (v : Word) : State :=
  let f := getBits v 0 16
  if 100 ≤ f ∧ f ≤ 25000 then s.setWord Reg.DSP_COOLFREQ (nw f) else s

end Sys2Proof.Machine
end

