-- ==== Sys2Proof/Machine/Snapshot.lean ====
section
/-! DEFINITION. The close of a snapshot with its consumers, and ACQ_CTL.APPLY (04_acquisition.md, R109, R115). -/

namespace Sys2Proof.Machine

/-- What follows the close of a snapshot in Acquisition: the planner, Sextant, Azimuth, Binnacle and the SNAPCLOSE waits take it
(R115, R162, R199, R246, R278, R339). -/
def State.snapConsumers (s : State) (target seq : Nat) (bt : Bool) : State :=
  ((((s.btLearn target bt).sxtClose target).azmSample target).binSnapshot target).meetAll (fun c _ => c == 3) ⟨some (nw seq), false, false⟩

/-- SNAPSHOT_CLOSE: the snapshot of sequence number seq closes once everything is in or its window end plus 10 µs has come. -/
def execSnapshotClose (t seq : Nat) (s : State) : Out :=
  let s := s.at t
  .next (match s.acq.snaps.find? fun c => c.seq == seq with
    | some c => if s.mayClose c then
        let s := (s.acqClose c).snapConsumers c.target c.seq (!c.quiet)
        s.when (s.sxt.prev == some c.target) State.laneAnswer
      else s
    | none => s)

/-- An accepted APPLY: slots, wire resistances, Sextant contexts and plating trends (R109, R197, R252, R278). -/
def State.applyTopology (s : State) : State := s.applySlots.rwInit.sxtAllocate.azmAllocate

/-- A write of ACQ_CTL: NPOS is stored; with APPLY at 1 the slot values are taken into use, or CFG_ERR is set (R109). -/
def State.acqctlWrite (s : State) (v : Word) : State :=
  let s := s.setFld F.ACQ_CTL_NPOS (getBits v 16 10)
  if !v.getLsbD 0 then s else if s.applyOk then s.applyTopology else s.raiseEv F.ACQ_STS_CFG_ERR

/-- ACQ_APPLY: a write of ACQ_CTL. -/
def execAcqApply (t : Nat) (_m : Master) (v : Word) (s : State) : Out := .next ((s.at t).acqctlWrite v)

end Sys2Proof.Machine
end

