-- ==== Sys2Proof/Machine/Commit.lean ====
section
/-! DEFINITION. Epoch boundaries and commits (01_architecture.md, R20 to R31, R44, R45, R372, R451, R473). -/

namespace Sys2Proof.Machine

/-! ## Overrides (R45, R143, R202, Table 17-3) -/

/-- Does R202 hold for the rates in force? -/
def State.sxtFits (s : State) : Bool :=
  let r := s.sxtRate
  let l := max 1 (min (profLanes s.ep.prof) (s.fld F.SXT_LANES_HEALTHY - s.fld F.THM_TRIM_SXTGATE))
  decide (1 ≤ r ∧ r ≤ 1000 ∧ s.snapRate % r = 0 ∧ s.tupdFor l * r ≤ 1000000)

/-- The state under a profile and a list of overrides. -/
def State.under (s : State) (prof : Nat) (os : List Override) : State := { s with ep := { s.ep with prof := prof, ovr := os } }

/-- The overrides but those of an ID. -/
def without (id : Nat) (os : List Override) : List Override := os.filter fun o => o.id != id

/-- Does an override pass its checks under a profile and the other overrides? -/
def State.ovrOk (s : State) (prof : Nat) (others : List Override) (o : Override) : Bool :=
  let u := s.under prof (o :: without o.id others)
  match o.id with
  | 1 => u.rateFits u.ovs o.value && u.sxtFits
  | 2 => u.sxtFits
  | 3 => decide (o.value ≤ 500)
  | 4 => decide (o.value ≤ 1) && !(o.value == 1 && prof == 1)
  | 5 => decide (o.value ≤ 1)
  | _ => false

/-- The overrides in force at a boundary after those accepted have applied, and those among them that fail. -/
def State.ovrCheck (s : State) (prof : Nat) (os : List Override) : List Override × List Override :=
  os.foldl (fun (a : List Override × List Override) o =>
    if s.ovrOk prof a.1 o then a else (a.1.filter fun x => x != o, a.2 ++ [o])) (os, [])

/-- SET_OVERRIDE commands that wait, in order of acceptance, are marked where their override has failed. -/
def State.ovrMark (s : State) (bads : List Bool) : State :=
  let mine := s.pilot.waiting.filter fun w => w.op == 0x0105 && (match w.what with
    | .boundary n _ => n == s.ep.opn.serial
    | _ => false)
  let hits := (((mine.drop (mine.length - bads.length)).zip bads).filter (·.2)).map (·.1)
  let mark := fun (w : Waiting) => if hits.contains w then { w with what := Await.boundary s.ep.opn.serial true } else w
  s.modPilot fun p => { p with waiting := p.waiting.map mark }

/-! ## The event live bits (R548) -/

/-- Registers with their event live bits: each reads 1 from its event until the first commit after it. -/
def eventLive : List (Nat × Word) :=
  [(Reg.SYS_EPOCHSTS, 0x1554), (Reg.ACQ_STS, 0x15540455), (Reg.ALM_STS, 0x155), (Reg.SXT_STS, 0x55), (Reg.SXT_LRNSTS, 0x544),
    (Reg.AZM_STS, 0x1555), (Reg.BAL_STS, 0x15), (Reg.HLM_STS, 0x45400), (Reg.DSP_STS, 0x1041), (Reg.BIN_STS, 0x154),
    (Reg.RDN_STS, 0x154414), (Reg.HOST_STS, 0x155), (Reg.CAN_STS 0, 0x1550), (Reg.CAN_STS 1, 0x1550), (Reg.CAN_STS 2, 0x1550),
    (Reg.UPD_STS, 0x4), (Reg.LOG_STS, 0x154), (Reg.WEAR_STS, 0x45), (Reg.CLK_STS, 0x1454)]

/-- Every event live bit clears. -/
def State.clearEvents (s : State) : State := eventLive.foldl (fun s r => s.setWord r.1 (s.word r.1 &&& ~~~ r.2)) s

/-! ## The commit (R26 to R31) -/

/-- Does an item lie in a record? -/
def inRecord (base len : Nat) (i : ItemId) : Bool := decide (base ≤ i.1 ∧ i.1 < base + len)

/-- The magnitude of a rational. -/
def ratAbs (r : Rat) : Rat := if r < 0 then -r else r

/-- The Helm and Acquisition string voltages of the epoch differ by more than STRTOL of the Helm value (R128). -/
def State.stringSum (s : State) (e : EpochRec) : Bool :=
  match (s.acq.sumMean.find? fun x => x.1 == e.serial).map (·.2) with
  | some m =>
    let v := s.hlm.vstrC
    if v.ok && v.n != 0 then
      let h := v.sum / (v.n : Rat)
      decide ((s.fld F.ACQ_SUMCFG_STRTOL : Rat) / 1000 * ratAbs h < ratAbs (mkRat m 10000 - h))
    else false
  | none => false

/-- Every item of the acquisition, Sextant and Azimuth records (Tables 4-3, 7-6, 9-3). -/
def allItems : List ItemId :=
  itemAcqCur :: (List.range 48).map itemAcqTile ++ (List.range 640).map itemAcqPos ++ itemSxtString :: (List.range 640).map itemSxtPos
    ++ itemAzmString :: (List.range 640).map itemAzmPos

/-- Items that arrived without a new value (R140, R142). -/
def EpochRec.staleArrived (e : EpochRec) : List ItemId := (e.arrived.filter (·.stale)).map (·.item)

/-- The items that a commit marks STALE: those with a missing contribution or without a new value (R26, R140, R142), and after a takeover from a mirror older than the
twin's last commit every item that has not arrived, since its value comes from that mirror (R29). -/
def State.commitStale (s : State) (e : EpochRec) : List ItemId :=
  let miss := (e.missing ++ e.staleArrived).eraseDups
  if s.rdn.stale then miss ++ allItems.filter fun i => !miss.contains i && e.times i == 0 else miss

/-- Bits and counters that follow the items carried with STALE, the late ones among them, and the conflict of throttling (R26, R201,
R255, R473). -/
def State.commitMarks (s : State) (e : EpochRec) (stale : List ItemId) : State :=
  let miss := e.missing
  let sx := (miss.filter (inRecord sxtBase 3217)).length
  let az := (miss.filter (inRecord azmBase 7065)).length
  let s := s.setHeld F.SYS_EPOCHSTS_STALE (!stale.isEmpty)
  let s := s.setWord Reg.SYS_STALECNT (nw (min ((s.word Reg.SYS_STALECNT).toNat + stale.length) 0xFFFFFFFF))
  let s := s.when e.clamped fun s => s.raiseEv F.SYS_EPOCHSTS_CFG_CLAMP
  let s := s.when (e.snaps == 0 && decide (1000000000 ≤ profSnapRate e.prof * e.period)) fun s => s.raiseEv F.SYS_EPOCHSTS_EMPTY_EPOCH
  let s := s.when (sx != 0) fun s =>
    ((s.raiseEv F.SXT_STS_LATE).setWord Reg.SXT_LATECNT (nw (min ((s.word Reg.SXT_LATECNT).toNat + sx) 0xFFFFFFFF))).pmcEvent 1 0x22 sx
  let s := s.when (az != 0) fun s => s.raiseEv F.AZM_STS_LATE
  let s := s.when (s.stringSum e) fun s => s.raiseEv F.ACQ_STS_STRING_SUM_ERR
  let thr := s.flag F.THM_STS_THROTTLE_L
  let s := s.when thr fun s => s.satAdd F.THM_CNT_THRTL 1
  s.when (thr && sx + az != 0) fun s =>
    ((s.satAdd F.THM_CNT_CONFL 1).raiseEv F.DSP_STS_POLICY_CONFLICT).setFld F.DSP_STS_CONFL_THR 1

/-- The mirror of the commit before has completed, or is abandoned; a mirror of this one starts (R372). Its duration is free within
0.8 ms, or 1.6 ms with one lane. -/
def State.mirrorSend (s : State) (num : Word) : State :=
  let s := match s.rdn.sendAt with
    | some f =>
      if f ≤ s.dial then s else (s.raiseEv F.RDN_STS_MIRSKIP).satAdd F.RDN_CNT_SKIPS 1
    | none => s
  if s.flag F.RDN_CTL_TWIN && s.mayCommit && s.rdn.lanes != 0 then
    let r := s.freshNat
    let us := r.1 % (if s.rdn.lanes = 1 ∨ s.rdn.lanes = 2 then 1601 else 801)
    let s := (r.2.setWord Reg.RDN_MIREPOCH num).modRdn fun x => { x with sendAt := some (r.2.dial + 1000 * us) }
    s.setFld F.RDN_MIRTIME_US us
  else s.modRdn fun x => { x with sendAt := none }

/-- The first commit of a takeover completes it (R374). -/
def State.takeoverDone (s : State) (num : Word) : State :=
  let s := s.modRdn fun r => { r with stale := false }
  if s.fld F.RDN_STS_ROLE = 3 then
    (((s.setRole 4 true).raiseEv F.RDN_STS_TAKEOVER).satAdd F.RDN_CNT_TAKEOVERS 1).logEvent 0x0D01 1 0 [num]
  else s

/-- The first commit after resumption ends the service pause: ACTIVATE is answered, the boot record is written, the confirmation
window opens (R451, R453 to R455). -/
def State.pauseEnd (s : State) (num : Word) : State :=
  match s.upd.pauseAt with
  | none => s
  | some a =>
    let bank := s.fld F.UPD_STS_RUNBANK
    let s : State := { s with upd := { s.upd with pauseAt := none, resumed := false, recWrite := some (bank, 1),
                                                  winEnd := some (s.dial + 600000000000) } }
    let s := (s.setWord Reg.UPD_PAUSE (nw (min ((s.dial - a) / 1000) 0xFFFFFFFF))).setFld F.UPD_WINLEFT_SEC 600
    s.answerAll fun _ w => match w.what with
      | .pause => some (stOk, [num])
      | _ => none

/-- Epoch e commits now. -/
def State.commit (s : State) (e : EpochRec) : State :=
  let s := s.clearEvents
  let miss := e.missing
  let stale := s.commitStale e
  let thr := s.flag F.THM_STS_THROTTLE_L && miss.any fun i => inRecord sxtBase 3217 i || inRecord azmBase 7065 i
  let av := getBits (s.frontWord (dspBase + 2)) 29 3
  let r := s.dspCommit (completeBack s.ep.front s.ep.staleItems stale e) (stale.contains itemSxtString) (s.hlm.conflictC || thr)
  let s := r.1.exchange e stale r.2.words
  let num := s.word Reg.SYS_EPOCHNUM
  let s := ((s.setFld F.SYS_PROFILE_ACTIVE e.prof).commitMarks e stale).sxtStaleMarks stale
  let s := (s.avFrame num r.2).when (r.2.av != av) fun s => s.doorbell 27
  let s := ((s.irq 2).binEpoch).mirrorSend num
  let s := (s.meetAll (fun c _ => c == 2) ⟨some num, false, false⟩).takeoverDone num
  (s.pauseEnd num).boundaryAnswer

/-- Is the commit of the closing epoch due? In a service pause none is. -/
def State.commitDue (s : State) (e : EpochRec) : Bool := !s.updPaused && decide (s.commitAt e ≤ s.dial)

/-- EPOCH_COMMIT: the oldest closing epoch commits once its instant has come. -/
def execEpochCommit (t : Nat) (s : State) : Out :=
  let s := s.at t
  .next (match s.closingHead with
    | some e => if s.commitDue e then s.commit e else s
    | none => s)

/-! ## The boundary (R20, R21, R44, R45, R544) -/

/-- An epoch that will not commit. -/
def State.epochDies (s : State) (serial : Nat) : State :=
  { s with ep := { s.ep with dead := serial :: s.ep.dead, closing := s.ep.closing.filter fun x => x.serial != serial } }

/-- What Helm keeps per epoch moves on: the mean of VSTR, the shortfall and the conflict (R128, R288, R311). -/
def State.hlmEpoch (s : State) : State :=
  let s := s.when s.hlm.conflict fun s => s.setWord Reg.DSP_CONFLCNT (nw (min ((s.word Reg.DSP_CONFLCNT).toNat + 1) 0xFFFFFFFF))
  s.modHlm fun h => { h with
    vstrC := h.vstr, vstr := { VstrAcc.empty with ok := s.carrierRun }
    shortC := h.shortEp, shortEp := 0, conflictC := h.conflict, conflict := false }

/-- Profile and overrides at a boundary (R44, R45): whether the profile has changed, and the state. DESIGN CHOICE (log entry 94):
PROFILE is compared with the profile in force, which ACTIVE shows only from the first commit under it. -/
def State.profileBoundary (s : State) : Bool × State :=
  let new := s.fld F.SYS_PROFILE_PROFILE
  let changed := new != s.ep.prof
  let kept := if s.ep.ovrClear || (changed && !s.flag F.SYS_PROFILE_KEEP_OVR) then [] else s.ep.ovr
  let all := s.ep.ovrNew.foldl (fun os o => without o.id os ++ [o]) kept
  let r := s.ovrCheck new all
  let bads := s.ep.ovrNew.map fun o => r.2.contains o
  let s : State := { s with ep := { s.ep with prof := new, ovr := r.1, ovrNew := [], ovrClear := false } }
  let s := (s.setFlag F.SYS_PROFILE_OVR_PRESENT (!r.1.isEmpty)).setFlag F.HLM_CTL_BWMAX s.maxBw
  let s := s.when (!r.2.isEmpty) fun s => s.raiseEv F.SYS_EPOCHSTS_CFG_REJECT
  (changed, s.ovrMark bads)

/-- The next epoch opens at boundary b and everything accepted before it applies (R17, R20). -/
def State.boundary (s : State) (b : Nat) : State :=
  let e := s.ep.opn
  let old := s.ep.prof
  let s := s.when s.sxtChanges State.sxtCatchUp
  let s : State := { s with ep := { s.ep with opn := { e with serial := e.serial + 1 } } }
  let r := s.profileBoundary
  let s : State := { r.2 with ep := { r.2.ep with opn := e, closing := r.2.ep.closing ++ [e] } }
  let s : State := { s with ep := { s.ep with opn := s.openEpoch b } }
  let s := if e.en && s.mayCommit then s else s.epochDies e.serial
  let s := ((s.acqBoundary e).hlmEpoch).balBoundary
  let p := s.azm.papply
  let s := s.papplyTake
  let s := s.boundaryBad 0x0602 (p && s.word Reg.AZM_PLANERR != 0)
  let d := s.sxt.dapply
  let s := s.dapplyTake
  let s := (s.boundaryBad 0x0501 (d && s.word Reg.SXT_DESCERR != 0)).lrnBoundary
  let s := if r.1 then
      let s := s.sxtModels.sxtActive
      ({ s with sxt := { s.sxt with fresh := true } }).azmProfile old
    else s
  (s.balModeRefresh.refreshCap.sxtSched).sxtEpoch.azmEpoch

/-- The closing boundary of the open epoch. -/
def State.nextBoundary (s : State) : Nat := s.ep.opn.start + s.ep.opn.period

/-- EPOCH_BOUNDARY: Dial reaches the closing boundary of the open epoch. -/
def execEpochBoundary (t : Nat) (s : State) : Out :=
  let s := s.at t
  .next (if s.awake ∧ s.nextBoundary ≤ s.dial then s.boundary s.nextBoundary else s)

/-- A control-path change accepted in the cycle of a boundary, or later, counts as accepted after it: the boundary passes first (R18). -/
def State.passBoundary (s : State) : State :=
  if s.awake ∧ fabCycle s.nextBoundary ≤ fabCycle s.dial then s.boundary s.nextBoundary else s

/-! ## Start-up complete (R446) -/

/-- Is a ring's start-up over: CLOSED, OPEN, DEGRADED, FAULT or LOST? -/
def RingState.settled : RingState → Bool
  | .closed | .openRing | .degraded | .fault | .lost => true
  | .down | .training | .loading | .arming => false

/-- START_UP_COMPLETE: the rings that the first RINGS command enables have settled, or 1 s has passed since it. -/
def execStartUpComplete (t : Nat) (s : State) : Out :=
  let s := s.at t
  .next (match s.upd.ringsAt with
    | some (a, m) =>
      let rings := (onesBelow 4 m).all fun r => (s.ring r).state.settled
      if s.flag F.UPD_STS_STARTED ∨ ¬ (rings = true ∨ a + 1000000000 ≤ s.dial) then s
      else
        let s := s.setFld F.SYS_EPOCHCTL_EN 1
        let s := s.sxtctlWrite (s.word Reg.SXT_CTL ||| 0x80000000#32)
        let s := s.azmctlWrite ((s.word Reg.AZM_CTL ||| 0x80000000#32) &&& 0xFFFFFFFE#32)
        let s := ((s.setFld F.BAL_CTL_EN 1).setFld F.DSP_CTL_EN 1).setFld F.UPD_STS_STARTED 1
        if s.flag F.RDN_CTL_TWIN then s.roleStep else if s.drmOn then s else s.setRole 4 false
    | none => s)

end Sys2Proof.Machine
end

