-- ==== Sys2Proof/Machine/Service.lean ====
section
/-! DEFINITION. The QSPI flash, images and boot record, and the acceptance of ACTIVATE (19_update_boot.md, R439 to R442, R449, R450). -/

namespace Sys2Proof.Machine

/-- Change the update unit's state. -/
def State.modUpd (s : State) (f : UpdSt → UpdSt) : State := { s with upd := f s.upd }

/-! ## The flash and its images (R439 to R441) -/

/-- A byte of the QSPI flash, and n bytes from an address. -/
def State.flashByte (s : State) (a : Nat) : Nat := getBits (Tab.get flashErased s.upd.flash (a / 4)) (8 * (a % 4)) 8
def State.flashBytes (s : State) (a n : Nat) : List Nat := (List.range n).map fun i => s.flashByte (a + i)

/-- The word at a flash address that is a multiple of 4. -/
def State.flashWord (s : State) (a : Nat) : Word := Tab.get flashErased s.upd.flash (a / 4)

/-- Program bytes from an address. -/
def State.flashWrite (s : State) (a : Nat) (bs : List Nat) : State :=
  s.modUpd fun u => { u with flash := bs.zipIdx.foldl (fun m (b, i) =>
    Tab.modify flashErased m ((a + i) / 4) fun w => setBits w (8 * ((a + i) % 4)) 8 b) u.flash }

/-- The largest payload of an image kind (Table 19-1). -/
def maxPayload : Nat → Nat
  | 1 => 512 * 1024 | 2 => 192 * 1024 | 3 => 128 * 1024 | 4 => 128 * 1024 | 5 => 96 * 1024 | _ => 0

/-- Where the image of kind k of bank b lies (R441). -/
def imageAddr (b k : Nat) : Nat := 0x800000 * b + 0x100000 * (k - 1)

/-- Does the image of kind k in bank b verify (R440)? -/
def State.imageOk (s : State) (b k : Nat) : Bool :=
  let a := imageAddr b k
  let len := (s.flashWord (a + 8)).toNat
  let pub := s.flashBytes (a + 80) 97
  s.flashWord a == 0x5358494D#32 && (s.flashWord (a + 4)).toNat == k && decide (len ≤ maxPayload k) &&
    beNat (sha384 pub) == Config.rootHash 0 && decide (s.fld F.SEC_MINVER_MINVER ≤ (s.flashWord (a + 16)).toNat) &&
    sha384 (s.flashBytes (a + 288) len) == s.flashBytes (a + 32) 48 &&
    ecdsaOk pub (sha384 (s.flashBytes a 192)) (s.flashBytes (a + 192) 96)

/-- Do all five images of a bank verify? -/
def State.bankOk (s : State) (b : Nat) : Bool := (List.range 5).all fun i => s.imageOk b (i + 1)

/-- UPD_VER shows the versions of the running bank's images. -/
def State.showVersions (s : State) : State :=
  (List.range 5).foldl (fun s i => s.setWord (Reg.UPD_VER i) (s.flashWord (imageAddr (s.fld F.UPD_STS_RUNBANK) (i + 1) + 12))) s

/-- The lowest SECVER of a bank's images. -/
def State.bankSecver (s : State) (b : Nat) : Nat :=
  (List.range 5).foldl (fun m i => min m (s.flashWord (imageAddr b (i + 1) + 16)).toNat) 31

/-! ## The boot record (R442) -/

/-- SEQ, BANK and PENDING of a copy of the boot record that is valid. -/
def State.recordCopy (s : State) (n : Nat) : Option (Word × Nat × Nat) :=
  let a := 0x1000000 + 0x1000 * n
  if s.flashWord (a + 8) = crc32c (s.flashBytes a 8) then some (s.flashWord a, s.flashByte (a + 4), s.flashByte (a + 5)) else none

/-- The copy with the newer SEQ. -/
def State.newestRecord (s : State) : Option Nat :=
  match s.recordCopy 0, s.recordCopy 1 with
  | some x, some y => some (if 0 < seqDiff y.1 x.1 then 1 else 0)
  | some _, none => some 0
  | none, some _ => some 1
  | none, none => none

/-- BANK and PENDING of the record in force. -/
def State.bootRecord (s : State) : Nat × Nat :=
  match s.newestRecord with
  | some n => match s.recordCopy n with
    | some x => (x.2.1, x.2.2)
    | none => (0, 0)
  | none => (0, 0)

/-- Write a boot record to the copy that does not hold the newer one. -/
def State.writeRecord (s : State) (bank pend : Nat) : State :=
  let n := match s.newestRecord with
    | some n => 1 - n
    | none => 0
  let seq := match s.newestRecord with
    | some k => (match s.recordCopy k with | some x => x.1 + 1 | none => 1)
    | none => 1
  let bs := wordBytes seq ++ [bank, pend, 0, 0]
  s.flashWrite (0x1000000 + 0x1000 * n) (bs ++ wordBytes (crc32c bs))

/-- The bank that staging goes into: the one that is not running; in recovery mode the one the boot record does not name (R448, R458). -/
def State.stageBank (s : State) : Nat :=
  if s.flag F.UPD_STS_RECOVERY then 1 - s.bootRecord.1 else 1 - s.fld F.UPD_STS_RUNBANK

/-! ## The acceptance of ACTIVATE (R417, R449, R450) -/

/-- Binnacle is held in reset, without BIN_ABSENT: its permits end, and its supervision starts anew afterwards. -/
def State.binReset (s : State) : State :=
  (s.modLds fun l => { l with binHeld := true, hbSup := false, hbLast := none, supFrom := l.tick }).setFld F.LDS_TRIP_BPERMIT_L 0

/-- The service pause begins: UPDATE_HOLD, the new bank runs, Binnacle is held, an excitation window ends. -/
def State.pauseStart (s : State) : State :=
  let s := s.modUpd fun u => { u with pauseAt := some s.dial, pauseTick := s.lds.tick, resumed := false }
  let s := (s.setFld F.UPD_STS_HOLD 1).setFld F.UPD_STS_RUNBANK (1 - s.fld F.UPD_STS_RUNBANK)
  let s := (s.setFld F.UPD_STAGED_DONE 0).showVersions
  (s.binReset.excCut).outputsEval

/-- May an ACTIVATE outside recovery mode go on: P + DEADLINE at most 100 ms, and no dead reckoning (R449)? -/
def State.activateMay (s : State) : Bool :=
  decide (10 * s.fld F.SYS_EPOCHCTL_PERIOD + s.fld F.SYS_EPOCHCTL_DEADLINE ≤ 1000) && s.fld F.LDS_DRM_STATE == 0

/-- Has the ramp of ACTIVATE ended: the converter stopped, or the reference at 0 under class HOST with HOSTI 0? -/
def State.rampDone (s : State) : Bool := !s.helmRun || (s.hlm.cls == 2 && s.hlm.hosti == 0 && s.hlm.rs == 0)

/-- An ACTIVATE that waits for the ramp is accepted at its end, after RUN 0. -/
def State.rampCheck (s : State) : State :=
  let ramp := fun (w : Waiting) => match w.what with
    | .ramp _ => true
    | _ => false
  if s.pilot.waiting.any ramp && s.rampDone then
    let s := s.helmStop
    if s.activateMay then
      let turn := fun (w : Waiting) => if ramp w then { w with what := Await.pause } else w
      (s.modPilot fun p => { p with waiting := p.waiting.map turn }).pauseStart
    else s.answerAll fun _ w => if ramp w then some (stState, []) else none
  else s

end Sys2Proof.Machine
end

