-- ==== Sys2Proof/Machine/HelmRun.lean ====
section
/-! DEFINITION. The carrier, Helm's states and its sample: HLM_CTL, valleys and carrier stops (11_helm.md, R58 to R60, R303). -/

namespace Sys2Proof.Machine

/-! ## The carrier (R58 to R60, R281) -/

/-- The carrier stops: every pending Carrier target launches late, valley waits end with C 1, CARRIER_LOST is set; an HLM_RUN
that waits for the carrier answers STATE. DEDUCED (log entry 97): CARRIER_LOST sets at every stop, as R60 says, also with no target
pending. -/
def State.carrierStop (s : State) : State :=
  if !s.carrierRun then s
  else
    let s := (s.setFld F.TIME_PTPSTS_CARRIER_RUN 0).modHlm fun h => { h with vstr := { h.vstr with ok := false } }
    let now := s.shortTime 2
    let s := s.loseTargets fun b tgt a =>
      if b = 2 then some (match a with | some x => (x : Int) - s.dial | none => dist40 tgt now) else none
    let s := (s.meetAll (fun c _ => c == 4) ⟨none, true, false⟩).raise F.TIME_PTPSTS_CARRIER_LOST
    let s := s.answerAll fun _ w => match w.what with
      | .carrier _ => some (stState, [])
      | _ => none
    s.rampCheck

/-- The carrier starts: it counts from 0, a period long before Helm may run. -/
def State.carrierStart (s : State) : State :=
  (s.modHlm fun h => { h with carrierAt := s.dial, cper := s.fld F.HLM_CARRIER_CPER }).setFld F.TIME_PTPSTS_CARRIER_RUN 1

/-- CARRIER_STOP. -/
def execCarrierStop (t : Nat) (s : State) : Out := .next (s.at t).carrierStop

/-- A valley wait counts one valley, and ends at its last (R162, Table 5-5); one armed in the valley's FAB cycle counts from the next, and
one that LT's target has ended in that cycle at its last valley has ended with it (R163). -/
def State.valleyWaits (s : State) : State :=
  let p := fun (c _ : Nat) => c == 4
  let m : Met := ⟨some (nw s.dial), false, false⟩
  allWatches.foldl (fun s w =>
    if s.waits w p then
      match (s.watch w).wait with
      | some y => if y.armed = s.fab + 1 then s else if y.left ≤ 1 then s.meet w m
          else s.updWatch w fun x => { x with wait := some { y with left := y.left - 1 } }
      | none => s
    else match (s.gate w).ended with
      | some (_, y) => if s.justEnded w p && decide (y.left ≤ 1) && y.armed != s.fab + 1 then s.tell w p m else s
      | none => s) s

/-- The sample that a valley starts: coefficients and set-points that have reached Helm, and in RUN the reference chain and the law
(R284 to R302); the channels it converts serve the next sample. -/
def State.helmSample (s : State) (x : HelmIn) : State :=
  let y := s.feedback x
  let s := s.takeCoefs.takeSetpoints y
  let s := if s.helmRun then
      let s := s.helmEntry y
      let r := s.refChain y (s.iexc s.time.mer)
      let s := r.1.controlLaw r.2 (s.legAmps x)
      s.when (r.2.clampActed || r.2.derActed) State.azmClip
    else s
  s.channels x y

/-! ## HLM_CTL (R302, R303, Table 11-4) -/

/-- Does every entry condition of RUN hold: CEN, a completed carrier period, CONV_EN energized, the active role, no dead reckoning? -/
def State.helmMayRun (s : State) : Bool :=
  s.flag F.HLM_CTL_CEN && s.carrierRun && decide (s.hlm.carrierAt + tcNs s.hlm.cper ≤ s.dial) && s.energized 3 && s.activeRole

/-- RUN written 1. -/
def State.helmRunReq (s : State) : State :=
  if s.helmRun then s
  else if s.helmMayRun then ((s.modHlm fun h => { h with entry := true }).setFld F.HLM_CTL_STATE 1).setFld F.HLM_CTL_RUN 1
  else (s.setFld F.HLM_CTL_RUN 0).raiseEv F.HLM_STS_CFG_REJ

/-- A write of HLM_CTL. -/
def State.hlmctlWrite (s : State) (v : Word) : State :=
  let cls := getBits v 20 2
  let s := if cls = 3 then s.raiseEv F.HLM_STS_CLASS_REJ else if cls = s.fld F.HLM_CTL_CLASS then s else s.spWrite 2 (nw cls) false
  let s := s.setFld F.HLM_CTL_VLOOP (getBits v 29 1)
  let was := s.flag F.HLM_CTL_CEN
  let cen := v.getLsbD 30
  let s := s.setFlag F.HLM_CTL_CEN cen
  let s := if cen then (if was then s else s.carrierStart) else s.helmStop.carrierStop
  if v.getLsbD 31 then s.helmRunReq else s.helmStop

/-- HELM_RUN_REQUEST, HELM_STOP, CARRIER_ENABLE and CLASS_SELECT: writes of HLM_CTL. -/
def execHelmRunRequest (t : Nat) (_m : Master) (v : Word) (s : State) : Out := .next ((s.at t).hlmctlWrite v)
def execHelmStop (t : Nat) (_m : Master) (v : Word) (s : State) : Out := .next ((s.at t).hlmctlWrite v)
def execCarrierEnable (t : Nat) (_m : Master) (v : Word) (s : State) : Out := .next ((s.at t).hlmctlWrite v)
def execClassSelect (t : Nat) (_m : Master) (v : Word) (s : State) : Out := .next ((s.at t).hlmctlWrite v)

/-- HLM_RUN waits for the carrier's first period: RUN is then written, and STATE answers a refusal. -/
def State.carrierAnswer (s : State) : State :=
  let due := fun (w : Waiting) => match w.what with
    | .carrier a => decide (a ≤ s.dial)
    | _ => false
  if s.pilot.waiting.any due then
    s.helmRunReq.answerAll fun s w => if due w then some (if s.helmRun then (stOk, [s.word Reg.HLM_CTL]) else (stState, [])) else none
  else s

/-- CARRIER_VALLEY: the master counter is 0. -/
def execCarrierValley (t : Nat) (x : HelmIn) (s : State) : Out :=
  let s := s.at t
  .next (if !s.carrierRun then s
  else
    let v := s.word Reg.TIME_CARRIER + 1
    let s := s.setWord Reg.TIME_CARRIER v
    let s : State := { s with time := { s.time with valleyAt := s.dial } }
    let s := s.modHlm fun h => { h with cper := s.fld F.HLM_CARRIER_CPER }
    let s := s.convert 2 fun tgt => if tgt / 2 ^ 17 % 2 ^ 23 = v.toNat % 2 ^ 23 then some (s.dial + tgt % 2 ^ 17) else none
    (s.valleyWaits.helmSample x).coefAnswer.carrierAnswer.rampCheck)

end Sys2Proof.Machine
end

