-- ==== Sys2Proof/Machine/Rdn.lean ====
section
/-! DEFINITION. Twin operation: RDN_CTL, the referee's grant, the PEER link and its mirrors (15_redundancy.md). -/

namespace Sys2Proof.Machine

/-! ## RDN_CTL and the configuration digest (R365, R370, R372) -/

/-- A write of RDN_CTL by master ID m: HB counts from Pilot only; a change of TWIN while a ring is enabled is ignored. -/
def State.rdnctlWrite (s : State) (m : Nat) (v : Word) : State :=
  let s := s.when (m == 1 && v.getLsbD 0) fun s => s.modLds fun l => { l with rhbAt := some l.tick }
  let s := s.setFld F.RDN_CTL_AUTORUN (getBits v 30 1)
  let twin := v.getLsbD 31
  if twin = s.flag F.RDN_CTL_TWIN then s
  else if s.fld F.TRV_CTL_EN ≠ 0 then s.raiseEv F.RDN_STS_CFG_REJ
  else
    let s := (s.setFlag F.RDN_CTL_TWIN twin).modLds fun l => { l with twin := twin, refHb := l.refHb && twin }
    if s.drmOn then s
    else if twin then
      (s.when s.activeRole State.roleLeave).setRole 0 false |>.roleStep
    else s.setRole (if s.flag F.UPD_STS_STARTED then 4 else 0) false

/-- TWIN_WRITE: a write of RDN_CTL. -/
def execTwinWrite (t : Nat) (m : Master) (v : Word) (s : State) : Out := .next ((s.at t).rdnctlWrite (masterId m) v)

/-- The offsets of a register row. -/
def RegRow.offsets (r : RegRow) : List Nat :=
  (List.range r.n1).flatMap fun i => (List.range r.n2).map fun j => r.base + i * r.s1 + j * r.s2

/-- The RW bits of the Helm items that R372 leaves out of the digest. -/
def digestMask (off : Nat) : Word :=
  if off = Reg.HLM_CTL then 0x7FCFFFFF#32
  else if off = Reg.HLM_HOSTI ∨ off = Reg.HLM_HOSTV ∨ off = Reg.HLM_RCTGT then 0 else 0xFFFFFFFF#32

/-- RDN_DIGEST: the RW fields of the listed registers, the descriptors and map in use, and the tone plans in use. -/
def State.digestWord (s : State) : Word :=
  let rows := (regTableTrv ++ regTableAcq ++ regTableSxt ++ regTableAzm ++ regTableBal ++ regTableHlm ++ regTableDsp).filter fun r =>
    r.rw != 0 && !r.perMaster
  let regs := [s.word Reg.SYS_EPOCHCTL, s.word Reg.SYS_PROFILE &&& 0x107#32] ++
    rows.flatMap fun r => r.offsets.map fun o => s.word o &&& r.rw &&& digestMask o
  let use := Store.getAll zeroWord s.sxt.use 0x20000 0x10A0
  let plans := (List.range 16).flatMap fun n => let p := s.plan n; p.hdr :: p.tones
  Config.digest (regs ++ use ++ plans)

/-! ## The grant (R366, R371, R373) -/

/-- GRANT_RISE: the filtered REF_GRANT goes high; edge is the Dial of its raw rise. -/
def execGrantRise (t edge : Nat) (s : State) : Out :=
  let s := ((s.at t).setFld F.RDN_STS_GRANT_L 1).modRdn fun r => { r with riseAt := edge }
  .next s.roleStep.outputsEval

/-- GRANT_FALL: the filtered REF_GRANT goes low: a unit in HOLDING rides, an active unit leaves its role (R343, R368). -/
def execGrantFall (t : Nat) (s : State) : Out :=
  let s := (s.at t).setFld F.RDN_STS_GRANT_L 0
  .next s.drmStep.roleStep.outputsEval

/-- AUTORUN_HELM_START: 3.0 ms after the rise of REF_GRANT, a takeover whose mirrored RUN was 1 requests Helm RUN (R373). -/
def execAutorunHelmStart (t : Nat) (s : State) : Out :=
  let s := s.at t
  .next (if s.rdn.autorun && s.activeRole && decide (s.rdn.riseAt + 3000000 ≤ s.dial) then
    (s.modRdn fun r => { r with autorun := false }).helmRunReq
    else s)

/-- MIRROR_TIMEOUT: a standby has applied no complete mirror for 100 ms. -/
def execMirrorTimeout (t : Nat) (s : State) : Out :=
  let s := s.at t
  .next (if s.fld F.RDN_STS_ROLE = 2 ∧ s.rdn.mirAt + 100000000 ≤ s.dial then s.roleStep else s)

/-! ## The PEER link -/

/-- The twin's role as the link shows it; a change rings doorbell 26 (Table 16-4). -/
def State.setTwinRole (s : State) (r : Nat) : State :=
  if s.twinRole = r then s else (s.setFld F.RDN_STS_TWINROLE r).doorbell 26

/-- The lanes of the link as a mask: PEER_DEGRADED with one, PEER_DOWN with none. -/
def State.setLanes (s : State) (l : Nat) : State :=
  let s := s.modRdn fun r => { r with lanes := l }
  let s := (s.setHeld F.RDN_STS_PEER_DEGRADED (l == 1 || l == 2)).setHeld F.RDN_STS_PEER_DOWN (l == 0)
  s.when (l == 0) fun s => (s.setTwinRole 7).modRdn fun r => { r with sendAt := none }

/-- PEER_LANE_DOWN and PEER_LANE_UP. -/
def execPeerLaneDown (t lane : Nat) (s : State) : Out :=
  let s := s.at t
  .next (if lane < 2 then s.setLanes (maskBit s.rdn.lanes lane false) else s)
def execPeerLaneUp (t lane : Nat) (s : State) : Out :=
  let s := s.at t
  .next (if lane < 2 ∧ s.flag F.THM_TRIM_PEER = false then s.setLanes (maskBit s.rdn.lanes lane true) else s)

/-- The newer of two epoch numbers. -/
def newerEpoch (a b : Word) : Word := if 0 < seqDiff b a then b else a

/-- PEER_STATUS_RECEIVE: what the link carries every 1 ms. -/
def execPeerStatusReceive (t : Nat) (x : PeerStatus) (s : State) : Out :=
  let s := s.at t
  .next (if !s.flag F.RDN_CTL_TWIN || s.rdn.lanes == 0 then s
    else
      let s := (s.setTwinRole (x.role % 8)).modLds fun l => { l with twinEnerg := x.energ % 16 }
      let s := (s.setWord Reg.RDN_PEERDIGEST x.digest).modRdn fun r => { r with peerSeal := x.sealed }
      let s := (s.setWord Reg.RDN_PEEROFS_LO (iw x.ofs)).setWord Reg.RDN_PEEROFS_HI (iw (x.ofs / 2 ^ 32))
      let s := match x.epoch with
        | some n => s.setWord Reg.RDN_PEEREPOCH (newerEpoch (s.word Reg.RDN_PEEREPOCH) n)
        | none => s
      if s.followsTwin then s.outreqSet (x.outreq % 16) else s.outputsEval)

/-! ## Applying a mirror (R369, R372, Table 15-2) -/

/-- Every word of every record but the dispatch record's. -/
def mirrored (k : Nat) : Bool := isWithin acqBase 1481 k || isWithin sxtBase 3217 k || isWithin azmBase 7065 k
where isWithin (b n k : Nat) : Bool := decide (b ≤ k ∧ k < b + n)

/-- The windows show the mirrored records, and the dispatch record this unit computes (R316). -/
def State.mirrorSpace (s : State) (x : Mirror) : State :=
  let m := applyWords s.ep.front (x.space.filter fun w => mirrored w.1)
  let stale := allItems.filter fun i => (Tab.get zeroWord m i.1).getLsbD i.2
  let r := s.dspCommit m (stale.contains itemSxtString) s.hlm.conflictC
  let m := applyWords m r.2.words
  let m := stampRecord x.epoch [] (getBits (Tab.get zeroWord m (acqBase + 1)) 0 16) m (dspBase, 20)
  let m := Tab.set zeroWord m 0 x.epoch
  { r.1 with ep := { r.1.ep with front := m, frontB := !r.1.ep.frontB, committed := true, staleItems := stale } }

/-- The mirrored contexts: words of Sextant memory below the descriptors. CAPL0 is CAPL where a run has begun since the mirror before
(R223). -/
def State.mirrorContexts (s : State) (x : Mirror) : State :=
  let runs := (List.range s.acq.npos).map fun p => if s.cxBits p 0xD8 30 2 = 2 then some (s.cxLong p 0xE4) else none
  let s := s.modSxt fun y => { y with mem := (x.cxs.filter fun w => decide (w.1 < 0x20000)).foldl (fun m w => Tab.set zeroWord m w.1 w.2) y.mem }
  let s := s.sxtContexts.foldl (fun s c =>
    let run := if s.cxBits c 0xD8 30 2 = 2 then some (s.cxLong c 0xE4) else none
    let begun := decide (c < 976) && run.isSome && run != runs.getD c none
    s.modSide c fun y => { y with
      needFirst := false
      tOk := s.cxLong c 0x140 != 0
      capl0 := if begun then s.cxWord c 0xD0 else y.capl0 }) s
  s.sxtStatus

/-- The readings and the current of a mirrored acquisition record, for Binnacle. -/
def State.mirrorReadings (s : State) : State :=
  let w := fun i => s.frontWord (acqBase + i)
  let cur := if (w 4).getLsbD 31 then some (w 5).toInt else none
  let s : State := { s with acq := { s.acq with curNow := cur, vstring := (w 7).toInt } }
  (List.range s.acq.npos).foldl (fun s p =>
    let v := s.frontWord (acqBase + 200 + 2 * p)
    s.modPosAcc p fun a => { a with reading := if v.getLsbD 31 then some (getBitsS v 0 24) else none }) s

/-- The items of a mirror reach this unit in one cycle. -/
def State.mirrorApply (s : State) (us : Nat) (x : Mirror) : State :=
  let s := (s.mirrorContexts x).mirrorSpace x
  let s : State := { s with alm := { s.alm with
    dmem := (x.dmem.filter fun w => decide (w.1 < 32768)).foldl (fun m w => Tab.set zeroWord m w.1 w.2) s.alm.dmem } }
  let s := (s.setWord (Reg.ALM_EVSTS 0) x.ev0).setWord (Reg.ALM_EVSTS 1) x.ev1
  let s := (x.owSus.filter fun e => decide (e.1 < 48)).foldl (fun s e => s.setFld (F.ACQ_OWSUS_SUSPECT e.1) e.2) s
  let s := (x.owCnf.filter fun e => decide (e.1 < 48)).foldl (fun s e => s.setFld (F.ACQ_OWCNF_CONFIRMED e.1) e.2) s
  let s := s.setHeld F.ACQ_STS_OW_CONFIRMED s.owAny
  let s := (x.balRw.filter fun e => decide (e.1 < 816)).foldl (fun s e => s.setWord (Reg.BAL_RW e.1) e.2) s
  let s : State := { s with bal := { s.bal with lastPh := x.phase } }
  let s := s.modHlm fun h => { h with cls := x.cls % 4, hosti := x.hosti, hostv := x.hostv, rctgt := x.rctgt }
  let s := ((s.setFld F.HLM_CTL_CLASS (x.cls % 4)).setWord Reg.HLM_HOSTI x.hosti).setWord Reg.HLM_HOSTV x.hostv
  let s := (s.setWord Reg.HLM_RCTGT x.rctgt).setWord Reg.SXT_LRNSTS x.lrnsts
  let s := (s.setWord Reg.RDN_MIREPOCH x.epoch).setFld F.RDN_MIRTIME_US (min us 0xFFFF)
  s.modRdn fun r => { r with mir := some x, mirAt := s.dial }

/-- The checks of R372; each difference sets its bit. -/
def State.mirrorChecks (s : State) (x : Mirror) : Bool × State :=
  let sd := s.rdn.peerSeal != s.fld F.LDS_SEAL_SEAL
  let cd := s.word Reg.RDN_PEERDIGEST != s.digestWord || x.npos != s.acq.npos
  let pd := x.pmcrc != s.pmCrc
  let s := s.when sd fun s => s.raiseEv F.RDN_STS_SEAL_DIFF
  let s := s.when cd fun s => s.raiseEv F.RDN_STS_CFG_DIFF
  let s := s.when pd fun s => s.raiseEv F.RDN_STS_PROG_DIFF
  (!(sd || cd || pd), s)

/-- MIRROR_ARRIVAL: a complete mirror with a good CRC, us µs long, reaches a unit in SYNCING or STANDBY. -/
def execMirrorArrival (t us : Nat) (x : Mirror) (s : State) : Out :=
  let s := s.at t
  let role := s.fld F.RDN_STS_ROLE
  .next (if s.flag F.RDN_CTL_TWIN && !s.drmOn && (role == 1 || role == 2) && s.rdn.lanes != 0 then
    let s := (s.mirrorApply us x).mirrorReadings
    let r := s.mirrorChecks x
    let s := r.2
    let s :=
      if r.1 && role == 1 then (s.setRole 2 true).setHeld F.RDN_STS_UNFIT false
      else if !r.1 && role == 2 then (s.setRole 1 false).setHeld F.RDN_STS_UNFIT true
      else s
    (s.binSnapshot s.dial).binEpoch
    else s)

end Sys2Proof.Machine
end

