-- ==== Sys2Proof/Machine/HostRings.lean ====
section
/-! DEFINITION. Host rings, mailboxes, doorbells and UDP sessions as the host acts on them (16_host_interface.md). -/

namespace Sys2Proof.Machine

/-! ## Ring indices (R385, R388, R389) -/

/-- Does a master ID own host rings? -/
def ringHost (m : Nat) : Bool := m == 4 || m == 5

/-- A write of HOST_CMDPI: it never moves back and never makes the ring hold more than 256 entries. -/
def State.cmdpiWrite (s : State) (m : Nat) (v : Word) : State :=
  if !ringHost m then s.hostErr F.HOST_STS_ACCESS_ERR
  else
    let held := ringHeld (getBits v 0 16) (s.ringIdx m Reg.HOST_CMDCI)
    if 256 < held ∨ held < s.cmdHeld m then s.hostErr F.HOST_STS_RING_ERR else s.setRingIdx m Reg.HOST_CMDPI (getBits v 0 16)

/-- A write of HOST_RSPCI. -/
def State.rspciWrite (s : State) (m : Nat) (v : Word) : State :=
  if !ringHost m then s.hostErr F.HOST_STS_ACCESS_ERR
  else if s.rspHeld m < ringHeld (s.ringIdx m Reg.HOST_RSPPI) (getBits v 0 16) then s.hostErr F.HOST_STS_RING_ERR
  else s.setRingIdx m Reg.HOST_RSPCI (getBits v 0 16)

/-- A write of HOST_POSTCI. -/
def State.postciWrite (s : State) (v : Word) : State :=
  let pi := s.fld F.HOST_POSTPI_INDEX
  if ringHeld pi (s.fld F.HOST_POSTCI_INDEX) < ringHeld pi (getBits v 0 16) then s.hostErr F.HOST_STS_RING_ERR
  else s.setFld F.HOST_POSTCI_INDEX (getBits v 0 16)

def execCmdpiWrite (t : Nat) (m : Master) (v : Word) (s : State) : Out := .next ((s.at t).cmdpiWrite (masterId m) v)
def execRspciWrite (t : Nat) (m : Master) (v : Word) (s : State) : Out := .next ((s.at t).rspciWrite (masterId m) v)
def execPostciWrite (t : Nat) (_m : Master) (v : Word) (s : State) : Out := .next ((s.at t).postciWrite v)

/-- A host's four indices return to 0: its entries not yet taken are discarded, and the responses of those taken will be (R388). -/
def State.ringsReset (s : State) (m : Nat) (src : Issuer) : State :=
  let s := (((s.setRingIdx m Reg.HOST_CMDPI 0).setRingIdx m Reg.HOST_CMDCI 0).setRingIdx m Reg.HOST_RSPPI 0).setRingIdx m Reg.HOST_RSPCI 0
  s.modPilot fun p => { p with waiting := p.waiting.map fun w => if w.src = src then { w with drop := true } else w }

/-- The PCIe link is lost (R42, R388, R511). -/
def State.pcieLoss (s : State) : State :=
  (((s.modHost fun h => { h with pcieUp := false }).freeLocks 4).ringsReset 4 .pcie).xStartAll [2, 3]

/-- PCIE_LINK_LOSS. -/
def execPcieLinkLoss (t : Nat) (s : State) : Out := .next (s.at t).pcieLoss

/-- The HSPI port resets (R399, R511). -/
def State.hspiReset (s : State) : State :=
  (((s.freeLocks 5).ringsReset 5 .hspi).setWord (Reg.SYS_AWAIT 4) 1).xStartAll [4, 5]

/-! ## Mailboxes and doorbells (R390 to R395) -/

/-- H2D_MAILBOX_WRITE. -/
def execH2dMailboxWrite (t : Nat) (_m : Master) (n : Nat) (v : Word) (s : State) : Out :=
  let s := s.at t
  .next (if n < 4 then s.h2dWrite n v else s)

/-- The host empties D2Hn: relaying ends, and a word queued for it follows (R390, R392). -/
def State.d2hEmpty (s : State) (n : Nat) : State :=
  if !s.flag (d2hFull n) then s
  else
    let s := (s.setFld (d2hFull n) 0).modHost fun h => { h with d2hRelay := Tab.set (fun _ => false) h.d2hRelay n false }
    match s.host.d2hQueue.find? fun e => e.1 == n with
    | some e => ((s.modHost fun h => { h with d2hQueue := h.d2hQueue.erase e }).d2hWrite n e.2).2
    | none => s

/-- A write of HOST_D2HEMPTY. -/
def State.d2hemptyWrite (s : State) (v : Word) : State := (onesBelow 4 v.toNat).foldl State.d2hEmpty s

def execD2hempty (t : Nat) (_m : Master) (v : Word) (s : State) : Out := .next ((s.at t).d2hemptyWrite v)

/-- An unsolicited response entry with a mailbox word (R392). -/
def State.relayEntry (s : State) (n : Nat) (w : Word) : State :=
  s.rspPut (if s.host.pcieUp then 4 else 5) [8, nw n, w]

/-- MBX_STALL: D2Hn has stayed FULL for 2 ms with a word queued behind it. -/
def execMbxStall (t n : Nat) (s : State) : Out :=
  let s := s.at t
  let q := s.host.d2hQueue.filter fun e => e.1 == n
  .next (if n < 4 ∧ s.flag (d2hFull n) = true ∧ Tab.get (fun _ => 0) s.host.d2hSince n + 2000000 ≤ s.dial ∧ !q.isEmpty then
    let s := (s.doorbell 31).modHost fun h => { h with
      d2hRelay := Tab.set (fun _ => false) h.d2hRelay n true, d2hQueue := h.d2hQueue.filter fun e => e.1 != n }
    q.foldl (fun s e => s.relayEntry n e.2) s
    else s)

/-- Pilot takes the word of H2Dn, n = 0 to 2, and empties it (R390, R392). -/
def State.mailTake (s : State) (n : Nat) : State :=
  if s.flag (h2dFull n) then (s.modPilot fun p => { p with rx := (n, s.word (Reg.HOST_H2DMBX n)) :: p.rx }).h2dEmpty n else s

/-- A write of HOST_DBOUT: bits 30 and 31 stay pending until Pilot acts, which it does at once while it serves commands; at KICK it
takes what its mailboxes hold (R395). -/
def State.dboutWrite (s : State) (v : Word) : State :=
  if s.pilotUp then (s.modHost fun h => { h with dbOut := 0 }).when (v.getLsbD 30) fun s => (List.range 3).foldl State.mailTake s
  else s.modHost fun h => { h with dbOut := h.dbOut ||| (v &&& 0xC0000000#32) }

def execDboutWrite (t : Nat) (_m : Master) (v : Word) (s : State) : Out := .next ((s.at t).dboutWrite v)

/-- DBIN_CLEAR: a write of HOST_DBIN. -/
def execDbinClear (t : Nat) (_m : Master) (v : Word) (s : State) : Out :=
  let s := s.at t
  .next (s.setWord Reg.HOST_DBIN (s.word Reg.HOST_DBIN &&& ~~~ v))

/-! ## UDP sessions (R400, R401) -/

/-- The sessions that are taken: opened, or challenged and not yet confirmed. -/
def State.sessionsOpen (s : State) : Nat := ((List.range 4).filter fun k => (s.session k).open_ && (s.session k).confirmed).length

/-- HOST_UDPSTS.SESSIONS follows. -/
def State.udpShow (s : State) : State := s.setFld F.HOST_UDPSTS_SESSIONS s.sessionsOpen

/-- A datagram is dropped (R401). -/
def State.udpDrop (s : State) : State := (s.hostErr F.HOST_STS_UDP_AUTH).satAdd F.HOST_UDPSTS_DROPS 1

/-- The 32 bytes of a secret key. -/
def State.keyBytes (s : State) (slot : Nat) : List Nat := wordsBytes ((List.range 8).map fun i => Tab.get zeroWord s.upd.keys (8 * slot + i))

/-- Does a slot hold a key? -/
def State.keyLoaded (s : State) (slot : Nat) : Bool := (s.fld F.SEC_STS_LOADED).testBit slot

/-- ASCII bytes. -/
def asciiBytes (t : String) : List Nat := t.toList.map Char.toNat

/-- UDP_OPEN: a client's OPEN with a key slot and a nonce; answered with CHALLENGE, a session ID and a nonce of free values. -/
def execUdpOpen (t port slot : Nat) (nc : List Nat) (s : State) : Out :=
  let s := s.at t
  let free := (List.range 4).find? fun k => !(s.session k).open_
  .next (match free with
    | none => s
    | some k =>
      if !s.pilotUp || decide (8 ≤ slot) || !s.keyLoaded slot || !Tab.get (fun _ => false) s.host.ethUp port ||
          decide (4 ≤ s.sessionsOpen) then s
      else
        let a := s.freshNat
        let b := a.2.freshNat
        let sid := a.1 % 2 ^ 32
        let nd := numBytes b.1 16
        let ncs := (nc ++ List.replicate 16 0).take 16
        let ks := hmac256 (b.2.keyBytes slot) (asciiBytes "SX640" ++ ncs ++ nd)
        let s := b.2.setSession k { Session.closed with
          open_ := true, port := port, slot := slot, sid := sid, nc := ncs, nd := nd, ks := ks, lastAt := b.2.dial }
        s.modHost fun h => { h with udpOut := { port := port, bytes := numBytes sid 4 ++ nd, tag := [] } :: h.udpOut })

/-- The session of an ID on a port. -/
def State.findSession (s : State) (port sid : Nat) : Option Nat :=
  (List.range 4).find? fun k => (s.session k).open_ && (s.session k).sid == sid && (s.session k).port == port

/-- UDP_CONFIRM: HMAC-SHA-256(KS, "OPEN", NC, ND) opens the session. -/
def execUdpConfirm (t port sid : Nat) (mac : List Nat) (s : State) : Out :=
  let s := s.at t
  .next (match s.findSession port sid with
    | none => s.udpDrop
    | some k =>
      let x := s.session k
      if x.confirmed then s
      else if mac = hmac256 x.ks (asciiBytes "OPEN" ++ x.nc ++ x.nd) then
        (s.setSession k { x with confirmed := true, lastAt := s.dial }).udpShow
      else s.udpDrop)

/-- Does a sequence number pass the window of a session? -/
def Session.fresh (x : Session) (seq : Nat) : Bool :=
  decide (x.top < seq) || (decide (x.top ≤ seq + 64) && !x.seen.contains seq && seq != x.top)

/-- UDP_DATAGRAM: a datagram of a session with one ring entry and its tag. -/
def execUdpDatagram (t port sid seq typ : Nat) (ws : List Word) (tag : List Nat) (s : State) : Out :=
  let s := s.at t
  .next (match s.findSession port sid with
    | none => s.udpDrop
    | some k =>
      let x := s.session k
      if !x.confirmed || typ != 1 || tag != hmac256 x.ks (datagramBytes sid seq typ ws) || !x.fresh seq then s.udpDrop
      else
        let top := max x.top seq
        let x := { x with top := top, seen := (seq :: x.seen).filter fun n => decide (top ≤ n + 64), lastAt := s.dial }
        let op := getBits (ws.getD 1 0) 16 16
        let tg := getBits (ws.getD 0 0) 16 16
        if 16 ≤ x.outstanding then
          let s := s.setSession k { x with outstanding := x.outstanding + 1 }
          s.respond (.session k) tg op stBusy []
        else s.setSession k { x with outstanding := x.outstanding + 1, inbox := x.inbox ++ [ws] })

/-- Close a session. -/
def State.closeSession (s : State) (k : Nat) : State :=
  (s.setSession k Session.closed).modPilot (fun p => { p with
    waiting := p.waiting.map fun w => if w.src = .session k then { w with drop := true } else w }) |>.udpShow

/-- UDP_SESSION_TIMEOUT: a session has received no valid datagram for 60 s. -/
def execUdpSessionTimeout (t k : Nat) (s : State) : Out :=
  let s := s.at t
  .next (if k < 4 ∧ (s.session k).open_ = true ∧ (s.session k).lastAt + 60000000000 ≤ s.dial then s.closeSession k else s)

end Sys2Proof.Machine
end

