-- ==== Sys2Proof/Machine/Time.lean ====
section
/-! DEFINITION. Dial, Meridian and its PTP servo, the Calendar and the RTC (02_time.md). Steps of Meridian and the base-time targets of Almanac are in TimeTargets. -/

namespace Sys2Proof.Machine

/-! ## Reading the time registers (R49) -/

/-- TIME_UNCERT: all ones in FREE, |OFFSET| while LOCKED or ACQUIRING, U0 + RVAR * t in HOLDOVER (R55). DESIGN CHOICE (log entry 95):
RVAR * t is truncated to whole ns. -/
def State.uncert (s : State) : Nat :=
  match s.time.servo with
  | .free => 0xFFFFFFFF
  | .holdover => min 0xFFFFFFFF (s.time.u0 + s.fld F.TIME_PTPSTS_RVAR * (s.dial - s.time.holdAt) / 16000000)
  | _ => ((s.word Reg.TIME_OFFSET).toInt).natAbs

/-- Meridian seconds and the ns within the second. -/
def State.merSec (s : State) : Nat := s.merNs / 1000000000
def State.merSub (s : State) : Nat := s.merNs % 1000000000

/-- A latched high word of master ID m, by the offset of the high word (R49). -/
def State.latched (s : State) (m off : Nat) : Word := Tab.get zeroWord s.time.latch (masterKey m off)

/-- Latch a high word for master ID m. -/
def State.setLatch (s : State) (m off : Nat) (v : Word) : State :=
  { s with time := { s.time with latch := Tab.set zeroWord s.time.latch (masterKey m off) v } }

/-- A read of the low word of Dial, Meridian or Calendar by master ID m: the other words are latched (R49). -/
def State.timeLowRead (s : State) (m off : Nat) : Option (Word × State) :=
  if off = Reg.TIME_DIAL_LO then some (nw s.dial, s.setLatch m Reg.TIME_DIAL_HI (nw (s.dial / 2 ^ 32)))
  else if off = Reg.TIME_MER_NS then
    some (nw s.merSub, (s.setLatch m Reg.TIME_MER_SLO (nw s.merSec)).setLatch m Reg.TIME_MER_SHI (nw (s.merSec / 2 ^ 32 % 0x10000)))
  else if off = Reg.TIME_CAL_LO then some (nw s.calMs, s.setLatch m Reg.TIME_CAL_HI (nw (s.calMs / 2 ^ 32 % 0x10000)))
  else none

/-- The words of the time registers that are computed or latched when read. -/
def State.timeRead (s : State) (m off : Nat) : Option Word :=
  if off = Reg.TIME_DIAL_HI ∨ off = Reg.TIME_MER_SLO ∨ off = Reg.TIME_MER_SHI ∨ off = Reg.TIME_CAL_HI then some (s.latched m off)
  else if off = Reg.TIME_UNCERT then some (nw s.uncert)
  else none

/-! ## The servo (R51 to R53, Table 2-3) -/

def Servo.code : Servo → Nat
  | .free => 0 | .acquiring => 1 | .locked => 2 | .holdover => 3

/-- Enter a discipline state: STATE, the live bits and the Calendar source follow it. -/
def State.setServo (s : State) (v : Servo) : State :=
  (({ s with time := { s.time with servo := v } }).setFld F.TIME_PTPSTS_STATE v.code
    |>.setFlag F.TIME_PTPSTS_LOCKED_L (v == Servo.locked)
    |>.setFlag F.TIME_PTPSTS_HOLDOVER_L (v == Servo.holdover)
    |>.setFlag F.TIME_CALCTL_SRC (v == Servo.locked))

/-- Start measuring offsets against the selected master. -/
def State.startAcquire (s : State) : State :=
  { s with time := { s.time with fresh4 := [], within := 0, beyond := 0 } }.setServo .acquiring

/-- HOLDOVER is entered: the rate freezes, U0 is the filtered |offset|, uncertainty starts (R55). -/
def State.enterHoldover (s : State) : State :=
  ({ s with time := { s.time with slew := 0, u0 := ((s.word Reg.TIME_OFFSET).toInt).natAbs, holdAt := s.dial } }.setServo .holdover).raise
    F.TIME_PTPSTS_HOLDOVER

/-- LOCKED is entered: the Calendar source becomes Meridian and CAL_VALID becomes 1 with the RTC's valid flag (R66). -/
def State.enterLocked (s : State) : State :=
  ({ s with time := { s.time with beyond := 0, rtcValid := true, rtcAt := none } }.setServo .locked).raise F.TIME_PTPSTS_LOCKED
    |>.setFld F.TIME_PTPSTS_CAL_VALID 1

/-- FREE is entered: RATE holds its present value. -/
def State.enterFree (s : State) : State := { s with time := { s.time with slew := 0 } }.setServo .free

/-- Is the foreign master qualified at Dial instant now: two Announces within the last four announce intervals (PRESUMED, IEEE
1588-2019, log entry 7)? -/
def Foreign.qualified (f : Foreign) (now : Nat) : Bool :=
  match f.prev with
  | some p => decide (now ≤ p + 4 * f.ann.annIntvl)
  | none => false

/-- Does PORTSEL allow a port? -/
def portAllowed (sel port : Nat) : Bool := if sel = 1 then port == 0 else if sel = 2 then port == 1 else true

/-- Lexicographic order of the compared data sets: is a better (lower) than or equal to b? -/
def dsLe : List Nat → List Nat → Bool
  | [], _ => true
  | _ :: _, [] => false
  | a :: as, b :: bs => if a < b then true else if b < a then false else dsLe as bs

/-- Is candidate a to be preferred over b: better data, or equal data seen on the lower port (R51)? -/
def Foreign.beats (a b : Foreign) : Bool :=
  if a.ann.ds = b.ann.ds then decide (a.ann.port ≤ b.ann.port) else dsLe a.ann.ds b.ann.ds

/-- The best qualified master on the allowed ports (R51). -/
def State.bestMaster (s : State) : Option (Nat × Nat) :=
  let c := s.time.foreign.filter fun f => f.qualified s.dial && portAllowed (s.fld F.TIME_PTPCTL_PORTSEL) f.ann.port
  (c.foldl (fun (b : Option Foreign) f => match b with
    | none => some f
    | some g => if f.beats g then some f else some g) none).map fun f => (f.ann.port, f.ann.gm)

/-- Master selection and the rows of Table 2-3 that it drives. A change of master leaves ACQUIRING or LOCKED first; a qualified
master then selected starts ACQUIRING from HOLDOVER or FREE. -/
def State.reselect (s : State) : State :=
  let old : Option (Nat × Nat) := s.time.sel
  let new : Option (Nat × Nat) := s.bestMaster
  let s := { s with time := { s.time with sel := new } }
  let s := s.setFld F.TIME_PTPSTS_PORT ((new.map (·.1)).getD 0)
  let s : State := if old.isSome ∧ new ≠ old then
      match s.time.servo with
      | .acquiring => if s.time.disciplined then s.enterHoldover else s.enterFree
      | .locked => s.enterHoldover
      | _ => s
    else s
  if new.isSome = true ∧ s.flag F.TIME_PTPCTL_PTPEN = true then
    match s.time.servo with
    | .free => s.startAcquire
    | .holdover => s.startAcquire
    | _ => s
  else s

/-- LOCKTHR in ns: units of 16 ns, 0 taken as 1. -/
def State.lockThr (s : State) : Nat := 16 * max 1 (s.fld F.TIME_STEPTHR_LOCKTHR)

/-- STEPTHR in ns: units of 1 µs, 0 taken as 1. -/
def State.stepThr (s : State) : Nat := 1000 * max 1 (s.fld F.TIME_STEPTHR_STEPTHR)

/-- SLEWMAX in ppm: 0 or over 1,000 taken as 1,000. -/
def State.slewMax (s : State) : Nat :=
  let v := s.fld F.TIME_PTPCTL_SLEWMAX
  if v = 0 ∨ 1000 < v then 1000 else v

/-- The greatest slew in units of 2^-40 that SLEWMAX allows beside the disciplined rate (R53). -/
def State.slewLim (s : State) : Int := (2 ^ 40 * s.slewMax / 1000000 : Nat)

/-- RVAR of the disciplined rates over the last 64 Sync intervals, in units of 2^-40: their standard deviation in 1/16 ppm, saturated.
Which neighbour of the exact value it is, the spec does not state: that is free (R55, log entry 9). -/
def rateDeviation (rates : List Int) : Nat :=
  let n : Int := rates.length
  let sum := rates.foldl (· + ·) 0
  -- n^2 times the variance; one unit of 1/16 ppm is 2^36 / 10^6
  let v := n * (rates.map fun r => r * r).foldl (· + ·) 0 - sum * sum
  let d := if n = 0 then 0 else Nat.sqrt ((v * 10 ^ 12).toNat / (n.toNat * n.toNat * 2 ^ 72))
  let exact := decide (((d * d * n.toNat * n.toNat * 2 ^ 72 : Nat) : Int) = v * 10 ^ 12)
  min 255 (if exact || !Config.rvarUp rates then d else d + 1)

/-- Twice the median of four offsets: the sum of the middle two. -/
def median4x2 (a b c d : Int) : Int := a + b + c + d - max (max a b) (max c d) - min (min a b) (min c d)

/-- The servo's discipline after a Sync: RATE follows the servo's law, which the spec leaves open; the slew stays within
SLEWMAX of the disciplined rate (R53). -/
def State.discipline (s : State) (ofs : Int) : State :=
  let os := ofs :: s.time.offsets
  let rate := Config.disciplinedRate os
  let lim := s.slewLim
  let s := { s with time := { s.time with offsets := os, disciplined := true, rates := (rate.toInt :: s.time.rates).take 64,
                                          slew := clampI (-lim) lim (Config.slew os) } }
  (s.setWord Reg.TIME_RATE rate).setWord Reg.TIME_OFFSET (iw (clampI (-(2 ^ 31 - 1)) (2 ^ 31 - 1) (Config.filteredOffset os)))
    |>.setFld F.TIME_PTPSTS_RVAR (rateDeviation s.time.rates)

/-- Does a Sync in ACQUIRING meet the step row: four offsets measured, their median beyond STEPTHR, NOSTEP 0 (R52, R54)? -/
def State.stepDue (s : State) : Option Int :=
  match s.time.fresh4 with
  | [a, b, c, d] =>
    if ¬ s.flag F.TIME_PTPCTL_NOSTEP ∧ 2 * s.stepThr < (median4x2 a b c d).natAbs then some (median4x2 a b c d) else none
  | _ => none

/-- The lock row of ACQUIRING: 16 consecutive Syncs within LOCKTHR. -/
def State.countWithin (s : State) (ofs : Int) : State :=
  let n := if ofs.natAbs ≤ s.lockThr then s.time.within + 1 else 0
  let s := { s with time := { s.time with within := n } }
  if 16 ≤ n then s.enterLocked else s

/-- The unlock row of LOCKED: 16 consecutive Syncs beyond LOCKTHR. -/
def State.countOver (s : State) (ofs : Int) : State :=
  let n := if s.lockThr < ofs.natAbs then s.time.beyond + 1 else 0
  let s := { s with time := { s.time with beyond := n } }
  if 16 ≤ n then s.startAcquire else s

/-- Meridian steps by minus half of m2 ns (R54); Calendar may fall with it (R65). -/
def State.stepMeridian (s : State) (port : Nat) (m2 : Int) : State :=
  let st := (-m2).tdiv 2
  let s := { s with time := { s.time with mer := ((s.time.mer : Int) - m2 * 2 ^ 39).toNat, calFloor := 0, fresh4 := [], within := 0 } }
  (s.raise F.TIME_PTPSTS_STEPPED).logEvent 0x0201 1 (nw port) [iw st, iw (st / 2 ^ 32)]

/-! ## Meanings -/

/-- Does a PTP message lie inside the support of Table 2-2? -/
def ptpSupported (domain : Nat) (m : PtpMsg) : Bool :=
  m.layer2 && m.multicast && m.domain == domain &&
  match m.kind with
  | .sync | .pdelayReq => decide (62500000 ≤ m.interval ∧ m.interval ≤ 1000000000)
  | .followUp | .announce | .pdelayResp | .pdelayFollowUp => true
  | .delayReq | .delayResp | .management | .signaling => false

/-- Take a PTP message: one outside the support is rejected and counted, without further effect (R50). -/
def State.ptpTake (s : State) (msg : PtpMsg) (f : State → State) : State :=
  if ptpSupported (s.fld F.TIME_PTPCTL_DOMAIN) msg then f s else s.satAdd F.TIME_PTPSTS_DROPCNT 1

/-- PTP_MESSAGE_RECEIVE: a message outside the support is rejected and counted (R50). -/
def execPtpMessageReceive (t : Nat) (msg : PtpMsg) (s : State) : Out :=
  let s := s.at t
  .next (s.ptpTake msg id)

/-- Put an Announce into the foreign-master list. -/
def addForeign (t : Nat) (a : Announce) : List Foreign → List Foreign
  | [] => [{ ann := a, last := t, prev := none, lastSync := t }]
  | f :: fs => if f.ann.port = a.port ∧ f.ann.gm = a.gm then { f with ann := a, last := t, prev := some f.last } :: fs
      else f :: addForeign t a fs

/-- PTP_ANNOUNCE_RECEIVE: qualification, selection and the UTC offset of the selected master (R51, R52). -/
def execPtpAnnounceReceive (t : Nat) (a : Announce) (s : State) : Out :=
  .next ((s.at t).ptpTake a.msg fun s =>
    let s := { s with time := { s.time with foreign := addForeign s.dial a s.time.foreign } }.reselect
    match a.utcOfs with
    | some u => if s.time.sel = some (a.port, a.gm) then s.setFld F.TIME_CALCTL_UTCOFS u else s
    | none => s)

/-- PDELAY_REQ_RECEIVE: answered while the port is up (R50). -/
def execPdelayReqReceive (t : Nat) (msg : PtpMsg) (seq : Nat) (s : State) : Out :=
  .next ((s.at t).ptpTake msg fun s =>
    if Tab.get (fun _ => false) s.host.ethUp msg.port then
      { s with time := { s.time with pdelayResp := (msg.port, seq) :: s.time.pdelayResp } }
    else s)

/-- Has the selected master been lost: no Announce for three announce intervals or no Sync for three Sync intervals (R52)? -/
def State.masterLost (s : State) (f : Foreign) : Bool :=
  decide (f.last + 3 * f.ann.annIntvl ≤ s.dial) || decide (f.lastSync + 3 * f.ann.syncIntvl ≤ s.dial)

/-- MASTER_LOST: the selected master's timeout has run out at t (R52). -/
def execMasterLost (t : Nat) (s : State) : Out :=
  let s := s.at t
  let keep := s.time.foreign.filter fun f => !(s.time.sel == some (f.ann.port, f.ann.gm) && s.masterLost f)
  .next { s with time := { s.time with foreign := keep } }.reselect

/-- A write of TIME_PTPCTL: PTPEN 0 sends the servo to FREE, PTPEN 1 lets a selected master start it (R52); a lower SLEWMAX bounds
the slew at once (R53). -/
def State.ptpctlWrite (s : State) (v : Word) : State :=
  let s := s.setWord Reg.TIME_PTPCTL (v &&& 0x03FFFF35#32)
  let s : State := { s with time := { s.time with slew := clampI (-s.slewLim) s.slewLim s.time.slew } }
  if v.getLsbD 0 then s.reselect else s.enterFree

/-- A write of TIME_RATE: only in FREE with PTPEN 0. -/
def State.rateWrite (s : State) (v : Word) : State :=
  if s.time.servo = .free ∧ ¬ s.flag F.TIME_PTPCTL_PTPEN then s.setWord Reg.TIME_RATE v else s

/-- PTP_DISABLE: PTPEN written 0. -/
def execPtpDisable (t : Nat) (_m : Master) (s : State) : Out :=
  let s := s.at t
  .next (s.ptpctlWrite (s.word Reg.TIME_PTPCTL &&& 0xFFFFFFFE#32))

/-- HOLD_EXCEEDED: TIME_UNCERT above TIME_UNCERTLIM in HOLDOVER sets the sticky bit; the state stays (R56). -/
def execHoldExceeded (t : Nat) (s : State) : Out :=
  let s := s.at t
  .next (if s.time.servo = .holdover ∧ (s.word Reg.TIME_UNCERTLIM).toNat < s.uncert then s.raise F.TIME_PTPSTS_HOLD_EXCEEDED else s)

/-- Is a rewrite of the RTC due: LOCKED, and the first since then or a second after the last (R63)? -/
def State.rtcDue (s : State) : Bool :=
  s.time.servo == .locked && (match s.time.rtcAt with
    | some a => decide (a + 1000000000 ≤ s.dial)
    | none => true)

/-- RTC_REWRITE: once per second while LOCKED the RTC takes Calendar and the measured trim (R63, R64). -/
def execRtcRewrite (t : Nat) (trim : Int) (s : State) : Out :=
  let s := s.at t
  .next (if s.rtcDue then
    ({ s with time := { s.time with
        rtc := (s.merNs - s.fld F.TIME_CALCTL_UTCOFS * 1000000000) * 1000000, rtcRun := true, rtcAt := some s.dial } }).setFldS
      F.TIME_CALCTL_TRIM (clampI (-255) 255 trim)
    else s)

/-- Milliseconds of an hour, and the last of them: a leap second stands at its end. -/
def hourMs : Nat := 3600000

/-- LEAP_SECOND: an inserted second comes as Calendar reaches the end of an hour and holds it at hh:59:59.999 for one second; a
deleted one comes at hh:59:59.000 and is skipped (R65). At any other reading of Calendar no leap second is due. -/
def execLeapSecond (t : Nat) (ins : Bool) (s : State) : Out :=
  let s := s.at t
  let c := s.calMs
  .next (if ins then
      if c % hourMs = hourMs - 1 ∨ (c % hourMs = 0 ∧ c ≠ 0) then
        ({ s with time := { s.time with
            calFloor := (c + 1) / hourMs * hourMs - 1, rtc := s.time.rtc - 1000000000000000 } }).setFld F.TIME_CALCTL_UTCOFS
          (s.fld F.TIME_CALCTL_UTCOFS + 1)
      else s
    else if c % hourMs = hourMs - 1000 ∨ c % hourMs = hourMs - 1001 then
      ({ s with time := { s.time with rtc := s.time.rtc + 1000000000000000 } }).setFld F.TIME_CALCTL_UTCOFS
        (s.fld F.TIME_CALCTL_UTCOFS + 0xFFFF)
    else s)

/-- The RTC is lost: RTC_LOST is set, CAL_VALID and the valid flag clear, and Calendar counts from 0 (R66). -/
def State.rtcLost (s : State) : State :=
  ({ s with time := { s.time with rtc := 0, rtcRun := true, rtcValid := false, calFloor := 0 } }).raise F.TIME_PTPSTS_RTC_LOST
    |>.setFld F.TIME_PTPSTS_CAL_VALID 0

/-- VBAT_LOW: VBAT falls below 1.6 V (R66). -/
def execVbatLow (t : Nat) (s : State) : Out := .next (s.at t).rtcLost

end Sys2Proof.Machine
end

