-- ==== Sys2Proof/Machine/Bus.lean ====
section
/-! DEFINITION. Register and window accesses over the buses: BAR0, BAR2 and HSPI frames (00_scope.md, 16_host_interface.md, 24_address_map.md). -/

namespace Sys2Proof.Machine

/-! ## Secret keys (R459) -/

/-- A write of SEC_KCTL by master ID m: WRITE stores SEC_KDATA into the slot, LOCK locks it, and SEC_KDATA clears. -/
def State.kctlWrite (s : State) (m : Nat) (v : Word) : State :=
  let slot := getBits v 0 4
  let s1 := s.when (v.getLsbD 8 && ringHost m && decide (slot ≤ 8) && !(s.fld F.SEC_STS_LOCKED).testBit slot) fun s =>
    let ks := (List.range 8).map fun i => s.word (Reg.SEC_KDATA i)
    let s : State := { s with upd := { s.upd with keys := Store.putAll zeroWord s.upd.keys (8 * slot) ks } }
    s.setFld F.SEC_STS_LOADED (s.fld F.SEC_STS_LOADED ||| 2 ^ slot)
  let s2 := s1.when (v.getLsbD 9 && decide (slot ≤ 8)) fun s => s.setFld F.SEC_STS_LOCKED (s.fld F.SEC_STS_LOCKED ||| 2 ^ slot)
  (List.range 8).foldl (fun s i => s.setWord (Reg.SEC_KDATA i) 0) s2

/-- KCTL_WRITE: a write of SEC_KCTL with WRITE at 1. -/
def execKctlWrite (t : Nat) (m : Master) (v : Word) (s : State) : Out := .next ((s.at t).kctlWrite (masterId m) (v ||| 0x100#32))

/-- KCTL_LOCK: a write of SEC_KCTL with LOCK at 1. -/
def execKctlLock (t : Nat) (m : Master) (v : Word) (s : State) : Out := .next ((s.at t).kctlWrite (masterId m) (v ||| 0x200#32))

/-- UPD_WINLEFT: seconds left in the confirmation window, rounded up. -/
def State.winLeft (s : State) : Word :=
  match s.upd.winEnd with
  | some e => nw ((e - s.dial + 999999999) / 1000000000)
  | none => 0

/-! ## Register reads (R11, R49, R538, R539) -/

/-- The word a read of a register by master ID m returns, and the effect of the read. -/
def State.regRead (s : State) (m off : Nat) (r : RegRow) : Word × State :=
  let key := if r.perMaster then masterKey m off else off
  match off / 0x1000 with
  | 0x0 =>
    if 0x100 ≤ off ∧ off < 0x140 then s.lockRead m ((off - 0x100) / 4)
    else if off = Reg.SYS_LOCKSTAT then (s.lockStat, s)
    else (s.word key, s)
  | 0x2 =>
    match s.timeLowRead m off with
    | some x => x
    | none => ((s.timeRead m off).getD (s.word key), s)
  | 0x3 => if off = Reg.HOST_DBOUT then (s.host.dbOut, s) else (s.word key, s)
  | 0x4 =>
    if 0x4020 ≤ off ∧ off < 0x4040 then (s.word key, s.setWord (Reg.TRV_PORTSTS ((off - 0x4020) / 4)) (s.word key &&& 0xF0000000#32))
    else (s.word key, s)
  | 0x8 =>
    if 0x8100 ≤ off ∧ off < 0x8200 then (s.watchWord ((off - 0x8100) / 4), s)
    else if off = Reg.ALM_PMCRC then (s.pmCrc, s)
    else (s.word key, s)
  | 0xD => let s := s.suspAll; (s.word key, s)
  | 0xF => if off = Reg.DSP_COOLDUTY then (s.coolWord, s) else (s.word key, s)
  | 0x12 =>
    if off = Reg.RDN_DIGEST then (s.digestWord, s)
    else if off = Reg.RDN_PEEROFS_LO then (s.word key, s.setLatch m Reg.RDN_PEEROFS_HI (s.word Reg.RDN_PEEROFS_HI))
    else if off = Reg.RDN_PEEROFS_HI then (s.latched m off, s)
    else (s.word key, s)
  | 0x13 =>
    match canOff off with
    | some x =>
      if 0x100 ≤ x.2 ∧ x.2 < 0x150 then
        (s.rxWord x.1 (getBits (s.word (masterKey m (Reg.CAN_RXSEL x.1))) 0 6) ((x.2 - 0x100) / 4), s)
      else if x.2 = 0x1A0 then (setBits (s.word key) 16 6 (s.can1 x.1).cycle, s)
      else (s.word key, s)
    | none => (s.word key, s)
  | 0x14 => if off = Reg.UPD_WINLEFT then (s.winLeft, s) else (s.word key, s)
  | 0x16 =>
    if off = Reg.LOG_OLDEST then (nw s.log.oldest, s) else if off = Reg.LOG_NEWEST then (nw s.log.newest, s) else (s.word key, s)
  | 0x17 => if off = Reg.WEAR_DATA then s.wearDataRead m else (s.word key, s)
  | 0x18 =>
    let u := (off - 0x18100) / 0x100
    let j := (off - 0x18100) % 0x100 / 4
    if 0x18100 ≤ off ∧ j < 18 then
      let s := s.pmcSync
      let ws := s.pmcWords u
      if j % 2 = 0 then (ws.getD j 0, s.setLatch m (off + 4) (ws.getD (j + 1) 0)) else (s.latched m off, s)
    else (s.word key, s)
  | 0x19 => if 0x19010 ≤ off then (0, s) else (s.word key, s)
  | _ => (s.word key, s)

/-- The byte of a window access: Almanac data or Sextant memory, by the master's SXT_WIN (R541). -/
def State.winRead (s : State) (m a : Nat) : Word :=
  let win := s.word (masterKey m Reg.SXT_WIN)
  if !win.getLsbD 31 then s.dmRead (a / 4)
  else if getBits win 0 3 < 5 then s.sxtWinRead (0x20000 * getBits win 0 3 + a)
  else 0

def State.winWrite (s : State) (m a : Nat) (v : Word) : State :=
  let win := s.word (masterKey m Reg.SXT_WIN)
  if !win.getLsbD 31 then s.dmAccess { idx := a / 4, who := 64, st := some v, rd := m }
  else if getBits win 0 3 < 5 then s.sxtWinWrite (0x20000 * getBits win 0 3 + a) v
  else s

/-- A 32-bit read of BAR0 offset off by master ID m (R537 to R541). -/
def State.busRead (s : State) (m off : Nat) : Word × State :=
  if off < 0x20000 then
    match regRow off with
    | some r => s.regRead m off r
    | none => (0, s)
  else if off < 0x40000 then (Tab.get zeroWord s.alm.pmem (s.pmIndex ((off - 0x20000) / 4)), s)
  else if off < 0x60000 then (s.winRead m (off - 0x40000), s)
  else (0, s)

/-! ## Register writes (R11, R12, R477) -/

/-- The live bits of a register that show held conditions: their sticky bits do not clear while they are 1 (R477). -/
def heldMask (off : Nat) : Word :=
  if off = Reg.SYS_EPOCHSTS then 0x1
  else if off = Reg.ACQ_STS then 0x15100
  else if off = Reg.SXT_STS then 0x1500
  else if off = Reg.SXT_LRNSTS then 0x11
  else if off = Reg.AZM_STS then 0x4000
  else if off = Reg.BAL_STS then 0x540
  else if off = Reg.HLM_STS then 0x10155
  else if off = Reg.DSP_STS then 0x514
  else if off = Reg.BIN_STS then 0x1
  else if off = Reg.RDN_STS then 0x1140
  else if off = Reg.UPD_STS then 0x150
  else if off = Reg.WEAR_STS then 0x10
  else if off = Reg.CLK_STS then 0x100
  else if off = Reg.THM_STS then 0x15
  else match canOff off with
    | some x => if x.2 = 0x004 then 0x5 else 0
    | none => 0

/-- A write by the access codes of the register index. -/
def State.plainWrite (s : State) (m off : Nat) (r : RegRow) (v : Word) : State :=
  let key := if r.perMaster then masterKey m off else off
  s.setWord key (accessWrite r.rw r.w1c (heldMask off) (s.setNow key) (s.word key) v)

/-- Store a register that keeps its value when the field is out of range. -/
def State.rangeWrite (s : State) (m off : Nat) (r : RegRow) (v : Word) (ok : Bool) : State := if ok then s.plainWrite m off r v else s

/-- A write of DSP_STS: clearing POLICY_CONFLICT clears the bits that say what conflicted (Table 12-4). -/
def State.dspstsWrite (s : State) (m off : Nat) (r : RegRow) (v : Word) : State :=
  let s := s.plainWrite m off r v
  s.when (v.getLsbD 1) fun s => (s.setFld F.DSP_STS_CONFL_THR 0).setFld F.DSP_STS_CONFL_DER 0

/-- A write in a CAN controller's registers. -/
def State.canWrite (s : State) (m off : Nat) (r : RegRow) (v : Word) : State :=
  match canOff off with
  | none => s
  | some x =>
    let n := x.1
    if x.2 = 0x000 then s.canCtlWrite n v
    else if x.2 = 0x008 ∨ x.2 = 0x00C ∨ x.2 = 0x010 ∨ (0x180 ≤ x.2 ∧ x.2 < 0x1A0) then s.canTimingWrite n x.2 v
    else if x.2 = 0x0D0 then s.txgo n m v
    else if x.2 = 0x0D4 then s.txcan n m v (s.flag (F.CAN_TQSTS_BEGUN n))
    else if x.2 = 0x0F0 then s.canRelease n (getBits v 0 6)
    else if x.2 = 0x160 then s.abctlWrite n v
    else if x.2 = 0x1A0 then s.tmctlWrite n v
    else s.plainWrite m off r v

/-- A write in the HLM registers. -/
def State.hlmWrite (s : State) (m off : Nat) (r : RegRow) (v : Word) : State :=
  if off = Reg.HLM_CTL then s.hlmctlWrite v
  else if off = Reg.HLM_CARRIER then s.carrierWrite v
  else if off = Reg.HLM_LEGS then s.legsWrite v
  else if Reg.HLM_KP ≤ off ∧ off < Reg.HLM_KP + 32 then s.coefWrite ((off - Reg.HLM_KP) / 4) v
  else match setpointOf off with
    | some n => s.spWrite n v false
    | none => s.rangeWrite m off r v (off != Reg.HLM_DLIM || decide (getBits v 0 16 < getBits v 16 16))

/-- A write in the HOST registers. -/
def State.hostWrite (s : State) (m off : Nat) (r : RegRow) (v : Word) : State :=
  if 0x3010 ≤ off ∧ off < 0x3020 then s.h2dWrite ((off - 0x3010) / 4) v
  else if off = Reg.HOST_D2HEMPTY then s.d2hemptyWrite v
  else if off = Reg.HOST_DBOUT then s.dboutWrite v
  else if off = Reg.HOST_CMDPI then s.cmdpiWrite m v
  else if off = Reg.HOST_RSPCI then s.rspciWrite m v
  else if off = Reg.HOST_POSTCI then s.postciWrite v
  else s.plainWrite m off r v

/-- A write in the THM registers: values out of range leave the register unchanged; clearing VALID of THM_SDLOG ends the record. -/
def State.thmWrite (s : State) (m off : Nat) (r : RegRow) (v : Word) : State :=
  if off = Reg.THM_CTL then
    (s.pmcSync.rangeWrite m off r v
      (decide (105 ≤ getBits v 24 8 ∧ getBits v 24 8 ≤ 120 ∧ 2 ≤ getBits v 8 5 ∧ getBits v 8 5 ≤ 16))).sxtSched
  else if off = Reg.THM_TDCFG ∨ off = Reg.THM_THCFG then s.rangeWrite m off r v (getBits v 0 16 != 0)
  else s.plainWrite m off r v

/-- A write of an occupied register by master ID m: the access codes, the register's own effects and its range checks. -/
def State.regWrite (s : State) (m off : Nat) (r : RegRow) (v : Word) : State :=
  match off / 0x1000 with
  | 0x0 =>
    if off = Reg.SYS_EPOCHCTL then s.epochctlWrite v
    else if off = Reg.SYS_PROFILE then s.profileWrite v
    else if off = Reg.SYS_LOCKREL then s.lockRelWrite m v
    else s.plainWrite m off r v
  | 0x1 =>
    if off = Reg.CLK_XFB then s.xfbWrite v
    else if off = Reg.CLK_XEVMODE then s.xevmodeWrite v 0
    else if off = Reg.CLK_XRESYNC then s.xresyncWrite v
    else s.plainWrite m off r v
  | 0x2 =>
    if off = Reg.TIME_RATE then s.rateWrite v
    else if off = Reg.TIME_PTPCTL then s.ptpctlWrite v
    else s.plainWrite m off r v
  | 0x3 => s.hostWrite m off r v
  | 0x4 =>
    if off = Reg.TRV_CTL then s.trvctlWrite v
    else if off = Reg.TRV_SLOTCFG then s.slotcfgWrite v
    else s.plainWrite m off r v
  | 0x6 =>
    if off = Reg.ACQ_CTL then s.acqctlWrite v
    else if off = Reg.ACQ_MODCFG then s.modcfgWrite v
    else if off = Reg.ACQ_OWCMD then s.owcmdWrite v
    else s.plainWrite m off r v
  | 0x8 =>
    if off = Reg.ALM_CTL then s.almctlWrite v
    else if 0x8048 ≤ off ∧ off < 0x8058 then s.evRegWrite off v
    else s.plainWrite m off r v
  | 0xA =>
    if off = Reg.SXT_CTL then s.sxtctlWrite v
    else if off = Reg.SXT_LRNCTL then s.lrnctlWrite v
    else if off = Reg.SXT_LRNCFG then s.rangeWrite m off r v (decide (1 ≤ getBits v 0 5 ∧ getBits v 0 5 ≤ 24))
    else if 0xA060 ≤ off ∧ off < 0xA070 then s.rangeWrite m off r v (decide (500 ≤ getBits v 0 10 ∧ getBits v 0 10 ≤ 1000))
    else s.plainWrite m off r v
  | 0xC => if off = Reg.AZM_CTL then s.azmctlWrite v else if off = Reg.AZM_PTHR then s.azmPthrWrite v else s.plainWrite m off r v
  | 0xD =>
    if off = Reg.BAL_CTL then s.balctlWrite v
    else if off = Reg.BAL_TDER then s.balTderWrite v
    else s.suspAll.plainWrite m off r v
  | 0xE => s.hlmWrite m off r v
  | 0xF =>
    if off = Reg.DSP_THOT ∨ off = Reg.DSP_TCOLD ∨ (0xF050 ≤ off ∧ off < 0xF060) then s.orderedWrite off v
    else if off = Reg.DSP_COOLFREQ then s.coolfreqWrite v
    else if off = Reg.DSP_STS then s.dspstsWrite m off r v
    else s.plainWrite m off r v
  | 0x10 => s
  | 0x11 => if off = Reg.BIN_OUTREQ then s.outreqWrite v else s.plainWrite m off r v
  | 0x12 => if off = Reg.RDN_CTL then s.rdnctlWrite m v else s.plainWrite m off r v
  | 0x13 => s.canWrite m off r v
  | 0x15 => s.thmWrite m off r v
  | 0x16 =>
    if off = Reg.LOG_RDIDX then s.rdidxWrite m v
    else if off = Reg.LOG_WINDOW then s.rangeWrite m off r v (decide (1 ≤ getBits v 0 12 ∧ getBits v 0 12 ≤ 3600))
    else s.plainWrite m off r v
  | 0x18 =>
    if off = Reg.PMC_CTL then s.pmcctlWrite v
    else if 0x18100 ≤ off ∧ 0x50 ≤ (off - 0x18100) % 0x100 ∧ (off - 0x18100) % 0x100 < 0x70 then
      s.pmcSelWrite ((off - 0x18100) / 0x100) (((off - 0x18100) % 0x100 - 0x50) / 4) v
    else s.plainWrite m off r v
  | 0x19 =>
    if off = Reg.SEC_KCTL then s.kctlWrite m v
    else if 0x19010 ≤ off ∧ off < 0x19030 then s.setWord off v
    else s.plainWrite m off r v
  | _ => s.plainWrite m off r v

/-- Does a write of a BAR0 offset reach a data-path table: epoch settings, the profile, Sextant's, Azimuth's and the balancing
registers, a window (R17)? -/
def dataPath (off : Nat) : Bool :=
  off == Reg.SYS_EPOCHCTL || off == Reg.SYS_PROFILE || [0xA, 0xC, 0xD].contains (off / 0x1000) || decide (0x40000 ≤ off ∧ off < 0x60000)

/-- A 32-bit write of BAR0 offset off by master ID m (R537 to R541); one that reaches a data-path table at or after a boundary that is
due finds that boundary passed (R18). -/
def State.busWrite (s : State) (m off : Nat) (v : Word) : State :=
  let s := s.when (dataPath off) State.passBoundary
  if off < 0x20000 then
    match regRow off with
    | some r => s.regWrite m off r v
    | none => s.hostErr F.HOST_STS_ACCESS_ERR
  else if off < 0x40000 then s.pmWrite (s.pmIndex ((off - 0x20000) / 4)) v
  else if off < 0x60000 then s.winWrite m (off - 0x40000) v
  else s.hostErr F.HOST_STS_ACCESS_ERR

/-! ## BAR2 (R379, R381, Table 16-2) -/

/-- A 32-bit read of BAR2 offset off by host master ID m. -/
def State.bar2Read (s : State) (m off : Nat) : Word :=
  if off < 0x10000 then s.spaceRead (s.word (Reg.SYS_AWAIT (m - 1))) (off / 4)
  else if 0x100000 ≤ off ∧ off < 0x110000 then Tab.get zeroWord s.host.cmdRing (masterKey m ((off - 0x100000) / 4))
  else if 0x110000 ≤ off ∧ off < 0x120000 then Tab.get zeroWord s.host.rspRing (masterKey m ((off - 0x110000) / 4))
  else if 0x120000 ≤ off ∧ off < 0x121000 then Tab.get zeroWord s.host.postRing ((off - 0x120000) / 4)
  else 0

/-- A 32-bit write of BAR2 offset off: the command ring takes it, an RO area refuses it (R381). -/
def State.bar2Write (s : State) (m off : Nat) (v : Word) : State :=
  if 0x100000 ≤ off ∧ off < 0x110000 then
    s.modHost fun h => { h with cmdRing := Tab.set zeroWord h.cmdRing (masterKey m ((off - 0x100000) / 4)) v }
  else if off < 0x10000 ∨ (0x110000 ≤ off ∧ off < 0x121000) then s.hostErr F.HOST_STS_ACCESS_ERR
  else s

/-- A write access as a bus carries it: one that is not 4 aligned bytes is ignored and sets ACCESS_ERR (R14). -/
def State.writeAccess (s : State) (m : Nat) (sp : Space) (off bytes : Nat) (v : Word) : State :=
  if bytes ≠ 4 ∨ off % 4 ≠ 0 then s.hostErr F.HOST_STS_ACCESS_ERR
  else match sp with
    | .bar0 => s.busWrite m off v
    | .bar2 => s.bar2Write m off v

/-- A read access as a bus carries it (R14). -/
def State.readAccess (s : State) (m : Nat) (sp : Space) (off bytes : Nat) : Word × State :=
  if bytes ≠ 4 ∨ off % 4 ≠ 0 then (0, s.hostErr F.HOST_STS_ACCESS_ERR)
  else match sp with
    | .bar0 => s.busRead m off
    | .bar2 => (s.bar2Read m off, s)

/-- Have a host's requests been cut off: its crossing towards PERI is TIMEDOUT (R512)? -/
def State.requestsCut (s : State) (m : Nat) : Bool := (m == 4 && s.xState 2 == 3) || (m == 5 && s.xState 4 == 3)

/-- Have its completions been cut off, so that a read gives 0? -/
def State.answersCut (s : State) (m : Nat) : Bool := s.requestsCut m || (m == 4 && s.xState 3 == 3) || (m == 5 && s.xState 5 == 3)

/-- The crossings of a host master's requests and completions (Table 22-3). -/
def hostXing (m : Nat) : Option (Nat × Nat) := if m = 4 then some (2, 3) else if m = 5 then some (4, 5) else none

/-- Do a host's requests wait on the handshake of their crossing? -/
def State.requestsWait (s : State) (m : Nat) : Bool := (hostXing m).any fun x => s.xState x.1 == 2

/-- The words of a request of a host master cross into PERI; other masters' requests use no crossing. -/
def State.reqSend (s : State) (m : Nat) (ws : List XWord) : State :=
  match hostXing m with
  | some x => s.xSend x.1 ws
  | none => s

/-- The word that answers a read goes to its master, over the completions' crossing for a host; a read that has been cut off gives 0. -/
def State.complete (s : State) (m : Nat) (w : Word) : State :=
  match hostXing m with
  | some x => (s.xSend x.2 [.data w]).answer m (if s.answersCut m then 0 else w)
  | none => s.answer m w

/-- The length of the first piece of a memory read: pieces are aligned to 256 bytes (R380). -/
def pieceLen (off bytes : Nat) : Nat := min bytes (256 - off % 256)

/-- The first piece of a memory read of BAR2 is served, wholly from the window that is the front one now (R32, R380); the rest of the
request is kept, and the read that asks for it continues the request. -/
def State.memRead (s : State) (m off bytes : Nat) : List Word × State :=
  let n := pieceLen off bytes
  let ws := (List.range (n / 4)).map fun i => s.bar2Read m (off + 4 * i)
  let old := if s.host.readNext = some (off, bytes) then s.host.readData else []
  (ws, s.modHost fun h => { h with
    readData := old ++ ws, readNext := if n < bytes then some (off + n, bytes - n) else none })

/-- A read of any length: in BAR2 a memory read of whole words, served in pieces; everything else is a register access (R14, R380). -/
def State.readRequest (s : State) (m : Nat) (sp : Space) (off bytes : Nat) : Word × State :=
  if sp = .bar2 ∧ off % 4 = 0 ∧ bytes % 4 = 0 ∧ 0 < bytes then
    let r := s.memRead m off bytes
    (r.1.headD 0, r.2)
  else s.readAccess m sp off bytes

/-- REGISTER_WRITE. A device that a reset holds, or that is off, takes no access; over a TIMEDOUT crossing a write has no effect, and
during a handshake it waits (R510, R512). -/
def execRegisterWrite (t : Nat) (m : Master) (sp : Space) (off bytes : Nat) (v : Word) (s : State) : Out :=
  let s := s.at t
  let mid := masterId m
  .next (if !s.awake then s
    else
      let go := !s.requestsCut mid && !s.requestsWait mid
      let s := s.reqSend mid [.write sp off bytes v]
      if go then s.writeAccess mid sp off bytes v else s)

/-- TIME_LOW_WORD_READ: the read of a register or window over a bus, with the effects of reading it: the low word of a multi-word value
latches its other words for the master (R49), a misaligned or narrower access reads 0 and sets ACCESS_ERR (R14), a long read of BAR2
is served in pieces (R380). A read that waited at a timeout gives 0 (R512). -/
def execTimeLowWordRead (t : Nat) (m : Master) (r : BusRead) (s : State) : Out :=
  let s := s.at t
  let mid := masterId m
  let cut := s.requestsCut mid
  let wait := s.requestsWait mid
  let s := s.reqSend mid [.read r.sp r.off r.bytes]
  .next (if cut then s.answer mid 0
    else if wait then s
    else
      let a := s.readRequest mid r.sp r.off r.bytes
      a.2.complete mid a.1)

/-! ## The control path (R17, R18) -/

/-- EPOCHCTL_WRITE: a write of SYS_EPOCHCTL. -/
def execEpochctlWrite (t : Nat) (_m : Master) (v : Word) (s : State) : Out := .next ((s.at t).passBoundary.epochctlWrite v)

/-- PROFILE_SELECTION: a write of SYS_PROFILE. -/
def execProfileSelection (t : Nat) (_m : Master) (v : Word) (s : State) : Out := .next ((s.at t).passBoundary.profileWrite v)

/-- DAPPLY: SXT_CTL written with its other fields as they stand. -/
def execDapply (t : Nat) (_m : Master) (s : State) : Out :=
  let s := (s.at t).passBoundary
  .next (s.sxtctlWrite (s.word Reg.SXT_CTL ||| 1))

/-- PAPPLY: the plans and calibration sets are asked for at the next boundary. -/
def execPapply (t : Nat) (_m : Master) (s : State) : Out := .next ((s.at t).passBoundary.modAzm fun a => { a with papply := true })

/-- RESTORE, NOMINAL and EXPORT act at the next boundary. -/
def execLearnRestore (t : Nat) (_m : Master) (s : State) : Out := .next ((s.at t).passBoundary.lrnctlBit 1)
def execLearnNominal (t : Nat) (_m : Master) (s : State) : Out := .next ((s.at t).passBoundary.lrnctlBit 2)
def execLearnExport (t : Nat) (_m : Master) (s : State) : Out := .next ((s.at t).passBoundary.lrnctlBit 3)

/-- SEXTANT_WINDOW_WRITE: a write at byte offset a of the window, under the master's SXT_WIN; pages 5 to 7 ignore it. -/
def execSextantWindowWrite (t : Nat) (m : Master) (a : Nat) (v : Word) (s : State) : Out :=
  let s := (s.at t).passBoundary
  let win := s.word (masterKey (masterId m) Reg.SXT_WIN)
  .next (if win.getLsbD 31 = true ∧ getBits win 0 3 < 5 ∧ a < 0x20000 then s.sxtWinWrite (0x20000 * getBits win 0 3 + a) v else s)

/-- PORTSTS_READ: the counters of the port clear (R11). -/
def execPortstsRead (t : Nat) (m : Master) (p : Nat) (s : State) : Out :=
  let s := s.at t
  .next (if p < 8 then
    let r := s.busRead (masterId m) (Reg.TRV_PORTSTS p)
    r.2.answer (masterId m) r.1
    else s)

/-! ## HSPI (R397 to R399, R542) -/

/-- The space and byte address of a frame's address word. -/
def hspiSpace (addr : Nat) : Space × Nat := if addr.testBit 31 then (.bar2, addr % 2 ^ 24) else (.bar0, addr % 2 ^ 31)

/-- Is a BAR0 frame of len words refused: its address or its last word lies above 0xF_FFFF (R542)? -/
def hspiRefused (addr len : Nat) : Bool :=
  match hspiSpace addr with
  | (.bar0, a) => decide (0xFFFFF < a ∨ 0x100000 < a + 4 * len)
  | _ => false

/-- Read n words at ascending addresses. -/
def State.burstRead (s : State) (m : Nat) (sp : Space) (off : Nat) : Nat → List Word × State
  | 0 => ([], s)
  | n + 1 =>
    let r := s.readAccess m sp off 4
    let q := State.burstRead r.2 m sp (off + 4) n
    (r.1 :: q.1, q.2)

/-- Write words at ascending addresses. -/
def State.burstWrite (s : State) (m : Nat) (sp : Space) (off : Nat) : List Word → State
  | [] => s
  | w :: ws => State.burstWrite (s.writeAccess m sp off 4 w) m sp (off + 4) ws

/-- The end of an HSPI frame: its result, and whether it was the reset enable. -/
def State.hspiEnd (s : State) (armed : Bool) : State := s.modHost fun h => { h with hspiArmed := armed }

/-- A read frame that has reached PERI: its words, and they cross back. -/
def State.hspiRead (s : State) (addr len : Nat) : State :=
  let a := hspiSpace addr
  if hspiRefused addr len then (s.modHost fun h => { h with hspiResult := 3, hspiData := [] }).hspiEnd false
  else
    let r := s.burstRead 5 a.1 a.2 (min len 64)
    ((r.2.modHost fun h => { h with hspiResult := 0, hspiData := r.1 }).hspiEnd false).xSend 5 (r.1.map .data)

/-- A write frame that has reached PERI without error. -/
def State.hspiWrite (s : State) (addr len : Nat) (ws : List Word) : State :=
  let a := hspiSpace addr
  if hspiRefused addr len then (s.modHost fun h => { h with hspiResult := 3 }).hspiEnd false
  else ((s.burstWrite 5 a.1 a.2 ws).modHost fun h => { h with hspiResult := 0 }).hspiEnd false

/-- HSPI_READ_FRAME. -/
def execHspiReadFrame (t addr len : Nat) (s : State) : Out :=
  let s := s.at t
  .next (if !s.awake then s
    else
      let go := !s.requestsCut 5 && !s.requestsWait 5
      let s := s.reqSend 5 [.frame addr len false]
      if go then s.hspiRead addr len else s)

/-- HSPI_WRITE_FRAME: ws are the data words that the frame carried, crcOk tells whether the CRC matches. -/
def execHspiWriteFrame (t addr len : Nat) (ws : List Word) (crcOk : Bool) (s : State) : Out :=
  let s := s.at t
  let bad := fun (n : Nat) => ((s.hostErr F.HOST_STS_HSPI_ERR).modHost fun h => { h with hspiResult := n }).hspiEnd false
  .next (if !s.awake || s.requestsCut 5 then s.when s.awake fun s => s.reqSend 5 (.frame addr len true :: ws.map .data)
    else if ws.length ≠ len ∨ len = 0 ∨ 64 < len then bad 2
    else if !crcOk then bad 1
    else
      let go := !s.requestsWait 5
      let s := s.reqSend 5 (.frame addr len true :: ws.map .data)
      if go then s.hspiWrite addr len ws else s)

/-- What a host's words do that have waited and now reach PERI, in their order: requests are served, and a frame takes the data words
that follow it. -/
def State.hostTake (s : State) (m : Nat) : List XWord → State
  | [] => s
  | .write sp off bytes v :: ws => State.hostTake (s.writeAccess m sp off bytes v) m ws
  | .read sp off bytes :: ws =>
    let r := s.readRequest m sp off bytes
    State.hostTake (r.2.complete m r.1) m ws
  | .frame addr len wr :: ws =>
    State.hostTake (if wr then s.hspiWrite addr len ((ws.take len).filterMap fun x => match x with
        | .data w => some w
        | _ => none) else s.hspiRead addr len) m ws
  | .data _ :: ws => State.hostTake s m ws

/-- HANDSHAKE_PHASE: when the last phase is complete, the words that waited cross, and PERI acts on what a host has sent (R510). -/
def execHandshakePhase (t n u : Nat) (s : State) : Out :=
  let s := s.at t
  let was := s.xState n
  let s := s.xPhaseStep n u
  .next (if was = 2 ∧ s.xState n ≠ 2 then
    let r := s.xDrain n
    if n = 2 then r.2.hostTake 4 r.1 else if n = 4 then r.2.hostTake 5 r.1 else r.2
    else s)

/-- HSPI_STATUS_FRAME: one data word with the enabled causes and the last result. -/
def execHspiStatusFrame (t : Nat) (s : State) : Out :=
  let s := s.at t
  .next (if !s.awake then s
    else
      let w := ((s.word Reg.HOST_IRQSTS &&& s.word Reg.HOST_IRQEN) &&& 0xFF#32) ||| nw (0x100 * s.host.hspiResult)
      (s.modHost fun h => { h with hspiData := [w] }).hspiEnd false)

/-- HSPI_RESET_ENABLE: a 0x66 frame. -/
def execHspiResetEnable (t : Nat) (s : State) : Out :=
  let s := s.at t
  .next (if s.awake then s.hspiEnd true else s)

/-- HSPI_PORT_RESET: a 0x99 frame; it resets the port directly after a 0x66 frame. -/
def execHspiPortReset (t : Nat) (s : State) : Out :=
  let s := s.at t
  .next (if !s.awake then s else if s.host.hspiArmed then s.hspiReset.hspiEnd false else s)

end Sys2Proof.Machine
end

