-- ==== Sys2Proof/Machine/Images.lean ====
section
/-! DEFINITION. The bits that a register's field table names: a command that carries an image of the register answers BAD_PARAM for a 1 in any other bit (R402, R404, R410). -/

namespace Sys2Proof.Machine

/-- Named bits of a register, by the base of its row; a register that is not listed names all its bits. -/
def imageTable : List (Nat × Word) :=
  [(0x40, 0x80FF03FF), (0x80, 0x80070107), (0x140, 0xFFFF), (0x1010, 0x3FFFFF), (0x1014, 0x3FFFFF), (0x1018, 0x3FFFFF), 
   (0x2020, 0x3FFFF35), (0x2048, 0xFF81FFFF), (0x3008, 0x7F), (0x3030, 0xF), (0x3050, 0xFFFF), (0x305C, 0xFFFF), 
   (0x3064, 0xFFFF), (0x4000, 0xF), (0x4040, 0xFF00FF), (0x6000, 0x3FF0001), (0x6010, 0x77), (0x6014, 0x7FF), 
   (0x6020, 0xFFFFFF), (0x6024, 0xFFFFFF), (0x6030, 0xFFFFFF), (0x6034, 0xFF00FF), (0x603C, 0xFFFF0FFF), (0x6040, 0x3F0001), 
   (0x6100, 0xFBFF0000), (0x8000, 0x80000003), (0x8004, 0x3FFFF), (0x8008, 0x1FFFF), (0x8014, 0x1), (0xA000, 0x8000000B), 
   (0xA010, 0x80000007), (0xA020, 0xFF), (0xA040, 0x8000000F), (0xA048, 0x1F), (0xA060, 0x3FF), (0xC000, 0x80000F35), 
   (0xC014, 0xFF00FFFF), (0xC018, 0xFFFF), (0xC020, 0x7FFF7FFF), (0xC024, 0x7FFF), (0xC100, 0xEFFFFFFF), 
   (0xC120, 0xFFFE3FFF), (0xD000, 0x80000011), (0xD018, 0xFFFF), (0xE000, 0xE3310000), (0xE008, 0xFF003FFF), 
   (0xE00C, 0xF00000FF), (0xE014, 0x3FFFFF), (0xE01C, 0xFFFF), (0xE028, 0xFFFF), (0xE030, 0xC000FFFF), (0xE0B0, 0xFFF), 
   (0xF000, 0xF0000003), (0xF02C, 0x9FFFFFFF), (0xF030, 0xFFFF), (0xF040, 0xFE00FFFF), (0xF068, 0x9FFFFFFF), 
   (0xF06C, 0x9FFFFFFF), (0x11000, 0xF), (0x12000, 0xC0000001), (0x13000, 0xF8000001), (0x13008, 0xFFFF7F7F), 
   (0x1300C, 0x1F1F0F0F), (0x13010, 0x80007F7F), (0x130D0, 0x1), (0x130F4, 0x3F), (0x13160, 0xC007FF03), 
   (0x13180, 0xFFFF7F7F), (0x131A0, 0x803FFFFF), (0x131A4, 0x9FFFFFFF), (0x13200, 0xDFFFFFFF), (0x13204, 0xDFFFFFFF), 
   (0x15000, 0xFF011F03), (0x15060, 0xFFFF), (0x15064, 0xFFFF), (0x1600C, 0xFFF), (0x17004, 0x700FFFF), 
   (0x18150, 0x800000FF), (0x19030, 0x30F)]

/-- The bits that the field table of the register at BAR0 offset off names. -/
def imageMask (off : Nat) : Word :=
  match regRow off with
  | some r => match imageTable.find? fun e => e.1 == r.base with
    | some e => e.2
    | none => 0xFFFFFFFF
  | none => 0

end Sys2Proof.Machine
end

