-- ==== Sys2Proof/Machine/PilotReg.lean ====
section
/-! DEFINITION. How Pilot's commands read and write registers (R404 to R407, R411). -/

namespace Sys2Proof.Machine

/-- Does an image lie in the range that the register's table states, so that the register would take it (R406)? -/
def accepts (off : Nat) (v : Word) : Bool :=
  let lo := getBits v 0 16
  let hi := getBits v 16 16
  let sLo := getBitsS v 0 16
  let sHi := getBitsS v 16 16
  if off = Reg.SYS_EPOCHCTL then decide (1 ≤ getBits v 0 10 ∧ getBits v 0 10 ≤ 1000)
  else if off = Reg.TIME_STEPTHR then decide (getBits v 0 20 ≤ 1000000)
  else if off = Reg.TRV_SLOTCFG then decide (16 ≤ getBits v 16 8 ∧ 8 ≤ getBits v 0 8 ∧ getBits v 0 8 ≤ 64)
  else if off = Reg.SXT_LRNCFG then decide (1 ≤ getBits v 0 5 ∧ getBits v 0 5 ≤ 24)
  else if 0xA060 ≤ off ∧ off < 0xA070 then decide (500 ≤ lo ∧ lo ≤ 1000)
  else if off = Reg.BAL_TDER then decide (sLo < sHi)
  else if off = Reg.HLM_CARRIER then decide (1000 ≤ getBits v 0 14 ∧ getBits v 0 14 ≤ 10000)
  else if off = Reg.HLM_LEGS then decide (1 ≤ popCount 8 (getBits v 0 8) ∧ popCount 8 (getBits v 0 8) ≤ 6)
  else if off = Reg.HLM_DLIM then decide (lo < hi)
  else if off = Reg.DSP_THOT ∨ off = Reg.DSP_TCOLD ∨ (0xF050 ≤ off ∧ off < 0xF060) then decide (sLo < sHi)
  else if off = Reg.DSP_COOLFREQ then decide (100 ≤ lo ∧ lo ≤ 25000)
  else if off = Reg.LOG_WINDOW then decide (1 ≤ getBits v 0 12 ∧ getBits v 0 12 ≤ 3600)
  else if off = Reg.THM_CTL then
    decide (105 ≤ getBits v 24 8 ∧ getBits v 24 8 ≤ 120 ∧ 2 ≤ getBits v 8 5 ∧ getBits v 8 5 ≤ 16)
  else match canOff off with
    | some x => if x.2 = 0x1A0 then decide (100 ≤ lo) else true
    | none => true

/-- Images in parameter order: register offset and value. -/
abbrev Images := List (Nat × Word)

/-- Does every image pass its checks: no reserved bit, and in range (R402, R404, R406)? -/
def imagesOk (l : Images) : Bool := l.all fun x => (x.2 &&& ~~~ imageMask x.1) == 0 && accepts x.1 x.2

/-- Pilot writes images in order. -/
def State.images (s : State) (l : Images) : State := l.foldl (fun s x => s.busWrite 1 x.1 x.2) s

/-- A command that only writes images: BAD_PARAM and nothing written when one fails its check. -/
def State.setImages (s : State) (l : Images) : Ans × State :=
  if imagesOk l then (.ok, s.images l) else (.st stBadParam, s)

/-- Pilot reads registers in order. -/
def State.regReads (s : State) (m : Nat) : List Nat → List Word × State
  | [] => ([], s)
  | o :: os =>
    let r := s.busRead m o
    let q := State.regReads r.2 m os
    (r.1 :: q.1, q.2)

/-- A command that answers OK with registers. -/
def State.answerRegs (s : State) (offs : List Nat) : Ans × State :=
  let r := s.regReads 1 offs
  (.data r.1, r.2)

/-- Offsets of n registers from a base. -/
def offsets (base n step : Nat) : List Nat := (List.range n).map fun i => base + step * i

/-- REJECTED with the error register's word. -/
def State.rejected (s : State) (off : Nat) : Ans := .done stRejected [s.word off]

/-- A flag D command whose effect comes at an epoch boundary: STATE while no epoch runs, otherwise it waits (R407). Accepted in the
cycle of a boundary it counts as accepted after it (R18). -/
def State.atBoundary (s : State) (f : State → State) : Ans × State :=
  let s := s.passBoundary
  if s.flag F.SYS_EPOCHCTL_EN then (.wait (.boundary (s.ep.opn.serial + 1) false), f s) else (.st stState, s)

/-- Parameter counts (R402): exactly n words; n words and then k per count in the last of them. -/
def wordsN (n : Nat) (p : List Word) : Bool := p.length == n
def wordsVar (n k : Nat) (p : List Word) : Bool := decide (n ≤ p.length ∧ p.length = n + k * (p.getD (n - 1) 0).toNat)

/-- Parameter word i, as a word and as a number. -/
def pw (p : List Word) (i : Nat) : Word := p.getD i 0
def pn (p : List Word) (i : Nat) : Nat := (p.getD i 0).toNat

/-- Answer BAD_PARAM unless a condition holds. -/
def needs (b : Bool) (s : State) (x : Ans × State) : Ans × State := if b then x else (.st stBadParam, s)

/-- Answer STATE unless a condition holds. -/
def needsState (b : Bool) (s : State) (x : Ans × State) : Ans × State := if b then x else (.st stState, s)

/-- The master whose instance of a register READ_REG and WRITE_REG use (R539). -/
def issuerMaster (src : Issuer) : Nat := (ringMaster src).getD 1

end Sys2Proof.Machine
end

