-- ==== Sys2Proof/Machine/PilotLog.lean ====
section
/-! DEFINITION. The Logbook, wear and counter commands of Pilot, with the commissioning of spares and the erasure of the Logbook (17_pilot_commands.md, Tables 17-16 and 17-17; 21_logbook_wear_counters.md). -/

namespace Sys2Proof.Machine

/-! ## The Logbook (R418, R419, R485, R486) -/

/-- LOG_INFO. -/
def execCmdLogInfo (t : Nat) (c : Entry) (s : State) : Out :=
  .next (s.pilotCmd t c 0x0E00 (wordsN 0) false false fun _ s =>
    (.data [nw s.log.oldest, nw s.log.newest, nw s.logHeld, nw (s.fld F.LOG_WINDOW_SEC)], s))

/-- n indices from one on. -/
def indicesFrom : Nat → Nat → List Nat
  | 0, _ => []
  | n + 1, i => i :: indicesFrom n (nextIndex i)

/-- LOG_READ: each record is copied to Pilot's buffer and returned. -/
def execCmdLogRead (t : Nat) (c : Entry) (s : State) : Out :=
  .next (s.pilotCmd t c 0x0E01 (wordsN 2) false false fun p s =>
    needs (decide (1 ≤ pn p 1 ∧ pn p 1 ≤ 3)) s
      (let is := indicesFrom (pn p 1) (pn p 0)
       needsState (is.all fun i => (s.logRec i).isSome) s
         (.data (is.flatMap s.logWords), is.foldl (fun s i => s.rdidxWrite 1 (nw i)) s)))

/-- LOG_WINDOW. -/
def execCmdLogWindow (t : Nat) (c : Entry) (s : State) : Out :=
  .next (s.pilotCmd t c 0x0E02 (wordsN 1) false false fun p s => s.setImages [(Reg.LOG_WINDOW, pw p 0)])

/-- LOG_NONCE: eight fresh bytes replace any earlier nonce. -/
def execCmdLogNonce (t : Nat) (c : Entry) (s : State) : Out :=
  .next (s.pilotCmd t c 0x0E03 (wordsN 0) false false fun _ s =>
    (let r := s.freshNat
     (.data [nw r.1, nw (r.1 / 2 ^ 32)], r.2.modPilot fun q => { q with nonce := some (numBytes r.1 8, r.2.dial) })))

/-- The key ID of an issuer (R418). -/
def State.keyId (s : State) : Issuer → Nat
  | .session k => (s.session k).slot
  | .hspi => 0xFE
  | .pcie => 0xFF

/-- The token that clears the Logbook: HMAC-SHA-256 under the device key over "LOGCLR", the serial, the nonce and the key ID. -/
def State.clearToken (s : State) (nonce : List Nat) (key : Nat) : List Nat :=
  hmac256 (s.keyBytes 8) (asciiBytes "LOGCLR" ++ wordsBytes [s.word (Reg.SEC_SERIAL 0), s.word (Reg.SEC_SERIAL 1)] ++ nonce ++ [key])

/-- An accepted clear: what is queued is written, then LOG_CLEARED, then the erasure of every older record begins (R419, R486). -/
def State.logClear (s : State) (key : Nat) (nonce : List Nat) : State :=
  let s := s.logDrain 64
  let n := (List.range 2).map fun i => nw ((List.range 4).foldl (fun v j => v + 256 ^ j * nonce.getD (4 * i + j) 0) 0)
  let s := ((s.logEvent 0x1101 1 (nw key) (n ++ [nw s.logHeld])).logDrain 64).modLog fun l => { l with clearing := some l.newest }
  (s.setFld F.LOG_STS_CLEARING 1).raiseEv F.LOG_STS_CLEARED

/-- LOG_CLEAR. -/
def execCmdLogClear (t : Nat) (c : Entry) (s : State) : Out :=
  .next (s.pilotCmd t c 0x0E04 (wordsN 9) false false fun p s =>
    let key := pn p 0
    let fresh := s.pilot.nonce.filter fun x => decide (s.dial < x.2 + 600000000000)
    let u := s.modPilot fun q => { q with nonce := none }
    let deny := fun (_ : Unit) => (Ans.st stDenied, u.logEvent 0x1102 1 (nw key) [])
    needs (decide (key < 256)) s
      (match fresh with
       | none => deny ()
       | some x =>
         if key ≠ s.keyId c.iss then deny ()
         else if !s.keyLoaded 8 then (.st stDenied, u)
         else if wordsBytes (p.drop 1) ≠ s.clearToken x.1 key then deny ()
         else (.wait .erase, u.logClear key x.1)))

/-- The records older than LOG_CLEARED are gone (R486). -/
def State.erased (s : State) : State :=
  match s.log.clearing with
  | some i =>
    (s.modLog fun l => { l with
      recs := l.recs.filter fun e => match e.2 with
        | some r => decide (0 ≤ seqDiff (nw r.index) (nw i))
        | none => false
      oldest := i, clearing := none }).setFld F.LOG_STS_CLEARING 0
  | none => s

/-- LOG_ERASURE_DONE: the erasure has ended, and LOG_CLEAR is answered. -/
def execLogErasureDone (t : Nat) (s : State) : Out :=
  let s := s.at t
  .next (if s.log.clearing.isNone then s
    else s.erased.answerAll fun _ w => match w.what with
      | .erase => some (stOk, [])
      | _ => none)

/-! ## Wear and spares (R420, R489, R492) -/

/-- WEAR_READ. -/
def execCmdWearRead (t : Nat) (c : Entry) (s : State) : Out :=
  .next (s.pilotCmd t c 0x0E05 (wordsN 3) false false fun p s =>
    needs (decide (pn p 0 ≤ 7 ∧ 1 ≤ pn p 2 ∧ pn p 2 ≤ 60)) s
      (.data ((List.range (pn p 2)).map fun i => s.wearItem (pn p 0) (pn p 1 + i)), s))

/-- The ledger items of a retired unit and a spare of a kind (Tables 17-17, 21-3); none where they are out of range. -/
def spareItems (kind r sp : Nat) : Option (Nat × Nat) :=
  match kind with
  | 1 => if r < 16 ∧ sp < 2 then some (r, 16 + sp) else none
  | 2 => if r < 4 ∧ sp < 1 then some (18 + r, 22) else none
  | 3 => if r < 4 ∧ sp < 1 then some (23 + r, 27) else none
  | 4 => if r < 8 ∧ sp < 8 then some (28 + r, 28 + sp) else none
  | 5 => if r < 12 ∧ sp < 12 then some (36 + r, 36 + sp) else none
  | _ => none

/-- Every reference to board channel a moves to b, with its WARN limit (R469). -/
def State.channelMove (s : State) (a b : Nat) : State :=
  let s := (List.range 4).foldl (fun s k =>
    if s.fld (F.DSP_COOLCFG_SRC k) = 3 ∧ s.fld (F.DSP_COOLCFG_BCH k) = a then s.setFld (F.DSP_COOLCFG_BCH k) b else s) s
  let wa : Fld := if a < 8 then F.THM_TH_WARN a else F.THM_TD_WARN (a - 8)
  let wb : Fld := if b < 8 then F.THM_TH_WARN b else F.THM_TD_WARN (b - 8)
  s.setFld wb (s.fld wa)

/-- Where a commissioning takes effect beyond the ledger; a lane comes into use at the next update snapshot. -/
def State.spareEffect (s : State) (kind r sp : Nat) : State :=
  match kind with
  | 2 => s.setFld F.ALM_PIPES_SPARE_USED 1
  | 4 => s.legsWrite (nw (maskBit (maskBit (s.fld F.HLM_LEGS_MAP) r false) sp true))
  | 5 => s.channelMove r sp
  | _ => s

/-- COMMISSION_SPARE: history entry, both units in the ledger, SPARE_COMMISSIONED, a flush. -/
def execCmdCommissionSpare (t : Nat) (c : Entry) (s : State) : Out :=
  .next (s.pilotCmd t c 0x0E06 (wordsN 3) false false fun p s =>
    let kind := pn p 0
    match spareItems kind (pn p 1) (pn p 2) with
    | none => (.st stBadParam, s)
    | some (r, sp) =>
      needsState (s.unitIn r && s.unitState sp == 1 && !(kind == 4 && s.helmRun)) s
        (let e := s.wear.nextEntry % 256
         let s := ((s.wearHistory kind (pn p 1) (pn p 2)).unitSet r 2).unitSet sp 1
         let s := (s.logEvent 0x1202 0 (nw kind) [pw p 1, pw p 2, nw e]).wearFlush true
         (if kind = 1 then .wait (.lane e) else .data [nw e], s.spareEffect kind (pn p 1) (pn p 2))))

/-! ## Counters (R495, R497) -/

/-- PMC_CONTROL: the 24 selects in parameter order, then the command. -/
def execCmdPmcControl (t : Nat) (c : Entry) (s : State) : Out :=
  .next (s.pilotCmd t c 0x0E07 (wordsN 25) false false fun p s =>
    let l := (List.range 24).map fun k => (Reg.PMC_SEL (k / 8) (k % 8), pw p (1 + k))
    needs (decide (pn p 0 ≤ 3) && imagesOk l) s (.ok, (s.images l).pmcCommand (pn p 0)))

/-- PMC_READ: a FREEZE, and the snapshot of a unit. -/
def execCmdPmcRead (t : Nat) (c : Entry) (s : State) : Out :=
  .next (s.pilotCmd t c 0x0E08 (wordsN 1) false false fun p s =>
    needs (decide (pn p 0 ≤ 2)) s
      (let s := s.pmcCommand 2
       (.data ((List.range 18).map fun j => s.word (Reg.PMC_SNAP (pn p 0) j)), s)))

end Sys2Proof.Machine
end

