-- ==== Sys2Proof/Machine/Thermal.lean ====
section
/-! DEFINITION. The thermal unit: sensors, warnings, throttling and shutdown, with Pilot's thermal commands (20_power_thermal.md). -/

namespace Sys2Proof.Machine

/-- Change the power and thermal state. -/
def State.modPwr (s : State) (f : PwrSt → PwrSt) : State := { s with pwr := f s.pwr }

/-! ## Readings (R467, R468) -/

/-- Is a die conversion, in 0.01 °C, outside -60 °C to 200 °C? -/
def dieBroken (v : Int) : Bool := decide (v < -6000 ∨ 20000 < v)

/-- What the eight conversions of a die sweep count as for throttling and shutdown: a broken sensor reads above 135 °C. -/
def dieHeat (temps : List Int) : List Int := (List.range 8).map fun i => if dieBroken (temps.getD i 0) then 13501 else temps.getD i 0

/-- A temperature in °C as a register field in 0.01 °C: one of its two neighbours, chosen by the free rounding. -/
def centi (args : List Nat) (x : Fl) : Int :=
  let r := (Fl.mul hp x (Fl.ofInt 100)).toRat
  let f := r.floor
  clampI (-32767) 32767 (if r = (f : Rat) then f else if Config.roundUp 4 args then f + 1 else f)

/-- The temperature of a remote diode whose voltage rises by dv nanovolts from 10 µA to 100 µA (R468); none when broken. The quotient
q/k is 1.602176634e-19 C over 1.380649e-23 J/K. -/
def State.diodeTemp (s : State) (dv : Nat) : Option Int :=
  if dv < 20000000 ∨ 90000000 < dv then none
  else
    let eta := s.fld F.THM_TDCFG_ETA
    let num := Fl.ofRat hp (mkRat (dv * 16021766340) (100000 * 1380649 * eta))
    some (centi [0, dv, eta] (Fl.sub hp (Fl.div hp num (Fl.lnHp (Fl.ofInt 10))) (Fl.ofRat hp (mkRat 27315 100))))

/-- The temperature of a thermistor of 10 kΩ at 25 °C on a 10 kΩ bias whose divider shows ratio in units of 10^-9 (R468); none when broken. -/
def State.ntcTemp (s : State) (ratio : Nat) : Option Int :=
  if ratio < 20000000 ∨ 980000000 < ratio then none
  else
    let beta := s.fld F.THM_THCFG_BETA
    let ln := Fl.lnHp (Fl.ofRat hp (mkRat ratio (1000000000 - ratio)))
    let inv := Fl.add hp (Fl.ofRat hp (mkRat 100 29815)) (Fl.div hp ln (Fl.ofInt beta))
    some (centi [1, ratio, beta] (Fl.sub hp (Fl.div hp (Fl.ofInt 1) inv) (Fl.ofRat hp (mkRat 27315 100))))

/-- The fields of board channel BCH: 0 to 7 TH0 to TH7, 8 to 11 TD0 to TD3. -/
def chTemp (ch : Nat) : Fld := if ch < 8 then F.THM_TH_TEMP ch else F.THM_TD_TEMP (ch - 8)
def chWarn (ch : Nat) : Fld := if ch < 8 then F.THM_TH_WARN ch else F.THM_TD_WARN (ch - 8)

/-- The instance of a board channel in THERMAL_WARN (Table 21-2). -/
def chInst (ch : Nat) : Nat := if ch < 8 then 12 + ch else ch

/-- Show a reading, 0x8000 when broken. -/
def State.showTemp (s : State) (f : Fld) (v : Option Int) : State :=
  match v with
  | some x => s.setFldS f x
  | none => s.setFld f 0x8000

/-- Sensor k of the broken mask has converted: BROKEN shows whether any is broken. -/
def State.setBroken (s : State) (k : Nat) (b : Bool) : State :=
  let s := s.modPwr fun p => { p with broken := maskBit p.broken k b }
  s.setHeld F.THM_STS_BROKEN (s.pwr.broken != 0)

/-! ## Warnings (R469) -/

/-- WARN_L shows whether any warning holds. -/
def State.warnShow (s : State) : State := s.setHeld F.THM_STS_WARN (s.pwr.dieWarn || s.pwr.warn != 0)

/-- A warning begins: the sticky bit, the THERMAL cause and a record. -/
def State.warnBegin (s : State) (inst reading : Nat) : State :=
  ((s.raise F.THM_STS_WARN).irq 6).logEvent 0x1001 1 (nw inst) [nw reading]

/-- The die warning: the hottest reading is at or above LIMIT - 10 °C. -/
def State.dieWarning (s : State) (temps : List Int) : State :=
  let ok := (List.range 8).filter fun i => !dieBroken (temps.getD i 0)
  let hot := maxInt (ok.map fun i => temps.getD i 0)
  let on := match hot with
    | some h => decide (100 * ((s.fld F.THM_CTL_LIMIT : Int) - 10) ≤ h)
    | none => false
  let i := (ok.find? fun i => some (temps.getD i 0) == hot).getD 0
  let begins := on && !s.pwr.dieWarn
  let s := s.modPwr fun p => { p with dieWarn := on }
  (s.when begins fun s => s.warnBegin i (s.fld (F.THM_DIE_TEMP i))).warnShow

/-! ## Throttling (R470 to R472) -/

/-- Throttling starts or ends: the clocks of Sextant and Azimuth change, and SXT_SCHED with them. -/
def State.throttle (s : State) (on : Bool) : State :=
  let s := s.pmcSync.setHeld F.THM_STS_THROTTLE on
  (s.when on fun s => s.irq 6).sxtSched

/-- The conversions count towards the start and the end of throttling. -/
def State.throttleCount (s : State) (hot : Int) : State :=
  let lim : Int := 100 * (s.fld F.THM_CTL_LIMIT : Int)
  let s := s.modPwr fun p => { p with
    hot := if lim ≤ hot then p.hot + 1 else 0
    coolAt := if hot < lim - 500 then some (p.coolAt.getD s.dial) else none }
  s.when (decide (2 ≤ s.pwr.hot) && !s.flag F.THM_STS_THROTTLE_L) fun s => s.throttle true

/-- THROTTLE_END: the hottest reading has stayed below LIMIT - 5 °C for 100 ms. -/
def execThrottleEnd (t : Nat) (s : State) : Out :=
  let s := s.at t
  .next (match s.pwr.coolAt with
    | some a => if s.flag F.THM_STS_THROTTLE_L ∧ a + 100000000 ≤ s.dial then s.throttle false else s
    | none => s)

/-! ## Shutdown (R474, R475) -/

/-- Thermal shutdown by die sensor i: an open trip, Helm stops, the cooling outputs go to FAILDUTY, the cause is stored, and the latch
holds until power-on reset. -/
def State.thermalShutdown (s : State) (i : Nat) (broken : Bool) : State :=
  let s := (s.trip F.LDS_TRIP_THERMAL).helmExtStop
  s.modPwr fun p => { p with shut := true, shutAt := s.dial,
                             shutLog := some { broken := broken, sensor := i, temp := nw (s.fld (F.THM_DIE_TEMP i)) } }

/-- DIE_SENSOR_CONVERSION: the eight die sensors, in 0.01 °C. Shutdown comes at the second of two consecutive conversions with a die
at 135 °C or more, or a broken sensor. -/
def execDieSensorConversion (t : Nat) (temps : List Int) (s : State) : Out :=
  let s := s.at t
  .next (if s.pwr.held || s.fld F.THM_STS_PSTATE == 3 then s
    else
      let s := (List.range 8).foldl (fun s i =>
        let b := dieBroken (temps.getD i 0)
        (s.showTemp (F.THM_DIE_TEMP i) (if b then none else some (temps.getD i 0))).setBroken i b) s
      let heat := dieHeat temps
      let s := s.when s.awake fun s => (s.dieWarning temps).throttleCount ((maxInt heat).getD 0)
      match (List.range 8).find? fun i => decide (13500 ≤ heat.getD i 0) with
      | none => s.modPwr fun p => { p with crit := 0 }
      | some i =>
        let s := s.modPwr fun p => { p with crit := p.crit + 1 }
        s.when (decide (2 ≤ s.pwr.crit) && !s.pwr.shut) fun s => s.thermalShutdown i (dieBroken (temps.getD i 0)))

/-- BOARD_CHANNEL_CONVERSION: channel ch gives its diode's ΔV in nV or its thermistor's divider ratio in 10^-9. -/
def execBoardChannelConversion (t ch raw : Nat) (s : State) : Out :=
  let s := s.at t
  .next (if !s.awake || decide (12 ≤ ch) then s
    else
      let v := if ch < 8 then s.ntcTemp raw else s.diodeTemp raw
      let fresh := v.isNone && !s.pwr.broken.testBit (8 + ch)
      let s := (s.showTemp (chTemp ch) v).setBroken (8 + ch) v.isNone
      let s := s.when fresh fun s => s.unitFault (36 + ch)
      let on := match v with
        | some x => decide (s.fldS (chWarn ch) ≤ x)
        | none => true
      let begins := on && !s.pwr.warn.testBit ch
      let s := s.modPwr fun p => { p with warn := maskBit p.warn ch on }
      (s.when begins fun s => s.warnBegin (chInst ch) (s.fld (chTemp ch))).warnShow)

/-! ## Commands (Table 17-15) -/

/-- THERMAL_SETUP. -/
def execCmdThermalSetup (t : Nat) (c : Entry) (s : State) : Out :=
  .next (s.pilotCmd t c 0x0D01 (wordsN 3) false false fun p s =>
    needs (decide (105 ≤ pn p 0 ∧ pn p 0 ≤ 120 ∧ pn p 1 ≤ 1 ∧ 2 ≤ pn p 2 ∧ pn p 2 ≤ 16)) s
      (.ok, (((s.pmcSync.setFld F.THM_CTL_LIMIT (pn p 0)).setFld F.THM_CTL_METHOD (pn p 1)).setFld F.THM_CTL_N (pn p 2)).sxtSched))

/-- THERMAL_STATUS: [15:0] of the on-die sensors, of TD0 to TD3 and of TH0 to TH7. -/
def execCmdThermalStatus (t : Nat) (c : Entry) (s : State) : Out :=
  .next (s.pilotCmd t c 0x0D02 (wordsN 0) false false fun _ s =>
    (.data ((List.range 8).map (fun i => nw (s.fld (F.THM_DIE_TEMP i))) ++ (List.range 4).map (fun i => nw (s.fld (F.THM_TD_TEMP i))) ++
      (List.range 8).map fun i => nw (s.fld (F.THM_TH_TEMP i))), s))

end Sys2Proof.Machine
end

