-- ==== Sys2Proof/Machine/Power.lean ====
section
/-! DEFINITION. Power states, resets, the start sequence and the supplies (19_update_boot.md, 20_power_thermal.md, 23_package_electrical.md), with the end of a journal save. -/

namespace Sys2Proof.Machine

/-! ## TRIM (R462, R434) -/

/-- The bits of a TRIM mask. -/
def trimBits : Word := 0x000F0FFF#32

/-- Is a mask accepted for an issuer? -/
def State.trimOk (s : State) (src : Issuer) (m : Word) : Bool :=
  let ringHit := fun r => m.getLsbD r && allSlots.any fun k => slotRing k == r && (s.acqSlot k).ncell != 0
  let gate := getBits m 16 4
  let lanes := min (profLanes s.ep.prof) (s.fld F.SXT_LANES_HEALTHY - gate)
  decide (gate ≤ 12) && !(src == .pcie && m.getLsbD 7) && !(m.getLsbD 8 && s.flag F.RDN_CTL_TWIN) &&
    !(s.fld ⟨Reg.BIN_OUTREQ, 3, 0⟩ != 0 && (List.range 4).any ringHit) &&
    decide (0 < lanes ∧ s.tupdFor lanes * s.sxtRate < 1000000)

/-- A gated CAN controller is held in reset: queue, objects and error counters clear, its registers keep their values (R434). -/
def State.canGate (s : State) (n : Nat) : State :=
  let s := s.modCan n fun c => { c with
    queue := [], refSlot := none, main := [], shadow := [], busOff := false, recovering := false, integrating := false }
  let s := ((s.setWord (Reg.CAN_RXFULL n 0) 0).setWord (Reg.CAN_RXFULL n 1) 0).canErr n 0 0
  s.canShow n

/-- A TRIM mask takes effect; 0 restores everything. Sextant lanes follow at the next update snapshot. -/
def State.trimApply (s : State) (m : Word) : State :=
  let old := s.word Reg.THM_TRIM
  let newly := fun b => m.getLsbD b && !old.getLsbD b
  let s := (s.setWord Reg.THM_TRIM m).ringsFollow
  let s := s.when (newly 4) State.excCut
  let s := (List.range 2).foldl (fun s n => s.when (newly (5 + n)) fun s =>
    s.modHost fun h => { h with ethUp := Tab.set (fun _ => false) h.ethUp n false }) s
  let s := s.when (newly 7) State.pcieLoss
  let s := s.when (newly 8) fun s => s.setLanes 0
  (List.range 3).foldl (fun s n => s.when (newly (9 + n)) fun s => s.canGate n) s

/-! ## WATCH and OFF (R461, R463, R464) -/

/-- What survives a stop of every supply but VBAT and the MRAM: MRAM, fuses, flash, the RTC, and the tiles, which run from their cells.
keep tells which registers survive. -/
def State.restart (s : State) (keep : Nat → Bool) : State :=
  let recs := s.log.recs.map fun e => (e.1, e.2.map fun (r : LogRec) => { r with thisStart := false })
  { State.reset with
    pending := s.pending
    freeCtr := s.freeCtr
    dial := s.dial
    regs := s.regs.filter fun e => keep e.1
    time := { TimeSt.reset with rtc := s.time.rtc, rtcRun := s.time.rtcRun, rtcValid := s.time.rtcValid }
    log := { s.log with recs := recs, queue := [], lost := 0 }
    trv := { TrvSt.reset with tiles := s.trv.tiles }
    upd := { UpdSt.reset with flash := s.upd.flash, keys := s.upd.keys }
    wear := s.wear
    sxt := { SxtSt.reset with slotA := s.sxt.slotA, slotB := s.sxt.slotB, savedAt := s.sxt.savedAt, savedSeq := s.sxt.savedSeq, hold := s.sxt.hold }
    pwr := { PwrSt.reset with shutLog := s.pwr.shutLog }
    pilot := { PilotSt.reset with net := s.pilot.net, seals := s.pilot.seals } }

/-- Registers held in fuses, beside the keys in MRAM, or with the RTC (its trim, R64). -/
def keptAlways (k : Nat) : Bool := k == Reg.SEC_STS || k == Reg.SEC_MINVER || k == Reg.TIME_CALCTL

/-- Registers that a device reset also leaves: the LDS mirror, the fault loops, the close requests that Lodestone holds, the PLL lock,
the valley count (R58, R444, R478, R521), the confirmed open wires, which only a power-on reset clears (R136). -/
def keptReset (k : Nat) : Bool :=
  keptAlways k || decide (0x10000 ≤ k ∧ k < 0x11000) || k == Reg.TRV_FLSTS || k == Reg.BIN_OUTREQ || k == Reg.CLK_STS ||
    k == Reg.TIME_CARRIER || (List.range 48).any fun n => k == Reg.ACQ_OWCNF n

/-- Counts of the ledger that no flush has carried to MRAM are lost. -/
def State.wearReload (s : State) : State :=
  s.modWear fun w => { w with live := if w.seqB < w.seqA then w.copyA else w.copyB, flushAt := 0, hoursAt := 0 }

/-- The supplies fall: Lodestone's state is gone too, and Dial stops (R48). -/
def State.powerDown (s : State) : State := ((s.restart keptAlways).wearReload).modPwr fun p => { p with off := true }

/-- The power-on reset sets Dial to 0 (R48); each tile keeps its own time. -/
def State.dialZero (s : State) : State :=
  let tiles := s.trv.tiles.foldl (fun m e => Tab.set (fun _ => Tile.unpowered) m e.1 { e.2 with ofs := e.2.ofs + 16 * s.dial }) []
  { s with
    dial := 0
    trv := { s.trv with tiles := tiles }
    sxt := { s.sxt with savedAt := 0, hold := false }
    pwr := { s.pwr with off := false } }

/-- Lodestone suspends its supervision and Binnacle stops without BIN_ABSENT (R444, R461). -/
def State.ldsSuspend (s : State) (subst : Bool) : State :=
  (s.modLds fun l => { l with
    binHeld := true, hbSup := false, wdSup := false, supFrom := l.tick, hbSubst := subst, hbLast := none, rhbAt := none }).setFld
      F.LDS_TRIP_BPERMIT_L 0

/-- The device leaves RUN for WATCH or OFF. -/
def State.sleep (s : State) (off : Bool) : State :=
  if off then s.powerDown.setFld F.THM_STS_PSTATE 3
  else
    let s := (s.ldsSuspend false).helmExtStop
    let s := (List.range 3).foldl State.canGate s
    (s.setFld F.THM_STS_PSTATE 2).outputsEval

/-- The command for WATCH or OFF: the ledger is flushed; in journal mode the save comes first (R229, R488). -/
def State.powerOffCmd (s : State) (off : Bool) : Ans × State :=
  let s := s.wearHours.wearFlush true
  (.wait (.sleep off s.sxt.save.isSome), s.saveTrig 3)

/-- Answer the power-down commands that wait for no further save, then make their change. -/
def State.sleepAnswer (s : State) (ok : Bool) : State :=
  let due := fun (w : Waiting) => match w.what with
    | .sleep _ false => true
    | _ => false
  let off := s.pilot.waiting.any fun w => match w.what with
    | .sleep true false => true
    | _ => false
  if !s.pilot.waiting.any due then s
  else
    let s := s.answerAll fun s w => if due w then some (if ok then (stOk, []) else (stRejected, [s.word Reg.SXT_LRNSTS])) else none
    s.when ok fun s => s.sleep off

/-- POWER_STATE (R460 to R463). -/
def execCmdPowerState (t : Nat) (c : Entry) (s : State) : Out :=
  let s := s.pilotCmd t c 0x0D00 (wordsN 2) true false fun p s =>
    let m := pw p 1
    needs (decide (pn p 0 ≤ 3) && (m &&& ~~~ trimBits) == 0) s
      (match pn p 0 with
       | 0 => (.ok, (s.trimApply 0).setFld F.THM_STS_PSTATE 0)
       | 1 => needs (s.trimOk c.iss m) s (.ok, (s.trimApply m).setFld F.THM_STS_PSTATE 1)
       | n => needsState (!s.helmRun && s.fld ⟨Reg.BIN_OUTREQ, 3, 0⟩ == 0) s (s.powerOffCmd (n == 3)))
  .next (if s.journalMode then s else s.sleepAnswer true)

/-- JOURNAL_SAVE_DONE: the header completes the save, or a write that failed after sector repair abandons it (R227, R228). After a
thermal shutdown PERI runs for 2 ms at most (R476). -/
def execJournalSaveDone (t : Nat) (ok : Bool) (s : State) : Out :=
  let s := s.at t
  .next (match s.sxt.save with
    | none => s
    | some (n, head) =>
      if s.pwr.shut && decide (s.pwr.shutAt + 2000000 < s.dial) then s
      else
        let s := ((s.modSxt fun x => { x with save := none }).setFld F.SXT_LRNSTS_SAVING 0).wearAdd 4 n 1
        let s := if ok then
            ((s.setSlot n (Store.putAll zeroWord (s.slot n) 0 head)).modSxt fun x => { x with savedAt := s.dial, savedSeq := head.getD 1 0 }).journalShow
          else (s.raiseEv F.SXT_LRNSTS_JFAIL).logEvent 0x0602 2 0 [nw n]
        (s.sleepAnswer ok).saveAnswer ok)

/-- BROWN_N_FALL. -/
def execBrownNFall (t : Nat) (s : State) : Out := .next (s.at t).brownSave

/-- BROWN_N_HIGH_100MS: triggers act again, and a periodic save that fell due meanwhile starts (R230). -/
def execBrownNHigh100ms (t : Nat) (s : State) : Out :=
  let s := (s.at t).modSxt fun x => { x with hold := false }
  .next (if s.sxt.savedAt + s.fld F.SXT_LRNCFG_JPERIOD * 3600000000000 ≤ s.dial then s.saveTrig 1 else s)

/-! ## Resets (R345, R444, R475, R518, R521) -/

/-- What the registers show from MRAM and the VBAT domain at every reset: Meridian from Calendar, CAL_VALID, the ledger, units
commissioned and retired. -/
def State.showKept (s : State) : State :=
  let s := s.setWord Reg.TIME_CALCTL ((s.word Reg.TIME_CALCTL &&& 0xFF800000#32) ||| 0x25#32)
  let s : State := { s with time := { s.time with mer := (s.calMs * 1000000 + 37000000000) * 2 ^ 40 } }
  let s := (s.setFlag F.TIME_PTPSTS_CAL_VALID s.time.rtcValid).setWord Reg.WEAR_HOURS (nw (s.wearGet 0 0))
  let s := s.setWord Reg.WEAR_SEQ (nw s.ledgerSeq)
  let s := s.setFld F.SXT_LANES_SPARES_USED ((List.range 2).filter fun i => s.unitMark (16 + i) == 1).length
  let s := s.setFlag F.ALM_PIPES_SPARE_USED (s.unitMark 22 == 1)
  let map := (List.range 8).foldl (fun m i => if s.unitMark (28 + i) = 0 then m else maskBit m i (s.unitMark (28 + i) == 1)) (s.fld F.HLM_LEGS_MAP)
  let s := s.when (map != s.fld F.HLM_LEGS_MAP) fun s => s.legsWrite (nw map)
  (List.range 256).foldl (fun s e => if s.wearGet 7 (4 * e + 1) / 65536 = 5 then s.channelMove (s.wearGet 7 (4 * e + 2)) (s.wearGet 7 (4 * e + 3))
    else s) s

/-- The reset that a device reset or a wake brings: Dial and Lodestone go on; the open epoch starts at the last multiple of 10 ms. -/
def State.deviceReset (s : State) (subst : Bool) : State :=
  let old := s
  let s := s.restart keptReset
  let p0 := s.dial / EpochRec.first.period * EpochRec.first.period
  let s : State := { s with
    lds := old.lds
    pwr := { s.pwr with shut := old.pwr.shut, shutAt := old.pwr.shutAt, off := old.pwr.off }
    ep := { s.ep with opn := { EpochRec.first with start := p0 } } }
  let s := (s.setWord Reg.CLK_STS (s.word Reg.CLK_STS &&& 0x80000000#32)).setFlag F.RDN_STS_GRANT_L (old.flag F.RDN_STS_GRANT_L)
  ((s.setFlag F.ACQ_STS_OW_CONFIRMED_L s.owAny).showKept.ldsSuspend subst).outputsEval

/-- POWER_ON_RESET: VDD_LS rises through its threshold. The RTC has run on by an unknown time, or it is found stopped (R66). -/
def execPowerOnReset (t : Nat) (s : State) : Out :=
  let s := (s.at t).powerDown.dialZero
  let r := s.freshNat
  let s := if s.time.rtcRun then { r.2 with time := { r.2.time with rtc := r.2.time.rtc + r.1 } } else s.rtcLost
  .next s.showKept

/-- The device reset of the reset pin: dead reckoning ends as well (R345). -/
def State.pinReset (s : State) : State := ((s.setWord Reg.LDS_DRM 0).deviceReset true)

/-- DEVICE_RESET: not in OFF, where nothing is supplied. -/
def execDeviceReset (t : Nat) (s : State) : Out :=
  let s := s.at t
  .next (if s.pwr.off ∨ s.fld F.THM_STS_PSTATE = 3 then s else s.pinReset)

/-- RECOVERY_RESET: 10 ms after an ACTIVATE in recovery mode. -/
def execRecoveryReset (t : Nat) (s : State) : Out :=
  let s := s.at t
  .next (match s.upd.resetAt with
    | some a => if a ≤ s.dial then s.pinReset else s
    | none => s)

/-- The MAC address of ETHp, most significant byte first (R465). -/
def State.macBytes (s : State) (p : Nat) : List Nat :=
  beBytes 6 (((s.word Reg.THM_MACLO).toNat + 2 ^ 32 * ((s.word Reg.THM_MACHI).toNat % 65536) + p) % 2 ^ 48)

/-- Does a payload hold six bytes of 0xFF and then sixteen copies of an address? -/
def wakePayload (mac payload : List Nat) : Bool :=
  let pat := List.replicate 6 0xFF ++ (List.replicate 16 mac).flatten
  (List.range (payload.length + 1)).any fun i => (payload.drop i).take pat.length == pat

/-- WAKE_FRAME: a wake starts the device and closes nothing; LDS and the dead-reckoning latch keep their values (R461, R465, R466). -/
def execWakeFrame (t p : Nat) (dst payload : List Nat) (s : State) : Out :=
  let s := s.at t
  .next (if s.fld F.THM_STS_PSTATE = 2 ∧ s.pwr.shut = false ∧ p < 2 ∧ (s.fld F.THM_CTL_WOLEN).testBit p = true ∧ dst = s.macBytes p ∧
      wakePayload (s.macBytes p) payload = true then
    s.deviceReset false
    else s)

/-- POWER_FAIL: VDD_LS falls through its monitor. Queued events and unflushed counts are lost; torn tells that a line write of the
newest record was cut short. -/
def execPowerFail (t : Nat) (torn : Bool) (s : State) : Out :=
  let s := s.at t
  let s := match s.logRec s.log.newest with
    | some r => s.when (torn && s.logHeld != 0) fun s =>
        s.modLog fun l => { l with recs := Tab.set (fun _ => none) l.recs (r.index % 65536) (some { r with torn := true }) }
    | none => s
  .next s.powerDown

/-! ## The start sequence (R443 to R447, R457, R476, R484, R490, R491) -/

/-- The Logbook at a start: an erasure that was cut short is completed, and a torn newest record is reported. -/
def State.logStart (s : State) : State :=
  let s := s.erased
  match s.logRec s.log.newest with
  | some r => s.when (r.torn && s.logHeld != 0) fun s => (s.logEvent 0x1103 1 0 [nw r.index]).raiseEv F.LOG_STS_TORN
  | none => s

/-- The stored cause of a thermal shutdown is recorded and shown. -/
def State.shutStart (s : State) : State :=
  match s.pwr.shutLog with
  | none => s
  | some x =>
    let s := ((s.setFld F.THM_SDLOG_VALID 1).setFlag F.THM_SDLOG_BROKEN x.broken).setFld F.THM_SDLOG_SENSOR x.sensor
    let s := (s.setFld F.THM_SDLOG_TEMP x.temp.toNat).modPwr fun p => { p with shutLog := none }
    s.logEvent 0x1002 3 0 [s.word Reg.THM_SDLOG]

/-- A unit of the self-test has failed: lane, pipe or core n, spares counted after the regular ones. -/
def State.bistFail (s : State) (kind n : Nat) : State :=
  let i := if kind = 0 then n else if kind = 1 then 18 + n else 23 + n
  if 3 ≤ kind ∨ (if kind = 0 then 18 else 5) ≤ n then s
  else
    let s := s.unitFault i
    s.when (s.unitIn i) fun s => (s.raiseEv F.WEAR_STS_SPARE_ADVISED).logEvent 0x1203 1 (nw (kind + 1)) [nw n]

/-- The bank b runs. -/
def State.runBank (s : State) (b : Nat) : State := ((s.setFld F.UPD_STS_RUNBANK b).showVersions).modLds fun l => { l with binHeld := false }

/-- Recovery mode: Binnacle stays in reset (R457). -/
def State.recoveryMode (s : State) : State := (s.setFld F.UPD_STS_RECOVERY 1).modLds fun l => { l with binHeld := true }

/-- The bank is chosen: BANK of the boot record, or the other one while PENDING is 1; the other one when it does not verify; recovery mode
when neither does or the strap is high. -/
def State.bootBank (s : State) (strap : Bool) : State :=
  let r := s.bootRecord
  let sel := if r.2 = 1 then (r.1 + 1) % 2 else r.1 % 2
  if strap then s.recoveryMode
  else if s.bankOk sel then
    if r.2 = 1 then (((s.runBank sel).writeRecord sel 0).setHeld F.UPD_STS_REVERTED true).logEvent 0x0F01 1 0 [nw sel] else s.runBank sel
  else if s.bankOk (1 - sel) then
    (((s.runBank (1 - sel)).writeRecord (1 - sel) 0).setHeld F.UPD_STS_FALLBACK true).logEvent 0x0F02 2 0 [nw (1 - sel)]
  else s.recoveryMode

/-- RESET_RELEASE: the start sequence runs up to the choice of the bank. The modulators have no clock yet, so both faults stand (R124). -/
def execResetRelease (t : Nat) (x : StartIn) (s : State) : Out :=
  let s := s.at t
  .next (if !s.pwr.held || s.pwr.off || s.pwr.shut || s.fld F.THM_STS_PSTATE == 3 then s
    else
      let s := (s.modPwr fun p => { p with held := false }).modLds fun l => { l with supFrom := l.tick }
      let s := ((s.xStartAll (List.range 22)).wearAdd 0 1 1).logStart
      let s := s.repairSched.shutStart
      let s := x.bist.foldl (fun s f => s.bistFail f.1 f.2) s
      ((s.modFault 0).modFault 1).bootBank x.recovery)

/-- The sealed configuration is compared with the history (R330). -/
def State.sealStart (s : State) : State :=
  let v := getBits (s.word Reg.LDS_SEAL) 0 20
  let old := (s.pilot.seals.head?.map (·.new)).getD 0
  if s.pilot.seals.head?.map (·.new) = some v then s
  else
    let s := s.modPilot fun p => { p with seals := { cal := s.calMs, old := old, new := v } :: p.seals }
    (s.wearAdd 4 4 1).logEvent 0x0B03 1 0 [nw old, nw v]

/-- BOOT_READY: microcode is loaded, the TW16 payload is held, MCLKEN is set, READY is set. -/
def execBootReady (t : Nat) (s : State) : Out :=
  let s := s.at t
  .next (if !s.awake || s.flag F.UPD_STS_RECOVERY || s.flag F.UPD_STS_READY then s
    else
      let a := imageAddr (s.fld F.UPD_STS_RUNBANK) 5
      let len := (s.flashWord (a + 8)).toNat
      let data := (List.range ((len + 3) / 4)).foldl (fun (m : Store) i => Tab.set zeroWord m i (s.flashWord (a + 288 + 4 * i))) []
      let s := s.modUpd fun u => { u with tw16 := { len := len, ver := s.flashWord (a + 12), data := data } }
      ((s.setFld F.ACQ_MODCFG_MCLKEN 1).setFld F.UPD_STS_READY 1).sealStart)

end Sys2Proof.Machine
end

