-- ==== Sys2Proof/Machine/Links.lean ====
section
/-! DEFINITION. Syncs of the selected master with the steps of Meridian, stopped clocks, and links that come up (02_time.md, 16_host_interface.md, 22_clocks_crossings.md). -/

namespace Sys2Proof.Machine

/-! ## Syncs (R52 to R54, R57) -/

/-- A master's last Sync is noted, whichever is selected (R52). -/
def State.noteSync (s : State) (port gm : Nat) : State :=
  let fs := s.time.foreign.map fun (f : Foreign) => if f.ann.port = port ∧ f.ann.gm = gm then { f with lastSync := s.dial } else f
  { s with time := { s.time with foreign := fs } }

/-- Meridian steps; Azimuth discards its block, and a forward step launches the targets it passes, late (R54, R57, R246). -/
def State.meridianStep (s : State) (port : Nat) (m2 : Int) : State :=
  let old := s.time.mer
  let s := (s.stepMeridian port m2).azmStep old
  let now := s.shortTime 1
  s.loseTargets fun b tgt _ => if b = 1 ∧ dist40 tgt now < 0 then some (dist40 tgt now) else none

/-- An offset from the selected master in ACQUIRING: the step row comes before the lock row. DESIGN CHOICE (log entry 96): while no
step follows, the median of the latest four offsets is judged at every Sync. -/
def State.syncAcquire (s : State) (port : Nat) (ofs : Int) : State :=
  let s := s.discipline ofs
  let s : State := { s with time := { s.time with fresh4 := (ofs :: s.time.fresh4).take 4 } }
  match s.stepDue with
  | some m2 => s.meridianStep port m2
  | none => s.countWithin ofs

/-- PTP_SYNC_RECEIVE: ofs is the offset from the master that the Sync gives, in ns. -/
def execPtpSyncReceive (t : Nat) (msg : PtpMsg) (gm : Nat) (ofs : Int) (s : State) : Out :=
  .next ((s.at t).ptpTake msg fun s =>
    let s := s.noteSync msg.port gm
    if s.time.sel = some (msg.port, gm) ∧ s.flag F.TIME_PTPCTL_PTPEN = true then
      match s.time.servo with
      | .acquiring => s.syncAcquire msg.port ofs
      | .locked => (s.discipline ofs).countOver ofs
      | .free | .holdover => s
    else s)

/-! ## Clocks that stop and run again (R500, R501, R511) -/

/-- CLOCK_STOPPED: clock c of Table 22-2. A stopped Ethernet or traverse clock is a link down; a stopped RTC sets RTC_LOST and counts
no further; with a stopped Lodestone oscillator Binnacle drives SAFE_B low. -/
def execClockStopped (t c : Nat) (s : State) : Out :=
  let s := s.at t
  .next (if !s.awake then s
    else
      let s := s.clkMon c true
      if c < 2 then s.modHost fun h => { h with ethUp := Tab.set (fun _ => false) h.ethUp c false }
      else if 4 ≤ c ∧ c < 12 then s.portDown (c - 4)
      else if c = 14 then s.modLds fun l => { l with safeB := false }
      else if c = 15 then ({ s with time := { s.time with rtcRun := false } }).raise F.TIME_PTPSTS_RTC_LOST
      else s)

/-- CLOCK_RUNNING: 64 edges of a stopped clock have come, and its crossings start their handshakes. -/
def execClockRunning (t c : Nat) (s : State) : Out :=
  let s := s.at t
  .next (if s.awake && (s.word Reg.CLK_MON).getLsbD c then
    let s := (s.clkMon c false).xStartAll (clockCrossings c)
    if c = 15 then { s with time := { s.time with rtcRun := true } } else s
    else s)

/-! ## Links that come up -/

/-- ETH_LINK_UP: not while the port is gated. -/
def execEthLinkUp (t n : Nat) (s : State) : Out :=
  let s := s.at t
  .next (if s.awake && decide (n < 2) && !(s.word Reg.THM_TRIM).getLsbD (5 + n) then
    (s.modHost fun h => { h with ethUp := Tab.set (fun _ => false) h.ethUp n true }).xStart n
    else s)

/-- PCIE_LINK_UP: not while the link is gated. -/
def execPcieLinkUp (t : Nat) (s : State) : Out :=
  let s := s.at t
  .next (if s.awake && !s.flag F.THM_TRIM_PCIE then (s.modHost fun h => { h with pcieUp := true }).xStartAll [2, 3] else s)

end Sys2Proof.Machine
end

