-- ==== Sys2Proof/Machine/PilotSafety.lean ====
section
/-! DEFINITION. The safety, redundancy and CAN commands of Pilot (17_pilot_commands.md, Tables 17-11 to 17-13). -/

namespace Sys2Proof.Machine

/-! ## Safety (Table 17-11) -/

/-- SAFETY_STATUS. -/
def execCmdSafetyStatus (t : Nat) (c : Entry) (s : State) : Out :=
  .next (s.pilotCmd t c 0x0900 (wordsN 0) false false fun _ s =>
    s.answerRegs ([Reg.LDS_SEAL, Reg.LDS_CFG, Reg.LDS_TRIP, Reg.LDS_DRM, Reg.LDS_INSTS] ++ offsets (Reg.LDS_OUT 0) 4 4 ++
      [Reg.BIN_STS, Reg.BIN_ISO]))

/-- SAFETY_RESET (R341, R353, R359). -/
def execCmdSafetyReset (t : Nat) (c : Entry) (s : State) : Out :=
  .next (s.pilotCmd t c 0x0901 (wordsN 0) false false fun _ s =>
    let s1 := s.safetyReset
    (.data [s.word Reg.LDS_TRIP, s1.word Reg.LDS_TRIP], s1))

/-- OUTPUT_REQUEST: the masked bits of BIN_OUTREQ take the value (R322). -/
def execCmdOutputRequest (t : Nat) (c : Entry) (s : State) : Out :=
  .next (s.pilotCmd t c 0x0902 (wordsN 2) true true fun p s =>
    needs (decide (pn p 0 ≤ 0xF ∧ pn p 1 ≤ 0xF)) s
      (let s := s.outreqWrite ((s.word Reg.BIN_OUTREQ &&& ~~~ pw p 0) ||| (pw p 1 &&& pw p 0))
       (.data [s.word Reg.BIN_OUTREQ], s)))

/-- The field a BIN_PARAM ID names, its default, and whether a lower value is the stricter one. -/
def State.binParam (s : State) (id : Nat) : Option (Fld × Nat × Bool) :=
  match id, profileLimits (s.fld F.LDS_CFG_PROFILE) with
  | 1, some l => if s.word Reg.BIN_VLIM = 0 then none else some (F.BIN_VLIM_BOV, l.1 - 50, true)
  | 2, some l => if s.word Reg.BIN_VLIM = 0 then none else some (F.BIN_VLIM_BUV, l.2 + 100, false)
  | 3, _ => some (F.BIN_ISO_WARN, 0x32, false)
  | 4, _ => some (F.BIN_ISO_TRIP, 0x0A, false)
  | _, _ => none

/-- BIN_PARAM: a value looser than the default is refused (R339). -/
def execCmdBinParam (t : Nat) (c : Entry) (s : State) : Out :=
  .next (s.pilotCmd t c 0x0903 (wordsN 2) false false fun p s =>
    let id := pn p 0
    let v := pn p 1
    needs (decide (1 ≤ id ∧ id ≤ 4 ∧ v ≤ if id ≤ 2 then 0xFFFF else 0xFF)) s
      (match s.binParam id with
       | none => (.st stState, s)
       | some (f, d, low) =>
         if (if low then d < v else v < d) then
           let s := s.raiseEv F.BIN_STS_PARAM_REJ
           (s.rejected Reg.BIN_STS, s)
         else (.ok, s.setFld f v)))

/-- SEAL_HISTORY (R330). -/
def execCmdSealHistory (t : Nat) (c : Entry) (s : State) : Out :=
  .next (s.pilotCmd t c 0x0904 (wordsN 1) false false fun p s =>
    (match s.pilot.seals[pn p 0]? with
     | some e => .data [nw e.cal, nw (e.cal / 2 ^ 32), nw e.old, nw e.new]
     | none => .st stState, s))

/-! ## Redundancy (Table 17-12) -/

/-- RDN_SETUP (R365). -/
def execCmdRdnSetup (t : Nat) (c : Entry) (s : State) : Out :=
  .next (s.pilotCmd t c 0x0A00 (wordsN 1) true false fun p s =>
    needs (decide ((pw p 0 &&& 0x3FFFFFFF#32) = 0)) s
      (needsState (s.fld F.TRV_CTL_EN == 0) s (.ok, s.rdnctlWrite 1 (pw p 0))))

/-- RDN_STATUS. -/
def execCmdRdnStatus (t : Nat) (c : Entry) (s : State) : Out :=
  .next (s.pilotCmd t c 0x0A01 (wordsN 0) false false fun _ s =>
    s.answerRegs [Reg.RDN_STS, Reg.RDN_MIREPOCH, Reg.RDN_PEEREPOCH, Reg.RDN_PEEROFS_LO, Reg.RDN_PEEROFS_HI, Reg.RDN_CNT, Reg.RDN_DIGEST,
      Reg.RDN_PEERDIGEST, Reg.RDN_MIRTIME])

/-! ## CAN FD (Table 17-13) -/

/-- CAN_SETUP: CANn_CTL with EN 0, the timings and TMID, then the full CANn_CTL. -/
def execCmdCanSetup (t : Nat) (c : Entry) (s : State) : Out :=
  .next (s.pilotCmd t c 0x0B00 (wordsN 6) false false fun p s =>
    let k := pn p 0
    let l := [(Reg.CAN_CTL k, pw p 1), (Reg.CAN_NBT k, pw p 2), (Reg.CAN_DBT k, pw p 3), (Reg.CAN_TDC k, pw p 4), (Reg.CAN_TMID k, pw p 5)]
    needs (decide (k < 3) && imagesOk l && nbtOk (pw p 2) (s.word (Reg.CAN_DBT k)) && dbtOk (pw p 3) (pw p 2)) s
      (let s := s.canCtlWrite k (pw p 1 &&& 0x7FFFFFFE#32)
       (.ok, (s.images (l.drop 1)).canCtlWrite k (pw p 1))))

/-- CAN_FILTER. -/
def execCmdCanFilter (t : Nat) (c : Entry) (s : State) : Out :=
  .next (s.pilotCmd t c 0x0B01 (wordsN 4) false false fun p s =>
    let k := pn p 0
    let o := pn p 1
    needs (decide (k < 3 ∧ o < 64)) s (s.setImages [(Reg.CAN_FID k o, pw p 2), (Reg.CAN_FMASK k o, pw p 3)]))

/-- CAN_SEND (R428, R432). -/
def execCmdCanSend (t : Nat) (c : Entry) (s : State) : Out :=
  .next (s.pilotCmd t c 0x0B02 (wordsN 19) false true fun p s =>
    let k := pn p 0
    needs (decide (k < 3)) s
      (needsState s.activeRole s
        (let serial := (s.can1 k).nextSerial
         let r := s.canQueue k (p.drop 1)
         (if r.1 = 0 then .data [nw serial] else if r.1 = 1 then .st stState else .st stBadParam, r.2))))

/-- CAN_RECV: the received descriptor, and the object's release (R426). -/
def execCmdCanRecv (t : Nat) (c : Entry) (s : State) : Out :=
  .next (s.pilotCmd t c 0x0B03 (wordsN 2) false false fun p s =>
    let k := pn p 0
    let o := pn p 1
    needs (decide (k < 3 ∧ o < 64)) s
      (needsState (s.flag (objFld (Reg.CAN_RXFULL k) o)) s
        (.data ((List.range 20).map fun j => s.rxWord k o j), s.canRelease k o)))

/-- CAN_CANCEL: begun tells that the head's attempt has begun (R431). -/
def execCmdCanCancel (t : Nat) (begun : Bool) (c : Entry) (s : State) : Out :=
  .next (s.pilotCmd t c 0x0B04 (wordsN 2) false false fun p s =>
    let k := pn p 0
    needs (decide (k < 3 ∧ pn p 1 < 0x10000)) s
      (let r := s.canCancel k (pn p 1) begun
       (if r.1 then .ok else .st stState, r.2)))

/-- CAN_AUTOBAUD: GO, then an answer when a candidate is found or the limit has passed (R435). -/
def execCmdCanAutobaud (t : Nat) (c : Entry) (s : State) : Out :=
  .next (s.pilotCmd t c 0x0B05 (wordsN 2) false false fun p s =>
    let k := pn p 0
    needs (decide (k < 3 ∧ 1 ≤ pn p 1 ∧ pn p 1 ≤ 10000)) s
      (.wait (.autobaud k (s.dial + 1000000 * pn p 1)), (s.setFld (F.CAN_ABCTL_FOUND k) 0).abGo k))

/-- AUTOBAUD_LIMIT: the limit of a CAN_AUTOBAUD passes: STOP, then TIMEOUT. -/
def execAutobaudLimit (t n : Nat) (s : State) : Out :=
  let s := s.at t
  let due : Waiting → Bool := fun (w : Waiting) => match w.what with
    | .autobaud k a => k == n && decide (a ≤ s.dial)
    | _ => false
  .next (if s.pilot.waiting.any due then (s.abStop n).answerAll fun _ w => if due w then some (stTimeout, []) else none else s)

/-- CAN_TIMEMASTER (R437). -/
def execCmdCanTimemaster (t : Nat) (c : Entry) (s : State) : Out :=
  .next (s.pilotCmd t c 0x0B06 (wordsN 3) false true fun p s =>
    let k := pn p 0
    needs (decide (k < 3 ∧ pn p 1 ≤ 1 ∧ 100 ≤ pn p 2 ∧ pn p 2 ≤ 65535)) s
      (.ok, s.tmctlWrite k (nw (0x80000000 * pn p 1 + pn p 2))))

end Sys2Proof.Machine
end

