-- ==== Sys2Proof/Machine/PilotString.lean ====
section
/-! DEFINITION. The Sextant, Azimuth, balancing, Helm and dispatch commands of Pilot (17_pilot_commands.md, Tables 17-7 to 17-10). -/

namespace Sys2Proof.Machine

/-! ## Sextant and learning (Table 17-7) -/

/-- SXT_WRITE: descriptor images and position map. -/
def execCmdSxtWrite (t : Nat) (c : Entry) (s : State) : Out :=
  .next (s.pilotCmd t c 0x0500 (wordsVar 2 1) false false fun p s =>
    let a := pn p 0
    let n := pn p 1
    needs (decide (a % 4 = 0 ∧ 1 ≤ n ∧ n ≤ 60 ∧ ((0x80000 ≤ a ∧ a + 4 * n ≤ 0x84000) ∨ (0x84000 ≤ a ∧ a + 4 * n ≤ 0x84280)))) s
      (.ok, (p.drop 2).zipIdx.foldl (fun s (w, j) => s.sxtWinWrite (a + 4 * j) w) s.passBoundary))

/-- SXT_DAPPLY (R190). -/
def execCmdSxtDapply (t : Nat) (c : Entry) (s : State) : Out :=
  .next (s.pilotCmd t c 0x0501 (wordsN 0) false false fun _ s => s.atBoundary fun s => s.sxtctlWrite (s.word Reg.SXT_CTL ||| 1))

/-- SXT_CFG. -/
def execCmdSxtCfg (t : Nat) (c : Entry) (s : State) : Out :=
  .next (s.pilotCmd t c 0x0502 (wordsN 2) false false fun p s =>
    needs (decide ((pw p 0 &&& 0x7FFFFFF5#32) = 0)) s (s.setImages [(Reg.SXT_CTL, pw p 0), (Reg.SXT_REINIT, pw p 1)]))

/-- CTX_READ: live words of a context (R198). -/
def execCmdCtxRead (t : Nat) (c : Entry) (s : State) : Out :=
  .next (s.pilotCmd t c 0x0503 (wordsN 3) false false fun p s =>
    let o := pn p 1
    let n := pn p 2
    needs (decide (pn p 0 ≤ 1023 ∧ o % 4 = 0 ∧ 1 ≤ n ∧ n ≤ 60 ∧ o + 4 * n ≤ 0x200)) s
      (.data ((List.range n).map fun i => s.sxtWinRead (0x200 * pn p 0 + o + 4 * i)), s))

/-- LEARN_CFG. -/
def execCmdLearnCfg (t : Nat) (c : Entry) (s : State) : Out :=
  .next (s.pilotCmd t c 0x0504 (wordsN 10) false false fun p s =>
    needs (decide ((pw p 0 &&& 0x7FFFFFFF#32) = 0)) s
      (s.setImages ([(Reg.SXT_LRNCTL, pw p 0), (Reg.SXT_LRNCFG, pw p 1)] ++
        ((List.range 4).map fun i => (Reg.SXT_LRNV i, pw p (2 + i))) ++ (List.range 4).map fun i => (Reg.SXT_LRNSPAN i, pw p (6 + i)))))

/-- RESTORE_LEARNED: an image that fails its checks is refused at once (R234, R415). -/
def execCmdRestoreLearned (t : Nat) (c : Entry) (s : State) : Out :=
  .next (s.pilotCmd t c 0x0505 (wordsN 0) false false fun _ s =>
    needsState (s.flag F.SYS_EPOCHCTL_EN) s
      (let b := s.passBoundary
       if b.restoreCode = 0 then s.atBoundary fun s => s.lrnctlBit 1
       else
         let s := b.lrnctlBit 1
         (s.rejected Reg.SXT_LRNSTS, s)))

/-- The byte range of a staging command (R415). -/
def stageRange (p : List Word) : Bool :=
  decide (pn p 0 % 4 = 0 ∧ pn p 1 % 4 = 0 ∧ 4 ≤ pn p 1 ∧ pn p 1 ≤ 240 ∧ pn p 0 + pn p 1 ≤ 10272)

/-- Pilot's own window turns to the staging area. -/
def State.stageWin (s : State) : State := s.setWord (masterKey 1 Reg.SXT_WIN) 0x80000004

/-- The words that follow an offset and a byte count. -/
def wordsBytesVar (p : List Word) : Bool := decide (2 ≤ p.length ∧ p.length = 2 + (pn p 1 + 3) / 4)

/-- STAGE_WRITE: BUSY from the acceptance of a restore until its boundary. -/
def execCmdStageWrite (t : Nat) (c : Entry) (s : State) : Out :=
  .next (s.pilotCmd t c 0x0506 wordsBytesVar false false fun p s =>
    needs (stageRange p) s
      (if s.sxt.restore.isSome then (.st stBusy, s)
       else (.ok, (p.drop 2).zipIdx.foldl (fun s (w, j) => s.sxtWinWrite (0x85000 + pn p 0 + 4 * j) w) s.passBoundary.stageWin)))

/-- STAGE_READ. -/
def execCmdStageRead (t : Nat) (c : Entry) (s : State) : Out :=
  .next (s.pilotCmd t c 0x0507 (wordsN 2) false false fun p s =>
    needs (stageRange p) s
      (.data ((List.range (pn p 1 / 4)).map fun i => s.sxtWinRead (0x85000 + pn p 0 + 4 * i)), s.stageWin))

/-- EXPORT_LEARNED (R235). -/
def execCmdExportLearned (t : Nat) (c : Entry) (s : State) : Out :=
  .next (s.pilotCmd t c 0x0508 (wordsN 0) false false fun _ s => s.atBoundary fun s => s.lrnctlBit 3)

/-- ACCEPT_NOMINAL (R233). -/
def execCmdAcceptNominal (t : Nat) (c : Entry) (s : State) : Out :=
  .next (s.pilotCmd t c 0x0509 (wordsN 0) false false fun _ s => s.atBoundary fun s => s.lrnctlBit 2)

/-- JOURNAL_SAVE: answered when its save completes (R229, R230); STATE in host mode, and before the first accepted APPLY, when no save
can start (R226). -/
def execCmdJournalSave (t : Nat) (c : Entry) (s : State) : Out :=
  .next (s.pilotCmd t c 0x050A (wordsN 0) false false fun _ s =>
    needsState s.journalMode s (.wait (.save s.sxt.save.isSome), s.lrnctlBit 0))

/-! ## Azimuth (Table 17-8) -/

/-- AZM_PLAN. -/
def execCmdAzmPlan (t : Nat) (c : Entry) (s : State) : Out :=
  .next (s.pilotCmd t c 0x0600 (wordsN 10) false false fun p s =>
    let n := pn p 0
    needs (decide (n < 16)) s
      (s.setImages ((Reg.AZM_PLAN_HDR n, pw p 1) :: (List.range 8).map fun k => (Reg.AZM_PLAN_T n k, pw p (2 + k)))))

/-- AZM_CAL. -/
def execCmdAzmCal (t : Nat) (c : Entry) (s : State) : Out :=
  .next (s.pilotCmd t c 0x0601 (wordsN 11) false false fun p s =>
    let d := pn p 0
    needs (decide (d < 4)) s
      (s.setImages ([(Reg.AZM_CALA d, pw p 1), (Reg.AZM_CALB d, pw p 2)] ++
        (List.range 8).map fun j => (Reg.AZM_TCAL d j, pw p (3 + j)))))

/-- AZM_APPLY (R240). -/
def execCmdAzmApply (t : Nat) (c : Entry) (s : State) : Out :=
  .next (s.pilotCmd t c 0x0602 (wordsN 0) false false fun _ s => s.atBoundary fun s => s.azmctlWrite (s.word Reg.AZM_CTL ||| 1))

/-- AZM_CFG. -/
def execCmdAzmCfg (t : Nat) (c : Entry) (s : State) : Out :=
  .next (s.pilotCmd t c 0x0603 (wordsN 3) false false fun p s =>
    needs (!(pw p 0).getLsbD 0) s (s.setImages [(Reg.AZM_CTL, pw p 0), (Reg.AZM_TCFG, pw p 1), (Reg.AZM_PTHR, pw p 2)]))

/-- AZM_STATUS. -/
def execCmdAzmStatus (t : Nat) (c : Entry) (s : State) : Out :=
  .next (s.pilotCmd t c 0x0604 (wordsN 0) false false fun _ s => s.answerRegs [Reg.AZM_STS, Reg.AZM_EXCSTS, Reg.AZM_CNT])

/-! ## Balancing (Table 17-9) -/

/-- BAL_SETUP. -/
def execCmdBalSetup (t : Nat) (c : Entry) (s : State) : Out :=
  .next (s.pilotCmd t c 0x0700 (wordsN 5) false false fun p s =>
    s.setImages [(Reg.BAL_CTL, pw p 0), (Reg.BAL_CFG, pw p 1), (Reg.BAL_THR, pw p 2), (Reg.BAL_TDER, pw p 3), (Reg.BAL_RWINIT, pw p 4)])

/-- BAL_MANUAL (R271). -/
def execCmdBalManual (t : Nat) (c : Entry) (s : State) : Out :=
  .next (s.pilotCmd t c 0x0701 (wordsVar 2 1) false false fun p s =>
    let k := pn p 0
    let n := pn p 1
    needs (decide (1 ≤ n ∧ n ≤ 48 ∧ k + n ≤ 48) && (p.drop 2).all fun w => decide (w.toNat < 0x10000)) s
      (.ok, (p.drop 2).zipIdx.foldl (fun s (w, j) => s.busWrite 1 (Reg.BAL_MAN (k + j)) w) s))

/-- BAL_STATUS. -/
def execCmdBalStatus (t : Nat) (c : Entry) (s : State) : Out :=
  .next (s.pilotCmd t c 0x0702 (wordsN 2) false false fun p s =>
    needs (decide (1 ≤ pn p 1 ∧ pn p 1 ≤ 48 ∧ pn p 0 + pn p 1 ≤ 48)) s
      (s.answerRegs ([Reg.BAL_STS, Reg.BAL_MODE] ++ offsets (Reg.BAL_TILE (pn p 0)) (pn p 1) 4)))

/-! ## Helm and dispatch (Table 17-10) -/

/-- HLM_SETUP. -/
def execCmdHlmSetup (t : Nat) (c : Entry) (s : State) : Out :=
  .next (s.pilotCmd t c 0x0800 (wordsN 4) true false fun p s =>
    let l := [(Reg.HLM_CARRIER, pw p 0), (Reg.HLM_LEGS, pw p 1), (Reg.HLM_DLIM, pw p 2), (Reg.HLM_IRATED, pw p 3)]
    needs (imagesOk l) s (needsState (!s.helmRun) s (.ok, s.images l)))

/-- HLM_ANALOG. -/
def execCmdHlmAnalog (t : Nat) (c : Entry) (s : State) : Out :=
  .next (s.pilotCmd t c 0x0801 (wordsN 3) false false fun p s =>
    let n := pn p 0
    needs (decide (n ≤ 10)) s (s.setImages [(Reg.HLM_AGAIN n, pw p 1), (Reg.HLM_AOFS n, pw p 2)]))

/-- HLM_COEF: answered when HLM_COEFCNT has risen by N (R416). -/
def execCmdHlmCoef (t : Nat) (c : Entry) (s : State) : Out :=
  .next (s.pilotCmd t c 0x0802 (wordsVar 1 2) false false fun p s =>
    let n := pn p 0
    let prs := (List.range n).map fun i => (pn p (1 + 2 * i), pw p (2 + 2 * i))
    needs (decide (1 ≤ n ∧ n ≤ 8) && prs.all fun x => decide (x.1 < 8) && (Fl.ofWord x.2).isFinite) s
      (needsState (s.flag F.HLM_CTL_CEN) s
        (.wait (.coef ((s.word Reg.HLM_COEFCNT).toNat + n)), prs.foldl (fun s x => s.coefWrite x.1 x.2) s)))

/-- HLM_RUN: CEN and VLOOP first, then RUN, after the carrier's first period when CEN was 0. -/
def execCmdHlmRun (t : Nat) (c : Entry) (s : State) : Out :=
  .next (s.pilotCmd t c 0x0803 (wordsN 1) true true fun p s =>
    let w := pw p 0
    needs (decide ((w &&& 0x1FFFFFFF#32) = 0)) s
      (let was := s.flag F.HLM_CTL_CEN
       let keep := w.getLsbD 31 && s.helmRun
       let s := s.hlmctlWrite (setBits ((s.word Reg.HLM_CTL &&& 0x1FFFFFFF#32) ||| (w &&& 0x60000000#32)) 31 1 (b2n keep))
       if !w.getLsbD 31 || s.helmRun then (.data [s.word Reg.HLM_CTL], s)
       else if !was && s.flag F.HLM_CTL_CEN then (.wait (.carrier (s.hlm.carrierAt + tcNs s.hlm.cper)), s)
       else
         let s := s.helmRunReq
         (if s.helmRun then .data [s.word Reg.HLM_CTL] else .st stState, s)))

/-- HLM_SETPOINT: class first, then the present values (R302). -/
def execCmdHlmSetpoint (t : Nat) (c : Entry) (s : State) : Out :=
  .next (s.pilotCmd t c 0x0804 (wordsN 5) true true fun p s =>
    let b := pw p 0
    needs (decide (pn p 0 ≤ 0xF ∧ (b.getLsbD 0 = false ∨ pn p 1 ≤ 2))) s
      (let s := s.when (b.getLsbD 0 && pn p 1 != s.fld F.HLM_CTL_CLASS) fun s => s.spWrite 2 (pw p 1) false
       let s := s.when (b.getLsbD 1) fun s => s.spWrite 0 (pw p 2) false
       let s := s.when (b.getLsbD 2) fun s => s.spWrite 1 (pw p 3) false
       (.ok, s.when (b.getLsbD 3) fun s => s.spWrite 3 (pw p 4) false)))

/-- HLM_LIMITS. -/
def execCmdHlmLimits (t : Nat) (c : Entry) (s : State) : Out :=
  .next (s.pilotCmd t c 0x0805 (wordsN 3) false false fun p s =>
    s.setImages [(Reg.HLM_SLEW, pw p 0), (Reg.HLM_IMAG, pw p 1), (Reg.HLM_RECON, pw p 2)])

/-- HLM_DISPATCH. -/
def execCmdHlmDispatch (t : Nat) (c : Entry) (s : State) : Out :=
  .next (s.pilotCmd t c 0x0806 (wordsN 3) false false fun p s =>
    s.setImages [(Reg.HLM_DSPCFG, pw p 0), (Reg.HLM_DSPK, pw p 1), (Reg.HLM_DSPX0, pw p 2)])

/-- DSP_SETUP. -/
def execCmdDspSetup (t : Nat) (c : Entry) (s : State) : Out :=
  .next (s.pilotCmd t c 0x0807 (wordsN 7) false false fun p s =>
    s.setImages [(Reg.DSP_CTL, pw p 0), (Reg.DSP_CFG, pw p 1), (Reg.DSP_THOT, pw p 2), (Reg.DSP_TCOLD, pw p 3), (Reg.DSP_SWLIMD, pw p 4),
      (Reg.DSP_SWLIMC, pw p 5), (Reg.DSP_AVID, pw p 6)])

/-- COOL_SETUP. -/
def execCmdCoolSetup (t : Nat) (c : Entry) (s : State) : Out :=
  .next (s.pilotCmd t c 0x0808 (wordsN 4) false false fun p s =>
    let k := pn p 0
    needs (decide (k < 4)) s
      (s.setImages [(Reg.DSP_COOLCFG k, pw p 1), (Reg.DSP_COOLCRV k, pw p 2), (Reg.DSP_COOLFREQ, pw p 3)]))

/-- COOL_FLOOR (R319). -/
def execCmdCoolFloor (t : Nat) (c : Entry) (s : State) : Out :=
  .next (s.pilotCmd t c 0x0809 (wordsN 1) false false fun p s => s.setImages [(Reg.DSP_COOLMAN, pw p 0)])

/-- HVAC_SETUP. -/
def execCmdHvacSetup (t : Nat) (c : Entry) (s : State) : Out :=
  .next (s.pilotCmd t c 0x080A (wordsN 3) false false fun p s =>
    s.setImages [(Reg.DSP_HVCFG, pw p 0), (Reg.DSP_HVID, pw p 1), (Reg.DSP_HVSTID, pw p 2)])

/-- HLM_STATUS. -/
def execCmdHlmStatus (t : Nat) (c : Entry) (s : State) : Out :=
  .next (s.pilotCmd t c 0x080B (wordsN 0) false false fun _ s =>
    s.answerRegs ([Reg.HLM_CTL, Reg.HLM_STS] ++ offsets Reg.HLM_IREF 7 4 ++ [Reg.DSP_ILIMD, Reg.DSP_ILIMC]))

end Sys2Proof.Machine
end

