-- ==== Sys2Proof/Machine/PilotSystem.lean ====
section
/-! DEFINITION. The system, time, acquisition and Almanac commands of Pilot (17_pilot_commands.md, Tables 17-2 to 17-6). -/

namespace Sys2Proof.Machine

/-! ## System (Table 17-2) -/

/-- The opcodes of the command set. -/
def knownOps : List Nat :=
  let run := fun (base n : Nat) => (List.range n).map fun i => base + i
  run 0x0100 13 ++ run 0x0200 5 ++ run 0x0300 7 ++ run 0x0400 7 ++ run 0x0500 11 ++ run 0x0600 5 ++ run 0x0700 3 ++ run 0x0800 12 ++
    run 0x0900 5 ++ run 0x0A00 2 ++ run 0x0B00 7 ++ run 0x0C00 6 ++ run 0x0D00 3 ++ run 0x0E00 9

/-- UNKNOWN_COMMAND. -/
def execCmdUnknownCommand (t op : Nat) (c : Entry) (s : State) : Out :=
  let s := s.at t
  let ws := entryWords c.tag c.len op c.w1lo (entryPs c)
  .next (if knownOps.contains op || !s.pilotTakes c.iss ws then s
    else (s.takeEntry c.iss ws).respond c.iss c.tag op (if lenOk c.len then stUnknown else stMalformed) [])

/-- GET_INFO. -/
def execCmdGetInfo (t : Nat) (c : Entry) (s : State) : Out :=
  .next (s.pilotCmd t c 0x0100 (wordsN 0) false false fun _ s =>
    (.data [s.word Reg.SYS_DEVID, 1, s.word (Reg.UPD_VER 0), nw (s.fld F.UPD_STS_RUNBANK), s.word (Reg.SEC_SERIAL 0),
      s.word (Reg.SEC_SERIAL 1)], s))

/-- ECHO. -/
def execCmdEcho (t : Nat) (c : Entry) (s : State) : Out :=
  .next (s.pilotCmd t c 0x0101 (fun p => decide (p.length ≤ 62)) false false fun p s => (.data p, s))

/-- READ_REG. -/
def execCmdReadReg (t : Nat) (c : Entry) (s : State) : Out :=
  .next (s.pilotCmd t c 0x0102 (wordsN 2) false false fun p s =>
    needs (decide (pn p 0 % 4 = 0 ∧ 1 ≤ pn p 1 ∧ pn p 1 ≤ 60 ∧ pn p 0 + 4 * pn p 1 ≤ 0x100000)) s
      (let r := s.regReads (issuerMaster c.iss) (offsets (pn p 0) (pn p 1) 4)
       (.data r.1, r.2)))

/-- WRITE_REG: a misaligned address falls under R14. -/
def execCmdWriteReg (t : Nat) (c : Entry) (s : State) : Out :=
  .next (s.pilotCmd t c 0x0103 (wordsVar 2 1) true false fun p s =>
    needs (decide (1 ≤ pn p 1 ∧ pn p 1 ≤ 60 ∧ pn p 0 + 4 * pn p 1 ≤ 0x100000)) s
      (.ok, s.burstWrite (issuerMaster c.iss) .bar0 (pn p 0) (p.drop 2)))

/-- SET_PROFILE: a code other than the one held is a profile selection, which waits for its boundary (R44). -/
def execCmdSetProfile (t : Nat) (c : Entry) (s : State) : Out :=
  .next (s.pilotCmd t c 0x0104 (wordsN 1) false false fun p s =>
    needs (decide ((pw p 0 &&& 0xFFFFFEF8#32) = 0 ∧ getBits (pw p 0) 0 3 ≤ 4)) s
      (if getBits (pw p 0) 0 3 = s.fld F.SYS_PROFILE_PROFILE then (.ok, s.profileWrite (pw p 0))
       else s.atBoundary fun s => s.profileWrite (pw p 0)))

/-- SET_OVERRIDE: checked against the profile requested, the overrides in force and those accepted for the boundary (R45). -/
def execCmdSetOverride (t : Nat) (c : Entry) (s : State) : Out :=
  .next (s.pilotCmd t c 0x0105 (wordsN 2) false false fun p s =>
    let id := pn p 0
    let v := pn p 1
    needs (decide (1 ≤ id ∧ id ≤ 5 ∧ (id ≠ 3 ∨ v ≤ 500) ∧ (id < 4 ∨ v ≤ 1))) s
      (needsState (s.flag F.SYS_EPOCHCTL_EN) s
        (let others := s.ep.ovrNew.reverse ++ (if s.ep.ovrClear then [] else s.ep.ovr)
         if s.ovrOk (s.fld F.SYS_PROFILE_PROFILE) others ⟨id, v⟩ then
           s.atBoundary fun s => { s with ep := { s.ep with ovrNew := s.ep.ovrNew ++ [⟨id, v⟩] } }
         else
           let s := s.raiseEv F.SYS_EPOCHSTS_CFG_REJECT
           (s.rejected Reg.SYS_EPOCHSTS, s))))

/-- CLEAR_OVERRIDES. -/
def execCmdClearOverrides (t : Nat) (c : Entry) (s : State) : Out :=
  .next (s.pilotCmd t c 0x0106 (wordsN 0) false false fun _ s =>
    s.atBoundary fun s => { s with ep := { s.ep with ovrClear := true, ovrNew := [] } })

/-- SET_EPOCH. -/
def execCmdSetEpoch (t : Nat) (c : Entry) (s : State) : Out :=
  .next (s.pilotCmd t c 0x0107 (wordsN 1) false false fun p s => s.setImages [(Reg.SYS_EPOCHCTL, pw p 0)])

/-- GET_STATUS. -/
def execCmdGetStatus (t : Nat) (c : Entry) (s : State) : Out :=
  .next (s.pilotCmd t c 0x0108 (wordsN 0) false false fun _ s =>
    s.answerRegs ([Reg.SYS_EPOCHNUM, Reg.SYS_PROFILE, Reg.RDN_STS, Reg.LDS_TRIP, Reg.LDS_DRM] ++ offsets (Reg.TRV_RINGSTS 0) 4 4 ++
      [Reg.HOST_IRQSTS]))

/-- MBX_RELAY (R412). -/
def execCmdMbxRelay (t : Nat) (c : Entry) (s : State) : Out :=
  .next (s.pilotCmd t c 0x0109 (wordsN 2) false false fun p s =>
    let n := pn p 0
    needs (decide (n ≤ 3)) s
      (needsState (ringMaster c.iss).isSome s
        (if n < 3 then
          let s := s.mailTake n
          (.ok, s.modPilot fun q => { q with rx := (n, pw p 1) :: q.rx })
         else if !s.flag (h2dFull 3) then (.ok, s.h2dWrite 3 (pw p 1))
         else if 16 ≤ s.pilot.relay.length then (.st stBusy, s)
         else (.ok, s.modPilot fun q => { q with relay := q.relay ++ [pw p 1] }))))

/-- The epoch an issuer awaits (R383). -/
def State.issuerAwait (s : State) (src : Issuer) : Word :=
  match src with
  | .pcie => s.word (Reg.SYS_AWAIT 3)
  | .hspi => s.word (Reg.SYS_AWAIT 4)
  | .session k => (s.session k).await

/-- STATE_READ (R413). -/
def execCmdStateRead (t : Nat) (c : Entry) (s : State) : Out :=
  .next (s.pilotCmd t c 0x010A (wordsN 2) false false fun p s =>
    needs (decide (pn p 0 % 4 = 0 ∧ 1 ≤ pn p 1 ∧ pn p 1 ≤ 60 ∧ pn p 0 + 4 * pn p 1 ≤ 0x10000)) s
      (.data ((List.range (pn p 1)).map fun i => s.spaceRead (s.issuerAwait c.iss) (pn p 0 / 4 + i)), s))

/-- SET_AWAIT. -/
def execCmdSetAwait (t : Nat) (c : Entry) (s : State) : Out :=
  .next (s.pilotCmd t c 0x010B (wordsN 1) false false fun p s =>
    (.ok, match c.iss with
      | .pcie => s.setWord (Reg.SYS_AWAIT 3) (pw p 0)
      | .hspi => s.setWord (Reg.SYS_AWAIT 4) (pw p 0)
      | .session k => s.setSession k { s.session k with await := pw p 0 }))

/-- SET_NET: the port's addresses, and its sessions close. -/
def execCmdSetNet (t : Nat) (c : Entry) (s : State) : Out :=
  .next (s.pilotCmd t c 0x010C (wordsN 4) true false fun p s =>
    needs (decide (pn p 0 ≤ 1)) s
      (let s := s.modPilot fun q => { q with net := Store.putAll zeroWord q.net (3 * pn p 0) (p.drop 1) }
       (.ok, (List.range 4).foldl (fun s k => s.when ((s.session k).open_ && (s.session k).port == pn p 0) fun s => s.closeSession k) s)))

/-! ## Time (Table 17-4) -/

/-- GET_TIME: every value from one capture. -/
def execCmdGetTime (t : Nat) (c : Entry) (s : State) : Out :=
  .next (s.pilotCmd t c 0x0200 (wordsN 0) false false fun _ s =>
    (.data [nw s.dial, nw (s.dial / 2 ^ 32), nw s.merSec, nw (s.merSec / 2 ^ 32 % 0x10000), nw s.merSub, nw s.calMs,
      nw (s.calMs / 2 ^ 32), s.word Reg.TIME_PTPSTS, nw s.uncert], s))

/-- SET_CALENDAR (R63, R66). -/
def execCmdSetCalendar (t : Nat) (c : Entry) (s : State) : Out :=
  .next (s.pilotCmd t c 0x0201 (wordsN 2) false false fun p s =>
    needs (decide (pn p 1 < 0x10000)) s
      (needsState (s.time.servo != .locked) s
        (.ok, ({ s with time := { s.time with
          rtc := (pn p 0 + 2 ^ 32 * pn p 1) * 1000000000000, rtcRun := true, rtcValid := true, calFloor := 0 } }).setFld
            F.TIME_PTPSTS_CAL_VALID 1)))

/-- SET_PTP. -/
def execCmdSetPtp (t : Nat) (c : Entry) (s : State) : Out :=
  .next (s.pilotCmd t c 0x0202 (wordsN 3) false false fun p s =>
    s.setImages [(Reg.TIME_PTPCTL, pw p 0), (Reg.TIME_STEPTHR, pw p 1), (Reg.TIME_UNCERTLIM, pw p 2)])

/-- SET_RATE. -/
def execCmdSetRate (t : Nat) (c : Entry) (s : State) : Out :=
  .next (s.pilotCmd t c 0x0203 (wordsN 1) false false fun p s =>
    needsState (s.time.servo == .free && !s.flag F.TIME_PTPCTL_PTPEN) s (.ok, s.rateWrite (pw p 0)))

/-- SET_UTCOFS. -/
def execCmdSetUtcofs (t : Nat) (c : Entry) (s : State) : Out :=
  .next (s.pilotCmd t c 0x0204 (wordsN 1) false false fun p s =>
    needs (decide (pn p 0 < 0x10000)) s (.ok, s.setFld F.TIME_CALCTL_UTCOFS (pn p 0)))

/-! ## Acquisition and traverse (Table 17-5) -/

/-- SET_TILES. -/
def execCmdSetTiles (t : Nat) (c : Entry) (s : State) : Out :=
  .next (s.pilotCmd t c 0x0300 (wordsVar 2 2) true false fun p s =>
    let k := pn p 0
    let n := pn p 1
    needs (decide (1 ≤ n ∧ n ≤ 30 ∧ k + n ≤ 48)) s
      (s.setImages ((List.range n).flatMap fun i =>
        [(Reg.ACQ_TILECFG (k + i), pw p (2 + 2 * i)), (Reg.ACQ_TMAP (k + i), pw p (3 + 2 * i))])))

/-- APPLY_TOPOLOGY (R109). -/
def execCmdApplyTopology (t : Nat) (c : Entry) (s : State) : Out :=
  .next (s.pilotCmd t c 0x0301 (wordsN 1) true false fun p s =>
    needs (decide (pn p 0 ≤ 0x3FF)) s
      (needsState (s.fld F.TRV_CTL_EN == 0) s
        (let s1 := s.acqctlWrite (nw (65536 * pn p 0 + 1))
         (if (s.setFld F.ACQ_CTL_NPOS (pn p 0)).applyOk then .ok else s1.rejected Reg.ACQ_STS, s1))))

/-- RINGS: the first since reset starts the count to start-up complete (R446). -/
def execCmdRings (t : Nat) (c : Entry) (s : State) : Out :=
  .next (s.pilotCmd t c 0x0302 (wordsN 1) true false fun p s =>
    needs (decide (pn p 0 ≤ 0xF)) s
      (let s : State := { s with upd := { s.upd with ringsAt := some (s.upd.ringsAt.getD (s.dial, pn p 0)) } }
       (.ok, s.trvctlWrite (pw p 0))))

/-- SET_MOD. -/
def execCmdSetMod (t : Nat) (c : Entry) (s : State) : Out :=
  .next (s.pilotCmd t c 0x0303 (wordsN 7) false false fun p s =>
    s.setImages ((Reg.ACQ_MODCFG, pw p 0) :: (List.range 2).flatMap fun i =>
      [(Reg.ACQ_MODDLY i, pw p (1 + 3 * i)), (Reg.ACQ_MODGAIN i, pw p (2 + 3 * i)), (Reg.ACQ_MODOFS i, pw p (3 + 3 * i))]))

/-- SET_CHECKS: the new response timing must pass R143 at the rate in force. -/
def execCmdSetChecks (t : Nat) (c : Entry) (s : State) : Out :=
  .next (s.pilotCmd t c 0x0304 (wordsN 5) false false fun p s =>
    let u := s.setWord Reg.TRV_SLOTCFG (pw p 4)
    needs (decide (u.tminFor u.ovs * s.snapRate ≤ 1000000) && u.slotFits u.nmaxCells) s
      (s.setImages [(Reg.ACQ_CURTOL, pw p 0), (Reg.ACQ_SUMCFG, pw p 1), (Reg.ACQ_PLCFG, pw p 2), (Reg.ACQ_OWCFG, pw p 3),
        (Reg.TRV_SLOTCFG, pw p 4)]))

/-- OW_RETEST. -/
def execCmdOwRetest (t : Nat) (c : Entry) (s : State) : Out :=
  .next (s.pilotCmd t c 0x0305 (wordsN 1) false false fun p s =>
    needs (decide (pn p 0 < 48)) s
      (needsState (s.owCnf (pn p 0) != 0) s (.ok, s.owcmdWrite (nw (65536 * pn p 0 + 1)))))

/-- GET_RING. -/
def execCmdGetRing (t : Nat) (c : Entry) (s : State) : Out :=
  .next (s.pilotCmd t c 0x0306 (wordsN 1) false false fun p s =>
    let r := pn p 0
    needs (decide (r ≤ 3)) s
      (s.answerRegs ([Reg.TRV_RINGSTS r, Reg.TRV_PORTSTS (2 * r), Reg.TRV_PORTSTS (2 * r + 1)] ++ offsets (Reg.TRV_HOPDLY (24 * r)) 24 4)))

/-! ## Almanac (Table 17-6) -/

/-- ALM_LOAD: the program load, then the three images (R414). -/
def execCmdAlmLoad (t : Nat) (c : Entry) (s : State) : Out :=
  .next (s.pilotCmd t c 0x0400 (wordsN 3) false false fun p s =>
    let l := [(Reg.ALM_PMLEN, pw p 0), (Reg.ALM_PMEXP, pw p 1), (Reg.ALM_START, pw p 2)]
    needs (imagesOk l) s (.ok, s.almLoad.images l))

/-- ALM_WRITE. -/
def execCmdAlmWrite (t : Nat) (c : Entry) (s : State) : Out :=
  .next (s.pilotCmd t c 0x0401 (wordsVar 2 1) false false fun p s =>
    let i := pn p 0
    let n := pn p 1
    needs (decide (1 ≤ n ∧ n ≤ 60 ∧ i + n ≤ 65536)) s
      (needsState (!s.flag F.ALM_CTL_RUN) s
        (let s := s.setFld F.ALM_PMPAGE_PAGE ((i + n - 1) / 32768)
         (.ok, (p.drop 2).zipIdx.foldl (fun s (w, j) => s.pmWrite (i + j) w) s))))

/-- ALM_START (R181). -/
def execCmdAlmStart (t : Nat) (c : Entry) (s : State) : Out :=
  .next (s.pilotCmd t c 0x0402 (wordsN 0) false true fun _ s =>
    let s1 := s.almStart
    (if s.flag F.ALM_CTL_RUN ∨ s.pmCrc ≠ s.word Reg.ALM_PMEXP then s1.rejected Reg.ALM_STS else .ok, s1))

/-- A range of data memory words (R151). -/
def dmRange (a n : Nat) : Bool := decide (a % 4 = 0 ∧ 1 ≤ n ∧ n ≤ 60 ∧ a + 4 * n ≤ 0x20000)

/-- ALM_DREAD. -/
def execCmdAlmDread (t : Nat) (c : Entry) (s : State) : Out :=
  .next (s.pilotCmd t c 0x0403 (wordsN 2) false false fun p s =>
    needs (dmRange (pn p 0) (pn p 1)) s (.data ((List.range (pn p 1)).map fun i => s.dmRead (pn p 0 / 4 + i)), s))

/-- ALM_DWRITE. -/
def execCmdAlmDwrite (t : Nat) (c : Entry) (s : State) : Out :=
  .next (s.pilotCmd t c 0x0404 (wordsVar 2 1) false false fun p s =>
    needs (dmRange (pn p 0) (pn p 1)) s (.ok, (p.drop 2).zipIdx.foldl (fun s (w, j) => s.dmWrite (pn p 0 / 4 + j) w) s))

/-- ALM_FLAGS: sets and clears in one cycle, so a flag in both ends set (R186). -/
def execCmdAlmFlags (t : Nat) (c : Entry) (s : State) : Out :=
  .next (s.pilotCmd t c 0x0405 (wordsN 4) false false fun p s =>
    let s := ((s.evRegWrite (Reg.ALM_EVSET 0) (pw p 0)).evRegWrite (Reg.ALM_EVSET 1) (pw p 1))
    (.ok, (s.evRegWrite (Reg.ALM_EVCLR 0) (pw p 2)).evRegWrite (Reg.ALM_EVCLR 1) (pw p 3)))

/-- ALM_STATUS. -/
def execCmdAlmStatus (t : Nat) (c : Entry) (s : State) : Out :=
  .next (s.pilotCmd t c 0x0406 (wordsN 2) false false fun p s =>
    needs (decide (1 ≤ pn p 1 ∧ pn p 1 ≤ 58 ∧ pn p 0 + pn p 1 ≤ 64)) s
      (s.answerRegs ([Reg.ALM_STS, Reg.ALM_FAULT, Reg.ALM_PIPES] ++ offsets (Reg.ALM_WATCH (pn p 0)) (pn p 1) 4)))

end Sys2Proof.Machine
end

