-- ==== Sys2Proof/Machine/PilotUpdate.lean ====
section
/-! DEFINITION. The update commands of Pilot, the service pause and the confirmation window (17_pilot_commands.md, Table 17-14; 19_update_boot.md). -/

namespace Sys2Proof.Machine

/-! ## Staging (R448) -/

/-- The slot of kind k in bank b is erased: 1 MB. -/
def State.eraseSlot (s : State) (b k : Nat) : State :=
  let lo := imageAddr b k / 4
  s.modUpd fun u => { u with flash := u.flash.filter fun e => !(decide (lo ≤ e.1 ∧ e.1 < lo + 0x40000)) }

/-- Is another issuer staging? -/
def State.stageBusy (s : State) (src : Issuer) : Bool :=
  match s.upd.stage with
  | some x => x.src != src
  | none => false

/-- The staging of an issuer, with nothing of another's. -/
def State.stageOf (s : State) (src : Issuer) : Option Stage := s.upd.stage.filter fun x => x.src == src

/-- UPD_BEGIN: into the slot of its kind in the bank that is not running. -/
def execCmdUpdBegin (t : Nat) (c : Entry) (s : State) : Out :=
  .next (s.pilotCmd t c 0x0C00 (wordsN 3) false false fun p s =>
    let k := pn p 0
    needs (decide (1 ≤ k ∧ k ≤ 5 ∧ 1 ≤ pn p 1 ∧ pn p 1 ≤ 288 + maxPayload k)) s
      (needsState (!s.flag F.UPD_STS_PENDING) s
        (if s.stageBusy c.iss then (.st stBusy, s)
         else
           let s := s.eraseSlot s.stageBank k
           let s := (s.setFld F.UPD_STAGED_DONE (s.fld F.UPD_STAGED_DONE &&& (31 ^^^ 2 ^ (k - 1)))).setFld F.UPD_STAGED_KIND k
           (.ok, s.modUpd fun u => { u with stage := some { src := c.iss, kind := k, len := pn p 1, ver := pw p 2 } }))))

/-- UPD_WRITE. -/
def execCmdUpdWrite (t : Nat) (c : Entry) (s : State) : Out :=
  .next (s.pilotCmd t c 0x0C01 (fun p => decide (2 ≤ p.length ∧ (4 ≤ pn p 1 → pn p 1 ≤ 240 → p.length = 2 + (pn p 1 + 3) / 4)))
    false false fun p s =>
    needs (decide (4 ≤ pn p 1 ∧ pn p 1 ≤ 240)) s
      (match s.stageOf c.iss with
       | none => (.st stState, s)
       | some x =>
         needs (decide (pn p 0 + pn p 1 ≤ x.len)) s
           (.ok, s.flashWrite (imageAddr s.stageBank x.kind + pn p 0) ((wordsBytes (p.drop 2)).take (pn p 1)))))

/-- UPD_END: the staged image is verified from the flash. -/
def execCmdUpdEnd (t : Nat) (c : Entry) (s : State) : Out :=
  .next (s.pilotCmd t c 0x0C02 (wordsN 0) false false fun _ s =>
    (match s.stageOf c.iss with
     | none => (.st stState, s)
     | some x =>
       let s1 := (s.setFld F.UPD_STAGED_KIND 0).modUpd fun u => { u with stage := none }
       if s.imageOk s.stageBank x.kind then
         (.data [nw x.kind], s1.setFld F.UPD_STAGED_DONE (s.fld F.UPD_STAGED_DONE ||| 2 ^ (x.kind - 1)))
       else (.st stVerify, s1.raiseEv F.UPD_STS_VERIFY_FAIL)))

/-! ## ACTIVATE and COMMIT (R417, R449 to R458) -/

/-- ACTIVATE: in recovery mode a boot record and a reset 10 ms later; otherwise the ramp of a running converter, then the pause. -/
def execCmdActivate (t : Nat) (c : Entry) (s : State) : Out :=
  .next (s.pilotCmd t c 0x0C03 (wordsN 0) false false fun _ s =>
    needsState (s.fld F.UPD_STAGED_DONE == 31) s
      (if s.flag F.UPD_STS_RECOVERY then
         (.data [0], (s.writeRecord s.stageBank 0).modUpd fun u => { u with resetAt := some (s.dial + 10000000) })
       else needsState s.activateMay s
         (if s.helmRun then (.wait (.ramp s.dial), (s.spWrite 2 2 false).spWrite 0 0 false)
          else (.wait .pause, s.pauseStart))))

/-- ACTIVATE_RAMP_TIMEOUT: 60 s after ACTIVATE the reference has not reached 0. -/
def execActivateRampTimeout (t : Nat) (s : State) : Out :=
  let s := (s.at t).rampCheck
  .next (s.answerAll fun s w => match w.what with
    | .ramp a => if a + 60000000000 ≤ s.dial then some (stTimeout, []) else none
    | _ => none)

/-- COMMIT: within the confirmation window. -/
def execCmdCommit (t : Nat) (c : Entry) (s : State) : Out :=
  .next (s.pilotCmd t c 0x0C04 (wordsN 0) false false fun _ s =>
    needsState (s.flag F.UPD_STS_PENDING && (match s.upd.winEnd with | some e => decide (s.dial < e) | none => false)) s
      (let b := s.fld F.UPD_STS_RUNBANK
       let s := ((s.writeRecord b 0).setFld F.UPD_STS_PENDING 0).modUpd fun u => { u with winEnd := none }
       let s := (s.setFld F.UPD_WINLEFT_SEC 0).setFld F.SEC_MINVER_MINVER (max (s.fld F.SEC_MINVER_MINVER) (s.bankSecver b))
       (.ok, s.logEvent 0x0F03 0 0 [nw b, nw (s.fld F.SEC_MINVER_MINVER)])))

/-- UPD_STATUS: UPD_STS, UPD_STAGED, UPD_VER1 to UPD_VER5, UPD_WINLEFT, UPD_PAUSE. -/
def execCmdUpdStatus (t : Nat) (c : Entry) (s : State) : Out :=
  .next (s.pilotCmd t c 0x0C05 (wordsN 0) false false fun _ s =>
    s.answerRegs ([Reg.UPD_STS, Reg.UPD_STAGED] ++ offsets (Reg.UPD_VER 0) 5 4 ++ [Reg.UPD_WINLEFT, Reg.UPD_PAUSE]))

/-- BOOT_RECORD_WRITTEN: the record of R454 is complete, and Pilot takes commands again. -/
def execBootRecordWritten (t : Nat) (s : State) : Out :=
  let s := s.at t
  .next (match s.upd.recWrite with
    | some (b, p) => ((s.writeRecord b p).setFld F.UPD_STS_PENDING p).modUpd fun u => { u with recWrite := none }
    | none => s)

/-- CONFIRMATION_WINDOW_CLOSE: 600 s have passed without COMMIT (R455). -/
def execConfirmationWindowClose (t : Nat) (s : State) : Out :=
  let s := s.at t
  .next (match s.upd.winEnd with
    | some e =>
      if e ≤ s.dial then
        (((s.setHeld F.UPD_STS_WINDOW_CLOSED true).setFld F.UPD_WINLEFT_SEC 0).modUpd fun u => { u with winEnd := none }).logEvent
          0x0F04 1 0 [nw (s.fld F.UPD_STS_RUNBANK)]
      else s
    | none => s)

/-! ## The service pause (R450 to R453) -/

/-- PAUSE_RESUMPTION: Binnacle's waves for the contactors are accepted again. UPDATE_HOLD ends, Sextant counts the pause as
unobserved, an epoch whose deadline fell in the pause does not commit. -/
def execPauseResumption (t : Nat) (s : State) : Out :=
  let s := s.at t
  .next (if !s.updPaused then s
    else
      let s := (s.ep.closing.filter fun e => decide (s.commitAt e ≤ s.dial)).foldl (fun s e => s.epochDies e.serial) s
      let s := s.modUpd fun u => { u with resumed := true }
      let s := (s.modLds fun l => { l with binHeld := false }).modSxt fun x => { x with gap := true }
      ((s.setFld F.UPD_STS_HOLD 0).setFld F.LDS_TRIP_BPERMIT_L (s.fld F.LDS_TRIP_BPERMIT_L ||| 3)).outputsEval)

/-- PAUSE_TIMEOUT: 300 ticks after acceptance resumption has not come, and BIN_ABSENT is declared (R452). -/
def execPauseTimeout (t : Nat) (s : State) : Out :=
  let s := s.at t
  .next (if s.updPaused && decide (s.upd.pauseTick + 300 ≤ s.lds.tick) then (s.setFld F.UPD_STS_HOLD 0).binAbsent else s)

end Sys2Proof.Machine
end

