-- ==== Sys2Proof/Machine/Dispatch.lean ====
section
/-! DEFINITION. One arm per command: the meaning it calls. -/

namespace Sys2Proof.Machine

def exec (i : Instr) (s : State) : Host.Outcome State Fault Refusal :=
  match i with
  | .powerOnReset t => Sys2Proof.Machine.execPowerOnReset t s
  | .deviceReset t => Sys2Proof.Machine.execDeviceReset t s
  | .resetRelease t x => Sys2Proof.Machine.execResetRelease t x s
  | .lodestonePowerUpEnd t r0 r1 r2 a b safeB => Sys2Proof.Machine.execLodestonePowerUpEnd t r0 r1 r2 a b safeB s
  | .brownNFall t => Sys2Proof.Machine.execBrownNFall t s
  | .brownNHigh100ms t => Sys2Proof.Machine.execBrownNHigh100ms t s
  | .vbatLow t => Sys2Proof.Machine.execVbatLow t s
  | .pllLock t => Sys2Proof.Machine.execPllLock t s
  | .pllUnlock t => Sys2Proof.Machine.execPllUnlock t s
  | .registerWrite t m sp off bytes v => Sys2Proof.Machine.execRegisterWrite t m sp off bytes v s
  | .timeLowWordRead t m r => Sys2Proof.Machine.execTimeLowWordRead t m r s
  | .portstsRead t m p => Sys2Proof.Machine.execPortstsRead t m p s
  | .wearDataRead t m => Sys2Proof.Machine.execWearDataRead t m s
  | .lockAcquire t m n => Sys2Proof.Machine.execLockAcquire t m n s
  | .lockRelease t m v => Sys2Proof.Machine.execLockRelease t m v s
  | .epochctlWrite t m v => Sys2Proof.Machine.execEpochctlWrite t m v s
  | .profileSelection t m v => Sys2Proof.Machine.execProfileSelection t m v s
  | .epochBoundary t => Sys2Proof.Machine.execEpochBoundary t s
  | .contributionArrival t p => Sys2Proof.Machine.execContributionArrival t p s
  | .epochCommit t => Sys2Proof.Machine.execEpochCommit t s
  | .ptpMessageReceive t msg => Sys2Proof.Machine.execPtpMessageReceive t msg s
  | .ptpSyncReceive t msg gm ofs => Sys2Proof.Machine.execPtpSyncReceive t msg gm ofs s
  | .ptpAnnounceReceive t a => Sys2Proof.Machine.execPtpAnnounceReceive t a s
  | .pdelayReqReceive t msg seq => Sys2Proof.Machine.execPdelayReqReceive t msg seq s
  | .masterLost t => Sys2Proof.Machine.execMasterLost t s
  | .ptpDisable t m => Sys2Proof.Machine.execPtpDisable t m s
  | .holdExceeded t => Sys2Proof.Machine.execHoldExceeded t s
  | .rtcRewrite t trim => Sys2Proof.Machine.execRtcRewrite t trim s
  | .leapSecond t ins => Sys2Proof.Machine.execLeapSecond t ins s
  | .timedActionLaunch t => Sys2Proof.Machine.execTimedActionLaunch t s
  | .carrierValley t x => Sys2Proof.Machine.execCarrierValley t x s
  | .helmDutyLatch t => Sys2Proof.Machine.execHelmDutyLatch t s
  | .carrierStop t => Sys2Proof.Machine.execCarrierStop t s
  | .busReferenceLost t n => Sys2Proof.Machine.execBusReferenceLost t n s
  | .portLinkUp t p => Sys2Proof.Machine.execPortLinkUp t p s
  | .portLinkDown t p => Sys2Proof.Machine.execPortLinkDown t p s
  | .trvCtlWrite t m v => Sys2Proof.Machine.execTrvCtlWrite t m v s
  | .openRingTrainStart t p => Sys2Proof.Machine.execOpenRingTrainStart t p s
  | .enumReturn t p f loopTime => Sys2Proof.Machine.execEnumReturn t p f loopTime s
  | .echorReceive t p rtt f => Sys2Proof.Machine.execEchorReceive t p rtt f s
  | .trainingDone t r => Sys2Proof.Machine.execTrainingDone t r s
  | .armstatPoll t r => Sys2Proof.Machine.execArmstatPoll t r s
  | .ringRestore t r => Sys2Proof.Machine.execRingRestore t r s
  | .lostRing t r => Sys2Proof.Machine.execLostRing t r s
  | .tsyncSend t => Sys2Proof.Machine.execTsyncSend t s
  | .unclaimedFrame t p f => Sys2Proof.Machine.execUnclaimedFrame t p f s
  | .snaprReceive t p crcOk f => Sys2Proof.Machine.execSnaprReceive t p crcOk f s
  | .respReceive t p crcOk f => Sys2Proof.Machine.execRespReceive t p crcOk f s
  | .cmdTimeout t p seq => Sys2Proof.Machine.execCmdTimeout t p seq s
  | .alertReceive t p crcOk f => Sys2Proof.Machine.execAlertReceive t p crcOk f s
  | .alertBootReceive t p f => Sys2Proof.Machine.execAlertBootReceive t p f s
  | .profileInject t r => Sys2Proof.Machine.execProfileInject t r s
  | .sampleFrame t k side f => Sys2Proof.Machine.execSampleFrame t k side f s
  | .tsyncFrame t k side f => Sys2Proof.Machine.execTsyncFrame t k side f s
  | .enumFrame t k side f => Sys2Proof.Machine.execEnumFrame t k side f s
  | .echoFrame t k side residence f => Sys2Proof.Machine.execEchoFrame t k side residence f s
  | .loadFrame t k side f => Sys2Proof.Machine.execLoadFrame t k side f s
  | .loadendFrame t k side f => Sys2Proof.Machine.execLoadendFrame t k side f s
  | .tileBoot t k => Sys2Proof.Machine.execTileBoot t k s
  | .profileFrame t k side f => Sys2Proof.Machine.execProfileFrame t k side f s
  | .tileFrameRelay t k side crcOk f => Sys2Proof.Machine.execTileFrameRelay t k side crcOk f s
  | .tileLinkDown t k side => Sys2Proof.Machine.execTileLinkDown t k side s
  | .alertLinkdown t k side f => Sys2Proof.Machine.execAlertLinkdown t k side f s
  | .tileSnaprSlot t k => Sys2Proof.Machine.execTileSnaprSlot t k s
  | .tileConversion t k c => Sys2Proof.Machine.execTileConversion t k c s
  | .tileComparatorTrip t k => Sys2Proof.Machine.execTileComparatorTrip t k s
  | .tileComparatorRelease t k => Sys2Proof.Machine.execTileComparatorRelease t k s
  | .tileDieHot t k => Sys2Proof.Machine.execTileDieHot t k s
  | .balset t k side f => Sys2Proof.Machine.execBalset t k side f s
  | .tileBalsetExpiry t k => Sys2Proof.Machine.execTileBalsetExpiry t k s
  | .dieTemperatureRead t k side td f => Sys2Proof.Machine.execDieTemperatureRead t k side td f s
  | .armstat t k side f => Sys2Proof.Machine.execArmstat t k side f s
  | .openWireSinks t k side f => Sys2Proof.Machine.execOpenWireSinks t k side f s
  | .tileSinkOn t k => Sys2Proof.Machine.execTileSinkOn t k s
  | .faultLoopLoss t r => Sys2Proof.Machine.execFaultLoopLoss t r s
  | .flFast t r => Sys2Proof.Machine.execFlFast t r s
  | .armedThresholdFault t k => Sys2Proof.Machine.execArmedThresholdFault t k s
  | .acqApply t m v => Sys2Proof.Machine.execAcqApply t m v s
  | .snap t w d => Sys2Proof.Machine.execSnap t w d s
  | .modCodeReady t n seq code => Sys2Proof.Machine.execModCodeReady t n seq code s
  | .modFault t n => Sys2Proof.Machine.execModFault t n s
  | .snapshotClose t seq => Sys2Proof.Machine.execSnapshotClose t seq s
  | .owTestAbandon t k => Sys2Proof.Machine.execOwTestAbandon t k s
  | .owTestWindowEnd t k => Sys2Proof.Machine.execOwTestWindowEnd t k s
  | .owRetestGo t m v => Sys2Proof.Machine.execOwRetestGo t m v s
  | .almAdd t w d a b => Sys2Proof.Machine.execAlmAdd t w d a b s
  | .almSub t w d a b => Sys2Proof.Machine.execAlmSub t w d a b s
  | .almAnd t w d a b => Sys2Proof.Machine.execAlmAnd t w d a b s
  | .almOr t w d a b => Sys2Proof.Machine.execAlmOr t w d a b s
  | .almXor t w d a b => Sys2Proof.Machine.execAlmXor t w d a b s
  | .almSll t w d a b => Sys2Proof.Machine.execAlmSll t w d a b s
  | .almSrl t w d a b => Sys2Proof.Machine.execAlmSrl t w d a b s
  | .almSra t w d a b => Sys2Proof.Machine.execAlmSra t w d a b s
  | .almMul t w d a b => Sys2Proof.Machine.execAlmMul t w d a b s
  | .almMulh t w d a b => Sys2Proof.Machine.execAlmMulh t w d a b s
  | .almMin t w d a b => Sys2Proof.Machine.execAlmMin t w d a b s
  | .almMax t w d a b => Sys2Proof.Machine.execAlmMax t w d a b s
  | .almClamp t w d a b c => Sys2Proof.Machine.execAlmClamp t w d a b c s
  | .almAddi t w d a imm => Sys2Proof.Machine.execAlmAddi t w d a imm s
  | .almAndi t w d a imm => Sys2Proof.Machine.execAlmAndi t w d a imm s
  | .almOri t w d a imm => Sys2Proof.Machine.execAlmOri t w d a imm s
  | .almSlli t w d a sh => Sys2Proof.Machine.execAlmSlli t w d a sh s
  | .almSrli t w d a sh => Sys2Proof.Machine.execAlmSrli t w d a sh s
  | .almSrai t w d a sh => Sys2Proof.Machine.execAlmSrai t w d a sh s
  | .almLui t w d imm => Sys2Proof.Machine.execAlmLui t w d imm s
  | .almLdw t w d a imm => Sys2Proof.Machine.execAlmLdw t w d a imm s
  | .almStw t w d a imm => Sys2Proof.Machine.execAlmStw t w d a imm s
  | .almLds t w d a imm => Sys2Proof.Machine.execAlmLds t w d a imm s
  | .almRdt t w d part tb => Sys2Proof.Machine.execAlmRdt t w d part tb s
  | .almPost t w sel a b => Sys2Proof.Machine.execAlmPost t w sel a b s
  | .almRing t w n => Sys2Proof.Machine.execAlmRing t w n s
  | .almMbxSend t w a => Sys2Proof.Machine.execAlmMbxSend t w a s
  | .almMbxReceive t w d => Sys2Proof.Machine.execAlmMbxReceive t w d s
  | .almBeq t w a b tgt => Sys2Proof.Machine.execAlmBeq t w a b tgt s
  | .almBne t w a b tgt => Sys2Proof.Machine.execAlmBne t w a b tgt s
  | .almBlt t w a b tgt => Sys2Proof.Machine.execAlmBlt t w a b tgt s
  | .almBge t w a b tgt => Sys2Proof.Machine.execAlmBge t w a b tgt s
  | .almBltu t w a b tgt => Sys2Proof.Machine.execAlmBltu t w a b tgt s
  | .almBgeu t w a b tgt => Sys2Proof.Machine.execAlmBgeu t w a b tgt s
  | .almBfs t w f tgt => Sys2Proof.Machine.execAlmBfs t w f tgt s
  | .almBfc t w f tgt => Sys2Proof.Machine.execAlmBfc t w f tgt s
  | .almJal t w d tgt => Sys2Proof.Machine.execAlmJal t w d tgt s
  | .almJr t w a => Sys2Proof.Machine.execAlmJr t w a s
  | .almWaitev t w d tmo cls arg => Sys2Proof.Machine.execAlmWaitev t w d tmo cls arg s
  | .almWaitevWake t w => Sys2Proof.Machine.execAlmWaitevWake t w s
  | .almSpawn t w a b tgt => Sys2Proof.Machine.execAlmSpawn t w a b tgt s
  | .almKill t w a => Sys2Proof.Machine.execAlmKill t w a s
  | .almYield t w => Sys2Proof.Machine.execAlmYield t w s
  | .almHalt t w => Sys2Proof.Machine.execAlmHalt t w s
  | .almFence t w busy => Sys2Proof.Machine.execAlmFence t w busy s
  | .almFenceRelease t w => Sys2Proof.Machine.execAlmFenceRelease t w s
  | .almSlotWaitRelease t w => Sys2Proof.Machine.execAlmSlotWaitRelease t w s
  | .almStcLockAcquire t w d n => Sys2Proof.Machine.execAlmStcLockAcquire t w d n s
  | .almStcLockRelease t w n => Sys2Proof.Machine.execAlmStcLockRelease t w n s
  | .almStcAwait t w a => Sys2Proof.Machine.execAlmStcAwait t w a s
  | .almStcCan t w tm n a => Sys2Proof.Machine.execAlmStcCan t w tm n a s
  | .almStcPmc t w tm c => Sys2Proof.Machine.execAlmStcPmc t w tm c s
  | .almBalStop t w tm => Sys2Proof.Machine.execAlmBalStop t w tm s
  | .almBalPhaseStart t w tm sel a => Sys2Proof.Machine.execAlmBalPhaseStart t w tm sel a s
  | .almExcStart t w tm plan a => Sys2Proof.Machine.execAlmExcStart t w tm plan a s
  | .almExcStop t w tm plan => Sys2Proof.Machine.execAlmExcStop t w tm plan s
  | .almSetpHosti t w tm a => Sys2Proof.Machine.execAlmSetpHosti t w tm a s
  | .almSetpHostv t w tm a => Sys2Proof.Machine.execAlmSetpHostv t w tm a s
  | .almSetpClass t w tm a => Sys2Proof.Machine.execAlmSetpClass t w tm a s
  | .almTrigSet t w tm f => Sys2Proof.Machine.execAlmTrigSet t w tm f s
  | .almTrigClear t w tm f => Sys2Proof.Machine.execAlmTrigClear t w tm f s
  | .almTrigMark t w tm a => Sys2Proof.Machine.execAlmTrigMark t w tm a s
  | .almTcmp t w tb b scale ofs => Sys2Proof.Machine.execAlmTcmp t w tb b scale ofs s
  | .almAt t w tb b scale ofs => Sys2Proof.Machine.execAlmAt t w tb b scale ofs s
  | .almAtr t w tb b scale ofs => Sys2Proof.Machine.execAlmAtr t w tb b scale ofs s
  | .illegalInstruction t w => Sys2Proof.Machine.execIllegalInstruction t w s
  | .eccFault t w => Sys2Proof.Machine.execEccFault t w s
  | .programLoad t m v => Sys2Proof.Machine.execProgramLoad t m v s
  | .programStart t m v => Sys2Proof.Machine.execProgramStart t m v s
  | .programMemoryWrite t m idx v => Sys2Proof.Machine.execProgramMemoryWrite t m idx v s
  | .dataMemoryAccess t m wr idx v => Sys2Proof.Machine.execDataMemoryAccess t m wr idx v s
  | .evflagHostWrite t m off v => Sys2Proof.Machine.execEvflagHostWrite t m off v s
  | .contextUpdateDone t c => Sys2Proof.Machine.execContextUpdateDone t c s
  | .dapply t m => Sys2Proof.Machine.execDapply t m s
  | .prerested t m => Sys2Proof.Machine.execPrerested t m s
  | .sextantWindowWrite t m a v => Sys2Proof.Machine.execSextantWindowWrite t m a v s
  | .journalSaveStart t => Sys2Proof.Machine.execJournalSaveStart t s
  | .journalSaveDone t ok => Sys2Proof.Machine.execJournalSaveDone t ok s
  | .periodicSave t => Sys2Proof.Machine.execPeriodicSave t s
  | .learnSave t m => Sys2Proof.Machine.execLearnSave t m s
  | .learnRestore t m => Sys2Proof.Machine.execLearnRestore t m s
  | .learnNominal t m => Sys2Proof.Machine.execLearnNominal t m s
  | .learnExport t m => Sys2Proof.Machine.execLearnExport t m s
  | .papply t m => Sys2Proof.Machine.execPapply t m s
  | .azmAutoStart t => Sys2Proof.Machine.execAzmAutoStart t s
  | .excWindowElapse t => Sys2Proof.Machine.execExcWindowElapse t s
  | .azmBlockEnd t => Sys2Proof.Machine.execAzmBlockEnd t s
  | .azmBlockReady t => Sys2Proof.Machine.execAzmBlockReady t s
  | .balPhaseEffect t => Sys2Proof.Machine.execBalPhaseEffect t s
  | .balPhaseEnd t => Sys2Proof.Machine.execBalPhaseEnd t s
  | .balsetRefresh t => Sys2Proof.Machine.execBalsetRefresh t s
  | .balPlan t => Sys2Proof.Machine.execBalPlan t s
  | .dieTemperaturePoll t => Sys2Proof.Machine.execDieTemperaturePoll t s
  | .unsureExpiry t k => Sys2Proof.Machine.execUnsureExpiry t k s
  | .helmRunRequest t m v => Sys2Proof.Machine.execHelmRunRequest t m v s
  | .helmStop t m v => Sys2Proof.Machine.execHelmStop t m v s
  | .carrierEnable t m v => Sys2Proof.Machine.execCarrierEnable t m v s
  | .legsWrite t m v => Sys2Proof.Machine.execLegsWrite t m v s
  | .carrierWrite t m v => Sys2Proof.Machine.execCarrierWrite t m v s
  | .coefficientWrite t m n v => Sys2Proof.Machine.execCoefficientWrite t m n v s
  | .hostSetpointWrite t m off v => Sys2Proof.Machine.execHostSetpointWrite t m off v s
  | .classSelect t m v => Sys2Proof.Machine.execClassSelect t m v s
  | .sppPeriod t per high => Sys2Proof.Machine.execSppPeriod t per high s
  | .sppTimeout t => Sys2Proof.Machine.execSppTimeout t s
  | .hvacFrameSend t => Sys2Proof.Machine.execHvacFrameSend t s
  | .hvacStatusReceive t b => Sys2Proof.Machine.execHvacStatusReceive t b s
  | .hvacLost t => Sys2Proof.Machine.execHvacLost t s
  | .closeRequest t m v => Sys2Proof.Machine.execCloseRequest t m v s
  | .closeRelease t m v => Sys2Proof.Machine.execCloseRelease t m v s
  | .energizeCheck t n hs ls load => Sys2Proof.Machine.execEnergizeCheck t n hs ls load s
  | .deenergizeCheck t n hs ls load => Sys2Proof.Machine.execDeenergizeCheck t n hs ls load s
  | .offPulseStart t n => Sys2Proof.Machine.execOffPulseStart t n s
  | .offPulseCheck t n hs ls => Sys2Proof.Machine.execOffPulseCheck t n hs ls s
  | .proofWarn t n => Sys2Proof.Machine.execProofWarn t n s
  | .lodestoneTick t x => Sys2Proof.Machine.execLodestoneTick t x s
  | .clkMismatch t => Sys2Proof.Machine.execClkMismatch t s
  | .heartbeatWrite t v cyc => Sys2Proof.Machine.execHeartbeatWrite t v cyc s
  | .heartbeatTimeout t cyc => Sys2Proof.Machine.execHeartbeatTimeout t cyc s
  | .lockstepMismatch t => Sys2Proof.Machine.execLockstepMismatch t s
  | .pilotWatchdogExpiry t => Sys2Proof.Machine.execPilotWatchdogExpiry t s
  | .pilotService t => Sys2Proof.Machine.execPilotService t s
  | .bpermitLoss t mask => Sys2Proof.Machine.execBpermitLoss t mask s
  | .bpermitReturn t mask => Sys2Proof.Machine.execBpermitReturn t mask s
  | .safeBLow t => Sys2Proof.Machine.execSafeBLow t s
  | .overcurrent t a b => Sys2Proof.Machine.execOvercurrent t a b s
  | .overcurrentContactorTrip t => Sys2Proof.Machine.execOvercurrentContactorTrip t s
  | .overTemperature t => Sys2Proof.Machine.execOverTemperature t s
  | .sealRead t v => Sys2Proof.Machine.execSealRead t v s
  | .inputFilterPass t n a b => Sys2Proof.Machine.execInputFilterPass t n a b s
  | .discrepancy t n => Sys2Proof.Machine.execDiscrepancy t n s
  | .insulationEstimate t riso => Sys2Proof.Machine.execInsulationEstimate t riso s
  | .binnacleDelayedTrip t => Sys2Proof.Machine.execBinnacleDelayedTrip t s
  | .holdTimerExpiry t => Sys2Proof.Machine.execHoldTimerExpiry t s
  | .twinWrite t m v => Sys2Proof.Machine.execTwinWrite t m v s
  | .hb t m => Sys2Proof.Machine.execHb t m s
  | .grantRise t edge => Sys2Proof.Machine.execGrantRise t edge s
  | .grantFall t => Sys2Proof.Machine.execGrantFall t s
  | .autorunHelmStart t => Sys2Proof.Machine.execAutorunHelmStart t s
  | .startUpComplete t => Sys2Proof.Machine.execStartUpComplete t s
  | .mirrorArrival t us x => Sys2Proof.Machine.execMirrorArrival t us x s
  | .mirrorTimeout t => Sys2Proof.Machine.execMirrorTimeout t s
  | .peerStatusReceive t x => Sys2Proof.Machine.execPeerStatusReceive t x s
  | .peerLaneDown t lane => Sys2Proof.Machine.execPeerLaneDown t lane s
  | .twinEnergizeTimeout t n => Sys2Proof.Machine.execTwinEnergizeTimeout t n s
  | .pcieLinkLoss t => Sys2Proof.Machine.execPcieLinkLoss t s
  | .cmdpiWrite t m v => Sys2Proof.Machine.execCmdpiWrite t m v s
  | .rspciWrite t m v => Sys2Proof.Machine.execRspciWrite t m v s
  | .postciWrite t m v => Sys2Proof.Machine.execPostciWrite t m v s
  | .h2dMailboxWrite t m n v => Sys2Proof.Machine.execH2dMailboxWrite t m n v s
  | .d2hempty t m v => Sys2Proof.Machine.execD2hempty t m v s
  | .mbxStall t n => Sys2Proof.Machine.execMbxStall t n s
  | .dboutWrite t m v => Sys2Proof.Machine.execDboutWrite t m v s
  | .dbinClear t m v => Sys2Proof.Machine.execDbinClear t m v s
  | .hspiReadFrame t addr len => Sys2Proof.Machine.execHspiReadFrame t addr len s
  | .hspiWriteFrame t addr len ws crcOk => Sys2Proof.Machine.execHspiWriteFrame t addr len ws crcOk s
  | .hspiStatusFrame t => Sys2Proof.Machine.execHspiStatusFrame t s
  | .hspiResetEnable t => Sys2Proof.Machine.execHspiResetEnable t s
  | .hspiPortReset t => Sys2Proof.Machine.execHspiPortReset t s
  | .udpOpen t port slot nc => Sys2Proof.Machine.execUdpOpen t port slot nc s
  | .udpConfirm t port sid mac => Sys2Proof.Machine.execUdpConfirm t port sid mac s
  | .udpDatagram t port sid seq typ ws tag => Sys2Proof.Machine.execUdpDatagram t port sid seq typ ws tag s
  | .udpSessionTimeout t k => Sys2Proof.Machine.execUdpSessionTimeout t k s
  | .cmdUnknownCommand t op c => Sys2Proof.Machine.execCmdUnknownCommand t op c s
  | .cmdGetInfo t c => Sys2Proof.Machine.execCmdGetInfo t c s
  | .cmdEcho t c => Sys2Proof.Machine.execCmdEcho t c s
  | .cmdReadReg t c => Sys2Proof.Machine.execCmdReadReg t c s
  | .cmdWriteReg t c => Sys2Proof.Machine.execCmdWriteReg t c s
  | .cmdSetProfile t c => Sys2Proof.Machine.execCmdSetProfile t c s
  | .cmdSetOverride t c => Sys2Proof.Machine.execCmdSetOverride t c s
  | .cmdClearOverrides t c => Sys2Proof.Machine.execCmdClearOverrides t c s
  | .cmdSetEpoch t c => Sys2Proof.Machine.execCmdSetEpoch t c s
  | .cmdGetStatus t c => Sys2Proof.Machine.execCmdGetStatus t c s
  | .cmdMbxRelay t c => Sys2Proof.Machine.execCmdMbxRelay t c s
  | .cmdStateRead t c => Sys2Proof.Machine.execCmdStateRead t c s
  | .cmdSetAwait t c => Sys2Proof.Machine.execCmdSetAwait t c s
  | .cmdSetNet t c => Sys2Proof.Machine.execCmdSetNet t c s
  | .cmdGetTime t c => Sys2Proof.Machine.execCmdGetTime t c s
  | .cmdSetCalendar t c => Sys2Proof.Machine.execCmdSetCalendar t c s
  | .cmdSetPtp t c => Sys2Proof.Machine.execCmdSetPtp t c s
  | .cmdSetRate t c => Sys2Proof.Machine.execCmdSetRate t c s
  | .cmdSetUtcofs t c => Sys2Proof.Machine.execCmdSetUtcofs t c s
  | .cmdSetTiles t c => Sys2Proof.Machine.execCmdSetTiles t c s
  | .cmdApplyTopology t c => Sys2Proof.Machine.execCmdApplyTopology t c s
  | .cmdRings t c => Sys2Proof.Machine.execCmdRings t c s
  | .cmdSetMod t c => Sys2Proof.Machine.execCmdSetMod t c s
  | .cmdSetChecks t c => Sys2Proof.Machine.execCmdSetChecks t c s
  | .cmdOwRetest t c => Sys2Proof.Machine.execCmdOwRetest t c s
  | .cmdGetRing t c => Sys2Proof.Machine.execCmdGetRing t c s
  | .cmdAlmLoad t c => Sys2Proof.Machine.execCmdAlmLoad t c s
  | .cmdAlmWrite t c => Sys2Proof.Machine.execCmdAlmWrite t c s
  | .cmdAlmStart t c => Sys2Proof.Machine.execCmdAlmStart t c s
  | .cmdAlmDread t c => Sys2Proof.Machine.execCmdAlmDread t c s
  | .cmdAlmDwrite t c => Sys2Proof.Machine.execCmdAlmDwrite t c s
  | .cmdAlmFlags t c => Sys2Proof.Machine.execCmdAlmFlags t c s
  | .cmdAlmStatus t c => Sys2Proof.Machine.execCmdAlmStatus t c s
  | .cmdSxtWrite t c => Sys2Proof.Machine.execCmdSxtWrite t c s
  | .cmdSxtDapply t c => Sys2Proof.Machine.execCmdSxtDapply t c s
  | .cmdSxtCfg t c => Sys2Proof.Machine.execCmdSxtCfg t c s
  | .cmdCtxRead t c => Sys2Proof.Machine.execCmdCtxRead t c s
  | .cmdLearnCfg t c => Sys2Proof.Machine.execCmdLearnCfg t c s
  | .cmdRestoreLearned t c => Sys2Proof.Machine.execCmdRestoreLearned t c s
  | .cmdStageWrite t c => Sys2Proof.Machine.execCmdStageWrite t c s
  | .cmdStageRead t c => Sys2Proof.Machine.execCmdStageRead t c s
  | .cmdExportLearned t c => Sys2Proof.Machine.execCmdExportLearned t c s
  | .cmdAcceptNominal t c => Sys2Proof.Machine.execCmdAcceptNominal t c s
  | .cmdJournalSave t c => Sys2Proof.Machine.execCmdJournalSave t c s
  | .cmdAzmPlan t c => Sys2Proof.Machine.execCmdAzmPlan t c s
  | .cmdAzmCal t c => Sys2Proof.Machine.execCmdAzmCal t c s
  | .cmdAzmApply t c => Sys2Proof.Machine.execCmdAzmApply t c s
  | .cmdAzmCfg t c => Sys2Proof.Machine.execCmdAzmCfg t c s
  | .cmdAzmStatus t c => Sys2Proof.Machine.execCmdAzmStatus t c s
  | .cmdBalSetup t c => Sys2Proof.Machine.execCmdBalSetup t c s
  | .cmdBalManual t c => Sys2Proof.Machine.execCmdBalManual t c s
  | .cmdBalStatus t c => Sys2Proof.Machine.execCmdBalStatus t c s
  | .cmdHlmSetup t c => Sys2Proof.Machine.execCmdHlmSetup t c s
  | .cmdHlmAnalog t c => Sys2Proof.Machine.execCmdHlmAnalog t c s
  | .cmdHlmCoef t c => Sys2Proof.Machine.execCmdHlmCoef t c s
  | .cmdHlmRun t c => Sys2Proof.Machine.execCmdHlmRun t c s
  | .cmdHlmSetpoint t c => Sys2Proof.Machine.execCmdHlmSetpoint t c s
  | .cmdHlmLimits t c => Sys2Proof.Machine.execCmdHlmLimits t c s
  | .cmdHlmDispatch t c => Sys2Proof.Machine.execCmdHlmDispatch t c s
  | .cmdDspSetup t c => Sys2Proof.Machine.execCmdDspSetup t c s
  | .cmdCoolSetup t c => Sys2Proof.Machine.execCmdCoolSetup t c s
  | .cmdCoolFloor t c => Sys2Proof.Machine.execCmdCoolFloor t c s
  | .cmdHvacSetup t c => Sys2Proof.Machine.execCmdHvacSetup t c s
  | .cmdHlmStatus t c => Sys2Proof.Machine.execCmdHlmStatus t c s
  | .cmdSafetyStatus t c => Sys2Proof.Machine.execCmdSafetyStatus t c s
  | .cmdSafetyReset t c => Sys2Proof.Machine.execCmdSafetyReset t c s
  | .cmdOutputRequest t c => Sys2Proof.Machine.execCmdOutputRequest t c s
  | .cmdBinParam t c => Sys2Proof.Machine.execCmdBinParam t c s
  | .cmdSealHistory t c => Sys2Proof.Machine.execCmdSealHistory t c s
  | .cmdRdnSetup t c => Sys2Proof.Machine.execCmdRdnSetup t c s
  | .cmdRdnStatus t c => Sys2Proof.Machine.execCmdRdnStatus t c s
  | .cmdCanSetup t c => Sys2Proof.Machine.execCmdCanSetup t c s
  | .cmdCanFilter t c => Sys2Proof.Machine.execCmdCanFilter t c s
  | .cmdCanSend t c => Sys2Proof.Machine.execCmdCanSend t c s
  | .cmdCanRecv t c => Sys2Proof.Machine.execCmdCanRecv t c s
  | .cmdCanCancel t begun c => Sys2Proof.Machine.execCmdCanCancel t begun c s
  | .cmdCanAutobaud t c => Sys2Proof.Machine.execCmdCanAutobaud t c s
  | .cmdCanTimemaster t c => Sys2Proof.Machine.execCmdCanTimemaster t c s
  | .cmdUpdBegin t c => Sys2Proof.Machine.execCmdUpdBegin t c s
  | .cmdUpdWrite t c => Sys2Proof.Machine.execCmdUpdWrite t c s
  | .cmdUpdEnd t c => Sys2Proof.Machine.execCmdUpdEnd t c s
  | .cmdActivate t c => Sys2Proof.Machine.execCmdActivate t c s
  | .cmdCommit t c => Sys2Proof.Machine.execCmdCommit t c s
  | .cmdUpdStatus t c => Sys2Proof.Machine.execCmdUpdStatus t c s
  | .cmdPowerState t c => Sys2Proof.Machine.execCmdPowerState t c s
  | .cmdThermalSetup t c => Sys2Proof.Machine.execCmdThermalSetup t c s
  | .cmdThermalStatus t c => Sys2Proof.Machine.execCmdThermalStatus t c s
  | .cmdLogInfo t c => Sys2Proof.Machine.execCmdLogInfo t c s
  | .cmdLogRead t c => Sys2Proof.Machine.execCmdLogRead t c s
  | .cmdLogWindow t c => Sys2Proof.Machine.execCmdLogWindow t c s
  | .cmdLogNonce t c => Sys2Proof.Machine.execCmdLogNonce t c s
  | .cmdLogClear t c => Sys2Proof.Machine.execCmdLogClear t c s
  | .cmdWearRead t c => Sys2Proof.Machine.execCmdWearRead t c s
  | .cmdCommissionSpare t c => Sys2Proof.Machine.execCmdCommissionSpare t c s
  | .cmdPmcControl t c => Sys2Proof.Machine.execCmdPmcControl t c s
  | .cmdPmcRead t c => Sys2Proof.Machine.execCmdPmcRead t c s
  | .canFrameReceive t n f => Sys2Proof.Machine.execCanFrameReceive t n f s
  | .canTxDone t n sof tdcv => Sys2Proof.Machine.execCanTxDone t n sof tdcv s
  | .canTxAttemptFail t n arb => Sys2Proof.Machine.execCanTxAttemptFail t n arb s
  | .txgo t n m v => Sys2Proof.Machine.execTxgo t n m v s
  | .txcan t n m v begun => Sys2Proof.Machine.execTxcan t n m v begun s
  | .rxrel t n m v => Sys2Proof.Machine.execRxrel t n m v s
  | .restart t n m v => Sys2Proof.Machine.execRestart t n m v s
  | .busOffRecovery t n => Sys2Proof.Machine.execBusOffRecovery t n s
  | .canTimingWrite t m off v => Sys2Proof.Machine.execCanTimingWrite t m off v s
  | .abctlGo t n m v => Sys2Proof.Machine.execAbctlGo t n m v s
  | .abctlStop t n m v => Sys2Proof.Machine.execAbctlStop t n m v s
  | .autobaudDwellEnd t n err => Sys2Proof.Machine.execAutobaudDwellEnd t n err s
  | .referenceCycleStart t n => Sys2Proof.Machine.execReferenceCycleStart t n s
  | .bootReady t => Sys2Proof.Machine.execBootReady t s
  | .supervisionStart t => Sys2Proof.Machine.execSupervisionStart t s
  | .pauseResumption t => Sys2Proof.Machine.execPauseResumption t s
  | .pauseTimeout t => Sys2Proof.Machine.execPauseTimeout t s
  | .bootRecordWritten t => Sys2Proof.Machine.execBootRecordWritten t s
  | .confirmationWindowClose t => Sys2Proof.Machine.execConfirmationWindowClose t s
  | .recoveryReset t => Sys2Proof.Machine.execRecoveryReset t s
  | .kctlWrite t m v => Sys2Proof.Machine.execKctlWrite t m v s
  | .kctlLock t m v => Sys2Proof.Machine.execKctlLock t m v s
  | .wakeFrame t p dst payload => Sys2Proof.Machine.execWakeFrame t p dst payload s
  | .dieSensorConversion t temps => Sys2Proof.Machine.execDieSensorConversion t temps s
  | .boardChannelConversion t ch raw => Sys2Proof.Machine.execBoardChannelConversion t ch raw s
  | .throttleEnd t => Sys2Proof.Machine.execThrottleEnd t s
  | .logEvent t => Sys2Proof.Machine.execLogEvent t s
  | .logRdidxWrite t m v => Sys2Proof.Machine.execLogRdidxWrite t m v s
  | .logErasureDone t => Sys2Proof.Machine.execLogErasureDone t s
  | .ledgerFlush t ok => Sys2Proof.Machine.execLedgerFlush t ok s
  | .eccScrub t found => Sys2Proof.Machine.execEccScrub t found s
  | .pmcStart t m => Sys2Proof.Machine.execPmcStart t m s
  | .pmcStop t m => Sys2Proof.Machine.execPmcStop t m s
  | .pmcFreeze t m => Sys2Proof.Machine.execPmcFreeze t m s
  | .pmcClear t m => Sys2Proof.Machine.execPmcClear t m s
  | .clockStopped t c => Sys2Proof.Machine.execClockStopped t c s
  | .clockRunning t c => Sys2Proof.Machine.execClockRunning t c s
  | .lodestoneOscStop t => Sys2Proof.Machine.execLodestoneOscStop t s
  | .pointerCheckFail t n => Sys2Proof.Machine.execPointerCheckFail t n s
  | .handshakePhase t n u => Sys2Proof.Machine.execHandshakePhase t n u s
  | .crossingTimeout t n u => Sys2Proof.Machine.execCrossingTimeout t n u s
  | .xresync t m v => Sys2Proof.Machine.execXresync t m v s
  | .xfbWrite t m v => Sys2Proof.Machine.execXfbWrite t m v s
  | .xevmodeWrite t m v busy => Sys2Proof.Machine.execXevmodeWrite t m v busy s
  | .tilePowerUp t k ncell => Sys2Proof.Machine.execTilePowerUp t k ncell s
  | .tileLinkUp t k side => Sys2Proof.Machine.execTileLinkUp t k side s
  | .turnbackFrameReceive t p f => Sys2Proof.Machine.execTurnbackFrameReceive t p f s
  | .tileResponseWindowEnd t k => Sys2Proof.Machine.execTileResponseWindowEnd t k s
  | .portFrameSent t p => Sys2Proof.Machine.execPortFrameSent t p s
  | .faultLoopReturn t r => Sys2Proof.Machine.execFaultLoopReturn t r s
  | .peerLaneUp t lane => Sys2Proof.Machine.execPeerLaneUp t lane s
  | .ethLinkUp t n => Sys2Proof.Machine.execEthLinkUp t n s
  | .pcieLinkUp t => Sys2Proof.Machine.execPcieLinkUp t s
  | .canRxError t n inc => Sys2Proof.Machine.execCanRxError t n inc s
  | .canProtocolException t n => Sys2Proof.Machine.execCanProtocolException t n s
  | .referenceMessageSent t n sof => Sys2Proof.Machine.execReferenceMessageSent t n sof s
  | .powerFail t torn => Sys2Proof.Machine.execPowerFail t torn s
  | .activateRampTimeout t => Sys2Proof.Machine.execActivateRampTimeout t s
  | .autobaudLimit t n => Sys2Proof.Machine.execAutobaudLimit t n s

end Sys2Proof.Machine
end

