-- ==== Sys2Proof/WellFormed.lean ====
section
/-! DEFINITION. Which commands are well formed: each operand lies in the range that its row's rules give it. A meaning is total all the same; statements that need an operand in range say so with this. -/

namespace Sys2Proof

/-- Every number of a list is a byte. -/
def bytesOk (l : List Nat) : Bool := l.all fun b => decide (b < 256)

/-- A command entry's header fields fit (R384). -/
def Entry.ok (e : Entry) : Bool := decide (e.tag < 65536 ∧ e.len < 65536 ∧ e.w1lo < 65536) && (match e.iss with | .session k => decide (k < 4) | _ => true)

/-- The fields of a frame fit their widths (Tables 3-1, 3-2). -/
def Body.ok : Body → Bool
  | .sample target seq flags => decide (target < 2 ^ 64 ∧ seq < 2 ^ 16 ∧ flags < 256)
  | .tsync dial => decide (dial < 2 ^ 64)
  | .cmd fn data => decide (fn < 256) && bytesOk data
  | .enum count origin => decide (count < 256 ∧ origin < 256)
  | .echo tag => decide (tag < 2 ^ 16)
  | .load off data => decide (off < 2 ^ 32) && bytesOk data
  | .loadend len _ _ => decide (len < 2 ^ 32)
  | .profile thr crc => decide (32 ≤ thr.length ∧ thr.length ≤ 64 ∧ crc < 2 ^ 16) && bytesOk thr
  | .snapr seq _ _ _ _ armcrc mt temps cells =>
    decide (seq < 2 ^ 16 ∧ armcrc < 2 ^ 16 ∧ mt < 2 ^ 24 ∧ temps.length = 4 ∧ cells.length ≤ 16)
  | .resp fn status data => decide (fn < 256 ∧ status < 256) && bytesOk data
  | .echor tag residence => decide (tag < 2 ^ 16 ∧ residence < 2 ^ 32)
  | .alert code side => decide (code < 256 ∧ side < 256)
  | .other type _ => decide (type < 16)

def Frame.ok (f : Frame) : Bool := decide (f.hop < 16 ∧ f.seq < 32) && f.body.ok

/-- A CAN frame's identifier, DLC and data (R438). -/
def CanFrame.ok (f : CanFrame) : Bool := decide (f.id < (if f.ide then 2 ^ 29 else 2 ^ 11) ∧ f.dlc < 16 ∧ f.data.length ≤ 64) && bytesOk f.data

/-- A tile converts at most 16 cells (R117). -/
def Conversion.ok (c : Conversion) : Bool := decide (c.temps.length = 4 ∧ c.cells.length ≤ 16)

/-- The failing units are lanes, pipes or cores that exist (R491). -/
def StartIn.ok (x : StartIn) : Bool := x.bist.all fun u => decide (u.1 < 3 ∧ u.2 < if u.1 = 0 then 18 else 5)

/-- Readbacks and comparators are masks of twelve, two and four bits. -/
def TickIn.ok (x : TickIn) : Bool := decide (x.rb < 4096 ∧ x.oc < 4 ∧ x.lth < 16)

/-- The operands of a command lie in their ranges. -/
def Instr.wf : Instr → Bool
  | .powerOnReset _ => true
  | .deviceReset _ => true
  | .resetRelease _ x => x.ok
  | .lodestonePowerUpEnd _ _ _ _ _ _ _ => true
  | .brownNFall _ => true
  | .brownNHigh100ms _ => true
  | .vbatLow _ => true
  | .pllLock _ => true
  | .pllUnlock _ => true
  | .registerWrite _ _ _ _ bytes _ => decide (1 ≤ bytes ∧ bytes ≤ 8)
  | .timeLowWordRead _ _ r => decide (r.off < 16777216 ∧ 1 ≤ r.bytes ∧ r.bytes ≤ 4096)
  | .portstsRead _ _ p => decide (p < 8)
  | .wearDataRead _ _ => true
  | .lockAcquire _ _ n => decide (n < 16)
  | .lockRelease _ _ _ => true
  | .epochctlWrite _ _ _ => true
  | .profileSelection _ _ _ => true
  | .epochBoundary _ => true
  | .contributionArrival _ _ => true
  | .epochCommit _ => true
  | .ptpMessageReceive _ msg => decide (msg.port < 2)
  | .ptpSyncReceive _ msg _ _ => decide (msg.port < 2 ∧ msg.kind = .sync)
  | .ptpAnnounceReceive _ a => decide (a.port < 2)
  | .pdelayReqReceive _ msg _ => decide (msg.port < 2 ∧ msg.kind = .pdelayReq)
  | .masterLost _ => true
  | .ptpDisable _ _ => true
  | .holdExceeded _ => true
  | .rtcRewrite _ _ => true
  | .leapSecond _ _ => true
  | .timedActionLaunch _ => true
  | .carrierValley _ _ => true
  | .helmDutyLatch _ => true
  | .carrierStop _ => true
  | .busReferenceLost _ n => decide (n < 3)
  | .portLinkUp _ p => decide (p < 8)
  | .portLinkDown _ p => decide (p < 8)
  | .trvCtlWrite _ _ _ => true
  | .openRingTrainStart _ p => decide (p < 8)
  | .enumReturn _ p f _ => decide (p < 8) && f.ok
  | .echorReceive _ p _ f => decide (p < 8) && f.ok
  | .trainingDone _ r => decide (r < 4)
  | .armstatPoll _ r => decide (r < 4)
  | .ringRestore _ r => decide (r < 4)
  | .lostRing _ r => decide (r < 4)
  | .tsyncSend _ => true
  | .unclaimedFrame _ p f => decide (p < 8) && f.ok
  | .snaprReceive _ p _ f => decide (p < 8) && f.ok
  | .respReceive _ p _ f => decide (p < 8) && f.ok
  | .cmdTimeout _ p _ => decide (p < 8)
  | .alertReceive _ p _ f => decide (p < 8) && f.ok
  | .alertBootReceive _ p f => decide (p < 8) && f.ok
  | .profileInject _ r => decide (r < 4)
  | .sampleFrame _ k side f => decide (k < 48) && decide (side < 4) && f.ok
  | .tsyncFrame _ k side f => decide (k < 48) && decide (side < 4) && f.ok
  | .enumFrame _ k side f => decide (k < 48) && decide (side < 4) && f.ok
  | .echoFrame _ k side _ f => decide (k < 48) && decide (side < 4) && f.ok
  | .loadFrame _ k side f => decide (k < 48) && decide (side < 4) && f.ok
  | .loadendFrame _ k side f => decide (k < 48) && decide (side < 4) && f.ok
  | .tileBoot _ k => decide (k < 48)
  | .profileFrame _ k side f => decide (k < 48) && decide (side < 4) && f.ok
  | .tileFrameRelay _ k side _ f => decide (k < 48) && decide (side < 4) && f.ok
  | .tileLinkDown _ k side => decide (k < 48) && decide (side < 4)
  | .alertLinkdown _ k side f => decide (k < 48) && decide (side < 4) && f.ok
  | .tileSnaprSlot _ k => decide (k < 48)
  | .tileConversion _ k c => decide (k < 48) && c.ok
  | .tileComparatorTrip _ k => decide (k < 48)
  | .tileComparatorRelease _ k => decide (k < 48)
  | .tileDieHot _ k => decide (k < 48)
  | .balset _ k side f => decide (k < 48) && decide (side < 4) && f.ok
  | .tileBalsetExpiry _ k => decide (k < 48)
  | .dieTemperatureRead _ k side _ f => decide (k < 48) && decide (side < 4) && f.ok
  | .armstat _ k side f => decide (k < 48) && decide (side < 4) && f.ok
  | .openWireSinks _ k side f => decide (k < 48) && decide (side < 4) && f.ok
  | .tileSinkOn _ k => decide (k < 48)
  | .faultLoopLoss _ r => decide (r < 4)
  | .flFast _ r => decide (r < 4)
  | .armedThresholdFault _ k => decide (k < 48)
  | .acqApply _ _ _ => true
  | .snap _ w d => decide (w < 64) && decide (d < 16)
  | .modCodeReady _ n _ _ => decide (n < 2)
  | .modFault _ n => decide (n < 2)
  | .snapshotClose _ _ => true
  | .owTestAbandon _ k => decide (k < 48)
  | .owTestWindowEnd _ k => decide (k < 48)
  | .owRetestGo _ _ _ => true
  | .almAdd _ w d a b => decide (w < 64) && decide (d < 16) && decide (a < 16) && decide (b < 16)
  | .almSub _ w d a b => decide (w < 64) && decide (d < 16) && decide (a < 16) && decide (b < 16)
  | .almAnd _ w d a b => decide (w < 64) && decide (d < 16) && decide (a < 16) && decide (b < 16)
  | .almOr _ w d a b => decide (w < 64) && decide (d < 16) && decide (a < 16) && decide (b < 16)
  | .almXor _ w d a b => decide (w < 64) && decide (d < 16) && decide (a < 16) && decide (b < 16)
  | .almSll _ w d a b => decide (w < 64) && decide (d < 16) && decide (a < 16) && decide (b < 16)
  | .almSrl _ w d a b => decide (w < 64) && decide (d < 16) && decide (a < 16) && decide (b < 16)
  | .almSra _ w d a b => decide (w < 64) && decide (d < 16) && decide (a < 16) && decide (b < 16)
  | .almMul _ w d a b => decide (w < 64) && decide (d < 16) && decide (a < 16) && decide (b < 16)
  | .almMulh _ w d a b => decide (w < 64) && decide (d < 16) && decide (a < 16) && decide (b < 16)
  | .almMin _ w d a b => decide (w < 64) && decide (d < 16) && decide (a < 16) && decide (b < 16)
  | .almMax _ w d a b => decide (w < 64) && decide (d < 16) && decide (a < 16) && decide (b < 16)
  | .almClamp _ w d a b c => decide (w < 64) && decide (d < 16) && decide (a < 16) && decide (b < 16) && decide (c < 16)
  | .almAddi _ w d a imm => decide (w < 64) && decide (d < 16) && decide (a < 16) && decide (imm < 262144)
  | .almAndi _ w d a imm => decide (w < 64) && decide (d < 16) && decide (a < 16) && decide (imm < 262144)
  | .almOri _ w d a imm => decide (w < 64) && decide (d < 16) && decide (a < 16) && decide (imm < 262144)
  | .almSlli _ w d a sh => decide (w < 64) && decide (d < 16) && decide (a < 16) && decide (sh < 32)
  | .almSrli _ w d a sh => decide (w < 64) && decide (d < 16) && decide (a < 16) && decide (sh < 32)
  | .almSrai _ w d a sh => decide (w < 64) && decide (d < 16) && decide (a < 16) && decide (sh < 32)
  | .almLui _ w d imm => decide (w < 64) && decide (d < 16) && decide (imm < 262144)
  | .almLdw _ w d a imm => decide (w < 64) && decide (d < 16) && decide (a < 16) && decide (imm < 262144)
  | .almStw _ w d a imm => decide (w < 64) && decide (d < 16) && decide (a < 16) && decide (imm < 262144)
  | .almLds _ w d a imm => decide (w < 64) && decide (d < 16) && decide (a < 16) && decide (imm < 262144)
  | .almRdt _ w d part tb => decide (w < 64) && decide (d < 16) && decide (part < 4 ∧ tb < 8) && (part % 2 == 0 || tb == 0)
  | .almPost _ w sel a b => decide (w < 64) && decide (sel < 1024) && decide (a < 16) && decide (b < 16)
  | .almRing _ w n => decide (w < 64) && decide (n < 32)
  | .almMbxSend _ w a => decide (w < 64) && decide (a < 16)
  | .almMbxReceive _ w d => decide (w < 64) && decide (d < 16)
  | .almBeq _ w a b tgt => decide (w < 64) && decide (a < 16) && decide (b < 16) && decide (tgt < 65536)
  | .almBne _ w a b tgt => decide (w < 64) && decide (a < 16) && decide (b < 16) && decide (tgt < 65536)
  | .almBlt _ w a b tgt => decide (w < 64) && decide (a < 16) && decide (b < 16) && decide (tgt < 65536)
  | .almBge _ w a b tgt => decide (w < 64) && decide (a < 16) && decide (b < 16) && decide (tgt < 65536)
  | .almBltu _ w a b tgt => decide (w < 64) && decide (a < 16) && decide (b < 16) && decide (tgt < 65536)
  | .almBgeu _ w a b tgt => decide (w < 64) && decide (a < 16) && decide (b < 16) && decide (tgt < 65536)
  | .almBfs _ w f tgt => decide (w < 64) && decide (f < 4) && decide (tgt < 65536)
  | .almBfc _ w f tgt => decide (w < 64) && decide (f < 4) && decide (tgt < 65536)
  | .almJal _ w d tgt => decide (w < 64) && decide (d < 16) && decide (tgt < 65536)
  | .almJr _ w a => decide (w < 64) && decide (a < 16)
  | .almWaitev _ w d tmo cls arg => decide (w < 64) && decide (d < 16) && (match cls with | 0 => !tmo && arg == 0 | 1 | 2 | 3 => arg == 0 | 4 => decide (arg < 4096) | 5 => decide (arg < 64) | 6 => decide (arg < 3) | _ => false)
  | .almWaitevWake _ w => decide (w < 64)
  | .almSpawn _ w a b tgt => decide (w < 64) && decide (a < 16) && decide (b < 16) && decide (tgt < 65536)
  | .almKill _ w a => decide (w < 64) && decide (a < 16)
  | .almYield _ w => decide (w < 64)
  | .almHalt _ w => decide (w < 64)
  | .almFence _ w _ => decide (w < 64)
  | .almFenceRelease _ w => decide (w < 64)
  | .almSlotWaitRelease _ w => decide (w < 64)
  | .almStcLockAcquire _ w d n => decide (w < 64) && decide (d < 16) && decide (n < 16)
  | .almStcLockRelease _ w n => decide (w < 64) && decide (n < 16)
  | .almStcAwait _ w a => decide (w < 64) && decide (a < 16)
  | .almStcCan _ w _ n a => decide (w < 64) && decide (n < 3) && decide (a < 16)
  | .almStcPmc _ w _ c => decide (w < 64) && decide (c < 4)
  | .almBalStop _ w _ => decide (w < 64)
  | .almBalPhaseStart _ w _ sel a => decide (w < 64) && decide (a < 16) && decide (1 ≤ sel ∧ sel < 4)
  | .almExcStart _ w _ plan a => decide (w < 64) && decide (plan < 16) && decide (a < 16)
  | .almExcStop _ w _ plan => decide (w < 64) && decide (plan < 16)
  | .almSetpHosti _ w _ a => decide (w < 64) && decide (a < 16)
  | .almSetpHostv _ w _ a => decide (w < 64) && decide (a < 16)
  | .almSetpClass _ w _ a => decide (w < 64) && decide (a < 16)
  | .almTrigSet _ w _ f => decide (w < 64) && decide (f < 64)
  | .almTrigClear _ w _ f => decide (w < 64) && decide (f < 64)
  | .almTrigMark _ w _ a => decide (w < 64) && decide (a < 16)
  | .almTcmp _ w tb b scale ofs => decide (w < 64) && decide (tb < 8) && decide (b < 16) && decide (scale < 4) && decide (ofs < 1048576)
  | .almAt _ w tb b scale ofs => decide (w < 64) && decide (tb < 8) && decide (b < 16) && decide (scale < 4) && decide (ofs < 1048576)
  | .almAtr _ w tb b scale ofs => decide (w < 64) && decide (tb < 8) && decide (b < 16) && decide (scale < 4) && decide (ofs < 1048576)
  | .illegalInstruction _ w => decide (w < 64)
  | .eccFault _ w => decide (w < 64)
  | .programLoad _ _ _ => true
  | .programStart _ _ _ => true
  | .programMemoryWrite _ _ idx _ => decide (idx < 65536)
  | .dataMemoryAccess _ _ _ idx _ => decide (idx < 32768)
  | .evflagHostWrite _ _ off _ => decide (off < 1048576)
  | .contextUpdateDone _ c => decide (c < 640) || decide (976 ≤ c ∧ c < 1024)
  | .dapply _ _ => true
  | .prerested _ _ => true
  | .sextantWindowWrite _ _ _ _ => true
  | .journalSaveStart _ => true
  | .journalSaveDone _ _ => true
  | .periodicSave _ => true
  | .learnSave _ _ => true
  | .learnRestore _ _ => true
  | .learnNominal _ _ => true
  | .learnExport _ _ => true
  | .papply _ _ => true
  | .azmAutoStart _ => true
  | .excWindowElapse _ => true
  | .azmBlockEnd _ => true
  | .azmBlockReady _ => true
  | .balPhaseEffect _ => true
  | .balPhaseEnd _ => true
  | .balsetRefresh _ => true
  | .balPlan _ => true
  | .dieTemperaturePoll _ => true
  | .unsureExpiry _ k => decide (k < 48)
  | .helmRunRequest _ _ _ => true
  | .helmStop _ _ _ => true
  | .carrierEnable _ _ _ => true
  | .legsWrite _ _ _ => true
  | .carrierWrite _ _ _ => true
  | .coefficientWrite _ _ n _ => decide (n < 8)
  | .hostSetpointWrite _ _ off _ => decide (off < 1048576)
  | .classSelect _ _ _ => true
  | .sppPeriod _ _ _ => true
  | .sppTimeout _ => true
  | .hvacFrameSend _ => true
  | .hvacStatusReceive _ b => decide (b < 256)
  | .hvacLost _ => true
  | .closeRequest _ _ _ => true
  | .closeRelease _ _ _ => true
  | .energizeCheck _ n _ _ _ => decide (n < 4)
  | .deenergizeCheck _ n _ _ _ => decide (n < 4)
  | .offPulseStart _ n => decide (n < 4)
  | .offPulseCheck _ n _ _ => decide (n < 4)
  | .proofWarn _ n => decide (n < 4)
  | .lodestoneTick _ x => x.ok
  | .clkMismatch _ => true
  | .heartbeatWrite _ _ _ => true
  | .heartbeatTimeout _ _ => true
  | .lockstepMismatch _ => true
  | .pilotWatchdogExpiry _ => true
  | .pilotService _ => true
  | .bpermitLoss _ mask => decide (mask < 16)
  | .bpermitReturn _ mask => decide (mask < 16)
  | .safeBLow _ => true
  | .overcurrent _ _ _ => true
  | .overcurrentContactorTrip _ => true
  | .overTemperature _ => true
  | .sealRead _ v => decide (v < 1048576)
  | .inputFilterPass _ n _ _ => decide (n < 8)
  | .discrepancy _ n => decide (n < 8)
  | .insulationEstimate _ _ => true
  | .binnacleDelayedTrip _ => true
  | .holdTimerExpiry _ => true
  | .twinWrite _ _ _ => true
  | .hb _ _ => true
  | .grantRise _ _ => true
  | .grantFall _ => true
  | .autorunHelmStart _ => true
  | .startUpComplete _ => true
  | .mirrorArrival _ _ _ => true
  | .mirrorTimeout _ => true
  | .peerStatusReceive _ _ => true
  | .peerLaneDown _ lane => decide (lane < 2)
  | .twinEnergizeTimeout _ n => decide (n < 4)
  | .pcieLinkLoss _ => true
  | .cmdpiWrite _ _ _ => true
  | .rspciWrite _ _ _ => true
  | .postciWrite _ _ _ => true
  | .h2dMailboxWrite _ _ n _ => decide (n < 4)
  | .d2hempty _ _ _ => true
  | .mbxStall _ n => decide (n < 4)
  | .dboutWrite _ _ _ => true
  | .dbinClear _ _ _ => true
  | .hspiReadFrame _ addr _ => decide (addr < 4294967296)
  | .hspiWriteFrame _ addr _ _ _ => decide (addr < 4294967296)
  | .hspiStatusFrame _ => true
  | .hspiResetEnable _ => true
  | .hspiPortReset _ => true
  | .udpOpen _ port slot nc => decide (port < 2) && decide (slot < 8) && decide (nc.length = 16) && bytesOk nc
  | .udpConfirm _ port _ mac => decide (port < 2) && bytesOk mac
  | .udpDatagram _ port _ _ typ _ tag => decide (port < 2) && decide (typ < 256) && bytesOk tag
  | .udpSessionTimeout _ k => decide (k < 4)
  | .cmdUnknownCommand _ _ c => c.ok
  | .cmdGetInfo _ c => c.ok
  | .cmdEcho _ c => c.ok
  | .cmdReadReg _ c => c.ok
  | .cmdWriteReg _ c => c.ok
  | .cmdSetProfile _ c => c.ok
  | .cmdSetOverride _ c => c.ok
  | .cmdClearOverrides _ c => c.ok
  | .cmdSetEpoch _ c => c.ok
  | .cmdGetStatus _ c => c.ok
  | .cmdMbxRelay _ c => c.ok
  | .cmdStateRead _ c => c.ok
  | .cmdSetAwait _ c => c.ok
  | .cmdSetNet _ c => c.ok
  | .cmdGetTime _ c => c.ok
  | .cmdSetCalendar _ c => c.ok
  | .cmdSetPtp _ c => c.ok
  | .cmdSetRate _ c => c.ok
  | .cmdSetUtcofs _ c => c.ok
  | .cmdSetTiles _ c => c.ok
  | .cmdApplyTopology _ c => c.ok
  | .cmdRings _ c => c.ok
  | .cmdSetMod _ c => c.ok
  | .cmdSetChecks _ c => c.ok
  | .cmdOwRetest _ c => c.ok
  | .cmdGetRing _ c => c.ok
  | .cmdAlmLoad _ c => c.ok
  | .cmdAlmWrite _ c => c.ok
  | .cmdAlmStart _ c => c.ok
  | .cmdAlmDread _ c => c.ok
  | .cmdAlmDwrite _ c => c.ok
  | .cmdAlmFlags _ c => c.ok
  | .cmdAlmStatus _ c => c.ok
  | .cmdSxtWrite _ c => c.ok
  | .cmdSxtDapply _ c => c.ok
  | .cmdSxtCfg _ c => c.ok
  | .cmdCtxRead _ c => c.ok
  | .cmdLearnCfg _ c => c.ok
  | .cmdRestoreLearned _ c => c.ok
  | .cmdStageWrite _ c => c.ok
  | .cmdStageRead _ c => c.ok
  | .cmdExportLearned _ c => c.ok
  | .cmdAcceptNominal _ c => c.ok
  | .cmdJournalSave _ c => c.ok
  | .cmdAzmPlan _ c => c.ok
  | .cmdAzmCal _ c => c.ok
  | .cmdAzmApply _ c => c.ok
  | .cmdAzmCfg _ c => c.ok
  | .cmdAzmStatus _ c => c.ok
  | .cmdBalSetup _ c => c.ok
  | .cmdBalManual _ c => c.ok
  | .cmdBalStatus _ c => c.ok
  | .cmdHlmSetup _ c => c.ok
  | .cmdHlmAnalog _ c => c.ok
  | .cmdHlmCoef _ c => c.ok
  | .cmdHlmRun _ c => c.ok
  | .cmdHlmSetpoint _ c => c.ok
  | .cmdHlmLimits _ c => c.ok
  | .cmdHlmDispatch _ c => c.ok
  | .cmdDspSetup _ c => c.ok
  | .cmdCoolSetup _ c => c.ok
  | .cmdCoolFloor _ c => c.ok
  | .cmdHvacSetup _ c => c.ok
  | .cmdHlmStatus _ c => c.ok
  | .cmdSafetyStatus _ c => c.ok
  | .cmdSafetyReset _ c => c.ok
  | .cmdOutputRequest _ c => c.ok
  | .cmdBinParam _ c => c.ok
  | .cmdSealHistory _ c => c.ok
  | .cmdRdnSetup _ c => c.ok
  | .cmdRdnStatus _ c => c.ok
  | .cmdCanSetup _ c => c.ok
  | .cmdCanFilter _ c => c.ok
  | .cmdCanSend _ c => c.ok
  | .cmdCanRecv _ c => c.ok
  | .cmdCanCancel _ _ c => c.ok
  | .cmdCanAutobaud _ c => c.ok
  | .cmdCanTimemaster _ c => c.ok
  | .cmdUpdBegin _ c => c.ok
  | .cmdUpdWrite _ c => c.ok
  | .cmdUpdEnd _ c => c.ok
  | .cmdActivate _ c => c.ok
  | .cmdCommit _ c => c.ok
  | .cmdUpdStatus _ c => c.ok
  | .cmdPowerState _ c => c.ok
  | .cmdThermalSetup _ c => c.ok
  | .cmdThermalStatus _ c => c.ok
  | .cmdLogInfo _ c => c.ok
  | .cmdLogRead _ c => c.ok
  | .cmdLogWindow _ c => c.ok
  | .cmdLogNonce _ c => c.ok
  | .cmdLogClear _ c => c.ok
  | .cmdWearRead _ c => c.ok
  | .cmdCommissionSpare _ c => c.ok
  | .cmdPmcControl _ c => c.ok
  | .cmdPmcRead _ c => c.ok
  | .canFrameReceive _ n f => decide (n < 3) && f.ok
  | .canTxDone _ n _ _ => decide (n < 3)
  | .canTxAttemptFail _ n _ => decide (n < 3)
  | .txgo _ n _ _ => decide (n < 3)
  | .txcan _ n _ _ _ => decide (n < 3)
  | .rxrel _ n _ _ => decide (n < 3)
  | .restart _ n _ _ => decide (n < 3)
  | .busOffRecovery _ n => decide (n < 3)
  | .canTimingWrite _ _ off _ => decide (off < 1048576)
  | .abctlGo _ n _ _ => decide (n < 3)
  | .abctlStop _ n _ _ => decide (n < 3)
  | .autobaudDwellEnd _ n _ => decide (n < 3)
  | .referenceCycleStart _ n => decide (n < 3)
  | .bootReady _ => true
  | .supervisionStart _ => true
  | .pauseResumption _ => true
  | .pauseTimeout _ => true
  | .bootRecordWritten _ => true
  | .confirmationWindowClose _ => true
  | .recoveryReset _ => true
  | .kctlWrite _ _ _ => true
  | .kctlLock _ _ _ => true
  | .wakeFrame _ p dst payload => decide (p < 2) && bytesOk dst && bytesOk payload
  | .dieSensorConversion _ temps => decide (temps.length = 8)
  | .boardChannelConversion _ ch _ => decide (ch < 12)
  | .throttleEnd _ => true
  | .logEvent _ => true
  | .logRdidxWrite _ _ _ => true
  | .logErasureDone _ => true
  | .ledgerFlush _ _ => true
  | .eccScrub _ _ => true
  | .pmcStart _ _ => true
  | .pmcStop _ _ => true
  | .pmcFreeze _ _ => true
  | .pmcClear _ _ => true
  | .clockStopped _ c => decide (c < 17)
  | .clockRunning _ c => decide (c < 17)
  | .lodestoneOscStop _ => true
  | .pointerCheckFail _ n => decide (n < 22)
  | .handshakePhase _ n _ => decide (n < 22)
  | .crossingTimeout _ n _ => decide (n < 22)
  | .xresync _ _ _ => true
  | .xfbWrite _ _ _ => true
  | .xevmodeWrite _ _ _ _ => true
  | .tilePowerUp _ k ncell => decide (k < 48) && decide (ncell < 17)
  | .tileLinkUp _ k side => decide (k < 48) && decide (side < 4)
  | .turnbackFrameReceive _ p f => decide (p < 8) && f.ok
  | .tileResponseWindowEnd _ k => decide (k < 48)
  | .portFrameSent _ p => decide (p < 8)
  | .faultLoopReturn _ r => decide (r < 4)
  | .peerLaneUp _ lane => decide (lane < 2)
  | .ethLinkUp _ n => decide (n < 2)
  | .pcieLinkUp _ => true
  | .canRxError _ n _ => decide (n < 3)
  | .canProtocolException _ n => decide (n < 3)
  | .referenceMessageSent _ n _ => decide (n < 3)
  | .powerFail _ _ => true
  | .activateRampTimeout _ => true
  | .autobaudLimit _ n => decide (n < 3)

end Sys2Proof
end

