-- ==== Sys2Proof/Safety.lean ====
section
/-! DEFINITION. The terms that claims about runs use: the parts of the state, what a command leaves alone, and what it is for a command to complete. -/

namespace Sys2Proof.Machine

/-- A part of the state: every field of State but the queue of waiting commands and `marks`, the model's own note of the bits that have
been set in the present cycle. -/
inductive Part where
  /-- the counter of free values -/
  | freeCtr
  /-- Dial -/
  | dial
  /-- the registers -/
  | regs
  /-- the words read last -/
  | lastRead
  /-- epochs, locks and overrides -/
  | ep
  /-- the time bases -/
  | time
  /-- the Logbook -/
  | log
  /-- the host interfaces -/
  | host
  /-- Traverse and the tiles -/
  | trv
  /-- Acquisition -/
  | acq
  /-- balancing -/
  | bal
  /-- boot, update and the flash -/
  | upd
  /-- the wear ledger -/
  | wear
  /-- the clock crossings -/
  | clk
  /-- Helm -/
  | hlm
  /-- Lodestone -/
  | lds
  /-- the CAN controllers -/
  | can
  /-- Sextant and the learned store -/
  | sxt
  /-- Azimuth -/
  | azm
  /-- Almanac -/
  | alm
  /-- the performance counters -/
  | pmc
  /-- power limits, cooling, HVAC -/
  | dsp
  /-- power states and protection -/
  | pwr
  /-- Binnacle's checks -/
  | bin
  /-- twin operation -/
  | rdn
  /-- Pilot's command processing -/
  | pilot
  deriving DecidableEq, Repr

/-- Two states hold the same value in a part. -/
def Part.same : Part → State → State → Prop
  | .freeCtr, s, u => u.freeCtr = s.freeCtr
  | .dial, s, u => u.dial = s.dial
  | .regs, s, u => u.regs = s.regs
  | .lastRead, s, u => u.lastRead = s.lastRead
  | .ep, s, u => u.ep = s.ep
  | .time, s, u => u.time = s.time
  | .log, s, u => u.log = s.log
  | .host, s, u => u.host = s.host
  | .trv, s, u => u.trv = s.trv
  | .acq, s, u => u.acq = s.acq
  | .bal, s, u => u.bal = s.bal
  | .upd, s, u => u.upd = s.upd
  | .wear, s, u => u.wear = s.wear
  | .clk, s, u => u.clk = s.clk
  | .hlm, s, u => u.hlm = s.hlm
  | .lds, s, u => u.lds = s.lds
  | .can, s, u => u.can = s.can
  | .sxt, s, u => u.sxt = s.sxt
  | .azm, s, u => u.azm = s.azm
  | .alm, s, u => u.alm = s.alm
  | .pmc, s, u => u.pmc = s.pmc
  | .dsp, s, u => u.dsp = s.dsp
  | .pwr, s, u => u.pwr = s.pwr
  | .bin, s, u => u.bin = s.bin
  | .rdn, s, u => u.rdn = s.rdn
  | .pilot, s, u => u.pilot = s.pilot

/-- From s to u nothing changes but the listed parts: the queue and every other part are as they were. The note `marks` is no part. -/
def Touches (ps : List Part) (s u : State) : Prop := u.pending = s.pending ∧ ∀ p : Part, p ∉ ps → p.same s u

/-- A 4 KB block of the register map, the registers of one unit (Table 24-2); every master's instance of a register belongs to its
unit. -/
abbrev Block := Nat
abbrev Block.sys : Block := 0x00
abbrev Block.clk : Block := 0x01
abbrev Block.time : Block := 0x02
abbrev Block.host : Block := 0x03
abbrev Block.trv : Block := 0x04
abbrev Block.acq : Block := 0x06
abbrev Block.alm : Block := 0x08
abbrev Block.sxt : Block := 0x0A
abbrev Block.azm : Block := 0x0C
abbrev Block.bal : Block := 0x0D
abbrev Block.hlm : Block := 0x0E
abbrev Block.dsp : Block := 0x0F
abbrev Block.lds : Block := 0x10
abbrev Block.bin : Block := 0x11
abbrev Block.rdn : Block := 0x12
abbrev Block.can : Block := 0x13
abbrev Block.upd : Block := 0x14
abbrev Block.thm : Block := 0x15
abbrev Block.log : Block := 0x16
abbrev Block.wear : Block := 0x17
abbrev Block.pmc : Block := 0x18
abbrev Block.sec : Block := 0x19

/-- The block of a register key. -/
def blockOf (k : Nat) : Block := k / 0x1000 % 0x100

/-- Every register outside the listed blocks holds what it held. -/
def OnlyBlocks (bs : List Block) (s u : State) : Prop := ∀ k : Nat, blockOf k ∉ bs → u.word k = s.word k

/-- The footprint of a command: from s to u nothing changes but the listed parts, and of the registers only those of the listed
blocks; Dial does not run back. -/
def Footprint (ps : List Part) (bs : List Block) (s u : State) : Prop := Touches ps s u ∧ OnlyBlocks bs s u ∧ s.dial ≤ u.dial

/-- The registers outside the listed keys hold what they held. -/
def SameRegs (ks : List Nat) (s u : State) : Prop := ∀ k : Nat, k ∉ ks → u.word k = s.word k

/-- The word that a master's last register read returned. -/
def State.lastReadOf (s : State) (m : Master) : Word := Tab.get zeroWord s.lastRead (masterId m)

/-- The command is executed: exec answers a next state, of which P holds. -/
def Completes (c : Instr) (s : State) (P : State → Prop) : Prop := ∃ u : State, exec c s = .next u ∧ P u

/-- The register table is in its canonical form, so that equal registers are equal data. -/
def State.RegsOk (s : State) : Prop := Tab.wf regReset s.regs = true

/-- Every command that waits is one the spec admits. -/
def State.QueueOk (s : State) : Prop := ∀ c ∈ s.pending, c.wf = true

/-- What holds of the state throughout a run of admitted commands. -/
def State.Inv (s : State) : Prop := s.RegsOk ∧ s.QueueOk

/-- One step stays within a safe run: it ends neither in a fault nor in a refusal, and the invariant survives it. -/
def SafeStep (s : State) : Prop := ∃ u : State, step s = .next u ∧ u.Inv

/-- Watch w issues an Almanac instruction: the watch is READY in the active role, no KILL of this cycle names it, the order of issue
leaves it a pipe (R177, R182), and the word at its PC is the instruction's. -/
def Issues (i : Instr) (w : Nat) (s : State) : Prop :=
  (s.revive w).1 = false ∧ s.issues w = true ∧ almEncode i = some (s.fetched w)

/-- Watch w's state becomes f of it; every other watch, program memory and data memory are as they were. -/
def Retires (w : Nat) (f : Watch → Watch) (s u : State) : Prop :=
  u.watch w = f (s.watch w) ∧ (∀ k : Nat, k ≠ w → u.watch k = s.watch k) ∧ u.alm.pmem = s.alm.pmem ∧ u.alm.dmem = s.alm.dmem

/-- Watch w faults with a code: FAULTED at the faulting word, its wait gone and its pending actions cancelled and counted, the fault
recorded in ALM_FAULT; its registers, flags and LT, every other watch and both memories are as they were (R176). -/
def FaultsAt (w code : Nat) (s u : State) : Prop :=
  Retires w (fun x => { x with st := .faulted, wait := none, slots := [], fcode := code }) s u ∧
    u.fld F.ALM_FAULT_FCODE = code ∧ u.fld F.ALM_FAULT_WATCH = w ∧ u.fld F.ALM_FAULT_PC = (s.watch w).pc % 2 ^ 16 ∧
    u.flag F.ALM_STS_FAULT = true

/-- The tile in slot k at instant t, its switches settled. -/
def State.tileAt (s : State) (t k : Nat) : Tile := (s.at t).settle (s.tile k)

/-- A RESP of a tile. -/
def respFrame (seq fn status : Nat) (data : List Nat) : Frame := ⟨0, true, false, false, seq, .resp fn status data⟩

/-- From s to u only the tile in slot k changes, and the time. -/
def OnlyTile (k : Nat) (s u : State) : Prop :=
  Touches [.dial, .time, .trv] s u ∧ u.trv.ports = s.trv.ports ∧ u.trv.rings = s.trv.rings ∧ u.trv.known = s.trv.known ∧
    ∀ j : Nat, j ≠ k → u.tile j = s.tile j
/-- An arithmetic instruction of watch w retires: gd takes the word r, Z and N come from it, C and V are as given, and the watch goes
on to the next word (R149). -/
def AluEffect (w d : Nat) (r : Word) (c v : Bool) (s u : State) : Prop :=
  Touches [.dial, .time, .alm, .pmc] s u ∧
    Retires w (fun x => { x.put d r with pc := (x.pc + 1) % 2 ^ 16, z := r == 0, n := r.msb, c := c, v := v }) s u

/-- An instruction of watch w gives gd the word r, leaves the flags, and goes on. -/
def LoadEffect (w d : Nat) (r : Word) (s u : State) : Prop :=
  Retires w (fun x => { x.put d r with pc := (x.pc + 1) % 2 ^ 16 }) s u

/-- An instruction of watch w leaves registers and flags and goes to a word index. -/
def GoesTo (w pc : Nat) (s u : State) : Prop :=
  Touches [.dial, .time, .alm, .pmc, .regs] s u ∧ OnlyBlocks [Block.pmc] s u ∧ Retires w (fun x => { x with pc := pc }) s u

/-- An instruction of watch w leaves its registers, gives C, and goes on. -/
def CarryOnly (w : Nat) (c : Bool) (s u : State) : Prop := Retires w (fun x => { x with pc := (x.pc + 1) % 2 ^ 16, c := c }) s u

/-- An instruction that does not fault watch w's address: its operand as an address (R151). -/
def dataAddr (s : State) (w a imm : Nat) : Word := s.greg w a + (BitVec.ofNat 18 imm).signExtend 32
/-- The watch, the T bit and the action of an instruction that takes T (Tables 5-6, 5-7), its operands read in a state. -/
def timedAct (s : State) : Instr → Option (Nat × Bool × Act)
  | .almBalStop _ w tm => some (w, tm, .bal 0 0)
  | .almBalPhaseStart _ w tm sel a => some (w, tm, .bal sel (s.greg w a).toNat)
  | .almExcStart _ w tm plan a => some (w, tm, .excStart plan (s.greg w a).toNat)
  | .almExcStop _ w tm _ => some (w, tm, .excStop)
  | .almSetpHosti _ w tm a => some (w, tm, .setp 0 (s.greg w a))
  | .almSetpHostv _ w tm a => some (w, tm, .setp 1 (s.greg w a))
  | .almSetpClass _ w tm a => some (w, tm, .setp 2 (s.greg w a))
  | .almTrigSet _ w tm f => some (w, tm, .trig f 0)
  | .almTrigClear _ w tm f => some (w, tm, .trig (256 + f) 0)
  | .almTrigMark _ w tm a => some (w, tm, .trig 512 (s.greg w a))
  | .almStcCan _ w tm n a => some (w, tm, .can n ((List.range 18).map fun j => s.dmRead ((s.greg w a).toNat / 4 + j)))
  | .almStcPmc _ w tm c => some (w, tm, .pmc c)
  | _ => none
/-- The Dial instant at which an instruction that takes T issues. -/
def almInstant : Instr → Nat
  | .almBalStop t _ _ | .almBalPhaseStart t _ _ _ _ | .almExcStart t _ _ _ _ | .almExcStop t _ _ _ | .almSetpHosti t _ _ _
  | .almSetpHostv t _ _ _ | .almSetpClass t _ _ _ | .almTrigSet t _ _ _ | .almTrigClear t _ _ _ | .almTrigMark t _ _ _
  | .almStcCan t _ _ _ _ | .almStcPmc t _ _ _ => t
  | _ => 0
/-- The outputs of a mask are made safe: energized no longer, their close requests gone, and one that was energized or energizing is
in its de-energize sequence with a drive removed (R335, R341, R357). -/
def MadeSafe (mask : Nat) (s u : State) : Prop :=
  ∀ n < 4, mask.testBit n = true → (s.outSt n).phase ≠ .releasing →
    u.energized n = false ∧ u.outReq n = false ∧
      ((s.energized n = true ∨ (s.outSt n).phase = .energizing) → (u.outSt n).phase = .releasing ∧
        (u.flag (F.LDS_OUT_HS_DRV_L n) = false ∨ u.flag (F.LDS_OUT_LS_DRV_L n) = false))

/-- A trip with a cause that names the outputs of a mask: the cause is latched, the SAFETY cause of the host sets when the latch is
new, the outputs go safe and their LPERMIT is withdrawn (R335, Table 16-5). -/
def TripsOn (cause : Fld) (mask : Nat) (s u : State) : Prop :=
  u.flag cause = true ∧ u.flag F.LDS_TRIP_TRIPPED_L = true ∧ (s.flag cause = false → (u.word Reg.HOST_IRQSTS).getLsbD 5 = true) ∧
    MadeSafe mask s u ∧ ∀ n < 4, mask.testBit n = true → (u.fld F.LDS_TRIP_PERMIT_L).testBit n = false

/-- The unit has stopped its active-only actions (R368): no watch runs and no timed action pends, Helm has stopped, the CAN queues are
empty, every lock of the five masters is free. -/
def LeavesRole (s u : State) : Prop :=
  u.fld F.ALM_CTL_RUN = 0 ∧ u.helmRun = false ∧ (∀ w < 64, (u.watch w).st = .halted ∧ (u.watch w).slots = []) ∧
    (∀ n < 3, (u.can1 n).queue = []) ∧ ∀ n < 16, 1 ≤ s.lockOwner n → s.lockOwner n ≤ 5 → u.lockOwner n = 0

/-- Dead-reckoning mode is entered with a cause at the state's instant (R343, R344, Table 13-6). -/
def EntersDeadReckoning (cause : Nat) (s u : State) : Prop :=
  u.fld F.LDS_DRM_CAUSE = cause ∧ u.fld F.LDS_DRM_HOLDLEFT = s.holdTicks ∧
    u.fld F.LDS_DRM_STATE = (if s.takeoverSeen then 2 else if s.holdTicks = 0 then 3 else 1) ∧
    u.flag F.UPD_STS_HOLD = false ∧ u.flag F.RDN_STS_CLAIM_L = false ∧ (s.flag F.RDN_CTL_TWIN = true → u.fld F.RDN_STS_ROLE = 5) ∧
    LeavesRole s u ∧ MadeSafe 12 s u ∧ (u.fld F.LDS_DRM_STATE = 3 → MadeSafe 15 s u) ∧
    ((s.takeoverSeen = true ∨ s.holdTicks ≠ 0) → ∀ n < 2, s.energized n = true → s.outReq n = true → s.basePermit n = true →
      (s.outSt n).phase ≠ .releasing → u.energized n = true ∧ u.outReq n = true)

/-- An output check that only samples: the readbacks of output n are shown, and nothing else changes but the time. -/
def OnlySamples (n : Nat) (hs ls load : Bool) (s u : State) : Prop :=
  Touches [.dial, .time, .regs] s u ∧ SameRegs [Reg.LDS_OUT n] s u ∧
    u.word (Reg.LDS_OUT n) = setBits (setBits (setBits (s.word (Reg.LDS_OUT n)) 28 1 (b2n hs)) 27 1 (b2n ls)) 26 1 (b2n load)

/-- Output n's energize sequence fails with a code (R356). -/
def EnergizeFails (n code : Nat) (s u : State) : Prop :=
  u.fld (F.LDS_OUT_OUTFAULT n) = (if s.fld (F.LDS_OUT_OUTFAULT n) = 0 then code else s.fld (F.LDS_OUT_OUTFAULT n)) ∧
    u.flag (F.LDS_OUT_HS_DRV_L n) = false ∧ u.flag (F.LDS_OUT_LS_DRV_L n) = false ∧ u.flag (F.LDS_OUT_SEQ_L n) = false ∧
    u.outReq n = false ∧ u.energized n = false ∧ (u.outSt n).phase = .rest

/-- Output n stays permitted and requested through an evaluation of the outputs: its own request and permits stand, and for PRECHARGE
and CONV_EN so do those of CONT_NEG (R340). -/
def State.staysPermitted (s : State) (n : Nat) : Prop :=
  s.outReq n = true ∧ s.permitted n = true ∧ (n < 2 ∨ (s.outReq 1 = true ∧ s.permitted 1 = true))
/-- An access the host interfaces refuse with an error bit of HOST_STS: the bit and the ERR cause set, and nothing else changes but the
interrupt messages (R396). -/
def HostErr (f : Fld) (s u : State) : Prop :=
  Touches [.dial, .time, .regs, .host] s u ∧ SameRegs [Reg.HOST_STS, Reg.HOST_IRQSTS] s u ∧ u.flag f = true ∧
    (u.word Reg.HOST_IRQSTS).getLsbD 4 = true

/-- HostErr of a request that has crossed from its host's clock: its crossing's hold registers may have moved on too. -/
def BusErr (f : Fld) (s u : State) : Prop :=
  Touches [.dial, .time, .regs, .host, .clk] s u ∧ SameRegs [Reg.HOST_STS, Reg.HOST_IRQSTS] s u ∧ u.flag f = true ∧
    (u.word Reg.HOST_IRQSTS).getLsbD 4 = true

/-- The four ring indices of a host are 0 (R388). -/
def RingsAtZero (m : Nat) (u : State) : Prop :=
  u.ringIdx m Reg.HOST_CMDPI = 0 ∧ u.ringIdx m Reg.HOST_CMDCI = 0 ∧ u.ringIdx m Reg.HOST_RSPPI = 0 ∧ u.ringIdx m Reg.HOST_RSPCI = 0

/-- A datagram is dropped (R401). -/
def UdpDrops (s u : State) : Prop :=
  Touches [.dial, .time, .regs, .host] s u ∧ SameRegs [Reg.HOST_STS, Reg.HOST_IRQSTS, Reg.HOST_UDPSTS] s u ∧
    u.flag F.HOST_STS_UDP_AUTH = true ∧ u.fld F.HOST_UDPSTS_DROPS = min (s.fld F.HOST_UDPSTS_DROPS + 1) 65535 ∧
    ∀ k : Nat, u.session k = s.session k
/-- The parameter words of a command of fixed length, by opcode (R402, Tables 17-2 to 17-18); an opcode not listed has none. -/
def pilotCounts : List (Nat × Nat) :=
  [(0x0102, 2), (0x0104, 1), (0x0105, 2), (0x0107, 1), (0x0109, 2), (0x010A, 2), (0x010B, 1), (0x010C, 4), (0x0201, 2), (0x0202, 3),
   (0x0203, 1), (0x0204, 1), (0x0301, 1), (0x0302, 1), (0x0303, 7), (0x0304, 5), (0x0305, 1), (0x0306, 1), (0x0400, 3), (0x0403, 2),
   (0x0405, 4), (0x0406, 2), (0x0502, 2), (0x0503, 3), (0x0504, 10), (0x0507, 2), (0x0600, 10), (0x0601, 11), (0x0603, 3),
   (0x0700, 5), (0x0702, 2), (0x0800, 4), (0x0801, 3), (0x0803, 1), (0x0804, 5), (0x0805, 3), (0x0806, 3), (0x0807, 7), (0x0808, 4),
   (0x0809, 1), (0x080A, 3), (0x0902, 2), (0x0903, 2), (0x0904, 1), (0x0A00, 1), (0x0B00, 6), (0x0B01, 4), (0x0B02, 19), (0x0B03, 2),
   (0x0B04, 2), (0x0B05, 2), (0x0B06, 3), (0x0C00, 3), (0x0D00, 2), (0x0D01, 3), (0x0E01, 2), (0x0E02, 1), (0x0E04, 9), (0x0E05, 3),
   (0x0E06, 3), (0x0E07, 25), (0x0E08, 1)]

/-- Does a list of parameter words have the length that an opcode's row gives (R402)? -/
def pilotNeed (op : Nat) : List Word → Bool :=
  if op = 0x0101 then fun p => decide (p.length ≤ 62)
  else if op ∈ [0x0103, 0x0401, 0x0404, 0x0500, 0x0701] then wordsVar 2 1
  else if op = 0x0300 then wordsVar 2 2
  else if op = 0x0802 then wordsVar 1 2
  else if op = 0x0506 then wordsBytesVar
  else if op = 0x0C01 then fun p => decide (2 ≤ p.length ∧ (4 ≤ pn p 1 → pn p 1 ≤ 240 → p.length = 2 + (pn p 1 + 3) / 4))
  else wordsN ((pilotCounts.lookup op).getD 0)

/-- The opcodes of flag L: a local host only (R404). -/
def pilotLocal : List Nat := [0x0103, 0x010C, 0x0300, 0x0301, 0x0302, 0x0800, 0x0803, 0x0804, 0x0902, 0x0A00, 0x0D00]

/-- The opcodes of flag A: the active unit only (R404). -/
def pilotActive : List Nat := [0x0402, 0x0803, 0x0804, 0x0902, 0x0B02, 0x0B06]

/-- The commands of Tables 17-2 to 17-18 with their opcodes, for an entry. -/
def IsPilotCommand (t : Nat) (begun : Bool) (c : Entry) (x : Instr × Nat) : Prop :=
  x ∈ ([(.cmdGetInfo t c, 0x0100), (.cmdEcho t c, 0x0101), (.cmdReadReg t c, 0x0102), (.cmdWriteReg t c, 0x0103),
   (.cmdSetProfile t c, 0x0104), (.cmdSetOverride t c, 0x0105), (.cmdClearOverrides t c, 0x0106), (.cmdSetEpoch t c, 0x0107),
   (.cmdGetStatus t c, 0x0108), (.cmdMbxRelay t c, 0x0109), (.cmdStateRead t c, 0x010A), (.cmdSetAwait t c, 0x010B),
   (.cmdSetNet t c, 0x010C), (.cmdGetTime t c, 0x0200), (.cmdSetCalendar t c, 0x0201), (.cmdSetPtp t c, 0x0202),
   (.cmdSetRate t c, 0x0203), (.cmdSetUtcofs t c, 0x0204), (.cmdSetTiles t c, 0x0300), (.cmdApplyTopology t c, 0x0301),
   (.cmdRings t c, 0x0302), (.cmdSetMod t c, 0x0303), (.cmdSetChecks t c, 0x0304), (.cmdOwRetest t c, 0x0305),
   (.cmdGetRing t c, 0x0306), (.cmdAlmLoad t c, 0x0400), (.cmdAlmWrite t c, 0x0401), (.cmdAlmStart t c, 0x0402),
   (.cmdAlmDread t c, 0x0403), (.cmdAlmDwrite t c, 0x0404), (.cmdAlmFlags t c, 0x0405), (.cmdAlmStatus t c, 0x0406),
   (.cmdSxtWrite t c, 0x0500), (.cmdSxtDapply t c, 0x0501), (.cmdSxtCfg t c, 0x0502), (.cmdCtxRead t c, 0x0503),
   (.cmdLearnCfg t c, 0x0504), (.cmdRestoreLearned t c, 0x0505), (.cmdStageWrite t c, 0x0506), (.cmdStageRead t c, 0x0507),
   (.cmdExportLearned t c, 0x0508), (.cmdAcceptNominal t c, 0x0509), (.cmdJournalSave t c, 0x050A), (.cmdAzmPlan t c, 0x0600),
   (.cmdAzmCal t c, 0x0601), (.cmdAzmApply t c, 0x0602), (.cmdAzmCfg t c, 0x0603), (.cmdAzmStatus t c, 0x0604),
   (.cmdBalSetup t c, 0x0700), (.cmdBalManual t c, 0x0701), (.cmdBalStatus t c, 0x0702), (.cmdHlmSetup t c, 0x0800),
   (.cmdHlmAnalog t c, 0x0801), (.cmdHlmCoef t c, 0x0802), (.cmdHlmRun t c, 0x0803), (.cmdHlmSetpoint t c, 0x0804),
   (.cmdHlmLimits t c, 0x0805), (.cmdHlmDispatch t c, 0x0806), (.cmdDspSetup t c, 0x0807), (.cmdCoolSetup t c, 0x0808),
   (.cmdCoolFloor t c, 0x0809), (.cmdHvacSetup t c, 0x080A), (.cmdHlmStatus t c, 0x080B), (.cmdSafetyStatus t c, 0x0900),
   (.cmdSafetyReset t c, 0x0901), (.cmdOutputRequest t c, 0x0902), (.cmdBinParam t c, 0x0903), (.cmdSealHistory t c, 0x0904),
   (.cmdRdnSetup t c, 0x0A00), (.cmdRdnStatus t c, 0x0A01), (.cmdCanSetup t c, 0x0B00), (.cmdCanFilter t c, 0x0B01),
   (.cmdCanSend t c, 0x0B02), (.cmdCanRecv t c, 0x0B03), (.cmdCanCancel t begun c, 0x0B04), (.cmdCanAutobaud t c, 0x0B05),
   (.cmdCanTimemaster t c, 0x0B06), (.cmdUpdBegin t c, 0x0C00), (.cmdUpdWrite t c, 0x0C01), (.cmdUpdEnd t c, 0x0C02),
   (.cmdActivate t c, 0x0C03), (.cmdCommit t c, 0x0C04), (.cmdUpdStatus t c, 0x0C05), (.cmdPowerState t c, 0x0D00),
   (.cmdThermalSetup t c, 0x0D01), (.cmdThermalStatus t c, 0x0D02), (.cmdLogInfo t c, 0x0E00), (.cmdLogRead t c, 0x0E01),
   (.cmdLogWindow t c, 0x0E02), (.cmdLogNonce t c, 0x0E03), (.cmdLogClear t c, 0x0E04), (.cmdWearRead t c, 0x0E05),
   (.cmdCommissionSpare t c, 0x0E06), (.cmdPmcControl t c, 0x0E07), (.cmdPmcRead t c, 0x0E08)] : List (Instr × Nat))

/-- The words of an entry with an opcode. -/
def entryOf (op : Nat) (c : Entry) : List Word := entryWords c.tag c.len op c.w1lo (entryPs c)

/-- The state in which Pilot has taken an entry at an instant. -/
def State.taken (s : State) (t op : Nat) (c : Entry) : State := (s.at t).takeEntry c.iss (entryOf op c)

/-- Pilot takes an entry and serves its command: none of the checks that precede every command turns it away (R402, R404, R407, R457). -/
def Serves (t op : Nat) (c : Entry) (s : State) : Prop :=
  (s.at t).pilotTakes c.iss (entryOf op c) = true ∧ lenOk c.len = true ∧ (s.flag F.UPD_STS_RECOVERY = true → op ∈ recoveryOps) ∧
    pilotNeed op (entryPs c) = true ∧ (op ∈ pilotLocal → (ringMaster c.iss).isSome = true) ∧
    (op ∈ pilotActive → s.flag F.RDN_CTL_TWIN = true → s.fld F.RDN_STS_ROLE = 4) ∧ c.w1lo = 0

/-- A command is executed and answered with a status: from the state in which its entry is taken it goes to another, with its data. -/
def Answers (i : Instr) (t op : Nat) (c : Entry) (st : Nat) (s : State) (P : State → List Word → State → Prop) : Prop :=
  ∃ (v : State) (d : List Word), exec i s = .next (v.respond c.iss c.tag op st d) ∧ P (s.taken t op c) d v

/-- A command is executed and its answer waits for an event (R407). -/
def Waits (i : Instr) (t op : Nat) (c : Entry) (what : Await) (s : State) (P : State → State → Prop) : Prop :=
  ∃ v : State, exec i s = .next (v.modPilot fun p => { p with waiting := p.waiting ++ [⟨c.iss, c.tag, op, what, false⟩] }) ∧
    P (s.taken t op c) v

/-- A command answers with a status, without data, and leaves the rest as it found it. -/
def Refuses (i : Instr) (t op : Nat) (c : Entry) (st : Nat) (s : State) : Prop := Answers i t op c st s fun w d v => d = [] ∧ v = w
/-- An event reaches the Logbook writer, unless its queue is full: its code, severity, instance and payload, stamped with the Dial of
the moment (R480, R483). -/
def Logs (code sev : Nat) (inst : Word) (p : List Word) (s u : State) : Prop :=
  s.log.queue.length < 64 → ∃ e : LogEv, u.log.queue = s.log.queue ++ [e] ∧ e.code = code ∧ e.sev = sev ∧ e.inst = inst ∧
    e.payload = p ∧ e.dial = u.dial

/-- The device resets (R444, R478): every register of the listed units that no rule keeps is at its reset value, volatile state is
gone, MRAM, flash, fuses, tiles, Dial and Lodestone's latches stay, Lodestone suspends its two supervisions, and PRECHARGE and CONV_EN
are open. -/
def DeviceResets (subst : Bool) (s u : State) : Prop :=
  u.dial = s.dial ∧ u.pending = s.pending ∧ u.pwr.held = true ∧ u.fld F.THM_STS_PSTATE = 0 ∧
    u.flag F.ACQ_STS_OW_CONFIRMED_L = u.owAny ∧
    (∀ k : Nat, keptReset k = false → k ≠ Reg.ACQ_STS → blockOf k ∈ [Block.sys, Block.host, Block.trv, Block.acq, Block.azm, Block.bal, Block.can,
      Block.upd, Block.pmc] → u.word k = regReset k) ∧
    u.upd.flash = s.upd.flash ∧ u.upd.keys = s.upd.keys ∧ u.upd.resetAt = none ∧ u.wear = s.wear ∧ u.trv.tiles = s.trv.tiles ∧
    u.host = HostSt.reset ∧ u.alm = AlmSt.reset ∧ u.can = [] ∧ u.sxt.slotA = s.sxt.slotA ∧ u.sxt.slotB = s.sxt.slotB ∧
    u.pilot.waiting = [] ∧ u.pilot.seals = s.pilot.seals ∧ u.log.newest = s.log.newest ∧ u.log.oldest = s.log.oldest ∧
    u.ep.opn.start = s.dial / 10000000 * 10000000 ∧ u.lds.tick = s.lds.tick ∧ u.lds.supFrom = s.lds.tick ∧ u.lds.hbSup = false ∧
    u.lds.wdSup = false ∧ u.lds.binHeld = true ∧ u.lds.hbSubst = subst ∧ u.fld F.LDS_TRIP_BPERMIT_L = 0 ∧
    (∀ n < 4, 2 ≤ n → (s.outSt n).phase ≠ .releasing → u.energized n = false)

/-- The supplies have fallen (R478, R488): every register that fuses or VBAT do not hold is at its reset value, queued
events and counts since the last flush are gone; MRAM, flash and fuses stay. -/
def SuppliesFall (s u : State) : Prop :=
  u.pending = s.pending ∧ u.pwr.held = true ∧ u.pwr.shut = false ∧ u.pwr.shutLog = s.pwr.shutLog ∧
    u.lds = LdsSt.reset ∧ u.host = HostSt.reset ∧ u.alm = AlmSt.reset ∧ u.can = [] ∧ u.log.queue = [] ∧ u.log.lost = 0 ∧
    u.log.newest = s.log.newest ∧ u.log.oldest = s.log.oldest ∧
    u.wear.live = (if s.wear.seqB < s.wear.seqA then s.wear.copyA else s.wear.copyB) ∧ u.wear.copyA = s.wear.copyA ∧
    u.wear.copyB = s.wear.copyB ∧ u.upd.flash = s.upd.flash ∧ u.upd.keys = s.upd.keys ∧ u.sxt.slotA = s.sxt.slotA ∧
    u.sxt.slotB = s.sxt.slotB ∧ u.pilot.seals = s.pilot.seals ∧
    (∀ k : Nat, keptAlways k = false → blockOf k ∈ [Block.sys, Block.clk, Block.host, Block.trv, Block.acq, Block.azm, Block.bal,
      Block.lds, Block.bin, Block.can, Block.upd, Block.pmc, Block.log] → u.word k = regReset k) ∧ ∀ n < 4, u.energized n = false

/-- The start sequence chooses bank b (R443, R445): recovery mode at a high strap or when no bank verifies; a revert or a fallback is
shown and writes a boot record that names the bank with PENDING 0. -/
def ChoosesBank (strap : Bool) (s u : State) : Prop :=
  ∀ sel : Nat, sel = (if s.bootRecord.2 = 1 then (s.bootRecord.1 + 1) % 2 else s.bootRecord.1 % 2) →
    ((strap = true ∨ (s.bankOk sel = false ∧ s.bankOk (1 - sel) = false)) → u.flag F.UPD_STS_RECOVERY = true ∧ u.lds.binHeld = true) ∧
    (strap = false → s.bankOk sel = true → u.fld F.UPD_STS_RUNBANK = sel ∧ u.lds.binHeld = false ∧
      u.flag F.UPD_STS_RECOVERY = s.flag F.UPD_STS_RECOVERY ∧
      (s.bootRecord.2 = 1 → u.flag F.UPD_STS_REVERTED = true ∧ u.bootRecord = (sel, 0))) ∧
    (strap = false → s.bankOk sel = false → s.bankOk (1 - sel) = true → u.fld F.UPD_STS_RUNBANK = 1 - sel ∧ u.lds.binHeld = false ∧
      u.flag F.UPD_STS_RECOVERY = s.flag F.UPD_STS_RECOVERY ∧ u.flag F.UPD_STS_FALLBACK = true ∧ u.bootRecord = (1 - sel, 0))

end Sys2Proof.Machine
end

