-- ==== Sys2Proof/Certificates/Slice0/Obligations.lean ====
section
/-! DEFINITION. The statements about the SX640: what each command does, what it leaves alone, when it completes, and what every step keeps. -/

open Sys2Proof Sys2Proof.Machine

/-! ## The block as a whole -/

/-- A step runs the command at the front of the queue with the queue's rest. On an empty queue the block idles, and no table word spells a command, since
no row of the table gives bits (both the model's choice, log entries 1 and 2). -/
def Obligations.StepRunsTheFrontCommand : Prop :=
  (∀ (c : Instr) (cs : List Instr) (s : State), s.pending = c :: cs → step s = exec c { s with pending := cs }) ∧
  (∀ s : State, s.pending = [] → step s = .next s) ∧
  ∀ (s : State) (nbits w : Nat), decodeTableWord nbits w = none ∧ s.withFetchWord nbits w = s

/-- R48, R478, R543: the state right after reset meets the invariant; Dial is 0, nothing waits, and registers show the reset values of their tables. -/
def Obligations.ResetGivesTheStatedValues : Prop :=
  State.reset.Inv ∧ State.reset.pending = [] ∧ State.reset.dial = 0 ∧ (∀ k : Nat, State.reset.word k = regReset k) ∧
    State.reset.word Reg.SYS_EPOCHCTL = 0x0014000A ∧ State.reset.word Reg.THM_CTL = 0x6E000403 ∧
    State.reset.word (Reg.THM_DIE 7) = 0x8000 ∧ State.reset.word (Reg.THM_TH 0) = 0x1B588000 ∧
    State.reset.word Reg.CLK_XEVMODE = 0x80000 ∧ State.reset.word Reg.LOG_WINDOW = 10 ∧ State.reset.word Reg.THM_TDCFG = 0x2760 ∧
    State.reset.fld F.UPD_STS_READY = 0 ∧ State.reset.fld F.LDS_DRM_STATE = 0 ∧ State.reset.fld F.RDN_STS_ROLE = 0 ∧
    (∀ n < 4, State.reset.energized n = false ∧ State.reset.outReq n = false) ∧ (∀ n < 16, State.reset.lockOwner n = 0) ∧
    (∀ w < 64, (State.reset.watch w).st = .halted) ∧ State.reset.helmRun = false ∧ State.reset.calMs = 0

/-- A run of admitted commands never ends: from every state that meets the invariant (the register table canonical, every waiting command admitted) a step
answers a next state, which meets it again. -/
def Obligations.EveryStepKeepsTheInvariant : Prop :=
  ∀ s : State, s.Inv → SafeStep s

/-- R147, R148, Tables 5-3 to 5-7: the words of Almanac's program memory and its instructions agree in both directions: what a word decodes to encodes to
that word, and every admitted instruction decodes from its word (whether a FENCE waits is no part of its word). -/
def Obligations.AlmanacWordsAndInstructionsAgree : Prop :=
  (∀ (t w : Nat) (x : Word) (i : Instr), w < 64 → almDecode t w x = some i → i.wf = true ∧ almEncode i = some x) ∧
  ∀ (i : Instr) (x : Word), i.wf = true → almEncode i = some x → (∀ t w : Nat, i ≠ .almFence t w true) →
    ∃ t w : Nat, w < 64 ∧ almDecode t w x = some i

/-- Tables 5-3 to 5-7: words written out from the formats decode to the instructions they stand for; unassigned opcodes and non-zero unused fields decode
to none. -/
def Obligations.AlmanacWordsDecodeAsWritten : Prop :=
  ∀ t w : Nat,
    almDecode t w 0b000001_0011_0001_0010_0000_000000_0000 = some (.almAdd t w 3 1 2) ∧
    almDecode t w 0b000001_0100_0101_0110_0111_000000_1100 = some (.almClamp t w 4 5 6 7) ∧
    almDecode t w 0b000010_0001_0010_111111111111111111 = some (.almAddi t w 1 2 0x3FFFF) ∧
    almDecode t w 0b001010_1111_0001_000000000000000100 = some (.almStw t w 15 1 4) ∧
    almDecode t w 0b010001_0001_0010_00_0000000000001000 = some (.almBne t w 1 2 8) ∧
    almDecode t w 0b011010_0011_0000_00_1100_000000000101 = some (.almWaitev t w 3 true 4 5) ∧
    almDecode t w 0b100000_0_0010_0000_000_0000_0000000111 = some (.almStcLockAcquire t w 2 7) ∧
    almDecode t w 0b100010_1_0000_0011_000_0000_0000000001 = some (.almBalPhaseStart t w true 1 3) ∧
    almDecode t w 0b110_010_0100_10_00000000001111101000 = some (.almAt t w 2 4 2 1000) ∧
    almDecode t w 0 = none ∧ almDecode t w 0b000001_0011_0001_0010_0000_000000_1101 = none ∧
    almDecode t w 0b000001_0011_0001_0010_0001_000000_0000 = none ∧ almDecode t w 0x98000000 = none ∧
    almDecode t w 0b000101_0001_0010_000000000000100000 = none

/-- What each command leaves unchanged: the queue and every part of the state outside its list, of the registers all outside the listed units, and Dial
never runs back but at the power-on reset. What the model notes of one PERI cycle beside the state (log entry 105) is no part of it. -/
def Obligations.EveryCommandKeepsToItsFootprint : Prop :=
  ∀ (c : Instr) (s u : State), exec c s = .next u → match c with
  | .powerOnReset .. =>
      Touches [.freeCtr, .dial, .regs, .lastRead, .ep, .time, .log, .host, .trv, .acq, .bal, .upd, .wear, .clk, .hlm, .lds, .can, .sxt,
        .azm, .alm, .pmc, .dsp, .pwr, .bin, .rdn, .pilot] s u
  | .deviceReset .. | .recoveryReset .. | .wakeFrame .. =>
      Touches [.dial, .regs, .lastRead, .ep, .time, .log, .host, .trv, .acq, .bal, .upd, .wear, .clk, .hlm, .lds, .can, .sxt, .azm, .alm,
        .pmc, .dsp, .pwr, .bin, .rdn, .pilot] s u ∧ s.dial ≤ u.dial
  | .resetRelease .. =>
      Footprint [.dial, .regs, .time, .log, .acq, .upd, .wear, .clk, .lds, .pwr] [Block.clk, Block.acq, Block.upd, Block.thm, Block.log,
        Block.wear] s u
  | .lodestonePowerUpEnd .. =>
      Footprint [.dial, .regs, .time, .log, .host, .clk, .hlm, .lds] [Block.clk, Block.host, Block.hlm, Block.lds, Block.bin, Block.upd,
        Block.log] s u
  | .brownNFall .. | .brownNHigh100ms .. | .periodicSave .. =>
      Footprint [.dial, .time, .sxt] [] s u
  | .vbatLow .. | .ptpMessageReceive .. | .ptpAnnounceReceive .. | .pdelayReqReceive .. | .masterLost .. | .ptpDisable .. | .holdExceeded
    .. | .rtcRewrite .. | .leapSecond .. =>
      Footprint [.dial, .regs, .time] [Block.time] s u
  | .pllLock .. | .pllUnlock .. | .xfbWrite .. | .xevmodeWrite .. =>
      Footprint [.dial, .regs, .time] [Block.clk] s u
  | .registerWrite .. | .hspiWriteFrame .. | .cmdWriteReg .. | .cmdSetEpoch .. | .cmdSetPtp .. | .cmdSetTiles .. | .cmdSetMod .. |
    .cmdSetChecks .. | .cmdAlmLoad .. | .cmdSxtCfg .. | .cmdLearnCfg .. | .cmdAzmPlan .. | .cmdAzmCal .. | .cmdAzmCfg .. | .cmdBalSetup ..
    | .cmdBalManual .. | .cmdHlmSetup .. | .cmdHlmAnalog .. | .cmdHlmLimits .. | .cmdHlmDispatch .. | .cmdDspSetup .. | .cmdCoolSetup .. |
    .cmdCoolFloor .. | .cmdHvacSetup .. | .cmdCanSetup .. | .cmdCanFilter .. | .cmdLogWindow .. | .cmdPmcControl .. =>
      Touches [.freeCtr, .dial, .regs, .lastRead, .ep, .time, .log, .host, .trv, .acq, .bal, .upd, .clk, .hlm, .lds, .can, .sxt, .azm,
        .alm, .pmc, .rdn, .pilot] s u ∧ s.dial ≤ u.dial
  | .timeLowWordRead .. =>
      Footprint [.freeCtr, .dial, .regs, .lastRead, .ep, .time, .host, .bal, .clk, .pmc] [Block.clk, Block.host, Block.trv, Block.bal,
        Block.wear, Block.pmc] s u
  | .portstsRead .. =>
      Footprint [.freeCtr, .dial, .regs, .lastRead, .ep, .time, .bal, .pmc] [Block.trv, Block.bal, Block.wear, Block.pmc] s u
  | .wearDataRead .. =>
      Footprint [.dial, .regs, .lastRead, .time] [Block.wear] s u
  | .lockAcquire .. =>
      Footprint [.dial, .lastRead, .ep, .time] [] s u
  | .lockRelease .. | .contributionArrival .. =>
      Footprint [.dial, .regs, .ep, .time] [Block.sys] s u
  | .epochctlWrite .. | .profileSelection .. | .epochBoundary .. | .dapply .. | .sextantWindowWrite .. | .learnRestore .. | .learnNominal
    .. | .learnExport .. | .papply .. =>
      Footprint [.freeCtr, .dial, .regs, .ep, .time, .log, .acq, .bal, .hlm, .sxt, .azm, .pmc, .pilot] [Block.sys, Block.acq, Block.sxt,
        Block.azm, Block.bal, Block.hlm, Block.dsp, Block.log, Block.pmc] s u
  | .epochCommit .. =>
      Touches [.freeCtr, .dial, .regs, .ep, .time, .log, .host, .upd, .hlm, .lds, .can, .sxt, .alm, .pmc, .dsp, .bin, .rdn, .pilot] s u ∧
        s.dial ≤ u.dial
  | .ptpSyncReceive .. | .busReferenceLost .. =>
      Footprint [.freeCtr, .dial, .regs, .time, .log, .bal, .hlm, .can, .azm, .alm, .pmc] [Block.time, Block.alm, Block.azm, Block.bal,
        Block.hlm, Block.can, Block.log, Block.pmc] s u
  | .timedActionLaunch .. | .almStcCan .. | .almStcPmc .. | .almBalStop .. | .almBalPhaseStart .. | .almExcStart .. | .almExcStop .. |
    .almSetpHosti .. | .almSetpHostv .. | .almSetpClass .. | .almTrigSet .. | .almTrigClear .. | .almTrigMark .. =>
      Footprint [.freeCtr, .dial, .regs, .time, .log, .bal, .hlm, .can, .azm, .alm, .pmc] [Block.alm, Block.azm, Block.bal, Block.hlm,
        Block.can, Block.log, Block.pmc] s u
  | .carrierValley .. =>
      Footprint [.dial, .regs, .time, .log, .host, .upd, .hlm, .lds, .azm, .alm, .pilot] [Block.time, Block.host, Block.azm, Block.hlm,
        Block.dsp, Block.lds, Block.bin, Block.upd, Block.log] s u
  | .helmDutyLatch .. =>
      Footprint [.dial, .time, .hlm] [] s u
  | .carrierStop .. | .helmRunRequest .. | .helmStop .. | .carrierEnable .. | .classSelect .. | .cmdHlmRun .. =>
      Footprint [.freeCtr, .dial, .regs, .time, .log, .host, .bal, .upd, .hlm, .lds, .can, .azm, .alm, .pmc, .pilot] [Block.time,
        Block.host, Block.alm, Block.azm, Block.bal, Block.hlm, Block.lds, Block.bin, Block.can, Block.upd, Block.log, Block.pmc] s u
  | .portLinkUp .. =>
      Footprint [.dial, .regs, .time, .log, .trv, .acq, .bal, .wear, .clk, .sxt] [Block.clk, Block.trv, Block.bal, Block.log] s u
  | .portLinkDown .. | .enumReturn .. | .ringRestore .. | .tsyncSend .. | .unclaimedFrame .. | .respReceive .. | .cmdTimeout .. |
    .alertReceive .. | .tileBoot .. | .turnbackFrameReceive .. =>
      Footprint [.dial, .regs, .time, .log, .trv, .acq, .bal, .wear, .sxt] [Block.trv, Block.bal, Block.log] s u
  | .trvCtlWrite .. =>
      Footprint [.dial, .regs, .time, .trv, .acq, .bal, .sxt] [Block.trv, Block.bal] s u
  | .openRingTrainStart .. | .echorReceive .. | .trainingDone .. | .armstatPoll .. =>
      Footprint [.dial, .regs, .time, .trv] [Block.trv] s u
  | .lostRing .. | .clkMismatch .. | .heartbeatWrite .. | .heartbeatTimeout .. | .lockstepMismatch .. | .pilotWatchdogExpiry .. |
    .pauseTimeout .. =>
      Footprint [.dial, .regs, .ep, .time, .log, .hlm, .lds, .can, .azm, .alm] [Block.sys, Block.alm, Block.azm, Block.hlm, Block.lds,
        Block.bin, Block.rdn, Block.can, Block.upd, Block.log] s u
  | .snaprReceive .. =>
      Footprint [.dial, .regs, .time, .trv, .acq, .wear] [Block.trv, Block.acq] s u
  | .alertBootReceive .. =>
      Footprint [.dial, .regs, .time, .trv, .acq, .bal, .sxt] [Block.trv, Block.acq, Block.bal] s u
  | .profileInject .. | .sampleFrame .. | .tsyncFrame .. | .enumFrame .. | .echoFrame .. | .loadFrame .. | .loadendFrame .. |
    .profileFrame .. | .tileFrameRelay .. | .tileLinkDown .. | .alertLinkdown .. | .tileSnaprSlot .. | .tileConversion .. |
    .tileComparatorTrip .. | .tileComparatorRelease .. | .tileDieHot .. | .balset .. | .tileBalsetExpiry .. | .dieTemperatureRead .. |
    .armstat .. | .openWireSinks .. | .tileSinkOn .. | .tilePowerUp .. | .tileLinkUp .. | .tileResponseWindowEnd .. | .portFrameSent .. =>
      Footprint [.dial, .time, .trv] [] s u
  | .faultLoopLoss .. | .flFast .. =>
      Footprint [.dial, .regs, .time, .log, .host, .hlm, .lds] [Block.host, Block.trv, Block.hlm, Block.lds, Block.bin, Block.upd,
        Block.log] s u
  | .armedThresholdFault .. | .bpermitLoss .. | .safeBLow .. | .overcurrent .. | .overTemperature .. | .sealRead .. | .inputFilterPass ..
    | .discrepancy .. | .binnacleDelayedTrip .. =>
      Footprint [.dial, .regs, .time, .log, .host, .hlm, .lds] [Block.host, Block.hlm, Block.lds, Block.bin, Block.upd, Block.log] s u
  | .acqApply .. =>
      Footprint [.dial, .regs, .time, .acq, .sxt, .azm] [Block.acq, Block.sxt, Block.azm, Block.bal] s u
  | .snap .. =>
      Footprint [.dial, .regs, .time, .log, .trv, .acq, .alm, .pmc] [Block.trv, Block.acq, Block.alm, Block.log] s u
  | .modCodeReady .. =>
      Footprint [.dial, .time, .acq] [] s u
  | .modFault .. =>
      Footprint [.dial, .regs, .time, .acq] [Block.acq] s u
  | .snapshotClose .. =>
      Footprint [.freeCtr, .dial, .regs, .ep, .time, .log, .host, .trv, .acq, .bal, .wear, .hlm, .lds, .sxt, .azm, .alm, .pmc, .bin,
        .pilot] [Block.host, Block.trv, Block.acq, Block.sxt, Block.azm, Block.bal, Block.hlm, Block.lds, Block.bin, Block.upd, Block.log,
        Block.pmc] s u
  | .owTestAbandon .. | .owTestWindowEnd .. =>
      Footprint [.dial, .regs, .time, .trv, .acq, .bal] [Block.trv, Block.bal] s u
  | .owRetestGo .. =>
      Footprint [.dial, .regs, .time, .trv, .acq, .bal] [Block.trv, Block.acq, Block.bal] s u
  | .almAdd .. | .almSub .. | .almAnd .. | .almOr .. | .almXor .. | .almSll .. | .almSrl .. | .almSra .. | .almMul .. | .almMulh .. |
    .almMin .. | .almMax .. | .almClamp .. | .almAddi .. | .almAndi .. | .almOri .. | .almSlli .. | .almSrli .. | .almSrai .. | .almLui ..
    | .almWaitev .. | .almSpawn .. | .almKill .. | .almYield .. | .almHalt .. | .almFence .. =>
      Footprint [.dial, .regs, .time, .alm, .pmc] [Block.alm] s u
  | .almLdw .. | .almStw .. =>
      Footprint [.dial, .regs, .lastRead, .time, .log, .alm, .pmc] [Block.alm, Block.log] s u
  | .almLds .. =>
      Footprint [.dial, .regs, .time, .log, .alm, .pmc] [Block.alm, Block.log, Block.pmc] s u
  | .almRdt .. | .almTcmp .. | .almAt .. | .almAtr .. | .illegalInstruction .. | .eccFault .. =>
      Footprint [.dial, .regs, .time, .log, .alm, .pmc] [Block.alm, Block.log] s u
  | .almPost .. | .almRing .. | .almMbxSend .. =>
      Footprint [.dial, .regs, .time, .host, .alm, .pmc] [Block.host, Block.alm] s u
  | .almMbxReceive .. =>
      Footprint [.dial, .regs, .time, .host, .alm, .pmc, .pilot] [Block.host, Block.alm] s u
  | .almBeq .. | .almBne .. | .almBlt .. | .almBge .. | .almBltu .. | .almBgeu .. | .almBfs .. | .almBfc .. | .almJal .. | .almJr .. =>
      Footprint [.dial, .regs, .time, .alm, .pmc] [Block.alm, Block.pmc] s u
  | .almWaitevWake .. | .programMemoryWrite .. | .evflagHostWrite .. =>
      Footprint [.dial, .regs, .time, .alm] [Block.alm] s u
  | .almFenceRelease .. | .almSlotWaitRelease .. =>
      Footprint [.dial, .time, .alm] [] s u
  | .almStcLockAcquire .. =>
      Footprint [.dial, .regs, .ep, .time, .alm, .pmc] [Block.alm] s u
  | .almStcLockRelease .. =>
      Footprint [.dial, .regs, .ep, .time, .alm, .pmc] [Block.sys, Block.alm] s u
  | .almStcAwait .. =>
      Footprint [.dial, .regs, .time, .alm, .pmc] [Block.sys, Block.alm] s u
  | .programLoad .. | .programStart .. =>
      Footprint [.dial, .regs, .ep, .time, .alm] [Block.sys, Block.alm] s u
  | .dataMemoryAccess .. =>
      Footprint [.dial, .lastRead, .time, .alm] [] s u
  | .contextUpdateDone .. =>
      Footprint [.freeCtr, .dial, .regs, .ep, .time, .log, .sxt, .pmc] [Block.sxt, Block.log, Block.pmc] s u
  | .prerested .. | .journalSaveStart .. | .learnSave .. =>
      Footprint [.dial, .regs, .time, .sxt] [Block.sxt] s u
  | .journalSaveDone .. =>
      Touches [.dial, .regs, .lastRead, .ep, .time, .log, .host, .trv, .acq, .bal, .upd, .wear, .clk, .hlm, .lds, .can, .sxt, .azm, .alm,
        .pmc, .dsp, .pwr, .bin, .rdn, .pilot] s u ∧ s.dial ≤ u.dial
  | .azmAutoStart .. | .excWindowElapse .. =>
      Footprint [.dial, .regs, .time, .azm] [Block.azm] s u
  | .azmBlockEnd .. =>
      Footprint [.dial, .regs, .ep, .time, .azm, .pmc] [Block.azm, Block.pmc] s u
  | .azmBlockReady .. =>
      Footprint [.dial, .regs, .ep, .time, .log, .host, .hlm, .lds, .sxt, .azm, .pmc, .bin] [Block.host, Block.azm, Block.hlm, Block.lds,
        Block.bin, Block.upd, Block.log, Block.pmc] s u
  | .balPhaseEffect .. | .balsetRefresh .. | .dieTemperaturePoll .. =>
      Footprint [.dial, .regs, .time, .trv, .bal] [Block.trv, Block.bal] s u
  | .balPhaseEnd .. | .unsureExpiry .. =>
      Footprint [.dial, .regs, .time, .bal] [Block.bal] s u
  | .balPlan .. =>
      Footprint [.dial, .time, .bal] [] s u
  | .legsWrite .. | .carrierWrite .. =>
      Footprint [.dial, .regs, .time] [Block.hlm] s u
  | .coefficientWrite .. | .hostSetpointWrite .. | .sppPeriod .. | .sppTimeout .. =>
      Footprint [.dial, .regs, .time, .hlm] [Block.hlm] s u
  | .hvacFrameSend .. =>
      Footprint [.dial, .regs, .time, .can, .dsp] [Block.can] s u
  | .hvacStatusReceive .. =>
      Footprint [.dial, .regs, .time, .dsp] [Block.dsp] s u
  | .hvacLost .. =>
      Footprint [.dial, .regs, .time] [Block.dsp] s u
  | .closeRequest .. | .closeRelease .. | .energizeCheck .. | .bpermitReturn .. | .holdTimerExpiry .. | .supervisionStart .. =>
      Footprint [.dial, .regs, .time, .log, .hlm, .lds] [Block.hlm, Block.lds, Block.bin, Block.log] s u
  | .deenergizeCheck .. | .offPulseCheck .. =>
      Footprint [.dial, .regs, .time, .log, .wear, .hlm, .lds] [Block.hlm, Block.lds, Block.bin, Block.log] s u
  | .offPulseStart .. =>
      Footprint [.dial, .regs, .time, .lds] [Block.lds] s u
  | .proofWarn .. =>
      Footprint [.dial, .regs, .time, .log] [Block.lds, Block.log] s u
  | .lodestoneTick .. | .grantRise .. | .grantFall .. =>
      Footprint [.freeCtr, .dial, .regs, .ep, .time, .log, .trv, .acq, .bal, .hlm, .lds, .can, .sxt, .azm, .alm, .pmc, .rdn] [Block.sys,
        Block.trv, Block.alm, Block.azm, Block.bal, Block.hlm, Block.lds, Block.bin, Block.rdn, Block.can, Block.log, Block.pmc] s u
  | .pilotService .. | .hb .. =>
      Footprint [.dial, .time, .lds] [] s u
  | .overcurrentContactorTrip .. =>
      Footprint [.dial, .regs, .time, .log, .hlm, .lds] [Block.hlm, Block.lds, Block.bin, Block.upd, Block.log] s u
  | .insulationEstimate .. =>
      Footprint [.dial, .regs, .time, .log, .host, .hlm, .lds, .bin] [Block.host, Block.hlm, Block.lds, Block.bin, Block.upd, Block.log] s
        u
  | .twinWrite .. =>
      Footprint [.freeCtr, .dial, .regs, .ep, .time, .log, .trv, .acq, .bal, .hlm, .lds, .can, .sxt, .azm, .alm, .pmc, .rdn] [Block.sys,
        Block.trv, Block.alm, Block.azm, Block.bal, Block.hlm, Block.rdn, Block.can, Block.log, Block.pmc] s u
  | .autorunHelmStart .. =>
      Footprint [.dial, .regs, .time, .hlm, .rdn] [Block.hlm] s u
  | .startUpComplete .. =>
      Footprint [.freeCtr, .dial, .regs, .ep, .time, .log, .trv, .acq, .bal, .hlm, .can, .sxt, .azm, .alm, .pmc, .rdn] [Block.sys,
        Block.trv, Block.alm, Block.sxt, Block.azm, Block.bal, Block.hlm, Block.dsp, Block.rdn, Block.can, Block.upd, Block.log,
        Block.pmc] s u
  | .mirrorArrival .. =>
      Footprint [.dial, .regs, .ep, .time, .log, .host, .acq, .bal, .hlm, .lds, .sxt, .alm, .dsp, .bin, .rdn] [Block.host, Block.acq,
        Block.alm, Block.sxt, Block.bal, Block.hlm, Block.dsp, Block.lds, Block.bin, Block.rdn, Block.upd, Block.log] s u
  | .mirrorTimeout .. =>
      Footprint [.freeCtr, .dial, .regs, .ep, .time, .log, .trv, .acq, .bal, .hlm, .can, .sxt, .azm, .alm, .pmc, .rdn] [Block.sys,
        Block.trv, Block.alm, Block.azm, Block.bal, Block.hlm, Block.rdn, Block.can, Block.log, Block.pmc] s u
  | .peerStatusReceive .. =>
      Footprint [.dial, .regs, .time, .log, .host, .hlm, .lds, .rdn] [Block.host, Block.hlm, Block.lds, Block.bin, Block.rdn, Block.log] s
        u
  | .peerLaneDown .. | .peerLaneUp .. =>
      Footprint [.dial, .regs, .time, .host, .rdn] [Block.host, Block.rdn] s u
  | .twinEnergizeTimeout .. =>
      Footprint [.dial, .regs, .time, .lds] [Block.lds, Block.bin] s u
  | .pcieLinkLoss .. | .hspiPortReset .. =>
      Footprint [.dial, .regs, .ep, .time, .host, .clk, .pilot] [Block.sys, Block.clk, Block.host] s u
  | .cmdpiWrite .. | .rspciWrite .. | .postciWrite .. | .h2dMailboxWrite .. | .d2hempty .. | .mbxStall .. | .udpConfirm .. | .udpDatagram
    .. | .cmdUnknownCommand .. =>
      Footprint [.dial, .regs, .time, .host] [Block.host] s u
  | .dboutWrite .. | .udpSessionTimeout .. | .cmdGetInfo .. | .cmdEcho .. | .cmdMbxRelay .. | .cmdStateRead .. | .cmdSetNet .. |
    .cmdGetTime .. | .cmdAlmDread .. | .cmdCtxRead .. | .cmdSealHistory .. | .cmdThermalStatus .. | .cmdLogInfo .. | .cmdWearRead .. =>
      Footprint [.dial, .regs, .time, .host, .pilot] [Block.host] s u
  | .dbinClear .. =>
      Footprint [.dial, .regs, .time] [Block.host] s u
  | .hspiReadFrame .. =>
      Footprint [.freeCtr, .dial, .regs, .ep, .time, .host, .bal, .clk, .pmc] [Block.clk, Block.host, Block.trv, Block.bal, Block.wear,
        Block.pmc] s u
  | .hspiStatusFrame .. | .hspiResetEnable .. =>
      Footprint [.dial, .time, .host] [] s u
  | .udpOpen .. =>
      Footprint [.freeCtr, .dial, .time, .host] [] s u
  | .cmdReadReg .. | .cmdGetStatus .. | .cmdGetRing .. | .cmdAlmStatus .. | .cmdAzmStatus .. | .cmdBalStatus .. | .cmdHlmStatus .. |
    .cmdSafetyStatus .. | .cmdRdnStatus .. | .cmdUpdStatus .. =>
      Footprint [.freeCtr, .dial, .regs, .ep, .time, .host, .bal, .pmc, .pilot] [Block.host, Block.trv, Block.bal, Block.wear, Block.pmc]
        s u
  | .cmdSetProfile .. | .cmdSetOverride .. | .cmdClearOverrides .. | .cmdSxtWrite .. | .cmdSxtDapply .. | .cmdRestoreLearned .. |
    .cmdStageWrite .. | .cmdExportLearned .. | .cmdAcceptNominal .. | .cmdAzmApply .. =>
      Footprint [.freeCtr, .dial, .regs, .ep, .time, .log, .host, .acq, .bal, .hlm, .sxt, .azm, .pmc, .pilot] [Block.sys, Block.host,
        Block.acq, Block.sxt, Block.azm, Block.bal, Block.hlm, Block.dsp, Block.log, Block.pmc] s u
  | .cmdSetAwait .. =>
      Footprint [.dial, .regs, .time, .host, .pilot] [Block.sys, Block.host] s u
  | .cmdSetCalendar .. | .cmdSetRate .. | .cmdSetUtcofs .. =>
      Footprint [.dial, .regs, .time, .host, .pilot] [Block.time, Block.host] s u
  | .cmdApplyTopology .. =>
      Footprint [.dial, .regs, .time, .host, .acq, .sxt, .azm, .pilot] [Block.host, Block.acq, Block.sxt, Block.azm, Block.bal] s u
  | .cmdRings .. =>
      Footprint [.dial, .regs, .time, .host, .trv, .acq, .bal, .upd, .sxt, .pilot] [Block.host, Block.trv, Block.bal] s u
  | .cmdOwRetest .. =>
      Footprint [.dial, .regs, .time, .host, .trv, .acq, .bal, .pilot] [Block.host, Block.trv, Block.acq, Block.bal] s u
  | .cmdAlmWrite .. | .cmdAlmStart .. | .cmdAlmFlags .. =>
      Footprint [.dial, .regs, .time, .host, .alm, .pilot] [Block.host, Block.alm] s u
  | .cmdAlmDwrite .. =>
      Footprint [.dial, .regs, .time, .host, .alm, .pilot] [Block.host] s u
  | .cmdStageRead .. =>
      Footprint [.dial, .regs, .time, .host, .pilot] [Block.host, Block.sxt] s u
  | .cmdJournalSave .. =>
      Footprint [.dial, .regs, .time, .host, .sxt, .pilot] [Block.host, Block.sxt] s u
  | .cmdHlmCoef .. | .cmdHlmSetpoint .. =>
      Footprint [.dial, .regs, .time, .host, .hlm, .pilot] [Block.host, Block.hlm] s u
  | .cmdSafetyReset .. | .cmdOutputRequest .. =>
      Footprint [.dial, .regs, .time, .log, .host, .hlm, .lds, .pilot] [Block.host, Block.hlm, Block.lds, Block.bin, Block.log] s u
  | .cmdBinParam .. =>
      Touches [.dial, .regs, .time, .host, .pilot] s u ∧ s.dial ≤ u.dial
  | .cmdRdnSetup .. =>
      Footprint [.freeCtr, .dial, .regs, .ep, .time, .log, .host, .trv, .acq, .bal, .hlm, .lds, .can, .sxt, .azm, .alm, .pmc, .rdn,
        .pilot] [Block.sys, Block.host, Block.trv, Block.alm, Block.azm, Block.bal, Block.hlm, Block.rdn, Block.can, Block.log, Block.pmc]
        s u
  | .cmdCanSend .. | .cmdCanRecv .. | .cmdCanCancel .. | .cmdCanAutobaud .. | .cmdCanTimemaster .. =>
      Footprint [.dial, .regs, .time, .host, .can, .pilot] [Block.host, Block.can] s u
  | .cmdUpdBegin .. | .cmdUpdEnd .. =>
      Footprint [.dial, .regs, .time, .host, .upd, .pilot] [Block.host, Block.upd] s u
  | .cmdUpdWrite .. =>
      Footprint [.dial, .regs, .time, .host, .upd, .pilot] [Block.host] s u
  | .cmdActivate .. | .activateRampTimeout .. =>
      Footprint [.dial, .regs, .time, .log, .host, .upd, .hlm, .lds, .azm, .pilot] [Block.host, Block.azm, Block.hlm, Block.lds,
        Block.bin, Block.upd, Block.log] s u
  | .cmdCommit .. =>
      Footprint [.dial, .regs, .time, .log, .host, .upd, .pilot] [Block.host, Block.upd, Block.log, Block.sec] s u
  | .cmdPowerState .. =>
      Touches [.dial, .regs, .lastRead, .ep, .time, .log, .host, .trv, .acq, .bal, .upd, .wear, .clk, .hlm, .lds, .can, .sxt, .azm, .alm,
        .pmc, .dsp, .pwr, .bin, .rdn, .pilot] s u ∧ s.dial ≤ u.dial
  | .cmdThermalSetup .. =>
      Footprint [.freeCtr, .dial, .regs, .time, .host, .pmc, .pilot] [Block.host, Block.sxt, Block.thm, Block.pmc] s u
  | .cmdLogRead .. =>
      Footprint [.dial, .regs, .time, .host, .pilot] [Block.host, Block.log] s u
  | .cmdLogNonce .. =>
      Footprint [.freeCtr, .dial, .regs, .time, .host, .pilot] [Block.host] s u
  | .cmdLogClear .. =>
      Footprint [.dial, .regs, .time, .log, .host, .wear, .pilot] [Block.host, Block.log] s u
  | .cmdCommissionSpare .. =>
      Touches [.dial, .regs, .time, .log, .host, .wear, .pilot] s u ∧ s.dial ≤ u.dial
  | .cmdPmcRead .. =>
      Footprint [.freeCtr, .dial, .regs, .time, .host, .pmc, .pilot] [Block.host, Block.pmc] s u
  | .canFrameReceive .. =>
      Footprint [.freeCtr, .dial, .regs, .time, .log, .host, .bal, .wear, .hlm, .can, .azm, .alm, .pmc, .dsp, .pilot] [Block.host,
        Block.alm, Block.azm, Block.bal, Block.hlm, Block.dsp, Block.can, Block.log, Block.pmc] s u
  | .canTxDone .. | .canTxAttemptFail .. | .busOffRecovery .. | .canRxError .. =>
      Footprint [.dial, .regs, .time, .wear, .can] [Block.can] s u
  | .txgo .. | .txcan .. | .rxrel .. | .restart .. | .abctlGo .. | .abctlStop .. | .referenceCycleStart .. | .canProtocolException .. =>
      Footprint [.dial, .regs, .time, .can] [Block.can] s u
  | .canTimingWrite .. =>
      Footprint [.dial, .regs, .time] [Block.can] s u
  | .autobaudDwellEnd .. =>
      Footprint [.dial, .time, .can] [] s u
  | .bootReady .. =>
      Footprint [.dial, .regs, .time, .log, .upd, .wear, .pilot] [Block.acq, Block.upd, Block.log] s u
  | .pauseResumption .. =>
      Footprint [.dial, .regs, .ep, .time, .log, .upd, .hlm, .lds, .sxt] [Block.hlm, Block.lds, Block.bin, Block.upd, Block.log] s u
  | .bootRecordWritten .. =>
      Footprint [.dial, .regs, .time, .upd] [Block.upd] s u
  | .confirmationWindowClose .. =>
      Footprint [.dial, .regs, .time, .log, .upd] [Block.upd, Block.log] s u
  | .kctlWrite .. | .kctlLock .. =>
      Footprint [.dial, .regs, .time, .upd] [Block.sec] s u
  | .dieSensorConversion .. =>
      Footprint [.freeCtr, .dial, .regs, .time, .log, .host, .hlm, .lds, .pmc, .pwr] [Block.host, Block.sxt, Block.hlm, Block.lds,
        Block.bin, Block.upd, Block.thm, Block.log, Block.pmc] s u
  | .boardChannelConversion .. =>
      Footprint [.dial, .regs, .time, .log, .host, .wear, .pwr] [Block.host, Block.thm, Block.log] s u
  | .throttleEnd .. =>
      Footprint [.freeCtr, .dial, .regs, .time, .host, .pmc] [Block.host, Block.sxt, Block.thm, Block.pmc] s u
  | .logEvent .. =>
      Footprint [.dial, .regs, .time, .log, .wear] [Block.log] s u
  | .logRdidxWrite .. =>
      Footprint [.dial, .regs, .time] [Block.log] s u
  | .logErasureDone .. =>
      Footprint [.dial, .regs, .time, .log, .host, .pilot] [Block.host, Block.log] s u
  | .ledgerFlush .. =>
      Footprint [.dial, .regs, .time, .wear] [Block.wear] s u
  | .eccScrub .. =>
      Footprint [.dial, .time, .wear] [] s u
  | .pmcStart .. | .pmcStop .. | .pmcFreeze .. | .pmcClear .. =>
      Footprint [.freeCtr, .dial, .regs, .time, .pmc] [Block.pmc] s u
  | .clockStopped .. =>
      Footprint [.dial, .regs, .time, .log, .host, .trv, .acq, .bal, .wear, .lds, .sxt] [Block.clk, Block.time, Block.trv, Block.bal,
        Block.log] s u
  | .clockRunning .. | .pointerCheckFail .. | .crossingTimeout .. | .xresync .. =>
      Footprint [.dial, .regs, .time, .clk] [Block.clk] s u
  | .lodestoneOscStop .. =>
      Footprint [.dial, .regs, .time, .hlm, .lds] [Block.hlm, Block.lds, Block.bin] s u
  | .handshakePhase .. =>
      Touches [.freeCtr, .dial, .regs, .lastRead, .ep, .time, .log, .host, .trv, .acq, .bal, .upd, .clk, .hlm, .lds, .can, .sxt, .azm,
        .alm, .pmc, .rdn, .pilot] s u ∧ s.dial ≤ u.dial
  | .faultLoopReturn .. =>
      Footprint [.dial, .regs, .time, .log, .hlm, .lds] [Block.trv, Block.hlm, Block.lds, Block.bin, Block.log] s u
  | .ethLinkUp .. | .pcieLinkUp .. =>
      Footprint [.dial, .regs, .time, .host, .clk] [Block.clk] s u
  | .referenceMessageSent .. =>
      Footprint [.freeCtr, .dial, .regs, .time, .log, .bal, .wear, .hlm, .can, .azm, .alm, .pmc] [Block.alm, Block.azm, Block.bal,
        Block.hlm, Block.can, Block.log, Block.pmc] s u
  | .powerFail .. =>
      Touches [.dial, .regs, .lastRead, .ep, .time, .log, .host, .trv, .acq, .bal, .upd, .wear, .clk, .hlm, .lds, .can, .sxt, .azm, .alm,
        .pmc, .dsp, .pwr, .bin, .rdn, .pilot] s u ∧ s.dial ≤ u.dial
  | .autobaudLimit .. =>
      Footprint [.dial, .regs, .time, .host, .pilot] [Block.host, Block.can] s u

/-! ## Epochs, locks and profiles (01_architecture.md) -/

/-- R39, R40: a read of a lock register by one master; among masters that read a free lock in the same cycle the first in the order Pilot, Binnacle,
Almanac, PCIe host, HSPI host takes it. R41: a write of SYS_LOCKREL; a lock that it frees is held until the end of the cycle. -/
def Obligations.LocksAreTakenAndFreed : Prop :=
  (∀ (t n : Nat) (m : Master) (s w : State), n < 16 → w = s.at t →
     Completes (.lockAcquire t m n) s fun u =>
       Touches [.dial, .time, .lastRead, .ep] s u ∧ (∀ k : Nat, k ≠ n → u.lockOwner k = s.lockOwner k) ∧
       (w.lockHolder n = 0 → (∀ c ∈ s.pending, lockBid n (periCycle w.dial) c = none) →
         u.lastReadOf m = 0 ∧ u.lockOwner n = masterId m) ∧
       (w.lockHolder n = 0 → u.lockOwner n = w.lockWinner (masterId m) n ∧ u.lockOwner n ≤ masterId m ∧
         (u.lockOwner n = masterId m → u.lastReadOf m = 0) ∧
         (u.lockOwner n ≠ masterId m → getBits (u.lastReadOf m) 0 3 = u.lockOwner n ∧ (u.lastReadOf m).getLsbD 31 = true)) ∧
       (w.lockHolder n = masterId m → u.lastReadOf m = 0 ∧ u.lockOwner n = s.lockOwner n) ∧
       (w.lockHolder n ≠ 0 → w.lockHolder n ≠ masterId m → w.lockHolder n < 8 →
         getBits (u.lastReadOf m) 0 3 = w.lockHolder n ∧ (u.lastReadOf m).getLsbD 31 = true ∧ u.lockOwner n = s.lockOwner n)) ∧
  (∀ (t : Nat) (m : Master) (v : Word) (s : State),
     Completes (.lockRelease t m v) s fun u =>
       Touches [.dial, .time, .ep, .regs] s u ∧ SameRegs [Reg.SYS_EPOCHSTS] s u ∧
       (∀ n : Nat, n < 16 → v.getLsbD n = true → s.lockOwner n = masterId m → u.lockOwner n = 0 ∧ u.lockHolder n = masterId m) ∧
       (∀ n : Nat, ¬ (n < 16 ∧ v.getLsbD n = true ∧ s.lockOwner n = masterId m) → u.lockOwner n = s.lockOwner n) ∧
       ((∃ n : Nat, n < 16 ∧ v.getLsbD n = true ∧ s.lockOwner n ≠ masterId m) → u.flag F.SYS_EPOCHSTS_LOCK_ERR = true) ∧
       ((∀ n : Nat, n < 16 → v.getLsbD n = true → s.lockOwner n = masterId m) → u.regs = s.regs))

/-- R21 and the fields of SYS_EPOCHCTL; R44 and the fields of SYS_PROFILE. The write acts on the state after a boundary of its cycle (R18). R20, R21, R44,
R544: what a boundary opens; R18: a write in a later cycle of the epoch finds no boundary to pass. -/
def Obligations.EpochsCloseUnderTheSettingsInForce : Prop :=
  ((∀ (t : Nat) (m : Master) (v : Word) (s w : State), w = (s.at t).passBoundary →
     Completes (.epochctlWrite t m v) s fun u =>
       Touches [.regs] w u ∧ SameRegs [Reg.SYS_EPOCHCTL, Reg.SYS_EPOCHSTS] w u ∧
       (1 ≤ getBits v 0 10 → getBits v 0 10 ≤ 1000 →
         u.fld F.SYS_EPOCHCTL_PERIOD = getBits v 0 10 ∧ u.fld F.SYS_EPOCHCTL_DEADLINE = getBits v 16 8 ∧
           u.flag F.SYS_EPOCHCTL_EN = v.getLsbD 31 ∧ SameRegs [Reg.SYS_EPOCHCTL] w u) ∧
       (¬ (1 ≤ getBits v 0 10 ∧ getBits v 0 10 ≤ 1000) →
         u.word Reg.SYS_EPOCHCTL = w.word Reg.SYS_EPOCHCTL ∧ u.flag F.SYS_EPOCHSTS_CFG_REJECT = true)) ∧
   (∀ (t : Nat) (m : Master) (v : Word) (s w : State), w = (s.at t).passBoundary →
     Completes (.profileSelection t m v) s fun u =>
       Touches [.regs] w u ∧ SameRegs [Reg.SYS_PROFILE, Reg.SYS_EPOCHSTS] w u ∧
       u.fld F.SYS_PROFILE_ACTIVE = w.fld F.SYS_PROFILE_ACTIVE ∧ u.flag F.SYS_PROFILE_OVR_PRESENT = w.flag F.SYS_PROFILE_OVR_PRESENT ∧
       (getBits v 0 3 ≤ 4 → u.fld F.SYS_PROFILE_PROFILE = getBits v 0 3 ∧ u.flag F.SYS_PROFILE_KEEP_OVR = v.getLsbD 8 ∧
         SameRegs [Reg.SYS_PROFILE] w u) ∧
       (4 < getBits v 0 3 → u.word Reg.SYS_PROFILE = w.word Reg.SYS_PROFILE ∧ u.flag F.SYS_EPOCHSTS_CFG_REJECT = true))) ∧
  ((∀ (t : Nat) (s : State), s.awake = true → s.nextBoundary ≤ (s.at t).dial →
     Completes (.epochBoundary t) s fun u =>
       u.ep.opn.start = s.ep.opn.start + s.ep.opn.period ∧ u.ep.opn.serial = s.ep.opn.serial + 1 ∧
       u.word Reg.SYS_EPOCHCTL = s.word Reg.SYS_EPOCHCTL ∧
       u.ep.opn.period = 1000000 * s.fld F.SYS_EPOCHCTL_PERIOD ∧ u.ep.opn.en = s.flag F.SYS_EPOCHCTL_EN ∧
       u.ep.opn.deadline = (clampDeadline (s.fld F.SYS_EPOCHCTL_DEADLINE) (s.fld F.SYS_EPOCHCTL_PERIOD)).1 ∧
       u.ep.prof = s.fld F.SYS_PROFILE_PROFILE ∧ u.ep.opn.prof = s.fld F.SYS_PROFILE_PROFILE ∧ u.ep.ovrNew = [] ∧
       ((s.ep.opn.en = false ∨ s.mayCommit = false) →
         s.ep.opn.serial ∈ u.ep.dead ∧ ∀ e ∈ u.ep.closing, e.serial ≠ s.ep.opn.serial) ∧
       (s.ep.opn.en = true → s.mayCommit = true → ∃ e ∈ u.ep.closing, e.serial = s.ep.opn.serial ∧ e.start = s.ep.opn.start ∧
         e.period = s.ep.opn.period ∧ e.prof = s.ep.opn.prof)) ∧
   (∀ (t : Nat) (s : State), ¬ (s.awake = true ∧ s.nextBoundary ≤ (s.at t).dial) →
     Completes (.epochBoundary t) s fun u => Touches [.dial, .time] s u) ∧
   ∀ s : State, s.awake = true → fabCycle s.nextBoundary ≤ fabCycle s.dial → s.passBoundary = s.boundary s.nextBoundary)

/-- R27, R544: where a contribution goes when it reaches the commit unit. R22, R25, R26, R30, R31: the oldest closing epoch commits when it is due: the
commit numbers it, carries each missing item with STALE, stamps every record and exchanges the windows. -/
def Obligations.ContributionsAreTakenAndCommitted : Prop :=
  (∀ (t : Nat) (p : Producer) (c : Contribution) (s : State), c.src = p → c.ready ≤ (s.at t).dial → s.ep.flight = [c] →
     Completes (.contributionArrival t p) s fun u =>
       u.ep.flight = [] ∧ Touches [.dial, .time, .ep, .regs] s u ∧ SameRegs [Reg.SYS_EPOCHSTS] s u ∧ u.ep.front = s.ep.front ∧
       (c.serial = s.ep.opn.serial → s.ep.opn.en = true → u.ep.opn.arrived = s.ep.opn.arrived ++ [c] ∧ u.ep.closing = s.ep.closing) ∧
       (∀ e : EpochRec, (s.ep.closing.find? fun x => x.serial == c.serial) = some e → c.serial ≠ s.ep.opn.serial →
         u.ep.opn = s.ep.opn ∧
         ((s.at t).pastCommit e = false → u.regs = s.regs ∧
           u.ep.closing = s.ep.closing.map fun x => if x.serial = c.serial then { x with arrived := x.arrived ++ [c] } else x) ∧
         ((s.at t).pastCommit e = true → u.ep.closing = s.ep.closing ∧ u.flag F.SYS_EPOCHSTS_LATE_WRITE = true)) ∧
       (c.serial ≠ s.ep.opn.serial → (∀ e ∈ s.ep.closing, e.serial ≠ c.serial) →
         u.ep.opn = s.ep.opn ∧ u.ep.closing = s.ep.closing ∧
         (c.serial ∉ s.ep.dead → u.flag F.SYS_EPOCHSTS_LATE_WRITE = true) ∧ (c.serial ∈ s.ep.dead → u.regs = s.regs))) ∧
  ((∀ (t : Nat) (e : EpochRec) (s : State), s.ep.closing.head? = some e → (s.at t).commitDue e = true →
     Completes (.epochCommit t) s fun u =>
       u.word Reg.SYS_EPOCHNUM = (if s.word Reg.SYS_EPOCHNUM = 0xFFFFFFFF#32 then 1 else s.word Reg.SYS_EPOCHNUM + 1) ∧
       u.ep.committed = true ∧ u.ep.closing = s.ep.closing.filter (fun x => x.serial != e.serial) ∧ u.ep.frontB = !s.ep.frontB ∧
       u.ep.lastCommit = (s.at t).dial ∧ u.fld F.SYS_PROFILE_ACTIVE = e.prof % 8 ∧
       (∀ i ∈ e.missing, i ∈ allItems → i.1 < azmBase → (Tab.get zeroWord u.ep.front i.1).getLsbD i.2 = true) ∧
       (∀ r ∈ records, Tab.get zeroWord u.ep.front r.1 = u.word Reg.SYS_EPOCHNUM ∧
         Tab.get zeroWord u.ep.front (r.1 + r.2 - 1) = u.word Reg.SYS_EPOCHNUM) ∧
       Tab.get zeroWord u.ep.front 0 = u.word Reg.SYS_EPOCHNUM) ∧
   (∀ (t : Nat) (s : State), (∀ e : EpochRec, s.ep.closing.head? = some e → (s.at t).commitDue e = false) →
     Completes (.epochCommit t) s fun u => Touches [.dial, .time] s u) ∧
   State.reset.word Reg.SYS_EPOCHNUM = 0)

/-! ## Time bases (02_time.md) -/

/-- R50: a message outside the support of Table 2-2 is rejected and counted, whichever it is; a Pdelay request of the support is answered. R63 to R66: the
RTC, leap seconds and the loss of VBAT. The instants at which a leap second is due, to the ms that Calendar shows, are the model's choice (log entry
113). -/
def Obligations.PtpMessagesAreCountedAndCalendarFollows : Prop :=
  ((∀ (t gm seq : Nat) (ofs : Int) (msg : PtpMsg) (a : Announce) (c : Instr) (s : State),
     (c = .ptpMessageReceive t msg ∨ c = .pdelayReqReceive t msg seq ∨ c = .ptpSyncReceive t msg gm ofs ∨
       (c = .ptpAnnounceReceive t a ∧ msg = a.msg)) →
     ptpSupported (s.fld F.TIME_PTPCTL_DOMAIN) msg = false → Completes c s fun u =>
       Touches [.dial, .time, .regs] s u ∧ SameRegs [Reg.TIME_PTPSTS] s u ∧ u.time = (s.at t).time ∧
       u.fld F.TIME_PTPSTS_DROPCNT = min (s.fld F.TIME_PTPSTS_DROPCNT + 1) 255 ∧ u.fld F.TIME_PTPSTS_STATE = s.fld F.TIME_PTPSTS_STATE) ∧
   (∀ (t : Nat) (msg : PtpMsg) (s : State), ptpSupported (s.fld F.TIME_PTPCTL_DOMAIN) msg = true →
     Completes (.ptpMessageReceive t msg) s fun u => Touches [.dial, .time] s u) ∧
   (∀ (d : Nat) (msg : PtpMsg), (msg.layer2 = false ∨ msg.multicast = false ∨ msg.domain ≠ d ∨ msg.kind = .delayReq ∨
       msg.kind = .delayResp ∨ msg.kind = .management ∨ msg.kind = .signaling ∨
       ((msg.kind = .sync ∨ msg.kind = .pdelayReq) ∧ (msg.interval < 62500000 ∨ 1000000000 < msg.interval))) →
     ptpSupported d msg = false) ∧
   (∀ (t seq : Nat) (msg : PtpMsg) (s : State), ptpSupported (s.fld F.TIME_PTPCTL_DOMAIN) msg = true →
     (Tab.get (fun _ => false) s.host.ethUp msg.port = true → Completes (.pdelayReqReceive t msg seq) s fun u =>
       Touches [.dial, .time] s u ∧ u.time.pdelayResp = (msg.port, seq) :: s.time.pdelayResp) ∧
     (Tab.get (fun _ => false) s.host.ethUp msg.port = false → Completes (.pdelayReqReceive t msg seq) s fun u =>
       Touches [.dial, .time] s u ∧ u.time.pdelayResp = s.time.pdelayResp))) ∧
  ((∀ (t : Nat) (trim : Int) (s : State),
     (s.time.servo = .locked → (∀ a : Nat, s.time.rtcAt = some a → a + 1000000000 ≤ (s.at t).dial) →
       Completes (.rtcRewrite t trim) s fun u =>
         Touches [.dial, .time, .regs] s u ∧ SameRegs [Reg.TIME_CALCTL] s u ∧ u.time.rtcRun = true ∧ u.time.rtcAt = some (s.at t).dial ∧
         u.time.rtc = ((s.at t).merNs - s.fld F.TIME_CALCTL_UTCOFS * 1000000000) * 1000000 ∧
         u.fldS F.TIME_CALCTL_TRIM = clampI (-255) 255 trim ∧ u.fld F.TIME_CALCTL_UTCOFS = s.fld F.TIME_CALCTL_UTCOFS) ∧
     ((s.time.servo ≠ .locked ∨ ∃ a : Nat, s.time.rtcAt = some a ∧ (s.at t).dial < a + 1000000000) →
       Completes (.rtcRewrite t trim) s fun u => Touches [.dial, .time] s u ∧ u.time = (s.at t).time)) ∧
   (∀ (t c : Nat) (s : State), c = (s.at t).calMs → s.fld F.TIME_CALCTL_UTCOFS < 65535 →
     ((c % 3600000 = 3599999 ∨ (c % 3600000 = 0 ∧ c ≠ 0)) → Completes (.leapSecond t true) s fun u =>
       Touches [.dial, .time, .regs] s u ∧ SameRegs [Reg.TIME_CALCTL] s u ∧ u.calMs = (c + 1) / 3600000 * 3600000 - 1 ∧
       u.fld F.TIME_CALCTL_UTCOFS = s.fld F.TIME_CALCTL_UTCOFS + 1) ∧
     (c % 3600000 ≠ 3599999 → c % 3600000 ≠ 0 → Completes (.leapSecond t true) s fun u => Touches [.dial, .time] s u)) ∧
   (∀ (t c : Nat) (s : State), c = (s.at t).calMs → 1 ≤ s.fld F.TIME_CALCTL_UTCOFS → s.time.calFloor = 0 →
     s.fld F.TIME_CALCTL_UTCOFS * 1000000000 ≤ (s.at t).merNs →
     ((c % 3600000 = 3599000 ∨ c % 3600000 = 3598999) → Completes (.leapSecond t false) s fun u =>
       Touches [.dial, .time, .regs] s u ∧ SameRegs [Reg.TIME_CALCTL] s u ∧ u.calMs = c + 1000 ∧
       u.fld F.TIME_CALCTL_UTCOFS + 1 = s.fld F.TIME_CALCTL_UTCOFS) ∧
     (c % 3600000 ≠ 3599000 → c % 3600000 ≠ 3598999 → Completes (.leapSecond t false) s fun u => Touches [.dial, .time] s u)) ∧
   (∀ (t : Nat) (s : State), Completes (.vbatLow t) s fun u =>
     Touches [.dial, .time, .regs] s u ∧ SameRegs [Reg.TIME_PTPSTS] s u ∧ u.flag F.TIME_PTPSTS_RTC_LOST = true ∧
     u.flag F.TIME_PTPSTS_CAL_VALID = false ∧ u.time.rtcValid = false ∧ (s.time.servo ≠ .locked → u.calMs = 0)))

/-- R52 to R54, Table 2-3: the rows that a Sync of the selected master drives. That the median of the latest four offsets is judged at every Sync is the
model's choice (log entry 96). R51, R52, R56: announces, a lost master, PTPEN 0 and the limit of HOLDOVER. -/
def Obligations.ServoAndMastersFollowTable2Row3 : Prop :=
  (∀ (t gm : Nat) (msg : PtpMsg) (ofs : Int) (s : State), ptpSupported (s.fld F.TIME_PTPCTL_DOMAIN) msg = true →
     (s.time.sel = some (msg.port, gm) → s.flag F.TIME_PTPCTL_PTPEN = true →
       (s.time.servo = .acquiring → s.time.fresh4.length < 3 → ofs.natAbs ≤ s.lockThr → 15 ≤ s.time.within →
         Completes (.ptpSyncReceive t msg gm ofs) s fun u =>
           u.time.servo = .locked ∧ u.flag F.TIME_PTPSTS_LOCKED = true ∧ u.fld F.TIME_PTPSTS_STATE = 2 ∧
           u.flag F.TIME_CALCTL_SRC = true ∧ u.flag F.TIME_PTPSTS_CAL_VALID = true ∧ u.time.mer = (s.at t).time.mer) ∧
       (∀ b c d : Int, s.time.servo = .acquiring → s.time.fresh4.take 3 = [b, c, d] → s.flag F.TIME_PTPCTL_NOSTEP = false →
         2 * s.stepThr < (median4x2 ofs b c d).natAbs → Completes (.ptpSyncReceive t msg gm ofs) s fun u =>
           u.time.servo = .acquiring ∧ u.flag F.TIME_PTPSTS_STEPPED = true ∧ u.time.fresh4 = [] ∧ u.time.within = 0 ∧
           u.time.mer = (((s.at t).time.mer : Int) - median4x2 ofs b c d * 2 ^ 39).toNat) ∧
       (s.time.servo = .acquiring → s.flag F.TIME_PTPCTL_NOSTEP = true → Completes (.ptpSyncReceive t msg gm ofs) s fun u =>
           u.time.mer = (s.at t).time.mer) ∧
       (s.time.servo = .locked → s.lockThr < ofs.natAbs → 15 ≤ s.time.beyond → Completes (.ptpSyncReceive t msg gm ofs) s fun u =>
           u.time.servo = .acquiring ∧ u.fld F.TIME_PTPSTS_STATE = 1 ∧ u.flag F.TIME_CALCTL_SRC = false ∧ u.time.mer = (s.at t).time.mer) ∧
       (s.time.servo = .locked → ofs.natAbs ≤ s.lockThr → Completes (.ptpSyncReceive t msg gm ofs) s fun u =>
           u.time.servo = .locked ∧ u.time.beyond = 0 ∧ u.time.mer = (s.at t).time.mer ∧ -s.slewLim ≤ u.time.slew ∧
           u.time.slew ≤ s.slewLim ∧ u.fld F.TIME_PTPSTS_RVAR = rateDeviation u.time.rates)) ∧
     ((s.time.sel ≠ some (msg.port, gm) ∨ s.flag F.TIME_PTPCTL_PTPEN = false) →
       Completes (.ptpSyncReceive t msg gm ofs) s fun u => Touches [.dial, .time] s u ∧ u.time.servo = s.time.servo ∧
         u.time.mer = (s.at t).time.mer ∧
         ∀ f ∈ u.time.foreign, f.ann.port = msg.port → f.ann.gm = gm → f.lastSync = (s.at t).dial)) ∧
  ((∀ (t : Nat) (a : Announce) (s : State), ptpSupported (s.fld F.TIME_PTPCTL_DOMAIN) a.msg = true →
     Completes (.ptpAnnounceReceive t a) s fun u =>
     Touches [.dial, .time, .regs] s u ∧ SameRegs [Reg.TIME_PTPSTS, Reg.TIME_CALCTL] s u ∧
     u.time.foreign = addForeign ((s.at t).dial) a s.time.foreign ∧ u.time.sel = u.bestMaster ∧
     (∀ x : Nat, a.utcOfs = some x → u.time.sel = some (a.port, a.gm) → u.fld F.TIME_CALCTL_UTCOFS = x % 65536) ∧
     (s.time.servo = .free → s.flag F.TIME_PTPCTL_PTPEN = true → u.time.sel.isSome = true → u.time.servo = .acquiring)) ∧
   (∀ (t : Nat) (p : Nat × Nat) (s : State), s.time.sel = some p →
     (∀ f ∈ s.time.foreign, (f.ann.port, f.ann.gm) = p → (s.at t).masterLost f = true) → Completes (.masterLost t) s fun u =>
       Touches [.dial, .time, .regs] s u ∧ u.time.sel ≠ some p ∧ u.word Reg.TIME_RATE = s.word Reg.TIME_RATE ∧
       ((s.time.servo = .locked ∨ s.time.servo = .acquiring ∧ s.time.disciplined = true) →
         u.flag F.TIME_PTPSTS_HOLDOVER = true ∧
         (u.time.sel = none → u.time.servo = .holdover ∧ u.time.u0 = ((s.word Reg.TIME_OFFSET).toInt).natAbs ∧ u.time.holdAt = (s.at t).dial)) ∧
       (s.time.servo = .acquiring → s.time.disciplined = false → u.time.sel = none → u.time.servo = .free)) ∧
   (∀ (t : Nat) (m : Master) (s : State), Completes (.ptpDisable t m) s fun u =>
     Touches [.dial, .time, .regs] s u ∧ SameRegs [Reg.TIME_PTPCTL, Reg.TIME_PTPSTS, Reg.TIME_CALCTL] s u ∧
     u.time.servo = .free ∧ u.time.slew = 0 ∧ u.flag F.TIME_PTPCTL_PTPEN = false ∧ u.fld F.TIME_PTPSTS_STATE = 0 ∧ u.word Reg.TIME_RATE = s.word Reg.TIME_RATE) ∧
   (∀ (t : Nat) (s : State), s.time.servo = .holdover → (s.word Reg.TIME_UNCERTLIM).toNat < (s.at t).uncert →
     Completes (.holdExceeded t) s fun u => Touches [.dial, .time, .regs] s u ∧ SameRegs [Reg.TIME_PTPSTS] s u ∧
       u.flag F.TIME_PTPSTS_HOLD_EXCEEDED = true ∧ u.time.servo = .holdover))

/-! ## Traverse: tiles (03_traverse.md) -/

/-- R76, R77, R79, R80, R81: what a tile does with a frame that is not for it. -/
def Obligations.TilesCountForwardAndReturnFrames : Prop :=
  (∀ (t k side residence : Nat) (td : Int) (ok : Bool) (f : Frame) (s : State), (s.tile k).powered = false →
    ∀ c ∈ [Instr.tileFrameRelay t k side ok f, .enumFrame t k side f, .sampleFrame t k side f, .tsyncFrame t k side f,
        .echoFrame t k side residence f, .loadFrame t k side f, .loadendFrame t k side f, .profileFrame t k side f, .balset t k side f,
        .dieTemperatureRead t k side td f, .armstat t k side f, .openWireSinks t k side f, .alertLinkdown t k side f],
      Completes c s fun u => Touches [.dial, .time] s u) ∧
  ∀ (t k side : Nat) (f : Frame) (s : State), (s.tile k).powered = true →
    Completes (.tileFrameRelay t k side false f) s (fun u => OnlyTile k s u ∧
      u.tile k = { s.tileAt t k with crcErr := (s.tile k).crcErr + 1 }) ∧
    (bodyOk f.body = false → Completes (.tileFrameRelay t k side true f) s fun u => OnlyTile k s u ∧
      u.tile k = { s.tileAt t k with frameErr := (s.tile k).frameErr + 1 }) ∧
    (bodyOk f.body = true → f.inbound = true → Completes (.tileFrameRelay t k side true f) s fun u => OnlyTile k s u ∧
      (tileUp (s.tile k) (linkOther side) = true →
        u.tile k = tileTx (s.tileAt t k) (linkOther side) { f with hop := f.hop + 1 }) ∧
      (tileUp (s.tile k) (linkOther side) = false → ∃ g : Frame, u.tile k = tileTx (s.tileAt t k) side g ∧
        g.turnback = true ∧ g.inbound = false ∧ g.body = f.body)) ∧
    (bodyOk f.body = true → f.inbound = false → 2 ≤ f.hop → f.hop ≤ 12 → (∀ c o : Nat, f.body ≠ .enum c o) →
      Completes (.tileFrameRelay t k side true f) s fun u => OnlyTile k s u ∧
        (tileUp (s.tile k) (linkOther side) = true →
          u.tile k = tileTx (s.tileAt t k) (linkOther side) { f with hop := f.hop - 1 }) ∧
        (tileUp (s.tile k) (linkOther side) = false →
          u.tile k = tileTx (s.tileAt t k) side { f with hop := 0, turnback := true, inbound := true })) ∧
    (∀ c o : Nat, f.body = .enum c o → f.inbound = false → Completes (.enumFrame t k side f) s fun u => OnlyTile k s u ∧
      (o = 0 → (tileIf (u.tile k) (linkIf side)).hop0 = c + 1) ∧ (o ≠ 0 → (tileIf (u.tile k) (linkIf side)).hop1 = c + 1) ∧
      (tileUp (s.tile k) (linkOther side) = true →
        (u.tile k).tx = (linkOther side, { f with body := .enum (c + 1) o }) :: (s.tile k).tx) ∧
      (tileUp (s.tile k) (linkOther side) = false →
        (u.tile k).tx = (side, { f with body := .enum (c + 1) o, hop := 0, turnback := true, inbound := true }) :: (s.tile k).tx))

/-- R86, R94, R91, R96, R97, R99, R107: the frames that a tile acts on. R87, R263, R268, R545: the CMD functions, and a CMD whose SEQ is that of the last
one executed. -/
def Obligations.TilesTakeFramesAndExecuteCommands : Prop :=
  (∀ (t k side : Nat) (f : Frame) (s : State), (s.tile k).powered = true → f.inbound = false → (f.hop = 1 ∨ f.hop = 15) →
     (∀ target seq flags : Nat, f.body = .sample target seq flags → Completes (.sampleFrame t k side f) s fun u => OnlyTile k s u ∧
       ∃ d : Sched, (u.tile k).sched = (s.tile k).sched ++ [d] ∧ d.seq = seq ∧ d.iface = linkIf side ∧ d.ovs = flags.testBit 7 ∧ d.quiet = flags.testBit 6 ∧
         d.target = fromShort ((s.at t).tileNs (s.tile k)) target ∧
         (flags.testBit 7 = false → d.remaining = 1 ∧ (d.late = true ↔ d.target < (s.at t).tileNs (s.tile k)))) ∧
     (∀ d : Nat, f.body = .tsync d → Completes (.tsyncFrame t k side f) s fun u => OnlyTile k s u ∧
       (f.active = true → (tileIf (s.tile k) (linkIf side)).home % 2 = linkEnd side → linkIf side = (s.tile k).iface →
         u.tile16 (u.tile k) = 16 * d + (if linkEnd side = 0 then (tileIf (s.tile k) (linkIf side)).d0 else (tileIf (s.tile k) (linkIf side)).d1) ∧
           (u.tile k).retrain = (s.tile k).retrain - 1) ∧
       ((f.active = false ∨ (tileIf (s.tile k) (linkIf side)).home % 2 ≠ linkEnd side) →
         (u.tile k).ofs = (s.tile k).ofs ∧ (u.tile k).retrain = (s.tile k).retrain)) ∧
     (∀ tag residence : Nat, f.body = .echo tag → f.hop = 1 → tileUp (s.tile k) side = true →
       Completes (.echoFrame t k side residence f) s fun u => OnlyTile k s u ∧
         (u.tile k).tx = (side, ⟨0, true, false, false, f.seq, .echor tag residence⟩) :: (s.tile k).tx) ∧
     (∀ (off : Nat) (data : List Nat), f.body = .load off data → data.length = 256 → Completes (.loadFrame t k side f) s fun u =>
       OnlyTile k s u ∧
       ((s.tile k).rom = true → ∀ i : Nat, Tab.get zeroWord (u.tile k).img i =
         if off ≤ i ∧ i < off + 256 then nw (data.getD (i - off) 0 % 256) else Tab.get zeroWord (s.tile k).img i) ∧
       ((s.tile k).rom = false → (u.tile k).img = (s.tile k).img)) ∧
     (∀ (len : Nat) (crc ver : Word), f.body = .loadend len crc ver → (s.tile k).rom = true → Completes (.loadendFrame t k side f) s fun u =>
       OnlyTile k s u ∧ ((u.tile k).imgOk = true ↔ len ≤ (s.tile k).imgLen ∧ (s.tile k).imgLen < len + 256 ∧
         crc32c (imgBytes (s.tile k).img len) = crc)) ∧
     (∀ (thr : List Nat) (crc : Nat), f.body = .profile thr crc → 32 ≤ thr.length → thr.length ≤ 64 →
       Completes (.profileFrame t k side f) s fun u => OnlyTile k s u ∧
         ((s.tile k).rom = false → (crc16 thr).toNat = crc → (u.tile k).thr = thr ∧ (u.tile k).armed = true) ∧
         ((s.tile k).rom = true ∨ (crc16 thr).toNat ≠ crc → (u.tile k).thr = (s.tile k).thr ∧ (u.tile k).armed = (s.tile k).armed))) ∧
  (∀ (t k side : Nat) (f : Frame) (s : State), (s.tile k).powered = true → f.inbound = false → f.hop = 1 →
     tileUp (s.tile k) side = true → tileInWindow (s.at t).windowNs ((s.at t).tileNs (s.tile k)) (s.tile k) = false →
     (∀ (fn : Nat) (data : List Nat) (g : Frame), f.body = .cmd fn data → 3 ≤ data.length → data.length ≤ 63 →
       (s.tile k).lastSeq = some f.seq →
       (s.tile k).lastResp = some g →
       ∀ c ∈ [Instr.balset t k side f, .dieTemperatureRead t k side 0 f, .armstat t k side f, .openWireSinks t k side f],
         Completes c s fun u => OnlyTile k s u ∧ u.tile k = (s.at t).settle (tileTx (s.tileAt t k) side g)) ∧
     ((s.tile k).lastSeq ≠ some f.seq →
       (∀ (data : List Nat) (td : Int), f.body = .cmd 0x22 data → 3 ≤ data.length → data.length ≤ 63 → Completes (.dieTemperatureRead t k side td f) s fun u =>
         OnlyTile k s u ∧ (u.tile k).tx = (side, respFrame f.seq 0x22 0 (leBytes (td % 65536).toNat 2)) :: (s.tile k).tx) ∧
       (∀ data : List Nat, f.body = .cmd 0x23 data → 3 ≤ data.length → data.length ≤ 63 → Completes (.armstat t k side f) s fun u => OnlyTile k s u ∧
         (u.tile k).tx = (side, respFrame f.seq 0x23 0
           ((if (s.tile k).armed then 0x80 else 0) :: leBytes (crc16 (s.tile k).thr).toNat 2)) :: (s.tile k).tx) ∧
       (∀ data : List Nat, f.body = .cmd 0x31 data → 3 ≤ data.length → data.length ≤ 63 → Completes (.openWireSinks t k side f) s fun u => OnlyTile k s u ∧
         (2 ^ ((s.tile k).ncell + 1) ≤ leNat (data.take 3) → (u.tile k).sinkCmd = (s.tile k).sinkCmd ∧
           (u.tile k).tx = (side, respFrame f.seq 0x31 1 [0, 0]) :: (s.tile k).tx) ∧
         (leNat (data.take 3) < 2 ^ ((s.tile k).ncell + 1) → (u.tile k).sinkCmd =
             some (leNat (data.take 3), fromShort ((s.at t).tileNs (s.tile k)) (leNat ((data.drop 3).take 5)), data.getD 8 0) ∧
           (u.tile k).tx = (side, respFrame f.seq 0x31 0 [0, 0]) :: (s.tile k).tx)) ∧
       (∀ data : List Nat, f.body = .cmd 0x21 data → 3 ≤ data.length → data.length ≤ 63 → Completes (.balset t k side f) s fun u => OnlyTile k s u ∧
         (breaksNeighbour (leNat ((data.drop 10).take 2)) = true → (u.tile k).bal = none ∧ (u.tile k).sw = 0 ∧
           (u.tile k).tx = (side, respFrame f.seq 0x21 1 [0, 0]) :: (s.tile k).tx) ∧
         (2 ^ (s.tile k).ncell ≤ leNat ((data.drop 10).take 2) → breaksNeighbour (leNat ((data.drop 10).take 2)) = false →
           u.tile k = (s.at t).settle (tileTx (s.tileAt t k) side (respFrame f.seq 0x21 1 [0, 0]))) ∧
         (leNat ((data.drop 10).take 2) < 2 ^ (s.tile k).ncell → breaksNeighbour (leNat ((data.drop 10).take 2)) = false →
           (u.tile k).bal.map (·.mask) = some (leNat ((data.drop 10).take 2)) ∧ (u.tile k).balAt = (s.at t).tileNs (s.tile k) ∧
           (u.tile k).tx = (side, respFrame f.seq 0x21 0 [0, 0]) :: (s.tile k).tx))))

/-- R82, R83, R85, R88: a tile's links and its home end; ALERTs; the frames held. R84, R85, R97, R101, R114, R133, R263, R269, R273, R546: conversions,
responses, comparators and switches of a tile. -/
def Obligations.TilesTurnConvertAndProtect : Prop :=
  (∀ (t k side : Nat) (s : State), (s.tile k).powered = true →
     Completes (.tileLinkDown t k side) s (fun u => Touches [.dial, .time, .trv] s u ∧ (∀ j : Nat, j ≠ k → u.tile j = s.tile j) ∧
       tileUp (u.tile k) side = false ∧
       ((tileIf (s.tile k) (linkIf side)).home % 2 = linkEnd side →
         (tileIf (u.tile k) (linkIf side)).home = 1 - linkEnd side ∧ (u.tile k).retrain = 16) ∧
       ((tileIf (s.tile k) (linkIf side)).home % 2 ≠ linkEnd side →
         (tileIf (u.tile k) (linkIf side)).home = (tileIf (s.tile k) (linkIf side)).home ∧ (u.tile k).retrain = (s.tile k).retrain) ∧
       (tileUp (s.tile k) (linkOther side) = true →
         (u.tile k).tx = (linkOther side, ⟨0, true, false, false, 0, .alert 1 (linkEnd side)⟩) :: (s.tile k).tx) ∧
       ((s.ring (slotRing k)).n ≥ k % 12 + 1 → side < 2 → (u.ring (slotRing k)).allUp = none)) ∧
     (∀ f : Frame, f.inbound = true → Completes (.alertLinkdown t k side f) s fun u => OnlyTile k s u ∧
       (tileUp (s.tile k) (linkOther side) = true → (u.tile k).tx = (linkOther side, { f with hop := f.hop + 1 }) :: (s.tile k).tx) ∧
       ((tileIf (s.tile k) (linkIf side)).home % 2 = linkEnd side →
         (tileIf (u.tile k) (linkIf side)).home = 1 - linkEnd side ∧ (u.tile k).retrain = 16) ∧
       ((tileIf (s.tile k) (linkIf side)).home % 2 ≠ linkEnd side →
         (tileIf (u.tile k) (linkIf side)).home = (tileIf (s.tile k) (linkIf side)).home)) ∧
     Completes (.tileLinkUp t k side) s (fun u => Touches [.dial, .time, .trv] s u ∧ (∀ j : Nat, j ≠ k → u.tile j = s.tile j) ∧
       tileUp (u.tile k) side = true ∧ (tileIf (u.tile k) (linkIf side)).home = (tileIf (s.tile k) (linkIf side)).home ∧
       (tileInWindow (s.at t).windowNs ((s.at t).tileNs (s.tile k)) (s.tile k) = false →
         (∀ h ∈ (s.tile k).held, linkIf h.1 = linkIf side) → (u.tile k).held = [])) ∧
     Completes (.tileResponseWindowEnd t k) s (fun u => OnlyTile k s u ∧
       (tileInWindow (s.at t).windowNs ((s.at t).tileNs (s.tile k)) (s.tile k) = true → u.tile k = (s.at t).settle (s.tileAt t k)) ∧
       (tileInWindow (s.at t).windowNs ((s.at t).tileNs (s.tile k)) (s.tile k) = false → (∀ l < 4, tileUp (s.tile k) l = true) →
         (∀ h ∈ (s.tile k).held, h.1 < 4) → (u.tile k).held = [] ∧ (u.tile k).tx = (s.tile k).held.reverse ++ (s.tile k).tx))) ∧
  ((∀ (t k ncell : Nat) (s : State), Completes (.tilePowerUp t k ncell) s fun u => OnlyTile k s u ∧ (u.tile k).powered = true ∧
     (u.tile k).ncell = ncell ∧ (u.tile k).rom = true ∧ (u.tile k).armed = false ∧ (u.tile k).thr = [] ∧ (u.tile k).sw = 0 ∧
     (u.tile k).held = [(0, alertFrame 2 0)]) ∧
   ∀ (t k : Nat) (s : State), (s.tile k).powered = true →
     (∀ (c : Conversion) (d : Sched) (rest : List Sched),
       ((s.tile k).sched.find? fun e => decide (e.next ≤ (s.at t).tileNs (s.tile k))) = some d → rest = (s.tile k).sched.filter (· != d) →
       Completes (.tileConversion t k c) s fun u => OnlyTile k s u ∧
         (2 ≤ d.remaining → (u.tile k).sched = { d with remaining := d.remaining - 1, convs := c :: d.convs } :: rest ∧
           (u.tile k).result = (s.tile k).result) ∧
         (d.remaining ≤ 1 → (u.tile k).sched = rest ∧ (u.tile k).win = (d.target, d.target + (s.at t).windowNs) ∧
           (d.convs = [] → (u.tile k).result = some ({ d with remaining := 0, convs := [c] }, c))) ∧
         (u.quietNow (u.tileNs (u.tile k)) (u.tile k) = true → (u.tile k).closed = 0)) ∧
     (∀ c : Conversion, (∀ d ∈ (s.tile k).sched, (s.at t).tileNs (s.tile k) < d.next) → Completes (.tileConversion t k c) s fun u =>
       OnlyTile k s u ∧ u.tile k = (s.at t).settle (tileFilter (s.tileAt t k) c.cells)) ∧
     (∀ (d : Sched) (v : Conversion), (s.tile k).result = some (d, v) →
       (tileUp (s.tile k) (tileHomeLink (s.tile k) d.iface) = true → (s.at t).slotTime (s.tile k) d ≤ (s.at t).tileNs (s.tile k) →
         Completes (.tileSnaprSlot t k) s fun u => OnlyTile k s u ∧ (u.tile k).result = none ∧ ∃ q : Nat, (u.tile k).tx =
           (tileHomeLink (s.tile k) d.iface, ⟨0, true, false, false, q, .snapr d.seq (s.tile k).armed d.late (decide (0 < (s.tile k).retrain))
             (s.tile k).trip (crc16 (s.tile k).thr).toNat v.mt v.temps v.cells⟩) :: (s.tile k).tx) ∧
       ((s.at t).tileNs (s.tile k) < (s.at t).slotTime (s.tile k) d → Completes (.tileSnaprSlot t k) s fun u =>
         OnlyTile k s u ∧ (u.tile k).result = some (d, v) ∧ (u.tile k).tx = (s.tile k).tx)) ∧
     ((s.tile k).armed = true → 4 ∈ (s.tile k).ovCount → Completes (.tileComparatorTrip t k) s fun u => OnlyTile k s u ∧
       (u.tile k).trip = true ∧ (u.tile k).x.loop = false ∧ (u.tile k).y.loop = false ∧
       (tileInWindow (s.at t).windowNs ((s.at t).tileNs (s.tile k)) (s.tile k) = false →
         tileUp (s.tile k) (tileHomeLink (s.tile k) (s.tile k).iface) = true →
         (u.tile k).tx = (tileHomeLink (s.tile k) (s.tile k).iface, alertFrame 3 0) :: (s.tile k).tx) ∧
       (tileInWindow (s.at t).windowNs ((s.at t).tileNs (s.tile k)) (s.tile k) = true → (u.tile k).tx = (s.tile k).tx ∧
         (u.tile k).held = (s.tile k).held ++ [(tileHomeLink (s.tile k) (s.tile k).iface, alertFrame 3 0)])) ∧
     (((s.tile k).armed = false ∨ 4 ∉ (s.tile k).ovCount) → Completes (.tileComparatorTrip t k) s fun u => OnlyTile k s u ∧
       (u.tile k).trip = (s.tile k).trip ∧ (u.tile k).tx = (s.tile k).tx) ∧
     ((s.tile k).trip = true → (s.tile k).calm = 4 → Completes (.tileComparatorRelease t k) s fun u => OnlyTile k s u ∧
       (u.tile k).trip = false ∧ (u.tile k).x.loop = true ∧ (u.tile k).y.loop = true) ∧
     ((s.tile k).calm ≠ 4 → Completes (.tileComparatorRelease t k) s fun u => OnlyTile k s u ∧ (u.tile k).trip = (s.tile k).trip ∧
       (u.tile k).x.loop = (s.tile k).x.loop ∧ (u.tile k).y.loop = (s.tile k).y.loop) ∧
     Completes (.tileDieHot t k) s (fun u => OnlyTile k s u ∧ (u.tile k).sw = 0 ∧ (u.tile k).bal = none ∧ (u.tile k).dieHot = true) ∧
     Completes (.tileBalsetExpiry t k) s (fun u => OnlyTile k s u ∧
       (deferChange (s.tileAt t k) (tileExpiry (s.tileAt t k)) ≤ (s.at t).tileNs (s.tile k) → (u.tile k).sw = 0 ∧ (u.tile k).bal = none) ∧
       ((s.at t).tileNs (s.tile k) < deferChange (s.tileAt t k) (tileExpiry (s.tileAt t k)) →
         u.tile k = (s.at t).settle (s.tileAt t k))) ∧
     (∀ m s0 ms : Nat, (s.tile k).sinkCmd = some (m, s0, ms) → Completes (.tileSinkOn t k) s fun u => OnlyTile k s u ∧
       (s0 ≤ (s.at t).tileNs (s.tile k) → (u.tile k).sinks = m) ∧
       ((s.at t).tileNs (s.tile k) < s0 → (u.tile k).sinks = (s.tile k).sinks)))

/-! ## Traverse: rings and ports (03_traverse.md) -/

/-- R88, Table 3-3: the rows that EN and the ports' links drive. -/
def Obligations.RingsFollowEnableAndPortLinks : Prop :=
  (∀ (t : Nat) (m : Master) (v : Word) (s : State), Completes (.trvCtlWrite t m v) s fun u =>
    Touches [.dial, .time, .regs, .trv, .acq, .bal, .sxt] s u ∧ OnlyBlocks [Block.trv, Block.bal] s u ∧
    u.word Reg.TRV_CTL = v &&& 0xF#32 ∧
    ∀ r < 4, (v.getLsbD r = false → (u.ring r).state = .down) ∧
      (v.getLsbD r = true → (s.fld F.THM_TRIM_RING).testBit r = false → (s.ring r).state = .down →
        (s.port (2 * r)).up = true → (s.port (2 * r + 1)).up = true → (u.ring r).state = .training ∧ u.fld (F.TRV_RINGSTS_STATE r) = 1) ∧
      (v.getLsbD r = true → (s.fld F.THM_TRIM_RING).testBit r = false → (s.ring r).state ≠ .down → (u.ring r).state = (s.ring r).state)) ∧
  ∀ (t r e : Nat) (s : State), r < 4 → e < 2 →
    (s.ringEn r = true → (s.ring r).state = .down → (s.port (2 * r + e)).up = true → (s.port (2 * r + (1 - e))).up = false →
      (s.port (2 * r + e)).upSince + 100000000 ≤ (s.at t).dial → Completes (.openRingTrainStart t (2 * r + e)) s fun u =>
        Touches [.dial, .time, .regs, .trv] s u ∧ OnlyBlocks [Block.trv] s u ∧ (u.ring r).state = .training ∧
        (u.ring r).openFrom = some e ∧ u.fld (F.TRV_RINGSTS_STATE r) = 1) ∧
    ((s.ringEn r = false ∨ (s.ring r).state ≠ .down ∨ (s.port (2 * r + (1 - e))).up = true ∨
        (s.at t).dial < (s.port (2 * r + e)).upSince + 100000000) →
      Completes (.openRingTrainStart t (2 * r + e)) s fun u => Touches [.dial, .time] s u) ∧
    ((s.port (2 * r + e)).up = false → Completes (.portLinkUp t (2 * r + e)) s fun u =>
      (u.port (2 * r + e)).up = true ∧ (u.port (2 * r + e)).upSince = (s.at t).dial ∧ u.fld (F.TRV_PORTSTS_LINK (2 * r + e)) = 1 ∧
      ((s.ring r).state = .down → s.ringEn r = true → (s.port (2 * r + (1 - e))).up = true → (u.ring r).state = .training) ∧
      (((s.ring r).state = .lost ∨ (s.ring r).state = .fault) → s.ringEn r = true →
        (u.ring r).state = if (s.port (2 * r + (1 - e))).up then .training else .down)) ∧
    ((s.port (2 * r + e)).up = true → Completes (.portLinkUp t (2 * r + e)) s fun u => Touches [.dial, .time] s u) ∧
    ((s.port (2 * r + e)).up = true → Completes (.portLinkDown t (2 * r + e)) s fun u =>
      (u.port (2 * r + e)).up = false ∧ u.fld (F.TRV_PORTSTS_LINK (2 * r + e)) = 0 ∧
      ((s.ring r).state = .closed → (s.port (2 * r + (1 - e))).up = true → (u.ring r).state = .closed ∧ (u.ring r).checking = true ∧
        u.flag (F.TRV_RINGSTS_BREAK r) = true) ∧
      ((s.ring r).state.running = true → (s.port (2 * r + (1 - e))).up = false → (u.ring r).state = .lost ∧
        u.flag (F.TRV_RINGSTS_LOST r) = true ∧ (u.ring r).lostAt = (s.at t).dial)) ∧
    ((s.port (2 * r + e)).up = false → Completes (.portLinkDown t (2 * r + e)) s fun u => Touches [.dial, .time] s u) ∧
    (∀ f : Frame,
      (f.turnback = true → (s.ring r).state = .closed → (s.port (2 * r)).up = true → Completes (.turnbackFrameReceive t (2 * r + e) f) s fun u =>
        (u.ring r).checking = true ∧ u.flag (F.TRV_RINGSTS_BREAK r) = true ∧ (u.ring r).state = .closed) ∧
      ((f.turnback = false ∨ (s.ring r).state = .down ∨ (s.ring r).state = .lost ∨ (s.ring r).state = .fault) →
        Completes (.turnbackFrameReceive t (2 * r + e) f) s fun u => Touches [.dial, .time] s u))

/-- R88, R90, R91: the enumeration and the delay checks of a training attempt. -/
def Obligations.TrainingEnumeratesMeasuresAndEnds : Prop :=
  ∀ (t r e : Nat) (f : Frame) (s : State), r < 4 → e < 2 →
    (∀ count lp : Nat, f.body = .enum count 1 → f.inbound = false → (s.ring r).state = .training → (s.ring r).measuring = false →
      (s.ring r).openFrom = none →
      ((s.ring r).k0 = some count → 1 ≤ count → count ≤ 12 → Completes (.enumReturn t (2 * r + e) f lp) s fun u =>
        (u.ring r).measuring = true ∧ (u.ring r).n = count ∧ (u.ring r).state = .training ∧ u.fld (F.TRV_RINGSTS_N r) = count ∧
        u.fld (F.TRV_RINGSTS_K0 r) = count ∧ u.fld (F.TRV_RINGSTS_K1 r) = count ∧
        (s.ringTiles r ≠ count → u.flag (F.TRV_RINGSTS_TOPO_MISMATCH r) = true) ∧
        (s.ringTiles r = count → u.flag (F.TRV_RINGSTS_TOPO_MISMATCH r) = s.flag (F.TRV_RINGSTS_TOPO_MISMATCH r))) ∧
      (∀ a : Nat, (s.ring r).k0 = some a → a ≠ count → (s.ring r).fails = 2 → Completes (.enumReturn t (2 * r + e) f lp) s fun u =>
        (u.ring r).state = .fault ∧ u.flag (F.TRV_RINGSTS_TRAIN_FAIL r) = true ∧ u.fld (F.TRV_RINGSTS_STATE r) = 8)) ∧
    (∀ tag res rtt : Nat, f.body = .echor tag res → (s.known (s.sourceSlot (2 * r + e) f)).fresh = false →
      s.echoDone e (s.sourceSlot (2 * r + e) f) = false → Completes (.echorReceive t (2 * r + e) rtt f) s fun u =>
        Touches [.dial, .time, .trv] s u ∧ u.trv.ports = s.trv.ports ∧ u.trv.rings = s.trv.rings ∧ u.trv.tiles = s.trv.tiles ∧
        (∀ k : Nat, k ≠ s.sourceSlot (2 * r + e) f → u.known k = s.known k) ∧
        (u.echoSum e (s.sourceSlot (2 * r + e) f)).cnt = (s.echoSum e (s.sourceSlot (2 * r + e) f)).cnt + 1 ∧
        (u.echoSum e (s.sourceSlot (2 * r + e) f)).rtt = (s.echoSum e (s.sourceSlot (2 * r + e) f)).rtt + rtt ∧
        (u.echoSum e (s.sourceSlot (2 * r + e) f)).res = (s.echoSum e (s.sourceSlot (2 * r + e) f)).res + res) ∧
    ((s.ring r).state = .training → (s.ring r).n ≤ 12 →
      ((s.ring r).measuring = true → s.delaysOk r = true → Completes (.trainingDone t r) s fun u => (u.ring r).fails = 0 ∧
        (∀ i < 12, (s.ring r).n ≤ i → u.fld (F.TRV_HOPDLY_DELAY (24 * r + i)) = 0 ∧ u.fld (F.TRV_HOPDLY_DELAY (24 * r + 12 + i)) = 0) ∧
        (u.ring r).state = if (s.activeSlots r).all (fun k => !(s.tile k).rom && (s.tile k).powered) then .arming else .loading) ∧
      (((s.ring r).measuring = false ∨ s.delaysOk r = false) → (s.ring r).fails = 2 → Completes (.trainingDone t r) s fun u =>
        (u.ring r).state = .fault ∧ u.flag (F.TRV_RINGSTS_TRAIN_FAIL r) = true)) ∧
    ((s.ring r).state ≠ .training → Completes (.trainingDone t r) s fun u => Touches [.dial, .time] s u)

/-- R82, R88, R94, Table 3-3: ARMSTAT polls each booted tile every 1 ms from the PROFILE injection of ARMING, RING_RESTORE starts the enumeration that
returns a ring to CLOSED, TSYNC_SEND queues one TSYNC on each port of a ring at each whole millisecond. -/
def Obligations.RingsArmTileTimeAndAlerts : Prop :=
  ∀ (t r e : Nat) (s : State), r < 4 → e < 2 →
    ((s.ring r).state = .arming → (s.ring r).armAt.isSome = true →
      (∀ a : Nat, (s.ring r).pollAt = some a → a + 1000000 ≤ (s.at t).dial) → Completes (.armstatPoll t r) s fun u =>
        Touches [.dial, .time, .regs, .trv] s u ∧ OnlyBlocks [Block.trv] s u ∧ (u.ring r).pollAt = some (s.at t).dial ∧
        (u.ring r).state = .arming ∧ ∀ k ∈ s.activeSlots r, (s.known k).booted = true →
          ∃ d < 2, ∃ o ∈ (u.port (2 * slotRing k + d)).outst, o.use = .armstat k ∧ o.frame.body = .cmd 0x23 [0, 0, 0]) ∧
    (((s.ring r).state ≠ .arming ∨ (s.ring r).armAt = none ∨ ∃ a : Nat, (s.ring r).pollAt = some a ∧ (s.at t).dial < a + 1000000) →
      Completes (.armstatPoll t r) s fun u => Touches [.dial, .time] s u) ∧
    (((s.ring r).state = .openRing ∨ (s.ring r).state = .degraded) → (s.ring r).checking = false → (s.at t).mayRestore r = true →
      Completes (.ringRestore t r) s fun u => Touches [.dial, .time, .trv] s u ∧ u.trv.tiles = s.trv.tiles ∧
        (u.ring r).state = (s.ring r).state ∧ (u.ring r).checking = true ∧ (u.ring r).aim = .restore ∧ (u.ring r).k0 = none ∧
        (u.ring r).k1 = none ∧ ∃ f : Frame, ((u.port (2 * r + e)).busy = some f ∨ f ∈ (u.port (2 * r + e)).queue) ∧
          f.body = .enum 0 e ∧ f.inbound = false) ∧
    (((s.ring r).state ≠ .openRing ∧ (s.ring r).state ≠ .degraded ∨ (s.ring r).checking = true ∨ (s.at t).mayRestore r = false) →
      Completes (.ringRestore t r) s fun u => Touches [.dial, .time] s u) ∧
    (∀ (f : Frame) (lp : Nat), f.body = .enum (s.ring r).n 1 → f.inbound = false → (s.ring r).checking = true →
      (s.ring r).aim = .restore → ((s.ring r).state = .openRing ∨ (s.ring r).state = .degraded) → (s.ring r).k0 = some (s.ring r).n →
      (s.at t).mayRestore r = true → 1 ≤ (s.ring r).n → (s.ring r).n ≤ 12 → Completes (.enumReturn t (2 * r + e) f lp) s fun u =>
        (u.ring r).state = .closed ∧ u.fld (F.TRV_RINGSTS_STATE r) = 4 ∧ u.fld (F.TRV_RINGSTS_K0 r) = (s.ring r).n ∧
        u.fld (F.TRV_RINGSTS_K1 r) = (s.ring r).n ∧ u.fld (F.TRV_RINGSTS_BRKHOP r) = 0 ∧
        ∀ k ∈ s.ringSlots r, (tileIf (u.tile k) s.unitIf).home % 2 = if slotHop k ≤ ((s.ring r).n + 1) / 2 then 0 else 1) ∧
    ((s.at t).dial % 1000000 = 0 → s.trv.tsyncAt ≠ some ((s.at t).dial / 1000000) → Completes (.tsyncSend t) s fun u =>
      u.trv.tsyncAt = some ((s.at t).dial / 1000000) ∧
      ((∀ q < 4, (s.ring q).state ≠ .arming) → Touches [.dial, .time, .trv] s u ∧ u.trv.tiles = s.trv.tiles) ∧
      ((s.ring r).state = .arming → (u.ring r).tsyncs = (s.ring r).tsyncs + 1) ∧
      ((s.ring r).state = .arming → (s.ring r).checking = false → 15 ≤ (s.ring r).tsyncs → (s.port (2 * r + e)).up = true →
        (∀ k ∈ s.activeSlots r, (s.known k).booted = true → (s.known k).armOk = true) →
        (u.ring r).checking = true ∧ (u.ring r).aim = .leave ∧ (u.ring r).state = .arming) ∧
      (((s.ring r).state.running = true ∨ (s.ring r).state = .arming) →
        ∃ f : Frame, ((u.port (2 * r + e)).busy = some f ∨ f ∈ (u.port (2 * r + e)).queue) ∧ f.body = .tsync (s.at t).dial ∧
          f.hop = 15 ∧ f.inbound = false ∧ (f.active = true ↔ s.flag F.RDN_CTL_TWIN = false ∨ s.activeRole = true)) ∧
      ((s.ring r).state.running = false → (s.ring r).state ≠ .arming → u.port (2 * r + e) = s.port (2 * r + e))) ∧
    (((s.at t).dial % 1000000 ≠ 0 ∨ s.trv.tsyncAt = some ((s.at t).dial / 1000000)) → Completes (.tsyncSend t) s fun u =>
      Touches [.dial, .time] s u)

/-- R83, R90, R96, R97, R101, R269, R546: a tile boots its checked image; a port takes the ALERTs of tiles; an ALERT BOOT starts the measurement of a
fresh tile. -/
def Obligations.AlertsAndBootsReachTheirTiles : Prop :=
  (∀ (t k : Nat) (s : State),
    ((s.tile k).powered = true → (s.tile k).rom = true → (s.tile k).imgOk = true → Completes (.tileBoot t k) s fun u =>
      (u.tile k).rom = false ∧ (tileIf (u.tile k) 0).loop = true ∧ (tileIf (u.tile k) 1).loop = true ∧ (u.known k).booted = true ∧
      (u.known k).failed = false ∧ (u.known k).fresh = false ∧ (u.known k).loadFails = 0 ∧ (u.ring (slotRing k)).profDue = true) ∧
    ((s.tile k).powered = true → ((s.tile k).rom = false ∨ (s.tile k).imgOk = false) → Completes (.tileBoot t k) s fun u =>
      OnlyTile k s u ∧ (u.tile k).rom = (s.tile k).rom) ∧
    ((s.tile k).powered = false → Completes (.tileBoot t k) s fun u => Touches [.dial, .time] s u)) ∧
  ∀ (t r e k : Nat) (f : Frame) (s : State), r < 4 → e < 2 → k = s.sourceSlot (2 * r + e) f → k < 48 →
    Completes (.alertReceive t (2 * r + e) false f) s (fun u => Touches [.dial, .time, .regs, .wear] s u ∧
      SameRegs [Reg.TRV_PORTSTS (2 * r + e)] s u ∧
      u.fld (F.TRV_PORTSTS_CRCERR (2 * r + e)) = min (s.fld (F.TRV_PORTSTS_CRCERR (2 * r + e)) + 1) 127) ∧
    (∀ side : Nat, f.body = .alert 1 side → (s.ring r).state = .closed → (s.port (2 * r)).up = true →
      Completes (.alertReceive t (2 * r + e) true f) s fun u => (u.ring r).state = .closed ∧ (u.ring r).checking = true ∧
        (u.ring r).aim = .look ∧ u.flag (F.TRV_RINGSTS_BREAK r) = true) ∧
    (∀ side : Nat, f.body = .alert 1 side → ((s.ring r).state = .down ∨ (s.ring r).state = .lost ∨ (s.ring r).state = .fault) →
      Completes (.alertReceive t (2 * r + e) true f) s fun u => Touches [.dial, .time] s u) ∧
    (∀ side : Nat, f.body = .alert 3 side → Completes (.alertReceive t (2 * r + e) true f) s fun u =>
      Touches [.dial, .time, .trv] s u ∧ (u.known k).comp = true ∧ ∀ j : Nat, j ≠ k → u.known j = s.known j) ∧
    (∀ side : Nat, f.body = .alert 4 side → Completes (.alertReceive t (2 * r + e) true f) s fun u =>
      Touches [.dial, .time, .regs, .bal] s u ∧ OnlyBlocks [Block.bal] s u ∧ u.flag (F.BAL_TILE_HOT k) = true ∧
      u.flag F.BAL_STS_HOT = true) ∧
    (∀ code side : Nat, f.body = .alert code side → code ≠ 1 → code ≠ 3 → code ≠ 4 →
      Completes (.alertReceive t (2 * r + e) true f) s fun u => Touches [.dial, .time] s u) ∧
    (((s.ring r).state.running = true ∨ (s.ring r).state = .arming ∨ (s.ring r).state = .loading) → slotRing k = r →
      k < 12 * r + s.ringTiles r → Completes (.alertBootReceive t (2 * r + e) f) s fun u =>
        (u.known k).fresh = true ∧ (u.known k).booted = false ∧ (u.known k).failed = (s.known k).failed ∧
        (u.known k).e0 = ⟨0, 0, 0⟩ ∧ (u.known k).e1 = ⟨0, 0, 0⟩ ∧ (u.acqSlot k).inService = false ∧
        (u.acqSlot k).ncell = (s.acqSlot k).ncell ∧ (u.acqSlot k).basep = (s.acqSlot k).basep ∧ u.fld (F.ACQ_OWSUS_SUSPECT k) = 0 ∧
        (∀ i < 48, u.fld (F.ACQ_OWCNF_CONFIRMED i) = s.fld (F.ACQ_OWCNF_CONFIRMED i)) ∧
        ∀ i < 816, u.word (Reg.BAL_RW i) = s.word (Reg.BAL_RW i)) ∧
    ((¬ ((s.ring r).state.running = true ∨ (s.ring r).state = .arming ∨ (s.ring r).state = .loading) ∨ 12 * r + s.ringTiles r ≤ k) →
      Completes (.alertBootReceive t (2 * r + e) f) s fun u => Touches [.dial, .time] s u)

/-- R78, R87, R265, R268, R545: a CMD's departure, its retries, and how its outcome reaches the issuer. -/
def Obligations.TileCommandsAreRetriedAndReported : Prop :=
  ∀ (t p : Nat) (s : State), p < 8 →
    ((s.port p).busy = none → Completes (.portFrameSent t p) s fun u => Touches [.dial, .time] s u) ∧
    (∀ (f : Frame) (fn : Nat) (data : List Nat), (s.port p).busy = some f → f.body = .cmd fn data → Completes (.portFrameSent t p) s fun u =>
      Touches [.dial, .time, .trv] s u ∧ (∀ q : Nat, q ≠ p → u.port q = s.port q) ∧
      (∀ o ∈ (s.port p).outst, o.frame.seq = f.seq → o.sentAt = none → { o with sentAt := some ((s.at t).dial) } ∈ (u.port p).outst) ∧
      (∀ o ∈ (s.port p).outst, o.frame.seq ≠ f.seq → o ∈ (u.port p).outst) ∧
      (∀ (g : Frame) (gs : List Frame) (fn' : Nat) (data' : List Nat), (s.port p).queue = g :: gs → g.body = .cmd fn' data' →
        (u.port p).busy = some g ∧ (u.port p).queue = gs)) ∧
    (∀ (seq : Nat) (o : Outst), s.findOutst p seq = some o →
      ((s.at t).cmdTimedOut (p / 2) o = false → Completes (.cmdTimeout t p seq) s fun u => Touches [.dial, .time] s u) ∧
      ((s.at t).cmdTimedOut (p / 2) o = true → o.retries < 2 → (∃ (fn : Nat) (d : List Nat), o.frame.body = .cmd fn d) → 1 ≤ o.frame.hop → o.frame.hop ≤ 12 → (s.ring (p / 2)).state ≠ .down →
        (s.port p).busy.isSome = true → Completes (.cmdTimeout t p seq) s fun u =>
          Touches [.dial, .time, .trv] s u ∧ (u.port p).queue = enqueue o.frame (s.port p).queue ∧
          u.findOutst p seq = some { o with retries := o.retries + 1, sentAt := none }) ∧
      (∀ k mask : Nat, (s.at t).cmdTimedOut (p / 2) o = true → 2 ≤ o.retries → o.use = .balset k mask → k < 48 →
        Completes (.cmdTimeout t p seq) s fun u => Touches [.dial, .time, .regs, .trv, .bal] s u ∧
          u.findOutst p seq = none ∧ u.fld (F.TRV_PORTSTS_CMDFAIL p) = min (s.fld (F.TRV_PORTSTS_CMDFAIL p) + 1) 127 ∧
          u.flag (F.BAL_TILE_UNSURE k) = true ∧ u.flag F.BAL_STS_CMDFAIL = true ∧ (u.balSlot k).unsure = true) ∧
      (∀ (f : Frame) (fn status : Nat) (data : List Nat), f.body = .resp fn status data → 2 ≤ data.length → data.length ≤ 62 → fn ≠ 0 → f.seq = seq →
        (∀ k mask : Nat, o.use = .balset k mask → k < 48 → status = 0 → Completes (.respReceive t p true f) s fun u =>
          Touches [.dial, .time, .regs, .trv, .bal] s u ∧ u.findOutst p seq = none ∧ u.flag (F.BAL_TILE_UNSURE k) = false ∧
          (u.balSlot k).unsure = false ∧ (u.balSlot k).okMask = mask) ∧
        (∀ k mask : Nat, o.use = .balset k mask → k < 48 → status ≠ 0 → Completes (.respReceive t p true f) s fun u =>
          u.findOutst p seq = none ∧ u.flag (F.BAL_TILE_UNSURE k) = true ∧ u.flag F.BAL_STS_CMDFAIL = true) ∧
        (∀ k : Nat, o.use = .dieTemp k → k < 48 → status = 0 → Completes (.respReceive t p true f) s fun u =>
          Touches [.dial, .time, .regs, .trv, .bal] s u ∧ u.findOutst p seq = none ∧
          (u.balSlot k).td = some (signed 16 (leNat (data.take 2)))))) ∧
    (∀ (f : Frame) (status : Nat) (data : List Nat), f.body = .resp 0 status data → 2 ≤ data.length → data.length ≤ 62 →
      (status = 0 → Completes (.respReceive t p true f) s fun u => Touches [.dial, .time] s u) ∧
      (status ≠ 0 → 2 ≤ (s.known (s.sourceSlot p f)).loadFails → s.sourceSlot p f < 48 → Completes (.respReceive t p true f) s fun u =>
        (u.known (s.sourceSlot p f)).failed = true ∧ u.flag (F.TRV_RINGSTS_LOAD_FAIL (slotRing (s.sourceSlot p f))) = true)) ∧
    (∀ f : Frame,
      (∀ c o : Nat, f.body = .enum c o → Completes (.unclaimedFrame t p f) s fun u => Touches [.dial, .time] s u) ∧
      ((∀ c o : Nat, f.body ≠ .enum c o) → (∀ (fn : Nat) (d : List Nat), f.body ≠ .cmd fn d) → f.hop ≠ 0 →
        Completes (.unclaimedFrame t p f) s fun u => Touches [.dial, .time, .regs] s u ∧ SameRegs [Reg.TRV_PORTSTS p] s u ∧
          u.fld (F.TRV_PORTSTS_UNCLAIMED p) = min (s.fld (F.TRV_PORTSTS_UNCLAIMED p) + 1) 127) ∧
      (∀ (fn k mask : Nat) (d : List Nat) (o : Outst), f.body = .cmd fn d → f.hop ≠ 0 → o.use = .balset k mask → k < 48 →
        s.findOutst (if p % 2 = 0 then p + 1 else p - 1) f.seq = some o → Completes (.unclaimedFrame t p f) s fun u =>
          u.fld (F.TRV_PORTSTS_UNCLAIMED p) = min (s.fld (F.TRV_PORTSTS_UNCLAIMED p) + 1) 127 ∧
          u.findOutst (if p % 2 = 0 then p + 1 else p - 1) f.seq = none ∧ u.flag (F.BAL_TILE_UNSURE k) = true))

/-! ## Acquisition (04_acquisition.md) -/

/-- R100, R116: which SNAPRs Acquisition accepts, and what Lodestone reads from them. -/
def Obligations.SnaprsAreAcceptedOnlyUnderR116 : Prop :=
  ∀ (t p q armcrc mt : Nat) (armed late retrain trip : Bool) (temps cells : List Nat) (f : Frame) (s : State), p < 8 →
    f.body = .snapr q armed late retrain trip armcrc mt temps cells → temps.length = 4 → cells.length ≤ 81 →
    Completes (.snaprReceive t p false f) s (fun u => Touches [.dial, .time, .regs, .wear] s u ∧ SameRegs [Reg.TRV_PORTSTS p, Reg.ACQ_STS] s u ∧
      u.flag F.ACQ_STS_LATE_SNAPR = true ∧ u.fld (F.TRV_PORTSTS_CRCERR p) = min (s.fld (F.TRV_PORTSTS_CRCERR p) + 1) 127) ∧
    Completes (.snaprReceive t p true f) s (fun u => Touches [.dial, .time, .regs, .trv, .acq] s u ∧ SameRegs [Reg.ACQ_STS] s u ∧
      (∀ k : Nat, k ≠ s.sourceSlot p f → u.known k = s.known k) ∧ (u.known (s.sourceSlot p f)).comp = trip ∧
      (armed = true → armcrc = s.fld F.LDS_CFG_PROFCRC → (u.known (s.sourceSlot p f)).armAt = (s.at t).dial ∧
        (u.known (s.sourceSlot p f)).armBad = false) ∧
      ((armed = false ∨ armcrc ≠ s.fld F.LDS_CFG_PROFCRC) → (u.known (s.sourceSlot p f)).armBad = true) ∧
      (s.snapOpen q = true → (s.acqSlot (s.sourceSlot p f)).inService = true → (s.acqSlot (s.sourceSlot p f)).ncell = cells.length →
        cells ≠ [] → u.regs = s.regs ∧
        (∀ c ∈ s.acq.snaps, c.seq = q → Tab.get (fun _ => none) c.got (s.sourceSlot p f) = none → ∃ d ∈ u.acq.snaps,
          d.seq = q ∧ d.target = c.target ∧ Tab.get (fun _ => none) d.got (s.sourceSlot p f) =
            some ⟨armed, late, retrain, signed 24 mt, temps.map (signed 16), cells⟩) ∧
        (∀ c ∈ s.acq.snaps, (c.seq ≠ q ∨ Tab.get (fun _ => none) c.got (s.sourceSlot p f) ≠ none) → c ∈ u.acq.snaps)) ∧
      ((s.snapOpen q = false ∨ (s.acqSlot (s.sourceSlot p f)).inService = false ∨ (s.acqSlot (s.sourceSlot p f)).ncell = 0 ∨
          (s.acqSlot (s.sourceSlot p f)).ncell ≠ cells.length) →
        u.acq = s.acq ∧ u.flag F.ACQ_STS_LATE_SNAPR = true) ∧
      (s.snapOpen q = true → (s.acqSlot (s.sourceSlot p f)).inService = true → (s.acqSlot (s.sourceSlot p f)).ncell ≠ 0 →
        (s.acqSlot (s.sourceSlot p f)).ncell ≠ cells.length → u.flag F.ACQ_STS_NCELL_MISMATCH = true))

/-- R115, R121, R123, R124, R141: codes and faults of the modulators, and the close of a snapshot. -/
def Obligations.CodesAreTakenAndSnapshotsClose : Prop :=
  (∀ (t n q : Nat) (code : Int) (s : State), n < 2 → Completes (.modCodeReady t n q code) s fun u =>
    Touches [.dial, .time, .acq] s u ∧ u.acq.slots = s.acq.slots ∧ u.acq.mods = s.acq.mods ∧
    (∀ c ∈ s.acq.snaps, (c.seq ≠ q ∨ (s.at t).dial < (s.at t).spanEnd n c) → c ∈ u.acq.snaps) ∧
    ∀ c ∈ s.acq.snaps, c.seq = q → (s.at t).spanEnd n c ≤ (s.at t).dial → ∃ d ∈ u.acq.snaps, d.seq = q ∧ d.target = c.target ∧ d.got = c.got ∧
      (if n = 0 then d.code0 else d.code1).map (·.1) = some (clampI (-0x7FFFFF) 0x7FFFFF code) ∧
      (if n = 0 then d.code1 else d.code0) = (if n = 0 then c.code1 else c.code0) ∧
      ((s.modSt n).fault = false → (if n = 0 then d.code0 else d.code1).map (·.2) = some true)) ∧
  (∀ (t n : Nat) (s : State), n < 2 → Completes (.modFault t n) s fun u =>
    Touches [.dial, .time, .regs, .acq] s u ∧ SameRegs [Reg.ACQ_STS] s u ∧ (u.modSt n).fault = true ∧ u.flag (modFaultFld n) = true ∧
    u.flag (modFaultFld n).live = true ∧ u.modSt (1 - n) = s.modSt (1 - n) ∧
    ((s.modSt n).fault = false → (u.modSt n).faultAt = (s.at t).dial)) ∧
  ∀ (t q : Nat) (s : State),
    ((∀ c ∈ s.acq.snaps, c.seq ≠ q) → Completes (.snapshotClose t q) s fun u => Touches [.dial, .time] s u) ∧
    ∀ c : Snap, s.acq.snaps.find? (fun c => c.seq == q) = some c →
      ((s.at t).mayClose c = false → Completes (.snapshotClose t q) s fun u => Touches [.dial, .time] s u) ∧
      ((s.at t).mayClose c = true → Completes (.snapshotClose t q) s fun u => (∀ d ∈ u.acq.snaps, d.seq ≠ q) ∧
        (∀ d ∈ s.acq.snaps, d.seq ≠ q → d ∈ u.acq.snaps) ∧ u.acq.lastSeq = q ∧ u.acq.lastTgt = c.target ∧
        ((∀ x : Nat, (c.serial <|> (s.epochOf c.target).map (·.serial)) = some x → x = s.acq.serial) → ∀ k < 48, (s.acqSlot k).ncell ≠ 0 →
          (∀ r : SnaprRec, Tab.get (fun _ => none) c.got k = some r → (u.acqSlot k).last = some r ∧ (u.acqSlot k).missed = 0 ∧
            (u.acqSlot k).silent = false ∧ (u.acqSlot k).lastTarget = c.target) ∧
          (Tab.get (fun _ => none) c.got k = none → (s.acqSlot k).inService = true → (u.acqSlot k).missed = (s.acqSlot k).missed + 1 ∧
            (15 ≤ (s.acqSlot k).missed → (u.acqSlot k).silent = true))))

/-- R133, R135 to R137, R109: open-wire tests from their decision to the end of their window, and APPLY. -/
def Obligations.OpenWireTestsAndApply : Prop :=
  (∀ (t k : Nat) (x : OwTest) (s : State), (s.acqSlot k).test = some x →
    (((x.s0 ≤ (s.at t).dial ∧ x.respOk = false) ∨ noTestSnap (s.at t).dial x = true) →
      Completes (.owTestAbandon t k) s fun u => Touches [.dial, .time, .regs, .trv, .acq, .bal] s u ∧
        (∀ y : OwTest, (u.acqSlot k).test = some y → y.s0 = nextWholeMs ((s.at t).dial) ∧ y.respOk = false ∧ y.decided = false) ∧
        ((s.acqSlot k).inService = true → (s.acqSlot k).last.isSome = true → (s.acqSlot k).sweep = true → (s.acqSlot k).sweepOdd = false →
          ∃ y : OwTest, (u.acqSlot k).test = some y ∧ y.use = .sweepEven ∧ y.mask = wireMask (s.acqSlot k).ncell 0) ∧
        ((s.acqSlot k).inService = false → (u.acqSlot k).test = none)) ∧
    (((s.at t).dial < x.s0 ∨ x.respOk = true) → noTestSnap (s.at t).dial x = false →
      Completes (.owTestAbandon t k) s fun u => Touches [.dial, .time] s u) ∧
    (∀ f : Nat, x.fin = some f → x.decided = true → f ≤ (s.at t).dial → Completes (.owTestWindowEnd t k) s fun u =>
      Touches [.dial, .time, .regs, .trv, .acq, .bal] s u ∧
      (x.use = .sweepEven → (u.acqSlot k).sweepOdd = true ∧ (u.acqSlot k).sweep = (s.acqSlot k).sweep ∧
        ((s.acqSlot k).sweep = true → (s.acqSlot k).inService = true → (s.acqSlot k).last.isSome = true →
          ∃ y : OwTest, (u.acqSlot k).test = some y ∧ y.use = .sweepOdd ∧ y.mask = wireMask (s.acqSlot k).ncell 1)) ∧
      (x.use = .sweepOdd → (u.acqSlot k).sweep = false)) ∧
    ((x.decided = false ∨ ∀ f : Nat, x.fin = some f → (s.at t).dial < f) → Completes (.owTestWindowEnd t k) s fun u => Touches [.dial, .time] s u)) ∧
  (∀ (t : Nat) (m : Master) (v : Word) (s : State), Completes (.owRetestGo t m v) s fun u =>
    Touches [.dial, .time, .regs, .trv, .acq, .bal] s u ∧ u.fld F.ACQ_OWCMD_TILE = getBits v 16 6 ∧
    (v.getLsbD 0 = false → u.acq = s.acq ∧ SameRegs [Reg.ACQ_OWCMD] s u) ∧
    (v.getLsbD 0 = true → getBits v 16 6 < 48 → (u.acqSlot (getBits v 16 6)).retest = s.owCnf (getBits v 16 6))) ∧
  ∀ (t : Nat) (m : Master) (v : Word) (s : State), Completes (.acqApply t m v) s fun u =>
    u.fld F.ACQ_CTL_NPOS = getBits v 16 10 ∧
    (v.getLsbD 0 = false → Touches [.dial, .time, .regs] s u ∧ SameRegs [Reg.ACQ_CTL] s u) ∧
    (v.getLsbD 0 = true → (s.setFld F.ACQ_CTL_NPOS (getBits v 16 10)).applyOk = false →
      Touches [.dial, .time, .regs] s u ∧ SameRegs [Reg.ACQ_CTL, Reg.ACQ_STS] s u ∧ u.flag F.ACQ_STS_CFG_ERR = true) ∧
    (v.getLsbD 0 = true → (s.setFld F.ACQ_CTL_NPOS (getBits v 16 10)).applyOk = true →
      u.acq.npos = getBits v 16 10 ∧ (∀ i < 816, u.fld (F.BAL_RW_RW i) = s.fld F.BAL_RWINIT_RWINIT) ∧
      ∀ k < 48, u.acqSlot k = { AcqSlot.reset with
          ncell := s.fld (F.ACQ_TILECFG_NCELL k), basep := s.fld (F.ACQ_TILECFG_BASEP k), tmap := (s.word (Reg.ACQ_TMAP k)).toNat } ∧
        u.owSus k = 0 ∧ u.owCnf k = if s.fld (F.ACQ_TILECFG_NCELL k) = 0 then 0 else s.owCnf k % 2 ^ (s.fld (F.ACQ_TILECFG_NCELL k) + 1))

/-! ## Balancing (10_balancing.md) -/

/-- R259 to R262, R264, R267, R268: phases, refreshes and the plan. -/
def Obligations.PhasesStartStopAndSendMasks : Prop :=
  (∀ (t ph s0 : Nat) (fin : Option Nat) (rest : List (Option Nat × Nat × Option Nat)) (s : State),
    s.bal.next = (some ph, s0, fin) :: rest → ph < 2 →
    (s0 ≤ (s.at t).dial → Completes (.balPhaseEffect t) s fun u => Touches [.dial, .time, .regs, .trv, .bal] s u ∧
      OnlyBlocks [Block.trv, Block.bal] s u ∧ u.bal.phase = some ph ∧ u.bal.s0 = s0 ∧ u.bal.fin = fin ∧ u.bal.lastPh = some ph ∧
      u.bal.next = rest ∧ u.bal.sentAt = (s.at t).dial ∧ u.fld F.BAL_MODE_PHASE = ph + 1 ∧ u.fld F.BAL_MODE_LASTPH = ph ∧
      ∀ k < 48, (s.activeRole = true → s.updPaused = false → (s.acqSlot k).inService = true →
          (u.balSlot k).cmdMask = maskOf ((s.at t).phaseInputs k ph) ∧ (u.balSlot k).cmdS = s0 ∧ (u.balSlot k).cmdEnd = fin ∧
            u.fld (F.BAL_TILE_ONMASK k) = maskOf ((s.at t).phaseInputs k ph)) ∧
        ((s.activeRole = false ∨ s.updPaused = true ∨ (s.acqSlot k).inService = false) → u.balSlot k = s.balSlot k)) ∧
    ((s.at t).dial < s0 → Completes (.balPhaseEffect t) s fun u => Touches [.dial, .time] s u)) ∧
  (∀ (t s0 : Nat) (fin : Option Nat) (rest : List (Option Nat × Nat × Option Nat)) (s : State),
    s.bal.next = (none, s0, fin) :: rest → s0 ≤ (s.at t).dial →
    Completes (.balPhaseEffect t) s fun u => u.bal.phase = none ∧ u.bal.fin = none ∧ u.bal.next = rest ∧ u.fld F.BAL_MODE_PHASE = 0 ∧
      u.bal.lastPh = s.bal.lastPh ∧ ∀ k < 48, s.activeRole = true → s.updPaused = false → (s.acqSlot k).inService = true →
        (u.balSlot k).cmdMask = 0 ∧ u.fld (F.BAL_TILE_ONMASK k) = 0) ∧
  (∀ (t ph e : Nat) (s : State), s.bal.phase = some ph → s.bal.fin = some e →
    (e ≤ (s.at t).dial → Completes (.balPhaseEnd t) s fun u => Touches [.dial, .time, .regs, .bal] s u ∧ SameRegs [Reg.BAL_MODE] s u ∧
      u.bal.phase = none ∧ u.bal.fin = none ∧ u.fld F.BAL_MODE_PHASE = 0) ∧
    ((s.at t).dial < e → Completes (.balPhaseEnd t) s fun u => Touches [.dial, .time] s u)) ∧
  (∀ (t : Nat) (s : State), s.bal.next = [] → Completes (.balPhaseEffect t) s fun u => Touches [.dial, .time] s u) ∧
  (∀ (t ph : Nat) (s : State), s.bal.phase = some ph → s.bal.sentAt + 1000000000 ≤ (s.at t).dial →
    (∀ e : Nat, s.bal.fin = some e → (s.at t).dial < e) → Completes (.balsetRefresh t) s fun u => u.bal.sentAt = (s.at t).dial ∧
    Touches [.dial, .time, .regs, .trv, .bal] s u ∧ u.bal.phase = some ph ∧ u.bal.fin = s.bal.fin ∧
    ∀ k < 48, s.activeRole = true → s.updPaused = false → (s.acqSlot k).inService = true →
      (u.balSlot k).cmdMask = maskOf ((s.at t).phaseInputs k ph) ∧ (u.balSlot k).cmdS = (s.at t).dial + 200000) ∧
  (∀ (t : Nat) (s : State), (s.bal.phase = none ∨ (s.at t).dial < s.bal.sentAt + 1000000000 ∨
      ∃ e : Nat, s.bal.fin = some e ∧ e ≤ (s.at t).dial) → Completes (.balsetRefresh t) s fun u => Touches [.dial, .time] s u) ∧
  (∀ (t : Nat) (s : State), s.flag F.BAL_CTL_EN = true → Completes (.balPlan t) s fun u => Touches [.dial, .time, .bal] s u ∧
    (∀ p ∈ u.bal.cand, p < s.acq.npos ∧ (s.at t).eligible p = true) ∧
    ∀ k < 48, ∀ j ∈ (u.balSlot k).cands, j ∈ (u.balSlot k).order ∧ j < (s.acqSlot k).ncell ∧ (s.acqSlot k).basep + j ∈ u.bal.cand) ∧
  (∀ (t : Nat) (s : State), s.flag F.BAL_CTL_EN = false → Completes (.balPlan t) s fun u => Touches [.dial, .time] s u) ∧
  (∀ (t : Nat) (s : State), (∃ a : Nat, s.bal.pollAt = some a ∧ (s.at t).dial < a + 1000000000) →
    Completes (.dieTemperaturePoll t) s fun u => Touches [.dial, .time] s u) ∧
  (∀ (t : Nat) (s : State), (∀ a : Nat, s.bal.pollAt = some a → a + 1000000000 ≤ (s.at t).dial) →
    Completes (.dieTemperaturePoll t) s fun u => Touches [.dial, .time, .regs, .trv, .bal] s u ∧ u.bal.pollAt = some (s.at t).dial ∧
    OnlyBlocks [Block.trv, Block.bal] s u ∧ ∀ k < 48, (s.acqSlot k).inService = true →
      (u.balSlot k).nmax = s.nmaxFor (s.acqSlot k).ncell (s.balSlot k).td ∧ ((s.balSlot k).td = none → (u.balSlot k).nmax = 0) ∧
      ∃ d < 2, ∃ o ∈ (u.port (2 * slotRing k + d)).outst, o.use = .dieTemp k ∧ o.frame.body = .cmd 0x22 [0, 0, 0]) ∧
  ∀ (t k : Nat) (s : State), k < 48 →
    ((s.balSlot k).unsure = true → (s.balSlot k).okAt + 2000000000 ≤ (s.at t).dial → Completes (.unsureExpiry t k) s fun u =>
      Touches [.dial, .time, .regs, .bal] s u ∧ SameRegs [Reg.BAL_TILE k] s u ∧ (u.balSlot k).unsure = false ∧
      u.fld (F.BAL_TILE_UNSURE k) = 0) ∧
    (((s.balSlot k).unsure = false ∨ (s.at t).dial < (s.balSlot k).okAt + 2000000000) →
      Completes (.unsureExpiry t k) s fun u => Touches [.dial, .time] s u)

/-! ## Almanac: the instructions (05_almanac_isa.md) -/

/-- R148, R149, Table 5-4: the register and immediate formats of arithmetic. -/
def Obligations.ArithmeticGivesResultAndFlags : Prop :=
  ∀ (t w d a b c : Nat) (s : State),
    (Issues (.almAdd t w d a b) w (s.at t) → Completes (.almAdd t w d a b) s (AluEffect w d (s.greg w a + s.greg w b)
      (decide (2 ^ 32 ≤ (s.greg w a).toNat + (s.greg w b).toNat))
      (decide ((s.greg w a).toInt + (s.greg w b).toInt < -2 ^ 31 ∨ 2 ^ 31 ≤ (s.greg w a).toInt + (s.greg w b).toInt)) s)) ∧
    (Issues (.almSub t w d a b) w (s.at t) → Completes (.almSub t w d a b) s (AluEffect w d (s.greg w a - s.greg w b)
      (decide ((s.greg w a).toNat < (s.greg w b).toNat))
      (decide ((s.greg w a).toInt - (s.greg w b).toInt < -2 ^ 31 ∨ 2 ^ 31 ≤ (s.greg w a).toInt - (s.greg w b).toInt)) s)) ∧
    (Issues (.almAnd t w d a b) w (s.at t) → Completes (.almAnd t w d a b) s (AluEffect w d (s.greg w a &&& s.greg w b) false false s)) ∧
    (Issues (.almOr t w d a b) w (s.at t) → Completes (.almOr t w d a b) s (AluEffect w d (s.greg w a ||| s.greg w b) false false s)) ∧
    (Issues (.almXor t w d a b) w (s.at t) → Completes (.almXor t w d a b) s (AluEffect w d (s.greg w a ^^^ s.greg w b) false false s)) ∧
    (Issues (.almSll t w d a b) w (s.at t) → Completes (.almSll t w d a b) s
      (AluEffect w d (s.greg w a <<< ((s.greg w b).toNat % 32)) false false s)) ∧
    (Issues (.almSrl t w d a b) w (s.at t) → Completes (.almSrl t w d a b) s
      (AluEffect w d (s.greg w a >>> ((s.greg w b).toNat % 32)) false false s)) ∧
    (Issues (.almSra t w d a b) w (s.at t) → Completes (.almSra t w d a b) s
      (AluEffect w d ((s.greg w a).sshiftRight ((s.greg w b).toNat % 32)) false false s)) ∧
    (Issues (.almMul t w d a b) w (s.at t) → Completes (.almMul t w d a b) s (AluEffect w d (s.greg w a * s.greg w b) false
      (decide ((s.greg w a).toInt * (s.greg w b).toInt < -2 ^ 31 ∨ 2 ^ 31 ≤ (s.greg w a).toInt * (s.greg w b).toInt)) s)) ∧
    (Issues (.almMulh t w d a b) w (s.at t) → Completes (.almMulh t w d a b) s
      (AluEffect w d (((s.greg w a).signExtend 64 * (s.greg w b).signExtend 64).extractLsb' 32 32) false false s)) ∧
    (Issues (.almMin t w d a b) w (s.at t) → Completes (.almMin t w d a b) s
      (AluEffect w d (if (s.greg w a).toInt ≤ (s.greg w b).toInt then s.greg w a else s.greg w b) false false s)) ∧
    (Issues (.almMax t w d a b) w (s.at t) → Completes (.almMax t w d a b) s
      (AluEffect w d (if (s.greg w a).toInt ≤ (s.greg w b).toInt then s.greg w b else s.greg w a) false false s)) ∧
    (Issues (.almClamp t w d a b c) w (s.at t) → ∃ r : Word, Completes (.almClamp t w d a b c) s (AluEffect w d r (r != s.greg w a) false s) ∧
      r.toInt = min (max (s.greg w a).toInt (s.greg w b).toInt) (s.greg w c).toInt) ∧
    (b < 2 ^ 18 → Issues (.almAddi t w d a b) w (s.at t) → Completes (.almAddi t w d a b) s
      (AluEffect w d (s.greg w a + (BitVec.ofNat 18 b).signExtend 32)
        (decide (2 ^ 32 ≤ (s.greg w a).toNat + ((BitVec.ofNat 18 b).signExtend 32).toNat))
        (decide ((s.greg w a).toInt + (BitVec.ofNat 18 b).toInt < -2 ^ 31 ∨ 2 ^ 31 ≤ (s.greg w a).toInt + (BitVec.ofNat 18 b).toInt)) s)) ∧
    (b < 2 ^ 18 → Issues (.almAndi t w d a b) w (s.at t) → Completes (.almAndi t w d a b) s
      (AluEffect w d (s.greg w a &&& BitVec.ofNat 32 b) false false s)) ∧
    (b < 2 ^ 18 → Issues (.almOri t w d a b) w (s.at t) → Completes (.almOri t w d a b) s
      (AluEffect w d (s.greg w a ||| BitVec.ofNat 32 b) false false s)) ∧
    (b < 32 → Issues (.almSlli t w d a b) w (s.at t) → Completes (.almSlli t w d a b) s (AluEffect w d (s.greg w a <<< b) false false s)) ∧
    (b < 32 → Issues (.almSrli t w d a b) w (s.at t) → Completes (.almSrli t w d a b) s (AluEffect w d (s.greg w a >>> b) false false s)) ∧
    (b < 32 → Issues (.almSrai t w d a b) w (s.at t) → Completes (.almSrai t w d a b) s (AluEffect w d ((s.greg w a).sshiftRight b) false false s)) ∧
    (b < 2 ^ 18 → Issues (.almLui t w d b) w (s.at t) → Completes (.almLui t w d b) s fun u =>
      Touches [.dial, .time, .alm, .pmc] s u ∧ LoadEffect w d (BitVec.ofNat 32 (b * 2 ^ 14)) s u)

/-- R151, R152, R154, R155, R161: loads, stores and reads of the time bases, and their faults; of accesses to a word in one FAB cycle that of the lower
watch is served first. R148, R150: branches and jumps. -/
def Obligations.LoadsStoresBranchesAndJumps : Prop :=
  (∀ (t w d a imm : Nat) (s : State), imm < 2 ^ 18 →
     (Issues (.almLdw t w d a imm) w (s.at t) →
       ((dataAddr s w a imm).toNat % 4 = 0 → (dataAddr s w a imm).toNat ≤ 0x1FFFF → s.alm.accCyc ≠ (s.at t).fab →
         Completes (.almLdw t w d a imm) s fun u =>
           Touches [.dial, .time, .alm, .pmc] s u ∧ LoadEffect w d (s.dmRead ((dataAddr s w a imm).toNat / 4)) s u) ∧
       ((dataAddr s w a imm).toNat % 4 ≠ 0 ∨ 0x1FFFF < (dataAddr s w a imm).toNat → Completes (.almLdw t w d a imm) s (FaultsAt w 4 s))) ∧
     (Issues (.almStw t w d a imm) w (s.at t) →
       ((dataAddr s w a imm).toNat % 4 = 0 → (dataAddr s w a imm).toNat ≤ 0x1FFFF → s.alm.accCyc ≠ (s.at t).fab →
         Completes (.almStw t w d a imm) s fun u =>
           Touches [.dial, .time, .alm, .pmc] s u ∧ u.watch w = { s.watch w with pc := ((s.watch w).pc + 1) % 2 ^ 16 } ∧
           (∀ k : Nat, k ≠ w → u.watch k = s.watch k) ∧ u.alm.pmem = s.alm.pmem ∧
           (∀ k : Nat, u.dmRead k = if k = (dataAddr s w a imm).toNat / 4 then s.greg w d else s.dmRead k) ∧
           ∀ x e b i : Nat, i < 2 ^ 18 → x ≠ w → Issues (.almLdw t x e b i) x (u.at t) → (dataAddr s x b i) = (dataAddr s w a imm) →
             Completes (.almLdw t x e b i) u fun v => LoadEffect x e (if w < x then s.greg w d else s.dmRead ((dataAddr s w a imm).toNat / 4)) u v) ∧
       ((dataAddr s w a imm).toNat % 4 ≠ 0 ∨ 0x1FFFF < (dataAddr s w a imm).toNat → Completes (.almStw t w d a imm) s (FaultsAt w 4 s))) ∧
     (Issues (.almLds t w d a imm) w (s.at t) →
       ((dataAddr s w a imm).toNat % 4 = 0 → inSpace (dataAddr s w a imm).toNat = true → Completes (.almLds t w d a imm) s fun u =>
         Touches [.dial, .time, .alm, .pmc, .regs] s u ∧ OnlyBlocks [Block.pmc] s u ∧
         LoadEffect w d (s.spaceRead (s.word (Reg.SYS_AWAIT 2)) ((dataAddr s w a imm).toNat / 4)) s u) ∧
       ((dataAddr s w a imm).toNat % 4 ≠ 0 ∨ inSpace (dataAddr s w a imm).toNat = false → Completes (.almLds t w d a imm) s (FaultsAt w 5 s))) ∧
     (∀ tb : Nat, tb < 8 → Issues (.almRdt t w d 0 tb) w (s.at t) →
       (tb < 6 → Completes (.almRdt t w d 0 tb) s fun u => Touches [.dial, .time, .alm, .pmc] s u ∧
         Retires w (fun x => { x.put d (BitVec.ofNat 32 ((s.at t).shortTime tb)) with
           pc := (x.pc + 1) % 2 ^ 16, tlatch := (s.at t).shortTime tb / 2 ^ 32 % 256 }) s u) ∧
       (6 ≤ tb → Completes (.almRdt t w d 0 tb) s (FaultsAt w 2 s))) ∧
     (Issues (.almRdt t w d 1 0) w (s.at t) → Completes (.almRdt t w d 1 0) s fun u => Touches [.dial, .time, .alm, .pmc] s u ∧
       LoadEffect w d (BitVec.ofNat 32 (s.watch w).tlatch) s u) ∧
     (∀ tb : Nat, tb < 8 → Issues (.almRdt t w d 2 tb) w (s.at t) →
       (tb = 2 → Completes (.almRdt t w d 2 tb) s fun u => LoadEffect w d (s.word Reg.TIME_CARRIER) s u) ∧
       (3 ≤ tb → tb ≤ 5 → Completes (.almRdt t w d 2 tb) s fun u => LoadEffect w d (BitVec.ofNat 32 ((s.can1 (tb - 3)).cycle % 64)) s u) ∧
       (tb < 2 → Completes (.almRdt t w d 2 tb) s (FaultsAt w 1 s)) ∧ (6 ≤ tb → Completes (.almRdt t w d 2 tb) s (FaultsAt w 2 s))) ∧
     (Issues (.almRdt t w d 3 0) w (s.at t) → Completes (.almRdt t w d 3 0) s fun u => Touches [.dial, .time, .alm, .pmc] s u ∧
       Retires w (fun x => { x.put d (if (s.watch w).late then 1 else 0) with pc := (x.pc + 1) % 2 ^ 16, late := false }) s u)) ∧
  (∀ (t w a b tgt : Nat) (s : State), tgt < 2 ^ 16 →
     (Issues (.almBeq t w a b tgt) w (s.at t) → Completes (.almBeq t w a b tgt) s
       (GoesTo w (if s.greg w a = s.greg w b then tgt else ((s.watch w).pc + 1) % 2 ^ 16) s)) ∧
     (Issues (.almBne t w a b tgt) w (s.at t) → Completes (.almBne t w a b tgt) s
       (GoesTo w (if s.greg w a ≠ s.greg w b then tgt else ((s.watch w).pc + 1) % 2 ^ 16) s)) ∧
     (Issues (.almBlt t w a b tgt) w (s.at t) → Completes (.almBlt t w a b tgt) s
       (GoesTo w (if (s.greg w a).toInt < (s.greg w b).toInt then tgt else ((s.watch w).pc + 1) % 2 ^ 16) s)) ∧
     (Issues (.almBge t w a b tgt) w (s.at t) → Completes (.almBge t w a b tgt) s
       (GoesTo w (if (s.greg w b).toInt ≤ (s.greg w a).toInt then tgt else ((s.watch w).pc + 1) % 2 ^ 16) s)) ∧
     (Issues (.almBltu t w a b tgt) w (s.at t) → Completes (.almBltu t w a b tgt) s
       (GoesTo w (if (s.greg w a).toNat < (s.greg w b).toNat then tgt else ((s.watch w).pc + 1) % 2 ^ 16) s)) ∧
     (Issues (.almBgeu t w a b tgt) w (s.at t) → Completes (.almBgeu t w a b tgt) s
       (GoesTo w (if (s.greg w b).toNat ≤ (s.greg w a).toNat then tgt else ((s.watch w).pc + 1) % 2 ^ 16) s)) ∧
     (∀ f : Nat, f < 4 → Issues (.almBfs t w f tgt) w (s.at t) → Completes (.almBfs t w f tgt) s
       (GoesTo w (if [(s.watch w).z, (s.watch w).n, (s.watch w).c, (s.watch w).v].getD f false then tgt else ((s.watch w).pc + 1) % 2 ^ 16) s)) ∧
     (∀ f : Nat, f < 4 → Issues (.almBfc t w f tgt) w (s.at t) → Completes (.almBfc t w f tgt) s
       (GoesTo w (if [(s.watch w).z, (s.watch w).n, (s.watch w).c, (s.watch w).v].getD f false then ((s.watch w).pc + 1) % 2 ^ 16 else tgt) s)) ∧
     (Issues (.almJal t w a tgt) w (s.at t) → Completes (.almJal t w a tgt) s fun u =>
       Touches [.dial, .time, .alm, .pmc, .regs] s u ∧ OnlyBlocks [Block.pmc] s u ∧
       Retires w (fun x => { x.put a (BitVec.ofNat 32 ((x.pc + 1) % 2 ^ 16)) with pc := tgt }) s u) ∧
     (Issues (.almJr t w a) w (s.at t) → Completes (.almJr t w a) s (GoesTo w ((s.greg w a).toNat % 2 ^ 16) s)))

/-- R156: AT, ATR and TCMP. R164, R167, R169 to R171, R39, R41: messages and the untimed command ports. -/
def Obligations.TargetsMessagesAndPorts : Prop :=
  (∀ (t w b scale ofs : Nat) (s : State), scale < 4 → ofs < 2 ^ 20 →
     (∀ tb : Nat, tb < 2 → Issues (.almAt t w tb b scale ofs) w (s.at t) → Completes (.almAt t w tb b scale ofs) s fun u =>
       Touches [.dial, .time, .alm, .pmc] s u ∧ Retires w (fun x => { x with pc := (x.pc + 1) % 2 ^ 16, ltBase := tb, lt := (ext40 (s.greg w b) ((s.at t).shortTime tb) + ofs * [1, 16, 1000, 1000000].getD scale 0) % 2 ^ 40 }) s u) ∧
     (Issues (.almAt t w 2 b scale ofs) w (s.at t) →
       (ofs * [1, 16, 1000, 1000000].getD scale 0 ≤ 131071 → Completes (.almAt t w 2 b scale ofs) s fun u =>
         Touches [.dial, .time, .alm, .pmc] s u ∧ Retires w (fun x => { x with pc := (x.pc + 1) % 2 ^ 16, ltBase := 2, lt := (s.greg w b).toNat % 2 ^ 23 * 2 ^ 17 + ofs * [1, 16, 1000, 1000000].getD scale 0 }) s u) ∧
       (131071 < ofs * [1, 16, 1000, 1000000].getD scale 0 → Completes (.almAt t w 2 b scale ofs) s (FaultsAt w 3 s))) ∧
     (∀ tb : Nat, 3 ≤ tb → tb ≤ 5 → Issues (.almAt t w tb b scale ofs) w (s.at t) →
       (ofs * [1, 16, 1000, 1000000].getD scale 0 < 2 ^ 34 → Completes (.almAt t w tb b scale ofs) s fun u =>
         Touches [.dial, .time, .alm, .pmc] s u ∧ Retires w (fun x => { x with pc := (x.pc + 1) % 2 ^ 16, ltBase := tb, lt := (s.greg w b).toNat % 64 * 2 ^ 34 + ofs * [1, 16, 1000, 1000000].getD scale 0 }) s u) ∧
       (2 ^ 34 ≤ ofs * [1, 16, 1000, 1000000].getD scale 0 → Completes (.almAt t w tb b scale ofs) s (FaultsAt w 3 s))) ∧
     (∀ tb : Nat, 6 ≤ tb → tb < 8 →
       (Issues (.almAt t w tb b scale ofs) w (s.at t) → Completes (.almAt t w tb b scale ofs) s (FaultsAt w 2 s)) ∧
       (Issues (.almAtr t w tb b scale ofs) w (s.at t) → Completes (.almAtr t w tb b scale ofs) s (FaultsAt w 2 s)) ∧
       (Issues (.almTcmp t w tb b scale ofs) w (s.at t) → Completes (.almTcmp t w tb b scale ofs) s (FaultsAt w 2 s))) ∧
     (∀ tb : Nat, tb < 2 → Issues (.almAtr t w tb b scale ofs) w (s.at t) →
       ((s.watch w).ltBase = tb → Completes (.almAtr t w tb b scale ofs) s fun u =>
         Touches [.dial, .time, .alm, .pmc] s u ∧ Retires w (fun x => { x with pc := (x.pc + 1) % 2 ^ 16, lt := (((x.lt : Int) + (s.greg w b).toInt + (ofs * [1, 16, 1000, 1000000].getD scale 0 : Nat)) % 2 ^ 40).toNat }) s u) ∧
       ((s.watch w).ltBase ≠ tb → Completes (.almAtr t w tb b scale ofs) s (FaultsAt w 2 s))) ∧
     (∀ tb unit top : Nat, (tb = 2 ∧ unit = 2 ^ 17 ∧ top = 2 ^ 23 ∨ 3 ≤ tb ∧ tb ≤ 5 ∧ unit = 2 ^ 34 ∧ top = 64) →
       Issues (.almAtr t w tb b scale ofs) w (s.at t) →
       ((s.watch w).ltBase = tb → ofs * [1, 16, 1000, 1000000].getD scale 0 < unit → Completes (.almAtr t w tb b scale ofs) s fun u =>
         Touches [.dial, .time, .alm, .pmc] s u ∧ Retires w (fun x => { x with pc := (x.pc + 1) % 2 ^ 16, lt := (x.lt / unit + (s.greg w b).toNat) % top * unit + ofs * [1, 16, 1000, 1000000].getD scale 0 }) s u) ∧
       ((s.watch w).ltBase = tb → unit ≤ ofs * [1, 16, 1000, 1000000].getD scale 0 →
         Completes (.almAtr t w tb b scale ofs) s (FaultsAt w 3 s)) ∧
       ((s.watch w).ltBase ≠ tb → Completes (.almAtr t w tb b scale ofs) s (FaultsAt w 2 s))) ∧
     (Issues (.almTcmp t w 2 b scale ofs) w (s.at t) →
       (ofs * [1, 16, 1000, 1000000].getD scale 0 ≤ 131071 → s.carrierRun = false → Completes (.almTcmp t w 2 b scale ofs) s fun u =>
         Touches [.dial, .time, .alm, .pmc] s u ∧
         Retires w (fun x => { x with pc := (x.pc + 1) % 2 ^ 16, c := false, v := false, z := false, n := true }) s u) ∧
       (131071 < ofs * [1, 16, 1000, 1000000].getD scale 0 → Completes (.almTcmp t w 2 b scale ofs) s (FaultsAt w 3 s))) ∧
     (∀ tb : Nat, tb < 2 → Issues (.almTcmp t w tb b scale ofs) w (s.at t) → Completes (.almTcmp t w tb b scale ofs) s fun u =>
       Touches [.dial, .time, .alm, .pmc] s u ∧ Retires w (fun x => { x with pc := (x.pc + 1) % 2 ^ 16, c := false, v := false, z := decide (dist40 (ext40 (s.greg w b) ((s.at t).shortTime tb) + ofs * [1, 16, 1000, 1000000].getD scale 0) ((s.at t).shortTime tb) = 0), n := decide (dist40 (ext40 (s.greg w b) ((s.at t).shortTime tb) + ofs * [1, 16, 1000, 1000000].getD scale 0) ((s.at t).shortTime tb) < 0) }) s u)) ∧
  (∀ (t w a b d n : Nat) (s : State),
     (∀ sel : Nat, sel < 1024 → Issues (.almPost t w sel a b) w (s.at t) →
       (ringHeld (s.fld F.HOST_POSTPI_INDEX) (s.fld F.HOST_POSTCI_INDEX) < 256 → Completes (.almPost t w sel a b) s fun u =>
         Touches [.dial, .time, .regs, .host, .alm, .pmc] s u ∧ CarryOnly w false s u ∧
         u.fld F.HOST_POSTPI_INDEX = (s.fld F.HOST_POSTPI_INDEX + 1) % 65536 ∧
         Store.getAll zeroWord u.host.postRing (4 * (s.fld F.HOST_POSTPI_INDEX % 256)) 4 =
           [BitVec.ofNat 32 (65536 * w + sel), s.greg w a, s.greg w b, BitVec.ofNat 32 ((s.at t).dial)] ∧
         (s.fld F.HOST_POSTPI_INDEX = s.fld F.HOST_POSTCI_INDEX → (u.word Reg.HOST_IRQSTS).getLsbD 3 = true)) ∧
       (256 ≤ ringHeld (s.fld F.HOST_POSTPI_INDEX) (s.fld F.HOST_POSTCI_INDEX) → Completes (.almPost t w sel a b) s fun u =>
         CarryOnly w true s u ∧ u.host = s.host ∧ u.fld F.HOST_POSTPI_INDEX = s.fld F.HOST_POSTPI_INDEX ∧ SameRegs [Reg.HOST_POSTPI] s u)) ∧
     (n < 32 → Issues (.almRing t w n) w (s.at t) →
       (n < 24 → Completes (.almRing t w n) s fun u => CarryOnly w false s u ∧ (u.word Reg.HOST_DBIN).getLsbD n = true ∧
         SameRegs [Reg.HOST_DBIN, Reg.HOST_IRQSTS] s u) ∧
       (24 ≤ n → Completes (.almRing t w n) s fun u => Touches [.dial, .time, .alm, .pmc] s u ∧ CarryOnly w true s u)) ∧
     (Issues (.almMbxSend t w a) w (s.at t) →
       (s.flag (d2hFull 3) = false → Completes (.almMbxSend t w a) s fun u => CarryOnly w false s u ∧
         u.word (Reg.HOST_D2HMBX 3) = s.greg w a ∧ u.flag (d2hFull 3) = true ∧ (u.word Reg.HOST_IRQSTS).getLsbD 1 = true) ∧
       (s.flag (d2hFull 3) = true → Completes (.almMbxSend t w a) s fun u => Touches [.dial, .time, .alm, .pmc] s u ∧ CarryOnly w true s u)) ∧
     (Issues (.almMbxReceive t w d) w (s.at t) →
       (s.flag (h2dFull 3) = true → Completes (.almMbxReceive t w d) s fun u =>
         Retires w (fun x => { x.put d (s.word (Reg.HOST_H2DMBX 3)) with pc := (x.pc + 1) % 2 ^ 16, c := false }) s u ∧
         (s.pilot.relay = [] → u.flag (h2dFull 3) = false) ∧ (u.word Reg.HOST_IRQSTS).getLsbD 1 = true) ∧
       (s.flag (h2dFull 3) = false → Completes (.almMbxReceive t w d) s fun u => Touches [.dial, .time, .alm, .pmc] s u ∧ CarryOnly w true s u)) ∧
     (n < 16 → Issues (.almStcLockAcquire t w d n) w (s.at t) →
       ((s.at t).lockHolder n = 0 → (s.at t).lockWinner 3 n = 3 → Completes (.almStcLockAcquire t w d n) s fun u =>
         Touches [.dial, .time, .ep, .alm, .pmc] s u ∧ u.lockOwner n = 3 ∧
         Retires w (fun x => { x.put d 0 with pc := (x.pc + 1) % 2 ^ 16, c := false }) s u) ∧
       ((s.at t).lockHolder n = 0 → (s.at t).lockWinner 3 n ≠ 3 → Completes (.almStcLockAcquire t w d n) s fun u =>
         Touches [.dial, .time, .ep, .alm, .pmc] s u ∧ u.lockOwner n = (s.at t).lockWinner 3 n ∧ u.lockOwner n < 3 ∧
         Retires w (fun x => { x.put d (BitVec.ofNat 32 (2 ^ 31 + u.lockOwner n)) with pc := (x.pc + 1) % 2 ^ 16, c := true }) s u) ∧
       ((s.at t).lockHolder n = 3 → Completes (.almStcLockAcquire t w d n) s fun u => Touches [.dial, .time, .alm, .pmc] s u ∧
         Retires w (fun x => { x.put d 0 with pc := (x.pc + 1) % 2 ^ 16, c := false }) s u) ∧
       ((s.at t).lockHolder n ≠ 0 → (s.at t).lockHolder n ≠ 3 → (s.at t).lockHolder n < 8 → Completes (.almStcLockAcquire t w d n) s fun u =>
         Touches [.dial, .time, .alm, .pmc] s u ∧
         Retires w (fun x => { x.put d (BitVec.ofNat 32 (2 ^ 31 + (s.at t).lockHolder n)) with pc := (x.pc + 1) % 2 ^ 16, c := true }) s u)) ∧
     (n < 16 → Issues (.almStcLockRelease t w n) w (s.at t) →
       (s.lockOwner n = 3 → Completes (.almStcLockRelease t w n) s fun u =>
         Touches [.dial, .time, .ep, .alm, .pmc] s u ∧ u.lockOwner n = 0 ∧ CarryOnly w false s u) ∧
       (s.lockOwner n ≠ 3 → Completes (.almStcLockRelease t w n) s fun u => Touches [.dial, .time, .regs, .alm, .pmc] s u ∧
         u.flag F.SYS_EPOCHSTS_LOCK_ERR = true ∧ CarryOnly w true s u)) ∧
     (Issues (.almStcAwait t w a) w (s.at t) → Completes (.almStcAwait t w a) s fun u => Touches [.dial, .time, .regs, .alm, .pmc] s u ∧
       SameRegs [Reg.SYS_AWAIT 2] s u ∧ u.word (Reg.SYS_AWAIT 2) = s.greg w a ∧ CarryOnly w false s u))

/-- R158, R162, R163, R174, R547: waits, their ends, and FENCE. R145, R146, R160, R172 to R176: threads and faults. -/
def Obligations.WatchesWaitStartStopAndFault : Prop :=
  ((∀ (t w d arg : Nat) (s : State),
     (∀ cls : Nat, (cls = 2 ∨ cls = 3 ∨ cls = 6) → (Instr.almWaitev t w d false cls arg).wf = true →
       Issues (.almWaitev t w d false cls arg) w (s.at t) → Completes (.almWaitev t w d false cls arg) s fun u =>
       Touches [.dial, .time, .alm, .pmc] s u ∧ Retires w (fun x => { x with pc := (x.pc + 1) % 2 ^ 16, st := .waiting, wait := some ⟨.event d cls arg false, arg + 1, (s.at t).tgtConv x.ltBase x.lt, none, (s.at t).fab + 1, false⟩ }) s u) ∧
     (Issues (.almWaitev t w d false 1 0) w (s.at t) → Completes (.almWaitev t w d false 1 0) s fun u => Touches [.dial, .time, .alm, .pmc] s u ∧
       ((s.watch w).slots = [] → Retires w (fun x => { x with pc := (x.pc + 1) % 2 ^ 16, st := .ready, wait := none, c := false }) s u) ∧
       ((s.watch w).slots ≠ [] → (u.watch w).st = .waiting ∧ (u.watch w).c = (s.watch w).c)) ∧
     (arg < 4096 → Issues (.almWaitev t w d false 4 arg) w (s.at t) → Completes (.almWaitev t w d false 4 arg) s fun u =>
       Touches [.dial, .time, .alm, .pmc] s u ∧
       (s.carrierRun = false → Retires w (fun x => { x with pc := (x.pc + 1) % 2 ^ 16, st := .ready, wait := none, c := true }) s u) ∧
       (s.carrierRun = true → (u.watch w).st = .waiting ∧ (u.watch w).wait.map (·.left) = some (arg + 1))) ∧
     (arg < 64 → Issues (.almWaitev t w d false 5 arg) w (s.at t) → Completes (.almWaitev t w d false 5 arg) s fun u =>
       (s.flag (evFld arg) = true → u.flag (evFld arg) = false ∧ SameRegs [(evFld arg).reg] s u ∧
         Retires w (fun x => { x.put d (BitVec.ofNat 32 arg) with pc := (x.pc + 1) % 2 ^ 16, st := .ready, wait := none, c := false }) s u) ∧
       (s.flag (evFld arg) = false → (s.at t).evWokeNow arg = true → u.flag (evFld arg) = false ∧ (u.watch w).st = .ready) ∧
       (s.flag (evFld arg) = false → (s.at t).evWokeNow arg = false → Touches [.dial, .time, .alm, .pmc] s u ∧
         (u.watch w).st = .waiting)) ∧
     ((s.watch w).ltBase = 0 → Issues (.almWaitev t w d false 0 0) w (s.at t) → Completes (.almWaitev t w d false 0 0) s fun u =>
       (dist40 (s.watch w).lt ((s.at t).shortTime 0) < 0 → (u.watch w).st = .ready ∧ (u.watch w).late = true ∧ (u.watch w).c = false ∧
         u.flag F.ALM_STS_LATE = true ∧ (d % 16 ≠ 0 → u.greg w d = BitVec.ofNat 32 (s.watch w).lt)) ∧
       (0 < dist40 (s.watch w).lt ((s.at t).shortTime 0) → (u.watch w).st = .waiting ∧ (u.watch w).late = (s.watch w).late)) ∧
     (∀ cls : Nat, (cls = 2 ∨ cls = 3 ∨ cls = 6) → (s.watch w).ltBase = 0 → dist40 (s.watch w).lt ((s.at t).shortTime 0) < 0 →
       (Instr.almWaitev t w d true cls arg).wf = true → Issues (.almWaitev t w d true cls arg) w (s.at t) → Completes (.almWaitev t w d true cls arg) s fun u =>
         (u.watch w).st = .ready ∧ (u.watch w).c = true ∧ (u.watch w).late = true ∧ u.greg w d = s.greg w d)) ∧
   (∀ (t w rd cls arg left ar : Nat) (tmo la : Bool) (a : Option Nat) (s : State),
     (∀ m : Met, (s.watch w).wait = some ⟨.event rd cls arg tmo, left, a, some m, ar, la⟩ → Completes (.almWaitevWake t w) s fun u =>
       (u.watch w).st = .ready ∧ (u.watch w).wait = none ∧ (u.watch w).c = m.c ∧ (u.watch w).pc = (s.watch w).pc ∧
       (u.watch w).late = (m.late || (s.watch w).late) ∧ (∀ v : Word, m.gd = some v → rd % 16 ≠ 0 → u.greg w rd = v) ∧
       (m.gd = none → (u.watch w).g = (s.watch w).g) ∧ ∀ k : Nat, k ≠ w → u.watch k = s.watch k) ∧
     ((s.watch w).wait = some ⟨.event rd cls arg tmo, left, a, none, ar, la⟩ →
       (cls ≠ 0 → tmo = false → Completes (.almWaitevWake t w) s fun u => Touches [.dial, .time] s u) ∧
       ((s.watch w).ltBase = 0 → (cls = 0 ∨ tmo = true) → 0 < dist40 (s.watch w).lt ((s.at t).shortTime 0) →
         Completes (.almWaitevWake t w) s fun u => Touches [.dial, .time] s u) ∧
       ((s.watch w).ltBase = 0 → cls ≠ 0 → tmo = true → dist40 (s.watch w).lt ((s.at t).shortTime 0) ≤ 0 → la = false →
         Completes (.almWaitevWake t w) s fun u => Touches [.dial, .time, .alm] s u ∧
           Retires w (fun x => { x with st := .ready, wait := none, c := true }) s u) ∧
       ((s.watch w).ltBase = 0 → cls = 0 → dist40 (s.watch w).lt ((s.at t).shortTime 0) = 0 → la = false →
         Completes (.almWaitevWake t w) s fun u => Touches [.dial, .time, .alm] s u ∧
           Retires w (fun x => { x.put rd (BitVec.ofNat 32 ((s.at t).dial)) with st := .ready, wait := none, c := false }) s u) ∧
       (∀ x : Nat, 2 ≤ (s.watch w).ltBase → a = some x → x ≤ (s.at t).dial → (cls = 0 ∨ tmo = true) → Completes (.almWaitevWake t w) s fun u =>
         (u.watch w).st = .ready ∧ (u.watch w).wait = none ∧ (u.watch w).late = (la || (s.watch w).late) ∧
         (u.watch w).c = decide (cls ≠ 0) ∧ (la = true → u.flag F.ALM_STS_LATE = true) ∧
         (cls = 0 → rd % 16 ≠ 0 → u.greg w rd = BitVec.ofNat 32 x)) ∧
       (∀ x : Nat, 2 ≤ (s.watch w).ltBase → (a = none ∨ a = some x ∧ (s.at t).dial < x) → Completes (.almWaitevWake t w) s fun u =>
         Touches [.dial, .time] s u))) ∧
   ∀ (t w : Nat) (s : State),
     (Issues (.almFence t w false) w (s.at t) → Completes (.almFence t w false) s fun u =>
       Touches [.dial, .time, .alm, .pmc] s u ∧ Retires w (fun x => { x with pc := (x.pc + 1) % 2 ^ 16 }) s u) ∧
     (Issues (.almFence t w true) w (s.at t) → Completes (.almFence t w true) s fun u =>
       Touches [.dial, .time, .alm, .pmc] s u ∧ Retires w (fun x => { x with pc := (x.pc + 1) % 2 ^ 16, st := .waiting, wait := some (Wait.plain .fence) }) s u) ∧
     (∀ y : Wait, (s.watch w).wait = some y →
       (y.what = .fence → Completes (.almFenceRelease t w) s fun u =>
         Touches [.dial, .time, .alm] s u ∧ Retires w (fun x => { x with st := .ready, wait := none }) s u) ∧
       (y.what ≠ .fence → Completes (.almFenceRelease t w) s fun u => Touches [.dial, .time] s u) ∧
       (y.what = .slot → (s.watch w).slots.length < 2 → Completes (.almSlotWaitRelease t w) s fun u =>
         Touches [.dial, .time, .alm] s u ∧ Retires w (fun x => { x with st := .ready, wait := none }) s u) ∧
       ((y.what ≠ .slot ∨ 2 ≤ (s.watch w).slots.length) → Completes (.almSlotWaitRelease t w) s fun u => Touches [.dial, .time] s u))) ∧
  (∀ (t w a b tgt : Nat) (s : State), tgt < 2 ^ 16 →
     (∀ k : Nat, k = (s.greg w a).toNat % 64 → Issues (.almSpawn t w a b tgt) w (s.at t) →
       ((s.watch k).st = .halted → (∀ d ∈ (s.at t).dyingNow, d.w ≠ k) → (s.at t).spawnNow k = none →
         Completes (.almSpawn t w a b tgt) s fun u =>
           Touches [.dial, .time, .alm, .pmc] s u ∧ u.alm.dmem = s.alm.dmem ∧ (u.watch k).st = .ready ∧ (u.watch k).pc = tgt ∧
           (u.watch k).pri = (s.greg w a).toNat / 256 % 4 ∧ (u.watch k).ltBase = (s.watch w).ltBase ∧ (u.watch k).lt = (s.watch w).lt ∧
           (u.watch k).late = false ∧ (u.watch k).fcode = 0 ∧ (∀ j < 16, u.greg k j = if j = 1 then s.greg w b else 0) ∧
           u.watch w = { s.watch w with pc := ((s.watch w).pc + 1) % 2 ^ 16, c := false } ∧
           ∀ j : Nat, j ≠ w → j ≠ k → u.watch j = s.watch j) ∧
       (((s.watch k).st ≠ .halted ∧ (s.at t).spawnNow k = none ∨ (∃ d ∈ (s.at t).dyingNow, d.w = k)) →
         Completes (.almSpawn t w a b tgt) s fun u => Touches [.dial, .time, .alm, .pmc] s u ∧ CarryOnly w true s u) ∧
       (∀ e : Spawned, (s.at t).spawnNow k = some e → (∀ d ∈ (s.at t).dyingNow, d.w ≠ k) →
         (e.by_ ≤ w → Completes (.almSpawn t w a b tgt) s fun u => CarryOnly w true s u) ∧
         (w < e.by_ → e.by_ ≠ k → k ≠ w → Completes (.almSpawn t w a b tgt) s fun u => (u.watch w).c = false ∧ (u.watch e.by_).c = true ∧
           (u.watch k).st = .ready ∧ (u.watch k).pc = tgt ∧ u.greg k 1 = s.greg w b))) ∧
     (∀ k : Nat, k = (s.greg w a).toNat % 64 → Issues (.almKill t w a) w (s.at t) → (∀ d ∈ (s.at t).dyingNow, d.w ≠ k) →
       ((s.at t).spawnNow k = none → Completes (.almKill t w a) s fun u =>
         Touches [.dial, .time, .regs, .alm, .pmc] s u ∧ SameRegs [Reg.ALM_CANCNT] s u ∧
         (u.watch k).st = .halted ∧ (u.watch k).slots = [] ∧ (u.watch k).wait = none ∧ (u.watch w).c = false ∧
         (u.word Reg.ALM_CANCNT).toNat = min 0xFFFFFFFF ((s.word Reg.ALM_CANCNT).toNat + (s.watch k).slots.length) ∧
         (k ≠ w → (u.watch w).st = .ready ∧ (u.watch w).slots = (s.watch w).slots) ∧
         ∀ j : Nat, j ≠ w → j ≠ k → u.watch j = s.watch j) ∧
       (∀ e : Spawned, (s.at t).spawnNow k = some e → e.by_ ≠ k → Completes (.almKill t w a) s fun u =>
         (u.watch k).st = .halted ∧ (u.watch k).slots = [] ∧ (u.watch e.by_).c = true)) ∧
     (Issues (.almYield t w) w (s.at t) → Completes (.almYield t w) s fun u =>
       Touches [.dial, .time, .alm, .pmc] s u ∧ (u.gate w).yield = some ((s.at t).fab + 1) ∧
       Retires w (fun x => { x with pc := (x.pc + 1) % 2 ^ 16 }) s u) ∧
     (Issues (.almHalt t w) w (s.at t) → Completes (.almHalt t w) s fun u => Touches [.dial, .time, .alm, .pmc] s u ∧
       Retires w (fun x => { x with pc := (x.pc + 1) % 2 ^ 16, st := .halted }) s u) ∧
     (((s.at t).revive w).1 = false →
       ((s.at t).issues w = true → almDecode t w (s.fetched w) = none → Completes (.illegalInstruction t w) s (FaultsAt w 1 s)) ∧
       (((s.at t).issues w = false ∨ (almDecode t w (s.fetched w)).isSome = true) →
         Completes (.illegalInstruction t w) s fun u => Touches [.dial, .time] s u) ∧
       ((s.at t).issues w = true → Completes (.eccFault t w) s (FaultsAt w 6 s)) ∧
       ((s.at t).issues w = false → Completes (.eccFault t w) s fun u => Touches [.dial, .time] s u)))

/-- R157 to R159, R164: a timed action takes a launch slot, waits for one, or launches at once when its target has passed; with T 0 it acts at once. R158,
R242, R244, R261, R302, R428, R497: an instruction that takes T acts at once with T 0, and C tells a destination that did not accept it. -/
def Obligations.TimedActionsTakeSlotsLaunchOrActAtOnce : Prop :=
  ((∀ (w : Nat) (a : Act) (i : Instr) (s : State), i.wf = true → Issues i w (s.at (almInstant i)) →
     (∀ t g k : Nat, i = .almStcCan t w true k g → (s.greg w g).toNat % 4 = 0 ∧ (s.greg w g).toNat ≤ 0x1FFB8) →
     timedAct s i = some (w, true, a) →
     (2 ≤ (s.watch w).slots.length → Completes i s fun u => Touches [.dial, .time, .alm, .pmc] s u ∧
       Retires w (fun x => { x with st := .waiting, wait := some (Wait.plain .slot) }) s u) ∧
     ((s.watch w).slots.length < 2 → (s.watch w).ltBase = 0 → 0 ≤ dist40 (s.watch w).lt ((s.at (almInstant i)).dial % 2 ^ 40) →
       Completes i s fun u => Touches [.dial, .time, .alm, .pmc, .regs] s u ∧ OnlyBlocks [Block.pmc] s u ∧
         ∃ n : Nat, Retires w (fun x => { x with pc := (x.pc + 1) % 2 ^ 16, c := false, slots := x.slots ++ [⟨0, x.lt, none, a, n, false⟩] }) s u)) ∧
   (∀ (t w g n : Nat) (tm : Bool) (s : State), n < 3 → Issues (.almStcCan t w tm n g) w (s.at t) →
     ((s.greg w g).toNat % 4 ≠ 0 ∨ 0x1FFB8 < (s.greg w g).toNat) → Completes (.almStcCan t w tm n g) s (FaultsAt w 4 s)) ∧
   ∀ (t : Nat) (s : State), Completes (.timedActionLaunch t) s fun u =>
     (∀ w < 64, ∀ x ∈ (u.watch w).slots, x ∈ (s.watch w).slots ∧
       ∀ d : Int, (s.at t).tgtDist x.base x.tgt x.at_ = some d → 0 < d) ∧
     u.alm.pmem = s.alm.pmem ∧ u.alm.dmem = s.alm.dmem ∧
     ((s.at t).dyingNow = [] → (∀ w < 64, ∀ x ∈ (s.watch w).slots, ∀ d : Int, (s.at t).tgtDist x.base x.tgt x.at_ = some d → 0 < d) →
       Touches [.dial, .time] s u)) ∧
  (∀ (t w : Nat) (s : State),
     (Issues (.almBalStop t w false) w (s.at t) →
       (s.flag F.BAL_CTL_EN = true → Completes (.almBalStop t w false) s fun u => Touches [.dial, .time, .alm, .pmc, .bal] s u ∧
         CarryOnly w false s u ∧ u.bal = { s.bal with next := s.bal.next ++ [(none, (s.at t).dial + 200000, none)] }) ∧
       (s.flag F.BAL_CTL_EN = false → Completes (.almBalStop t w false) s fun u => Touches [.dial, .time, .regs, .alm, .pmc] s u ∧
         CarryOnly w false s u ∧ SameRegs [Reg.BAL_STS] s u ∧ u.flag F.BAL_STS_REJ = true)) ∧
     (∀ (sel g ph : Nat) (fin : Option Nat), 1 ≤ sel → sel < 4 →
       ph = (if sel = 1 then 0 else if sel = 2 then 1 else if s.lastPhase = some 0 then 1 else 0) →
       fin = (if s.greg w g = 0 then none else some ((s.at t).dial + 200000 + 1000000 * (s.greg w g).toNat)) →
       Issues (.almBalPhaseStart t w false sel g) w (s.at t) →
       (s.flag F.BAL_CTL_EN = true → Completes (.almBalPhaseStart t w false sel g) s fun u =>
         Touches [.dial, .time, .alm, .pmc, .bal] s u ∧ CarryOnly w false s u ∧
         u.bal = { s.bal with next := s.bal.next ++ [(some ph, (s.at t).dial + 200000, fin)] }) ∧
       (s.flag F.BAL_CTL_EN = false → Completes (.almBalPhaseStart t w false sel g) s fun u =>
         Touches [.dial, .time, .regs, .alm, .pmc] s u ∧ CarryOnly w false s u ∧ SameRegs [Reg.BAL_STS] s u ∧ u.flag F.BAL_STS_REJ = true)) ∧
     (∀ n g : Nat, n < 16 → Issues (.almExcStart t w false n g) w (s.at t) →
       (s.excCode n false = 0 → Completes (.almExcStart t w false n g) s fun u => Touches [.dial, .time, .regs, .azm, .alm, .pmc] s u ∧
         CarryOnly w false s u ∧ OnlyBlocks [Block.azm] s u ∧ u.fld F.AZM_EXCSTS_STATE = 1 ∧ u.fld F.AZM_EXCSTS_PLAN = n ∧
         u.fld F.AZM_EXCSTS_BLOCK = 0 ∧ u.azm.win =
           some ⟨s.plan n, n, (s.at t).time.mer, if s.greg w g = 0 then none else some (s.greg w g).toNat, false⟩) ∧
       (s.excCode n false ≠ 0 → Completes (.almExcStart t w false n g) s fun u => Touches [.dial, .time, .regs, .alm, .pmc] s u ∧
         CarryOnly w false s u ∧ SameRegs [Reg.AZM_EXCSTS, Reg.AZM_CNT, Reg.AZM_STS] s u ∧ u.fld F.AZM_EXCSTS_REJCODE = s.excCode n false ∧
         u.fld F.AZM_CNT_REJCNT = min (s.fld F.AZM_CNT_REJCNT + 1) 65535 ∧ u.flag F.AZM_STS_EXC_REJ = true)) ∧
     (∀ n : Nat, n < 16 → Issues (.almExcStop t w false n) w (s.at t) →
       (s.azm.win = none → (∀ e : Nat, s.azm.elapsed = some e → fabCycle e = (s.at t).fab → s.ep.prof ≠ 2) →
         Completes (.almExcStop t w false n) s fun u => Touches [.dial, .time, .alm, .pmc] s u ∧ CarryOnly w false s u) ∧
       (∀ e : Nat, s.azm.win = none → s.azm.elapsed = some e → fabCycle e = (s.at t).fab → s.ep.prof = 2 →
         Completes (.almExcStop t w false n) s fun u => Touches [.dial, .time, .regs, .azm, .alm, .pmc] s u ∧ CarryOnly w false s u ∧
           OnlyBlocks [Block.azm] s u ∧ u.azm = { s.azm with susp := true } ∧ u.fld F.AZM_EXCSTS_STATE = 2) ∧
       (∀ (v : AzmWin) (fin : Nat), s.azm.win = some v →
         fin = (match v.len with
           | none => (s.at t).time.mer
           | some k => min (s.at t).time.mer (v.t0 + k * merMs)) →
         Completes (.almExcStop t w false n) s fun u =>
         Touches [.dial, .time, .regs, .azm, .alm, .pmc] s u ∧ CarryOnly w false s u ∧ OnlyBlocks [Block.azm] s u ∧ u.azm.win = none ∧
         u.azm.susp = (s.ep.prof == 2) ∧ u.azm.tails = (v, fin) :: s.azm.tails ∧
         u.fld F.AZM_EXCSTS_STATE = if s.ep.prof = 2 then 2 else 0)) ∧
     (∀ g : Nat, Issues (.almSetpHosti t w false g) w (s.at t) → Completes (.almSetpHosti t w false g) s fun u =>
       Touches [.dial, .time, .regs, .hlm, .alm, .pmc] s u ∧ CarryOnly w false s u ∧ SameRegs [Reg.HLM_HOSTI] s u ∧
       u.word Reg.HLM_HOSTI = s.greg w g ∧ u.hlm = { s.hlm with sp := s.hlm.sp ++ [⟨(s.at t).dial, 0, s.greg w g, true⟩] }) ∧
     (∀ g : Nat, Issues (.almSetpHostv t w false g) w (s.at t) → Completes (.almSetpHostv t w false g) s fun u =>
       Touches [.dial, .time, .regs, .hlm, .alm, .pmc] s u ∧ CarryOnly w false s u ∧ SameRegs [Reg.HLM_HOSTV] s u ∧
       u.word Reg.HLM_HOSTV = s.greg w g ∧ u.hlm = { s.hlm with sp := s.hlm.sp ++ [⟨(s.at t).dial, 1, s.greg w g, true⟩] }) ∧
     (∀ g : Nat, Issues (.almSetpClass t w false g) w (s.at t) →
       ((s.greg w g).toNat ≤ 2 → Completes (.almSetpClass t w false g) s fun u =>
         Touches [.dial, .time, .regs, .hlm, .alm, .pmc] s u ∧ CarryOnly w false s u ∧ SameRegs [Reg.HLM_CTL] s u ∧
         u.fld F.HLM_CTL_CLASS = (s.greg w g).toNat ∧ u.hlm = { s.hlm with sp := s.hlm.sp ++ [⟨(s.at t).dial, 2, s.greg w g, true⟩] }) ∧
       (2 < (s.greg w g).toNat → Completes (.almSetpClass t w false g) s fun u => Touches [.dial, .time, .regs, .alm, .pmc] s u ∧
         CarryOnly w true s u ∧ SameRegs [Reg.HLM_STS] s u ∧ u.flag F.HLM_STS_CLASS_REJ = true)) ∧
     (∀ f : Nat, f < 64 →
       (Issues (.almTrigSet t w false f) w (s.at t) → Completes (.almTrigSet t w false f) s fun u =>
         Touches [.dial, .time, .regs, .alm, .pmc] s u ∧ SameRegs [Reg.ALM_EVSTS (f / 32)] s u ∧
         (u.watch w).pc = ((s.watch w).pc + 1) % 2 ^ 16 ∧ (u.watch w).c = false ∧
         ((∀ k < 64, (s.at t).hears k (fun c a => c == 5 && a == f) = false) → (s.at t).evWokeNow f = false →
           u.flag (evFld f) = true ∧ CarryOnly w false s u) ∧
         (∀ k < 64, k ≠ w → (s.at t).waits k (fun c a => c == 5 && a == f) = true → u.flag (evFld f) = false ∧
           (u.watch k).wait.map (·.met) = some (some ⟨some (BitVec.ofNat 32 f), false, false⟩))) ∧
       (Issues (.almTrigClear t w false f) w (s.at t) → Completes (.almTrigClear t w false f) s fun u =>
         Touches [.dial, .time, .regs, .alm, .pmc] s u ∧ SameRegs [Reg.ALM_EVSTS (f / 32)] s u ∧ CarryOnly w false s u ∧
         u.flag (evFld f) = (s.flag (evFld f) && Tab.get (fun _ => 0) s.alm.evAt f == (s.at t).fab + 1))) ∧
     (∀ g : Nat, Issues (.almTrigMark t w false g) w (s.at t) → s.log.queue.length < 64 → Completes (.almTrigMark t w false g) s fun u =>
       Touches [.dial, .time, .log, .alm, .pmc] s u ∧ CarryOnly w false s u ∧ ∃ e : LogEv, u.log.queue = s.log.queue ++ [e] ∧
         e.code = 0x0502 ∧ e.inst = BitVec.ofNat 32 w ∧ e.payload = [s.greg w g]) ∧
     (∀ n g : Nat, n < 3 → Issues (.almStcCan t w false n g) w (s.at t) → (s.greg w g).toNat % 4 = 0 → (s.greg w g).toNat ≤ 0x1FFB8 →
       ∀ ws : List Word, ((List.range 18).map fun j => s.dmRead ((s.greg w g).toNat / 4 + j)) = ws →
       (s.descBad n ws = true → Completes (.almStcCan t w false n g) s fun u => Touches [.dial, .time, .regs, .alm, .pmc] s u ∧
         CarryOnly w true s u ∧ SameRegs [Reg.CAN_STS n] s u ∧ u.flag (F.CAN_STS_DESC_ERR n) = true) ∧
       (s.descBad n ws = false → 16 ≤ (s.can1 n).queue.length → Completes (.almStcCan t w false n g) s fun u =>
         Touches [.dial, .time, .alm, .pmc] s u ∧ CarryOnly w true s u) ∧
       (s.descBad n ws = false → (s.can1 n).queue.length < 16 → Completes (.almStcCan t w false n g) s fun u =>
         Touches [.dial, .time, .regs, .can, .alm, .pmc] s u ∧ CarryOnly w false s u ∧ SameRegs [Reg.CAN_TQSTS n] s u ∧
         (u.can1 n).queue = (s.can1 n).queue ++ [⟨(s.can1 n).nextSerial, ws⟩] ∧
         u.fld (F.CAN_TQSTS_COUNT n) = (s.can1 n).queue.length + 1 ∧ ∀ k < 3, k ≠ n → u.can1 k = s.can1 k)) ∧
     ∀ c : Nat, c < 4 → Issues (.almStcPmc t w false c) w (s.at t) → Completes (.almStcPmc t w false c) s fun u =>
       Touches [.freeCtr, .dial, .time, .regs, .alm, .pmc] s u ∧ OnlyBlocks [Block.pmc] s u ∧ CarryOnly w false s u ∧
       (c < 2 → u.fld F.PMC_CTL_RUN = 1 - c) ∧ (c = 2 → u.fld F.PMC_CTL_SNAPVALID = 1) ∧
       (c = 3 → u.fld F.PMC_CTL_SNAPVALID = 0 ∧ u.pmc.cyc = []))

/-- R86, R112, R161, R166: SNAP. -/
def Obligations.SnapIsAcceptedOrRefused : Prop :=
  ∀ (t w d : Nat) (s : State), Issues (.snap t w d) w (s.at t) →
    (2 ≤ (s.watch w).ltBase → Completes (.snap t w d) s (FaultsAt w 2 s)) ∧
    ∀ T : Nat, (s.watch w).ltBase = 0 → (((s.at t).dial : Nat) : Int) + dist40 (s.watch w).lt ((s.at t).dial % 2 ^ 40) = T →
      (∀ l : Nat, s.acq.lastTarget = some l → T < l + 1000 * s.tminFor s.ovs → Completes (.snap t w d) s fun u =>
        Touches [.dial, .time, .regs, .alm, .pmc] s u ∧ SameRegs [Reg.ACQ_STS, Reg.ACQ_SNAPSTS] s u ∧
        u.flag F.ACQ_STS_SNAP_OVERRUN = true ∧ u.fld F.ACQ_SNAPSTS_OVERRUNS = min (s.fld F.ACQ_SNAPSTS_OVERRUNS + 1) 65535 ∧
        Retires w (fun x => { x.put d 0xFFFFFFFF with pc := (x.pc + 1) % 2 ^ 16, c := true }) s u) ∧
      ((∀ l : Nat, s.acq.lastTarget = some l → l + 1000 * s.tminFor s.ovs ≤ T) → s.acq.nextSeq < 65536 → Completes (.snap t w d) s fun u =>
        u.acq.nextSeq = (s.acq.nextSeq + 1) % 65536 ∧ u.acq.lastTarget = some T ∧ u.fld F.ACQ_SNAPSTS_LASTSEQ = s.acq.nextSeq ∧
        (∃ c ∈ u.acq.snaps, c.seq = s.acq.nextSeq ∧ c.target = T ∧ c.ovs = s.ovs ∧ c.winEnd = T + s.windowNs) ∧
        (u.watch w).pc = ((s.watch w).pc + 1) % 2 ^ 16 ∧ (u.watch w).c = false ∧
        (d % 16 ≠ 0 → u.greg w d = BitVec.ofNat 32 s.acq.nextSeq) ∧ (∀ k : Nat, k ≠ w → u.watch k = s.watch k) ∧
        (T < (s.at t).dial + (if s.ovs then 3774000 else 24000) → (u.watch w).late = true) ∧
        ((s.at t).dial + (if s.ovs then 3774000 else 24000) ≤ T → (u.watch w).late = (s.watch w).late) ∧
        ∀ r < 4, ∀ e < 2, (s.ring r).state.running = true → (s.port (2 * r + e)).busy = none → (s.port (2 * r + e)).queue = [] →
          ∃ f : Frame, (u.port (2 * r + e)).busy = some f ∧ f.hop = 15 ∧
            f.body = .sample (T % 2 ^ 40) s.acq.nextSeq (128 * b2n s.ovs + 64 * b2n (!s.balThrough)))

/-- R179 to R181, R153, R186: program loads and starts, the memory windows, and event flags. -/
def Obligations.ProgramsLoadStartAndWindowsAct : Prop :=
  (∀ (t : Nat) (m : Master) (v : Word) (s : State), v.getLsbD 0 = true → Completes (.programLoad t m v) s fun u =>
    Touches [.dial, .time, .regs, .ep, .alm] s u ∧ (∀ w < 64, (u.watch w).st = .halted ∧ (u.watch w).slots = [] ∧ (u.watch w).wait = none) ∧
    u.alm.pmem = [] ∧ u.alm.dmem = s.alm.dmem ∧ u.flag F.ALM_CTL_RUN = false ∧ u.word (Reg.ALM_EVSTS 0) = 0 ∧ u.word (Reg.ALM_EVSTS 1) = 0 ∧
    (∀ n < 16, u.lockOwner n = if s.lockOwner n = 3 then 0 else s.lockOwner n) ∧
    (v.getLsbD 1 = true → u.flag F.ALM_STS_START_REJ = true)) ∧
  (∀ (t : Nat) (m : Master) (v : Word) (s : State), v.getLsbD 0 = false → v.getLsbD 1 = true →
    ((s.flag F.ALM_CTL_RUN = true ∨ s.pmCrc ≠ s.word Reg.ALM_PMEXP) → Completes (.programStart t m v) s fun u =>
      Touches [.dial, .time, .regs] s u ∧ SameRegs [Reg.ALM_STS] s u ∧ u.flag F.ALM_STS_START_REJ = true) ∧
    (s.flag F.ALM_CTL_RUN = false → s.pmCrc = s.word Reg.ALM_PMEXP → Completes (.programStart t m v) s fun u =>
      Touches [.dial, .time, .regs, .alm] s u ∧ SameRegs [Reg.ALM_CTL] s u ∧ u.flag F.ALM_CTL_RUN = true ∧ (u.watch 0).st = .ready ∧
      (u.watch 0).pc = s.fld F.ALM_START_PC ∧ (u.watch 0).pri = s.fld F.ALM_START_PRI ∧ (∀ k < 16, u.greg 0 k = 0) ∧
      (∀ w : Nat, w ≠ 0 → u.watch w = s.watch w) ∧ u.alm.pmem = s.alm.pmem)) ∧
  (∀ (t i : Nat) (m : Master) (v : Word) (s : State),
    (s.flag F.ALM_CTL_RUN = true → Completes (.programMemoryWrite t m i v) s fun u =>
      Touches [.dial, .time, .regs] s u ∧ SameRegs [Reg.ALM_STS] s u ∧ u.flag F.ALM_STS_PM_WPROT = true) ∧
    (s.flag F.ALM_CTL_RUN = false → Completes (.programMemoryWrite t m i v) s fun u =>
      Touches [.dial, .time, .alm] s u ∧ u.alm.watches = s.alm.watches ∧ u.alm.dmem = s.alm.dmem ∧
      ∀ k : Nat, Tab.get zeroWord u.alm.pmem k =
        if k = 32768 * s.fld F.ALM_PMPAGE_PAGE + i % 32768 then v else Tab.get zeroWord s.alm.pmem k) ∧
    (s.alm.accCyc ≠ (s.at t).fab →
      Completes (.dataMemoryAccess t m true i v) s (fun u => Touches [.dial, .time, .alm] s u ∧ u.alm.watches = s.alm.watches ∧
        u.alm.pmem = s.alm.pmem ∧ ∀ k : Nat, u.dmRead k = if k = i % 32768 then v else s.dmRead k) ∧
      Completes (.dataMemoryAccess t m false i v) s (fun u => Touches [.dial, .time, .alm, .lastRead] s u ∧
        u.alm.watches = s.alm.watches ∧ u.alm.pmem = s.alm.pmem ∧ (∀ k : Nat, u.dmRead k = s.dmRead k) ∧
        u.lastReadOf m = s.dmRead (i % 32768) ∧
        ∀ w d a imm : Nat, Issues (.almStw t w d a imm) w (u.at t) → (dataAddr s w a imm).toNat = 4 * (i % 32768) →
          Completes (.almStw t w d a imm) u fun x => x.lastReadOf m = s.greg w d))) ∧
  ∀ (t i : Nat) (m : Master) (v : Word) (s : State), i < 2 →
    Completes (.evflagHostWrite t m (Reg.ALM_EVSET i) v) s (fun u => Touches [.dial, .time, .regs, .alm] s u ∧
      SameRegs [Reg.ALM_EVSTS i] s u ∧ ∀ b < 32, (v.getLsbD b = false → u.flag (evFld (32 * i + b)) = s.flag (evFld (32 * i + b))) ∧
        (v.getLsbD b = true → (∀ w < 64, (s.at t).hears w (fun c a => c == 5 && a == 32 * i + b) = false) →
          (s.at t).evWokeNow (32 * i + b) = false →
          u.flag (evFld (32 * i + b)) = true) ∧
        (v.getLsbD b = true → ∀ w < 64, (s.at t).waits w (fun c a => c == 5 && a == 32 * i + b) = true →
          u.flag (evFld (32 * i + b)) = false ∧
          (u.watch w).wait.map (·.met) = some (some ⟨some (BitVec.ofNat 32 (32 * i + b)), false, false⟩))) ∧
    Completes (.evflagHostWrite t m (Reg.ALM_EVCLR i) v) s (fun u => Touches [.dial, .time, .regs] s u ∧
      SameRegs [Reg.ALM_EVSTS i] s u ∧ ∀ b < 32, u.flag (evFld (32 * i + b)) =
        (s.flag (evFld (32 * i + b)) &&
          (!v.getLsbD b || Tab.get (fun _ => 0) s.alm.evAt (32 * i + b) == (s.at t).fab + 1)))

/-! ## Sextant and the learned store (07_sextant.md, 08_learning.md) -/

/-- R190, R198, R200, R206: a lane's finished update, DAPPLY, PRERESTED, and the window onto Sextant memory. -/
def Obligations.ContextsUpdateOnceAndTheWindowWrites : Prop :=
  (∀ (t c : Nat) (s : State),
    (s.sxt.jobs.find? (fun j => j.waits c) = none → Completes (.contextUpdateDone t c) s fun u => Touches [.dial, .time] s u) ∧
    ∀ j : SxtJob, s.sxt.jobs.find? (fun j => j.waits c) = some j →
      (s.sxtReady j c = false → Completes (.contextUpdateDone t c) s fun u => Touches [.dial, .time] s u) ∧
      (s.sxtReady j c = true → Completes (.contextUpdateDone t c) s fun u =>
        Touches [.freeCtr, .dial, .regs, .ep, .time, .log, .sxt, .pmc] s u ∧ OnlyBlocks [Block.sxt, Block.log, Block.pmc] s u ∧
        (∀ i ∈ s.sxt.jobs, i ≠ j → i ∈ u.sxt.jobs) ∧
        (∀ i ∈ u.sxt.jobs, i ∉ s.sxt.jobs → i.target = j.target ∧ i.waits c = false) ∧
        (j.done.contains c = true → Touches [.dial, .ep, .time, .sxt] s u ∧ u.sxt.mem = s.sxt.mem ∧ u.sxt.side = s.sxt.side ∧
          ∀ i ∈ u.sxt.jobs, i ∉ s.sxt.jobs → i.done = j.done) ∧
        (j.done.contains c = false → (∀ k : Nat, k / 0x80 ≠ c → Tab.get zeroWord u.sxt.mem k = Tab.get zeroWord s.sxt.mem k) ∧
          u.cxWord c 0x1F8 = s.cxWord c 0x1F8 + 1 ∧ (∀ i ∈ u.sxt.jobs, i ∉ s.sxt.jobs → i.done = j.done ++ [c]) ∧
          (c < 976 → s.dscReady = true → (j.cells.getD c ⟨none, false, 7, none⟩).reading.isSome = true →
            u.cxFlag c fEst = true ∧ u.cxLong c 0x140 = j.target % 2 ^ 64)))) ∧
  (∀ (t : Nat) (m : Master) (s : State),
    (∀ w : State, w = (s.at t).passBoundary → Completes (.dapply t m) s fun u => Touches [.regs, .sxt] w u ∧
      SameRegs [Reg.SXT_CTL, Reg.SXT_SCHED] w u ∧ u.word Reg.SXT_CTL = w.word Reg.SXT_CTL &&& 0x80000008#32 ∧ u.sxt.dapply = true ∧
      u.sxt.mem = w.sxt.mem ∧ u.sxt.use = w.sxt.use ∧ u.sxt.jobs = w.sxt.jobs) ∧
    Completes (.prerested t m) s (fun u => Touches [.dial, .time, .regs, .sxt] s u ∧ SameRegs [Reg.SXT_CTL, Reg.SXT_SCHED] s u ∧
      u.word Reg.SXT_CTL = s.word Reg.SXT_CTL &&& 0x80000008#32 ∧ u.sxt.mem = s.sxt.mem ∧ u.sxt.jobs = s.sxt.jobs ∧
      u.sxt.prest = (s.sxt.prest || !(s.flag F.SXT_CTL_EN && s.sxt.started)))) ∧
  ∀ (t : Nat) (m : Master) (a : Nat) (v : Word) (s w : State), w = (s.at t).passBoundary →
    ((getBits (w.word (masterKey (masterId m) Reg.SXT_WIN)) 31 1 = 0 ∨ 5 ≤ getBits (w.word (masterKey (masterId m) Reg.SXT_WIN)) 0 3) →
      Completes (.sextantWindowWrite t m a v) s fun u => Touches [] w u) ∧
    (∀ p c : Nat, getBits (w.word (masterKey (masterId m) Reg.SXT_WIN)) 31 1 = 1 →
      getBits (w.word (masterKey (masterId m) Reg.SXT_WIN)) 0 3 = p → p < 4 → a < 0x20000 → c = (0x20000 * p + a) / 0x200 →
      (w.cxKind c = 0 → Completes (.sextantWindowWrite t m a v) s fun u => Touches [] w u) ∧
      (w.cxKind c ≠ 0 → w.flag F.SXT_CTL_EN = true → Completes (.sextantWindowWrite t m a v) s fun u =>
        Touches [.regs] w u ∧ SameRegs [Reg.SXT_STS] w u ∧ u.flag F.SXT_STS_CTX_WPROT = true) ∧
      (w.cxKind c ≠ 0 → w.flag F.SXT_CTL_EN = false → Completes (.sextantWindowWrite t m a v) s fun u =>
        Touches [.sxt] w u ∧ Tab.get zeroWord u.sxt.mem ((0x20000 * p + a) / 4) = v ∧
        ∀ k : Nat, k ≠ (0x20000 * p + a) / 4 → Tab.get zeroWord u.sxt.mem k = Tab.get zeroWord w.sxt.mem k)) ∧
    (getBits (w.word (masterKey (masterId m) Reg.SXT_WIN)) 31 1 = 1 → getBits (w.word (masterKey (masterId m) Reg.SXT_WIN)) 0 3 = 4 →
      a < 0x4280 ∨ (0x5000 ≤ a ∧ a < 0x7820) → Completes (.sextantWindowWrite t m a v) s fun u =>
        Touches [.sxt] w u ∧ Tab.get zeroWord u.sxt.mem ((0x80000 + a) / 4) = v ∧
        ∀ k : Nat, k ≠ (0x80000 + a) / 4 → Tab.get zeroWord u.sxt.mem k = Tab.get zeroWord w.sxt.mem k)

/-- R227 to R230: a save of the journal writes all records of the slot that does not hold the newest valid image, then its header. R229, R233 to R235:
SAVE, RESTORE, NOMINAL and EXPORT written 1. -/
def Obligations.JournalSavesAndLearnedValues : Prop :=
  ((∀ (t : Nat) (s : State),
     ((s.sxt.trig = none ∨ s.sxt.save.isSome = true) → Completes (.journalSaveStart t) s fun u => Touches [.dial, .time] s u) ∧
     (∀ code : Nat, s.sxt.trig = some code → s.sxt.hold = true → code ≠ 4 →
       Completes (.journalSaveStart t) s fun u => Touches [.dial, .time] s u) ∧
     ∀ code n : Nat, s.sxt.trig = some code → s.sxt.save = none → (s.sxt.hold = false ∨ code = 4) →
       ((s.newestSlot = none ∧ n = 0) ∨ s.newestSlot = some (1 - n)) → n < 2 → Completes (.journalSaveStart t) s fun u =>
         Touches [.dial, .time, .regs, .sxt] s u ∧ SameRegs [Reg.SXT_LRNSTS] s u ∧ u.fld F.SXT_LRNSTS_SAVING = 1 ∧ u.sxt.trig = none ∧
         u.sxt.save = some (n, (s.at t).lrnHeader (s.sxt.savedSeq + 1) code s.lrnRecords) ∧ u.slot (1 - n) = s.slot (1 - n) ∧
         Store.getAll zeroWord (u.slot n) 8 (4 * s.acq.npos) = s.lrnRecords ∧
         (∀ k < 8, Tab.get zeroWord (u.slot n) k = Tab.get zeroWord (s.slot n) k) ∧ u.sxt.mem = s.sxt.mem) ∧
   (∀ (t : Nat) (ok : Bool) (s : State),
     (s.sxt.save = none → Completes (.journalSaveDone t ok) s fun u => Touches [.dial, .time] s u) ∧
     (s.sxt.save.isSome = true → s.pwr.shut = true → s.pwr.shutAt + 2000000 < (s.at t).dial →
       Completes (.journalSaveDone t ok) s fun u => Touches [.dial, .time] s u) ∧
     ∀ (n : Nat) (head : List Word), s.sxt.save = some (n, head) → n < 2 → head.length = 8 →
       (s.pwr.shut = false ∨ (s.at t).dial ≤ s.pwr.shutAt + 2000000) → (∀ w ∈ s.pilot.waiting, ∀ off : Bool, w.what ≠ .sleep off false) →
       Completes (.journalSaveDone t ok) s fun u => Touches [.dial, .time, .regs, .log, .host, .wear, .sxt, .pilot] s u ∧
         u.sxt.save = none ∧ u.fld F.SXT_LRNSTS_SAVING = 0 ∧ u.slot (1 - n) = s.slot (1 - n) ∧
         u.wearGet 4 n = min 0xFFFFFFFF (s.wearGet 4 n + 1) ∧ u.sxt.mem = s.sxt.mem ∧
         (ok = true → Store.getAll zeroWord (u.slot n) 0 8 = head ∧ u.sxt.savedAt = (s.at t).dial ∧
           ∀ k : Nat, 8 ≤ k → Tab.get zeroWord (u.slot n) k = Tab.get zeroWord (s.slot n) k) ∧
         (ok = false → u.slot n = s.slot n ∧ u.flag F.SXT_LRNSTS_JFAIL = true ∧ u.sxt.savedAt = s.sxt.savedAt)) ∧
   (∀ (t : Nat) (s : State),
     (s.sxt.savedAt + s.fld F.SXT_LRNCFG_JPERIOD * 3600000000000 ≤ (s.at t).dial → s.journalMode = true →
       Completes (.periodicSave t) s fun u => Touches [.dial, .time, .sxt] s u ∧ u.sxt = { s.sxt with trig := s.sxt.trig <|> some 1 }) ∧
     (((s.at t).dial < s.sxt.savedAt + s.fld F.SXT_LRNCFG_JPERIOD * 3600000000000 ∨ s.journalMode = false) →
       Completes (.periodicSave t) s fun u => Touches [.dial, .time] s u)) ∧
   ∀ (t : Nat) (s : State),
     Completes (.brownNFall t) s (fun u => Touches [.dial, .time, .sxt] s u ∧ u.sxt.hold = true ∧
       u.sxt.trig = if s.sxt.hold || s.sxt.save.isSome || !s.journalMode then s.sxt.trig else some 4) ∧
     Completes (.brownNHigh100ms t) s (fun u => Touches [.dial, .time, .sxt] s u ∧ u.sxt.hold = false ∧
       (((s.at t).dial < s.sxt.savedAt + s.fld F.SXT_LRNCFG_JPERIOD * 3600000000000 ∨ s.journalMode = false) →
         u.sxt.trig = s.sxt.trig) ∧
       (s.sxt.savedAt + s.fld F.SXT_LRNCFG_JPERIOD * 3600000000000 ≤ (s.at t).dial → s.journalMode = true →
         u.sxt.trig = (s.sxt.trig <|> some 1)))) ∧
  (∀ (t : Nat) (m : Master) (s : State),
     Completes (.learnSave t m) s (fun u => Touches [.dial, .time, .regs, .sxt] s u ∧ OnlyBlocks [Block.sxt] s u ∧
       u.sxt.trig = (if s.journalMode then s.sxt.trig <|> some 5 else s.sxt.trig) ∧ u.sxt.restore = s.sxt.restore ∧
       (s.flag F.SXT_LRNCTL_LEN = true → u.sxt.mem = s.sxt.mem)) ∧
     ∀ w : State, w = (s.at t).passBoundary →
     Completes (.learnRestore t m) s (fun u => Touches [.regs, .sxt] w u ∧ OnlyBlocks [Block.sxt] w u ∧
       (w.flag F.SXT_LRNCTL_LEN = true → u.sxt.mem = w.sxt.mem) ∧ u.fld F.SXT_LRNSTS_RJCODE = u.restoreCode ∧
       (u.restoreCode = 0 → u.sxt.restore = some u.sxt.mem) ∧
       (u.restoreCode ≠ 0 → u.sxt.restore = w.sxt.restore ∧ u.flag F.SXT_LRNSTS_RESTORE_REJ = true)) ∧
     Completes (.learnNominal t m) s (fun u => Touches [.regs, .sxt] w u ∧ OnlyBlocks [Block.sxt] w u ∧
       u.sxt.nominal = true ∧ u.sxt.trig = w.sxt.trig ∧ (w.flag F.SXT_LRNCTL_LEN = true → u.sxt.mem = w.sxt.mem)) ∧
     Completes (.learnExport t m) s (fun u => Touches [.regs, .sxt] w u ∧ OnlyBlocks [Block.sxt] w u ∧
       u.sxt.doExport = true ∧ u.sxt.trig = w.sxt.trig ∧ (w.flag F.SXT_LRNCTL_LEN = true → u.sxt.mem = w.sxt.mem)))

/-! ## Azimuth (09_azimuth.md) -/

/-- R240, R243, R244, R247, R252, R255, R256: PAPPLY, automatic windows, the end of a window, and blocks from their end to their ready instant. -/
def Obligations.WindowsStartEndAndYieldBlocks : Prop :=
  (∀ (t : Nat) (m : Master) (s w : State), w = (s.at t).passBoundary → Completes (.papply t m) s fun u =>
    Touches [.azm] w u ∧ u.azm = { w.azm with papply := true }) ∧
  (∀ (t n t0 : Nat) (s : State), n = s.fld F.AZM_CTL_CPLAN → t0 = (s.at t).time.mer / azmBlock * azmBlock →
    ((s.ep.prof ≠ 2 ∨ s.flag F.AZM_CTL_EN = false ∨ s.activeRole = false ∨ s.azm.win ≠ none ∨ s.azm.susp = true ∨
        t0 + 2 ^ 41 ≤ (s.at t).time.mer) → Completes (.azmAutoStart t) s fun u => Touches [.dial, .time] s u) ∧
    (s.ep.prof = 2 → s.flag F.AZM_CTL_EN = true → s.activeRole = true → s.azm.win = none → s.azm.susp = false →
      (s.at t).time.mer < t0 + 2 ^ 41 →
      (s.excCode n true = 0 → Completes (.azmAutoStart t) s fun u => Touches [.dial, .time, .regs, .azm] s u ∧
        SameRegs [Reg.AZM_EXCSTS] s u ∧ u.azm.win = some ⟨s.plan n, n, t0, none, true⟩ ∧ u.azm.from_ = t0 ∧
        u.fld F.AZM_EXCSTS_STATE = 1 ∧ u.flag F.AZM_EXCSTS_AUTO = true ∧ u.fld F.AZM_EXCSTS_PLAN = n ∧ u.fld F.AZM_EXCSTS_BLOCK = 0) ∧
      (s.excCode n true ≠ 0 → Completes (.azmAutoStart t) s fun u => Touches [.dial, .time, .regs] s u ∧
        SameRegs [Reg.AZM_EXCSTS, Reg.AZM_CNT, Reg.AZM_STS] s u ∧ u.fld F.AZM_EXCSTS_REJCODE = s.excCode n true ∧
        u.fld F.AZM_CNT_REJCNT = min (s.fld F.AZM_CNT_REJCNT + 1) 65535 ∧ u.flag F.AZM_STS_EXC_REJ = true))) ∧
  (∀ (t n : Nat) (w : AzmWin) (s : State), s.azm.win = some w → w.len = some n →
    ((s.at t).time.mer < w.t0 + n * merMs → Completes (.excWindowElapse t) s fun u => Touches [.dial, .time] s u) ∧
    (w.t0 + n * merMs ≤ (s.at t).time.mer → Completes (.excWindowElapse t) s fun u => Touches [.dial, .time, .regs, .azm] s u ∧
      OnlyBlocks [Block.azm] s u ∧ u.azm.win = none ∧ u.azm.susp = false ∧ u.azm.tails = (w, w.t0 + n * merMs) :: s.azm.tails ∧
      u.fld F.AZM_EXCSTS_STATE = 0 ∧
      u.azm.elapsed = some (s.at t).dial ∧
      (∀ j ∈ s.azm.jobs, j.win = w → w.blockStart (j.b + 1) ≤ w.t0 + n * merMs → { j with ended := true } ∈ u.azm.jobs) ∧
      (∀ j ∈ u.azm.jobs, j.win = w → w.blockStart (j.b + 1) ≤ w.t0 + n * merMs ∨ j.ended = true))) ∧
  (∀ (t : Nat) (s : State), (s.azm.win = none ∨ ∃ w : AzmWin, s.azm.win = some w ∧ w.len = none) →
    Completes (.excWindowElapse t) s fun u => Touches [.dial, .time] s u) ∧
  (∀ (t : Nat) (s : State), Completes (.azmBlockEnd t) s fun u => Touches [.dial, .time, .regs, .ep, .azm, .pmc] s u ∧
    OnlyBlocks [Block.azm, Block.pmc] s u ∧ u.azm.win = s.azm.win ∧ u.azm.pos = s.azm.pos ∧
    ∀ w : AzmWin, s.azm.win = some w → ∀ j ∈ u.azm.jobs, j.win = w → w.blockStart (j.b + 1) ≤ (s.at t).time.mer → j.ended = true) ∧
  ∀ (t : Nat) (s : State),
    ((s.at t).azmDue = none → Completes (.azmBlockReady t) s fun u => Touches [.dial, .time] s u) ∧
    ∀ (j : AzmJob) (r : AzmResult), (s.at t).azmDue = some (j, r) → Completes (.azmBlockReady t) s fun u =>
      Touches [.dial, .time, .regs, .ep, .log, .host, .hlm, .lds, .sxt, .azm, .pmc, .bin] s u ∧
      u.azm.jobs = s.azm.jobs.filter (· ≠ j) ∧ u.azm.win = s.azm.win ∧
      ((r.cells.map (·.1)).Nodup → ∀ c ∈ r.cells, c.1 < s.acq.npos → ∀ v : Int, c.2.tint = some v →
        (u.azmPos c.1).tint = some (v, j.win.blockStart (j.b + 1))) ∧
      ∀ p : Nat, (∀ c ∈ r.cells, c.1 = p → c.2.tint = none) → (u.azmPos p).tint = (s.azmPos p).tint

/-! ## Helm (11_helm.md, R58 to R60) -/

/-- R302, R303, R281: RUN, CEN and CLASS of HLM_CTL. -/
def Obligations.HelmRunsStopsAndTakesClasses : Prop :=
  (∀ (t : Nat) (m : Master) (v : Word) (s : State), v.getLsbD 31 = true → v.getLsbD 30 = true → s.flag F.HLM_CTL_CEN = true →
    getBits v 20 2 = s.fld F.HLM_CTL_CLASS → getBits v 20 2 ≠ 3 → Completes (.helmRunRequest t m v) s fun u =>
      SameRegs [Reg.HLM_CTL, Reg.HLM_STS] s u ∧ Touches [.dial, .time, .regs, .hlm] s u ∧
      u.fld F.HLM_CTL_VLOOP = getBits v 29 1 ∧ u.flag F.HLM_CTL_CEN = true ∧ u.fld F.HLM_CTL_CLASS = s.fld F.HLM_CTL_CLASS ∧
      (s.helmRun = true → u.hlm = s.hlm ∧ u.helmRun = true ∧ u.word Reg.HLM_STS = s.word Reg.HLM_STS) ∧
      (s.helmRun = false → (s.at t).helmMayRun = true → u.hlm = { s.hlm with entry := true } ∧ u.helmRun = true ∧
        u.flag F.HLM_CTL_RUN = true ∧ u.word Reg.HLM_STS = s.word Reg.HLM_STS) ∧
      (s.helmRun = false → (s.at t).helmMayRun = false → u.hlm = s.hlm ∧ u.helmRun = false ∧ u.flag F.HLM_CTL_RUN = false ∧
        u.flag F.HLM_STS_CFG_REJ = true)) ∧
  (∀ (t : Nat) (m : Master) (v : Word) (s : State), v.getLsbD 31 = false → v.getLsbD 30 = true → s.flag F.HLM_CTL_CEN = true →
    getBits v 20 2 = s.fld F.HLM_CTL_CLASS → getBits v 20 2 ≠ 3 → Completes (.helmStop t m v) s fun u =>
      Touches [.dial, .time, .regs, .hlm] s u ∧ SameRegs [Reg.HLM_CTL] s u ∧ u.helmRun = false ∧ u.flag F.HLM_CTL_RUN = false ∧
      u.flag F.HLM_CTL_CEN = true ∧ u.hlm = { s.hlm with entry := false, duties := [], legs := [] } ∧ ∀ k : Nat, u.pwm k = (false, false)) ∧
  (∀ (t : Nat) (m : Master) (v : Word) (s : State), v.getLsbD 30 = false → Completes (.carrierEnable t m v) s fun u =>
    u.carrierRun = false ∧ u.flag F.HLM_CTL_CEN = false ∧ u.helmRun = false ∧ u.flag F.HLM_CTL_RUN = false ∧
    ((s.at t).carrierRun = true → u.flag F.TIME_PTPSTS_CARRIER_LOST = true ∧ ∀ w < 64, ∀ x ∈ (u.watch w).slots, x.base ≠ 2)) ∧
  (∀ (t : Nat) (m : Master) (v : Word) (s : State), v.getLsbD 30 = true → v.getLsbD 31 = false → s.flag F.HLM_CTL_CEN = false →
    getBits v 20 2 = s.fld F.HLM_CTL_CLASS → getBits v 20 2 ≠ 3 → Completes (.carrierEnable t m v) s fun u =>
      Touches [.dial, .time, .regs, .hlm] s u ∧ SameRegs [Reg.HLM_CTL, Reg.TIME_PTPSTS] s u ∧ u.carrierRun = true ∧
      u.flag F.HLM_CTL_CEN = true ∧ u.hlm.carrierAt = (s.at t).dial ∧ u.hlm.cper = s.fld F.HLM_CARRIER_CPER ∧ u.helmRun = false) ∧
  (∀ (t : Nat) (m : Master) (v : Word) (s : State), v.getLsbD 30 = true → s.flag F.HLM_CTL_CEN = true →
    Completes (.classSelect t m v) s fun u => Touches [.dial, .time, .regs, .hlm] s u ∧ SameRegs [Reg.HLM_CTL, Reg.HLM_STS] s u ∧
      (getBits v 20 2 = 3 → u.fld F.HLM_CTL_CLASS = s.fld F.HLM_CTL_CLASS ∧ u.hlm.sp = s.hlm.sp ∧ u.flag F.HLM_STS_CLASS_REJ = true) ∧
      (getBits v 20 2 < 3 → u.fld F.HLM_CTL_CLASS = getBits v 20 2 ∧ u.hlm.sp = if getBits v 20 2 = s.fld F.HLM_CTL_CLASS then s.hlm.sp
        else s.hlm.sp ++ [⟨(s.at t).dial, 2, BitVec.ofNat 32 (getBits v 20 2), false⟩])) ∧
  ∀ (t : Nat) (s : State),
    (s.carrierRun = false → Completes (.carrierStop t) s fun u => Touches [.dial, .time] s u) ∧
    (s.carrierRun = true → Completes (.carrierStop t) s fun u => u.carrierRun = false ∧
      u.flag F.TIME_PTPSTS_CARRIER_LOST = true ∧ (∀ w < 64, ∀ x ∈ (u.watch w).slots, x.base ≠ 2) ∧
      (∀ w < 64, u.waits w (fun c _ => c == 4) = false) ∧ ∀ w ∈ u.pilot.waiting, ∀ a : Nat, w.what ≠ .carrier a)

/-- R280 to R284, R291, R302: Helm's registers, set-points, valleys and duties. -/
def Obligations.HelmTakesItsWritesAndSamples : Prop :=
  (∀ (t : Nat) (m : Master) (v : Word) (s : State),
    ((s.helmRun = true ∨ popCount 8 (getBits v 0 8) = 0 ∨ 6 < popCount 8 (getBits v 0 8)) → Completes (.legsWrite t m v) s fun u =>
      Touches [.dial, .time, .regs] s u ∧ SameRegs [Reg.HLM_STS] s u ∧ u.flag F.HLM_STS_CFG_REJ = true) ∧
    (s.helmRun = false → 1 ≤ popCount 8 (getBits v 0 8) → popCount 8 (getBits v 0 8) ≤ 6 → Completes (.legsWrite t m v) s fun u =>
      Touches [.dial, .time, .regs] s u ∧ SameRegs [Reg.HLM_LEGS] s u ∧ u.fld F.HLM_LEGS_MAP = getBits v 0 8 ∧
      u.fld F.HLM_LEGS_N = popCount 8 (getBits v 0 8)) ∧
    ((getBits v 0 14 < 1000 ∨ 10000 < getBits v 0 14 ∨ (s.helmRun = true ∧ getBits v 0 14 ≠ s.fld F.HLM_CARRIER_CPER)) →
      Completes (.carrierWrite t m v) s fun u => Touches [.dial, .time, .regs] s u ∧ SameRegs [Reg.HLM_STS] s u ∧
        u.flag F.HLM_STS_CFG_REJ = true) ∧
    (1000 ≤ getBits v 0 14 → getBits v 0 14 ≤ 10000 → (s.helmRun = false ∨ getBits v 0 14 = s.fld F.HLM_CARRIER_CPER) →
      Completes (.carrierWrite t m v) s fun u => Touches [.dial, .time, .regs] s u ∧ SameRegs [Reg.HLM_CARRIER] s u ∧
        u.fld F.HLM_CARRIER_CPER = getBits v 0 14 ∧ u.fld F.HLM_CARRIER_DT = getBits v 24 8)) ∧
  (∀ (t n : Nat) (m : Master) (v : Word) (s : State), n < 8 →
    ((Fl.ofWord v).isFinite = true → Completes (.coefficientWrite t m n v) s fun u => Touches [.dial, .time, .regs, .hlm] s u ∧
      SameRegs [Reg.HLM_KP + 4 * n] s u ∧ u.word (Reg.HLM_KP + 4 * n) = v ∧
      u.hlm = { s.hlm with coefQ := s.hlm.coefQ ++ [⟨(s.at t).dial, n, v⟩] }) ∧
    ((Fl.ofWord v).isFinite = false → Completes (.coefficientWrite t m n v) s fun u => Touches [.dial, .time, .regs] s u ∧
      SameRegs [Reg.HLM_STS] s u ∧ u.flag F.HLM_STS_COEF_REJ = true)) ∧
  (∀ (t off sel : Nat) (m : Master) (v : Word) (s : State),
    (off, sel) ∈ [(Reg.HLM_HOSTI, 0), (Reg.HLM_HOSTV, 1), (Reg.HLM_RCTGT, 3)] → Completes (.hostSetpointWrite t m off v) s fun u =>
      Touches [.dial, .time, .regs, .hlm] s u ∧ SameRegs [off] s u ∧ u.word off = v ∧
      u.hlm = { s.hlm with sp := s.hlm.sp ++ [⟨(s.at t).dial, sel, v, false⟩] }) ∧
  (∀ (t : Nat) (s : State),
    (s.hlm.duties = [] → Completes (.helmDutyLatch t) s fun u => Touches [.dial, .time] s u) ∧
    (s.hlm.duties ≠ [] → Completes (.helmDutyLatch t) s fun u => Touches [.dial, .time, .hlm] s u ∧ u.hlm.duties = [] ∧
      u.hlm.rs = s.hlm.rs ∧ u.hlm.x = s.hlm.x ∧ ∀ j < s.hlm.duties.length,
        (Tab.get (fun _ => ⟨0, 0, 0⟩) u.hlm.legs j).new = s.hlm.duties.getD j 0 ∧
        (Tab.get (fun _ => ⟨0, 0, 0⟩) u.hlm.legs j).old = (s.at t).legCmp j)) ∧
  ∀ (t : Nat) (x : HelmIn) (s : State),
    (s.carrierRun = false → Completes (.carrierValley t x) s fun u => Touches [.dial, .time] s u) ∧
    (s.carrierRun = true → Completes (.carrierValley t x) s fun u => u.word Reg.TIME_CARRIER = s.word Reg.TIME_CARRIER + 1 ∧
      u.time.valleyAt = (s.at t).dial ∧ u.hlm.cper = s.fld F.HLM_CARRIER_CPER ∧
      u.hlm.coefQ = s.hlm.coefQ.filter (fun w => !decide (w.at_ + 10 ≤ (s.at t).dial)) ∧
      u.hlm.sp = s.hlm.sp.filter (fun w => !decide (w.at_ + 10 ≤ (s.at t).dial)) ∧
      u.word Reg.HLM_COEFCNT = s.word Reg.HLM_COEFCNT +
        BitVec.ofNat 32 (s.hlm.coefQ.filter fun w => decide (w.at_ + 10 ≤ (s.at t).dial)).length ∧
      (s.helmRun = false → u.word Reg.HLM_NSAMP = s.word Reg.HLM_NSAMP) ∧
      (s.helmRun = true → u.word Reg.HLM_NSAMP = s.word Reg.HLM_NSAMP + 1 ∧
        ((∀ w ∈ s.pilot.waiting, ∀ a, w.what ≠ .ramp a) → u.hlm.duties.length = s.usedLegs.length ∧
          u.hlm.latchAt = (s.at t).dial + 1250)))

/-! ## Dispatch sources and HVAC (11_helm.md, 12_dispatch.md) -/

/-- R297, R298, R320, R321: the SPP input, and the HVAC link over CAN2. -/
def Obligations.SppIsMeasuredAndHvacIsDriven : Prop :=
  (∀ (t per high : Nat) (s : State),
    (s.dspSrc = 0 → Completes (.sppPeriod t per high) s fun u => Touches [.dial, .time, .hlm] s u ∧
      u.hlm = { s.hlm with sppPer := per, sppHigh := min high per, sppAt := (s.at t).dial }) ∧
    (s.dspSrc ≠ 0 → Completes (.sppPeriod t per high) s fun u => Touches [.dial, .time, .regs, .hlm] s u ∧ SameRegs [Reg.HLM_STS] s u ∧
      u.hlm.sppPer = per ∧ u.hlm.sppHigh = min high per ∧ u.hlm.sppAt = (s.at t).dial ∧ u.flag F.HLM_STS_SRCFAULT_L = u.hlm.srcFault ∧
      ∀ ok : Bool, ok = (if s.dspSrc = 1 then decide (20000 ≤ per ∧ per ≤ 200000)
          else decide (0 < per ∧ 5 * per ≤ 100 * min high per ∧ 100 * min high per ≤ 95 * per)) →
        u.hlm.srcFault = if s.hlm.srcFault then !(ok && decide (15 ≤ s.hlm.srcGood)) else !ok)) ∧
  (∀ (t : Nat) (s : State),
    (s.dspSrc ≠ 0 → s.hlm.sppAt + 2000000 ≤ (s.at t).dial → Completes (.sppTimeout t) s fun u =>
      Touches [.dial, .time, .regs, .hlm] s u ∧ SameRegs [Reg.HLM_STS] s u ∧ u.flag F.HLM_STS_SRCFAULT = true ∧
      u.flag F.HLM_STS_SRCFAULT_L = true ∧ u.hlm = { s.hlm with srcFault := true, srcGood := 0 }) ∧
    ((s.dspSrc = 0 ∨ (s.at t).dial < s.hlm.sppAt + 2000000) → Completes (.sppTimeout t) s fun u => Touches [.dial, .time] s u)) ∧
  (∀ (t : Nat) (s : State),
    ((s.flag F.DSP_CTL_HVEN = false ∨ s.activeRole = false ∨ ∃ a : Nat, s.dsp.hvSentAt = some a ∧ (s.at t).dial < a + s.hvper) →
      Completes (.hvacFrameSend t) s fun u => Touches [.dial, .time] s u) ∧
    (s.flag F.DSP_CTL_HVEN = true → s.activeRole = true → (∀ a : Nat, s.dsp.hvSentAt = some a → a + s.hvper ≤ (s.at t).dial) →
      Completes (.hvacFrameSend t) s fun u => Touches [.dial, .time, .regs, .can, .dsp] s u ∧ OnlyBlocks [Block.can] s u ∧
        u.dsp.hvMode = s.hvacMode.1 ∧ u.dsp.hvDem = s.hvacMode.2 ∧ u.dsp.hvSeq = (s.dsp.hvSeq + 1) % 256 ∧
        u.dsp.hvSentAt = some ((s.at t).dial) ∧
        ((s.can1 2).queue.length < 16 → ∃ e : CanTx, (u.can1 2).queue = (s.can1 2).queue ++ [e] ∧
          e.words.getD 0 0 = s.word Reg.DSP_HVID &&& 0x9FFFFFFF#32 ∧ e.words.getD 1 0 = 0x08000000#32 ∧
          (s.hvacMode.2 < 256 → (e.words.getD 2 0).toNat % 65536 = 256 * s.hvacMode.2 + s.hvacMode.1)) ∧
        (16 ≤ (s.can1 2).queue.length → (u.can1 2).queue = (s.can1 2).queue ∧
          u.fld (F.CAN_TXCNT_TXDROP 2) = min (s.fld (F.CAN_TXCNT_TXDROP 2) + 1) 65535))) ∧
  ∀ (t b : Nat) (s : State),
    Completes (.hvacStatusReceive t b) s (fun u => Touches [.dial, .time, .regs, .dsp] s u ∧ SameRegs [Reg.DSP_STS] s u ∧
      u.dsp = { s.dsp with hvSt := b % 256, hvRxAt := (s.at t).dial } ∧ u.flag F.DSP_STS_HVAC_LOST_L = false ∧
      (b.testBit 1 = true → u.flag F.DSP_STS_HVAC_FAULT = true) ∧ (b.testBit 1 = false →
        u.flag F.DSP_STS_HVAC_FAULT = s.flag F.DSP_STS_HVAC_FAULT)) ∧
    (s.dsp.hvRxAt + 3 * s.hvper ≤ (s.at t).dial → Completes (.hvacLost t) s fun u => Touches [.dial, .time, .regs] s u ∧
      SameRegs [Reg.DSP_STS] s u ∧ u.flag F.DSP_STS_HVAC_LOST = true ∧ u.flag F.DSP_STS_HVAC_LOST_L = true) ∧
    ((s.at t).dial < s.dsp.hvRxAt + 3 * s.hvper → Completes (.hvacLost t) s fun u => Touches [.dial, .time] s u)

/-! ## Lodestone: output stages (14_safety_io.md) -/

/-- R322, R356, R363: a write of BIN_OUTREQ. -/
def Obligations.CloseRequestsStartAndEndOutputs : Prop :=
  ∀ (t : Nat) (m : Master) (v : Word) (c : Instr) (s : State), c ∈ [Instr.closeRequest t m v, Instr.closeRelease t m v] →
    (s.followsTwin = true → Completes c s fun u => Touches [.dial, .time] s u) ∧
    (s.followsTwin = false → Completes c s fun u => Touches [.dial, .time, .regs, .log, .hlm, .lds] s u ∧
      OnlyBlocks [Block.hlm, Block.lds, Block.bin, Block.log] s u ∧ ∀ n < 4,
        (v.getLsbD n = false → u.outReq n = false) ∧
        (v.getLsbD n = false → s.energized n = true → s.outReq n = true → (s.outSt n).phase = .rest → u.energized n = false ∧
          (u.outSt n).phase = .releasing ∧ u.flag (F.LDS_OUT_SEQ_L n) = true ∧
          (s.testMode = 1 → u.flag (F.LDS_OUT_HS_DRV_L n) = false ∧ u.flag (F.LDS_OUT_LS_DRV_L n) = false) ∧
          (s.testMode ≠ 1 → (s.outSt n).pulse ≠ .open_ →
            if s.flag (F.LDS_OUT_NEXTFIRST n) then u.flag (F.LDS_OUT_LS_DRV_L n) = false ∧
              u.flag (F.LDS_OUT_HS_DRV_L n) = s.flag (F.LDS_OUT_HS_DRV_L n)
            else u.flag (F.LDS_OUT_HS_DRV_L n) = false ∧ u.flag (F.LDS_OUT_LS_DRV_L n) = s.flag (F.LDS_OUT_LS_DRV_L n))) ∧
        (v.getLsbD n = true → s.outReq n = false → ((s.outSt n).phase = .releasing ∨ s.flag F.UPD_STS_HOLD = true) →
          u.outReq n = false ∧ u.flag (F.LDS_OUT_CLOSE_REJ n) = true) ∧
        (v.getLsbD n = true → s.outReq n = false → s.discards n = true → u.outReq n = false) ∧
        (v.getLsbD n = true → s.outReq n = false → s.energized n = false → (s.outSt n).phase = .rest → s.flag F.UPD_STS_HOLD = false →
          s.discards n = false → (s.at t).permitted n = true → s.anyPulse = false →
          (n < 2 ∨ (v.getLsbD 1 = true ∧ s.outReq 1 = true ∧ (s.at t).permitted 1 = true)) →
          (s.waitsTwin n = true → u.outReq n = true ∧ (u.outSt n).phase = .rest ∧
            u.flag (F.LDS_OUT_LS_DRV_L n) = s.flag (F.LDS_OUT_LS_DRV_L n)) ∧
          (s.waitsTwin n = false →
            (s.flag (F.LDS_OUT_HS_RB_L n) || s.flag (F.LDS_OUT_LS_RB_L n) || (s.loadEval && s.flag (F.LDS_OUT_LOAD_RB_L n))) = false →
            u.outReq n = true ∧ (u.outSt n).phase = .energizing ∧ (u.outSt n).from_ = s.lds.tick ∧
            u.flag (F.LDS_OUT_LS_DRV_L n) = true ∧ u.flag (F.LDS_OUT_SEQ_L n) = true) ∧
          (s.waitsTwin n = false →
            (s.flag (F.LDS_OUT_HS_RB_L n) || s.flag (F.LDS_OUT_LS_RB_L n) || (s.loadEval && s.flag (F.LDS_OUT_LOAD_RB_L n))) = true →
            EnergizeFails n 1 s u)))

/-- R356, R357, R358: the checks of the energize and de-energize sequences. R360 to R363, R377: off-pulses, the proof warning, and the wait for the twin.
-/
def Obligations.SequencesAndOffPulsesAreChecked : Prop :=
  (∀ (t n : Nat) (hs ls load : Bool) (s : State), n < 4 → s.energized n = false →
     ((s.outSt n).phase ≠ .energizing → Completes (.energizeCheck t n hs ls load) s fun u => OnlySamples n hs ls load s u) ∧
     ((s.outSt n).phase = .energizing →
       ((s.lds.tick < (s.outSt n).from_ + (if (s.outSt n).step = 0 then 1 else if (s.outSt n).step = 1 then 3 else 1 + tload n)) →
         Completes (.energizeCheck t n hs ls load) s fun u => OnlySamples n hs ls load s u) ∧
       ((s.outSt n).step = 0 → (s.outSt n).from_ + 1 ≤ s.lds.tick →
         ((hs || ls) = true → Completes (.energizeCheck t n hs ls load) s fun u => EnergizeFails n 2 s u) ∧
         ((hs || ls) = false → Completes (.energizeCheck t n hs ls load) s fun u => Touches [.dial, .time, .regs, .lds] s u ∧
           SameRegs [Reg.LDS_OUT n] s u ∧ (u.outSt n).step = 1 ∧ (u.outSt n).phase = .energizing ∧
           u.flag (F.LDS_OUT_HS_DRV_L n) = true ∧ u.flag (F.LDS_OUT_LS_DRV_L n) = s.flag (F.LDS_OUT_LS_DRV_L n))) ∧
       ((s.outSt n).step = 1 → (s.outSt n).from_ + 3 ≤ s.lds.tick →
         ((hs && !ls) = false → Completes (.energizeCheck t n hs ls load) s fun u => EnergizeFails n 2 s u) ∧
         ((hs && !ls) = true → Completes (.energizeCheck t n hs ls load) s fun u => Touches [.dial, .time, .regs, .lds] s u ∧
           SameRegs [Reg.LDS_OUT n] s u ∧ (u.outSt n).step = 2 ∧ (u.outSt n).phase = .energizing)) ∧
       (2 ≤ (s.outSt n).step → (s.outSt n).from_ + (1 + tload n) ≤ s.lds.tick →
         ((load || !s.loadEval) = false → Completes (.energizeCheck t n hs ls load) s fun u => EnergizeFails n 3 s u) ∧
         ((load || !s.loadEval) = true → Completes (.energizeCheck t n hs ls load) s fun u => (u.outSt n).since = s.lds.tick ∧
           ((s.at t).staysPermitted n → u.energized n = true ∧ u.flag (F.LDS_OUT_SEQ_L n) = false ∧ (u.outSt n).phase = .rest ∧
             u.outReq n = true)))) ∧
     ((s.outSt n).phase ≠ .releasing → Completes (.deenergizeCheck t n hs ls load) s fun u => OnlySamples n hs ls load s u) ∧
     ((s.outSt n).phase = .releasing → s.outReq n = false →
       ((s.lds.tick < (s.outSt n).from_ + (if (s.outSt n).step = 0 then 2 else if (s.outSt n).step = 1 then 4 else max 4 (tload n))) →
         Completes (.deenergizeCheck t n hs ls load) s fun u => OnlySamples n hs ls load s u) ∧
       ((s.outSt n).step = 0 → (s.outSt n).from_ + 2 ≤ s.lds.tick → Completes (.deenergizeCheck t n hs ls load) s fun u =>
         u.flag (F.LDS_OUT_HS_DRV_L n) = false ∧ u.flag (F.LDS_OUT_LS_DRV_L n) = false ∧ (u.outSt n).step = 1 ∧
         (u.outSt n).phase = .releasing ∧ u.fld (F.LDS_OUT_OUTFAULT n) =
           (if s.fld (F.LDS_OUT_OUTFAULT n) ≠ 0 ∨ (if (s.outSt n).first = 0 then !hs else ls) = true then s.fld (F.LDS_OUT_OUTFAULT n) else 4)) ∧
       ((s.outSt n).step = 1 → (s.outSt n).from_ + 4 ≤ s.lds.tick → Completes (.deenergizeCheck t n hs ls load) s fun u =>
         (u.outSt n).step = 2 ∧ (u.outSt n).phase = .releasing ∧ u.fld (F.LDS_OUT_OUTFAULT n) =
           (if s.fld (F.LDS_OUT_OUTFAULT n) ≠ 0 ∨ (hs || ls) = false then s.fld (F.LDS_OUT_OUTFAULT n) else 5)) ∧
       (2 ≤ (s.outSt n).step → (s.outSt n).from_ + max 4 (tload n) ≤ s.lds.tick →
         Completes (.deenergizeCheck t n hs ls load) s fun u =>
           (u.outSt n).phase = .rest ∧ u.flag (F.LDS_OUT_SEQ_L n) = false ∧
           u.fld (F.LDS_OUT_OUTFAULT n) =
             (if s.fld (F.LDS_OUT_OUTFAULT n) ≠ 0 ∨ (load && s.loadEval) = false then s.fld (F.LDS_OUT_OUTFAULT n) else 6) ∧
           u.flag (F.LDS_OUT_NEXTFIRST n) =
             (if (s.outSt n).failed || (load && s.loadEval) then s.flag (F.LDS_OUT_NEXTFIRST n) else !s.flag (F.LDS_OUT_NEXTFIRST n))))) ∧
  (∀ (t n : Nat) (hs ls : Bool) (s : State), n < 4 →
     ((s.testMode = 0 ∨ s.lds.tick % 10000 ≠ 2500 * n) → Completes (.offPulseStart t n) s fun u => Touches [.dial, .time] s u) ∧
     (s.testMode ≠ 0 → s.lds.tick % 10000 = 2500 * n → s.energized n = true → (s.outSt n).since + 1000 ≤ s.lds.tick →
       (s.outSt n).pulse = .none → Completes (.offPulseStart t n) s fun u => Touches [.dial, .time, .regs, .lds] s u ∧
         SameRegs [Reg.LDS_OUT n] s u ∧ (u.outSt n).pulse = .open_ ∧ (u.outSt n).pulseLow = (s.outSt n).nextLow ∧
         u.energized n = true ∧ u.flag (F.LDS_OUT_SEQ_L n) = true ∧
         (if (s.outSt n).nextLow then u.flag (F.LDS_OUT_LS_DRV_L n) = false ∧ u.flag (F.LDS_OUT_HS_DRV_L n) = s.flag (F.LDS_OUT_HS_DRV_L n)
           else u.flag (F.LDS_OUT_HS_DRV_L n) = false ∧ u.flag (F.LDS_OUT_LS_DRV_L n) = s.flag (F.LDS_OUT_LS_DRV_L n))) ∧
     ((s.outSt n).pulse = .none → Completes (.offPulseCheck t n hs ls) s fun u =>
       OnlySamples n hs ls (s.flag (F.LDS_OUT_LOAD_RB_L n)) s u) ∧
     ((s.outSt n).pulse = .open_ → (if (s.outSt n).pulseLow then ls else !hs && !ls) = true → s.energized n = true →
       (s.outSt n).phase = .rest → (s.at t).staysPermitted n → Completes (.offPulseCheck t n hs ls) s fun u =>
         (u.outSt n).pulse = .ended ∧ (u.outSt n).nextLow = (!(s.outSt n).pulseLow) ∧ u.energized n = true ∧
         u.flag (F.LDS_OUT_SEQ_L n) = false ∧
         u.flag (if (s.outSt n).pulseLow then F.LDS_OUT_LS_DRV_L n else F.LDS_OUT_HS_DRV_L n) = true) ∧
     (((s.outSt n).pulse = .open_ ∧ (if (s.outSt n).pulseLow then ls else !hs && !ls) = false) ∨
         ((s.outSt n).pulse = .ended ∧ (hs && !ls) = false) → Completes (.offPulseCheck t n hs ls) s fun u =>
       u.fld (F.LDS_OUT_OUTFAULT n) = (if s.fld (F.LDS_OUT_OUTFAULT n) = 0 then 7 else s.fld (F.LDS_OUT_OUTFAULT n)) ∧
       MadeSafe (2 ^ n) s u) ∧
     ((s.outSt n).pulse = .ended → (hs && !ls) = true → Completes (.offPulseCheck t n hs ls) s fun u =>
       Touches [.dial, .time, .regs, .wear, .lds] s u ∧ SameRegs [Reg.LDS_OUT n] s u ∧ (u.outSt n).pulse = .none ∧
       u.energized n = s.energized n) ∧
     (s.testMode = 0 → s.energized n = true → 86400000 ≤ (s.outSt n).age → s.flag (F.LDS_OUT_PROOF_WARN n) = false →
       s.log.queue.length < 64 → Completes (.proofWarn t n) s fun u => Touches [.dial, .time, .regs, .log] s u ∧
         SameRegs [Reg.LDS_OUT n] s u ∧ u.flag (F.LDS_OUT_PROOF_WARN n) = true ∧ u.energized n = true ∧
         ∃ e : LogEv, u.log.queue = s.log.queue ++ [e] ∧ e.code = 0x0B05 ∧ e.sev = 1) ∧
     ((s.testMode ≠ 0 ∨ s.energized n = false ∨ (s.outSt n).age < 86400000) → Completes (.proofWarn t n) s fun u =>
       Touches [.dial, .time] s u) ∧
     (∀ d : Nat, (s.outSt n).twinWait = some d → d + 500000000 ≤ (s.at t).dial → s.outReq n = true →
       Completes (.twinEnergizeTimeout t n) s fun u => Touches [.dial, .time, .regs, .lds] s u ∧
         SameRegs [Reg.BIN_OUTREQ, Reg.LDS_OUT n] s u ∧ u.outReq n = false ∧ u.flag (F.LDS_OUT_CLOSE_REJ n) = true ∧
         (u.outSt n).twinWait = none) ∧
     ((s.outSt n).twinWait = none → Completes (.twinEnergizeTimeout t n) s fun u => Touches [.dial, .time] s u))

/-! ## Lodestone and Binnacle: trips and dead reckoning (13_safety_functions.md, 14_safety_io.md) -/

/-- R333 to R335, R329, R349 to R352: detections of Lodestone latch their causes and make their outputs safe. R324 to R326, R339: Binnacle's demands and
permits. -/
def Obligations.DetectionsAndDemandsTrip : Prop :=
  ((∀ (t r : Nat) (s : State), r < 4 → s.lds.up = true →
     Completes (.faultLoopLoss t r) s (fun u => Touches [.dial, .time, .regs, .log, .host, .hlm, .lds] s u ∧
       TripsOn F.LDS_TRIP_FL 15 s u ∧ u.word Reg.TRV_FLSTS = setBits (setBits (s.word Reg.TRV_FLSTS) (4 + r) 1 1) r 1 0 ∧
       ((s.fld F.LDS_DRM_STATE = 1 ∨ s.fld F.LDS_DRM_STATE = 2) → u.fld F.LDS_DRM_STATE = 3) ∧ u.flag F.UPD_STS_HOLD = false) ∧
     Completes (.flFast t r) s (fun u => Touches [.dial, .time, .regs, .log, .host, .hlm, .lds] s u ∧
       TripsOn F.LDS_TRIP_FL 15 s u ∧ u.word Reg.TRV_FLSTS = setBits (setBits (s.word Reg.TRV_FLSTS) (8 + r) 1 1) r 1 0) ∧
     Completes (.faultLoopReturn t r) s (fun u => Touches [.dial, .time, .regs, .log, .hlm, .lds] s u ∧
       u.word Reg.TRV_FLSTS = setBits (s.word Reg.TRV_FLSTS) r 1 1 ∧ u.flag F.LDS_TRIP_FL = s.flag F.LDS_TRIP_FL)) ∧
   (∀ (t k : Nat) (s : State),
     ((s.at t).armFault k = true → Completes (.armedThresholdFault t k) s fun u => TripsOn F.LDS_TRIP_ARMCRC 15 s u) ∧
     ((s.at t).armFault k = false → Completes (.armedThresholdFault t k) s fun u => Touches [.dial, .time] s u)) ∧
   (∀ (t : Nat) (a b : Bool) (s : State), Completes (.overcurrent t a b) s fun u =>
     u.lds.oc = b2n a + 2 * b2n b ∧ u.lds.ocAt = (if s.lds.oc = 0 then s.lds.tick else s.lds.ocAt) ∧
     (a = true → TripsOn F.LDS_TRIP_OCA 12 s u) ∧ (b = true → u.flag F.LDS_TRIP_OCB = true ∧ MadeSafe 12 s u) ∧
     (a = false → b = false → Touches [.dial, .time, .lds] s u)) ∧
   (∀ (t : Nat) (s : State),
     (s.lds.oc ≠ 0 → s.lds.ocAt + 20 ≤ s.lds.tick → (s.flag F.LDS_TRIP_OCA || s.flag F.LDS_TRIP_OCB) = true →
       Completes (.overcurrentContactorTrip t) s fun u => u.lds.ocAll = true ∧ MadeSafe 15 s u) ∧
     ((s.lds.oc = 0 ∨ s.lds.tick < s.lds.ocAt + 20) → Completes (.overcurrentContactorTrip t) s fun u => Touches [.dial, .time] s u) ∧
     ((∀ k < 4, Tab.get (fun _ => 0) s.lds.lth k < 4) → Completes (.overTemperature t) s fun u => Touches [.dial, .time] s u) ∧
     (∀ k < 4, 4 ≤ Tab.get (fun _ => 0) s.lds.lth k → Completes (.overTemperature t) s fun u => TripsOn F.LDS_TRIP_LTH 15 s u ∧
       (u.word Reg.LDS_TRIP).getLsbD (6 + k) = true)) ∧
   (∀ (t v : Nat) (s : State), Completes (.sealRead t v) s fun u => u.fld F.LDS_SEALNOW_SEALCHK = v % 2 ^ 20 / 65536 ∧
     u.fld F.LDS_SEALNOW_SEAL = v % 65536 ∧ u.lds.sealPrev = v % 2 ^ 20 ∧
     ∀ pv : Nat, pv = (s.word Reg.LDS_SEAL).toNat % 2 ^ 20 →
       (s.lds.up = true → s.lds.sealPrev = v % 2 ^ 20 → v % 2 ^ 20 ≠ pv → u.flag F.LDS_SEAL_SEAL_CHANGED = true ∧
         TripsOn F.LDS_TRIP_SEAL 15 s u) ∧
       (s.lds.up = true → s.lds.sealPrev ≠ pv → v % 2 ^ 20 = pv → u.flag F.LDS_SEAL_SEAL_GLITCH = true ∧
         SameRegs [Reg.LDS_SEALNOW, Reg.LDS_SEAL] s u) ∧
       ((s.lds.up = false ∨ (s.lds.sealPrev = pv ∧ v % 2 ^ 20 = pv)) → SameRegs [Reg.LDS_SEALNOW] s u)) ∧
   (∀ (t n : Nat) (a b dem : Bool) (s : State), n < 8 → s.lds.up = true → dem = (!a || (if s.pairAnt n then b else !b)) →
     Completes (.inputFilterPass t n a b) s fun u => Touches [.dial, .time, .regs, .log, .host, .hlm, .lds] s u ∧
       u.word Reg.LDS_INRAW = setBits (setBits (s.word Reg.LDS_INRAW) n 1 (b2n a)) (8 + n) 1 (b2n b) ∧
       ((dem = true ∨ (s.pairDisc n = true ∧ s.lds.both.testBit n = false)) → TripsOn F.LDS_TRIP_INPUT (pairMask n) s u ∧
         (u.fld F.LDS_INSTS_DEMAND).testBit n = true ∧ (u.fld F.LDS_INSTS_DEMAND_L).testBit n = true) ∧
       (dem = false → (s.pairDisc n = false ∨ s.lds.both.testBit n = true) → u.pairDisc n = false ∧
         (u.fld F.LDS_INSTS_DEMAND_L).testBit n = false ∧ SameRegs [Reg.LDS_INRAW, Reg.LDS_INSTS] s u)) ∧
   ∀ (t n : Nat) (s : State), n < 8 →
     ((s.pairIn n).1 ≠ (s.pairIn n).2 → s.tdTicks ≤ Tab.get (fun _ => 0) s.lds.dis n → Completes (.discrepancy t n) s fun u =>
       u.pairDisc n = true ∧ TripsOn F.LDS_TRIP_INPUT (pairMask n) s u) ∧
     (((s.pairIn n).1 = (s.pairIn n).2 ∨ Tab.get (fun _ => 0) s.lds.dis n < s.tdTicks) → Completes (.discrepancy t n) s fun u =>
       Touches [.dial, .time] s u)) ∧
  ((∀ (t mask lost : Nat) (s : State), lost = s.fld F.LDS_TRIP_BPERMIT_L &&& mask →
     Completes (.safeBLow t) s (fun u => u.lds.safeB = false ∧ TripsOn F.LDS_TRIP_BIN_DEMAND 15 s u) ∧
     Completes (.bpermitLoss t mask) s (fun u => u.fld F.LDS_TRIP_BPERMIT_L = s.fld F.LDS_TRIP_BPERMIT_L &&& (15 ^^^ lost) ∧
       (lost ≠ 0 → s.binRunning = true → TripsOn F.LDS_TRIP_BIN_DEMAND lost s u) ∧
       (s.binRunning = false → u.flag F.LDS_TRIP_BIN_DEMAND = s.flag F.LDS_TRIP_BIN_DEMAND)) ∧
     (s.lds.binHeld = true → Completes (.bpermitReturn t mask) s fun u => Touches [.dial, .time] s u) ∧
     (s.lds.binHeld = false → Completes (.bpermitReturn t mask) s fun u =>
       Touches [.dial, .time, .regs, .log, .hlm, .lds] s u ∧ u.fld F.LDS_TRIP_BPERMIT_L = s.fld F.LDS_TRIP_BPERMIT_L ||| mask % 16)) ∧
   (∀ (t d : Nat) (s : State), s.lds.binDelay = some d →
     ((s.at t).dial < d + 1000000000 → Completes (.binnacleDelayedTrip t) s fun u => Touches [.dial, .time] s u) ∧
     (d + 1000000000 ≤ (s.at t).dial → Completes (.binnacleDelayedTrip t) s fun u => u.lds.binDelay = none ∧
       u.fld F.LDS_TRIP_BPERMIT_L = 0 ∧ (s.fld F.LDS_TRIP_BPERMIT_L ≠ 0 → u.flag F.BIN_STS_BIN_TRIP = true ∧
         TripsOn F.LDS_TRIP_BIN_DEMAND (s.fld F.LDS_TRIP_BPERMIT_L) s u))) ∧
   ∀ (t riso : Nat) (s : State),
     (s.binRunning = false → Completes (.insulationEstimate t riso) s fun u => Touches [.dial, .time] s u) ∧
     (s.binRunning = true → Completes (.insulationEstimate t riso) s fun u => u.fld F.BIN_ISO_RISO = min riso 65535 ∧
       ∀ per : Nat → Bool, (∀ n : Nat, per n = decide (1000000 * (riso : Int) < 10 * (n : Int) * s.acq.vstring)) →
         u.flag F.BIN_STS_ISO_WARN_L = per (s.fld F.BIN_ISO_WARN) ∧ (per (s.fld F.BIN_ISO_WARN) = true → u.flag F.BIN_STS_ISO_WARN = true) ∧
         u.bin.isoRun = (if per (s.fld F.BIN_ISO_TRIP) then s.bin.isoRun + 1 else 0) ∧
         (u.bin.isoRun < 2 → u.fld F.LDS_TRIP_BPERMIT_L = s.fld F.LDS_TRIP_BPERMIT_L) ∧
         (2 ≤ u.bin.isoRun → u.fld F.LDS_TRIP_BPERMIT_L = 0 ∧ (s.fld F.LDS_TRIP_BPERMIT_L ≠ 0 →
           TripsOn F.LDS_TRIP_BIN_DEMAND (s.fld F.LDS_TRIP_BPERMIT_L) s u))))

/-- R336, R337, R343, R344, R444, R106: supervision and the entry into dead-reckoning mode. -/
def Obligations.SupervisionEntersDeadReckoning : Prop :=
  (∀ (t : Nat) (s : State),
    (2 ≤ s.lds.fabBad → s.fld F.LDS_DRM_STATE = 0 → Completes (.clkMismatch t) s fun u => EntersDeadReckoning 1 (s.at t) u) ∧
    ((s.lds.fabBad < 2 ∨ s.fld F.LDS_DRM_STATE ≠ 0) → Completes (.clkMismatch t) s fun u => Touches [.dial, .time] s u) ∧
    (s.flag F.UPD_STS_HOLD = false → s.fld F.LDS_DRM_STATE = 0 → Completes (.lockstepMismatch t) s fun u => u.lds.binHeld = true ∧
      u.fld F.LDS_TRIP_BPERMIT_L = 0 ∧ EntersDeadReckoning 2 (s.at t) u) ∧
    Completes (.lockstepMismatch t) s (fun u => ∀ n < 16, s.lockOwner n = 2 → u.lockOwner n = 0) ∧
    (s.flag F.UPD_STS_HOLD = true → Completes (.lockstepMismatch t) s fun u => Touches [.dial, .time, .lds, .ep, .regs] s u ∧
      OnlyBlocks [Block.sys] s u ∧ u.lds = { s.lds with binHeld := true }) ∧
    (s.lds.wdSup = true → s.lds.wdAt + 50 ≤ s.lds.tick → s.fld F.LDS_DRM_STATE = 0 → Completes (.pilotWatchdogExpiry t) s fun u =>
      EntersDeadReckoning 3 (s.at t) u) ∧
    ((s.lds.wdSup = false ∨ s.lds.tick < s.lds.wdAt + 50) → Completes (.pilotWatchdogExpiry t) s fun u => Touches [.dial, .time] s u) ∧
    Completes (.pilotService t) s (fun u => Touches [.dial, .time, .lds] s u ∧
      u.lds = { s.lds with wdSup := true, wdAt := s.lds.tick, rhbAt := some s.lds.tick }) ∧
    (s.lds.up = true → s.pwr.held = false → s.lds.supFrom + 500 ≤ s.lds.tick → Completes (.supervisionStart t) s fun u =>
      u.lds.hbSup = true ∧ u.lds.hbSubst = false ∧ u.lds.wdSup = true ∧
      u.lds.wdAt = (if s.lds.wdSup then s.lds.wdAt else s.lds.tick)) ∧
    (s.lds.tick < s.lds.supFrom + 500 → Completes (.supervisionStart t) s fun u => Touches [.dial, .time] s u)) ∧
  (∀ (t r : Nat) (lost : Nat → Bool) (s : State),
    (∀ j : Nat, lost j = decide ((s.ring j).state = .lost ∧ (s.ring j).lostAt + 100000000 ≤ (s.at t).dial)) →
    (lost r = true → 2 ≤ ((List.range 4).filter lost).length → s.fld F.LDS_DRM_STATE = 0 → Completes (.lostRing t r) s fun u =>
      EntersDeadReckoning 4 (s.at t) u) ∧
    (((List.range 4).filter lost).length < 2 → Completes (.lostRing t r) s fun u => Touches [.dial, .time] s u)) ∧
  (∀ (t : Nat) (m : Master) (s : State),
    Completes (.hb t .pilot) s (fun u => Touches [.dial, .time, .lds] s u ∧ u.lds = { s.lds with rhbAt := some s.lds.tick }) ∧
    (m ≠ .pilot → Completes (.hb t m) s fun u => Touches [.dial, .time] s u)) ∧
  (∀ (t v cyc : Nat) (s : State),
    (s.lds.hbSup = true → 64000 ≤ cyc → s.flag F.UPD_STS_HOLD = false → s.fld F.LDS_DRM_STATE = 0 →
      Completes (.heartbeatTimeout t cyc) s fun u => u.fld F.LDS_TRIP_BPERMIT_L = 0 ∧ EntersDeadReckoning 2 (s.at t) u) ∧
    ((s.lds.hbSup = false ∨ cyc < 64000 ∨ s.flag F.UPD_STS_HOLD = true) →
      Completes (.heartbeatTimeout t cyc) s fun u => Touches [.dial, .time] s u) ∧
    (∀ w : Nat, s.lds.hbLast = some w → s.lds.hbSup = true → (cyc < 16000 ∨ w = v) → s.flag F.UPD_STS_HOLD = false →
      s.fld F.LDS_DRM_STATE = 0 → Completes (.heartbeatWrite t v cyc) s fun u => u.lds.hbLast = some v ∧
        u.fld F.LDS_TRIP_BPERMIT_L = 0 ∧ EntersDeadReckoning 2 (s.at t) u) ∧
    ((s.lds.hbLast = none ∨ s.lds.hbSup = false ∨ (16000 ≤ cyc ∧ s.lds.hbLast ≠ some v)) →
      Completes (.heartbeatWrite t v cyc) s fun u => Touches [.dial, .time, .regs, .log, .hlm, .lds] s u ∧ u.lds.hbLast = some v ∧
        u.lds.hbSup = true ∧ u.lds.hbSubst = false ∧ u.fld F.LDS_DRM_STATE = s.fld F.LDS_DRM_STATE ∧
        (s.lds.hbLast = none → s.word Reg.BIN_VLIM = 0 → ∀ l : Nat × Nat, profileLimits (s.fld F.LDS_CFG_PROFILE) = some l →
          u.fld F.BIN_VLIM_BOV = l.1 - 50 ∧ u.fld F.BIN_VLIM_BUV = l.2 + 100))) ∧
  ∀ (t : Nat) (s : State),
    (s.fld F.LDS_DRM_STATE ≠ 1 → Completes (.holdTimerExpiry t) s fun u => Touches [.dial, .time] s u) ∧
    (s.fld F.LDS_DRM_STATE = 1 → s.takeoverSeen = true → Completes (.holdTimerExpiry t) s fun u => u.fld F.LDS_DRM_STATE = 2) ∧
    (s.fld F.LDS_DRM_STATE = 1 → s.takeoverSeen = false → s.fld F.LDS_DRM_HOLDLEFT = 0 → Completes (.holdTimerExpiry t) s fun u =>
      u.fld F.LDS_DRM_STATE = 3 ∧ u.flag F.LDS_DRM_HOLD_EXPIRED = true ∧ MadeSafe 15 s u) ∧
    (s.fld F.LDS_DRM_STATE = 1 → s.takeoverSeen = false → s.fld F.LDS_DRM_HOLDLEFT ≠ 0 → Completes (.holdTimerExpiry t) s fun u =>
      Touches [.dial, .time] s u)

/-- R328, R334, R336, R344, R98: Lodestone's power-up, its tick, its oscillator's stop, and the PROFILE it injects. -/
def Obligations.LodestoneStartsTicksAndStops : Prop :=
  (∀ (t : Nat) (x : TickIn) (s : State),
    ((s.lds.up = false ∨ s.lds.oscStop = true) → Completes (.lodestoneTick t x) s fun u => Touches [.dial, .time] s u) ∧
    (s.lds.up = true → s.lds.oscStop = false → Completes (.lodestoneTick t x) s fun u => u.lds.tick = s.lds.tick + 1 ∧
      u.lds.fabBad = (if x.fab < 23750 ∨ 26250 < x.fab then s.lds.fabBad + 1 else 0) ∧ u.lds.oc = x.oc % 4 ∧
      u.fld F.LDS_DRM_HOLDLEFT = (if s.fld F.LDS_DRM_STATE = 1 ∧ s.takeoverSeen = false then s.fld F.LDS_DRM_HOLDLEFT - 1
        else s.fld F.LDS_DRM_HOLDLEFT) ∧
      u.fld F.LDS_DRM_STATE = (if s.fld F.LDS_DRM_STATE = 1 ∧ s.takeoverSeen = true then 2 else s.fld F.LDS_DRM_STATE) ∧
      (∀ k < 4, Tab.get (fun _ => 0) u.lds.lth k = if x.lth.testBit k then Tab.get (fun _ => 0) s.lds.lth k + 1 else 0) ∧
      ∀ n < 4, u.flag (F.LDS_OUT_HS_RB_L n) = x.rb.testBit (3 * n) ∧ u.flag (F.LDS_OUT_LS_RB_L n) = x.rb.testBit (3 * n + 1) ∧
        u.flag (F.LDS_OUT_LOAD_RB_L n) = x.rb.testBit (3 * n + 2) ∧
        (s.energized n = true → u.fld (F.LDS_OUT_PROOFAGE n) = min 65535 (((s.outSt n).age + 1) / 3600000)))) ∧
  (∀ (t : Nat) (s : State), Completes (.lodestoneOscStop t) s fun u => Touches [.dial, .time, .regs, .hlm, .lds] s u ∧
    OnlyBlocks [Block.hlm, Block.lds, Block.bin] s u ∧ u.lds.oscStop = true ∧ u.lds.safeB = false ∧ ∀ n < 4,
      u.energized n = false ∧ u.outReq n = false ∧ u.flag (F.LDS_OUT_HS_DRV_L n) = false ∧ u.flag (F.LDS_OUT_LS_DRV_L n) = false ∧
      (u.outSt n).phase = .rest) ∧
  (∀ (t r0 r1 r2 a b : Nat) (safeB : Bool) (s : State),
    (s.lds.up = true → Completes (.lodestonePowerUpEnd t r0 r1 r2 a b safeB) s fun u => Touches [.dial, .time] s u) ∧
    (s.lds.up = false → Completes (.lodestonePowerUpEnd t r0 r1 r2 a b safeB) s fun u => u.lds.up = true ∧ u.lds.tick = 0 ∧
      u.lds.safeB = safeB ∧ u.fld F.LDS_SEAL_SEAL = r2 % 65536 ∧ u.fld F.LDS_SEAL_SEALCHK = r2 % 2 ^ 20 / 65536 ∧
      u.fld F.LDS_CFG_PROFILE = r2 % 16 ∧ u.fld F.LDS_CFG_TDISC = r2 / 16 % 8 ∧ u.fld F.LDS_CFG_ANT03 = r2 / 128 % 2 ∧
      u.fld F.LDS_CFG_HOLD = r2 / 256 % 4 ∧ u.fld F.LDS_CFG_TEST = r2 / 1024 % 4 ∧ u.fld F.LDS_CFG_ANT47 = r2 / 4096 % 2 ∧
      u.fld F.LDS_CFG_RECIPE = r2 / 8192 % 2 ∧ u.fld F.LDS_CFG_OCCLASS = r2 / 16384 % 4 ∧ u.fld F.LDS_INRAW_A = a % 256 ∧
      u.fld F.LDS_INRAW_B = b % 256 ∧
      ((r0 % 2 ^ 20 = r2 % 2 ^ 20 ∧ r1 % 2 ^ 20 = r2 % 2 ^ 20 ∧ sealOk (r2 % 2 ^ 20) = true) →
        u.flag F.LDS_SEAL_SEAL_FAULT = s.flag F.LDS_SEAL_SEAL_FAULT) ∧
      ((r0 % 2 ^ 20 ≠ r2 % 2 ^ 20 ∨ r1 % 2 ^ 20 ≠ r2 % 2 ^ 20 ∨ sealOk (r2 % 2 ^ 20) = false) →
        u.flag F.LDS_SEAL_SEAL_FAULT = true ∧ u.flag F.LDS_TRIP_SEAL = true ∧ MadeSafe 15 s u))) ∧
  ∀ (t r : Nat) (s : State), r < 4 →
    (s.thresholds = none → Completes (.profileInject t r) s fun u => Touches [.dial, .time] s u) ∧
    ((s.at t).profDue r = false → Completes (.profileInject t r) s fun u => Touches [.dial, .time] s u) ∧
    (∀ thr : List Nat, s.thresholds = some thr → (s.at t).profDue r = true → Completes (.profileInject t r) s fun u =>
      Touches [.dial, .time, .trv] s u ∧ u.trv.tiles = s.trv.tiles ∧ (u.ring r).profAt = (s.at t).dial ∧ (u.ring r).profDue = false ∧
      (∀ q : Nat, q ≠ r → u.ring q = s.ring q) ∧ ∀ e < 2, (s.ring r).state ≠ .down → ∃ f : Frame, ((u.port (2 * r + e)).busy = some f ∨
        f ∈ (u.port (2 * r + e)).queue) ∧ f.hop = 15 ∧ f.body = .profile thr (s.fld F.LDS_CFG_PROFCRC))

/-! ## Twin operation (15_redundancy.md) -/

/-- R365, R366, R368, R373, R446: the roles of Table 15-1. -/
def Obligations.RolesFollowTable15Row1 : Prop :=
  (∀ (t : Nat) (m : Master) (v : Word) (s : State),
    (v.getLsbD 31 = s.flag F.RDN_CTL_TWIN → Completes (.twinWrite t m v) s fun u => Touches [.dial, .time, .regs, .lds] s u ∧
      SameRegs [Reg.RDN_CTL] s u ∧ u.fld F.RDN_CTL_AUTORUN = getBits v 30 1 ∧ u.flag F.RDN_CTL_TWIN = s.flag F.RDN_CTL_TWIN) ∧
    (v.getLsbD 31 ≠ s.flag F.RDN_CTL_TWIN → s.fld F.TRV_CTL_EN ≠ 0 → Completes (.twinWrite t m v) s fun u =>
      SameRegs [Reg.RDN_CTL, Reg.RDN_STS] s u ∧ u.flag F.RDN_CTL_TWIN = s.flag F.RDN_CTL_TWIN ∧ u.flag F.RDN_STS_CFG_REJ = true ∧
      u.fld F.RDN_STS_ROLE = s.fld F.RDN_STS_ROLE) ∧
    (v.getLsbD 31 = false → s.flag F.RDN_CTL_TWIN = true → s.fld F.TRV_CTL_EN = 0 → s.drmOn = false →
      Completes (.twinWrite t m v) s fun u => u.flag F.RDN_CTL_TWIN = false ∧ u.lds.twin = false ∧ u.lds.refHb = false ∧
        u.flag F.RDN_STS_CLAIM_L = false ∧ u.fld F.RDN_STS_ROLE = if s.flag F.UPD_STS_STARTED then 4 else 0) ∧
    (v.getLsbD 31 = true → s.flag F.RDN_CTL_TWIN = false → s.fld F.TRV_CTL_EN = 0 → s.drmOn = false →
      Completes (.twinWrite t m v) s fun u => u.flag F.RDN_CTL_TWIN = true ∧ u.lds.twin = true ∧ (s.activeRole = true → LeavesRole s u) ∧
        (s.flag F.UPD_STS_STARTED = false → u.fld F.RDN_STS_ROLE = 0 ∧ u.flag F.RDN_STS_CLAIM_L = false) ∧
        (s.flag F.UPD_STS_STARTED = true → (s.twinRole = 3 ∨ s.twinRole = 4) → u.fld F.RDN_STS_ROLE = 1 ∧
          u.flag F.RDN_STS_CLAIM_L = false) ∧
        (s.flag F.UPD_STS_STARTED = true → s.twinRole ≠ 3 → s.twinRole ≠ 4 → u.fld F.RDN_STS_ROLE = 0 ∧
          u.flag F.RDN_STS_CLAIM_L = true))) ∧
  (∀ (t edge : Nat) (s : State), Completes (.grantRise t edge) s fun u => u.flag F.RDN_STS_GRANT_L = true ∧
    ((s.flag F.RDN_CTL_TWIN = false ∨ s.drmOn = true ∨ s.fld F.RDN_STS_ROLE ∈ [1, 3, 4, 5]) →
      u.fld F.RDN_STS_ROLE = s.fld F.RDN_STS_ROLE) ∧
    (s.flag F.RDN_CTL_TWIN = true → s.drmOn = false → s.fld F.RDN_STS_ROLE = 0 → s.flag F.RDN_STS_CLAIM_L = true →
      u.fld F.RDN_STS_ROLE = 4) ∧
    (s.flag F.RDN_CTL_TWIN = true → s.drmOn = false → s.fld F.RDN_STS_ROLE = 2 → s.rdn.mirAt + 100000000 ≤ (s.at t).dial →
      u.fld F.RDN_STS_ROLE = 1 ∧ u.flag F.RDN_STS_CLAIM_L = false ∧ u.flag F.RDN_STS_UNFIT = true) ∧
    (s.flag F.RDN_CTL_TWIN = true → s.drmOn = false → s.fld F.RDN_STS_ROLE = 2 → (s.at t).dial < s.rdn.mirAt + 100000000 →
      u.fld F.RDN_STS_ROLE = 3 ∧ u.flag F.RDN_STS_CLAIM_L = true ∧ u.fld F.ALM_CTL_RUN = 1 ∧ u.word Reg.SYS_EPOCHNUM =
        if 0 < seqDiff (s.word Reg.RDN_PEEREPOCH) (s.word Reg.SYS_EPOCHNUM) then s.word Reg.RDN_PEEREPOCH else s.word Reg.SYS_EPOCHNUM)) ∧
  (∀ (t : Nat) (s : State), Completes (.grantFall t) s fun u => u.flag F.RDN_STS_GRANT_L = false ∧
    ((s.flag F.RDN_CTL_TWIN = false ∨ s.drmOn = true ∨ s.fld F.RDN_STS_ROLE = 1) → u.fld F.RDN_STS_ROLE = s.fld F.RDN_STS_ROLE) ∧
    (s.flag F.RDN_CTL_TWIN = true → s.drmOn = false → (s.fld F.RDN_STS_ROLE = 3 ∨ s.fld F.RDN_STS_ROLE = 4) →
      u.fld F.RDN_STS_ROLE = 1 ∧ u.flag F.RDN_STS_CLAIM_L = false ∧ u.flag F.RDN_STS_GRANT_LOST = true ∧ LeavesRole s u) ∧
    (s.fld F.LDS_DRM_STATE = 1 → s.lds.twin = true → u.fld F.LDS_DRM_STATE = 2)) ∧
  ∀ (t : Nat) (s : State),
    ((s.rdn.autorun = false ∨ s.activeRole = false ∨ (s.at t).dial < s.rdn.riseAt + 3000000) →
      Completes (.autorunHelmStart t) s fun u => Touches [.dial, .time] s u) ∧
    (s.rdn.autorun = true → s.activeRole = true → s.rdn.riseAt + 3000000 ≤ (s.at t).dial → Completes (.autorunHelmStart t) s fun u =>
      Touches [.dial, .time, .regs, .hlm, .rdn] s u ∧ u.rdn = { s.rdn with autorun := false } ∧
      ((s.helmRun = true ∨ (s.at t).helmMayRun = true) → u.helmRun = true) ∧
      (s.helmRun = false → (s.at t).helmMayRun = false → u.helmRun = false ∧ u.flag F.HLM_STS_CFG_REJ = true)) ∧
    ((s.upd.ringsAt = none ∨ s.flag F.UPD_STS_STARTED = true) → Completes (.startUpComplete t) s fun u => Touches [.dial, .time] s u) ∧
    ∀ (a : Nat) (m : Nat), s.upd.ringsAt = some (a, m) → s.flag F.UPD_STS_STARTED = false →
      ((∀ r < 4, m.testBit r = true → (s.ring r).state.settled = true) ∨ a + 1000000000 ≤ (s.at t).dial) →
      Completes (.startUpComplete t) s fun u => u.flag F.SYS_EPOCHCTL_EN = true ∧ u.flag F.BAL_CTL_EN = true ∧
        u.flag F.DSP_CTL_EN = true ∧ u.flag F.UPD_STS_STARTED = true ∧
        (s.drmOn = true → u.fld F.RDN_STS_ROLE = s.fld F.RDN_STS_ROLE) ∧
        (s.drmOn = false → s.flag F.RDN_CTL_TWIN = false → u.fld F.RDN_STS_ROLE = 4) ∧
        (s.drmOn = false → s.flag F.RDN_CTL_TWIN = true → s.fld F.RDN_STS_ROLE = 0 → s.flag F.RDN_STS_CLAIM_L = false →
          if s.twinRole = 3 ∨ s.twinRole = 4 then u.fld F.RDN_STS_ROLE = 1 else u.fld F.RDN_STS_ROLE = 0 ∧ u.flag F.RDN_STS_CLAIM_L = true)

/-- R369, R372, R376, R377, Table 15-2: the PEER link's status, its lanes, and the mirrors. -/
def Obligations.PeerLinkCarriesStatusAndMirrors : Prop :=
  (∀ (t us : Nat) (x : Mirror) (s : State),
    ((s.flag F.RDN_CTL_TWIN = false ∨ s.drmOn = true ∨ s.fld F.RDN_STS_ROLE ∉ [1, 2] ∨ s.rdn.lanes = 0) →
      Completes (.mirrorArrival t us x) s fun u => Touches [.dial, .time] s u) ∧
    (s.flag F.RDN_CTL_TWIN = true → s.drmOn = false → s.fld F.RDN_STS_ROLE ∈ [1, 2] → s.rdn.lanes ≠ 0 →
      Completes (.mirrorArrival t us x) s fun u => u.word Reg.RDN_MIREPOCH = x.epoch ∧ u.fld F.RDN_MIRTIME_US = min us 65535 ∧
        u.rdn.mir = some x ∧ u.rdn.mirAt = (s.at t).dial ∧ u.word (Reg.ALM_EVSTS 0) = x.ev0 ∧ u.word (Reg.ALM_EVSTS 1) = x.ev1 ∧
        u.word Reg.HLM_HOSTI = x.hosti ∧ u.word Reg.HLM_HOSTV = x.hostv ∧ u.word Reg.HLM_RCTGT = x.rctgt ∧
        u.fld F.HLM_CTL_CLASS = x.cls % 4 ∧
        (s.rdn.peerSeal ≠ s.fld F.LDS_SEAL_SEAL → u.flag F.RDN_STS_SEAL_DIFF = true ∧ u.fld F.RDN_STS_ROLE = 1) ∧
        (x.npos ≠ s.acq.npos → u.flag F.RDN_STS_CFG_DIFF = true ∧ u.fld F.RDN_STS_ROLE = 1) ∧
        ∀ ok : Bool, ok = (((s.at t).mirrorApply us x).mirrorReadings.mirrorChecks x).1 →
          (ok = true → u.fld F.RDN_STS_ROLE = 2 ∧ (s.fld F.RDN_STS_ROLE = 1 → u.flag F.RDN_STS_CLAIM_L = true)) ∧
          (ok = false → u.fld F.RDN_STS_ROLE = 1 ∧ (s.fld F.RDN_STS_ROLE = 2 → u.flag F.RDN_STS_CLAIM_L = false ∧
            u.flag F.RDN_STS_UNFIT = true)))) ∧
  (∀ (t : Nat) (s : State),
    ((s.fld F.RDN_STS_ROLE ≠ 2 ∨ (s.at t).dial < s.rdn.mirAt + 100000000) → Completes (.mirrorTimeout t) s fun u =>
      Touches [.dial, .time] s u) ∧
    (s.flag F.RDN_CTL_TWIN = true → s.drmOn = false → s.fld F.RDN_STS_ROLE = 2 → s.rdn.mirAt + 100000000 ≤ (s.at t).dial →
      Completes (.mirrorTimeout t) s fun u => Touches [.dial, .time, .regs] s u ∧ SameRegs [Reg.RDN_STS] s u ∧
        u.fld F.RDN_STS_ROLE = 1 ∧ u.flag F.RDN_STS_CLAIM_L = false ∧ u.flag F.RDN_STS_UNFIT = true)) ∧
  (∀ (t : Nat) (x : PeerStatus) (s : State),
    ((s.flag F.RDN_CTL_TWIN = false ∨ s.rdn.lanes = 0) → Completes (.peerStatusReceive t x) s fun u => Touches [.dial, .time] s u) ∧
    (s.flag F.RDN_CTL_TWIN = true → s.rdn.lanes ≠ 0 → Completes (.peerStatusReceive t x) s fun u =>
      Touches [.dial, .regs, .time, .log, .host, .hlm, .lds, .rdn] s u ∧ u.fld F.RDN_STS_TWINROLE = x.role % 8 ∧
      u.lds.twinEnerg = x.energ % 16 ∧ u.word Reg.RDN_PEERDIGEST = x.digest ∧ u.rdn.peerSeal = x.sealed ∧
      u.word Reg.RDN_PEEROFS_LO = iw x.ofs ∧ u.word Reg.RDN_PEEROFS_HI = iw (x.ofs / 2 ^ 32) ∧
      (x.epoch = none → u.word Reg.RDN_PEEREPOCH = s.word Reg.RDN_PEEREPOCH) ∧
      (∀ n : Word, x.epoch = some n → u.word Reg.RDN_PEEREPOCH = newerEpoch (s.word Reg.RDN_PEEREPOCH) n) ∧
      (s.twinRole ≠ x.role % 8 → (u.word Reg.HOST_DBIN).getLsbD 26 = true) ∧
      (1 ≤ s.fld F.RDN_STS_ROLE → s.fld F.RDN_STS_ROLE ≤ 3 → ∀ n < 4, x.outreq.testBit n = false → u.outReq n = false))) ∧
  ∀ (t lane : Nat) (s : State),
    (2 ≤ lane → Completes (.peerLaneDown t lane) s (fun u => Touches [.dial, .time] s u) ∧
      Completes (.peerLaneUp t lane) s fun u => Touches [.dial, .time] s u) ∧
    (lane < 2 → Completes (.peerLaneDown t lane) s fun u => Touches [.dial, .time, .regs, .host, .rdn] s u ∧
      u.rdn.lanes = maskBit s.rdn.lanes lane false ∧ u.flag F.RDN_STS_PEER_DOWN_L = decide (u.rdn.lanes = 0) ∧
      u.flag F.RDN_STS_PEER_DEGRADED_L = decide (u.rdn.lanes = 1 ∨ u.rdn.lanes = 2) ∧
      (u.rdn.lanes = 0 → u.flag F.RDN_STS_PEER_DOWN = true ∧ u.fld F.RDN_STS_TWINROLE = 7 ∧ u.rdn.sendAt = none)) ∧
    (lane < 2 → s.flag F.THM_TRIM_PEER = true → Completes (.peerLaneUp t lane) s fun u => Touches [.dial, .time] s u) ∧
    (lane < 2 → s.flag F.THM_TRIM_PEER = false → Completes (.peerLaneUp t lane) s fun u =>
      Touches [.dial, .time, .regs, .rdn] s u ∧ SameRegs [Reg.RDN_STS] s u ∧ u.rdn.lanes = maskBit s.rdn.lanes lane true ∧
      u.flag F.RDN_STS_PEER_DOWN_L = false ∧ u.flag F.RDN_STS_PEER_DEGRADED_L = decide (u.rdn.lanes = 1 ∨ u.rdn.lanes = 2))

/-! ## Host interface (16_host_interface.md, 24_address_map.md) -/

/-- R385, R388 to R390, R392, R394, R395: ring indices, mailboxes and doorbells. -/
def Obligations.RingIndicesMailboxesAndDoorbells : Prop :=
  (∀ (t i held ci : Nat) (m : Master) (v : Word) (s : State), i = getBits v 0 16 →
    (m ∉ [Master.pcie, Master.hspi] → Completes (.cmdpiWrite t m v) s (fun u => HostErr F.HOST_STS_ACCESS_ERR s u) ∧
      Completes (.rspciWrite t m v) s fun u => HostErr F.HOST_STS_ACCESS_ERR s u) ∧
    (m ∈ [Master.pcie, Master.hspi] → held = ringHeld i (s.ringIdx (masterId m) Reg.HOST_CMDCI) →
      ((256 < held ∨ held < s.cmdHeld (masterId m)) → Completes (.cmdpiWrite t m v) s fun u => HostErr F.HOST_STS_RING_ERR s u) ∧
      (held ≤ 256 → s.cmdHeld (masterId m) ≤ held → Completes (.cmdpiWrite t m v) s fun u => Touches [.dial, .time, .regs] s u ∧
        SameRegs [masterKey (masterId m) Reg.HOST_CMDPI] s u ∧ u.ringIdx (masterId m) Reg.HOST_CMDPI = i)) ∧
    (m ∈ [Master.pcie, Master.hspi] → ci = ringHeld (s.ringIdx (masterId m) Reg.HOST_RSPPI) i →
      (s.rspHeld (masterId m) < ci → Completes (.rspciWrite t m v) s fun u => HostErr F.HOST_STS_RING_ERR s u) ∧
      (ci ≤ s.rspHeld (masterId m) → Completes (.rspciWrite t m v) s fun u => Touches [.dial, .time, .regs] s u ∧
        SameRegs [masterKey (masterId m) Reg.HOST_RSPCI] s u ∧ u.ringIdx (masterId m) Reg.HOST_RSPCI = i)) ∧
    (ci = ringHeld (s.fld F.HOST_POSTPI_INDEX) i → ∀ old : Nat, old = ringHeld (s.fld F.HOST_POSTPI_INDEX) (s.fld F.HOST_POSTCI_INDEX) →
      (old < ci → Completes (.postciWrite t m v) s fun u => HostErr F.HOST_STS_RING_ERR s u) ∧
      (ci ≤ old → Completes (.postciWrite t m v) s fun u => Touches [.dial, .time, .regs] s u ∧ SameRegs [Reg.HOST_POSTCI] s u ∧
        u.fld F.HOST_POSTCI_INDEX = i))) ∧
  (∀ (t n : Nat) (m : Master) (v : Word) (s : State), n < 4 →
    (s.flag (h2dFull n) = true → Completes (.h2dMailboxWrite t m n v) s fun u => HostErr F.HOST_STS_MBX_OVR s u) ∧
    (s.flag (h2dFull n) = false → Completes (.h2dMailboxWrite t m n v) s fun u => Touches [.dial, .time, .regs] s u ∧
      SameRegs [Reg.HOST_H2DMBX n, Reg.HOST_MBXSTS] s u ∧ u.word (Reg.HOST_H2DMBX n) = v ∧ u.flag (h2dFull n) = true) ∧
    Completes (.d2hempty t m v) s (fun u => Touches [.dial, .time, .regs, .host] s u ∧ OnlyBlocks [Block.host] s u ∧
      (v.getLsbD n = false → u.flag (d2hFull n) = s.flag (d2hFull n) ∧ u.word (Reg.HOST_D2HMBX n) = s.word (Reg.HOST_D2HMBX n)) ∧
      (v.getLsbD n = true → s.flag (d2hFull n) = true → Tab.get (fun _ => false) u.host.d2hRelay n = false ∧
        ((∀ e ∈ s.host.d2hQueue, e.1 ≠ n) → u.flag (d2hFull n) = false) ∧
        ∀ e : Nat × Word, s.host.d2hQueue.find? (fun e => e.1 == n) = some e → u.flag (d2hFull n) = true ∧
          u.word (Reg.HOST_D2HMBX n) = e.2 ∧ (u.word Reg.HOST_IRQSTS).getLsbD 1 = true)) ∧
    ((s.flag (d2hFull n) = false ∨ (s.at t).dial < Tab.get (fun _ => 0) s.host.d2hSince n + 2000000 ∨ ∀ e ∈ s.host.d2hQueue, e.1 ≠ n) →
      Completes (.mbxStall t n) s fun u => Touches [.dial, .time] s u) ∧
    (s.flag (d2hFull n) = true → Tab.get (fun _ => 0) s.host.d2hSince n + 2000000 ≤ (s.at t).dial → (∃ e ∈ s.host.d2hQueue, e.1 = n) →
      Completes (.mbxStall t n) s fun u => Touches [.dial, .time, .regs, .host] s u ∧ OnlyBlocks [Block.host] s u ∧
        Tab.get (fun _ => false) u.host.d2hRelay n = true ∧ u.host.d2hQueue = s.host.d2hQueue.filter (fun e => e.1 != n) ∧
        (u.word Reg.HOST_DBIN).getLsbD 31 = true ∧ ∀ k : Nat, k = (if s.host.pcieUp then 4 else 5) → u.ringIdx k Reg.HOST_RSPPI =
          (s.ringIdx k Reg.HOST_RSPPI + (s.host.d2hQueue.filter fun e => e.1 == n).length) % 65536)) ∧
  ∀ (t : Nat) (m : Master) (v : Word) (s : State),
    (s.pilotUp = false → Completes (.dboutWrite t m v) s fun u => Touches [.dial, .time, .host] s u ∧
      u.host = { s.host with dbOut := s.host.dbOut ||| (v &&& 0xC0000000#32) }) ∧
    (s.pilotUp = true → v.getLsbD 30 = false → Completes (.dboutWrite t m v) s fun u => Touches [.dial, .time, .host] s u ∧
      u.host = { s.host with dbOut := 0 }) ∧
    (s.pilotUp = true → v.getLsbD 30 = true → Completes (.dboutWrite t m v) s fun u => u.host.dbOut = 0 ∧ ∀ n < 3,
      u.flag (h2dFull n) = false ∧ (s.flag (h2dFull n) = true → (n, s.word (Reg.HOST_H2DMBX n)) ∈ u.pilot.rx)) ∧
    Completes (.dbinClear t m v) s fun u => Touches [.dial, .time, .regs] s u ∧ SameRegs [Reg.HOST_DBIN] s u ∧
      u.word Reg.HOST_DBIN = s.word Reg.HOST_DBIN &&& ~~~ v

/-- R11, R14, R49, R381, R397 to R399, R489, R512, R537 to R542: accesses over BAR0, BAR2 and HSPI. -/
def Obligations.BusAccessesFollowTheMap : Prop :=
  (∀ (t off bytes : Nat) (m : Master) (sp : Space) (v : Word) (s : State),
    (s.awake = false → Completes (.registerWrite t m sp off bytes v) s fun u => Touches [.dial, .time] s u) ∧
    (∀ n : Nat, hostXing (masterId m) = some (n, n + 1) → s.awake = true →
      (s.xState n = 3 → Completes (.registerWrite t m sp off bytes v) s fun u => Touches [.dial, .time, .regs] s u ∧
        SameRegs [Reg.CLK_XSTAT n] s u ∧ u.fld (F.CLK_XSTAT_DISC n) = min (s.fld (F.CLK_XSTAT_DISC n) + 1) 65535) ∧
      (s.xState n = 2 → s.requestsCut (masterId m) = false → Completes (.registerWrite t m sp off bytes v) s fun u =>
        Touches [.dial, .time, .clk] s u ∧ (u.xing n).wait = (s.xing n).wait ++ [.write sp off bytes v])) ∧
    (s.awake = true → s.requestsCut (masterId m) = false → s.requestsWait (masterId m) = false →
      ((bytes ≠ 4 ∨ off % 4 ≠ 0) → Completes (.registerWrite t m sp off bytes v) s fun u => BusErr F.HOST_STS_ACCESS_ERR s u) ∧
      (off % 4 = 0 →
        (∀ r : RegRow, regRow off = some r → 0x14000 ≤ off → off < 0x15000 → Completes (.registerWrite t m .bar0 off 4 v) s fun u =>
          Touches [.dial, .time, .regs, .clk] s u ∧ ∀ k : Nat, k = (if r.perMaster then masterKey (masterId m) off else off) →
            SameRegs [k] s u ∧ u.word k = accessWrite r.rw r.w1c (heldMask off) ((s.at t).setNow k) (s.word k) v) ∧
        (∀ r : RegRow, regRow off = some r → 0x10000 ≤ off → off < 0x11000 → Completes (.registerWrite t m .bar0 off 4 v) s fun u =>
          Touches [.dial, .time, .clk] s u) ∧
        (((off < 0x20000 ∧ regRow off = none) ∨ 0x60000 ≤ off) → dataPath off = false →
          Completes (.registerWrite t m .bar0 off 4 v) s fun u => BusErr F.HOST_STS_ACCESS_ERR s u) ∧
        (0x100000 ≤ off → off < 0x110000 → Completes (.registerWrite t m .bar2 off 4 v) s fun u =>
          Touches [.dial, .time, .host, .clk] s u ∧
          Tab.get zeroWord u.host.cmdRing (masterKey (masterId m) ((off - 0x100000) / 4)) = v) ∧
        ((off < 0x10000 ∨ (0x110000 ≤ off ∧ off < 0x121000)) → Completes (.registerWrite t m .bar2 off 4 v) s fun u =>
          BusErr F.HOST_STS_ACCESS_ERR s u)))) ∧
  (∀ (t off : Nat) (m : Master) (r : BusRead) (s : State),
    (s.requestsCut (masterId m) = true → Completes (.timeLowWordRead t m r) s fun u => Touches [.dial, .time, .lastRead, .regs, .clk] s u ∧
      OnlyBlocks [Block.clk] s u ∧ u.lastReadOf m = 0) ∧
    (s.requestsCut (masterId m) = false → s.requestsWait (masterId m) = true → Completes (.timeLowWordRead t m r) s fun u =>
      Touches [.dial, .time, .clk] s u) ∧
    (s.answersCut (masterId m) = false → s.requestsWait (masterId m) = false →
      Completes (.timeLowWordRead t m ⟨.bar0, Reg.TIME_DIAL_LO, 4⟩) s (fun u =>
        Touches [.dial, .time, .lastRead, .clk] s u ∧ u.lastReadOf m = nw ((s.at t).dial) ∧
        u.latched (masterId m) Reg.TIME_DIAL_HI = nw ((s.at t).dial / 2 ^ 32)) ∧
      Completes (.timeLowWordRead t m ⟨.bar0, Reg.TIME_CAL_LO, 4⟩) s (fun u =>
        Touches [.dial, .time, .lastRead, .clk] s u ∧ u.lastReadOf m = nw (s.at t).calMs ∧
        u.latched (masterId m) Reg.TIME_CAL_HI = nw ((s.at t).calMs / 2 ^ 32 % 0x10000)) ∧
      ((r.bytes ≠ 4 ∨ r.off % 4 ≠ 0) → (r.sp = .bar0 ∨ r.off % 4 ≠ 0 ∨ r.bytes % 4 ≠ 0) →
        Completes (.timeLowWordRead t m r) s fun u => Touches [.dial, .time, .regs, .host, .lastRead, .clk] s u ∧
          SameRegs [Reg.HOST_STS, Reg.HOST_IRQSTS] s u ∧ u.flag F.HOST_STS_ACCESS_ERR = true ∧
          (u.word Reg.HOST_IRQSTS).getLsbD 4 = true ∧ u.lastReadOf m = 0) ∧
      (r.sp = .bar2 → r.off % 4 = 0 → r.bytes % 4 = 0 → 0 < r.bytes → ∀ (n : Nat) (old : List Word),
        n = min r.bytes (256 - r.off % 256) → old = (if s.host.readNext = some (r.off, r.bytes) then s.host.readData else []) →
        Completes (.timeLowWordRead t m r) s fun u => Touches [.dial, .time, .host, .lastRead, .clk] s u ∧
          u.host = { s.host with
            readData := old ++ (List.range (n / 4)).map fun i => (s.at t).bar2Read (masterId m) (r.off + 4 * i)
            readNext := if n < r.bytes then some (r.off + n, r.bytes - n) else none } ∧
          u.lastReadOf m = (s.at t).bar2Read (masterId m) r.off)) ∧
    (off < 8 → Completes (.portstsRead t m off) s fun u => Touches [.dial, .time, .lastRead, .regs] s u ∧
      SameRegs [Reg.TRV_PORTSTS off] s u ∧ u.lastReadOf m = s.word (Reg.TRV_PORTSTS off) ∧
      u.word (Reg.TRV_PORTSTS off) = s.word (Reg.TRV_PORTSTS off) &&& 0xF0000000#32) ∧
    Completes (.wearDataRead t m) s fun u => Touches [.dial, .time, .lastRead, .regs] s u ∧ ∀ (k : Nat) (sel : Word),
      k = masterKey (masterId m) Reg.WEAR_SEL → sel = s.word k → SameRegs [k] s u ∧
        u.word k = setBits sel 0 16 (getBits sel 0 16 + 1) ∧ u.lastReadOf m = (s.at t).wearItem (getBits sel 24 3) (getBits sel 0 16)) ∧
  ∀ (t addr len : Nat) (ws : List Word) (crcOk : Bool) (s : State),
    (s.awake = false → Completes (.hspiReadFrame t addr len) s (fun u => Touches [.dial, .time] s u) ∧
      Completes (.hspiWriteFrame t addr len ws crcOk) s fun u => Touches [.dial, .time] s u) ∧
    (s.awake = true → s.xState 4 = 3 → Completes (.hspiReadFrame t addr len) s (fun u => Touches [.dial, .time, .regs] s u ∧
        SameRegs [Reg.CLK_XSTAT 4] s u) ∧ Completes (.hspiWriteFrame t addr len ws crcOk) s fun u => Touches [.dial, .time, .regs] s u ∧
        SameRegs [Reg.CLK_XSTAT 4] s u ∧ u.fld (F.CLK_XSTAT_DISC 4) = min (s.fld (F.CLK_XSTAT_DISC 4) + 1 + ws.length) 65535) ∧
    (s.awake = true → s.answersCut 5 = false → s.xState 4 ≠ 2 →
      (hspiRefused addr len = true → Completes (.hspiReadFrame t addr len) s fun u => Touches [.dial, .time, .host, .clk] s u ∧
        u.host = { s.host with hspiResult := 3, hspiData := [], hspiArmed := false }) ∧
      (addr.testBit 31 = true → addr % 4 = 0 → Completes (.hspiReadFrame t addr len) s fun u => Touches [.dial, .time, .host, .clk] s u ∧
        u.host.hspiResult = 0 ∧ u.host.hspiArmed = false ∧ u.host.hspiData.length = min len 64 ∧
        ∀ i < min len 64, u.host.hspiData.getD i 0 = (s.at t).bar2Read 5 (addr % 2 ^ 24 + 4 * i)) ∧
      ((ws.length ≠ len ∨ len = 0 ∨ 64 < len) → Completes (.hspiWriteFrame t addr len ws crcOk) s fun u =>
        HostErr F.HOST_STS_HSPI_ERR s u ∧ u.host.hspiResult = 2 ∧ u.host.hspiArmed = false) ∧
      (ws.length = len → 1 ≤ len → len ≤ 64 →
        (crcOk = false → Completes (.hspiWriteFrame t addr len ws crcOk) s fun u => HostErr F.HOST_STS_HSPI_ERR s u ∧
          u.host.hspiResult = 1 ∧ u.host.hspiArmed = false) ∧
        (crcOk = true → hspiRefused addr len = true → Completes (.hspiWriteFrame t addr len ws crcOk) s fun u =>
          Touches [.dial, .time, .host, .clk] s u ∧ u.host = { s.host with hspiResult := 3, hspiArmed := false }) ∧
        (crcOk = true → addr.testBit 31 = true → addr % 4 = 0 → 0x100000 ≤ addr % 2 ^ 24 → addr % 2 ^ 24 + 4 * len ≤ 0x110000 →
          Completes (.hspiWriteFrame t addr len ws crcOk) s fun u => Touches [.dial, .time, .host, .clk] s u ∧ u.host.hspiResult = 0 ∧
            u.host.hspiArmed = false ∧ ∀ i < len,
              Tab.get zeroWord u.host.cmdRing (masterKey 5 ((addr % 2 ^ 24 - 0x100000) / 4 + i)) = ws.getD i 0))) ∧
    (s.awake = false → Completes (.hspiStatusFrame t) s (fun u => Touches [.dial, .time] s u) ∧
      Completes (.hspiResetEnable t) s (fun u => Touches [.dial, .time] s u) ∧
      Completes (.hspiPortReset t) s fun u => Touches [.dial, .time] s u) ∧
    (s.awake = true → Completes (.hspiStatusFrame t) s (fun u => Touches [.dial, .time, .host] s u ∧ u.host.hspiArmed = false ∧
        u.host.hspiData = [((s.word Reg.HOST_IRQSTS &&& s.word Reg.HOST_IRQEN) &&& 0xFF#32) ||| nw (0x100 * s.host.hspiResult)]) ∧
      Completes (.hspiResetEnable t) s (fun u => Touches [.dial, .time, .host] s u ∧ u.host = { s.host with hspiArmed := true }) ∧
      (s.host.hspiArmed = false → Completes (.hspiPortReset t) s fun u => Touches [.dial, .time] s u) ∧
      (s.host.hspiArmed = true → Completes (.hspiPortReset t) s fun u =>
        Touches [.dial, .time, .regs, .ep, .host, .clk, .pilot] s u ∧ u.host.hspiArmed = false ∧ RingsAtZero 5 u ∧
        (∀ n < 16, s.lockOwner n = 5 → u.lockOwner n = 0) ∧ (∀ n : Nat, s.lockOwner n ≠ 5 → u.lockOwner n = s.lockOwner n) ∧
        u.word (Reg.SYS_AWAIT 4) = 1 ∧ u.xState 4 = 2 ∧ u.xState 5 = 2 ∧
        ∀ w ∈ u.pilot.waiting, w.src = .hspi → w.drop = true))

/-- R42, R388, R400, R401, R511: the links, and the UDP sessions. -/
def Obligations.LinksAndUdpSessions : Prop :=
  (∀ (t n : Nat) (s : State),
    Completes (.pcieLinkLoss t) s (fun u => Touches [.dial, .time, .regs, .ep, .host, .clk, .pilot] s u ∧ u.host.pcieUp = false ∧
      RingsAtZero 4 u ∧ (∀ n < 16, s.lockOwner n = 4 → u.lockOwner n = 0) ∧
      (∀ n : Nat, s.lockOwner n ≠ 4 → u.lockOwner n = s.lockOwner n) ∧ u.xState 2 = 2 ∧ u.xState 3 = 2 ∧
      ∀ w ∈ u.pilot.waiting, w.src = .pcie → w.drop = true) ∧
    ((s.awake = false ∨ s.flag F.THM_TRIM_PCIE = true) → Completes (.pcieLinkUp t) s fun u => Touches [.dial, .time] s u) ∧
    (s.awake = true → s.flag F.THM_TRIM_PCIE = false → Completes (.pcieLinkUp t) s fun u =>
      Touches [.dial, .time, .regs, .host, .clk] s u ∧ SameRegs [Reg.CLK_XSTAT 2, Reg.CLK_XSTAT 3] s u ∧
      u.host = { s.host with pcieUp := true } ∧ u.xState 2 = 2 ∧ u.xState 3 = 2) ∧
    ((s.awake = false ∨ 2 ≤ n ∨ (s.word Reg.THM_TRIM).getLsbD (5 + n) = true) → Completes (.ethLinkUp t n) s fun u =>
      Touches [.dial, .time] s u) ∧
    (s.awake = true → n < 2 → (s.word Reg.THM_TRIM).getLsbD (5 + n) = false → Completes (.ethLinkUp t n) s fun u =>
      Touches [.dial, .time, .regs, .host, .clk] s u ∧ SameRegs [Reg.CLK_XSTAT n] s u ∧ u.xState n = 2 ∧
      Tab.get (fun _ => false) u.host.ethUp n = true ∧
      ∀ k : Nat, k ≠ n → Tab.get (fun _ => false) u.host.ethUp k = Tab.get (fun _ => false) s.host.ethUp k)) ∧
  (∀ (t port slot k : Nat) (nc ncs : List Nat) (s : State), ncs = (nc ++ List.replicate 16 0).take 16 →
    ((s.pilotUp = false ∨ 8 ≤ slot ∨ s.keyLoaded slot = false ∨ Tab.get (fun _ => false) s.host.ethUp port = false ∨
        ∀ j < 4, (s.session j).open_ = true) → Completes (.udpOpen t port slot nc) s fun u => Touches [.dial, .time] s u) ∧
    (s.pilotUp = true → slot < 8 → s.keyLoaded slot = true → Tab.get (fun _ => false) s.host.ethUp port = true → k < 4 →
      (∀ j < k, (s.session j).open_ = true) → (s.session k).open_ = false → Completes (.udpOpen t port slot nc) s fun u =>
        Touches [.dial, .time, .freeCtr, .host] s u ∧ (∀ j : Nat, j ≠ k → u.session j = s.session j) ∧
        ∃ (sid : Nat) (nd : List Nat), sid < 2 ^ 32 ∧ nd.length = 16 ∧
          u.session k = { Session.closed with open_ := true, port := port, slot := slot, sid := sid, nc := ncs, nd := nd, ks := hmac256 (s.keyBytes slot) (asciiBytes "SX640" ++ ncs ++ nd), lastAt := (s.at t).dial } ∧
          u.host.udpOut = { port := port, bytes := numBytes sid 4 ++ nd, tag := [] } :: s.host.udpOut)) ∧
  (∀ (t port sid : Nat) (mac : List Nat) (s : State),
    (s.findSession port sid = none → Completes (.udpConfirm t port sid mac) s fun u => UdpDrops s u) ∧
    ∀ k : Nat, s.findSession port sid = some k →
      ((s.session k).confirmed = true → Completes (.udpConfirm t port sid mac) s fun u => Touches [.dial, .time] s u) ∧
      ((s.session k).confirmed = false →
        (mac ≠ hmac256 (s.session k).ks (asciiBytes "OPEN" ++ (s.session k).nc ++ (s.session k).nd) →
          Completes (.udpConfirm t port sid mac) s fun u => UdpDrops s u) ∧
        (mac = hmac256 (s.session k).ks (asciiBytes "OPEN" ++ (s.session k).nc ++ (s.session k).nd) →
          Completes (.udpConfirm t port sid mac) s fun u => Touches [.dial, .time, .regs, .host] s u ∧ SameRegs [Reg.HOST_UDPSTS] s u ∧
            u.session k = { s.session k with confirmed := true, lastAt := (s.at t).dial } ∧
            u.fld F.HOST_UDPSTS_SESSIONS = u.sessionsOpen ∧ ∀ j : Nat, j ≠ k → u.session j = s.session j))) ∧
  (∀ (t port sid seq typ : Nat) (ws : List Word) (tag : List Nat) (s : State),
    (s.findSession port sid = none → Completes (.udpDatagram t port sid seq typ ws tag) s fun u => UdpDrops s u) ∧
    ∀ k : Nat, s.findSession port sid = some k →
      (((s.session k).confirmed = false ∨ typ ≠ 1 ∨ tag ≠ hmac256 (s.session k).ks (datagramBytes sid seq typ ws) ∨
          (s.session k).fresh seq = false) → Completes (.udpDatagram t port sid seq typ ws tag) s fun u => UdpDrops s u) ∧
      ((s.session k).confirmed = true → typ = 1 → tag = hmac256 (s.session k).ks (datagramBytes sid seq typ ws) →
        (s.session k).fresh seq = true → Completes (.udpDatagram t port sid seq typ ws tag) s fun u =>
          Touches [.dial, .time, .host] s u ∧ (∀ j : Nat, j ≠ k → u.session j = s.session j) ∧
          (u.session k).top = max (s.session k).top seq ∧ (u.session k).lastAt = (s.at t).dial ∧ seq ∈ (u.session k).seen ∧
          ((s.session k).outstanding < 16 → (u.session k).outstanding = (s.session k).outstanding + 1 ∧
            (u.session k).inbox = (s.session k).inbox ++ [ws] ∧ u.host.udpOut = s.host.udpOut) ∧
          (16 ≤ (s.session k).outstanding → (u.session k).outstanding = (s.session k).outstanding ∧
            (u.session k).inbox = (s.session k).inbox ∧ ∃ d : Datagram, u.host.udpOut = d :: s.host.udpOut ∧ d.port = (s.session k).port))) ∧
  ∀ (t k : Nat) (s : State),
    ((4 ≤ k ∨ (s.session k).open_ = false ∨ (s.at t).dial < (s.session k).lastAt + 60000000000) →
      Completes (.udpSessionTimeout t k) s fun u => Touches [.dial, .time] s u) ∧
    (k < 4 → (s.session k).open_ = true → (s.session k).lastAt + 60000000000 ≤ (s.at t).dial →
      Completes (.udpSessionTimeout t k) s fun u => Touches [.dial, .time, .regs, .host, .pilot] s u ∧ SameRegs [Reg.HOST_UDPSTS] s u ∧
        u.session k = Session.closed ∧ u.fld F.HOST_UDPSTS_SESSIONS = u.sessionsOpen ∧ (∀ j : Nat, j ≠ k → u.session j = s.session j) ∧
        ∀ w ∈ u.pilot.waiting, w.src = .session k → w.drop = true)

/-! ## Pilot commands (16_host_interface.md, 17_pilot_commands.md) -/

/-- R384 to R388, R402 to R404, R407, R457: Pilot's checks before every command, in order, and the taking and answering of entries. -/
def Obligations.PilotTakesChecksAndAnswers : Prop :=
  (∀ (t : Nat) (begun : Bool) (c : Entry) (s : State) (x : Instr × Nat), IsPilotCommand t begun c x →
    (∀ w ∈ s.pilot.waiting, ∀ (off b : Bool), w.what ≠ .sleep off b) →
    ((s.at t).pilotTakes c.iss (entryOf x.2 c) = false → Completes x.1 s fun u => Touches [.dial, .time] s u) ∧
    ((s.at t).pilotTakes c.iss (entryOf x.2 c) = true →
      (lenOk c.len = false → Refuses x.1 t x.2 c stMalformed s) ∧
      (lenOk c.len = true → s.flag F.UPD_STS_RECOVERY = true → x.2 ∉ recoveryOps → Refuses x.1 t x.2 c stState s) ∧
      (lenOk c.len = true → (s.flag F.UPD_STS_RECOVERY = true → x.2 ∈ recoveryOps) →
        (pilotNeed x.2 (entryPs c) = false → Refuses x.1 t x.2 c stMalformed s) ∧
        (pilotNeed x.2 (entryPs c) = true →
          (x.2 ∈ pilotLocal → ringMaster c.iss = none → Refuses x.1 t x.2 c stDenied s) ∧
          ((x.2 ∈ pilotLocal → (ringMaster c.iss).isSome = true) →
            (x.2 ∈ pilotActive → s.flag F.RDN_CTL_TWIN = true → s.fld F.RDN_STS_ROLE ≠ 4 → Refuses x.1 t x.2 c stNotActive s) ∧
            ((x.2 ∈ pilotActive → s.flag F.RDN_CTL_TWIN = true → s.fld F.RDN_STS_ROLE = 4) → c.w1lo ≠ 0 →
              Refuses x.1 t x.2 c stBadParam s)))))) ∧
  (∀ (t op : Nat) (c : Entry) (s : State),
    ((op ∈ knownOps ∨ (s.at t).pilotTakes c.iss (entryOf op c) = false) →
      Completes (.cmdUnknownCommand t op c) s fun u => Touches [.dial, .time] s u) ∧
    (op ∉ knownOps → (s.at t).pilotTakes c.iss (entryOf op c) = true →
      Refuses (.cmdUnknownCommand t op c) t op c (if lenOk c.len then stUnknown else stMalformed) s)) ∧
  ∀ (m tag op st ci held : Nat) (src : Issuer) (d ws : List Word) (s : State), ringMaster src = some m →
    ci = s.ringIdx m Reg.HOST_CMDCI → held = s.cmdHeld m →
    (Touches [.regs, .host] s (s.respond src tag op st d) ∧
      (s.respond src tag op st d).ringIdx m Reg.HOST_RSPPI = (s.ringIdx m Reg.HOST_RSPPI + 1) % 65536 ∧
      (∀ i < 2 + d.length, Tab.get zeroWord (s.respond src tag op st d).host.rspRing (masterKey m (64 * (s.ringIdx m Reg.HOST_RSPPI % 256)) + i)
        = (nw (65536 * tag + (4 + 4 * d.length)) :: nw (65536 * op + st) :: d).getD i 0) ∧
      (s.rspHeld m = 0 → ((s.respond src tag op st d).word Reg.HOST_DBIN).getLsbD 24 = true)) ∧
    Touches [.regs, .host] s (s.takeEntry src ws) ∧ (s.takeEntry src ws).ringIdx m Reg.HOST_CMDCI = (ci + 1) % 65536 ∧
    (held = 0 → (s.takeEntry src ws).ringIdx m Reg.HOST_CMDPI = (ci + 1) % 65536) ∧
    (held ≠ 0 → (s.takeEntry src ws).ringIdx m Reg.HOST_CMDPI = s.ringIdx m Reg.HOST_CMDPI) ∧
    (held = 256 → ((s.takeEntry src ws).word Reg.HOST_DBIN).getLsbD 25 = true)

/-- Tables 17-2, 17-4 to 17-13, 17-16: the commands that carry images of registers, each image in its parameter order; none is written unless all pass
(R404, R406). -/
def Obligations.ImageCommandsWriteTheirRegisters : Prop :=
  ∀ (t k n : Nat) (c : Entry) (p : List Word) (s : State) (x : Instr × Nat × Bool × Images), p = entryPs c → k = pn p 0 → n = pn p 1 →
    x ∈ ([(.cmdSetEpoch t c, 0x0107, true, [(Reg.SYS_EPOCHCTL, pw p 0)]),
      (.cmdSetPtp t c, 0x0202, true, [(Reg.TIME_PTPCTL, pw p 0), (Reg.TIME_STEPTHR, pw p 1), (Reg.TIME_UNCERTLIM, pw p 2)]),
      (.cmdSetTiles t c, 0x0300, decide (1 ≤ n ∧ n ≤ 30 ∧ k + n ≤ 48), (List.range n).flatMap fun i =>
        [(Reg.ACQ_TILECFG (k + i), pw p (2 + 2 * i)), (Reg.ACQ_TMAP (k + i), pw p (3 + 2 * i))]),
      (.cmdSetMod t c, 0x0303, true, [(Reg.ACQ_MODCFG, pw p 0), (Reg.ACQ_MODDLY 0, pw p 1), (Reg.ACQ_MODGAIN 0, pw p 2),
        (Reg.ACQ_MODOFS 0, pw p 3), (Reg.ACQ_MODDLY 1, pw p 4), (Reg.ACQ_MODGAIN 1, pw p 5), (Reg.ACQ_MODOFS 1, pw p 6)]),
      (.cmdSxtCfg t c, 0x0502, decide ((pw p 0 &&& 0x7FFFFFF5#32) = 0), [(Reg.SXT_CTL, pw p 0), (Reg.SXT_REINIT, pw p 1)]),
      (.cmdLearnCfg t c, 0x0504, decide ((pw p 0 &&& 0x7FFFFFFF#32) = 0), [(Reg.SXT_LRNCTL, pw p 0), (Reg.SXT_LRNCFG, pw p 1),
        (Reg.SXT_LRNV 0, pw p 2), (Reg.SXT_LRNV 1, pw p 3), (Reg.SXT_LRNV 2, pw p 4), (Reg.SXT_LRNV 3, pw p 5),
        (Reg.SXT_LRNSPAN 0, pw p 6), (Reg.SXT_LRNSPAN 1, pw p 7), (Reg.SXT_LRNSPAN 2, pw p 8), (Reg.SXT_LRNSPAN 3, pw p 9)]),
      (.cmdAzmPlan t c, 0x0600, decide (k < 16), (Reg.AZM_PLAN_HDR k, pw p 1) ::
        (List.range 8).map fun j => (Reg.AZM_PLAN_T k j, pw p (2 + j))),
      (.cmdAzmCal t c, 0x0601, decide (k < 4), (Reg.AZM_CALA k, pw p 1) :: (Reg.AZM_CALB k, pw p 2) ::
        (List.range 8).map fun j => (Reg.AZM_TCAL k j, pw p (3 + j))),
      (.cmdAzmCfg t c, 0x0603, !(pw p 0).getLsbD 0, [(Reg.AZM_CTL, pw p 0), (Reg.AZM_TCFG, pw p 1), (Reg.AZM_PTHR, pw p 2)]),
      (.cmdBalSetup t c, 0x0700, true, [(Reg.BAL_CTL, pw p 0), (Reg.BAL_CFG, pw p 1), (Reg.BAL_THR, pw p 2), (Reg.BAL_TDER, pw p 3),
        (Reg.BAL_RWINIT, pw p 4)]),
      (.cmdHlmAnalog t c, 0x0801, decide (k ≤ 10), [(Reg.HLM_AGAIN k, pw p 1), (Reg.HLM_AOFS k, pw p 2)]),
      (.cmdHlmLimits t c, 0x0805, true, [(Reg.HLM_SLEW, pw p 0), (Reg.HLM_IMAG, pw p 1), (Reg.HLM_RECON, pw p 2)]),
      (.cmdHlmDispatch t c, 0x0806, true, [(Reg.HLM_DSPCFG, pw p 0), (Reg.HLM_DSPK, pw p 1), (Reg.HLM_DSPX0, pw p 2)]),
      (.cmdDspSetup t c, 0x0807, true, [(Reg.DSP_CTL, pw p 0), (Reg.DSP_CFG, pw p 1), (Reg.DSP_THOT, pw p 2), (Reg.DSP_TCOLD, pw p 3),
        (Reg.DSP_SWLIMD, pw p 4), (Reg.DSP_SWLIMC, pw p 5), (Reg.DSP_AVID, pw p 6)]),
      (.cmdCoolSetup t c, 0x0808, decide (k < 4), [(Reg.DSP_COOLCFG k, pw p 1), (Reg.DSP_COOLCRV k, pw p 2), (Reg.DSP_COOLFREQ, pw p 3)]),
      (.cmdCoolFloor t c, 0x0809, true, [(Reg.DSP_COOLMAN, pw p 0)]),
      (.cmdHvacSetup t c, 0x080A, true, [(Reg.DSP_HVCFG, pw p 0), (Reg.DSP_HVID, pw p 1), (Reg.DSP_HVSTID, pw p 2)]),
      (.cmdCanFilter t c, 0x0B01, decide (k < 3 ∧ n < 64), [(Reg.CAN_FID k n, pw p 2), (Reg.CAN_FMASK k n, pw p 3)]),
      (.cmdLogWindow t c, 0x0E02, true, [(Reg.LOG_WINDOW, pw p 0)])] : List (Instr × Nat × Bool × Images)) →
    Serves t x.2.1 c s →
    ((x.2.2.1 && imagesOk x.2.2.2) = true → Answers x.1 t x.2.1 c stOk s fun w d v => d = [] ∧
      v = x.2.2.2.foldl (fun s y => s.busWrite 1 y.1 y.2) w) ∧
    ((x.2.2.1 && imagesOk x.2.2.2) = false → Refuses x.1 t x.2.1 c stBadParam s)

/-- Tables 17-2 to 17-18: the commands that answer with what the device holds; the state they leave beside it. -/
def Obligations.ReadingCommandsAnswerWithData : Prop :=
  ∀ (t k n : Nat) (c : Entry) (p : List Word) (s : State) (x : Instr × Nat × Bool × (State → List Word) × (State → State)),
    p = entryPs c → k = pn p 0 → n = pn p 1 →
    x ∈ ([(.cmdGetInfo t c, 0x0100, true, fun w => [w.word Reg.SYS_DEVID, 1, w.word (Reg.UPD_VER 0), nw (w.fld F.UPD_STS_RUNBANK),
        w.word (Reg.SEC_SERIAL 0), w.word (Reg.SEC_SERIAL 1)], id),
      (.cmdEcho t c, 0x0101, true, fun _ => p, id),
      (.cmdReadReg t c, 0x0102, decide (k % 4 = 0 ∧ 1 ≤ n ∧ n ≤ 60 ∧ k + 4 * n ≤ 0x100000),
        fun w => (w.regReads (issuerMaster c.iss) (offsets k n 4)).1, fun w => (w.regReads (issuerMaster c.iss) (offsets k n 4)).2),
      (.cmdGetStatus t c, 0x0108, true, fun w => ([Reg.SYS_EPOCHNUM, Reg.SYS_PROFILE, Reg.RDN_STS, Reg.LDS_TRIP, Reg.LDS_DRM,
        Reg.TRV_RINGSTS 0, Reg.TRV_RINGSTS 1, Reg.TRV_RINGSTS 2, Reg.TRV_RINGSTS 3, Reg.HOST_IRQSTS]).map w.word, id),
      (.cmdStateRead t c, 0x010A, decide (k % 4 = 0 ∧ 1 ≤ n ∧ n ≤ 60 ∧ k + 4 * n ≤ 0x10000),
        fun w => (List.range n).map fun i => w.spaceRead (w.issuerAwait c.iss) (k / 4 + i), id),
      (.cmdGetTime t c, 0x0200, true, fun w => [nw w.dial, nw (w.dial / 2 ^ 32), nw w.merSec, nw (w.merSec / 2 ^ 32 % 0x10000),
        nw w.merSub, nw w.calMs, nw (w.calMs / 2 ^ 32), w.word Reg.TIME_PTPSTS, nw w.uncert], id),
      (.cmdGetRing t c, 0x0306, decide (k ≤ 3), fun w => (w.regReads 1 ([Reg.TRV_RINGSTS k, Reg.TRV_PORTSTS (2 * k),
        Reg.TRV_PORTSTS (2 * k + 1)] ++ offsets (Reg.TRV_HOPDLY (24 * k)) 24 4)).1,
        fun w => (w.setWord (Reg.TRV_PORTSTS (2 * k)) (w.word (Reg.TRV_PORTSTS (2 * k)) &&& 0xF0000000#32)).setWord
          (Reg.TRV_PORTSTS (2 * k + 1)) (w.word (Reg.TRV_PORTSTS (2 * k + 1)) &&& 0xF0000000#32)),
      (.cmdAlmDread t c, 0x0403, dmRange k n, fun w => (List.range n).map fun i => w.dmRead (k / 4 + i), id),
      (.cmdAlmStatus t c, 0x0406, decide (1 ≤ n ∧ n ≤ 58 ∧ k + n ≤ 64), fun w => [w.word Reg.ALM_STS, w.word Reg.ALM_FAULT,
        w.word Reg.ALM_PIPES] ++ (List.range n).map fun i => w.watchWord (k + i), id),
      (.cmdCtxRead t c, 0x0503, decide (k ≤ 1023 ∧ n % 4 = 0 ∧ 1 ≤ pn p 2 ∧ pn p 2 ≤ 60 ∧ n + 4 * pn p 2 ≤ 0x200),
        fun w => (List.range (pn p 2)).map fun i => w.sxtWinRead (0x200 * k + n + 4 * i), id),
      (.cmdStageRead t c, 0x0507, stageRange p, fun w => (List.range (n / 4)).map fun i => w.sxtWinRead (0x85000 + k + 4 * i),
        fun w => w.setWord (masterKey 1 Reg.SXT_WIN) 0x80000004),
      (.cmdAzmStatus t c, 0x0604, true, fun w => ([Reg.AZM_STS, Reg.AZM_EXCSTS, Reg.AZM_CNT]).map w.word, id),
      (.cmdBalStatus t c, 0x0702, decide (1 ≤ n ∧ n ≤ 48 ∧ k + n ≤ 48),
        fun w => ([Reg.BAL_STS, Reg.BAL_MODE] ++ offsets (Reg.BAL_TILE k) n 4).map w.word, id),
      (.cmdHlmStatus t c, 0x080B, true,
        fun w => ([Reg.HLM_CTL, Reg.HLM_STS] ++ offsets Reg.HLM_IREF 7 4 ++ [Reg.DSP_ILIMD, Reg.DSP_ILIMC]).map w.word, id),
      (.cmdSafetyStatus t c, 0x0900, true, fun w => ([Reg.LDS_SEAL, Reg.LDS_CFG, Reg.LDS_TRIP, Reg.LDS_DRM, Reg.LDS_INSTS,
        Reg.LDS_OUT 0, Reg.LDS_OUT 1, Reg.LDS_OUT 2, Reg.LDS_OUT 3, Reg.BIN_STS, Reg.BIN_ISO]).map w.word, id),
      (.cmdRdnStatus t c, 0x0A01, true, fun w => [w.word Reg.RDN_STS, w.word Reg.RDN_MIREPOCH, w.word Reg.RDN_PEEREPOCH,
        w.word Reg.RDN_PEEROFS_LO, w.word Reg.RDN_PEEROFS_HI, w.word Reg.RDN_CNT,
        w.digestWord, w.word Reg.RDN_PEERDIGEST, w.word Reg.RDN_MIRTIME], fun w => w.setLatch 1 Reg.RDN_PEEROFS_HI (w.word Reg.RDN_PEEROFS_HI)),
      (.cmdUpdStatus t c, 0x0C05, true, fun w => [w.word Reg.UPD_STS, w.word Reg.UPD_STAGED, w.word (Reg.UPD_VER 0), w.word (Reg.UPD_VER 1),
        w.word (Reg.UPD_VER 2), w.word (Reg.UPD_VER 3), w.word (Reg.UPD_VER 4), w.winLeft, w.word Reg.UPD_PAUSE], id),
      (.cmdThermalStatus t c, 0x0D02, true, fun w => (List.range 8).map (fun i => nw (w.fld (F.THM_DIE_TEMP i))) ++
        (List.range 4).map (fun i => nw (w.fld (F.THM_TD_TEMP i))) ++ (List.range 8).map fun i => nw (w.fld (F.THM_TH_TEMP i)), id),
      (.cmdLogInfo t c, 0x0E00, true, fun w => [nw w.log.oldest, nw w.log.newest, nw w.logHeld, nw (w.fld F.LOG_WINDOW_SEC)], id),
      (.cmdWearRead t c, 0x0E05, decide (k ≤ 7 ∧ 1 ≤ pn p 2 ∧ pn p 2 ≤ 60),
        fun w => (List.range (pn p 2)).map fun i => w.wearItem k (n + i), id),
      (.cmdPmcRead t c, 0x0E08, decide (k ≤ 2), fun w => (List.range 18).map fun j => (w.pmcCommand 2).word (Reg.PMC_SNAP k j),
        fun w => w.pmcCommand 2)] : List (Instr × Nat × Bool × (State → List Word) × (State → State))) →
    Serves t x.2.1 c s →
    (x.2.2.1 = true → Answers x.1 t x.2.1 c stOk s fun w d v => d = x.2.2.2.1 w ∧ v = x.2.2.2.2 w) ∧
    (x.2.2.1 = false → Refuses x.1 t x.2.1 c stBadParam s)

/-- Tables 17-2, 17-4 to 17-7, 17-9: the system, time, acquisition, Almanac, Sextant and balancing commands that change state and answer at once. -/
def Obligations.StringCommandsTakeEffect : Prop :=
  (∀ (t k n : Nat) (c : Entry) (p : List Word) (s : State), p = entryPs c → k = pn p 0 → n = pn p 1 →
    (Serves t 0x0103 c s →
      ((1 ≤ n ∧ n ≤ 60 ∧ k + 4 * n ≤ 0x100000) → Answers (.cmdWriteReg t c) t 0x0103 c stOk s fun w d v => d = [] ∧
        v = w.burstWrite (issuerMaster c.iss) .bar0 k (p.drop 2)) ∧
      (¬ (1 ≤ n ∧ n ≤ 60 ∧ k + 4 * n ≤ 0x100000) → Refuses (.cmdWriteReg t c) t 0x0103 c stBadParam s)) ∧
    (Serves t 0x0109 c s →
      (3 < k → Refuses (.cmdMbxRelay t c) t 0x0109 c stBadParam s) ∧
      (k ≤ 3 → ringMaster c.iss = none → Refuses (.cmdMbxRelay t c) t 0x0109 c stState s) ∧
      (k < 3 → (ringMaster c.iss).isSome = true → Answers (.cmdMbxRelay t c) t 0x0109 c stOk s fun _ d v => d = [] ∧
        v.flag (h2dFull k) = false ∧ v.pilot.rx.head? = some (k, pw p 1)) ∧
      (k = 3 → (ringMaster c.iss).isSome = true →
        (s.flag (h2dFull 3) = false → Answers (.cmdMbxRelay t c) t 0x0109 c stOk s fun w d v => d = [] ∧
          SameRegs [Reg.HOST_H2DMBX 3, Reg.HOST_MBXSTS] w v ∧ v.word (Reg.HOST_H2DMBX 3) = pw p 1 ∧ v.flag (h2dFull 3) = true) ∧
        (s.flag (h2dFull 3) = true → s.pilot.relay.length < 16 → Answers (.cmdMbxRelay t c) t 0x0109 c stOk s fun w d v => d = [] ∧
          v.pilot.relay = w.pilot.relay ++ [pw p 1] ∧ v.regs = w.regs) ∧
        (s.flag (h2dFull 3) = true → 16 ≤ s.pilot.relay.length → Refuses (.cmdMbxRelay t c) t 0x0109 c stBusy s))) ∧
    (Serves t 0x010B c s → Answers (.cmdSetAwait t c) t 0x010B c stOk s fun w d v => d = [] ∧
      (c.iss = .pcie → SameRegs [Reg.SYS_AWAIT 3] w v ∧ v.word (Reg.SYS_AWAIT 3) = pw p 0) ∧
      (c.iss = .hspi → SameRegs [Reg.SYS_AWAIT 4] w v ∧ v.word (Reg.SYS_AWAIT 4) = pw p 0) ∧
      ∀ j : Nat, c.iss = .session j → v.session j = { w.session j with await := pw p 0 } ∧ v.regs = w.regs) ∧
    (Serves t 0x010C c s → (1 < k → Refuses (.cmdSetNet t c) t 0x010C c stBadParam s) ∧
      (k ≤ 1 → Answers (.cmdSetNet t c) t 0x010C c stOk s fun w d v => d = [] ∧
        v.pilot.net = Store.putAll zeroWord w.pilot.net (3 * k) (p.drop 1) ∧ ∀ j < 4,
          v.session j = if (w.session j).open_ = true ∧ (w.session j).port = k then Session.closed else w.session j)) ∧
    (Serves t 0x0201 c s → (0x10000 ≤ n → Refuses (.cmdSetCalendar t c) t 0x0201 c stBadParam s) ∧
      (n < 0x10000 → s.time.servo = .locked → Refuses (.cmdSetCalendar t c) t 0x0201 c stState s) ∧
      (n < 0x10000 → s.time.servo ≠ .locked → Answers (.cmdSetCalendar t c) t 0x0201 c stOk s fun w d v => d = [] ∧
        SameRegs [Reg.TIME_PTPSTS] w v ∧ v.flag F.TIME_PTPSTS_CAL_VALID = true ∧ v.time.rtc = (k + 2 ^ 32 * n) * 1000000000000 ∧
        v.time.rtcRun = true ∧ v.time.mer = w.time.mer)) ∧
    (Serves t 0x0203 c s →
      ((s.time.servo = .free ∧ s.flag F.TIME_PTPCTL_PTPEN = false) → Answers (.cmdSetRate t c) t 0x0203 c stOk s fun w d v => d = [] ∧
        v = w.setWord Reg.TIME_RATE (pw p 0)) ∧
      ((s.time.servo ≠ .free ∨ s.flag F.TIME_PTPCTL_PTPEN = true) → Refuses (.cmdSetRate t c) t 0x0203 c stState s)) ∧
    (Serves t 0x0204 c s → (0x10000 ≤ k → Refuses (.cmdSetUtcofs t c) t 0x0204 c stBadParam s) ∧
      (k < 0x10000 → Answers (.cmdSetUtcofs t c) t 0x0204 c stOk s fun w d v => d = [] ∧ v = w.setFld F.TIME_CALCTL_UTCOFS k))) ∧
  (∀ (t k n : Nat) (c : Entry) (p : List Word) (s : State), p = entryPs c → k = pn p 0 → n = pn p 1 →
    (Serves t 0x0301 c s → (0x3FF < k → Refuses (.cmdApplyTopology t c) t 0x0301 c stBadParam s) ∧
      (k ≤ 0x3FF → s.fld F.TRV_CTL_EN ≠ 0 → Refuses (.cmdApplyTopology t c) t 0x0301 c stState s) ∧
      (k ≤ 0x3FF → s.fld F.TRV_CTL_EN = 0 →
        ((s.setFld F.ACQ_CTL_NPOS k).applyOk = true → Answers (.cmdApplyTopology t c) t 0x0301 c stOk s fun w d v => d = [] ∧
          v = (w.setFld F.ACQ_CTL_NPOS k).applyTopology) ∧
        ((s.setFld F.ACQ_CTL_NPOS k).applyOk = false → Answers (.cmdApplyTopology t c) t 0x0301 c stRejected s fun w d v =>
          d = [v.word Reg.ACQ_STS] ∧ v = (w.setFld F.ACQ_CTL_NPOS k).raiseEv F.ACQ_STS_CFG_ERR))) ∧
    (Serves t 0x0302 c s → (0xF < k → Refuses (.cmdRings t c) t 0x0302 c stBadParam s) ∧
      (k ≤ 0xF → Answers (.cmdRings t c) t 0x0302 c stOk s fun w d v => d = [] ∧ v.word Reg.TRV_CTL = pw p 0 ∧
        v.upd.ringsAt = some (w.upd.ringsAt.getD (w.dial, k)))) ∧
    (Serves t 0x0304 c s → ∀ (ok : Bool) (q : State), q = (s.at t).setWord Reg.TRV_SLOTCFG (pw p 4) →
      ok = (decide (q.tminFor q.ovs * q.snapRate ≤ 1000000) && q.slotFits q.nmaxCells && imagesOk [(Reg.ACQ_CURTOL, pw p 0),
        (Reg.ACQ_SUMCFG, pw p 1), (Reg.ACQ_PLCFG, pw p 2), (Reg.ACQ_OWCFG, pw p 3), (Reg.TRV_SLOTCFG, pw p 4)]) →
      (ok = true → Answers (.cmdSetChecks t c) t 0x0304 c stOk s fun w d v => d = [] ∧ v = w.images [(Reg.ACQ_CURTOL, pw p 0),
        (Reg.ACQ_SUMCFG, pw p 1), (Reg.ACQ_PLCFG, pw p 2), (Reg.ACQ_OWCFG, pw p 3), (Reg.TRV_SLOTCFG, pw p 4)]) ∧
      (ok = false → Refuses (.cmdSetChecks t c) t 0x0304 c stBadParam s)) ∧
    (Serves t 0x0305 c s → (48 ≤ k → Refuses (.cmdOwRetest t c) t 0x0305 c stBadParam s) ∧
      (k < 48 → s.owCnf k = 0 → Refuses (.cmdOwRetest t c) t 0x0305 c stState s) ∧
      (k < 48 → s.owCnf k ≠ 0 → Answers (.cmdOwRetest t c) t 0x0305 c stOk s fun w d v => d = [] ∧
        v = (w.setFld F.ACQ_OWCMD_TILE k).owRetest k)) ∧
    (Serves t 0x0400 c s → ∀ l : Images, l = [(Reg.ALM_PMLEN, pw p 0), (Reg.ALM_PMEXP, pw p 1), (Reg.ALM_START, pw p 2)] →
      (imagesOk l = false → Refuses (.cmdAlmLoad t c) t 0x0400 c stBadParam s) ∧
      (imagesOk l = true → Answers (.cmdAlmLoad t c) t 0x0400 c stOk s fun _ d v => d = [] ∧ v.alm.pmem = [] ∧
        v.flag F.ALM_CTL_RUN = false ∧ v.word (Reg.ALM_EVSTS 0) = 0 ∧ v.word (Reg.ALM_EVSTS 1) = 0 ∧
        ∀ x < 64, (v.watch x).st = .halted ∧ (v.watch x).slots = [])) ∧
    (Serves t 0x0401 c s → (¬ (1 ≤ n ∧ n ≤ 60 ∧ k + n ≤ 65536) → Refuses (.cmdAlmWrite t c) t 0x0401 c stBadParam s) ∧
      (1 ≤ n → n ≤ 60 → k + n ≤ 65536 →
        (s.flag F.ALM_CTL_RUN = true → Refuses (.cmdAlmWrite t c) t 0x0401 c stState s) ∧
        (s.flag F.ALM_CTL_RUN = false → Answers (.cmdAlmWrite t c) t 0x0401 c stOk s fun w d v => d = [] ∧
          (∀ j < n, Tab.get zeroWord v.alm.pmem (k + j) = pw p (2 + j)) ∧ v.alm.dmem = w.alm.dmem ∧
          ∀ a : Nat, (a < k ∨ k + n ≤ a) → Tab.get zeroWord v.alm.pmem a = Tab.get zeroWord w.alm.pmem a))) ∧
    (Serves t 0x0402 c s →
      ((s.flag F.ALM_CTL_RUN = true ∨ s.pmCrc ≠ s.word Reg.ALM_PMEXP) → Answers (.cmdAlmStart t c) t 0x0402 c stRejected s fun w d v =>
        d = [v.word Reg.ALM_STS] ∧ v = w.raiseEv F.ALM_STS_START_REJ) ∧
      ((s.flag F.ALM_CTL_RUN = false ∧ s.pmCrc = s.word Reg.ALM_PMEXP) → Answers (.cmdAlmStart t c) t 0x0402 c stOk s fun w d v =>
        d = [] ∧ v.flag F.ALM_CTL_RUN = true ∧ (v.watch 0).st = .ready ∧ (v.watch 0).pc = w.fld F.ALM_START_PC ∧
        (v.watch 0).pri = w.fld F.ALM_START_PRI ∧ ∀ x : Nat, x ≠ 0 → v.watch x = w.watch x)) ∧
    (Serves t 0x0404 c s → (dmRange k n = false → Refuses (.cmdAlmDwrite t c) t 0x0404 c stBadParam s) ∧
      (dmRange k n = true → Answers (.cmdAlmDwrite t c) t 0x0404 c stOk s fun w d v => d = [] ∧ v.regs = w.regs ∧
        v.alm.pmem = w.alm.pmem ∧ (∀ j < n, Tab.get zeroWord v.alm.dmem (k / 4 + j) = pw p (2 + j)) ∧
        ∀ a : Nat, (a < k / 4 ∨ k / 4 + n ≤ a) → Tab.get zeroWord v.alm.dmem a = Tab.get zeroWord w.alm.dmem a)) ∧
    (Serves t 0x0405 c s → Answers (.cmdAlmFlags t c) t 0x0405 c stOk s fun w d v => d = [] ∧ ∀ f < 64, ∀ set clr : Bool,
      set = (if f < 32 then pw p 0 else pw p 1).getLsbD (f % 32) → clr = (if f < 32 then pw p 2 else pw p 3).getLsbD (f % 32) →
        (set = false → clr = false → v.flag (evFld f) = w.flag (evFld f)) ∧
        (set = true → (∀ x < 64, w.hears x (fun c a => c == 5 && a == f) = false) → w.evWokeNow f = false →
          v.flag (evFld f) = true) ∧
        (set = false → clr = true → Tab.get (fun _ => 0) w.alm.evAt f ≠ w.fab + 1 → v.flag (evFld f) = false))) ∧
  ∀ (t k n : Nat) (c : Entry) (p : List Word) (s : State), p = entryPs c → k = pn p 0 → n = pn p 1 →
    (Serves t 0x0500 c s → ∀ ok : Bool,
      ok = decide (k % 4 = 0 ∧ 1 ≤ n ∧ n ≤ 60 ∧ ((0x80000 ≤ k ∧ k + 4 * n ≤ 0x84000) ∨ (0x84000 ≤ k ∧ k + 4 * n ≤ 0x84280))) →
      (ok = false → Refuses (.cmdSxtWrite t c) t 0x0500 c stBadParam s) ∧
      (ok = true → Answers (.cmdSxtWrite t c) t 0x0500 c stOk s fun w d v => d = [] ∧ ∀ q : State, q = w.passBoundary → v.regs = q.regs ∧
        (∀ j < n, Tab.get zeroWord v.sxt.mem (k / 4 + j) = pw p (2 + j)) ∧
        ∀ a : Nat, (a < k / 4 ∨ k / 4 + n ≤ a) → Tab.get zeroWord v.sxt.mem a = Tab.get zeroWord q.sxt.mem a)) ∧
    (Serves t 0x0506 c s → (stageRange p = false → Refuses (.cmdStageWrite t c) t 0x0506 c stBadParam s) ∧
      (stageRange p = true → s.sxt.restore.isSome = true → Refuses (.cmdStageWrite t c) t 0x0506 c stBusy s) ∧
      (stageRange p = true → s.sxt.restore = none → Answers (.cmdStageWrite t c) t 0x0506 c stOk s fun w d v => d = [] ∧ ∀ q : State, q = w.passBoundary →
        SameRegs [masterKey 1 Reg.SXT_WIN] q v ∧ (∀ j < n / 4, Tab.get zeroWord v.sxt.mem ((0x85000 + k) / 4 + j) = pw p (2 + j)) ∧
        ∀ a : Nat, (a < (0x85000 + k) / 4 ∨ (0x85000 + k) / 4 + n / 4 ≤ a) → Tab.get zeroWord v.sxt.mem a = Tab.get zeroWord q.sxt.mem a)) ∧
    (Serves t 0x0701 c s → ∀ ok : Bool,
      ok = (decide (1 ≤ n ∧ n ≤ 48 ∧ k + n ≤ 48) && (p.drop 2).all fun x => decide (x.toNat < 0x10000)) →
      (ok = false → Refuses (.cmdBalManual t c) t 0x0701 c stBadParam s) ∧
      (ok = true → Answers (.cmdBalManual t c) t 0x0701 c stOk s fun w d v => d = [] ∧ (∀ j < n,
        getBits (v.word (Reg.BAL_MAN (k + j))) 0 16 = pn p (2 + j)) ∧
        SameRegs ((List.range n).map fun j => Reg.BAL_MAN (k + j)) w.passBoundary v)) ∧
    (Serves t 0x0D01 c s → ∀ ok : Bool, ok = decide (105 ≤ k ∧ k ≤ 120 ∧ n ≤ 1 ∧ 2 ≤ pn p 2 ∧ pn p 2 ≤ 16) →
      (ok = false → Refuses (.cmdThermalSetup t c) t 0x0D01 c stBadParam s) ∧
      (ok = true → Answers (.cmdThermalSetup t c) t 0x0D01 c stOk s fun _ d v => d = [] ∧ v.fld F.THM_CTL_LIMIT = k ∧
        v.fld F.THM_CTL_METHOD = n ∧ v.fld F.THM_CTL_N = pn p 2)) ∧
    (Serves t 0x0E07 c s → ∀ (ok : Bool) (l : Images), l = (List.range 24).map (fun j => (Reg.PMC_SEL (j / 8) (j % 8), pw p (1 + j))) →
      ok = (decide (k ≤ 3) && imagesOk l) →
      (ok = false → Refuses (.cmdPmcControl t c) t 0x0E07 c stBadParam s) ∧
      (ok = true → Answers (.cmdPmcControl t c) t 0x0E07 c stOk s fun w d v => d = [] ∧ v = (w.images l).pmcCommand k))

/-- Tables 17-10 to 17-13, R341, R404, R406, R428, R431: the Helm, safety, redundancy and CAN commands that answer at once. -/
def Obligations.PowerSafetyAndCanCommandsTakeEffect : Prop :=
  (∀ (t k n : Nat) (c : Entry) (p : List Word) (s : State), p = entryPs c → k = pn p 0 → n = pn p 1 →
    (Serves t 0x0800 c s → ∀ l : Images, l = [(Reg.HLM_CARRIER, pw p 0), (Reg.HLM_LEGS, pw p 1), (Reg.HLM_DLIM, pw p 2),
        (Reg.HLM_IRATED, pw p 3)] →
      (imagesOk l = false → Refuses (.cmdHlmSetup t c) t 0x0800 c stBadParam s) ∧
      (imagesOk l = true → s.helmRun = true → Refuses (.cmdHlmSetup t c) t 0x0800 c stState s) ∧
      (imagesOk l = true → s.helmRun = false → Answers (.cmdHlmSetup t c) t 0x0800 c stOk s fun w d v => d = [] ∧ v = w.images l)) ∧
    (Serves t 0x0804 c s → ∀ (ok : Bool) (new : Nat → Nat → Word → List SpWrite), ok = decide (k ≤ 0xF ∧ ((pw p 0).getLsbD 0 = false ∨ n ≤ 2)) →
      (∀ (b sel : Nat) (x : Word), new b sel x = if (pw p 0).getLsbD b then [⟨(s.at t).dial, sel, x, false⟩] else []) →
      (ok = false → Refuses (.cmdHlmSetpoint t c) t 0x0804 c stBadParam s) ∧
      (ok = true → Answers (.cmdHlmSetpoint t c) t 0x0804 c stOk s fun w d v => d = [] ∧ v.hlm.sp = w.hlm.sp ++
        (if n = w.fld F.HLM_CTL_CLASS then [] else new 0 2 (pw p 1)) ++ new 1 0 (pw p 2) ++ new 2 1 (pw p 3) ++ new 3 3 (pw p 4))) ∧
    (Serves t 0x0901 c s → Answers (.cmdSafetyReset t c) t 0x0901 c stOk s fun w d v =>
      d = [w.word Reg.LDS_TRIP, v.word Reg.LDS_TRIP] ∧ v.flag F.LDS_SEAL_SEAL_CHANGED = w.flag F.LDS_SEAL_SEAL_CHANGED ∧
      v.flag F.LDS_SEAL_SEAL_FAULT = w.flag F.LDS_SEAL_SEAL_FAULT ∧ v.flag F.LDS_TRIP_THERMAL = w.flag F.LDS_TRIP_THERMAL ∧
      v.fld F.LDS_DRM_STATE = w.fld F.LDS_DRM_STATE ∧ (∀ j < 4, v.energized j = true → w.energized j = true) ∧
      (∀ j < 8, w.pairDemands j = true → (v.fld F.LDS_INSTS_DEMAND).testBit j = (w.fld F.LDS_INSTS_DEMAND).testBit j) ∧
      (∀ j < 8, w.pairDemands j = false → (v.fld F.LDS_INSTS_DEMAND).testBit j = false) ∧
      v.flag F.LDS_TRIP_INPUT = (w.flag F.LDS_TRIP_INPUT && v.fld F.LDS_INSTS_DEMAND != 0) ∧
      v.flag F.LDS_TRIP_OCA = (w.flag F.LDS_TRIP_OCA && w.lds.oc.testBit 0) ∧
      v.flag F.LDS_TRIP_OCB = (w.flag F.LDS_TRIP_OCB && w.lds.oc.testBit 1) ∧
      v.flag F.LDS_TRIP_ARMCRC = (w.flag F.LDS_TRIP_ARMCRC && w.anyArmFault) ∧
      v.flag F.LDS_TRIP_FL = (w.flag F.LDS_TRIP_FL && w.fld F.TRV_FLSTS_TOGGLING != 15) ∧
      v.flag F.LDS_SEAL_SEAL_GLITCH = false) ∧
    (Serves t 0x0902 c s → ((0xF < k ∨ 0xF < n) → Refuses (.cmdOutputRequest t c) t 0x0902 c stBadParam s) ∧
      (k ≤ 0xF → n ≤ 0xF → Answers (.cmdOutputRequest t c) t 0x0902 c stOk s fun w d v => d = [v.word Reg.BIN_OUTREQ] ∧
        v = w.outreqWrite ((w.word Reg.BIN_OUTREQ &&& ~~~ pw p 0) ||| (pw p 1 &&& pw p 0)))) ∧
    (Serves t 0x0903 c s → ∀ ok : Bool, ok = decide (1 ≤ k ∧ k ≤ 4 ∧ n ≤ if k ≤ 2 then 0xFFFF else 0xFF) →
      (ok = false → Refuses (.cmdBinParam t c) t 0x0903 c stBadParam s) ∧
      (ok = true → s.binParam k = none → Refuses (.cmdBinParam t c) t 0x0903 c stState s) ∧
      (ok = true → ∀ (f : Fld) (dflt : Nat) (low : Bool), s.binParam k = some (f, dflt, low) →
        ((if low then dflt < n else n < dflt) → Answers (.cmdBinParam t c) t 0x0903 c stRejected s fun w d v =>
          d = [v.word Reg.BIN_STS] ∧ v = w.raiseEv F.BIN_STS_PARAM_REJ) ∧
        (¬ (if low then dflt < n else n < dflt) → Answers (.cmdBinParam t c) t 0x0903 c stOk s fun w d v => d = [] ∧
          SameRegs [f.reg] w v ∧ v.fld f = n))) ∧
    (Serves t 0x0904 c s → (s.pilot.seals[k]? = none → Refuses (.cmdSealHistory t c) t 0x0904 c stState s) ∧
      ∀ e : SealEntry, s.pilot.seals[k]? = some e → Answers (.cmdSealHistory t c) t 0x0904 c stOk s fun w d v => v = w ∧
        d = [nw e.cal, nw (e.cal / 2 ^ 32), nw e.old, nw e.new]) ∧
    (Serves t 0x0A00 c s → ((pw p 0 &&& 0x3FFFFFFF#32) ≠ 0 → Refuses (.cmdRdnSetup t c) t 0x0A00 c stBadParam s) ∧
      ((pw p 0 &&& 0x3FFFFFFF#32) = 0 → s.fld F.TRV_CTL_EN ≠ 0 → Refuses (.cmdRdnSetup t c) t 0x0A00 c stState s) ∧
      ((pw p 0 &&& 0x3FFFFFFF#32) = 0 → s.fld F.TRV_CTL_EN = 0 → Answers (.cmdRdnSetup t c) t 0x0A00 c stOk s fun w d v => d = [] ∧
        v = w.rdnctlWrite 1 (pw p 0)))) ∧
  ∀ (t k n : Nat) (begun : Bool) (c : Entry) (p : List Word) (s : State), p = entryPs c → k = pn p 0 → n = pn p 1 →
    (Serves t 0x0B00 c s → ∀ (ok : Bool) (l : Images),
      l = [(Reg.CAN_NBT k, pw p 2), (Reg.CAN_DBT k, pw p 3), (Reg.CAN_TDC k, pw p 4), (Reg.CAN_TMID k, pw p 5)] →
      ok = (decide (k < 3) && imagesOk ((Reg.CAN_CTL k, pw p 1) :: l) && nbtOk (pw p 2) (s.word (Reg.CAN_DBT k)) && dbtOk (pw p 3) (pw p 2)) →
      (ok = false → Refuses (.cmdCanSetup t c) t 0x0B00 c stBadParam s) ∧
      (ok = true → Answers (.cmdCanSetup t c) t 0x0B00 c stOk s fun w d v => d = [] ∧
        v = ((w.canCtlWrite k (pw p 1 &&& 0x7FFFFFFE#32)).images l).canCtlWrite k (pw p 1))) ∧
    (Serves t 0x0B02 c s → (3 ≤ k → Refuses (.cmdCanSend t c) t 0x0B02 c stBadParam s) ∧
      (k < 3 → s.activeRole = false → Refuses (.cmdCanSend t c) t 0x0B02 c stState s) ∧
      (k < 3 → s.activeRole = true →
        (s.descBad k (p.drop 1) = true → Answers (.cmdCanSend t c) t 0x0B02 c stBadParam s fun w d v => d = [] ∧
          v = w.raiseEv (F.CAN_STS_DESC_ERR k)) ∧
        (s.descBad k (p.drop 1) = false → 16 ≤ (s.can1 k).queue.length → Refuses (.cmdCanSend t c) t 0x0B02 c stState s) ∧
        (s.descBad k (p.drop 1) = false → (s.can1 k).queue.length < 16 → Answers (.cmdCanSend t c) t 0x0B02 c stOk s fun w d v =>
          d = [nw (w.can1 k).nextSerial] ∧ (v.can1 k).queue = (w.can1 k).queue ++ [⟨(w.can1 k).nextSerial, p.drop 1⟩]))) ∧
    (Serves t 0x0B03 c s → ((3 ≤ k ∨ 64 ≤ n) → Refuses (.cmdCanRecv t c) t 0x0B03 c stBadParam s) ∧
      (k < 3 → n < 64 → s.flag (objFld (Reg.CAN_RXFULL k) n) = false → Refuses (.cmdCanRecv t c) t 0x0B03 c stState s) ∧
      (k < 3 → n < 64 → s.flag (objFld (Reg.CAN_RXFULL k) n) = true → Answers (.cmdCanRecv t c) t 0x0B03 c stOk s fun w d v =>
        d = ((List.range 20).map fun j => w.rxWord k n j) ∧ Tab.get (fun _ => none) (v.can1 k).main n =
          Tab.get (fun _ => none) (w.can1 k).shadow n ∧ Tab.get (fun _ => none) (v.can1 k).shadow n = none)) ∧
    (Serves t 0x0B04 c s → ((3 ≤ k ∨ 0x10000 ≤ n) → Refuses (.cmdCanCancel t begun c) t 0x0B04 c stBadParam s) ∧
      (k < 3 → n < 0x10000 →
        ((∀ e ∈ (s.can1 k).queue, e.serial ≠ n) → Refuses (.cmdCanCancel t begun c) t 0x0B04 c stState s) ∧
        (begun = true → (s.can1 k).queue.head?.map CanTx.serial = some n → Refuses (.cmdCanCancel t begun c) t 0x0B04 c stState s) ∧
        ((∃ e ∈ (s.can1 k).queue, e.serial = n) → (begun = false ∨ (s.can1 k).queue.head?.map CanTx.serial ≠ some n) →
          Answers (.cmdCanCancel t begun c) t 0x0B04 c stOk s fun w d v => d = [] ∧
            (v.can1 k).queue = (w.can1 k).queue.filter fun e => e.serial != n))) ∧
    (Serves t 0x0B06 c s → ∀ ok : Bool, ok = decide (k < 3 ∧ n ≤ 1 ∧ 100 ≤ pn p 2 ∧ pn p 2 ≤ 65535) →
      (ok = false → Refuses (.cmdCanTimemaster t c) t 0x0B06 c stBadParam s) ∧
      (ok = true → Answers (.cmdCanTimemaster t c) t 0x0B06 c stOk s fun w d v => d = [] ∧ SameRegs [Reg.CAN_TMCTL k] w v ∧
        v.fld (F.CAN_TMCTL_TMEN k) = n ∧ v.fld (F.CAN_TMCTL_TMCYC k) = pn p 2))

/-- R407, R415 to R419, R448 to R451, R455, R460 to R463, R486, R492, Tables 17-14 to 17-17: the commands whose effect waits for an event, and the update,
power, Logbook and spare commands. -/
def Obligations.WaitingUpdateAndLogCommandsTakeEffect : Prop :=
  (∀ (t : Nat) (c : Entry) (s : State) (x : Instr × Nat × (State → State)),
    x ∈ ([(.cmdClearOverrides t c, 0x0106, fun w => { w with ep := { w.ep with ovrClear := true, ovrNew := [] } }),
      (.cmdSxtDapply t c, 0x0501, fun w => w.sxtctlWrite (w.word Reg.SXT_CTL ||| 1)), (.cmdExportLearned t c, 0x0508, fun w => w.lrnctlBit 3),
      (.cmdAcceptNominal t c, 0x0509, fun w => w.lrnctlBit 2), (.cmdAzmApply t c, 0x0602, fun w => w.azmctlWrite (w.word Reg.AZM_CTL ||| 1))] :
        List (Instr × Nat × (State → State))) → Serves t x.2.1 c s →
    (s.flag F.SYS_EPOCHCTL_EN = false → Answers x.1 t x.2.1 c stState s fun w d v => d = [] ∧ v = w.passBoundary) ∧
    (s.flag F.SYS_EPOCHCTL_EN = true → Waits x.1 t x.2.1 c (.boundary ((s.taken t x.2.1 c).passBoundary.ep.opn.serial + 1) false) s
      fun w v => v = x.2.2 w.passBoundary)) ∧
  (∀ (t k n : Nat) (c : Entry) (p : List Word) (s : State), p = entryPs c → k = pn p 0 → n = pn p 1 →
    (Serves t 0x0104 c s →
      (((pw p 0 &&& 0xFFFFFEF8#32) ≠ 0 ∨ 4 < getBits (pw p 0) 0 3) → Refuses (.cmdSetProfile t c) t 0x0104 c stBadParam s) ∧
      ((pw p 0 &&& 0xFFFFFEF8#32) = 0 → getBits (pw p 0) 0 3 ≤ 4 →
        (getBits (pw p 0) 0 3 = s.fld F.SYS_PROFILE_PROFILE → Answers (.cmdSetProfile t c) t 0x0104 c stOk s fun w d v => d = [] ∧
          v = w.profileWrite (pw p 0)) ∧
        (getBits (pw p 0) 0 3 ≠ s.fld F.SYS_PROFILE_PROFILE → s.flag F.SYS_EPOCHCTL_EN = false →
          Answers (.cmdSetProfile t c) t 0x0104 c stState s fun w d v => d = [] ∧ v = w.passBoundary) ∧
        (getBits (pw p 0) 0 3 ≠ s.fld F.SYS_PROFILE_PROFILE → s.flag F.SYS_EPOCHCTL_EN = true →
          Waits (.cmdSetProfile t c) t 0x0104 c (.boundary ((s.taken t 0x0104 c).passBoundary.ep.opn.serial + 1) false) s
            fun w v => v = w.passBoundary.profileWrite (pw p 0)))) ∧
    (Serves t 0x0105 c s → ∀ ok : Bool, ok = decide (1 ≤ k ∧ k ≤ 5 ∧ (k ≠ 3 ∨ n ≤ 500) ∧ (k < 4 ∨ n ≤ 1)) →
      (ok = false → Refuses (.cmdSetOverride t c) t 0x0105 c stBadParam s) ∧
      (ok = true → s.flag F.SYS_EPOCHCTL_EN = false → Refuses (.cmdSetOverride t c) t 0x0105 c stState s) ∧
      (ok = true → s.flag F.SYS_EPOCHCTL_EN = true → ∀ fits : Bool,
        fits = s.ovrOk (s.fld F.SYS_PROFILE_PROFILE) (s.ep.ovrNew.reverse ++ (if s.ep.ovrClear then [] else s.ep.ovr)) ⟨k, n⟩ →
        (fits = true → Waits (.cmdSetOverride t c) t 0x0105 c (.boundary ((s.taken t 0x0105 c).passBoundary.ep.opn.serial + 1) false) s
          fun w v => v = { w.passBoundary with ep := { w.passBoundary.ep with ovrNew := w.passBoundary.ep.ovrNew ++ [⟨k, n⟩] } }) ∧
        (fits = false → Answers (.cmdSetOverride t c) t 0x0105 c stRejected s fun w d v => d = [v.word Reg.SYS_EPOCHSTS] ∧
          v = w.raiseEv F.SYS_EPOCHSTS_CFG_REJECT))) ∧
    (Serves t 0x0505 c s → (s.flag F.SYS_EPOCHCTL_EN = false → Refuses (.cmdRestoreLearned t c) t 0x0505 c stState s) ∧
      (s.flag F.SYS_EPOCHCTL_EN = true → (s.taken t 0x0505 c).passBoundary.restoreCode = 0 → Waits (.cmdRestoreLearned t c) t 0x0505 c
        (.boundary ((s.taken t 0x0505 c).passBoundary.ep.opn.serial + 1) false) s fun w v => v = w.passBoundary.lrnctlBit 1) ∧
      (s.flag F.SYS_EPOCHCTL_EN = true → (s.taken t 0x0505 c).passBoundary.restoreCode ≠ 0 → Answers (.cmdRestoreLearned t c) t 0x0505 c stRejected s fun w d v =>
        d = [v.word Reg.SXT_LRNSTS] ∧ v = w.passBoundary.lrnctlBit 1)) ∧
    (Serves t 0x050A c s → (s.journalMode = false → Refuses (.cmdJournalSave t c) t 0x050A c stState s) ∧
      (s.journalMode = true → Waits (.cmdJournalSave t c) t 0x050A c (.save s.sxt.save.isSome) s fun w v =>
        v = w.lrnctlBit 0)) ∧
    (Serves t 0x0802 c s → ∀ (ok : Bool) (l : List (Nat × Word)), l = (List.range k).map (fun i => (pn p (1 + 2 * i), pw p (2 + 2 * i))) →
      ok = (decide (1 ≤ k ∧ k ≤ 8) && l.all fun x => decide (x.1 < 8) && (Fl.ofWord x.2).isFinite) →
      (ok = false → Refuses (.cmdHlmCoef t c) t 0x0802 c stBadParam s) ∧
      (ok = true → s.flag F.HLM_CTL_CEN = false → Refuses (.cmdHlmCoef t c) t 0x0802 c stState s) ∧
      (ok = true → s.flag F.HLM_CTL_CEN = true → Waits (.cmdHlmCoef t c) t 0x0802 c (.coef ((s.word Reg.HLM_COEFCNT).toNat + k)) s fun w v =>
        v.hlm.coefQ = w.hlm.coefQ ++ l.map fun x => ⟨(s.at t).dial, x.1, x.2⟩)) ∧
    (Serves t 0x0803 c s → ((pw p 0 &&& 0x1FFFFFFF#32) ≠ 0 → Refuses (.cmdHlmRun t c) t 0x0803 c stBadParam s) ∧
      ((pw p 0 &&& 0x1FFFFFFF#32) = 0 →
        ((pw p 0).getLsbD 31 = false → Answers (.cmdHlmRun t c) t 0x0803 c stOk s fun _ d v => d = [v.word Reg.HLM_CTL] ∧
          v.helmRun = false) ∧
        ((pw p 0).getLsbD 31 = true → (pw p 0).getLsbD 30 = true → s.flag F.HLM_CTL_CEN = true →
          (s.helmRun = true → Answers (.cmdHlmRun t c) t 0x0803 c stOk s fun _ d v => d = [v.word Reg.HLM_CTL] ∧ v.helmRun = true) ∧
          (s.helmRun = false → (s.at t).helmMayRun = true → Answers (.cmdHlmRun t c) t 0x0803 c stOk s fun _ d v =>
            d = [v.word Reg.HLM_CTL] ∧ v.helmRun = true ∧ v.hlm.entry = true) ∧
          (s.helmRun = false → (s.at t).helmMayRun = false → Answers (.cmdHlmRun t c) t 0x0803 c stState s fun _ d v => d = [] ∧
            v.helmRun = false ∧ v.flag F.HLM_STS_CFG_REJ = true)) ∧
        ((pw p 0).getLsbD 31 = true → (pw p 0).getLsbD 30 = true → s.flag F.HLM_CTL_CEN = false → s.helmRun = false →
          Waits (.cmdHlmRun t c) t 0x0803 c (.carrier ((s.at t).dial + tcNs (s.fld F.HLM_CARRIER_CPER))) s fun _ v =>
            v.flag F.HLM_CTL_CEN = true ∧ v.carrierRun = true ∧ v.helmRun = false))) ∧
    (Serves t 0x0B05 c s → ∀ ok : Bool, ok = decide (k < 3 ∧ 1 ≤ n ∧ n ≤ 10000) →
      (ok = false → Refuses (.cmdCanAutobaud t c) t 0x0B05 c stBadParam s) ∧
      (ok = true → Waits (.cmdCanAutobaud t c) t 0x0B05 c (.autobaud k ((s.at t).dial + 1000000 * n)) s fun w v =>
        v = (w.setFld (F.CAN_ABCTL_FOUND k) 0).abGo k))) ∧
  (∀ (t k n : Nat) (c : Entry) (p : List Word) (s : State), p = entryPs c → k = pn p 0 → n = pn p 1 →
    (Serves t 0x0C00 c s → ∀ ok : Bool, ok = decide (1 ≤ k ∧ k ≤ 5 ∧ 1 ≤ n ∧ n ≤ 288 + maxPayload k) →
      (ok = false → Refuses (.cmdUpdBegin t c) t 0x0C00 c stBadParam s) ∧
      (ok = true → s.flag F.UPD_STS_PENDING = true → Refuses (.cmdUpdBegin t c) t 0x0C00 c stState s) ∧
      (ok = true → s.flag F.UPD_STS_PENDING = false → s.stageBusy c.iss = true → Refuses (.cmdUpdBegin t c) t 0x0C00 c stBusy s) ∧
      (ok = true → s.flag F.UPD_STS_PENDING = false → s.stageBusy c.iss = false → Answers (.cmdUpdBegin t c) t 0x0C00 c stOk s fun w d v =>
        d = [] ∧ SameRegs [Reg.UPD_STAGED] w v ∧ v.upd.stage = some { src := c.iss, kind := k, len := n, ver := pw p 2 } ∧
        v.fld F.UPD_STAGED_KIND = k ∧ v.fld F.UPD_STAGED_DONE = w.fld F.UPD_STAGED_DONE &&& (31 ^^^ 2 ^ (k - 1)) ∧
        ∀ a : Nat, Tab.get flashErased v.upd.flash a =
          if imageAddr w.stageBank k / 4 ≤ a ∧ a < imageAddr w.stageBank k / 4 + 0x40000 then flashErased a else Tab.get flashErased w.upd.flash a)) ∧
    (Serves t 0x0C01 c s → ((n < 4 ∨ 240 < n) → Refuses (.cmdUpdWrite t c) t 0x0C01 c stBadParam s) ∧
      (4 ≤ n → n ≤ 240 → s.stageOf c.iss = none → Refuses (.cmdUpdWrite t c) t 0x0C01 c stState s) ∧
      (4 ≤ n → n ≤ 240 → ∀ x : Stage, s.stageOf c.iss = some x →
        (x.len < k + n → Refuses (.cmdUpdWrite t c) t 0x0C01 c stBadParam s) ∧
        (k + n ≤ x.len → Answers (.cmdUpdWrite t c) t 0x0C01 c stOk s fun w d v => d = [] ∧
          v = w.flashWrite (imageAddr w.stageBank x.kind + k) ((wordsBytes (p.drop 2)).take n)))) ∧
    (Serves t 0x0C02 c s → (s.stageOf c.iss = none → Refuses (.cmdUpdEnd t c) t 0x0C02 c stState s) ∧
      ∀ x : Stage, s.stageOf c.iss = some x →
        (s.imageOk s.stageBank x.kind = true → Answers (.cmdUpdEnd t c) t 0x0C02 c stOk s fun w d v => d = [nw x.kind] ∧
          SameRegs [Reg.UPD_STAGED] w v ∧ v.upd.stage = none ∧ v.fld F.UPD_STAGED_KIND = 0 ∧
          v.fld F.UPD_STAGED_DONE = (w.fld F.UPD_STAGED_DONE ||| 2 ^ (x.kind - 1)) % 32) ∧
        (s.imageOk s.stageBank x.kind = false → Answers (.cmdUpdEnd t c) t 0x0C02 c stVerify s fun w d v => d = [] ∧
          SameRegs [Reg.UPD_STAGED, Reg.UPD_STS] w v ∧ v.upd.stage = none ∧ v.flag F.UPD_STS_VERIFY_FAIL = true ∧
          v.fld F.UPD_STAGED_DONE = w.fld F.UPD_STAGED_DONE)) ∧
    (Serves t 0x0C03 c s → (s.fld F.UPD_STAGED_DONE ≠ 31 → Refuses (.cmdActivate t c) t 0x0C03 c stState s) ∧
      (s.fld F.UPD_STAGED_DONE = 31 → s.flag F.UPD_STS_RECOVERY = true → Answers (.cmdActivate t c) t 0x0C03 c stOk s fun w d v =>
        d = [0] ∧ v.upd.resetAt = some ((s.at t).dial + 10000000) ∧ v.upd.flash = (w.writeRecord w.stageBank 0).upd.flash ∧ v.regs = w.regs) ∧
      (s.fld F.UPD_STAGED_DONE = 31 → s.flag F.UPD_STS_RECOVERY = false →
        (s.activateMay = false → Refuses (.cmdActivate t c) t 0x0C03 c stState s) ∧
        (s.activateMay = true → s.helmRun = true → Waits (.cmdActivate t c) t 0x0C03 c (.ramp ((s.at t).dial)) s fun w v =>
          v.hlm.sp = w.hlm.sp ++ [⟨(s.at t).dial, 2, 2, false⟩, ⟨(s.at t).dial, 0, 0, false⟩]) ∧
        (s.activateMay = true → s.helmRun = false → Waits (.cmdActivate t c) t 0x0C03 c .pause s fun w v =>
          v.upd.pauseAt = some ((s.at t).dial) ∧ v.upd.pauseTick = w.lds.tick ∧ v.upd.resumed = false ∧ v.flag F.UPD_STS_HOLD = true ∧
          v.fld F.UPD_STS_RUNBANK = 1 - w.fld F.UPD_STS_RUNBANK ∧ v.fld F.UPD_STAGED_DONE = 0 ∧ v.lds.binHeld = true ∧
          v.fld F.LDS_TRIP_BPERMIT_L = 0 ∧ v.azm.win = none))) ∧
    (Serves t 0x0C04 c s →
      ((s.flag F.UPD_STS_PENDING = false ∨ s.upd.winEnd = none ∨ ∃ e : Nat, s.upd.winEnd = some e ∧ e ≤ (s.at t).dial) →
        Refuses (.cmdCommit t c) t 0x0C04 c stState s) ∧
      (∀ e : Nat, s.flag F.UPD_STS_PENDING = true → s.upd.winEnd = some e → (s.at t).dial < e →
        Answers (.cmdCommit t c) t 0x0C04 c stOk s fun w d v => d = [] ∧ v.flag F.UPD_STS_PENDING = false ∧ v.upd.winEnd = none ∧
          v.fld F.UPD_WINLEFT_SEC = 0 ∧ v.upd.flash = (w.writeRecord (w.fld F.UPD_STS_RUNBANK) 0).upd.flash)) ∧
    (Serves t 0x0D00 c s → (∀ w ∈ s.pilot.waiting, ∀ (off b : Bool), w.what ≠ .sleep off b) →
      ((3 < k ∨ (pw p 1 &&& ~~~ trimBits) ≠ 0) → Refuses (.cmdPowerState t c) t 0x0D00 c stBadParam s) ∧
      ((pw p 1 &&& ~~~ trimBits) = 0 →
        (k = 0 → Answers (.cmdPowerState t c) t 0x0D00 c stOk s fun _ d v => d = [] ∧ v.word Reg.THM_TRIM = 0 ∧
          v.fld F.THM_STS_PSTATE = 0) ∧
        (k = 1 → s.trimOk c.iss (pw p 1) = false → Refuses (.cmdPowerState t c) t 0x0D00 c stBadParam s) ∧
        (k = 1 → s.trimOk c.iss (pw p 1) = true → Answers (.cmdPowerState t c) t 0x0D00 c stOk s fun _ d v => d = [] ∧
          v.word Reg.THM_TRIM = pw p 1 ∧ v.fld F.THM_STS_PSTATE = 1) ∧
        ((k = 2 ∨ k = 3) → (s.helmRun = true ∨ s.fld ⟨Reg.BIN_OUTREQ, 3, 0⟩ ≠ 0) →
          Refuses (.cmdPowerState t c) t 0x0D00 c stState s) ∧
        ((k = 2 ∨ k = 3) → s.helmRun = false → s.fld ⟨Reg.BIN_OUTREQ, 3, 0⟩ = 0 →
          (s.journalMode = true → Waits (.cmdPowerState t c) t 0x0D00 c (.sleep (k == 3) s.sxt.save.isSome) s fun w v =>
            v.sxt.trig = (w.sxt.trig <|> some 3) ∧ v.fld F.THM_STS_PSTATE = w.fld F.THM_STS_PSTATE) ∧
          (s.journalMode = false → s.sxt.save = none → Completes (.cmdPowerState t c) s fun u =>
            u.fld F.THM_STS_PSTATE = k ∧ u.dial = (s.at t).dial ∧ (k = 3 → u.pwr.off = true)))))) ∧
  ∀ (t k n : Nat) (c : Entry) (p : List Word) (s : State), p = entryPs c → k = pn p 0 → n = pn p 1 →
    (Serves t 0x0E01 c s → ((n = 0 ∨ 3 < n) → Refuses (.cmdLogRead t c) t 0x0E01 c stBadParam s) ∧
      (1 ≤ n → n ≤ 3 →
        ((∃ i ∈ indicesFrom n k, s.logRec i = none) → Refuses (.cmdLogRead t c) t 0x0E01 c stState s) ∧
        ((∀ i ∈ indicesFrom n k, s.logRec i ≠ none) → Answers (.cmdLogRead t c) t 0x0E01 c stOk s fun w d v =>
          d = (indicesFrom n k).flatMap w.logWords ∧ v.log = w.log))) ∧
    (Serves t 0x0E03 c s → Answers (.cmdLogNonce t c) t 0x0E03 c stOk s fun w d v => ∃ x : Nat, d = [nw x, nw (x / 2 ^ 32)] ∧
      v.pilot.nonce = some (numBytes x 8, (s.at t).dial) ∧ v.freeCtr = w.freeCtr + 1 ∧ v.regs = w.regs) ∧
    (Serves t 0x0E04 c s → (256 ≤ k → Refuses (.cmdLogClear t c) t 0x0E04 c stBadParam s) ∧
      (k < 256 →
        ((∀ x : List Nat × Nat, s.pilot.nonce = some x → x.2 + 600000000000 ≤ (s.at t).dial) →
          Answers (.cmdLogClear t c) t 0x0E04 c stDenied s fun _ d v => d = [] ∧ v.pilot.nonce = none) ∧
        ∀ x : List Nat × Nat, s.pilot.nonce = some x → (s.at t).dial < x.2 + 600000000000 →
          ((k ≠ s.keyId c.iss ∨ s.keyLoaded 8 = false ∨ wordsBytes (p.drop 1) ≠ s.clearToken x.1 k) →
            Answers (.cmdLogClear t c) t 0x0E04 c stDenied s fun w d v => d = [] ∧ v.pilot.nonce = none ∧ v.log.recs = w.log.recs ∧
              v.log.clearing = w.log.clearing) ∧
          (k = s.keyId c.iss → s.keyLoaded 8 = true → wordsBytes (p.drop 1) = s.clearToken x.1 k →
            Waits (.cmdLogClear t c) t 0x0E04 c .erase s fun _ v => v.pilot.nonce = none ∧ v.log.clearing = some v.log.newest ∧
              v.flag F.LOG_STS_CLEARING = true ∧ v.flag F.LOG_STS_CLEARED = true))) ∧
    (Serves t 0x0E06 c s → (spareItems k n (pn p 2) = none → Refuses (.cmdCommissionSpare t c) t 0x0E06 c stBadParam s) ∧
      ∀ r sp : Nat, spareItems k n (pn p 2) = some (r, sp) →
        ((s.unitIn r = false ∨ s.unitState sp ≠ 1 ∨ (k = 4 ∧ s.helmRun = true)) →
          Refuses (.cmdCommissionSpare t c) t 0x0E06 c stState s) ∧
        (s.unitIn r = true → s.unitState sp = 1 → ¬ (k = 4 ∧ s.helmRun = true) →
          (k = 1 → Waits (.cmdCommissionSpare t c) t 0x0E06 c (.lane (s.wear.nextEntry % 256)) s fun w v => v.unitState r = 2 ∧
            v.wear.nextEntry = w.wear.nextEntry % 256 + 1) ∧
          (k ≠ 1 → Answers (.cmdCommissionSpare t c) t 0x0E06 c stOk s fun w d v => d = [nw (w.wear.nextEntry % 256)] ∧
            v.unitState r = 2 ∧ v.wear.nextEntry = w.wear.nextEntry % 256 + 1)))

/-! ## CAN FD (18_can_fd.md) -/

/-- R423 to R431: the transmit queue, reception into the objects, and the error counters. -/
def Obligations.CanQueuesSendsAndReceives : Prop :=
  (∀ (t n : Nat) (m : Master) (v : Word) (ws : List Word) (s : State), n < 3 →
    ws = (List.range 18).map (fun j => s.word (masterKey (masterId m) (Reg.CAN_TXBUF n j))) →
    (v.getLsbD 0 = false → Completes (.txgo t n m v) s fun u => Touches [.dial, .time] s u) ∧
    (v.getLsbD 0 = true → s.activeRole = false → Completes (.txgo t n m v) s fun u => Touches [.dial, .time, .regs] s u ∧
      SameRegs [masterKey (masterId m) (Reg.CAN_TXRES n)] s u ∧ getBits (u.word (masterKey (masterId m) (Reg.CAN_TXRES n))) 30 2 = 3) ∧
    (v.getLsbD 0 = true → s.activeRole = true → Completes (.txgo t n m v) s fun u => Touches [.dial, .time, .regs, .can] s u ∧
      SameRegs [masterKey (masterId m) (Reg.CAN_TXRES n), Reg.CAN_TQSTS n, Reg.CAN_STS n] s u ∧ (∀ k < 3, k ≠ n → u.can1 k = s.can1 k) ∧
      (s.descBad n ws = true → u.can = s.can ∧ u.flag (F.CAN_STS_DESC_ERR n) = true ∧
        getBits (u.word (masterKey (masterId m) (Reg.CAN_TXRES n))) 30 2 = 2) ∧
      (s.descBad n ws = false → 16 ≤ (s.can1 n).queue.length → u.can = s.can ∧
        getBits (u.word (masterKey (masterId m) (Reg.CAN_TXRES n))) 30 2 = 1) ∧
      (s.descBad n ws = false → (s.can1 n).queue.length < 16 → (s.can1 n).nextSerial < 65536 →
        (u.can1 n).queue = (s.can1 n).queue ++ [⟨(s.can1 n).nextSerial, ws⟩] ∧
        u.word (masterKey (masterId m) (Reg.CAN_TXRES n)) = setBits (setBits (s.word (masterKey (masterId m) (Reg.CAN_TXRES n))) 30 2 0) 0 16
          (s.can1 n).nextSerial))) ∧
  (∀ (t n : Nat) (m : Master) (v : Word) (begun : Bool) (s : State), n < 3 → Completes (.txcan t n m v begun) s fun u =>
    Touches [.dial, .time, .regs, .can] s u ∧ SameRegs [masterKey (masterId m) (Reg.CAN_TXRES n), Reg.CAN_TQSTS n] s u ∧
    ((∀ e ∈ (s.can1 n).queue, e.serial ≠ getBits v 0 16) → u.can = s.can ∧
      getBits (u.word (masterKey (masterId m) (Reg.CAN_TXRES n))) 29 1 = 0) ∧
    ((∃ e ∈ (s.can1 n).queue, e.serial = getBits v 0 16) →
      (begun = false ∨ (s.can1 n).queue.head?.map CanTx.serial ≠ some (getBits v 0 16)) →
      (u.can1 n).queue = (s.can1 n).queue.filter (fun e => e.serial != getBits v 0 16) ∧
      getBits (u.word (masterKey (masterId m) (Reg.CAN_TXRES n))) 29 1 = 1) ∧
    (begun = true → (s.can1 n).queue.head?.map CanTx.serial = some (getBits v 0 16) → u.can = s.can ∧
      getBits (u.word (masterKey (masterId m) (Reg.CAN_TXRES n))) 29 1 = 0)) ∧
  (∀ (t n sof tdcv : Nat) (arb : Bool) (s : State), n < 3 →
    (((s.can1 n).queue = [] ∨ s.canSends n = false) →
      Completes (.canTxDone t n sof tdcv) s (fun u => Touches [.dial, .time] s u) ∧
      Completes (.canTxAttemptFail t n arb) s (fun u => Touches [.dial, .time] s u)) ∧
    ∀ (e : CanTx) (q : List CanTx), (s.can1 n).queue = e :: q → s.canSends n = true →
      Completes (.canTxDone t n sof tdcv) s (fun u => Touches [.dial, .time, .regs, .wear, .can] s u ∧ OnlyBlocks [Block.can] s u ∧
        (u.can1 n).queue = q ∧ (u.can1 n).txSof = sof ∧ (u.can1 n).tec = (s.can1 n).tec - 1 ∧ (u.can1 n).rec_ = (s.can1 n).rec_ ∧
        u.fld (F.CAN_TXCNT_SENT n) = min (s.fld (F.CAN_TXCNT_SENT n) + 1) 65535 ∧
        (e.fdf = true → s.flag (F.CAN_TDC_TDCEN n) = true → u.fld (F.CAN_TDC_TDCV n) = tdcv % 128)) ∧
      Completes (.canTxAttemptFail t n arb) s (fun u => Touches [.dial, .time, .regs, .wear, .can] s u ∧ OnlyBlocks [Block.can] s u ∧
        (u.can1 n).queue = (if e.ss then q else e :: q) ∧ (u.can1 n).rec_ = (s.can1 n).rec_ ∧
        u.fld (F.CAN_TXFAIL_FAIL n) = (if e.ss then min (s.fld (F.CAN_TXFAIL_FAIL n) + 1) 65535 else s.fld (F.CAN_TXFAIL_FAIL n)) ∧
        (u.can1 n).tec = (if arb then (s.can1 n).tec else (s.can1 n).tec + 8) ∧
        (arb = false → 247 < (s.can1 n).tec → (u.can1 n).busOff = true ∧ u.flag (F.CAN_STS_BUSOFF n) = true))) ∧
  (∀ (t n : Nat) (f : CanFrame) (s : State), n < 3 →
    ((s.canOn n = false ∨ (f.fdf = true ∧ s.flag (F.CAN_CTL_FDEN n) = false)) →
      Completes (.canFrameReceive t n f) s fun u => Touches [.dial, .time] s u) ∧
    (s.canOn n = true → (f.fdf = false ∨ s.flag (F.CAN_CTL_FDEN n) = true) → Completes (.canFrameReceive t n f) s fun u =>
      Touches [.freeCtr, .dial, .regs, .time, .log, .host, .bal, .wear, .hlm, .can, .azm, .alm, .pmc, .dsp, .pilot] s u ∧
      (u.can1 n).integrating = false ∧ (u.can1 n).tec = (s.can1 n).tec ∧
      ((s.can1 n).rec_ ≤ 127 → (u.can1 n).rec_ = (s.can1 n).rec_ - 1) ∧
      (127 < (s.can1 n).rec_ → 119 ≤ (u.can1 n).rec_ ∧ (u.can1 n).rec_ ≤ 127) ∧
      ((List.range 64).find? (fun o => s.canMatch n f o) = none → (u.can1 n).main = (s.can1 n).main ∧ (u.can1 n).shadow = (s.can1 n).shadow) ∧
      (∀ o : Nat, (List.range 64).find? (fun o => s.canMatch n f o) = some o →
        u.fld (F.CAN_RXCNT_RECVD n) = min (s.fld (F.CAN_RXCNT_RECVD n) + 1) 65535 ∧
        (∀ k : Nat, k ≠ o → Tab.get (fun _ => none) (u.can1 n).main k = Tab.get (fun _ => none) (s.can1 n).main k ∧
          Tab.get (fun _ => none) (u.can1 n).shadow k = Tab.get (fun _ => none) (s.can1 n).shadow k) ∧
        (Tab.get (fun _ => none) (s.can1 n).main o = none → Tab.get (fun _ => none) (u.can1 n).main o = some f ∧
          u.flag (objFld (Reg.CAN_RXFULL n) o) = true) ∧
        (Tab.get (fun _ => none) (s.can1 n).main o ≠ none →
          Tab.get (fun _ => none) (u.can1 n).main o = Tab.get (fun _ => none) (s.can1 n).main o ∧
          Tab.get (fun _ => none) (u.can1 n).shadow o = some f ∧
          (Tab.get (fun _ => none) (s.can1 n).shadow o ≠ none → u.flag (objFld (Reg.CAN_RXOVR n) o) = true ∧
            u.flag (F.CAN_STS_RXOVR n) = true ∧ u.fld (F.CAN_RXCNT_OVRCNT n) = min (s.fld (F.CAN_RXCNT_OVRCNT n) + 1) 65535))) ∧
      (idMatches (s.word (Reg.CAN_TMID n)) f = true → 0 < f.dlc → f.rtr = false →
        (u.can1 n).cycle = f.data.getD 0 0 % 64 ∧ (u.can1 n).lastRx = some (f.data.getD 0 0 % 64) ∧ (u.can1 n).refSof = some f.sof ∧
        (u.can1 n).refAt = (s.at t).dial) ∧
      (n = 2 → idMatches (s.word Reg.DSP_HVSTID) f = true → 0 < f.dlc → f.rtr = false → u.dsp.hvSt = f.data.getD 0 0 % 256 ∧
        u.dsp.hvRxAt = (s.at t).dial))) ∧
  ∀ (t n inc : Nat) (m : Master) (v : Word) (s : State), n < 3 →
    Completes (.rxrel t n m v) s (fun u => Touches [.dial, .time, .regs, .can] s u ∧
      SameRegs [(objFld (Reg.CAN_RXFULL n) (getBits v 0 6)).reg] s u ∧ ∀ o : Nat, o = getBits v 0 6 →
        Tab.get (fun _ => none) (u.can1 n).main o = Tab.get (fun _ => none) (s.can1 n).shadow o ∧
        Tab.get (fun _ => none) (u.can1 n).shadow o = none ∧
        u.flag (objFld (Reg.CAN_RXFULL n) o) = (Tab.get (fun _ => none) (s.can1 n).shadow o).isSome ∧
        ∀ k : Nat, k ≠ o → Tab.get (fun _ => none) (u.can1 n).main k = Tab.get (fun _ => none) (s.can1 n).main k) ∧
    (s.canOn n = true →
      Completes (.canRxError t n inc) s (fun u => Touches [.dial, .time, .regs, .wear, .can] s u ∧ OnlyBlocks [Block.can] s u ∧
        (u.can1 n).rec_ = (s.can1 n).rec_ + (if inc = 8 then 8 else 1) ∧ (u.can1 n).tec = (s.can1 n).tec ∧
        (u.can1 n).queue = (s.can1 n).queue) ∧
      Completes (.canProtocolException t n) s (fun u => Touches [.dial, .time, .regs, .can] s u ∧
        SameRegs [Reg.CAN_ERR n, Reg.CAN_STS n] s u ∧ (u.can1 n).integrating = true ∧ u.flag (F.CAN_STS_PXE n) = true ∧
        u.fld (F.CAN_ERR_PXECNT n) = min (s.fld (F.CAN_ERR_PXECNT n) + 1) 65535)) ∧
    (s.canOn n = false → Completes (.canRxError t n inc) s (fun u => Touches [.dial, .time] s u) ∧
      Completes (.canProtocolException t n) s (fun u => Touches [.dial, .time] s u))

/-- R421, R422, R430, R435 to R437, R61, R62: bus-off, bit timing, rate detection, and the time master. -/
def Obligations.CanRecoversDetectsAndKeepsBusTime : Prop :=
  (∀ (t n : Nat) (m : Master) (v : Word) (s : State), n < 3 →
    Completes (.restart t n m v) s (fun u => Touches [.dial, .time, .regs, .can] s u ∧ SameRegs [Reg.CAN_CTL n] s u ∧
      u.word (Reg.CAN_CTL n) = v &&& 0xF8000000#32 ∧ (u.can1 n).busOff = (s.can1 n).busOff ∧ (u.can1 n).recovering =
        ((s.can1 n).recovering || (v.getLsbD 0 && (s.can1 n).busOff && !u.flag (F.CAN_CTL_ABOR n)))) ∧
    ((s.can1 n).busOff = true → (s.flag (F.CAN_CTL_ABOR n) = true ∨ (s.can1 n).recovering = true) →
      Completes (.busOffRecovery t n) s fun u => Touches [.dial, .time, .regs, .wear, .can] s u ∧ OnlyBlocks [Block.can] s u ∧
        (u.can1 n).busOff = false ∧ (u.can1 n).tec = 0 ∧ (u.can1 n).rec_ = 0 ∧ (u.can1 n).queue = (s.can1 n).queue ∧
        u.flag (F.CAN_STS_BUSOFF n).live = false) ∧
    (((s.can1 n).busOff = false ∨ (s.flag (F.CAN_CTL_ABOR n) = false ∧ (s.can1 n).recovering = false)) →
      Completes (.busOffRecovery t n) s fun u => Touches [.dial, .time] s u)) ∧
  (∀ (t n c : Nat) (m : Master) (v : Word) (s : State), n < 3 → c < 8 →
    ((s.flag (F.CAN_CTL_EN n) = true ∨ nbtOk (v &&& 0xFFFF7F7F#32) (s.word (Reg.CAN_DBT n)) = false) →
      Completes (.canTimingWrite t m (Reg.CAN_NBT n) v) s fun u => Touches [.dial, .time, .regs] s u ∧ SameRegs [Reg.CAN_STS n] s u ∧
        u.flag (F.CAN_STS_CFG_REJ n) = true) ∧
    (s.flag (F.CAN_CTL_EN n) = false → nbtOk (v &&& 0xFFFF7F7F#32) (s.word (Reg.CAN_DBT n)) = true →
      Completes (.canTimingWrite t m (Reg.CAN_NBT n) v) s fun u => Touches [.dial, .time, .regs] s u ∧ SameRegs [Reg.CAN_NBT n] s u ∧
        u.word (Reg.CAN_NBT n) = v &&& 0xFFFF7F7F#32) ∧
    (s.flag (F.CAN_CTL_EN n) = false → dbtOk (v &&& 0x1F1F0F0F#32) (s.word (Reg.CAN_NBT n)) = true →
      Completes (.canTimingWrite t m (Reg.CAN_DBT n) v) s fun u => Touches [.dial, .time, .regs] s u ∧ SameRegs [Reg.CAN_DBT n] s u ∧
        u.word (Reg.CAN_DBT n) = v &&& 0x1F1F0F0F#32) ∧
    (s.flag (F.CAN_CTL_EN n) = false → Completes (.canTimingWrite t m (Reg.CAN_TDC n) v) s fun u => Touches [.dial, .time, .regs] s u ∧
      SameRegs [Reg.CAN_TDC n] s u ∧ u.fld (F.CAN_TDC_TDCEN n) = getBits v 31 1 ∧ u.fld (F.CAN_TDC_TDCO n) = getBits v 0 7) ∧
    (nbtOk (v &&& 0xFFFF7F7F#32) (s.word (Reg.CAN_DBT n)) = true → Completes (.canTimingWrite t m (Reg.CAN_ABCAND n c) v) s fun u =>
      Touches [.dial, .time, .regs] s u ∧ SameRegs [Reg.CAN_ABCAND n c] s u ∧ u.word (Reg.CAN_ABCAND n c) = v &&& 0xFFFF7F7F#32)) ∧
  (∀ (t n : Nat) (m : Master) (v : Word) (s : State), n < 3 →
    (v.getLsbD 0 = true → v.getLsbD 1 = false → Completes (.abctlGo t n m v) s fun u => Touches [.dial, .time, .regs, .can] s u ∧
      SameRegs [Reg.CAN_ABCTL n, Reg.CAN_CTL n] s u ∧ u.fld (F.CAN_ABCTL_ABDWELL n) = getBits v 8 8 ∧
      (s.flag (F.CAN_CTL_EN n) = true → u.flag (F.CAN_CTL_LISTEN n) = true ∧ u.flag (F.CAN_ABCTL_BUSY n) = true ∧
        u.flag (F.CAN_ABCTL_FOUND n) = false ∧ (u.can1 n).abCand = 0 ∧ (u.can1 n).abAt = (s.at t).dial ∧
        (s.flag (F.CAN_ABCTL_BUSY n) = false → (u.can1 n).abOld = s.word (Reg.CAN_NBT n))) ∧
      (s.flag (F.CAN_CTL_EN n) = false → u.can = s.can ∧ u.flag (F.CAN_ABCTL_BUSY n) = s.flag (F.CAN_ABCTL_BUSY n))) ∧
    (v.getLsbD 0 = false → v.getLsbD 1 = true → Completes (.abctlStop t n m v) s fun u => Touches [.dial, .time, .regs] s u ∧
      SameRegs [Reg.CAN_ABCTL n, Reg.CAN_NBT n] s u ∧ u.fld (F.CAN_ABCTL_ABDWELL n) = getBits v 8 8 ∧
      u.flag (F.CAN_ABCTL_BUSY n) = false ∧ u.flag (F.CAN_ABCTL_FOUND n) = false ∧
      u.word (Reg.CAN_NBT n) = if s.flag (F.CAN_ABCTL_BUSY n) then (s.can1 n).abOld else s.word (Reg.CAN_NBT n))) ∧
  (∀ (t n : Nat) (err : Bool) (s : State), n < 3 →
    (s.flag (F.CAN_ABCTL_BUSY n) = true →
      (err = true ∨ (s.can1 n).abAt + 1000000 * max 1 (s.fld (F.CAN_ABCTL_ABDWELL n)) ≤ (s.at t).dial) →
      Completes (.autobaudDwellEnd t n err) s fun u => Touches [.dial, .time, .can] s u ∧
        u.can1 n = { s.can1 n with abCand := ((s.can1 n).abCand + 1) % 8, abAt := (s.at t).dial }) ∧
    (s.flag (F.CAN_ABCTL_BUSY n) = false → Completes (.autobaudDwellEnd t n err) s fun u => Touches [.dial, .time] s u) ∧
    ((∀ w ∈ s.pilot.waiting, ∀ a : Nat, w.what = .autobaud n a → (s.at t).dial < a) →
      Completes (.autobaudLimit t n) s fun u => Touches [.dial, .time] s u) ∧
    ((∃ w ∈ s.pilot.waiting, ∃ a : Nat, w.what = .autobaud n a ∧ a ≤ (s.at t).dial) → Completes (.autobaudLimit t n) s fun u =>
      Touches [.dial, .time, .regs, .host, .pilot] s u ∧ OnlyBlocks [Block.host, Block.can] s u ∧ u.flag (F.CAN_ABCTL_BUSY n) = false ∧
      u.flag (F.CAN_ABCTL_FOUND n) = false ∧ (∀ w ∈ u.pilot.waiting, ∀ a : Nat, w.what = .autobaud n a → (s.at t).dial < a) ∧
      ∀ w ∈ s.pilot.waiting, (∀ k a : Nat, w.what ≠ .autobaud k a) → w ∈ u.pilot.waiting)) ∧
  ∀ (t n sof : Nat) (s : State), n < 3 →
    ((s.flag (F.CAN_TMCTL_TMEN n) = false ∨ s.activeRole = false ∨ (s.at t).dial % (1000 * s.fld (F.CAN_TMCTL_TMCYC n)) ≠ 0) →
      Completes (.referenceCycleStart t n) s fun u => Touches [.dial, .time] s u) ∧
    (s.flag (F.CAN_TMCTL_TMEN n) = true → s.activeRole = true → (s.at t).dial % (1000 * s.fld (F.CAN_TMCTL_TMCYC n)) = 0 →
      ((s.can1 n).refSlot.isSome = true → Completes (.referenceCycleStart t n) s fun u => Touches [.dial, .time, .regs] s u ∧
        SameRegs [Reg.CAN_TXFAIL n] s u ∧ u.fld (F.CAN_TXFAIL_REFSKIP n) = min (s.fld (F.CAN_TXFAIL_REFSKIP n) + 1) 65535) ∧
      ((s.can1 n).refSlot = none → Completes (.referenceCycleStart t n) s fun u => Touches [.dial, .time, .regs, .can] s u ∧
        SameRegs [Reg.CAN_TQSTS n] s u ∧ (u.can1 n).queue = (s.can1 n).queue ∧ (u.can1 n).refSlot =
          some (if (s.can1 n).tmFirst then (((s.can1 n).lastRx.map fun k => (k + 1) % 64).getD 0) else ((s.can1 n).cycle + 1) % 64))) ∧
    ((s.can1 n).refSlot = none → Completes (.referenceMessageSent t n sof) s fun u => Touches [.dial, .time] s u) ∧
    (∀ k : Nat, (s.can1 n).refSlot = some k → s.canSends n = true → Completes (.referenceMessageSent t n sof) s fun u =>
      (u.can1 n).refSlot = none ∧ (u.can1 n).tmFirst = false ∧ (u.can1 n).cycle = k ∧ (u.can1 n).refSof = some sof ∧
      (u.can1 n).refAt = (s.at t).dial ∧ (u.can1 n).txSof = sof ∧ (u.can1 n).tec = (s.can1 n).tec - 1 ∧
      u.fld (F.CAN_TXCNT_SENT n) = min (s.fld (F.CAN_TXCNT_SENT n) + 1) 65535) ∧
    ((s.at t).dial < (s.can1 n).refAt + 3000 * s.fld (F.CAN_TMCTL_TMCYC n) →
      Completes (.busReferenceLost t n) s fun u => Touches [.dial, .time] s u) ∧
    ((s.can1 n).refAt + 3000 * s.fld (F.CAN_TMCTL_TMCYC n) ≤ (s.at t).dial → Completes (.busReferenceLost t n) s fun u =>
      u.flag (busLost n) = true ∧ (∀ w < 64, ∀ x ∈ (u.watch w).slots, x.base ≠ 3 + n) ∧
      ∀ w < 64, u.waits w (fun c a => c == 6 && a % 4 == n) = false)

/-! ## Boot and update (19_update_boot.md) -/

/-- R443, R450 to R455, R458: READY, the end of the service pause and its timeout, the boot record, the confirmation window, the reset of recovery mode,
and the ramp of ACTIVATE. R459: SEC_KCTL stores and locks a key. -/
def Obligations.StartPauseWindowAndKeys : Prop :=
  ((∀ (t : Nat) (s : State),
     ((s.awake = false ∨ s.flag F.UPD_STS_RECOVERY = true ∨ s.flag F.UPD_STS_READY = true) →
       Completes (.bootReady t) s fun u => Touches [.dial, .time] s u) ∧
     (s.awake = true → s.flag F.UPD_STS_RECOVERY = false → s.flag F.UPD_STS_READY = false →
       ∀ a len v : Nat, a = imageAddr (s.fld F.UPD_STS_RUNBANK) 5 → len = (s.flashWord (a + 8)).toNat → v = (s.word Reg.LDS_SEAL).toNat % 2 ^ 20 →
       Completes (.bootReady t) s fun u => Touches [.dial, .regs, .time, .log, .upd, .wear, .pilot] s u ∧
         u.flag F.UPD_STS_READY = true ∧ u.flag F.ACQ_MODCFG_MCLKEN = true ∧ u.upd.tw16.len = len ∧
         u.upd.tw16.ver = s.flashWord (a + 12) ∧
         (∀ i < (len + 3) / 4, Tab.get zeroWord u.upd.tw16.data i = s.flashWord (a + 288 + 4 * i)) ∧ u.upd.flash = s.upd.flash ∧
         (s.pilot.seals.head?.map (·.new) = some v → u.pilot.seals = s.pilot.seals) ∧
         (s.pilot.seals.head?.map (·.new) ≠ some v → ∃ x : SealEntry, u.pilot.seals = x :: s.pilot.seals ∧ x.new = v ∧
           x.old = (s.pilot.seals.head?.map (·.new)).getD 0 ∧ Logs 0x0B03 1 0 [nw x.old, nw v] s u))) ∧
   (∀ (t : Nat) (s : State),
     (s.updPaused = false → Completes (.pauseResumption t) s (fun u => Touches [.dial, .time] s u) ∧
       Completes (.pauseTimeout t) s fun u => Touches [.dial, .time] s u) ∧
     (s.updPaused = true → Completes (.pauseResumption t) s fun u => Touches [.dial, .regs, .ep, .time, .log, .upd, .hlm, .lds, .sxt] s u ∧
       u.upd.resumed = true ∧ u.flag F.UPD_STS_HOLD = false ∧ u.fld F.LDS_TRIP_BPERMIT_L = (s.fld F.LDS_TRIP_BPERMIT_L ||| 3) ∧
       u.lds.binHeld = false ∧ u.sxt.gap = true ∧ u.sxt.mem = s.sxt.mem ∧
       (∀ e ∈ s.ep.closing, (s.at t).commitAt e ≤ (s.at t).dial → e.serial ∈ u.ep.dead ∧ ∀ x ∈ u.ep.closing, x.serial ≠ e.serial) ∧
       ((∀ e ∈ s.ep.closing, (s.at t).dial < (s.at t).commitAt e) → u.ep = s.ep)) ∧
     (s.updPaused = true → s.lds.tick < s.upd.pauseTick + 300 → Completes (.pauseTimeout t) s fun u => Touches [.dial, .time] s u) ∧
     (s.updPaused = true → s.upd.pauseTick + 300 ≤ s.lds.tick → Completes (.pauseTimeout t) s fun u =>
       u.flag F.UPD_STS_HOLD = false ∧ u.fld F.LDS_TRIP_BPERMIT_L = 0 ∧
       (s.fld F.LDS_DRM_STATE = 0 → EntersDeadReckoning 2 (s.at t) u))) ∧
   (∀ (t : Nat) (s : State),
     (s.upd.recWrite = none → Completes (.bootRecordWritten t) s fun u => Touches [.dial, .time] s u) ∧
     (∀ b p : Nat, s.upd.recWrite = some (b, p) → b < 2 → p < 2 → Completes (.bootRecordWritten t) s fun u =>
       Touches [.dial, .regs, .time, .upd] s u ∧ SameRegs [Reg.UPD_STS] s u ∧ u.fld F.UPD_STS_PENDING = p ∧ u.upd.recWrite = none ∧
       u.bootRecord = (b, p) ∧
       (∀ n : Nat, s.newestRecord = some n → u.newestRecord = some (1 - n) ∧ u.recordCopy n = s.recordCopy n ∧
         (u.recordCopy (1 - n)).map (·.1) = (s.recordCopy n).map fun x => x.1 + 1)) ∧
     (∀ e : Nat, s.upd.winEnd = some e → e ≤ (s.at t).dial → Completes (.confirmationWindowClose t) s fun u =>
       Touches [.dial, .regs, .time, .log, .upd] s u ∧ u.flag F.UPD_STS_WINDOW_CLOSED = true ∧ u.fld F.UPD_WINLEFT_SEC = 0 ∧
       u.upd = { s.upd with winEnd := none } ∧ u.fld F.UPD_STS_RUNBANK = s.fld F.UPD_STS_RUNBANK ∧
       Logs 0x0F04 1 0 [nw (s.fld F.UPD_STS_RUNBANK)] s u) ∧
     ((∀ e : Nat, s.upd.winEnd = some e → (s.at t).dial < e) → Completes (.confirmationWindowClose t) s fun u =>
       Touches [.dial, .time] s u) ∧
     ((∀ a : Nat, s.upd.resetAt = some a → (s.at t).dial < a) → Completes (.recoveryReset t) s fun u => Touches [.dial, .time] s u) ∧
     (∀ a : Nat, s.upd.resetAt = some a → a ≤ (s.at t).dial → Completes (.recoveryReset t) s fun u => DeviceResets true (s.at t) u)) ∧
   ∀ (t : Nat) (s : State),
     ((∀ w ∈ s.pilot.waiting, ∀ a : Nat, w.what ≠ .ramp a) → Completes (.activateRampTimeout t) s fun u => Touches [.dial, .time] s u) ∧
     ((s.at t).rampDone = false → Completes (.activateRampTimeout t) s fun u => u.upd = s.upd ∧ u.helmRun = s.helmRun ∧
       (∀ w ∈ u.pilot.waiting, ∀ a : Nat, w.what = .ramp a → (s.at t).dial < a + 60000000000) ∧
       ∀ w ∈ s.pilot.waiting, (∀ a : Nat, w.what ≠ .ramp a) → w ∈ u.pilot.waiting) ∧
     ((s.at t).rampDone = true → (∃ w ∈ s.pilot.waiting, ∃ a : Nat, w.what = .ramp a) → s.activateMay = true →
       Completes (.activateRampTimeout t) s fun u => u.helmRun = false ∧ u.upd.pauseAt = some ((s.at t).dial) ∧
         u.upd.pauseTick = s.lds.tick ∧ u.flag F.UPD_STS_HOLD = true ∧ (∃ w ∈ u.pilot.waiting, w.what = .pause) ∧
         ∀ w ∈ u.pilot.waiting, ∀ a : Nat, w.what ≠ .ramp a) ∧
     ((s.at t).rampDone = true → s.activateMay = false → Completes (.activateRampTimeout t) s fun u => u.upd = s.upd ∧
       ∀ w ∈ u.pilot.waiting, ∀ a : Nat, w.what ≠ .ramp a)) ∧
  (∀ (t slot : Nat) (m : Master) (v w : Word) (i : Instr) (s : State),
     ((i = .kctlWrite t m v ∧ w = v ||| 0x100) ∨ (i = .kctlLock t m v ∧ w = v ||| 0x200)) → slot = getBits v 0 4 →
     Completes i s fun u => Touches [.dial, .regs, .time, .upd] s u ∧
       SameRegs (Reg.SEC_STS :: (List.range 8).map Reg.SEC_KDATA) s u ∧ (∀ k < 8, u.word (Reg.SEC_KDATA k) = 0) ∧
       (∀ n < 9, (u.fld F.SEC_STS_LOCKED).testBit n = ((s.fld F.SEC_STS_LOCKED).testBit n || (w.getLsbD 9 && n == slot))) ∧
       ((w.getLsbD 8 = true ∧ m ∈ [Master.pcie, Master.hspi] ∧ slot ≤ 8 ∧ (s.fld F.SEC_STS_LOCKED).testBit slot = false) →
         (∀ n < 9, (u.fld F.SEC_STS_LOADED).testBit n = ((s.fld F.SEC_STS_LOADED).testBit n || n == slot)) ∧
         (∀ k < 8, Tab.get zeroWord u.upd.keys (8 * slot + k) = s.word (Reg.SEC_KDATA k)) ∧
         (∀ k : Nat, k / 8 ≠ slot → Tab.get zeroWord u.upd.keys k = Tab.get zeroWord s.upd.keys k) ∧ u.upd.flash = s.upd.flash) ∧
       (¬ (w.getLsbD 8 = true ∧ m ∈ [Master.pcie, Master.hspi] ∧ slot ≤ 8 ∧ (s.fld F.SEC_STS_LOCKED).testBit slot = false) →
         u.upd = s.upd ∧ u.fld F.SEC_STS_LOADED = s.fld F.SEC_STS_LOADED))

/-! ## Power and thermal protection (20_power_thermal.md) -/

/-- R48, R66, R443 to R446, R461, R465, R466, R475, R476, R478, R488, R518: power on, power fail, the resets, a wake, and the start sequence. -/
def Obligations.ResetsAndStartsFollowTheSequence : Prop :=
  (∀ (t : Nat) (s : State),
    Completes (.powerOnReset t) s (fun u => SuppliesFall (s.at t) u ∧ u.dial = 0 ∧ u.pwr.off = false ∧
      (s.time.rtcRun = true → (s.at t).time.rtc ≤ u.time.rtc ∧ u.time.rtcRun = true ∧ u.flag F.TIME_PTPSTS_CAL_VALID = s.time.rtcValid) ∧
      (s.time.rtcRun = false → u.time.rtc = 0 ∧ u.time.rtcRun = true ∧ u.flag F.TIME_PTPSTS_RTC_LOST = true ∧
        u.flag F.TIME_PTPSTS_CAL_VALID = false)) ∧
    ((s.fld F.THM_STS_PSTATE = 3 ∨ s.pwr.off = true) → Completes (.deviceReset t) s fun u => Touches [.dial, .time] s u) ∧
    (s.fld F.THM_STS_PSTATE ≠ 3 → s.pwr.off = false → Completes (.deviceReset t) s fun u => DeviceResets true (s.at t) u ∧ u.pwr.shut = s.pwr.shut ∧
      u.fld F.LDS_DRM_STATE = 0 ∧ ∀ n < 2, (s.outSt n).phase ≠ .releasing → s.energized n = true → s.outReq n = true →
        s.basePermit n = true → u.energized n = true ∧ u.outReq n = true)) ∧
  (∀ (t p : Nat) (dst payload : List Nat) (woken : Bool) (s : State),
    woken = (s.fld F.THM_STS_PSTATE == 2 && !s.pwr.shut && decide (p < 2) && (s.fld F.THM_CTL_WOLEN).testBit p &&
      dst == s.macBytes p && wakePayload (s.macBytes p) payload) →
    (woken = false → Completes (.wakeFrame t p dst payload) s fun u => Touches [.dial, .time] s u) ∧
    (woken = true → Completes (.wakeFrame t p dst payload) s fun u => DeviceResets false (s.at t) u ∧
      u.fld F.LDS_DRM_STATE = s.fld F.LDS_DRM_STATE)) ∧
  (∀ (t : Nat) (torn : Bool) (s : State), Completes (.powerFail t torn) s fun u => SuppliesFall (s.at t) u ∧
    u.dial = (s.at t).dial ∧ u.pwr.off = true ∧
    (s.time.rtcRun = true → u.time.rtc = (s.at t).time.rtc) ∧
    ∀ r : LogRec, s.logRec s.log.newest = some r → s.logHeld ≠ 0 →
      u.logRec u.log.newest = some { r with torn := (r.torn || torn), thisStart := false }) ∧
  ∀ (t : Nat) (x : StartIn) (s : State),
    ((s.pwr.held = false ∨ s.pwr.off = true ∨ s.pwr.shut = true ∨ s.fld F.THM_STS_PSTATE = 3) → Completes (.resetRelease t x) s fun u =>
      Touches [.dial, .time] s u) ∧
    (s.pwr.held = true → s.pwr.off = false → s.pwr.shut = false → s.fld F.THM_STS_PSTATE ≠ 3 → Completes (.resetRelease t x) s fun u =>
      Touches [.dial, .regs, .time, .log, .acq, .upd, .wear, .clk, .lds, .pwr] s u ∧ u.pwr = { s.pwr with held := false, shutLog := none } ∧
      u.lds.supFrom = s.lds.tick ∧ (∀ n < 22, u.xState n = 2 ∧ u.xPhase n = 1) ∧
      u.wearGet 0 1 = min 0xFFFFFFFF (s.wearGet 0 1 + 1) ∧ u.wear.sched = [] ∧ u.log.clearing = none ∧
      (∀ l : ShutLog, s.pwr.shutLog = some l → u.flag F.THM_SDLOG_VALID = true ∧ u.flag F.THM_SDLOG_BROKEN = l.broken ∧
        u.fld F.THM_SDLOG_SENSOR = l.sensor % 8) ∧
      ((∃ r : LogRec, s.log.clearing = none ∧ s.logRec s.log.newest = some r ∧ r.torn = true ∧ s.logHeld ≠ 0) →
        u.flag F.LOG_STS_TORN = true) ∧
      ChoosesBank x.recovery s u)

/-- R467 to R476: conversions of the sensors, warnings, throttling and shutdown. -/
def Obligations.SensorsWarnThrottleAndShutDown : Prop :=
  (∀ (t : Nat) (temps : List Int) (s : State),
    ((s.pwr.held = true ∨ s.fld F.THM_STS_PSTATE = 3) → Completes (.dieSensorConversion t temps) s fun u => Touches [.dial, .time] s u) ∧
    (s.pwr.held = false → s.fld F.THM_STS_PSTATE ≠ 3 → Completes (.dieSensorConversion t temps) s fun u =>
      Touches [.freeCtr, .dial, .regs, .time, .log, .host, .hlm, .lds, .pmc, .pwr] s u ∧
      (∀ i < 8, (dieBroken (temps.getD i 0) = true → u.fld (F.THM_DIE_TEMP i) = 0x8000 ∧ u.flag F.THM_STS_BROKEN = true) ∧
        (dieBroken (temps.getD i 0) = false → u.fldS (F.THM_DIE_TEMP i) = temps.getD i 0)) ∧
      (∀ hot lim : Int, hot = (maxInt (dieHeat temps)).getD 0 → lim = 100 * (s.fld F.THM_CTL_LIMIT : Int) → s.awake = true →
        u.pwr.hot = (if lim ≤ hot then s.pwr.hot + 1 else 0) ∧
        u.pwr.coolAt = (if hot < lim - 500 then some (s.pwr.coolAt.getD ((s.at t).dial)) else none) ∧
        (2 ≤ u.pwr.hot → u.flag F.THM_STS_THROTTLE_L = true) ∧
        (u.pwr.hot < 2 → u.flag F.THM_STS_THROTTLE_L = s.flag F.THM_STS_THROTTLE_L) ∧
        (u.pwr.dieWarn = true ↔ ∃ i < 8, dieBroken (temps.getD i 0) = false ∧ lim - 1000 ≤ temps.getD i 0) ∧
        (u.pwr.dieWarn = true → s.pwr.dieWarn = false → u.flag F.THM_STS_WARN = true ∧
          (u.word Reg.HOST_IRQSTS).getLsbD 6 = true)) ∧
      ((∀ i < 8, (dieHeat temps).getD i 0 < 13500) → u.pwr.crit = 0 ∧ u.pwr.shut = s.pwr.shut) ∧
      ((∃ i < 8, 13500 ≤ (dieHeat temps).getD i 0) → u.pwr.crit = s.pwr.crit + 1 ∧
        (s.pwr.crit = 0 → u.pwr.shut = s.pwr.shut) ∧
        (1 ≤ s.pwr.crit → u.pwr.shut = true ∧ (s.pwr.shut = false → u.helmRun = false ∧ u.pwr.shutAt = (s.at t).dial ∧
          TripsOn F.LDS_TRIP_THERMAL 15 s u ∧ ∃ l : ShutLog, u.pwr.shutLog = some l ∧ l.sensor < 8 ∧
            13500 ≤ (dieHeat temps).getD l.sensor 0 ∧ l.broken = dieBroken (temps.getD l.sensor 0) ∧
            l.temp = nw (u.fld (F.THM_DIE_TEMP l.sensor))))))) ∧
  (∀ (t ch raw : Nat) (s : State),
    ((s.awake = false ∨ 12 ≤ ch) → Completes (.boardChannelConversion t ch raw) s fun u => Touches [.dial, .time] s u) ∧
    (s.awake = true → ch < 12 → ∀ v : Option Int, v = (if ch < 8 then s.ntcTemp raw else s.diodeTemp raw) →
      Completes (.boardChannelConversion t ch raw) s fun u => Touches [.dial, .regs, .time, .log, .host, .wear, .pwr] s u ∧
        OnlyBlocks [Block.host, Block.thm, Block.log] s u ∧
        (v = none → u.fld (chTemp ch) = 0x8000 ∧ u.flag F.THM_STS_BROKEN = true ∧ u.pwr.broken.testBit (8 + ch) = true) ∧
        (∀ x : Int, v = some x → u.fldS (chTemp ch) = x ∧ u.pwr.broken.testBit (8 + ch) = false) ∧
        (u.pwr.warn.testBit ch = true ↔ v = none ∨ ∃ x : Int, v = some x ∧ s.fldS (chWarn ch) ≤ x) ∧
        (u.pwr.warn.testBit ch = true → s.pwr.warn.testBit ch = false → u.flag F.THM_STS_WARN = true ∧
          (u.word Reg.HOST_IRQSTS).getLsbD 6 = true ∧ Logs 0x1001 1 (nw (chInst ch)) [nw (u.fld (chTemp ch))] s u))) ∧
  ∀ (t : Nat) (s : State),
    ((s.flag F.THM_STS_THROTTLE_L = false ∨ ∀ a : Nat, s.pwr.coolAt = some a → (s.at t).dial < a + 100000000) →
      Completes (.throttleEnd t) s fun u => Touches [.dial, .time] s u) ∧
    (∀ a : Nat, s.flag F.THM_STS_THROTTLE_L = true → s.pwr.coolAt = some a → a + 100000000 ≤ (s.at t).dial →
      Completes (.throttleEnd t) s fun u => Touches [.freeCtr, .dial, .regs, .time, .host, .pmc] s u ∧
        u.flag F.THM_STS_THROTTLE_L = false)

/-! ## Logbook, wear ledger and counters (21_logbook_wear_counters.md) -/

/-- R479 to R486: records, repeats, losses, the copy of a record and the erasure. -/
def Obligations.LogbookRecordsRepeatsAndClears : Prop :=
  (∀ (t : Nat) (s : State),
    (s.flag F.SXT_LRNSTS_SAVING = true → Completes (.logEvent t) s fun u => Touches [.dial, .time] s u) ∧
    ∀ e : LogEv, firstEvent s.log.queue = some e → s.flag F.SXT_LRNSTS_SAVING = false → Completes (.logEvent t) s fun u =>
      Touches [.dial, .regs, .time, .log, .wear] s u ∧ OnlyBlocks [Block.log] s u ∧
      (∀ x ∈ s.log.queue, x.dial = e.dial → e.code ≤ x.code) ∧
      u.wearGet 4 2 = min 0xFFFFFFFF (s.wearGet 4 2 + 1) ∧
      (s.log.lost = 0 → u.log.queue = s.log.queue.erase e) ∧
      (s.log.lost ≠ 0 → s.log.queue.length ≤ 64 → u.log.lost = 0 ∧ ∃ x : LogEv, u.log.queue = s.log.queue.erase e ++ [x] ∧
        x.code = 0x1104 ∧ x.payload = [nw s.log.lost]) ∧
      (s.repeats e = none → u.log.newest = nextIndex s.log.newest ∧ u.wearGet 0 3 = min 0xFFFFFFFF (s.wearGet 0 3 + 1) ∧
        u.logRec u.log.newest = some ⟨u.log.newest, e, false, 0, 0, e.dial, true, false⟩ ∧
        (s.logHeld < 65536 → u.log.oldest = s.log.oldest) ∧
        (65536 ≤ s.logHeld → u.log.oldest = nextIndex s.log.oldest ∧ u.flag F.LOG_STS_WRAPPED = true) ∧
        ∀ i : Nat, i % 65536 ≠ u.log.newest % 65536 → u.logRec i = s.logRec i) ∧
      (∀ r : LogRec, s.repeats e = some r → r.ev.code = e.code ∧ r.ev.inst = e.inst ∧ r.thisStart = true ∧
        e.dial ≤ r.lastAt + 1000000000 * s.fld F.LOG_WINDOW_SEC ∧ u.log.newest = s.log.newest ∧ u.log.oldest = s.log.oldest ∧
        u.logRec u.log.newest = some { r with
          rept := min 0xFFFF (r.rept + 1), repsat := r.repsat || r.rept == 0xFFFF, lastAt := e.dial,
          lastDlt := min 0xFFFFFFFF ((e.dial - r.ev.dial) / 1000000) } ∧
        ∀ i : Nat, i % 65536 ≠ u.log.newest % 65536 → u.logRec i = s.logRec i)) ∧
  (∀ (t : Nat) (m : Master) (v : Word) (s : State), Completes (.logRdidxWrite t m v) s fun u => Touches [.dial, .regs, .time] s u ∧
    OnlyBlocks [Block.log] s u ∧ u.word (masterKey (masterId m) Reg.LOG_RDIDX) = v ∧
    (∀ i < 16, u.word (masterKey (masterId m) (Reg.LOG_RDATA i)) = (s.logWords v.toNat).getD i 0) ∧
    (s.logRec v.toNat = none → ∀ i < 16, u.word (masterKey (masterId m) (Reg.LOG_RDATA i)) = 0) ∧
    ∀ r : LogRec, s.logRec v.toNat = some r → r.torn = false → ∀ l : List Word,
      l = (List.range 15).map (fun i => u.word (masterKey (masterId m) (Reg.LOG_RDATA i))) → l.getD 0 0 = nw r.index ∧
        l.getD 8 0 = r.ev.inst ∧ u.word (masterKey (masterId m) (Reg.LOG_RDATA 15)) = crc32c (wordsBytes l)) ∧
  ∀ (t : Nat) (s : State),
    (s.log.clearing = none → Completes (.logErasureDone t) s fun u => Touches [.dial, .time] s u) ∧
    ∀ i : Nat, s.log.clearing = some i → Tab.wf (fun _ => none) s.log.recs = true → Completes (.logErasureDone t) s fun u =>
      Touches [.dial, .regs, .time, .log, .host, .pilot] s u ∧ u.log.oldest = i ∧ u.log.newest = s.log.newest ∧ u.log.clearing = none ∧
      u.fld F.LOG_STS_CLEARING = 0 ∧ (∀ w ∈ u.pilot.waiting, w.what ≠ .erase) ∧
      (∀ w ∈ s.pilot.waiting, w.what ≠ .erase → w ∈ u.pilot.waiting) ∧
      ∀ (k : Nat) (r : LogRec), s.logRec k = some r →
        u.logRec k = if 0 ≤ seqDiff (nw k) (nw i) then some r else none

/-- R488, R490: the flush of the ledger and the scrub of the ECC memories. R497: START, STOP, FREEZE and CLEAR. -/
def Obligations.LedgerAndCountersFollow : Prop :=
  ((∀ (t : Nat) (ok : Bool) (s : State),
     ((s.at t).dial < s.wear.flushAt + 3600000000000 → Completes (.ledgerFlush t ok) s fun u => Touches [.dial, .time] s u) ∧
     (s.wear.flushAt + 3600000000000 ≤ (s.at t).dial → Completes (.ledgerFlush t ok) s fun u =>
       Touches [.dial, .regs, .time, .wear] s u ∧ OnlyBlocks [Block.wear] s u ∧ u.wear.flushAt = (s.at t).dial ∧
       (ok = false → u.flag F.WEAR_STS_FLUSH_FAIL = true ∧ u.wear.copyA = s.wear.copyA ∧ u.wear.copyB = s.wear.copyB ∧
         u.ledgerSeq = s.ledgerSeq) ∧
       (ok = true → u.ledgerSeq = s.ledgerSeq + 1 ∧ u.word Reg.WEAR_SEQ = nw (s.ledgerSeq + 1) ∧
         u.wearGet 4 3 = min 0xFFFFFFFF (s.wearGet 4 3 + 1) ∧
         (s.wear.seqB < s.wear.seqA → u.wear.copyB = u.wear.live ∧ u.wear.copyA = s.wear.copyA) ∧
         (s.wear.seqA ≤ s.wear.seqB → u.wear.copyA = u.wear.live ∧ u.wear.copyB = s.wear.copyB)))) ∧
   (∀ (t : Nat) (found : List EccFinding) (s : State), Completes (.eccScrub t found) s fun u => Touches [.dial, .time, .wear] s u ∧
     u.wear.copyA = s.wear.copyA ∧ u.wear.copyB = s.wear.copyB ∧ (∀ x ∈ s.wear.sched, x ∈ u.wear.sched) ∧
     (∀ f ∈ found, f.uncorrectable = true → f.mem < 6 → (f.mem, f.row) ∈ u.wear.sched) ∧
     ∀ x ∈ u.wear.sched, x ∈ s.wear.sched ∨ ∃ f ∈ found, x = (f.mem, f.row) ∧ f.mem < 6) ∧
   ∀ (t : Nat) (f : EccFinding) (s : State), Completes (.eccScrub t [f]) s fun u =>
     u.wearGet 2 (4 * f.mem) = min 0xFFFFFFFF (s.wearGet 2 (4 * f.mem) + f.corrected) ∧
     u.wearGet 2 (4 * f.mem + 1) = min 0xFFFFFFFF (s.wearGet 2 (4 * f.mem + 1) + b2n f.uncorrectable) ∧
     (f.uncorrectable = false → (f.corrected = 0 ∨ Tab.get (fun _ => 0) s.wear.passes (2 ^ 20 * f.mem + f.row) < 3) →
       Tab.get (fun _ => 0) s.wear.passes (2 ^ 20 * f.mem + f.row) < 4 → u.wear.sched = s.wear.sched) ∧
     (f.mem < 6 → f.corrected ≠ 0 → 3 ≤ Tab.get (fun _ => 0) s.wear.passes (2 ^ 20 * f.mem + f.row) →
       (f.mem, f.row) ∈ u.wear.sched)) ∧
  (∀ (t : Nat) (m : Master) (s : State) (P : State → Prop),
     P = (fun u => Touches [.freeCtr, .dial, .regs, .time, .pmc] s u ∧ OnlyBlocks [Block.pmc] s u ∧ u.pmc.mark = (s.at t).dial) →
     Completes (.pmcStart t m) s (fun u => P u ∧ u.flag F.PMC_CTL_RUN = true ∧ u.flag F.PMC_CTL_SNAPVALID = s.flag F.PMC_CTL_SNAPVALID ∧
       (s.flag F.PMC_CTL_RUN = false → u.pmc.cyc = s.pmc.cyc ∧ u.pmc.cnt = s.pmc.cnt)) ∧
     Completes (.pmcStop t m) s (fun u => P u ∧ u.flag F.PMC_CTL_RUN = false ∧
       (s.flag F.PMC_CTL_RUN = false → u.pmc.cyc = s.pmc.cyc ∧ u.pmc.cnt = s.pmc.cnt) ∧
       (s.flag F.PMC_CTL_RUN = true → Tab.get (fun _ => 0) u.pmc.cyc 0 =
         (Tab.get (fun _ => 0) s.pmc.cyc 0 + ((s.at t).dial * 2 / 5 - s.pmc.mark * 2 / 5)) % 2 ^ 64)) ∧
     Completes (.pmcFreeze t m) s (fun u => P u ∧ u.flag F.PMC_CTL_RUN = s.flag F.PMC_CTL_RUN ∧ u.flag F.PMC_CTL_SNAPVALID = true ∧
       ∀ k < 3, ∀ j < 18, u.word (Reg.PMC_SNAP k j) = (u.pmcWords k).getD j 0) ∧
     Completes (.pmcClear t m) s (fun u => P u ∧ u.flag F.PMC_CTL_RUN = s.flag F.PMC_CTL_RUN ∧ u.flag F.PMC_CTL_SNAPVALID = false ∧
       u.word Reg.PMC_OVF = 0 ∧ u.pmc.cyc = [] ∧ u.pmc.cnt = []))

/-! ## Clocks and crossings (22_clocks_crossings.md) -/

/-- R498, R500, R501, R511: the PLL and the clock monitors. R506, R509 to R513 and Table 22-5: how a crossing moves between its states. -/
def Obligations.ClocksAndCrossingsFollow : Prop :=
  ((∀ (t : Nat) (s : State),
     Completes (.pllLock t) s (fun u => Touches [.dial, .regs, .time] s u ∧ SameRegs [Reg.CLK_STS] s u ∧
       u.flag F.CLK_STS_PLL_LOCK = true ∧ u.flag F.CLK_STS_PLL_UNLOCK = s.flag F.CLK_STS_PLL_UNLOCK) ∧
     Completes (.pllUnlock t) s fun u => Touches [.dial, .regs, .time] s u ∧ SameRegs [Reg.CLK_STS] s u ∧
       u.flag F.CLK_STS_PLL_LOCK = false ∧ u.flag F.CLK_STS_PLL_UNLOCK = true ∧ u.flag F.CLK_STS_PLL_UNLOCK.live = true) ∧
   ∀ (t c : Nat) (s : State),
     (s.awake = false → Completes (.clockStopped t c) s (fun u => Touches [.dial, .time] s u) ∧
       Completes (.clockRunning t c) s fun u => Touches [.dial, .time] s u) ∧
     (s.awake = true → c < 17 → c ≠ 3 → Completes (.clockStopped t c) s fun u =>
       Touches [.dial, .regs, .time, .log, .host, .trv, .acq, .bal, .wear, .lds, .sxt] s u ∧
       (u.word Reg.CLK_MON).getLsbD c = true ∧ (∀ k : Nat, k ≠ c → (u.word Reg.CLK_MON).getLsbD k = (s.word Reg.CLK_MON).getLsbD k) ∧
       u.flag F.CLK_STS_CLKSTOP = true ∧ u.flag F.CLK_STS_CLKSTOP.live = true ∧
       (c < 2 → Tab.get (fun _ => false) u.host.ethUp c = false) ∧ (4 ≤ c → c < 12 → (u.port (c - 4)).up = false) ∧
       (c = 14 → u.lds.safeB = false) ∧ (c = 15 → u.time.rtcRun = false ∧ u.flag F.TIME_PTPSTS_RTC_LOST = true)) ∧
     (s.awake = true → c = 3 → Completes (.clockStopped t c) s fun u => Touches [.dial, .time] s u) ∧
     (s.awake = true → c < 17 → c ≠ 3 → (s.word Reg.CLK_MON).getLsbD c = true → Completes (.clockRunning t c) s fun u =>
       Touches [.dial, .regs, .time, .clk] s u ∧ OnlyBlocks [Block.clk] s u ∧ (u.word Reg.CLK_MON).getLsbD c = false ∧
       (∀ k : Nat, k ≠ c → (u.word Reg.CLK_MON).getLsbD k = (s.word Reg.CLK_MON).getLsbD k) ∧
       (∀ n ∈ clockCrossings c, u.xState n = 2 ∧ u.xPhase n = 1) ∧
       (∀ n < 22, n ∉ clockCrossings c → u.xState n = s.xState n ∧ u.xPhase n = s.xPhase n) ∧ (c = 15 → u.time.rtcRun = true)) ∧
     ((s.word Reg.CLK_MON).getLsbD c = false → Completes (.clockRunning t c) s fun u => Touches [.dial, .time] s u)) ∧
  ((∀ (t n : Nat) (s : State), n < 22 →
     (xFallback n = true → (s.xState n = 0 ∨ s.xState n = 1) → Completes (.pointerCheckFail t n) s fun u =>
       Touches [.dial, .regs, .time, .clk] s u ∧ SameRegs [Reg.CLK_XSTAT n, Reg.CLK_STS] s u ∧ u.xState n = 1 ∧
       u.flag F.CLK_STS_CDC_FALLBACK = true ∧ u.xFailed n = true) ∧
     (xFallback n = true → 2 ≤ s.xState n → Completes (.pointerCheckFail t n) s fun u => Touches [.dial, .time] s u) ∧
     (xFallback n = false → Completes (.pointerCheckFail t n) s fun u => Touches [.dial, .regs, .time, .clk] s u ∧
       SameRegs [Reg.CLK_XSTAT n] s u ∧ u.xState n = 2 ∧ u.xPhase n = 1)) ∧
   (∀ (t n w : Nat) (s : State), n < 22 →
     (s.xState n ≠ 2 → Completes (.handshakePhase t n w) s fun u => Touches [.dial, .time] s u) ∧
     (s.xState n = 2 → (s.xPhase n < 3 ∨ (n ≠ 2 ∧ n ≠ 4) ∨ (s.xing n).wait = []) →
       Completes (.handshakePhase t n w) s fun u => Touches [.dial, .regs, .time, .clk] s u ∧
       SameRegs [Reg.CLK_XSTAT n, Reg.CLK_STS] s u ∧
       (s.xPhase n = 1 → u.xState n = 2 ∧ u.xPhase n = 2 ∧ u.fld (F.CLK_XSTAT_DISC n) = min (s.fld (F.CLK_XSTAT_DISC n) + (w + (s.xing n).full.length)) 65535 ∧
         (u.xing n).full = [] ∧ (u.xing n).wptr = 0 ∧ (u.xing n).rptr = 0) ∧
       (s.xPhase n = 2 → u.xState n = 2 ∧ u.xPhase n = 3 ∧ u.fld (F.CLK_XSTAT_DISC n) = s.fld (F.CLK_XSTAT_DISC n)) ∧
       (3 ≤ s.xPhase n → u.xState n = (if (s.word Reg.CLK_XFB).getLsbD n then 1 else 0) ∧ u.xPhase n = 0 ∧ u.xFailed n = false ∧
         u.flag (F.CLK_XSTAT_EVMODE n) = (s.word Reg.CLK_XEVMODE).getLsbD n ∧ u.flag F.CLK_STS_CDC_RESYNC = true ∧ (s.xStill n = false → (u.xing n).wait = []))) ∧
     (∀ (off : Nat) (v : Word), n = 2 → s.xState n = 2 → 3 ≤ s.xPhase n → (s.xing n).wait = [.write .bar2 off 4 v] → off % 4 = 0 →
       0x100000 ≤ off → off < 0x110000 → Completes (.handshakePhase t n w) s fun u =>
         Tab.get zeroWord u.host.cmdRing (masterKey 4 ((off - 0x100000) / 4)) = v) ∧
     (s.xState n = 3 → Completes (.crossingTimeout t n w) s fun u => Touches [.dial, .time] s u) ∧
     (s.xState n ≠ 3 → Completes (.crossingTimeout t n w) s fun u => Touches [.dial, .regs, .time, .clk] s u ∧
       SameRegs [Reg.CLK_XSTAT n, Reg.CLK_STS, Reg.CLK_TOINFO] s u ∧ u.xState n = 3 ∧
       u.fld (F.CLK_XSTAT_DISC n) = min (s.fld (F.CLK_XSTAT_DISC n) + (w + (s.xing n).wait.length)) 65535 ∧ (u.xing n).wait = [] ∧ u.fld F.CLK_TOINFO_XID = n ∧
       u.fld F.CLK_TOINFO_COUNT = min (s.fld F.CLK_TOINFO_COUNT + 1) 65535 ∧ u.flag F.CLK_STS_CDC_TIMEOUT = true)) ∧
   ∀ (t : Nat) (m : Master) (v busy : Word) (s : State),
     Completes (.xresync t m v) s (fun u => Touches [.dial, .regs, .time, .clk] s u ∧
       SameRegs ((List.range 22).map Reg.CLK_XSTAT) s u ∧ ∀ n < 22,
         (v.getLsbD n = true → u.xState n = 2 ∧ u.xPhase n = 1) ∧
         (v.getLsbD n = false → u.word (Reg.CLK_XSTAT n) = s.word (Reg.CLK_XSTAT n) ∧ u.xPhase n = s.xPhase n)) ∧
     Completes (.xfbWrite t m v) s (fun u => Touches [.dial, .regs, .time] s u ∧ OnlyBlocks [Block.clk] s u ∧
       u.word Reg.CLK_XFB = v &&& 0x0002003C ∧
       ((∃ n < 22, v.getLsbD n = true ∧ xFallback n = false) → u.flag F.CLK_STS_CFG_REJ = true) ∧
       ((∀ n < 22, v.getLsbD n = true → xFallback n = true) → u.word Reg.CLK_STS = s.word Reg.CLK_STS) ∧
       ∀ n < 22, u.xState n =
         if xFallback n && v.getLsbD n && s.xState n == 0 then 1
         else if xFallback n && !v.getLsbD n && s.xState n == 1 && !s.xFailed n then 0 else s.xState n) ∧
     Completes (.xevmodeWrite t m v busy) s fun u => Touches [.dial, .regs, .time] s u ∧
       SameRegs (Reg.CLK_XEVMODE :: (List.range 22).map Reg.CLK_XSTAT) s u ∧
       (∀ n < 19, (u.word Reg.CLK_XEVMODE).getLsbD n = v.getLsbD n ∧ u.xState n = s.xState n ∧
         u.flag (F.CLK_XSTAT_EVMODE n) = if busy.getLsbD n then s.flag (F.CLK_XSTAT_EVMODE n) else v.getLsbD n) ∧
       ∀ n : Nat, 19 ≤ n → (u.word Reg.CLK_XEVMODE).getLsbD n = (s.word Reg.CLK_XEVMODE).getLsbD n)
end

