-- ==== Sys2Proof/Laws/Tab.lean ====
section
/-! SUPPORT. Laws of the sparse table: a read after a write gives the value written, a write leaves every other key alone, and every operation keeps the canonical form. -/

namespace Sys2Proof.Machine

variable {α : Type}

theorem Tab.get_insert_same (d : Nat → α) (m : Tab α) (k : Nat) (v : α) : Tab.get d (Tab.insert k v m) k = v := by
  induction m with
  | nil => simp [Tab.insert, Tab.get]
  | cons e m ih =>
    obtain ⟨a, w⟩ := e
    by_cases h1 : k < a
    · simp [Tab.insert, Tab.get, h1]
    · by_cases h2 : a = k
      · simp [Tab.insert, Tab.get, h2]
      · simp [Tab.insert, Tab.get, h1, h2, ih]

theorem Tab.get_insert_other (d : Nat → α) (m : Tab α) {k j : Nat} (v : α) (h : j ≠ k) :
    Tab.get d (Tab.insert k v m) j = Tab.get d m j := by
  induction m with
  | nil => simp [Tab.insert, Tab.get, h.symm]
  | cons e m ih =>
    obtain ⟨a, w⟩ := e
    by_cases h1 : k < a
    · simp [Tab.insert, Tab.get, h1, h.symm]
    · by_cases h2 : a = k
      · subst h2; simp [Tab.insert, Tab.get, h.symm]
      · by_cases h3 : a = j
        · subst h3; simp [Tab.insert, Tab.get, h1, h2]
        · simp [Tab.insert, Tab.get, h1, h2, h3, ih]

theorem Tab.get_erase_other (d : Nat → α) (m : Tab α) {k j : Nat} (h : j ≠ k) : Tab.get d (Tab.erase k m) j = Tab.get d m j := by
  induction m with
  | nil => rfl
  | cons e m ih =>
    obtain ⟨a, w⟩ := e
    by_cases h2 : a = k
    · subst h2; simp [Tab.erase, Tab.get, h.symm, ih]
    · by_cases h3 : a = j
      · subst h3; simp [Tab.erase, Tab.get, h2]
      · simp [Tab.erase, Tab.get, h2, h3, ih]

theorem Tab.get_erase_same (d : Nat → α) (m : Tab α) (k : Nat) : Tab.get d (Tab.erase k m) k = d k := by
  induction m with
  | nil => rfl
  | cons e m ih =>
    obtain ⟨a, w⟩ := e
    by_cases h2 : a = k <;> simp [Tab.erase, Tab.get, h2, ih]

/-- A read after a write to the same key gives the value written. -/
@[simp] theorem Tab.get_set_same [DecidableEq α] (d : Nat → α) (m : Tab α) (k : Nat) (v : α) :
    Tab.get d (Tab.set d m k v) k = v := by
  by_cases h : v = d k
  · simp [Tab.set, h, Tab.get_erase_same]
  · simp [Tab.set, h, Tab.get_insert_same]

/-- A write leaves every other key alone. -/
theorem Tab.get_set_other [DecidableEq α] (d : Nat → α) (m : Tab α) {k j : Nat} (v : α) (h : j ≠ k) :
    Tab.get d (Tab.set d m k v) j = Tab.get d m j := by
  by_cases h1 : v = d k
  · simp [Tab.set, h1, Tab.get_erase_other d m h]
  · simp [Tab.set, h1, Tab.get_insert_other d m v h]

/-- A read after a write, both cases. -/
theorem Tab.get_set [DecidableEq α] (d : Nat → α) (m : Tab α) (k j : Nat) (v : α) :
    Tab.get d (Tab.set d m k v) j = if j = k then v else Tab.get d m j := by
  by_cases h : j = k
  · subst h; simp
  · simp [Tab.get_set_other d m v h, h]

/-- A table that is well formed from a bound is so from every lower one. -/
theorem Tab.wfFrom_mono [DecidableEq α] (d : Nat → α) (m : Tab α) {lo lo' : Nat} (h : lo' ≤ lo) (hw : Tab.wfFrom d lo m = true) :
    Tab.wfFrom d lo' m = true := by
  cases m with
  | nil => rfl
  | cons e m =>
    obtain ⟨a, w⟩ := e
    simp only [Tab.wfFrom, Bool.and_eq_true, decide_eq_true_eq] at hw ⊢
    exact ⟨⟨Nat.le_trans h hw.1.1, hw.1.2⟩, hw.2⟩

theorem Tab.wfFrom_erase [DecidableEq α] (d : Nat → α) (m : Tab α) (lo k : Nat) (hw : Tab.wfFrom d lo m = true) :
    Tab.wfFrom d lo (Tab.erase k m) = true := by
  induction m generalizing lo with
  | nil => rfl
  | cons e m ih =>
    obtain ⟨a, w⟩ := e
    simp only [Tab.wfFrom, Bool.and_eq_true, decide_eq_true_eq] at hw
    by_cases h : a = k
    · simp only [Tab.erase, h, if_true]
      exact ih _ (Tab.wfFrom_mono d m (by omega) hw.2)
    · simp only [Tab.erase, h, if_false, Tab.wfFrom, Bool.and_eq_true, decide_eq_true_eq]
      exact ⟨hw.1, ih _ hw.2⟩

theorem Tab.wfFrom_insert [DecidableEq α] (d : Nat → α) (m : Tab α) (lo k : Nat) (v : α) (hv : v ≠ d k) (hk : lo ≤ k)
    (hw : Tab.wfFrom d lo m = true) : Tab.wfFrom d lo (Tab.insert k v m) = true := by
  induction m generalizing lo with
  | nil => simp [Tab.insert, Tab.wfFrom, hv, hk]
  | cons e m ih =>
    obtain ⟨a, w⟩ := e
    simp only [Tab.wfFrom, Bool.and_eq_true, decide_eq_true_eq] at hw
    by_cases h1 : k < a
    · simp [Tab.insert, h1, Tab.wfFrom, hv, hk, hw, Nat.succ_le_of_lt h1]
    · by_cases h2 : a = k
      · subst h2; simp [Tab.insert, Tab.wfFrom, hv, hk, hw]
      · simp only [Tab.insert, h1, h2, if_false, Tab.wfFrom, Bool.and_eq_true, decide_eq_true_eq]
        exact ⟨hw.1, ih _ (by omega) hw.2⟩

/-- A write keeps the canonical form. -/
theorem Tab.wf_set [DecidableEq α] (d : Nat → α) (m : Tab α) (k : Nat) (v : α) (hw : Tab.wf d m = true) :
    Tab.wf d (Tab.set d m k v) = true := by
  unfold Tab.set
  split
  · exact Tab.wfFrom_erase d m 0 k hw
  · exact Tab.wfFrom_insert d m 0 k v ‹_› (Nat.zero_le k) hw

/-- Taking entries out keeps the canonical form. -/
theorem Tab.wf_filter [DecidableEq α] (d : Nat → α) (m : Tab α) (p : Nat × α → Bool) (lo : Nat) (hw : Tab.wfFrom d lo m = true) :
    Tab.wfFrom d lo (m.filter p) = true := by
  induction m generalizing lo with
  | nil => rfl
  | cons e m ih =>
    obtain ⟨a, w⟩ := e
    simp only [Tab.wfFrom, Bool.and_eq_true, decide_eq_true_eq] at hw
    by_cases h : p (a, w) = true
    · simp only [List.filter_cons, h, if_true, Tab.wfFrom, Bool.and_eq_true, decide_eq_true_eq]
      exact ⟨hw.1, ih _ hw.2⟩
    · simp only [List.filter_cons, h]
      exact ih _ (Tab.wfFrom_mono d m (by omega) hw.2)

theorem Tab.wf_nil [DecidableEq α] (d : Nat → α) : Tab.wf d ([] : Tab α) = true := rfl

end Sys2Proof.Machine
end

