-- ==== Sys2Proof/Laws/Units.lean ====
section
/-! SUPPORT. The 4 KB block of each register: the unit it belongs to. -/

namespace Sys2Proof.Machine

/-- The unit of a register key: the number of its 4 KB block, the same for every master's instance. -/
def unitOf (k : Nat) : Nat := k / 4096 % 256

theorem unitOf_masterKey {m off n : Nat} (h : unitOf off = n) : unitOf (masterKey m off) = n := by
  unfold unitOf masterKey at *; omega

theorem unitOf_ite {c : Prop} [Decidable c] {a b n : Nat} (h : unitOf a = n) (k : unitOf b = n) : unitOf (if c then a else b) = n := by
  split <;> assumption

theorem unitOf_fldIte {c : Prop} [Decidable c] {f g : Fld} {n : Nat} (h : unitOf f.reg = n) (k : unitOf g.reg = n) :
    unitOf (if c then f else g).reg = n := by
  split <;> assumption

theorem unit_SYS_AWAIT (i : Nat) : unitOf (Reg.SYS_AWAIT i) = 0 := by unfold unitOf Reg.SYS_AWAIT; omega
theorem unit_SYS_LOCK (i : Nat) : unitOf (Reg.SYS_LOCK i) = 0 := by unfold unitOf Reg.SYS_LOCK; omega
theorem unit_TRV_RINGSTS (i : Nat) : unitOf (Reg.TRV_RINGSTS i) = 4 := by unfold unitOf Reg.TRV_RINGSTS; omega
theorem unit_TRV_PORTSTS (i : Nat) : unitOf (Reg.TRV_PORTSTS i) = 4 := by unfold unitOf Reg.TRV_PORTSTS; omega
theorem unit_TRV_HOPDLY (i : Nat) : unitOf (Reg.TRV_HOPDLY i) = 4 := by unfold unitOf Reg.TRV_HOPDLY; omega
theorem unit_ACQ_MODDLY (i : Nat) : unitOf (Reg.ACQ_MODDLY i) = 6 := by unfold unitOf Reg.ACQ_MODDLY; omega
theorem unit_ACQ_MODGAIN (i : Nat) : unitOf (Reg.ACQ_MODGAIN i) = 6 := by unfold unitOf Reg.ACQ_MODGAIN; omega
theorem unit_ACQ_MODOFS (i : Nat) : unitOf (Reg.ACQ_MODOFS i) = 6 := by unfold unitOf Reg.ACQ_MODOFS; omega
theorem unit_ACQ_TILECFG (i : Nat) : unitOf (Reg.ACQ_TILECFG i) = 6 := by unfold unitOf Reg.ACQ_TILECFG; omega
theorem unit_ACQ_TMAP (i : Nat) : unitOf (Reg.ACQ_TMAP i) = 6 := by unfold unitOf Reg.ACQ_TMAP; omega
theorem unit_ACQ_OWSUS (i : Nat) : unitOf (Reg.ACQ_OWSUS i) = 6 := by unfold unitOf Reg.ACQ_OWSUS; omega
theorem unit_ACQ_OWCNF (i : Nat) : unitOf (Reg.ACQ_OWCNF i) = 6 := by unfold unitOf Reg.ACQ_OWCNF; omega
theorem unit_ALM_LATE (i : Nat) : unitOf (Reg.ALM_LATE i) = 8 := by unfold unitOf Reg.ALM_LATE; omega
theorem unit_ALM_EVSTS (i : Nat) : unitOf (Reg.ALM_EVSTS i) = 8 := by unfold unitOf Reg.ALM_EVSTS; omega
theorem unit_ALM_EVSET (i : Nat) : unitOf (Reg.ALM_EVSET i) = 8 := by unfold unitOf Reg.ALM_EVSET; omega
theorem unit_ALM_EVCLR (i : Nat) : unitOf (Reg.ALM_EVCLR i) = 8 := by unfold unitOf Reg.ALM_EVCLR; omega
theorem unit_ALM_WATCH (i : Nat) : unitOf (Reg.ALM_WATCH i) = 8 := by unfold unitOf Reg.ALM_WATCH; omega
theorem unit_SXT_LRNV (i : Nat) : unitOf (Reg.SXT_LRNV i) = 10 := by unfold unitOf Reg.SXT_LRNV; omega
theorem unit_SXT_LRNSPAN (i : Nat) : unitOf (Reg.SXT_LRNSPAN i) = 10 := by unfold unitOf Reg.SXT_LRNSPAN; omega
theorem unit_AZM_CALA (i : Nat) : unitOf (Reg.AZM_CALA i) = 12 := by unfold unitOf Reg.AZM_CALA; omega
theorem unit_AZM_CALB (i : Nat) : unitOf (Reg.AZM_CALB i) = 12 := by unfold unitOf Reg.AZM_CALB; omega
theorem unit_AZM_TCAL (i j : Nat) : unitOf (Reg.AZM_TCAL i j) = 12 := by unfold unitOf Reg.AZM_TCAL; omega
theorem unit_AZM_PLAN_HDR (i : Nat) : unitOf (Reg.AZM_PLAN_HDR i) = 12 := by unfold unitOf Reg.AZM_PLAN_HDR; omega
theorem unit_AZM_PLAN_T (i j : Nat) : unitOf (Reg.AZM_PLAN_T i j) = 12 := by unfold unitOf Reg.AZM_PLAN_T; omega
theorem unit_BAL_MAN (i : Nat) : unitOf (Reg.BAL_MAN i) = 13 := by unfold unitOf Reg.BAL_MAN; omega
theorem unit_BAL_TILE (i : Nat) : unitOf (Reg.BAL_TILE i) = 13 := by unfold unitOf Reg.BAL_TILE; omega
theorem unit_BAL_RW (i : Nat) : unitOf (Reg.BAL_RW i) = 13 := by unfold unitOf Reg.BAL_RW; omega
theorem unit_HLM_AGAIN (i : Nat) : unitOf (Reg.HLM_AGAIN i) = 14 := by unfold unitOf Reg.HLM_AGAIN; omega
theorem unit_HLM_AOFS (i : Nat) : unitOf (Reg.HLM_AOFS i) = 14 := by unfold unitOf Reg.HLM_AOFS; omega
theorem unit_DSP_COOLCFG (i : Nat) : unitOf (Reg.DSP_COOLCFG i) = 15 := by unfold unitOf Reg.DSP_COOLCFG; omega
theorem unit_DSP_COOLCRV (i : Nat) : unitOf (Reg.DSP_COOLCRV i) = 15 := by unfold unitOf Reg.DSP_COOLCRV; omega
theorem unit_LDS_OUT (i : Nat) : unitOf (Reg.LDS_OUT i) = 16 := by unfold unitOf Reg.LDS_OUT; omega
theorem unit_HOST_H2DMBX (i : Nat) : unitOf (Reg.HOST_H2DMBX i) = 3 := by unfold unitOf Reg.HOST_H2DMBX; omega
theorem unit_HOST_D2HMBX (i : Nat) : unitOf (Reg.HOST_D2HMBX i) = 3 := by unfold unitOf Reg.HOST_D2HMBX; omega
theorem unit_CAN_CTL (i : Nat) : unitOf (Reg.CAN_CTL i) = 19 := by unfold unitOf Reg.CAN_CTL; omega
theorem unit_CAN_STS (i : Nat) : unitOf (Reg.CAN_STS i) = 19 := by unfold unitOf Reg.CAN_STS; omega
theorem unit_CAN_NBT (i : Nat) : unitOf (Reg.CAN_NBT i) = 19 := by unfold unitOf Reg.CAN_NBT; omega
theorem unit_CAN_DBT (i : Nat) : unitOf (Reg.CAN_DBT i) = 19 := by unfold unitOf Reg.CAN_DBT; omega
theorem unit_CAN_TDC (i : Nat) : unitOf (Reg.CAN_TDC i) = 19 := by unfold unitOf Reg.CAN_TDC; omega
theorem unit_CAN_ERR (i : Nat) : unitOf (Reg.CAN_ERR i) = 19 := by unfold unitOf Reg.CAN_ERR; omega
theorem unit_CAN_TQSTS (i : Nat) : unitOf (Reg.CAN_TQSTS i) = 19 := by unfold unitOf Reg.CAN_TQSTS; omega
theorem unit_CAN_TXCNT (i : Nat) : unitOf (Reg.CAN_TXCNT i) = 19 := by unfold unitOf Reg.CAN_TXCNT; omega
theorem unit_CAN_RXCNT (i : Nat) : unitOf (Reg.CAN_RXCNT i) = 19 := by unfold unitOf Reg.CAN_RXCNT; omega
theorem unit_CAN_TXFAIL (i : Nat) : unitOf (Reg.CAN_TXFAIL i) = 19 := by unfold unitOf Reg.CAN_TXFAIL; omega
theorem unit_CAN_TXBUF (i j : Nat) : unitOf (Reg.CAN_TXBUF i j) = 19 := by unfold unitOf Reg.CAN_TXBUF; omega
theorem unit_CAN_TXGO (i : Nat) : unitOf (Reg.CAN_TXGO i) = 19 := by unfold unitOf Reg.CAN_TXGO; omega
theorem unit_CAN_TXCAN (i : Nat) : unitOf (Reg.CAN_TXCAN i) = 19 := by unfold unitOf Reg.CAN_TXCAN; omega
theorem unit_CAN_TXRES (i : Nat) : unitOf (Reg.CAN_TXRES i) = 19 := by unfold unitOf Reg.CAN_TXRES; omega
theorem unit_CAN_RXFULL (i j : Nat) : unitOf (Reg.CAN_RXFULL i j) = 19 := by unfold unitOf Reg.CAN_RXFULL; omega
theorem unit_CAN_RXOVR (i j : Nat) : unitOf (Reg.CAN_RXOVR i j) = 19 := by unfold unitOf Reg.CAN_RXOVR; omega
theorem unit_CAN_RXREL (i : Nat) : unitOf (Reg.CAN_RXREL i) = 19 := by unfold unitOf Reg.CAN_RXREL; omega
theorem unit_CAN_RXSEL (i : Nat) : unitOf (Reg.CAN_RXSEL i) = 19 := by unfold unitOf Reg.CAN_RXSEL; omega
theorem unit_CAN_RXBUF (i j : Nat) : unitOf (Reg.CAN_RXBUF i j) = 19 := by unfold unitOf Reg.CAN_RXBUF; omega
theorem unit_CAN_ABCTL (i : Nat) : unitOf (Reg.CAN_ABCTL i) = 19 := by unfold unitOf Reg.CAN_ABCTL; omega
theorem unit_CAN_ABCAND (i j : Nat) : unitOf (Reg.CAN_ABCAND i j) = 19 := by unfold unitOf Reg.CAN_ABCAND; omega
theorem unit_CAN_TMCTL (i : Nat) : unitOf (Reg.CAN_TMCTL i) = 19 := by unfold unitOf Reg.CAN_TMCTL; omega
theorem unit_CAN_TMID (i : Nat) : unitOf (Reg.CAN_TMID i) = 19 := by unfold unitOf Reg.CAN_TMID; omega
theorem unit_CAN_FID (i j : Nat) : unitOf (Reg.CAN_FID i j) = 19 := by unfold unitOf Reg.CAN_FID; omega
theorem unit_CAN_FMASK (i j : Nat) : unitOf (Reg.CAN_FMASK i j) = 19 := by unfold unitOf Reg.CAN_FMASK; omega
theorem unit_UPD_VER (i : Nat) : unitOf (Reg.UPD_VER i) = 20 := by unfold unitOf Reg.UPD_VER; omega
theorem unit_SEC_SERIAL (i : Nat) : unitOf (Reg.SEC_SERIAL i) = 25 := by unfold unitOf Reg.SEC_SERIAL; omega
theorem unit_SEC_KDATA (i : Nat) : unitOf (Reg.SEC_KDATA i) = 25 := by unfold unitOf Reg.SEC_KDATA; omega
theorem unit_THM_DIE (i : Nat) : unitOf (Reg.THM_DIE i) = 21 := by unfold unitOf Reg.THM_DIE; omega
theorem unit_THM_TD (i : Nat) : unitOf (Reg.THM_TD i) = 21 := by unfold unitOf Reg.THM_TD; omega
theorem unit_THM_TH (i : Nat) : unitOf (Reg.THM_TH i) = 21 := by unfold unitOf Reg.THM_TH; omega
theorem unit_LOG_RDATA (i : Nat) : unitOf (Reg.LOG_RDATA i) = 22 := by unfold unitOf Reg.LOG_RDATA; omega
theorem unit_PMC_CYC_LO (i : Nat) : unitOf (Reg.PMC_CYC_LO i) = 24 := by unfold unitOf Reg.PMC_CYC_LO; omega
theorem unit_PMC_CYC_HI (i : Nat) : unitOf (Reg.PMC_CYC_HI i) = 24 := by unfold unitOf Reg.PMC_CYC_HI; omega
theorem unit_PMC_CNT_LO (i j : Nat) : unitOf (Reg.PMC_CNT_LO i j) = 24 := by unfold unitOf Reg.PMC_CNT_LO; omega
theorem unit_PMC_CNT_HI (i j : Nat) : unitOf (Reg.PMC_CNT_HI i j) = 24 := by unfold unitOf Reg.PMC_CNT_HI; omega
theorem unit_PMC_SEL (i j : Nat) : unitOf (Reg.PMC_SEL i j) = 24 := by unfold unitOf Reg.PMC_SEL; omega
theorem unit_PMC_SNAP (i j : Nat) : unitOf (Reg.PMC_SNAP i j) = 24 := by unfold unitOf Reg.PMC_SNAP; omega
theorem unit_CLK_XSTAT (i : Nat) : unitOf (Reg.CLK_XSTAT i) = 1 := by unfold unitOf Reg.CLK_XSTAT; omega

end Sys2Proof.Machine
end

