-- ==== Sys2Proof/Laws/Keeps.lean ====
section
/-! SUPPORT. What a function of the state can change, said once for every function: Keeps m s u says that from s to u only the parts whose bits are set in m change, that the queue stays, that the register table keeps its canonical form, that Dial does not run back unless bit 26 is set, and, unless bit 27 is set, that only registers of the units whose bits (32 and up, one for each 4 KB block) are set change. -/

namespace Sys2Proof.Machine

/-- The bit of a part in a mask. -/
def Part.bit : Part → Nat
  | .freeCtr => 0
  | .dial => 1
  | .regs => 2
  | .lastRead => 3
  | .ep => 4
  | .time => 5
  | .log => 6
  | .host => 7
  | .trv => 8
  | .acq => 9
  | .bal => 10
  | .upd => 11
  | .wear => 12
  | .clk => 13
  | .hlm => 14
  | .lds => 15
  | .can => 16
  | .sxt => 17
  | .azm => 18
  | .alm => 19
  | .pmc => 20
  | .dsp => 21
  | .pwr => 22
  | .bin => 23
  | .rdn => 24
  | .pilot => 25

/-- Bit n of a mask, by literal arithmetic. -/
def bitOff (m n : Nat) : Bool := (m >>> n) % 2 == 0

structure Keeps (m : Nat) (s u : State) : Prop where
  pending : u.pending = s.pending
  regsOk : s.RegsOk → u.RegsOk
  dialMono : bitOff m 26 = true → s.dial ≤ u.dial
  units : bitOff m 27 = true → ∀ k : Nat, bitOff m (32 + unitOf k) = true → u.word k = s.word k
  freeCtr : bitOff m 0 = true → u.freeCtr = s.freeCtr
  dial : bitOff m 1 = true → u.dial = s.dial
  regs : bitOff m 2 = true → u.regs = s.regs
  lastRead : bitOff m 3 = true → u.lastRead = s.lastRead
  ep : bitOff m 4 = true → u.ep = s.ep
  time : bitOff m 5 = true → u.time = s.time
  log : bitOff m 6 = true → u.log = s.log
  host : bitOff m 7 = true → u.host = s.host
  trv : bitOff m 8 = true → u.trv = s.trv
  acq : bitOff m 9 = true → u.acq = s.acq
  bal : bitOff m 10 = true → u.bal = s.bal
  upd : bitOff m 11 = true → u.upd = s.upd
  wear : bitOff m 12 = true → u.wear = s.wear
  clk : bitOff m 13 = true → u.clk = s.clk
  hlm : bitOff m 14 = true → u.hlm = s.hlm
  lds : bitOff m 15 = true → u.lds = s.lds
  can : bitOff m 16 = true → u.can = s.can
  sxt : bitOff m 17 = true → u.sxt = s.sxt
  azm : bitOff m 18 = true → u.azm = s.azm
  alm : bitOff m 19 = true → u.alm = s.alm
  pmc : bitOff m 20 = true → u.pmc = s.pmc
  dsp : bitOff m 21 = true → u.dsp = s.dsp
  pwr : bitOff m 22 = true → u.pwr = s.pwr
  bin : bitOff m 23 = true → u.bin = s.bin
  rdn : bitOff m 24 = true → u.rdn = s.rdn
  pilot : bitOff m 25 = true → u.pilot = s.pilot

/-- A register of a unit that the mask leaves out holds what it held. -/
theorem Keeps.word {m : Nat} {s u : State} (h : Keeps m s u) (h1 : bitOff m 27 = true) (k : Nat) (h2 : bitOff m (32 + unitOf k) = true) :
    u.word k = s.word k := h.units h1 k h2

theorem Keeps.fld {m : Nat} {s u : State} (h : Keeps m s u) (h1 : bitOff m 27 = true) (f : Fld)
    (h2 : bitOff m (32 + unitOf f.reg) = true) : u.fld f = s.fld f := by
  unfold State.fld; rw [h.word h1 _ h2]

theorem Keeps.flag {m : Nat} {s u : State} (h : Keeps m s u) (h1 : bitOff m 27 = true) (f : Fld)
    (h2 : bitOff m (32 + unitOf f.reg) = true) : u.flag f = s.flag f := by
  unfold State.flag; rw [h.word h1 _ h2]

/-- The same for a register whose unit is given. -/
theorem Keeps.wordOf {m : Nat} {s u : State} (h : Keeps m s u) (h1 : bitOff m 27 = true) {k : Nat} (n : Nat) (hk : unitOf k = n)
    (h2 : bitOff m (32 + n) = true) : u.word k = s.word k := h.units h1 k (hk ▸ h2)

theorem Keeps.fldOf {m : Nat} {s u : State} (h : Keeps m s u) (h1 : bitOff m 27 = true) {f : Fld} (n : Nat) (hk : unitOf f.reg = n)
    (h2 : bitOff m (32 + n) = true) : u.fld f = s.fld f := h.fld h1 f (hk ▸ h2)

theorem Keeps.flagOf {m : Nat} {s u : State} (h : Keeps m s u) (h1 : bitOff m 27 = true) {f : Fld} (n : Nat) (hk : unitOf f.reg = n)
    (h2 : bitOff m (32 + n) = true) : u.flag f = s.flag f := h.flag h1 f (hk ▸ h2)

theorem Keeps.refl (m : Nat) (s : State) : Keeps m s s := by
  constructor <;> intros <;> first | rfl | assumption | exact Nat.le_refl _

theorem bitOff_or {m m' n : Nat} (hm : m ||| m' = m) (h : bitOff m n = true) : bitOff m' n = true := by
  have h1 : m.testBit n = false := by
    simp only [bitOff, Nat.testBit, Nat.one_and_eq_mod_two, bne_eq_false_iff_eq, beq_iff_eq] at *; exact h
  have h2 : (m ||| m').testBit n = false := by rw [hm]; exact h1
  simp only [Nat.testBit_or, Bool.or_eq_false_iff] at h2
  have h3 := h2.2
  simp only [bitOff, Nat.testBit, Nat.one_and_eq_mod_two, bne_eq_false_iff_eq, beq_iff_eq] at *; exact h3

/-- A mask that covers a mask covers what that one covers. -/
theorem lor_sub {m a b : Nat} (hm : m ||| a = m) (h : a ||| b = a) : m ||| b = m := by
  calc m ||| b = (m ||| a) ||| b := by rw [hm]
    _ = m ||| a := by rw [Nat.or_assoc, h]
    _ = m := hm

/-- One change after another, under a mask that covers both. -/
theorem Keeps.next {m m' : Nat} {s t u : State} (hm : m ||| m' = m) (h : Keeps m s t) (k : Keeps m' t u) : Keeps m s u where
  pending := k.pending.trans h.pending
  regsOk := fun x => k.regsOk (h.regsOk x)
  dialMono := fun x => Nat.le_trans (h.dialMono x) (k.dialMono (bitOff_or hm x))
  units := fun x n y => (k.units (bitOff_or hm x) n (bitOff_or hm y)).trans (h.units x n y)
  freeCtr := fun x => (k.freeCtr (bitOff_or hm x)).trans (h.freeCtr x)
  dial := fun x => (k.dial (bitOff_or hm x)).trans (h.dial x)
  regs := fun x => (k.regs (bitOff_or hm x)).trans (h.regs x)
  lastRead := fun x => (k.lastRead (bitOff_or hm x)).trans (h.lastRead x)
  ep := fun x => (k.ep (bitOff_or hm x)).trans (h.ep x)
  time := fun x => (k.time (bitOff_or hm x)).trans (h.time x)
  log := fun x => (k.log (bitOff_or hm x)).trans (h.log x)
  host := fun x => (k.host (bitOff_or hm x)).trans (h.host x)
  trv := fun x => (k.trv (bitOff_or hm x)).trans (h.trv x)
  acq := fun x => (k.acq (bitOff_or hm x)).trans (h.acq x)
  bal := fun x => (k.bal (bitOff_or hm x)).trans (h.bal x)
  upd := fun x => (k.upd (bitOff_or hm x)).trans (h.upd x)
  wear := fun x => (k.wear (bitOff_or hm x)).trans (h.wear x)
  clk := fun x => (k.clk (bitOff_or hm x)).trans (h.clk x)
  hlm := fun x => (k.hlm (bitOff_or hm x)).trans (h.hlm x)
  lds := fun x => (k.lds (bitOff_or hm x)).trans (h.lds x)
  can := fun x => (k.can (bitOff_or hm x)).trans (h.can x)
  sxt := fun x => (k.sxt (bitOff_or hm x)).trans (h.sxt x)
  azm := fun x => (k.azm (bitOff_or hm x)).trans (h.azm x)
  alm := fun x => (k.alm (bitOff_or hm x)).trans (h.alm x)
  pmc := fun x => (k.pmc (bitOff_or hm x)).trans (h.pmc x)
  dsp := fun x => (k.dsp (bitOff_or hm x)).trans (h.dsp x)
  pwr := fun x => (k.pwr (bitOff_or hm x)).trans (h.pwr x)
  bin := fun x => (k.bin (bitOff_or hm x)).trans (h.bin x)
  rdn := fun x => (k.rdn (bitOff_or hm x)).trans (h.rdn x)
  pilot := fun x => (k.pilot (bitOff_or hm x)).trans (h.pilot x)

/-- A direct change of fields other than the registers, Dial and the queue. -/
theorem Keeps.mk' {m : Nat} {s t : State} (h : Keeps m s t)
    {x_freeCtr : Nat} (h_freeCtr : x_freeCtr = t.freeCtr ∨ bitOff m 0 = false)
    {x_lastRead : Store} (h_lastRead : x_lastRead = t.lastRead ∨ bitOff m 3 = false)
    {x_ep : EpochSt} (h_ep : x_ep = t.ep ∨ bitOff m 4 = false)
    {x_time : TimeSt} (h_time : x_time = t.time ∨ bitOff m 5 = false)
    {x_log : LogSt} (h_log : x_log = t.log ∨ bitOff m 6 = false)
    {x_host : HostSt} (h_host : x_host = t.host ∨ bitOff m 7 = false)
    {x_trv : TrvSt} (h_trv : x_trv = t.trv ∨ bitOff m 8 = false)
    {x_acq : AcqSt} (h_acq : x_acq = t.acq ∨ bitOff m 9 = false)
    {x_bal : BalSt} (h_bal : x_bal = t.bal ∨ bitOff m 10 = false)
    {x_upd : UpdSt} (h_upd : x_upd = t.upd ∨ bitOff m 11 = false)
    {x_wear : WearSt} (h_wear : x_wear = t.wear ∨ bitOff m 12 = false)
    {x_clk : ClkSt} (h_clk : x_clk = t.clk ∨ bitOff m 13 = false)
    {x_hlm : HlmSt} (h_hlm : x_hlm = t.hlm ∨ bitOff m 14 = false)
    {x_lds : LdsSt} (h_lds : x_lds = t.lds ∨ bitOff m 15 = false)
    {x_can : Tab CanSt} (h_can : x_can = t.can ∨ bitOff m 16 = false)
    {x_sxt : SxtSt} (h_sxt : x_sxt = t.sxt ∨ bitOff m 17 = false)
    {x_azm : AzmSt} (h_azm : x_azm = t.azm ∨ bitOff m 18 = false)
    {x_alm : AlmSt} (h_alm : x_alm = t.alm ∨ bitOff m 19 = false)
    {x_pmc : PmcSt} (h_pmc : x_pmc = t.pmc ∨ bitOff m 20 = false)
    {x_dsp : DspSt} (h_dsp : x_dsp = t.dsp ∨ bitOff m 21 = false)
    {x_pwr : PwrSt} (h_pwr : x_pwr = t.pwr ∨ bitOff m 22 = false)
    {x_bin : BinSt} (h_bin : x_bin = t.bin ∨ bitOff m 23 = false)
    {x_rdn : RdnSt} (h_rdn : x_rdn = t.rdn ∨ bitOff m 24 = false)
    {x_pilot : PilotSt} (h_pilot : x_pilot = t.pilot ∨ bitOff m 25 = false) :
    Keeps m s { pending := t.pending, freeCtr := x_freeCtr, dial := t.dial, regs := t.regs, lastRead := x_lastRead, ep := x_ep, time := x_time, log := x_log, host := x_host, trv := x_trv, acq := x_acq, bal := x_bal, upd := x_upd, wear := x_wear, clk := x_clk, hlm := x_hlm, lds := x_lds, can := x_can, sxt := x_sxt, azm := x_azm, alm := x_alm, pmc := x_pmc, dsp := x_dsp, pwr := x_pwr, bin := x_bin, rdn := x_rdn, pilot := x_pilot, marks := t.marks } := by
  refine Keeps.next (m' := m) (Nat.or_self m) h ?_
  constructor
  · rfl
  · exact id
  · intro _; exact Nat.le_refl _
  · intro _ _ _; rfl
  · intro b; rcases h_freeCtr with e | e
    · exact e
    · rw [b] at e; cases e
  · intro _; rfl
  · intro _; rfl
  · intro b; rcases h_lastRead with e | e
    · exact e
    · rw [b] at e; cases e
  · intro b; rcases h_ep with e | e
    · exact e
    · rw [b] at e; cases e
  · intro b; rcases h_time with e | e
    · exact e
    · rw [b] at e; cases e
  · intro b; rcases h_log with e | e
    · exact e
    · rw [b] at e; cases e
  · intro b; rcases h_host with e | e
    · exact e
    · rw [b] at e; cases e
  · intro b; rcases h_trv with e | e
    · exact e
    · rw [b] at e; cases e
  · intro b; rcases h_acq with e | e
    · exact e
    · rw [b] at e; cases e
  · intro b; rcases h_bal with e | e
    · exact e
    · rw [b] at e; cases e
  · intro b; rcases h_upd with e | e
    · exact e
    · rw [b] at e; cases e
  · intro b; rcases h_wear with e | e
    · exact e
    · rw [b] at e; cases e
  · intro b; rcases h_clk with e | e
    · exact e
    · rw [b] at e; cases e
  · intro b; rcases h_hlm with e | e
    · exact e
    · rw [b] at e; cases e
  · intro b; rcases h_lds with e | e
    · exact e
    · rw [b] at e; cases e
  · intro b; rcases h_can with e | e
    · exact e
    · rw [b] at e; cases e
  · intro b; rcases h_sxt with e | e
    · exact e
    · rw [b] at e; cases e
  · intro b; rcases h_azm with e | e
    · exact e
    · rw [b] at e; cases e
  · intro b; rcases h_alm with e | e
    · exact e
    · rw [b] at e; cases e
  · intro b; rcases h_pmc with e | e
    · exact e
    · rw [b] at e; cases e
  · intro b; rcases h_dsp with e | e
    · exact e
    · rw [b] at e; cases e
  · intro b; rcases h_pwr with e | e
    · exact e
    · rw [b] at e; cases e
  · intro b; rcases h_bin with e | e
    · exact e
    · rw [b] at e; cases e
  · intro b; rcases h_rdn with e | e
    · exact e
    · rw [b] at e; cases e
  · intro b; rcases h_pilot with e | e
    · exact e
    · rw [b] at e; cases e

theorem Keeps.ite {m : Nat} {s t u : State} {c : Prop} [Decidable c] (h : Keeps m s t) (k : Keeps m s u) :
    Keeps m s (if c then t else u) := by
  split <;> assumption

theorem Keeps.mk_freeCtr {m : Nat} {s t : State} {x : Nat} (hm : m ||| 1 = m) (h : Keeps m s t) : Keeps m s { t with freeCtr := x } :=
  Keeps.next hm h (by constructor <;> (try intro b) <;> first | rfl | exact b | exact Nat.le_refl _ | exact fun _ _ => rfl | exact absurd b (by decide))

theorem Keeps.mk_lastRead {m : Nat} {s t : State} {x : Store} (hm : m ||| 8 = m) (h : Keeps m s t) : Keeps m s { t with lastRead := x } :=
  Keeps.next hm h (by constructor <;> (try intro b) <;> first | rfl | exact b | exact Nat.le_refl _ | exact fun _ _ => rfl | exact absurd b (by decide))

theorem Keeps.mk_ep {m : Nat} {s t : State} {x : EpochSt} (hm : m ||| 16 = m) (h : Keeps m s t) : Keeps m s { t with ep := x } :=
  Keeps.next hm h (by constructor <;> (try intro b) <;> first | rfl | exact b | exact Nat.le_refl _ | exact fun _ _ => rfl | exact absurd b (by decide))

theorem Keeps.mk_time {m : Nat} {s t : State} {x : TimeSt} (hm : m ||| 32 = m) (h : Keeps m s t) : Keeps m s { t with time := x } :=
  Keeps.next hm h (by constructor <;> (try intro b) <;> first | rfl | exact b | exact Nat.le_refl _ | exact fun _ _ => rfl | exact absurd b (by decide))

theorem Keeps.mk_log {m : Nat} {s t : State} {x : LogSt} (hm : m ||| 64 = m) (h : Keeps m s t) : Keeps m s { t with log := x } :=
  Keeps.next hm h (by constructor <;> (try intro b) <;> first | rfl | exact b | exact Nat.le_refl _ | exact fun _ _ => rfl | exact absurd b (by decide))

theorem Keeps.mk_host {m : Nat} {s t : State} {x : HostSt} (hm : m ||| 128 = m) (h : Keeps m s t) : Keeps m s { t with host := x } :=
  Keeps.next hm h (by constructor <;> (try intro b) <;> first | rfl | exact b | exact Nat.le_refl _ | exact fun _ _ => rfl | exact absurd b (by decide))

theorem Keeps.mk_trv {m : Nat} {s t : State} {x : TrvSt} (hm : m ||| 256 = m) (h : Keeps m s t) : Keeps m s { t with trv := x } :=
  Keeps.next hm h (by constructor <;> (try intro b) <;> first | rfl | exact b | exact Nat.le_refl _ | exact fun _ _ => rfl | exact absurd b (by decide))

theorem Keeps.mk_acq {m : Nat} {s t : State} {x : AcqSt} (hm : m ||| 512 = m) (h : Keeps m s t) : Keeps m s { t with acq := x } :=
  Keeps.next hm h (by constructor <;> (try intro b) <;> first | rfl | exact b | exact Nat.le_refl _ | exact fun _ _ => rfl | exact absurd b (by decide))

theorem Keeps.mk_bal {m : Nat} {s t : State} {x : BalSt} (hm : m ||| 1024 = m) (h : Keeps m s t) : Keeps m s { t with bal := x } :=
  Keeps.next hm h (by constructor <;> (try intro b) <;> first | rfl | exact b | exact Nat.le_refl _ | exact fun _ _ => rfl | exact absurd b (by decide))

theorem Keeps.mk_upd {m : Nat} {s t : State} {x : UpdSt} (hm : m ||| 2048 = m) (h : Keeps m s t) : Keeps m s { t with upd := x } :=
  Keeps.next hm h (by constructor <;> (try intro b) <;> first | rfl | exact b | exact Nat.le_refl _ | exact fun _ _ => rfl | exact absurd b (by decide))

theorem Keeps.mk_wear {m : Nat} {s t : State} {x : WearSt} (hm : m ||| 4096 = m) (h : Keeps m s t) : Keeps m s { t with wear := x } :=
  Keeps.next hm h (by constructor <;> (try intro b) <;> first | rfl | exact b | exact Nat.le_refl _ | exact fun _ _ => rfl | exact absurd b (by decide))

theorem Keeps.mk_clk {m : Nat} {s t : State} {x : ClkSt} (hm : m ||| 8192 = m) (h : Keeps m s t) : Keeps m s { t with clk := x } :=
  Keeps.next hm h (by constructor <;> (try intro b) <;> first | rfl | exact b | exact Nat.le_refl _ | exact fun _ _ => rfl | exact absurd b (by decide))

theorem Keeps.mk_hlm {m : Nat} {s t : State} {x : HlmSt} (hm : m ||| 16384 = m) (h : Keeps m s t) : Keeps m s { t with hlm := x } :=
  Keeps.next hm h (by constructor <;> (try intro b) <;> first | rfl | exact b | exact Nat.le_refl _ | exact fun _ _ => rfl | exact absurd b (by decide))

theorem Keeps.mk_lds {m : Nat} {s t : State} {x : LdsSt} (hm : m ||| 32768 = m) (h : Keeps m s t) : Keeps m s { t with lds := x } :=
  Keeps.next hm h (by constructor <;> (try intro b) <;> first | rfl | exact b | exact Nat.le_refl _ | exact fun _ _ => rfl | exact absurd b (by decide))

theorem Keeps.mk_can {m : Nat} {s t : State} {x : Tab CanSt} (hm : m ||| 65536 = m) (h : Keeps m s t) : Keeps m s { t with can := x } :=
  Keeps.next hm h (by constructor <;> (try intro b) <;> first | rfl | exact b | exact Nat.le_refl _ | exact fun _ _ => rfl | exact absurd b (by decide))

theorem Keeps.mk_sxt {m : Nat} {s t : State} {x : SxtSt} (hm : m ||| 131072 = m) (h : Keeps m s t) : Keeps m s { t with sxt := x } :=
  Keeps.next hm h (by constructor <;> (try intro b) <;> first | rfl | exact b | exact Nat.le_refl _ | exact fun _ _ => rfl | exact absurd b (by decide))

theorem Keeps.mk_azm {m : Nat} {s t : State} {x : AzmSt} (hm : m ||| 262144 = m) (h : Keeps m s t) : Keeps m s { t with azm := x } :=
  Keeps.next hm h (by constructor <;> (try intro b) <;> first | rfl | exact b | exact Nat.le_refl _ | exact fun _ _ => rfl | exact absurd b (by decide))

theorem Keeps.mk_alm {m : Nat} {s t : State} {x : AlmSt} (hm : m ||| 524288 = m) (h : Keeps m s t) : Keeps m s { t with alm := x } :=
  Keeps.next hm h (by constructor <;> (try intro b) <;> first | rfl | exact b | exact Nat.le_refl _ | exact fun _ _ => rfl | exact absurd b (by decide))

theorem Keeps.mk_pmc {m : Nat} {s t : State} {x : PmcSt} (hm : m ||| 1048576 = m) (h : Keeps m s t) : Keeps m s { t with pmc := x } :=
  Keeps.next hm h (by constructor <;> (try intro b) <;> first | rfl | exact b | exact Nat.le_refl _ | exact fun _ _ => rfl | exact absurd b (by decide))

theorem Keeps.mk_dsp {m : Nat} {s t : State} {x : DspSt} (hm : m ||| 2097152 = m) (h : Keeps m s t) : Keeps m s { t with dsp := x } :=
  Keeps.next hm h (by constructor <;> (try intro b) <;> first | rfl | exact b | exact Nat.le_refl _ | exact fun _ _ => rfl | exact absurd b (by decide))

theorem Keeps.mk_pwr {m : Nat} {s t : State} {x : PwrSt} (hm : m ||| 4194304 = m) (h : Keeps m s t) : Keeps m s { t with pwr := x } :=
  Keeps.next hm h (by constructor <;> (try intro b) <;> first | rfl | exact b | exact Nat.le_refl _ | exact fun _ _ => rfl | exact absurd b (by decide))

theorem Keeps.mk_bin {m : Nat} {s t : State} {x : BinSt} (hm : m ||| 8388608 = m) (h : Keeps m s t) : Keeps m s { t with bin := x } :=
  Keeps.next hm h (by constructor <;> (try intro b) <;> first | rfl | exact b | exact Nat.le_refl _ | exact fun _ _ => rfl | exact absurd b (by decide))

theorem Keeps.mk_rdn {m : Nat} {s t : State} {x : RdnSt} (hm : m ||| 16777216 = m) (h : Keeps m s t) : Keeps m s { t with rdn := x } :=
  Keeps.next hm h (by constructor <;> (try intro b) <;> first | rfl | exact b | exact Nat.le_refl _ | exact fun _ _ => rfl | exact absurd b (by decide))

theorem Keeps.mk_pilot {m : Nat} {s t : State} {x : PilotSt} (hm : m ||| 33554432 = m) (h : Keeps m s t) : Keeps m s { t with pilot := x } :=
  Keeps.next hm h (by constructor <;> (try intro b) <;> first | rfl | exact b | exact Nat.le_refl _ | exact fun _ _ => rfl | exact absurd b (by decide))

/-- The note of which sticky bits set in this cycle is the model's own (R13): no mask counts it. -/
theorem Keeps.mk_marks {m : Nat} {s t : State} {x : MarkSt} (h : Keeps m s t) : Keeps m s { t with marks := x } :=
  Keeps.next (Nat.or_self m) h (by constructor <;> (try intro b) <;> first | rfl | exact b | exact Nat.le_refl _ | exact fun _ _ => rfl)

theorem Keeps.dite {m : Nat} {s : State} {c : Prop} [Decidable c] {t : c → State} {u : ¬c → State} (h : ∀ x, Keeps m s (t x))
    (k : ∀ x, Keeps m s (u x)) : Keeps m s (if x : c then t x else u x) := by
  split
  · exact h _
  · exact k _

theorem Keeps.ite2 {m : Nat} {s : State} {α : Type} {t u : α × State} {c : Prop} [Decidable c] (h : Keeps m s t.2) (k : Keeps m s u.2) :
    Keeps m s (if c then t else u).2 := by
  split <;> assumption

theorem Keeps.ite1 {m : Nat} {s : State} {α : Type} {t u : State × α} {c : Prop} [Decidable c] (h : Keeps m s t.1) (k : Keeps m s u.1) :
    Keeps m s (if c then t else u).1 := by
  split <;> assumption

theorem Keeps.foldl {m : Nat} {α : Type} {s t : State} {f : State → α → State} {l : List α}
    (hf : ∀ (t : State) (x : α), Keeps m t (f t x)) (h : Keeps m s t) : Keeps m s (l.foldl f t) := by
  induction l generalizing t with
  | nil => exact h
  | cons x l ih => exact ih (Keeps.next (Nat.or_self m) h (hf t x))

theorem Keeps.pair2 {m : Nat} {α : Type} {a : α} {s t : State} (h : Keeps m s t) : Keeps m s (a, t).2 := h

/-- A fold over pairs of an answer and a state. -/
theorem Keeps.foldl2 {m : Nat} {α β : Type} {s : State} {f : β × State → α → β × State} {x : β × State} {l : List α}
    (hf : ∀ (a : β × State) (y : α), Keeps m a.2 (f a y).2) (h : Keeps m s x.2) : Keeps m s (l.foldl f x).2 := by
  induction l generalizing x with
  | nil => exact h
  | cons y l ih => exact ih (Keeps.next (Nat.or_self m) h (hf x y))

/-- A unit that one mask sets, every mask that covers it sets. -/
theorem unitOn_sub {m a n : Nat} (hm : m ||| a = m) (h : bitOff a n = false) : bitOff m n = false := by
  cases e : bitOff m n
  · rfl
  · rw [bitOff_or hm e] at h; cases h

end Sys2Proof.Machine
end

