-- ==== Sys2Proof/Laws/Footprint.lean ====
section
/-! SUPPORT. From what a meaning can change to the footprint of the command: the masks of Keeps read as lists of parts and blocks. -/

namespace Sys2Proof.Machine

/-- Every part, in the order of its bit. -/
def Part.all : List Part :=
  [.freeCtr, .dial, .regs, .lastRead, .ep, .time, .log, .host, .trv, .acq, .bal, .upd, .wear, .clk, .hlm, .lds, .can, .sxt, .azm, .alm,
    .pmc, .dsp, .pwr, .bin, .rdn, .pilot]

theorem Part.mem_all (p : Part) : p ∈ Part.all := by cases p <;> decide

/-- The mask sets no part's bit outside the list. -/
def coversParts (m : Nat) (ps : List Part) : Bool := Part.all.all fun p => decide (p ∈ ps) || bitOff m p.bit

/-- The mask sets no block's bit outside the list. -/
def coversBlocks (m : Nat) (bs : List Block) : Bool :=
  bitOff m 27 && (List.range 256).all fun n => decide (n ∈ bs) || bitOff m (32 + n)

theorem blockOf_eq_unitOf (k : Nat) : blockOf k = unitOf k := rfl

theorem Keeps.same {m : Nat} {s u : State} (h : Keeps m s u) (p : Part) (hp : bitOff m p.bit = true) : p.same s u := by
  cases p
  · exact h.freeCtr hp
  · exact h.dial hp
  · exact h.regs hp
  · exact h.lastRead hp
  · exact h.ep hp
  · exact h.time hp
  · exact h.log hp
  · exact h.host hp
  · exact h.trv hp
  · exact h.acq hp
  · exact h.bal hp
  · exact h.upd hp
  · exact h.wear hp
  · exact h.clk hp
  · exact h.hlm hp
  · exact h.lds hp
  · exact h.can hp
  · exact h.sxt hp
  · exact h.azm hp
  · exact h.alm hp
  · exact h.pmc hp
  · exact h.dsp hp
  · exact h.pwr hp
  · exact h.bin hp
  · exact h.rdn hp
  · exact h.pilot hp

theorem Keeps.touches {m : Nat} {s u : State} (h : Keeps m s u) {ps : List Part} (hm : coversParts m ps = true) : Touches ps s u := by
  refine ⟨h.pending, fun p hp => h.same p ?_⟩
  have := List.all_eq_true.mp hm p (Part.mem_all p)
  simpa [hp] using this

theorem Keeps.onlyBlocks {m : Nat} {s u : State} (h : Keeps m s u) {bs : List Block} (hm : coversBlocks m bs = true) : OnlyBlocks bs s u := by
  simp only [coversBlocks, Bool.and_eq_true] at hm
  intro k hk
  refine h.word hm.1 k ?_
  have hlt : unitOf k < 256 := Nat.mod_lt _ (by decide)
  have := List.all_eq_true.mp hm.2 (unitOf k) (List.mem_range.mpr hlt)
  have hk' : unitOf k ∉ bs := hk
  simpa [hk'] using this

/-- The footprint of a command from what its meaning keeps. -/
theorem footprint_of_keeps {m : Nat} {c : Instr} {s u : State} {ps : List Part} {bs : List Block}
    (he : exec c s = .next u) (h : ∃ nxt : State, exec c s = .next nxt ∧ Keeps m s nxt) (hd : bitOff m 26 = true)
    (hp : coversParts m ps = true) (hb : coversBlocks m bs = true) : Footprint ps bs s u := by
  obtain ⟨v, hv, k⟩ := h
  rw [hv] at he
  cases he
  exact ⟨k.touches hp, k.onlyBlocks hb, k.dialMono hd⟩

/-- The frame of a command whose blocks may be left open (none: any register). -/
theorem frame_of_keeps {m : Nat} {c : Instr} {s u : State} {ps : List Part} {bs : Option (List Block)}
    (he : exec c s = .next u) (h : ∃ nxt : State, exec c s = .next nxt ∧ Keeps m s nxt) (hd : bitOff m 26 = true)
    (hp : coversParts m ps = true) (hb : (bs.all fun b => coversBlocks m b) = true) :
    Touches ps s u ∧ (∀ b : List Block, bs = some b → OnlyBlocks b s u) ∧ s.dial ≤ u.dial := by
  obtain ⟨v, hv, k⟩ := h
  rw [hv] at he
  cases he
  refine ⟨k.touches hp, ?_, k.dialMono hd⟩
  intro b e
  subst e
  exact k.onlyBlocks hb

end Sys2Proof.Machine
end

