-- ==== Sys2Proof/Laws/KeepsOps.lean ====
section
/-! SUPPORT. What each function of Machine/Ops.lean can change. -/

namespace Sys2Proof.Machine

theorem State.setWord_keeps {m n : Nat} {s u : State} {k : Nat} {v : Word} (hk : unitOf k = n) (hu : bitOff m (32 + n) = false)
    (hm : m ||| 4 = m) (h : Keeps m s u) : Keeps m s (u.setWord k v) := by
  refine Keeps.next (Nat.or_self m) h ?_
  constructor
  · rfl
  · exact fun h => Tab.wf_set regReset u.regs k v h
  · intro _; exact Nat.le_refl _
  · intro _ j hj
    refine Tab.get_set_other regReset u.regs v ?_
    intro e
    rw [e, hk, hu] at hj
    cases hj
  all_goals (intro b; first | rfl | exact absurd (bitOff_or hm b) (by decide))

theorem State.setWord_keepsAny {m : Nat} {s u : State} {k : Nat} {v : Word} (hm : m ||| 134217732 = m) (h : Keeps m s u) :
    Keeps m s (u.setWord k v) := by
  refine Keeps.next hm h ?_
  constructor
  · rfl
  · exact fun h => Tab.wf_set regReset u.regs k v h
  · intro _; exact Nat.le_refl _
  all_goals (intro b; first | rfl | exact absurd b (by decide))

theorem State.setFld_keeps {m n : Nat} {s u : State} {f : Fld} {v : Nat} (hk : unitOf f.reg = n) (hu : bitOff m (32 + n) = false)
    (hm : m ||| 4 = m) (h : Keeps m s u) : Keeps m s (u.setFld f v) := State.setWord_keeps hk hu hm h

theorem State.setFld_keepsAny {m : Nat} {s u : State} {f : Fld} {v : Nat} (hm : m ||| 134217732 = m) (h : Keeps m s u) :
    Keeps m s (u.setFld f v) := State.setWord_keepsAny hm h

theorem State.raise_keeps {m n : Nat} {s u : State} {f : Fld} (hk : unitOf f.reg = n) (hu : bitOff m (32 + n) = false)
    (hm : m ||| 4 = m) (h : Keeps m s u) : Keeps m s (u.raise f) := State.setWord_keeps hk hu hm (Keeps.mk_marks h)

theorem State.setFlag_keeps {m n : Nat} {s u : State} {f : Fld} {b : Bool} (hk : unitOf f.reg = n) (hu : bitOff m (32 + n) = false)
    (hm : m ||| 4 = m) (h : Keeps m s u) : Keeps m s (u.setFlag f b) := State.setWord_keeps hk hu hm h

theorem State.setHeld_keeps {m n : Nat} {s u : State} {f : Fld} {b : Bool} (hk : unitOf f.reg = n) (hu : bitOff m (32 + n) = false)
    (hm : m ||| 4 = m) (h : Keeps m s u) : Keeps m s (u.setHeld f b) := by
  unfold State.setHeld State.when
  split
  · exact State.setFld_keeps (f := f.live) hk hu hm (State.raise_keeps hk hu hm h)
  · refine State.setFld_keeps (f := f.live) hk hu hm ?_
    split
    · exact Keeps.mk_marks h
    · exact h

theorem State.when_keeps {m : Nat} {s u : State} {b : Bool} {f : State → State} (hf : ∀ t, Keeps m t (f t)) (h : Keeps m s u) :
    Keeps m s (u.when b f) := by
  unfold State.when
  split
  · exact Keeps.next (Nat.or_self m) h (hf u)
  · exact h

theorem State.raiseEv_keeps {m n : Nat} {s u : State} {f : Fld} (hk : unitOf f.reg = n) (hu : bitOff m (32 + n) = false)
    (hm : m ||| 4 = m) (h : Keeps m s u) : Keeps m s (u.raiseEv f) :=
  State.setFld_keeps (f := f.live) hk hu hm (State.raise_keeps hk hu hm h)

theorem State.logEvent_keeps {m : Nat} {s u : State} {code : Nat} {sev : Nat} {inst : Sys2Proof.Word} {p : List Sys2Proof.Word} (hm : m ||| 18014398509482052 = m) (h : Keeps m s u) :
    Keeps m s (State.logEvent u code sev inst p) := by
  refine Keeps.next hm h ?_
  clear hm h
  unfold State.logEvent
  refine Keeps.ite ?_ ?_
  · refine Keeps.mk_log rfl ?_
    exact Keeps.refl _ _
  · refine State.raiseEv_keeps (n := 22) (show unitOf 90112 = 22 from rfl) rfl rfl ?_
    refine State.setWord_keeps (n := 22) (show unitOf 90128 = 22 from rfl) rfl rfl ?_
    refine Keeps.mk_log rfl ?_
    exact Keeps.refl _ _

theorem State.satAdd_keeps {m n : Nat} {s u : State} {f : Fld} {v : Nat} (hk : unitOf f.reg = n) (hu : bitOff m (32 + n) = false)
    (hm : m ||| 4 = m) (h : Keeps m s u) : Keeps m s (u.satAdd f v) := State.setWord_keeps hk hu hm h

theorem State.freshNat_keeps {m : Nat} {s u : State} (hm : m ||| 1 = m) (h : Keeps m s u) :
    Keeps m s (State.freshNat u).2 := by
  refine Keeps.next hm h ?_
  clear hm h
  unfold State.freshNat
  try dsimp only
  refine Keeps.mk_freeCtr rfl ?_
  exact Keeps.refl _ _

theorem State.sendMsix_keeps {m : Nat} {s u : State} {n : Nat} (hm : m ||| 128 = m) (h : Keeps m s u) :
    Keeps m s (State.sendMsix u n) := by
  refine Keeps.next hm h ?_
  clear hm h
  unfold State.sendMsix
  refine Keeps.ite ?_ ?_
  · refine Keeps.mk_host rfl ?_
    exact Keeps.refl _ _
  · exact Keeps.refl _ _

theorem State.irq_keeps {m : Nat} {s u : State} {n : Nat} (hm : m ||| 34359738500 = m) (h : Keeps m s u) :
    Keeps m s (State.irq u n) := by
  refine Keeps.next hm h ?_
  clear hm h
  unfold State.irq
  refine Keeps.ite ?_ ?_
  · refine State.sendMsix_keeps rfl ?_
    refine State.setFld_keeps (n := 3) (show unitOf 12292 = 3 from rfl) rfl rfl ?_
    exact Keeps.refl _ _
  · refine State.setFld_keeps (n := 3) (show unitOf 12292 = 3 from rfl) rfl rfl ?_
    exact Keeps.refl _ _

theorem State.doorbell_keeps {m : Nat} {s u : State} {n : Nat} (hm : m ||| 34359738500 = m) (h : Keeps m s u) :
    Keeps m s (State.doorbell u n) := by
  refine Keeps.next hm h ?_
  clear hm h
  unfold State.doorbell
  refine Keeps.ite ?_ ?_
  · exact Keeps.refl _ _
  · refine Keeps.ite ?_ ?_
    · refine State.irq_keeps rfl ?_
      refine State.setFld_keeps (n := 3) (show unitOf 12352 = 3 from rfl) rfl rfl ?_
      exact Keeps.refl _ _
    · refine State.setFld_keeps (n := 3) (show unitOf 12352 = 3 from rfl) rfl rfl ?_
      exact Keeps.refl _ _

theorem State.at_keeps {m : Nat} {s u : State} {t : Nat} (hm : m ||| 34 = m) (h : Keeps m s u) : Keeps m s (u.at t) := by
  refine Keeps.next hm h ?_
  unfold State.at
  split
  · exact Keeps.refl _ _
  · constructor
    · rfl
    · exact id
    · intro _; exact Nat.le_of_lt (Nat.lt_of_not_le (not_or.mp ‹_›).2)
    · intro _ _ _; rfl
    all_goals (intro b; first | rfl | exact absurd b (by decide))

theorem State.hostErr_keeps {m : Nat} {s u : State} {f : Sys2Proof.Machine.Fld} (hk : unitOf f.reg = 3) (hm : m ||| 34359738500 = m) (h : Keeps m s u) :
    Keeps m s (State.hostErr u f) := by
  refine Keeps.next hm h ?_
  clear hm h
  unfold State.hostErr
  refine State.irq_keeps rfl ?_
  refine State.raiseEv_keeps hk rfl rfl ?_
  exact Keeps.refl _ _

theorem State.setFldS_keeps {m n : Nat} {s u : State} {f : Fld} {v : Int} (hk : unitOf f.reg = n) (hu : bitOff m (32 + n) = false)
    (hm : m ||| 4 = m) (h : Keeps m s u) : Keeps m s (u.setFldS f v) := State.setWord_keeps hk hu hm h

end Sys2Proof.Machine
end

