-- ==== Sys2Proof/Laws/KeepsEpoch.lean ====
section
/-! SUPPORT. What each function of Machine/Epoch.lean can change. -/

namespace Sys2Proof.Machine

theorem State.setLock_keeps {m : Nat} {s u : State} {n : Nat} {o : Nat} (hm : m ||| 16 = m) (h : Keeps m s u) :
    Keeps m s (State.setLock u n o) := by
  refine Keeps.next hm h ?_
  clear hm h
  unfold State.setLock
  refine Keeps.mk_ep rfl ?_
  exact Keeps.refl _ _

theorem State.lockFree_keeps {m : Nat} {s u : State} {x1 : Nat} {n : Nat} (hm : m ||| 4294967316 = m) (h : Keeps m s u) :
    Keeps m s (State.lockFree u x1 n) := by
  refine Keeps.next hm h ?_
  clear hm h
  unfold State.lockFree
  refine Keeps.ite ?_ ?_
  · refine Keeps.mk_ep rfl ?_
    refine State.setLock_keeps rfl ?_
    exact Keeps.refl _ _
  · refine State.raiseEv_keeps (n := 0) (show unitOf 72 = 0 from rfl) rfl rfl ?_
    exact Keeps.refl _ _

theorem State.lockRelWrite_keeps {m : Nat} {s u : State} {x1 : Nat} {v : Sys2Proof.Word} (hm : m ||| 4294967316 = m) (h : Keeps m s u) :
    Keeps m s (State.lockRelWrite u x1 v) := by
  refine Keeps.next hm h ?_
  clear hm h
  unfold State.lockRelWrite
  refine Keeps.foldl (fun _ _ => ?_) ?_
  · refine State.lockFree_keeps rfl ?_
    exact Keeps.refl _ _
  · exact Keeps.refl _ _

theorem State.modEpoch_keeps {m : Nat} {s u : State} {serial : Nat} {f : Sys2Proof.Machine.EpochRec → Sys2Proof.Machine.EpochRec} (hm : m ||| 16 = m) (h : Keeps m s u) :
    Keeps m s (State.modEpoch u serial f) := by
  refine Keeps.next hm h ?_
  clear hm h
  unfold State.modEpoch
  refine Keeps.ite ?_ ?_
  · refine Keeps.mk_ep rfl ?_
    exact Keeps.refl _ _
  · refine Keeps.mk_ep rfl ?_
    exact Keeps.refl _ _

theorem State.schedule_keeps {m : Nat} {s u : State} {serial : Nat} {items : List Sys2Proof.Machine.ItemId} (hm : m ||| 16 = m) (h : Keeps m s u) :
    Keeps m s (State.schedule u serial items) := by
  refine Keeps.next hm h ?_
  clear hm h
  unfold State.schedule
  refine State.modEpoch_keeps rfl ?_
  exact Keeps.refl _ _

theorem State.profileWrite_keeps {m : Nat} {s u : State} {v : Sys2Proof.Word} (hm : m ||| 4294967300 = m) (h : Keeps m s u) :
    Keeps m s (State.profileWrite u v) := by
  refine Keeps.next hm h ?_
  clear hm h
  unfold State.profileWrite
  refine Keeps.ite ?_ ?_
  · refine State.setFld_keeps (n := 0) (show unitOf 128 = 0 from rfl) rfl rfl ?_
    refine State.setFld_keeps (n := 0) (show unitOf 128 = 0 from rfl) rfl rfl ?_
    exact Keeps.refl _ _
  · refine State.raiseEv_keeps (n := 0) (show unitOf 72 = 0 from rfl) rfl rfl ?_
    exact Keeps.refl _ _

theorem State.epochctlWrite_keeps {m : Nat} {s u : State} {v : Sys2Proof.Word} (hm : m ||| 4294967300 = m) (h : Keeps m s u) :
    Keeps m s (State.epochctlWrite u v) := by
  refine Keeps.next hm h ?_
  clear hm h
  unfold State.epochctlWrite
  refine Keeps.ite ?_ ?_
  · refine State.setWord_keeps (n := 0) (show unitOf 64 = 0 from rfl) rfl rfl ?_
    exact Keeps.refl _ _
  · refine State.raiseEv_keeps (n := 0) (show unitOf 72 = 0 from rfl) rfl rfl ?_
    exact Keeps.refl _ _

theorem State.exchange_keeps {m : Nat} {s u : State} {e : Sys2Proof.Machine.EpochRec} {stale : List Sys2Proof.Machine.ItemId} {dsp : List (Nat × Sys2Proof.Word)} (hm : m ||| 4294967316 = m) (h : Keeps m s u) :
    Keeps m s (State.exchange u e stale dsp) := by
  refine Keeps.next hm h ?_
  clear hm h
  unfold State.exchange
  refine State.setWord_keeps (n := 0) (show unitOf 68 = 0 from rfl) rfl rfl ?_
  refine Keeps.mk_ep rfl ?_
  exact Keeps.refl _ _

theorem execLockRelease_keeps {t : Nat} {x1 : Sys2Proof.Master} {v : Sys2Proof.Word} (u : State) : ∃ nxt, execLockRelease t x1 v u = .next nxt ∧ Keeps 4294967350 u nxt := by
  refine ⟨_, rfl, ?_⟩
  refine State.lockRelWrite_keeps rfl ?_
  refine State.at_keeps rfl ?_
  exact Keeps.refl _ _

theorem State.takeContribution_keeps {m : Nat} {s u : State} {c : Sys2Proof.Machine.Contribution} (hm : m ||| 4294967316 = m) (h : Keeps m s u) :
    Keeps m s (State.takeContribution u c) := by
  refine Keeps.next hm h ?_
  clear hm h
  unfold State.takeContribution
  refine Keeps.ite ?_ ?_
  · refine Keeps.ite ?_ ?_
    · refine State.modEpoch_keeps rfl ?_
      exact Keeps.refl _ _
    · exact Keeps.refl _ _
  · try extract_lets -underBinder
    first | split | (dsimp +zetaDelta only; split)
    · refine Keeps.ite ?_ ?_
      · refine State.raiseEv_keeps (n := 0) (show unitOf 72 = 0 from rfl) rfl rfl ?_
        exact Keeps.refl _ _
      · refine State.modEpoch_keeps rfl ?_
        exact Keeps.refl _ _
    · refine Keeps.ite ?_ ?_
      · exact Keeps.refl _ _
      · refine State.raiseEv_keeps (n := 0) (show unitOf 72 = 0 from rfl) rfl rfl ?_
        exact Keeps.refl _ _

theorem execContributionArrival_keeps {t : Nat} {p : Sys2Proof.Producer} (u : State) : ∃ nxt, execContributionArrival t p u = .next nxt ∧ Keeps 4294967350 u nxt := by
  refine ⟨_, rfl, ?_⟩
  refine Keeps.foldl (fun _ _ => ?_) ?_
  · refine State.takeContribution_keeps rfl ?_
    exact Keeps.refl _ _
  · refine Keeps.mk_ep rfl ?_
    refine State.at_keeps rfl ?_
    exact Keeps.refl _ _

theorem State.contribute_keeps {m : Nat} {s u : State} {cs : List Sys2Proof.Machine.Contribution} (hm : m ||| 16 = m) (h : Keeps m s u) :
    Keeps m s (State.contribute u cs) := by
  refine Keeps.next hm h ?_
  clear hm h
  unfold State.contribute
  refine Keeps.mk_ep rfl ?_
  exact Keeps.refl _ _

theorem State.freeLocks_keeps {m : Nat} {s u : State} {x1 : Nat} (hm : m ||| 4294967316 = m) (h : Keeps m s u) :
    Keeps m s (State.freeLocks u x1) := by
  refine Keeps.next hm h ?_
  clear hm h
  unfold State.freeLocks
  refine Keeps.ite ?_ ?_
  · exact Keeps.refl _ _
  · refine State.raiseEv_keeps (n := 0) (show unitOf 72 = 0 from rfl) rfl rfl ?_
    refine Keeps.foldl (fun _ _ => ?_) ?_
    · refine State.setLock_keeps rfl ?_
      exact Keeps.refl _ _
    · exact Keeps.refl _ _

theorem State.lockRead_keeps {m : Nat} {s u : State} {x1 : Nat} {n : Nat} (hm : m ||| 16 = m) (h : Keeps m s u) :
    Keeps m s (State.lockRead u x1 n).2 := by
  refine Keeps.next hm h ?_
  clear hm h
  unfold State.lockRead
  refine Keeps.ite2 ?_ ?_
  · refine Keeps.pair2 ?_
    refine State.setLock_keeps rfl ?_
    exact Keeps.refl _ _
  · refine Keeps.pair2 ?_
    exact Keeps.refl _ _

theorem execLockAcquire_keeps {t : Nat} {x1 : Sys2Proof.Master} {n : Nat} (u : State) : ∃ nxt, execLockAcquire t x1 n u = .next nxt ∧ Keeps 58 u nxt := by
  refine ⟨_, rfl, ?_⟩
  refine Keeps.ite ?_ ?_
  · refine Keeps.mk_lastRead rfl ?_
    refine State.lockRead_keeps rfl ?_
    refine State.at_keeps rfl ?_
    exact Keeps.refl _ _
  · refine Keeps.mk_lastRead rfl ?_
    refine State.at_keeps rfl ?_
    exact Keeps.refl _ _

end Sys2Proof.Machine
end

