-- ==== Sys2Proof/Laws/KeepsTrvPort.lean ====
section
/-! SUPPORT. What each function of Machine/TrvPort.lean can change. -/

namespace Sys2Proof.Machine

theorem State.setRing_keeps {m : Nat} {s u : State} {r : Nat} {x : Sys2Proof.Machine.Ring} (hm : m ||| 256 = m) (h : Keeps m s u) :
    Keeps m s (State.setRing u r x) := by
  refine Keeps.next hm h ?_
  clear hm h
  unfold State.setRing
  refine Keeps.mk_trv rfl ?_
  exact Keeps.refl _ _

theorem State.modRing_keeps {m : Nat} {s u : State} {r : Nat} {f : Sys2Proof.Machine.Ring → Sys2Proof.Machine.Ring} (hm : m ||| 256 = m) (h : Keeps m s u) :
    Keeps m s (State.modRing u r f) := by
  refine Keeps.next hm h ?_
  clear hm h
  unfold State.modRing
  refine State.setRing_keeps rfl ?_
  exact Keeps.refl _ _

theorem State.setRingState_keeps {m : Nat} {s u : State} {r : Nat} {v : Sys2Proof.Machine.RingState} (hm : m ||| 68719476996 = m) (h : Keeps m s u) :
    Keeps m s (State.setRingState u r v) := by
  refine Keeps.next hm h ?_
  clear hm h
  unfold State.setRingState
  refine State.setFld_keeps (n := 4) (unit_TRV_RINGSTS _) rfl rfl ?_
  refine State.modRing_keeps rfl ?_
  exact Keeps.refl _ _

theorem State.setPort_keeps {m : Nat} {s u : State} {p : Nat} {x : Sys2Proof.Machine.Port} (hm : m ||| 256 = m) (h : Keeps m s u) :
    Keeps m s (State.setPort u p x) := by
  refine Keeps.next hm h ?_
  clear hm h
  unfold State.setPort
  refine Keeps.mk_trv rfl ?_
  exact Keeps.refl _ _

theorem State.portKick_keeps {m : Nat} {s u : State} {p : Nat} (hm : m ||| 256 = m) (h : Keeps m s u) :
    Keeps m s (State.portKick u p) := by
  refine Keeps.next hm h ?_
  clear hm h
  unfold State.portKick
  try extract_lets -underBinder
  first | split | (dsimp +zetaDelta only; split)
  · exact Keeps.refl _ _
  · try extract_lets -underBinder
    first | split | (dsimp +zetaDelta only; split)
    · extract_lets -merge -useContext -underBinder y1 y2
      refine Keeps.next (t := y2) (Nat.or_self _) ?_ ?_
      · refine State.setPort_keeps rfl ?_
        exact Keeps.refl _ _
      · clear_value y2
        try extract_lets -underBinder
        first | split | (dsimp +zetaDelta only; split)
        · refine State.modRing_keeps rfl ?_
          exact Keeps.refl _ _
        · exact Keeps.refl _ _
    · try extract_lets -underBinder
      first | split | (dsimp +zetaDelta only; split)
      · refine Keeps.ite ?_ ?_
        · refine State.setPort_keeps rfl ?_
          exact Keeps.refl _ _
        · exact Keeps.refl _ _
      · exact Keeps.refl _ _

theorem State.modPort_keeps {m : Nat} {s u : State} {p : Nat} {f : Sys2Proof.Machine.Port → Sys2Proof.Machine.Port} (hm : m ||| 256 = m) (h : Keeps m s u) :
    Keeps m s (State.modPort u p f) := by
  refine Keeps.next hm h ?_
  clear hm h
  unfold State.modPort
  refine State.setPort_keeps rfl ?_
  exact Keeps.refl _ _

theorem State.portQueue_keeps {m : Nat} {s u : State} {p : Nat} {f : Sys2Proof.Frame} (hm : m ||| 256 = m) (h : Keeps m s u) :
    Keeps m s (State.portQueue u p f) := by
  refine Keeps.next hm h ?_
  clear hm h
  unfold State.portQueue
  refine Keeps.ite ?_ ?_
  · exact Keeps.refl _ _
  · refine State.portKick_keeps rfl ?_
    refine State.modPort_keeps rfl ?_
    exact Keeps.refl _ _

theorem State.portSend_keeps {m : Nat} {s u : State} {p : Nat} {f : Sys2Proof.Frame} (hm : m ||| 68719476996 = m) (h : Keeps m s u) :
    Keeps m s (State.portSend u p f) := by
  refine Keeps.next hm h ?_
  clear hm h
  unfold State.portSend
  refine Keeps.ite ?_ ?_
  · refine State.raise_keeps (n := 4) (unit_TRV_PORTSTS _) rfl rfl ?_
    exact Keeps.refl _ _
  · try extract_lets -underBinder
    first | split | (dsimp +zetaDelta only; split)
    · refine State.raise_keeps (n := 4) (unit_TRV_PORTSTS _) rfl rfl ?_
      exact Keeps.refl _ _
    · refine State.portQueue_keeps rfl ?_
      exact Keeps.refl _ _

theorem State.sendCmd_keeps {m : Nat} {s u : State} {k : Nat} {use : Sys2Proof.Machine.CmdUse} {fn : Nat} {data : List Nat} (hm : m ||| 68719476996 = m) (h : Keeps m s u) :
    Keeps m s (State.sendCmd u k use fn data) := by
  refine Keeps.next hm h ?_
  clear hm h
  unfold State.sendCmd
  refine State.portSend_keeps rfl ?_
  refine State.modPort_keeps rfl ?_
  exact Keeps.refl _ _

theorem State.startLoad_keeps {m : Nat} {s u : State} {p : Nat} {hop : Nat} (hm : m ||| 256 = m) (h : Keeps m s u) :
    Keeps m s (State.startLoad u p hop) := by
  refine Keeps.next hm h ?_
  clear hm h
  unfold State.startLoad
  refine State.portKick_keeps rfl ?_
  refine State.modPort_keeps rfl ?_
  exact Keeps.refl _ _

theorem State.wearAdd_keeps {m : Nat} {s u : State} {sec : Nat} {item : Nat} {n : Nat} (hm : m ||| 4096 = m) (h : Keeps m s u) :
    Keeps m s (State.wearAdd u sec item n) := by
  refine Keeps.next hm h ?_
  clear hm h
  unfold State.wearAdd
  refine Keeps.mk_wear rfl ?_
  exact Keeps.refl _ _

theorem State.portCheck_keeps {m : Nat} {s u : State} {p : Nat} {crcOk : Bool} {f : Sys2Proof.Frame} (hm : m ||| 68719480836 = m) (h : Keeps m s u) :
    Keeps m s (State.portCheck u p crcOk f).2 := by
  refine Keeps.next hm h ?_
  clear hm h
  unfold State.portCheck
  refine Keeps.ite2 ?_ ?_
  · refine Keeps.pair2 ?_
    refine State.wearAdd_keeps rfl ?_
    refine State.satAdd_keeps (n := 4) (unit_TRV_PORTSTS _) rfl rfl ?_
    exact Keeps.refl _ _
  · refine Keeps.ite2 ?_ ?_
    · refine Keeps.pair2 ?_
      refine State.satAdd_keeps (n := 4) (unit_TRV_PORTSTS _) rfl rfl ?_
      exact Keeps.refl _ _
    · refine Keeps.pair2 ?_
      exact Keeps.refl _ _

theorem State.setKnown_keeps {m : Nat} {s u : State} {k : Nat} {x : Sys2Proof.Machine.TileKnown} (hm : m ||| 256 = m) (h : Keeps m s u) :
    Keeps m s (State.setKnown u k x) := by
  refine Keeps.next hm h ?_
  clear hm h
  unfold State.setKnown
  refine Keeps.mk_trv rfl ?_
  exact Keeps.refl _ _

theorem State.portSendBody_keeps {m : Nat} {s u : State} {p : Nat} {hop : Nat} {b : Sys2Proof.Body} (hm : m ||| 68719476996 = m) (h : Keeps m s u) :
    Keeps m s (State.portSendBody u p hop b) := by
  refine Keeps.next hm h ?_
  clear hm h
  unfold State.portSendBody
  refine State.portSend_keeps rfl ?_
  refine State.modPort_keeps rfl ?_
  exact Keeps.refl _ _

theorem State.loadTile_keeps {m : Nat} {s u : State} {k : Nat} (hm : m ||| 256 = m) (h : Keeps m s u) :
    Keeps m s (State.loadTile u k) := by
  refine Keeps.next hm h ?_
  clear hm h
  unfold State.loadTile
  refine State.startLoad_keeps rfl ?_
  exact Keeps.refl _ _

theorem State.modKnown_keeps {m : Nat} {s u : State} {k : Nat} {f : Sys2Proof.Machine.TileKnown → Sys2Proof.Machine.TileKnown} (hm : m ||| 256 = m) (h : Keeps m s u) :
    Keeps m s (State.modKnown u k f) := by
  refine Keeps.next hm h ?_
  clear hm h
  unfold State.modKnown
  refine State.setKnown_keeps rfl ?_
  exact Keeps.refl _ _

end Sys2Proof.Machine
end

