-- ==== Sys2Proof/Laws/KeepsAcq.lean ====
section
/-! SUPPORT. What each function of Machine/Acq.lean can change. -/

namespace Sys2Proof.Machine

theorem State.modBalSlot_keeps {m : Nat} {s u : State} {k : Nat} {f : Sys2Proof.Machine.BalSlot → Sys2Proof.Machine.BalSlot} (hm : m ||| 1024 = m) (h : Keeps m s u) :
    Keeps m s (State.modBalSlot u k f) := by
  refine Keeps.next hm h ?_
  clear hm h
  unfold State.modBalSlot
  refine Keeps.mk_bal rfl ?_
  exact Keeps.refl _ _

theorem State.suspRefresh_keeps {m : Nat} {s u : State} {k : Nat} (hm : m ||| 35184372089860 = m) (h : Keeps m s u) :
    Keeps m s (State.suspRefresh u k) := by
  refine Keeps.next hm h ?_
  clear hm h
  unfold State.suspRefresh
  refine State.setHeld_keeps (n := 13) (show unitOf 53252 = 13 from rfl) rfl rfl ?_
  refine State.setFlag_keeps (n := 13) (unit_BAL_TILE _) rfl rfl ?_
  refine State.modBalSlot_keeps rfl ?_
  exact Keeps.refl _ _

theorem State.sendBalset_keeps {m : Nat} {s u : State} {k : Nat} {s0 : Nat} {fin : Option Nat} {mask : Nat} (hm : m ||| 35253091566852 = m) (h : Keeps m s u) :
    Keeps m s (State.sendBalset u k s0 fin mask) := by
  refine Keeps.next hm h ?_
  clear hm h
  unfold State.sendBalset
  refine Keeps.ite ?_ ?_
  · refine State.sendCmd_keeps rfl ?_
    refine State.setFld_keeps (n := 13) (unit_BAL_TILE _) rfl rfl ?_
    refine State.modBalSlot_keeps rfl ?_
    exact Keeps.refl _ _
  · exact Keeps.refl _ _

theorem State.setAcqSlot_keeps {m : Nat} {s u : State} {k : Nat} {x : Sys2Proof.Machine.AcqSlot} (hm : m ||| 512 = m) (h : Keeps m s u) :
    Keeps m s (State.setAcqSlot u k x) := by
  refine Keeps.next hm h ?_
  clear hm h
  unfold State.setAcqSlot
  refine Keeps.mk_acq rfl ?_
  exact Keeps.refl _ _

theorem State.owStart_keeps {m : Nat} {s u : State} {k : Nat} {use : Sys2Proof.Machine.OwUse} {mask : Nat} (hm : m ||| 35253091567364 = m) (h : Keeps m s u) :
    Keeps m s (State.owStart u k use mask) := by
  refine Keeps.next hm h ?_
  clear hm h
  unfold State.owStart
  refine State.suspRefresh_keeps rfl ?_
  refine State.when_keeps (fun _ => ?_) ?_
  · refine State.sendBalset_keeps rfl ?_
    exact Keeps.refl _ _
  · refine State.sendCmd_keeps rfl ?_
    refine State.setAcqSlot_keeps rfl ?_
    exact Keeps.refl _ _

theorem State.balTake_keeps {m : Nat} {s u : State} (hm : m ||| 1024 = m) (h : Keeps m s u) :
    Keeps m s (State.balTake u) := by
  refine Keeps.next hm h ?_
  clear hm h
  unfold State.balTake
  refine Keeps.mk_bal rfl ?_
  exact Keeps.refl _ _

theorem State.acqNewEpoch_keeps {m : Nat} {s u : State} {serial : Nat} {seq : Nat} (hm : m ||| 512 = m) (h : Keeps m s u) :
    Keeps m s (State.acqNewEpoch u serial seq) := by
  refine Keeps.next hm h ?_
  clear hm h
  unfold State.acqNewEpoch
  refine Keeps.mk_acq rfl ?_
  exact Keeps.refl _ _

theorem State.owSchedule_keeps {m : Nat} {s u : State} {k : Nat} (hm : m ||| 35253091567364 = m) (h : Keeps m s u) :
    Keeps m s (State.owSchedule u k) := by
  refine Keeps.next hm h ?_
  clear hm h
  unfold State.owSchedule
  refine Keeps.ite ?_ ?_
  · exact Keeps.refl _ _
  · refine Keeps.ite ?_ ?_
    · refine Keeps.ite ?_ ?_
      · refine State.owStart_keeps rfl ?_
        exact Keeps.refl _ _
      · refine State.owStart_keeps rfl ?_
        exact Keeps.refl _ _
    · refine Keeps.ite ?_ ?_
      · exact Keeps.refl _ _
      · refine State.owStart_keeps rfl ?_
        exact Keeps.refl _ _

theorem State.modAcqSlot_keeps {m : Nat} {s u : State} {k : Nat} {f : Sys2Proof.Machine.AcqSlot → Sys2Proof.Machine.AcqSlot} (hm : m ||| 512 = m) (h : Keeps m s u) :
    Keeps m s (State.modAcqSlot u k f) := by
  refine Keeps.next hm h ?_
  clear hm h
  unfold State.modAcqSlot
  refine State.setAcqSlot_keeps rfl ?_
  exact Keeps.refl _ _

theorem State.actOnClass_keeps {m : Nat} {s u : State} {k : Nat} {run : Nat} {c : Sys2Proof.Machine.OwClass} {codes : List Nat} (hm : m ||| 35527977862916 = m) (h : Keeps m s u) :
    Keeps m s (State.actOnClass u k run c codes) := by
  refine Keeps.next hm h ?_
  clear hm h
  unfold State.actOnClass
  refine Keeps.ite ?_ ?_
  · exact Keeps.refl _ _
  · try extract_lets -underBinder
    first | split | (dsimp +zetaDelta only; split)
    · exact Keeps.refl _ _
    · refine Keeps.ite ?_ ?_
      · exact Keeps.refl _ _
      · refine State.owSchedule_keeps rfl ?_
        refine State.raiseEv_keeps (n := 6) (show unitOf 24580 = 6 from rfl) rfl rfl ?_
        refine State.setFld_keeps (n := 6) (unit_ACQ_OWSUS _) rfl rfl ?_
        exact Keeps.refl _ _
    · refine Keeps.mk_bin rfl ?_
      refine State.raiseEv_keeps (n := 6) (show unitOf 24580 = 6 from rfl) rfl rfl ?_
      refine State.modAcqSlot_keeps rfl ?_
      exact Keeps.refl _ _
    · refine State.modAcqSlot_keeps rfl ?_
      exact Keeps.refl _ _
    · refine State.modAcqSlot_keeps rfl ?_
      exact Keeps.refl _ _

theorem State.checkTile_keeps {m : Nat} {s u : State} {k : Nat} {target : Nat} {r : Sys2Proof.Machine.SnaprRec} (hm : m ||| 35527977862916 = m) (h : Keeps m s u) :
    Keeps m s (State.checkTile u k target r) := by
  refine Keeps.next hm h ?_
  clear hm h
  unfold State.checkTile
  refine Keeps.ite ?_ ?_
  · refine State.setAcqSlot_keeps rfl ?_
    exact Keeps.refl _ _
  · refine State.actOnClass_keeps rfl ?_
    refine State.when_keeps (fun _ => ?_) ?_
    · refine State.raiseEv_keeps (n := 6) (show unitOf 24580 = 6 from rfl) rfl rfl ?_
      exact Keeps.refl _ _
    · refine State.setAcqSlot_keeps rfl ?_
      exact Keeps.refl _ _

theorem State.modPosAcc_keeps {m : Nat} {s u : State} {p : Nat} {f : Sys2Proof.Machine.PosAcc → Sys2Proof.Machine.PosAcc} (hm : m ||| 512 = m) (h : Keeps m s u) :
    Keeps m s (State.modPosAcc u p f) := by
  refine Keeps.next hm h ?_
  clear hm h
  unfold State.modPosAcc
  refine Keeps.mk_acq rfl ?_
  exact Keeps.refl _ _

theorem State.readCell_keeps {m : Nat} {s u : State} {k : Nat} {target : Nat} {bt : Bool} {r : Sys2Proof.Machine.SnaprRec} {mask : Nat} {j : Nat} (hm : m ||| 274877907460 = m) (h : Keeps m s u) :
    Keeps m s (State.readCell u k target bt r mask j) := by
  refine Keeps.next hm h ?_
  clear hm h
  unfold State.readCell
  refine State.modPosAcc_keeps rfl ?_
  refine State.when_keeps (fun _ => ?_) ?_
  · refine State.raiseEv_keeps (n := 6) (show unitOf 24580 = 6 from rfl) rfl rfl ?_
    exact Keeps.refl _ _
  · exact Keeps.refl _ _

theorem State.owAbandon_keeps {m : Nat} {s u : State} {k : Nat} (hm : m ||| 35253091567364 = m) (h : Keeps m s u) :
    Keeps m s (State.owAbandon u k) := by
  refine Keeps.next hm h ?_
  clear hm h
  unfold State.owAbandon
  refine State.suspRefresh_keeps rfl ?_
  refine State.owSchedule_keeps rfl ?_
  refine State.modAcqSlot_keeps rfl ?_
  exact Keeps.refl _ _

theorem State.owWire_keeps {m : Nat} {s u : State} {k : Nat} {w : Nat} {ok : Bool} (hm : m ||| 274877911044 = m) (h : Keeps m s u) :
    Keeps m s (State.owWire u k w ok) := by
  refine Keeps.next hm h ?_
  clear hm h
  unfold State.owWire
  extract_lets -merge -useContext -underBinder y1 y2 y3 y4
  refine Keeps.next (t := y4) (Nat.or_self _) ?_ ?_
  · refine State.setFld_keeps (n := 6) (unit_ACQ_OWSUS _) rfl rfl ?_
    exact Keeps.refl _ _
  · clear_value y4
    refine Keeps.ite ?_ ?_
    · refine State.setFld_keeps (n := 6) (unit_ACQ_OWCNF _) rfl rfl ?_
      exact Keeps.refl _ _
    · refine State.when_keeps (fun _ => ?_) ?_
      · refine State.wearAdd_keeps rfl ?_
        exact Keeps.refl _ _
      · refine State.setFld_keeps (n := 6) (unit_ACQ_OWCNF _) rfl rfl ?_
        exact Keeps.refl _ _

theorem State.owDecide_keeps {m : Nat} {s u : State} {k : Nat} {x : Sys2Proof.Machine.OwTest} {now : List Nat} (hm : m ||| 18049926478960452 = m) (h : Keeps m s u) :
    Keeps m s (State.owDecide u k x now) := by
  refine Keeps.next hm h ?_
  clear hm h
  unfold State.owDecide
  try extract_lets -underBinder
  first | split | (dsimp +zetaDelta only; split)
  · refine State.owAbandon_keeps rfl ?_
    exact Keeps.refl _ _
  · refine Keeps.ite ?_ ?_
    · refine State.owAbandon_keeps rfl ?_
      exact Keeps.refl _ _
    · extract_lets -merge -useContext -underBinder y1 y2 y3
      refine Keeps.next (t := y3) (Nat.or_self _) ?_ ?_
      · refine State.modAcqSlot_keeps rfl ?_
        refine Keeps.foldl (fun _ _ => ?_) ?_
        · refine State.owWire_keeps rfl ?_
          exact Keeps.refl _ _
        · exact Keeps.refl _ _
      · clear_value y3
        refine Keeps.ite ?_ ?_
        · refine State.setFlag_keeps (n := 6) (show unitOf 24580 = 6 from rfl) rfl rfl ?_
          exact Keeps.refl _ _
        · refine State.logEvent_keeps rfl ?_
          refine State.raiseEv_keeps (n := 6) (show unitOf 24580 = 6 from rfl) rfl rfl ?_
          exact Keeps.refl _ _

theorem State.missCell_keeps {m : Nat} {s u : State} {k : Nat} {target : Nat} {j : Nat} (hm : m ||| 512 = m) (h : Keeps m s u) :
    Keeps m s (State.missCell u k target j) := by
  refine Keeps.next hm h ?_
  clear hm h
  unfold State.missCell
  refine State.modPosAcc_keeps rfl ?_
  exact Keeps.refl _ _

theorem State.closeTile_keeps {m : Nat} {s u : State} {c : Sys2Proof.Machine.Snap} {k : Nat} (hm : m ||| 18049926487349060 = m) (h : Keeps m s u) :
    Keeps m s (State.closeTile u c k) := by
  refine Keeps.next hm h ?_
  clear hm h
  unfold State.closeTile
  try extract_lets -underBinder
  first | split | (dsimp +zetaDelta only; split)
  · extract_lets -merge -useContext -underBinder y1 y2 y3 y4 y5 y6 y7 y8 y9
    refine Keeps.next (t := y2) (Nat.or_self _) ?_ ?_
    · refine State.checkTile_keeps rfl ?_
      refine State.setAcqSlot_keeps rfl ?_
      exact Keeps.refl _ _
    · clear_value y2
      refine Keeps.next (t := y8) (Nat.or_self _) ?_ ?_
      · refine State.when_keeps (fun _ => ?_) ?_
        · refine State.raiseEv_keeps (n := 6) (show unitOf 24580 = 6 from rfl) rfl rfl ?_
          exact Keeps.refl _ _
        · refine State.when_keeps (fun _ => ?_) ?_
          · refine State.raiseEv_keeps (n := 6) (show unitOf 24580 = 6 from rfl) rfl rfl ?_
            exact Keeps.refl _ _
          · refine State.modAcqSlot_keeps rfl ?_
            refine Keeps.foldl (fun _ _ => ?_) ?_
            · refine State.readCell_keeps rfl ?_
              exact Keeps.refl _ _
            · exact Keeps.refl _ _
      · clear_value y8
        refine State.suspRefresh_keeps rfl ?_
        refine State.owSchedule_keeps rfl ?_
        try extract_lets -underBinder
        first | split | (dsimp +zetaDelta only; split)
        · refine Keeps.ite ?_ ?_
          · refine State.owDecide_keeps rfl ?_
            exact Keeps.refl _ _
          · refine Keeps.ite ?_ ?_
            · refine State.modAcqSlot_keeps rfl ?_
              exact Keeps.refl _ _
            · exact Keeps.refl _ _
        · exact Keeps.refl _ _
  · refine Keeps.foldl (fun _ _ => ?_) ?_
    · refine State.missCell_keeps rfl ?_
      exact Keeps.refl _ _
    · refine Keeps.ite ?_ ?_
      · extract_lets -merge -useContext -underBinder y10 y11 y12
        refine Keeps.next (t := y12) (Nat.or_self _) ?_ ?_
        · refine State.when_keeps (fun _ => ?_) ?_
          · refine State.raiseEv_keeps (n := 6) (show unitOf 24580 = 6 from rfl) rfl rfl ?_
            exact Keeps.refl _ _
          · refine State.setAcqSlot_keeps rfl ?_
            exact Keeps.refl _ _
        · clear_value y12
          try extract_lets -underBinder
          first | split | (dsimp +zetaDelta only; split)
          · refine Keeps.ite ?_ ?_
            · refine State.owAbandon_keeps rfl ?_
              exact Keeps.refl _ _
            · exact Keeps.refl _ _
          · exact Keeps.refl _ _
      · exact Keeps.refl _ _

theorem State.modAgree_keeps {m : Nat} {s u : State} {c : Sys2Proof.Machine.Snap} (hm : m ||| 274877907460 = m) (h : Keeps m s u) :
    Keeps m s (State.modAgree u c) := by
  refine Keeps.next hm h ?_
  clear hm h
  unfold State.modAgree
  try extract_lets -underBinder
  first | split | (dsimp +zetaDelta only; split)
  · refine Keeps.ite ?_ ?_
    · refine State.setHeld_keeps (n := 6) (show unitOf 24580 = 6 from rfl) rfl rfl ?_
      refine Keeps.mk_acq rfl ?_
      exact Keeps.refl _ _
    · refine State.setHeld_keeps (n := 6) (show unitOf 24580 = 6 from rfl) rfl rfl ?_
      refine Keeps.mk_acq rfl ?_
      exact Keeps.refl _ _
  · exact Keeps.refl _ _

theorem State.setModSt_keeps {m : Nat} {s u : State} {n : Nat} {x : Sys2Proof.Machine.ModSt} (hm : m ||| 512 = m) (h : Keeps m s u) :
    Keeps m s (State.setModSt u n x) := by
  refine Keeps.next hm h ?_
  clear hm h
  unfold State.setModSt
  refine Keeps.mk_acq rfl ?_
  exact Keeps.refl _ _

theorem State.modFault_keeps {m : Nat} {s u : State} {n : Nat} (hm : m ||| 274877907460 = m) (h : Keeps m s u) :
    Keeps m s (State.modFault u n) := by
  refine Keeps.next hm h ?_
  clear hm h
  unfold State.modFault
  refine State.setHeld_keeps (n := 6) (unitOf_fldIte (show unitOf 24580 = 6 from rfl) (show unitOf 24580 = 6 from rfl)) rfl rfl ?_
  refine State.setModSt_keeps rfl ?_
  exact Keeps.refl _ _

theorem State.modWatch_keeps {m : Nat} {s u : State} {n : Nat} {code : Option (Int × Bool)} (hm : m ||| 274877907460 = m) (h : Keeps m s u) :
    Keeps m s (State.modWatch u n code) := by
  refine Keeps.next hm h ?_
  clear hm h
  unfold State.modWatch
  extract_lets -merge -useContext -underBinder y1 y2 y3 y4 y5
  refine Keeps.next (t := y4) (Nat.or_self _) ?_ ?_
  · refine State.setModSt_keeps rfl ?_
    exact Keeps.refl _ _
  · clear_value y4
    refine Keeps.ite ?_ ?_
    · refine State.modFault_keeps rfl ?_
      exact Keeps.refl _ _
    · refine Keeps.ite ?_ ?_
      · refine State.setHeld_keeps (n := 6) (unitOf_fldIte (show unitOf 24580 = 6 from rfl) (show unitOf 24580 = 6 from rfl)) rfl rfl ?_
        refine State.setModSt_keeps rfl ?_
        exact Keeps.refl _ _
      · exact Keeps.refl _ _

theorem State.closeCurrent_keeps {m : Nat} {s u : State} {c : Sys2Proof.Machine.Snap} (hm : m ||| 274877907460 = m) (h : Keeps m s u) :
    Keeps m s (State.closeCurrent u c) := by
  refine Keeps.next hm h ?_
  clear hm h
  unfold State.closeCurrent
  refine State.modAgree_keeps rfl ?_
  refine State.modWatch_keeps rfl ?_
  refine State.modWatch_keeps rfl ?_
  refine Keeps.mk_acq rfl ?_
  exact Keeps.refl _ _

theorem State.acqDeliver_keeps {m : Nat} {s u : State} (hm : m ||| 528 = m) (h : Keeps m s u) :
    Keeps m s (State.acqDeliver u) := by
  refine Keeps.next hm h ?_
  clear hm h
  unfold State.acqDeliver
  extract_lets -merge -useContext -underBinder y1 y2 y3 y4 y5 y6 y7 y8
  refine Keeps.next (t := y4) (Nat.or_self _) ?_ ?_
  · refine Keeps.mk_acq rfl ?_
    exact Keeps.refl _ _
  · clear_value y4
    refine State.contribute_keeps rfl ?_
    exact Keeps.refl _ _

theorem State.acqClose_keeps {m : Nat} {s u : State} {c : Sys2Proof.Machine.Snap} (hm : m ||| 18049926487349076 = m) (h : Keeps m s u) :
    Keeps m s (State.acqClose u c) := by
  refine Keeps.next hm h ?_
  clear hm h
  unfold State.acqClose
  extract_lets -merge -useContext -underBinder y1 y2 y3 y4 y5 y6 y7 y8 y9 y10
  refine Keeps.next (t := y2) (Nat.or_self _) ?_ ?_
  · refine Keeps.mk_acq rfl ?_
    exact Keeps.refl _ _
  · clear_value y2
    refine Keeps.next (t := y3) (Nat.or_self _) ?_ ?_
    · try extract_lets -underBinder
      first | split | (dsimp +zetaDelta only; split)
      · refine Keeps.ite ?_ ?_
        · refine State.acqNewEpoch_keeps rfl ?_
          exact Keeps.refl _ _
        · exact Keeps.refl _ _
      · exact Keeps.refl _ _
    · clear_value y3
      refine Keeps.next (t := y7) (Nat.or_self _) ?_ ?_
      · refine Keeps.foldl (fun _ _ => ?_) ?_
        · refine Keeps.ite ?_ ?_
          · exact Keeps.refl _ _
          · refine State.closeTile_keeps rfl ?_
            exact Keeps.refl _ _
        · refine State.closeCurrent_keeps rfl ?_
          refine Keeps.mk_acq rfl ?_
          exact Keeps.refl _ _
      · clear_value y7
        refine Keeps.next (t := y10) (Nat.or_self _) ?_ ?_
        · refine Keeps.ite ?_ ?_
          · exact Keeps.refl _ _
          · refine Keeps.mk_acq rfl ?_
            exact Keeps.refl _ _
        · clear_value y10
          refine Keeps.ite ?_ ?_
          · refine State.acqDeliver_keeps rfl ?_
            exact Keeps.refl _ _
          · exact Keeps.refl _ _

theorem State.acqBoundary_keeps {m : Nat} {s u : State} {e : Sys2Proof.Machine.EpochRec} (hm : m ||| 528 = m) (h : Keeps m s u) :
    Keeps m s (State.acqBoundary u e) := by
  refine Keeps.next hm h ?_
  clear hm h
  unfold State.acqBoundary
  extract_lets -merge -useContext -underBinder y1 y2 y3 y4 y5
  refine Keeps.next (t := y4) (Nat.or_self _) ?_ ?_
  · refine Keeps.mk_acq rfl ?_
    exact Keeps.refl _ _
  · clear_value y4
    refine Keeps.ite ?_ ?_
    · exact Keeps.refl _ _
    · refine Keeps.ite ?_ ?_
      · refine State.acqDeliver_keeps rfl ?_
        refine State.schedule_keeps rfl ?_
        refine State.modEpoch_keeps rfl ?_
        exact Keeps.refl _ _
      · refine State.schedule_keeps rfl ?_
        refine State.modEpoch_keeps rfl ?_
        exact Keeps.refl _ _

theorem State.modSide_keeps {m : Nat} {s u : State} {c : Nat} {f : Sys2Proof.Machine.SxtSide → Sys2Proof.Machine.SxtSide} (hm : m ||| 131072 = m) (h : Keeps m s u) :
    Keeps m s (State.modSide u c f) := by
  refine Keeps.next hm h ?_
  clear hm h
  unfold State.modSide
  refine Keeps.mk_sxt rfl ?_
  exact Keeps.refl _ _

theorem State.takeSnapr_keeps {m : Nat} {s u : State} {k : Nat} {q : Nat} {len : Nat} {r : Sys2Proof.Machine.SnaprRec} (hm : m ||| 274877907460 = m) (h : Keeps m s u) :
    Keeps m s (State.takeSnapr u k q len r) := by
  refine Keeps.next hm h ?_
  clear hm h
  unfold State.takeSnapr
  refine Keeps.ite ?_ ?_
  · refine Keeps.mk_acq rfl ?_
    exact Keeps.refl _ _
  · refine State.when_keeps (fun _ => ?_) ?_
    · refine State.raiseEv_keeps (n := 6) (show unitOf 24580 = 6 from rfl) rfl rfl ?_
      exact Keeps.refl _ _
    · refine State.raiseEv_keeps (n := 6) (show unitOf 24580 = 6 from rfl) rfl rfl ?_
      exact Keeps.refl _ _

theorem State.serviceSlot_keeps {m : Nat} {s u : State} {k : Nat} (hm : m ||| 35184372221444 = m) (h : Keeps m s u) :
    Keeps m s (State.serviceSlot u k) := by
  refine Keeps.next hm h ?_
  clear hm h
  unfold State.serviceSlot
  refine Keeps.ite ?_ ?_
  · exact Keeps.refl _ _
  · refine Keeps.ite ?_ ?_
    · refine Keeps.foldl (fun _ _ => ?_) ?_
      · refine State.modSide_keeps rfl ?_
        exact Keeps.refl _ _
      · refine State.suspRefresh_keeps rfl ?_
        refine State.setAcqSlot_keeps rfl ?_
        exact Keeps.refl _ _
    · refine State.suspRefresh_keeps rfl ?_
      refine State.setAcqSlot_keeps rfl ?_
      refine Keeps.mk_acq rfl ?_
      exact Keeps.refl _ _

theorem State.serviceRing_keeps {m : Nat} {s u : State} {r : Nat} (hm : m ||| 35184372221444 = m) (h : Keeps m s u) :
    Keeps m s (State.serviceRing u r) := by
  refine Keeps.next hm h ?_
  clear hm h
  unfold State.serviceRing
  refine Keeps.foldl (fun _ _ => ?_) ?_
  · refine State.serviceSlot_keeps rfl ?_
    exact Keeps.refl _ _
  · exact Keeps.refl _ _

theorem execOwTestAbandon_keeps {t : Nat} {k : Nat} (u : State) : ∃ nxt, execOwTestAbandon t k u = .next nxt ∧ Keeps 35253091567398 u nxt := by
  refine ⟨_, rfl, ?_⟩
  try extract_lets -underBinder
  first | split | (dsimp +zetaDelta only; split)
  · refine Keeps.ite ?_ ?_
    · refine State.owAbandon_keeps rfl ?_
      refine State.at_keeps rfl ?_
      exact Keeps.refl _ _
    · refine State.at_keeps rfl ?_
      exact Keeps.refl _ _
  · refine State.at_keeps rfl ?_
    exact Keeps.refl _ _

theorem State.applySlots_keeps {m : Nat} {s u : State} (hm : m ||| 274877907460 = m) (h : Keeps m s u) :
    Keeps m s (State.applySlots u) := by
  refine Keeps.next hm h ?_
  clear hm h
  unfold State.applySlots
  refine State.setFlag_keeps (n := 6) (show unitOf 24580 = 6 from rfl) rfl rfl ?_
  refine Keeps.mk_acq rfl ?_
  refine Keeps.foldl (fun _ _ => ?_) ?_
  · extract_lets -merge -useContext -underBinder y1 y2 y3 y4
    refine Keeps.next (t := y2) (Nat.or_self _) ?_ ?_
    · refine State.setFld_keeps (n := 6) (unit_ACQ_OWSUS _) rfl rfl ?_
      exact Keeps.refl _ _
    · clear_value y2
      refine State.setAcqSlot_keeps rfl ?_
      refine State.setFld_keeps (n := 6) (unit_ACQ_OWCNF _) rfl rfl ?_
      exact Keeps.refl _ _
  · exact Keeps.refl _ _

theorem execOwTestWindowEnd_keeps {t : Nat} {k : Nat} (u : State) : ∃ nxt, execOwTestWindowEnd t k u = .next nxt ∧ Keeps 35253091567398 u nxt := by
  refine ⟨_, rfl, ?_⟩
  try extract_lets -underBinder
  first | split | (dsimp +zetaDelta only; split)
  · try extract_lets -underBinder
    first | split | (dsimp +zetaDelta only; split)
    · refine Keeps.ite ?_ ?_
      · refine State.suspRefresh_keeps rfl ?_
        refine State.owSchedule_keeps rfl ?_
        refine State.modAcqSlot_keeps rfl ?_
        refine State.at_keeps rfl ?_
        exact Keeps.refl _ _
      · refine State.at_keeps rfl ?_
        exact Keeps.refl _ _
    · refine State.at_keeps rfl ?_
      exact Keeps.refl _ _
  · refine State.at_keeps rfl ?_
    exact Keeps.refl _ _

theorem State.owRetest_keeps {m : Nat} {s u : State} {k : Nat} (hm : m ||| 35253091567364 = m) (h : Keeps m s u) :
    Keeps m s (State.owRetest u k) := by
  refine Keeps.next hm h ?_
  clear hm h
  unfold State.owRetest
  refine Keeps.ite ?_ ?_
  · refine State.owSchedule_keeps rfl ?_
    refine State.modAcqSlot_keeps rfl ?_
    exact Keeps.refl _ _
  · exact Keeps.refl _ _

theorem State.modcfgWrite_keeps {m : Nat} {s u : State} {v : Sys2Proof.Word} (hm : m ||| 274877907460 = m) (h : Keeps m s u) :
    Keeps m s (State.modcfgWrite u v) := by
  refine Keeps.next hm h ?_
  clear hm h
  unfold State.modcfgWrite
  extract_lets -merge -useContext -underBinder y1
  refine Keeps.next (t := y1) (Nat.or_self _) ?_ ?_
  · refine State.setWord_keeps (n := 6) (show unitOf 24592 = 6 from rfl) rfl rfl ?_
    exact Keeps.refl _ _
  · clear_value y1
    refine Keeps.ite ?_ ?_
    · exact Keeps.refl _ _
    · refine State.modFault_keeps rfl ?_
      refine State.modFault_keeps rfl ?_
      exact Keeps.refl _ _

theorem execModFault_keeps {t : Nat} {n : Nat} (u : State) : ∃ nxt, execModFault t n u = .next nxt ∧ Keeps 274877907494 u nxt := by
  refine ⟨_, rfl, ?_⟩
  refine State.modFault_keeps rfl ?_
  refine State.setModSt_keeps rfl ?_
  refine State.at_keeps rfl ?_
  exact Keeps.refl _ _

theorem State.acqSnap_keeps {m : Nat} {s u : State} {target : Nat} (hm : m ||| 343597384452 = m) (h : Keeps m s u) :
    Keeps m s (State.acqSnap u target).2 := by
  refine Keeps.next hm h ?_
  clear hm h
  unfold State.acqSnap
  refine Keeps.ite2 ?_ ?_
  · refine Keeps.pair2 ?_
    refine State.satAdd_keeps (n := 6) (show unitOf 24584 = 6 from rfl) rfl rfl ?_
    refine State.raiseEv_keeps (n := 6) (show unitOf 24580 = 6 from rfl) rfl rfl ?_
    exact Keeps.refl _ _
  · refine Keeps.pair2 ?_
    refine Keeps.foldl (fun _ _ => ?_) ?_
    · try extract_lets -underBinder
      first | split | (dsimp +zetaDelta only; split)
      · refine Keeps.ite ?_ ?_
        · refine State.modAcqSlot_keeps rfl ?_
          exact Keeps.refl _ _
        · exact Keeps.refl _ _
      · exact Keeps.refl _ _
    · refine Keeps.foldl (fun _ _ => ?_) ?_
      · refine Keeps.ite ?_ ?_
        · refine Keeps.foldl (fun _ _ => ?_) ?_
          · refine State.portSendBody_keeps rfl ?_
            exact Keeps.refl _ _
          · refine State.modRing_keeps rfl ?_
            exact Keeps.refl _ _
        · exact Keeps.refl _ _
      · refine State.setFld_keeps (n := 6) (show unitOf 24592 = 6 from rfl) rfl rfl ?_
        refine State.setFld_keeps (n := 6) (show unitOf 24584 = 6 from rfl) rfl rfl ?_
        refine Keeps.mk_acq rfl ?_
        exact Keeps.refl _ _

theorem State.armRead_keeps {m : Nat} {s u : State} {k : Nat} {armed : Bool} {crc : Nat} (hm : m ||| 256 = m) (h : Keeps m s u) :
    Keeps m s (State.armRead u k armed crc) := by
  refine Keeps.next hm h ?_
  clear hm h
  unfold State.armRead
  refine State.modKnown_keeps rfl ?_
  exact Keeps.refl _ _

theorem execSnaprReceive_keeps {t : Nat} {p : Nat} {crcOk : Bool} {f : Sys2Proof.Frame} (u : State) : ∃ nxt, execSnaprReceive t p crcOk f u = .next nxt ∧ Keeps 343597388582 u nxt := by
  refine ⟨_, rfl, ?_⟩
  refine Keeps.ite ?_ ?_
  · try extract_lets -underBinder
    first | split | (dsimp +zetaDelta only; split)
    · refine State.takeSnapr_keeps rfl ?_
      refine State.modKnown_keeps rfl ?_
      refine State.armRead_keeps rfl ?_
      refine State.portCheck_keeps rfl ?_
      refine State.at_keeps rfl ?_
      exact Keeps.refl _ _
    · refine State.portCheck_keeps rfl ?_
      refine State.at_keeps rfl ?_
      exact Keeps.refl _ _
  · try extract_lets -underBinder
    first | split | (dsimp +zetaDelta only; split)
    · refine State.when_keeps (fun _ => ?_) ?_
      · refine State.raiseEv_keeps (n := 6) (show unitOf 24580 = 6 from rfl) rfl rfl ?_
        exact Keeps.refl _ _
      · refine State.portCheck_keeps rfl ?_
        refine State.at_keeps rfl ?_
        exact Keeps.refl _ _
    · refine State.portCheck_keeps rfl ?_
      refine State.at_keeps rfl ?_
      exact Keeps.refl _ _

theorem State.refreshCap_keeps {m : Nat} {s u : State} (hm : m ||| 274877906948 = m) (h : Keeps m s u) :
    Keeps m s (State.refreshCap u) := by
  refine Keeps.next hm h ?_
  clear hm h
  unfold State.refreshCap
  refine State.setFld_keeps (n := 6) (show unitOf 24588 = 6 from rfl) rfl rfl ?_
  refine State.setFld_keeps (n := 6) (show unitOf 24588 = 6 from rfl) rfl rfl ?_
  exact Keeps.refl _ _

theorem State.slotcfgWrite_keeps {m : Nat} {s u : State} {v : Sys2Proof.Word} (hm : m ||| 343597383684 = m) (h : Keeps m s u) :
    Keeps m s (State.slotcfgWrite u v) := by
  refine Keeps.next hm h ?_
  clear hm h
  unfold State.slotcfgWrite
  refine Keeps.ite ?_ ?_
  · refine State.refreshCap_keeps rfl ?_
    refine State.setWord_keeps (n := 4) (show unitOf 16448 = 4 from rfl) rfl rfl ?_
    exact Keeps.refl _ _
  · exact Keeps.refl _ _

theorem State.sweepSlot_keeps {m : Nat} {s u : State} {k : Nat} (hm : m ||| 512 = m) (h : Keeps m s u) :
    Keeps m s (State.sweepSlot u k) := by
  refine Keeps.next hm h ?_
  clear hm h
  unfold State.sweepSlot
  refine State.modAcqSlot_keeps rfl ?_
  exact Keeps.refl _ _

theorem State.suspAll_keeps {m : Nat} {s u : State} (hm : m ||| 35184372089860 = m) (h : Keeps m s u) :
    Keeps m s (State.suspAll u) := by
  refine Keeps.next hm h ?_
  clear hm h
  unfold State.suspAll
  refine Keeps.foldl (fun _ _ => ?_) ?_
  · refine Keeps.ite ?_ ?_
    · exact Keeps.refl _ _
    · refine State.suspRefresh_keeps rfl ?_
      exact Keeps.refl _ _
  · exact Keeps.refl _ _

theorem State.owcmdWrite_keeps {m : Nat} {s u : State} {v : Sys2Proof.Word} (hm : m ||| 35527969474308 = m) (h : Keeps m s u) :
    Keeps m s (State.owcmdWrite u v) := by
  refine Keeps.next hm h ?_
  clear hm h
  unfold State.owcmdWrite
  extract_lets -merge -useContext -underBinder y1
  refine Keeps.next (t := y1) (Nat.or_self _) ?_ ?_
  · refine State.setFld_keeps (n := 6) (show unitOf 24640 = 6 from rfl) rfl rfl ?_
    exact Keeps.refl _ _
  · clear_value y1
    refine Keeps.ite ?_ ?_
    · refine State.owRetest_keeps rfl ?_
      exact Keeps.refl _ _
    · exact Keeps.refl _ _

theorem execOwRetestGo_keeps {t : Nat} {x1 : Sys2Proof.Master} {v : Sys2Proof.Word} (u : State) : ∃ nxt, execOwRetestGo t x1 v u = .next nxt ∧ Keeps 35527969474342 u nxt := by
  refine ⟨_, rfl, ?_⟩
  refine State.owcmdWrite_keeps rfl ?_
  refine State.at_keeps rfl ?_
  exact Keeps.refl _ _

theorem execModCodeReady_keeps {t : Nat} {n : Nat} {seq : Nat} {code : Int} (u : State) : ∃ nxt, execModCodeReady t n seq code u = .next nxt ∧ Keeps 546 u nxt := by
  refine ⟨_, rfl, ?_⟩
  refine Keeps.mk_acq rfl ?_
  refine State.at_keeps rfl ?_
  exact Keeps.refl _ _

theorem State.abandonRing_keeps {m : Nat} {s u : State} {r : Nat} (hm : m ||| 35253091567364 = m) (h : Keeps m s u) :
    Keeps m s (State.abandonRing u r) := by
  refine Keeps.next hm h ?_
  clear hm h
  unfold State.abandonRing
  refine Keeps.foldl (fun _ _ => ?_) ?_
  · refine Keeps.ite ?_ ?_
    · refine State.owAbandon_keeps rfl ?_
      exact Keeps.refl _ _
    · exact Keeps.refl _ _
  · exact Keeps.refl _ _

end Sys2Proof.Machine
end

