-- ==== Sys2Proof/Laws/KeepsAzmExc.lean ====
section
/-! SUPPORT. What each function of Machine/AzmExc.lean can change. -/

namespace Sys2Proof.Machine

theorem State.modAzm_keeps {m : Nat} {s u : State} {f : Sys2Proof.Machine.AzmSt → Sys2Proof.Machine.AzmSt} (hm : m ||| 262144 = m) (h : Keeps m s u) :
    Keeps m s (State.modAzm u f) := by
  refine Keeps.next hm h ?_
  clear hm h
  unfold State.modAzm
  refine Keeps.mk_azm rfl ?_
  exact Keeps.refl _ _

theorem State.azmStep_keeps {m : Nat} {s u : State} {old : Nat} (hm : m ||| 17592186306564 = m) (h : Keeps m s u) :
    Keeps m s (State.azmStep u old) := by
  refine Keeps.next hm h ?_
  clear hm h
  unfold State.azmStep
  extract_lets -merge -useContext -underBinder y1 y2 y3
  refine Keeps.next (t := y3) (Nat.or_self _) ?_ ?_
  · refine State.modAzm_keeps rfl ?_
    exact Keeps.refl _ _
  · clear_value y3
    refine Keeps.ite ?_ ?_
    · refine State.raiseEv_keeps (n := 12) (show unitOf 49156 = 12 from rfl) rfl rfl ?_
      refine State.satAdd_keeps (n := 12) (show unitOf 49164 = 12 from rfl) rfl rfl ?_
      exact Keeps.refl _ _
    · exact Keeps.refl _ _

theorem State.endBlocks_keeps {m : Nat} {s u : State} {w : Sys2Proof.Machine.AzmWin} {fin : Nat} (hm : m ||| 17592186306564 = m) (h : Keeps m s u) :
    Keeps m s (State.endBlocks u w fin) := by
  refine Keeps.next hm h ?_
  clear hm h
  unfold State.endBlocks
  refine State.satAdd_keeps (n := 12) (show unitOf 49160 = 12 from rfl) rfl rfl ?_
  refine State.modAzm_keeps rfl ?_
  exact Keeps.refl _ _

theorem State.azmShow_keeps {m : Nat} {s u : State} (hm : m ||| 17592186044420 = m) (h : Keeps m s u) :
    Keeps m s (State.azmShow u) := by
  refine Keeps.next hm h ?_
  clear hm h
  unfold State.azmShow
  extract_lets -merge -useContext -underBinder y1 y2
  refine Keeps.next (t := y2) (Nat.or_self _) ?_ ?_
  · refine State.setFlag_keeps (n := 12) (show unitOf 49160 = 12 from rfl) rfl rfl ?_
    refine State.setFld_keeps (n := 12) (show unitOf 49160 = 12 from rfl) rfl rfl ?_
    exact Keeps.refl _ _
  · clear_value y2
    try extract_lets -underBinder
    first | split | (dsimp +zetaDelta only; split)
    · refine State.setFld_keeps (n := 12) (show unitOf 49160 = 12 from rfl) rfl rfl ?_
      exact Keeps.refl _ _
    · exact Keeps.refl _ _

theorem State.dropBlocks_keeps {m : Nat} {s u : State} {w : Sys2Proof.Machine.AzmWin} {fin : Nat} (hm : m ||| 17592186306564 = m) (h : Keeps m s u) :
    Keeps m s (State.dropBlocks u w fin) := by
  refine Keeps.next hm h ?_
  clear hm h
  unfold State.dropBlocks
  extract_lets -merge -useContext -underBinder y1 y2 y3
  refine Keeps.next (t := y3) (Nat.or_self _) ?_ ?_
  · refine State.modAzm_keeps rfl ?_
    exact Keeps.refl _ _
  · clear_value y3
    refine Keeps.ite ?_ ?_
    · refine State.raiseEv_keeps (n := 12) (show unitOf 49156 = 12 from rfl) rfl rfl ?_
      refine State.satAdd_keeps (n := 12) (show unitOf 49164 = 12 from rfl) rfl rfl ?_
      exact Keeps.refl _ _
    · exact Keeps.refl _ _

theorem State.winEnd_keeps {m : Nat} {s u : State} {fin : Nat} {susp : Bool} (hm : m ||| 17592186306564 = m) (h : Keeps m s u) :
    Keeps m s (State.winEnd u fin susp) := by
  refine Keeps.next hm h ?_
  clear hm h
  unfold State.winEnd
  try extract_lets -underBinder
  first | split | (dsimp +zetaDelta only; split)
  · refine State.azmShow_keeps rfl ?_
    refine State.modAzm_keeps rfl ?_
    exact Keeps.refl _ _
  · refine State.azmShow_keeps rfl ?_
    refine State.modAzm_keeps rfl ?_
    refine State.dropBlocks_keeps rfl ?_
    refine State.endBlocks_keeps rfl ?_
    exact Keeps.refl _ _

theorem State.winStart_keeps {m : Nat} {s u : State} {n : Nat} {t0 : Nat} {len : Option Nat} {auto : Bool} (hm : m ||| 17592186306564 = m) (h : Keeps m s u) :
    Keeps m s (State.winStart u n t0 len auto) := by
  refine Keeps.next hm h ?_
  clear hm h
  unfold State.winStart
  refine State.azmShow_keeps rfl ?_
  refine State.setFld_keeps (n := 12) (show unitOf 49160 = 12 from rfl) rfl rfl ?_
  refine State.modAzm_keeps rfl ?_
  exact Keeps.refl _ _

theorem State.excRefuse_keeps {m : Nat} {s u : State} {code : Nat} (hm : m ||| 17592186044420 = m) (h : Keeps m s u) :
    Keeps m s (State.excRefuse u code) := by
  refine Keeps.next hm h ?_
  clear hm h
  unfold State.excRefuse
  refine State.raiseEv_keeps (n := 12) (show unitOf 49156 = 12 from rfl) rfl rfl ?_
  refine State.satAdd_keeps (n := 12) (show unitOf 49164 = 12 from rfl) rfl rfl ?_
  refine State.setFld_keeps (n := 12) (show unitOf 49160 = 12 from rfl) rfl rfl ?_
  exact Keeps.refl _ _

theorem State.azmProfile_keeps {m : Nat} {s u : State} {old : Nat} (hm : m ||| 17592186306564 = m) (h : Keeps m s u) :
    Keeps m s (State.azmProfile u old) := by
  refine Keeps.next hm h ?_
  clear hm h
  unfold State.azmProfile
  try extract_lets -underBinder
  first | split | (dsimp +zetaDelta only; split)
  · refine Keeps.ite ?_ ?_
    · refine State.winEnd_keeps rfl ?_
      exact Keeps.refl _ _
    · refine Keeps.ite ?_ ?_
      · refine State.raiseEv_keeps (n := 12) (show unitOf 49156 = 12 from rfl) rfl rfl ?_
        refine State.setFld_keeps (n := 12) (show unitOf 49160 = 12 from rfl) rfl rfl ?_
        refine State.winEnd_keeps rfl ?_
        exact Keeps.refl _ _
      · refine Keeps.ite ?_ ?_
        · refine State.winEnd_keeps rfl ?_
          exact Keeps.refl _ _
        · exact Keeps.refl _ _
  · refine State.azmShow_keeps rfl ?_
    refine State.modAzm_keeps rfl ?_
    exact Keeps.refl _ _

theorem State.excCut_keeps {m : Nat} {s u : State} (hm : m ||| 17592186306564 = m) (h : Keeps m s u) :
    Keeps m s (State.excCut u) := by
  refine Keeps.next hm h ?_
  clear hm h
  unfold State.excCut
  refine State.modAzm_keeps rfl ?_
  refine State.winEnd_keeps rfl ?_
  exact Keeps.refl _ _

theorem State.papplyTake_keeps {m : Nat} {s u : State} (hm : m ||| 17592186306564 = m) (h : Keeps m s u) :
    Keeps m s (State.papplyTake u) := by
  refine Keeps.next hm h ?_
  clear hm h
  unfold State.papplyTake
  refine Keeps.ite ?_ ?_
  · exact Keeps.refl _ _
  · extract_lets -merge -useContext -underBinder y1
    refine Keeps.next (t := y1) (Nat.or_self _) ?_ ?_
    · refine State.modAzm_keeps rfl ?_
      exact Keeps.refl _ _
    · clear_value y1
      try extract_lets -underBinder
      first | split | (dsimp +zetaDelta only; split)
      · refine State.raiseEv_keeps (n := 12) (show unitOf 49156 = 12 from rfl) rfl rfl ?_
        refine State.setFld_keeps (n := 12) (show unitOf 49168 = 12 from rfl) rfl rfl ?_
        refine State.setFld_keeps (n := 12) (show unitOf 49168 = 12 from rfl) rfl rfl ?_
        refine State.setFld_keeps (n := 12) (show unitOf 49168 = 12 from rfl) rfl rfl ?_
        exact Keeps.refl _ _
      · refine State.setWord_keeps (n := 12) (show unitOf 49168 = 12 from rfl) rfl rfl ?_
        refine State.modAzm_keeps rfl ?_
        exact Keeps.refl _ _

theorem State.azmctlWrite_keeps {m : Nat} {s u : State} {v : Sys2Proof.Word} (hm : m ||| 17592186306564 = m) (h : Keeps m s u) :
    Keeps m s (State.azmctlWrite u v) := by
  refine Keeps.next hm h ?_
  clear hm h
  unfold State.azmctlWrite
  extract_lets -merge -useContext -underBinder y1 y2
  refine Keeps.next (t := y2) (Nat.or_self _) ?_ ?_
  · refine State.when_keeps (fun _ => ?_) ?_
    · refine State.modAzm_keeps rfl ?_
      exact Keeps.refl _ _
    · refine State.setWord_keeps (n := 12) (show unitOf 49152 = 12 from rfl) rfl rfl ?_
      exact Keeps.refl _ _
  · clear_value y2
    refine Keeps.ite ?_ ?_
    · exact Keeps.refl _ _
    · refine State.excCut_keeps rfl ?_
      exact Keeps.refl _ _

theorem execExcWindowElapse_keeps {t : Nat} (u : State) : ∃ nxt, execExcWindowElapse t u = .next nxt ∧ Keeps 17592186306598 u nxt := by
  refine ⟨_, rfl, ?_⟩
  try extract_lets -underBinder
  first | split | (dsimp +zetaDelta only; split)
  · try extract_lets -underBinder
    first | split | (dsimp +zetaDelta only; split)
    · refine Keeps.ite ?_ ?_
      · refine State.modAzm_keeps rfl ?_
        refine State.winEnd_keeps rfl ?_
        refine State.at_keeps rfl ?_
        exact Keeps.refl _ _
      · refine State.at_keeps rfl ?_
        exact Keeps.refl _ _
    · refine State.at_keeps rfl ?_
      exact Keeps.refl _ _
  · refine State.at_keeps rfl ?_
    exact Keeps.refl _ _

theorem execAzmAutoStart_keeps {t : Nat} (u : State) : ∃ nxt, execAzmAutoStart t u = .next nxt ∧ Keeps 17592186306598 u nxt := by
  refine ⟨_, rfl, ?_⟩
  refine Keeps.ite ?_ ?_
  · refine Keeps.ite ?_ ?_
    · refine State.excRefuse_keeps rfl ?_
      refine State.at_keeps rfl ?_
      exact Keeps.refl _ _
    · refine State.winStart_keeps rfl ?_
      refine State.at_keeps rfl ?_
      exact Keeps.refl _ _
  · refine State.at_keeps rfl ?_
    exact Keeps.refl _ _

theorem State.azmClip_keeps {m : Nat} {s u : State} (hm : m ||| 262144 = m) (h : Keeps m s u) :
    Keeps m s (State.azmClip u) := by
  refine Keeps.next hm h ?_
  clear hm h
  unfold State.azmClip
  refine State.modAzm_keeps rfl ?_
  exact Keeps.refl _ _

theorem State.excStop_keeps {m : Nat} {s u : State} (hm : m ||| 17592186306564 = m) (h : Keeps m s u) :
    Keeps m s (State.excStop u) := by
  refine Keeps.next hm h ?_
  clear hm h
  unfold State.excStop
  refine Keeps.ite ?_ ?_
  · refine State.winEnd_keeps rfl ?_
    exact Keeps.refl _ _
  · refine Keeps.ite ?_ ?_
    · refine State.azmShow_keeps rfl ?_
      refine State.modAzm_keeps rfl ?_
      exact Keeps.refl _ _
    · exact Keeps.refl _ _

theorem State.excStart_keeps {m : Nat} {s u : State} {n : Nat} {ga : Nat} (hm : m ||| 17592186306564 = m) (h : Keeps m s u) :
    Keeps m s (State.excStart u n ga) := by
  refine Keeps.next hm h ?_
  clear hm h
  unfold State.excStart
  refine Keeps.ite ?_ ?_
  · refine State.excRefuse_keeps rfl ?_
    exact Keeps.refl _ _
  · extract_lets -merge -useContext -underBinder y1
    refine Keeps.next (t := y1) (Nat.or_self _) ?_ ?_
    · refine Keeps.ite ?_ ?_
      · refine State.winEnd_keeps rfl ?_
        exact Keeps.refl _ _
      · exact Keeps.refl _ _
    · clear_value y1
      refine State.winStart_keeps rfl ?_
      exact Keeps.refl _ _

end Sys2Proof.Machine
end

