-- ==== Sys2Proof/Laws/KeepsBal.lean ====
section
/-! SUPPORT. What each function of Machine/Bal.lean can change. -/

namespace Sys2Proof.Machine

theorem State.sendStop_keeps {m : Nat} {s u : State} {s0 : Nat} (hm : m ||| 35253091566852 = m) (h : Keeps m s u) :
    Keeps m s (State.sendStop u s0) := by
  refine Keeps.next hm h ?_
  clear hm h
  unfold State.sendStop
  refine Keeps.ite ?_ ?_
  · exact Keeps.refl _ _
  · refine Keeps.foldl (fun _ _ => ?_) ?_
    · refine State.sendBalset_keeps rfl ?_
      exact Keeps.refl _ _
    · exact Keeps.refl _ _

theorem State.nmaxRefresh_keeps {m : Nat} {s u : State} {k : Nat} (hm : m ||| 35184372089860 = m) (h : Keeps m s u) :
    Keeps m s (State.nmaxRefresh u k) := by
  refine Keeps.next hm h ?_
  clear hm h
  unfold State.nmaxRefresh
  refine State.setFld_keeps (n := 13) (unit_BAL_TILE _) rfl rfl ?_
  refine State.modBalSlot_keeps rfl ?_
  exact Keeps.refl _ _

theorem State.setHot_keeps {m : Nat} {s u : State} {k : Nat} {b : Bool} (hm : m ||| 35184372089860 = m) (h : Keeps m s u) :
    Keeps m s (State.setHot u k b) := by
  refine Keeps.next hm h ?_
  clear hm h
  unfold State.setHot
  refine State.setHeld_keeps (n := 13) (show unitOf 53252 = 13 from rfl) rfl rfl ?_
  refine State.setFlag_keeps (n := 13) (unit_BAL_TILE _) rfl rfl ?_
  refine State.modBalSlot_keeps rfl ?_
  exact Keeps.refl _ _

theorem State.dieTempRead_keeps {m : Nat} {s u : State} {k : Nat} {td : Int} (hm : m ||| 35184372089860 = m) (h : Keeps m s u) :
    Keeps m s (State.dieTempRead u k td) := by
  refine Keeps.next hm h ?_
  clear hm h
  unfold State.dieTempRead
  extract_lets -merge -useContext -underBinder y1 y2
  refine Keeps.next (t := y1) (Nat.or_self _) ?_ ?_
  · refine State.setFldS_keeps (n := 13) (unit_BAL_MAN _) rfl rfl ?_
    refine State.modBalSlot_keeps rfl ?_
    exact Keeps.refl _ _
  · clear_value y1
    refine State.nmaxRefresh_keeps rfl ?_
    refine Keeps.ite ?_ ?_
    · refine State.setHot_keeps rfl ?_
      exact Keeps.refl _ _
    · exact Keeps.refl _ _

theorem State.phaseShow_keeps {m : Nat} {s u : State} (hm : m ||| 35184372088836 = m) (h : Keeps m s u) :
    Keeps m s (State.phaseShow u) := by
  refine Keeps.next hm h ?_
  clear hm h
  unfold State.phaseShow
  refine State.setFld_keeps (n := 13) (show unitOf 53268 = 13 from rfl) rfl rfl ?_
  refine State.setFld_keeps (n := 13) (show unitOf 53268 = 13 from rfl) rfl rfl ?_
  exact Keeps.refl _ _

theorem State.sendMasks_keeps {m : Nat} {s u : State} {ph : Nat} {s0 : Nat} {fin : Option Nat} (hm : m ||| 35253091566852 = m) (h : Keeps m s u) :
    Keeps m s (State.sendMasks u ph s0 fin) := by
  refine Keeps.next hm h ?_
  clear hm h
  unfold State.sendMasks
  extract_lets -merge -useContext -underBinder y1 y2 y3
  refine Keeps.next (t := y2) (Nat.or_self _) ?_ ?_
  · refine Keeps.mk_bal rfl ?_
    exact Keeps.refl _ _
  · clear_value y2
    refine Keeps.next (t := y3) (Nat.or_self _) ?_ ?_
    · refine State.when_keeps (fun _ => ?_) ?_
      · refine State.raiseEv_keeps (n := 13) (show unitOf 53252 = 13 from rfl) rfl rfl ?_
        exact Keeps.refl _ _
      · exact Keeps.refl _ _
    · clear_value y3
      refine Keeps.ite ?_ ?_
      · exact Keeps.refl _ _
      · refine Keeps.foldl (fun _ _ => ?_) ?_
        · refine State.sendBalset_keeps rfl ?_
          exact Keeps.refl _ _
        · exact Keeps.refl _ _

theorem execBalPhaseEffect_keeps {t : Nat} (u : State) : ∃ nxt, execBalPhaseEffect t u = .next nxt ∧ Keeps 35253091566886 u nxt := by
  refine ⟨_, rfl, ?_⟩
  try extract_lets -underBinder
  first | split | (dsimp +zetaDelta only; split)
  · refine Keeps.ite ?_ ?_
    · refine State.phaseShow_keeps rfl ?_
      refine State.sendStop_keeps rfl ?_
      refine Keeps.mk_bal rfl ?_
      refine State.at_keeps rfl ?_
      exact Keeps.refl _ _
    · refine State.at_keeps rfl ?_
      exact Keeps.refl _ _
  · refine Keeps.ite ?_ ?_
    · refine State.phaseShow_keeps rfl ?_
      refine State.sendMasks_keeps rfl ?_
      refine Keeps.mk_bal rfl ?_
      refine State.at_keeps rfl ?_
      exact Keeps.refl _ _
    · refine State.at_keeps rfl ?_
      exact Keeps.refl _ _
  · refine State.at_keeps rfl ?_
    exact Keeps.refl _ _

theorem State.balLaunch_keeps {m : Nat} {s u : State} {sel : Nat} {ga : Nat} (hm : m ||| 35184372089860 = m) (h : Keeps m s u) :
    Keeps m s (State.balLaunch u sel ga) := by
  refine Keeps.next hm h ?_
  clear hm h
  unfold State.balLaunch
  refine Keeps.ite ?_ ?_
  · refine State.raiseEv_keeps (n := 13) (show unitOf 53252 = 13 from rfl) rfl rfl ?_
    exact Keeps.refl _ _
  · refine Keeps.mk_bal rfl ?_
    exact Keeps.refl _ _

theorem State.wireSample_keeps {m : Nat} {s u : State} {k : Nat} {w : Nat} {num : Int} {den : Nat} (hm : m ||| 35184372088836 = m) (h : Keeps m s u) :
    Keeps m s (State.wireSample u k w num den) := by
  refine Keeps.next hm h ?_
  clear hm h
  unfold State.wireSample
  refine Keeps.ite ?_ ?_
  · exact Keeps.refl _ _
  · refine State.when_keeps (fun _ => ?_) ?_
    · refine State.setFld_keeps (n := 13) (unit_BAL_RW _) rfl rfl ?_
      exact Keeps.refl _ _
    · refine State.satAdd_keeps (n := 13) (unit_BAL_RW _) rfl rfl ?_
      refine State.setFld_keeps (n := 13) (unit_BAL_RW _) rfl rfl ?_
      exact Keeps.refl _ _

theorem State.wireEdge_keeps {m : Nat} {s u : State} {k : Nat} {n : Nat} {j : Nat} {on : Bool} {pre : List Nat} {now : List Nat} (hm : m ||| 35184372088836 = m) (h : Keeps m s u) :
    Keeps m s (State.wireEdge u k n j on pre now) := by
  refine Keeps.next hm h ?_
  clear hm h
  unfold State.wireEdge
  refine Keeps.ite ?_ ?_
  · exact Keeps.refl _ _
  · extract_lets -merge -useContext -underBinder y1 y2 y3 y4 y5
    refine Keeps.next (t := y3) (Nat.or_self _) ?_ ?_
    · refine Keeps.ite ?_ ?_
      · refine State.wireSample_keeps rfl ?_
        exact Keeps.refl _ _
      · exact Keeps.refl _ _
    · clear_value y3
      refine Keeps.next (t := y4) (Nat.or_self _) ?_ ?_
      · refine Keeps.ite ?_ ?_
        · refine State.wireSample_keeps rfl ?_
          exact Keeps.refl _ _
        · exact Keeps.refl _ _
      · clear_value y4
        refine Keeps.next (t := y5) (Nat.or_self _) ?_ ?_
        · refine Keeps.ite ?_ ?_
          · refine State.wireSample_keeps rfl ?_
            exact Keeps.refl _ _
          · exact Keeps.refl _ _
        · clear_value y5
          refine Keeps.ite ?_ ?_
          · refine State.wireSample_keeps rfl ?_
            exact Keeps.refl _ _
          · exact Keeps.refl _ _

theorem State.learnTile_keeps {m : Nat} {s u : State} {target : Nat} {quiet : Bool} {k : Nat} (hm : m ||| 35184372089860 = m) (h : Keeps m s u) :
    Keeps m s (State.learnTile u target quiet k) := by
  refine Keeps.next hm h ?_
  clear hm h
  unfold State.learnTile
  try extract_lets -underBinder
  first | split | (dsimp +zetaDelta only; split)
  · exact Keeps.refl _ _
  · refine Keeps.ite ?_ ?_
    · refine State.modBalSlot_keeps rfl ?_
      exact Keeps.refl _ _
    · refine State.modBalSlot_keeps rfl ?_
      try extract_lets -underBinder
      first | split | (dsimp +zetaDelta only; split)
      · try extract_lets -underBinder
        first | split | (dsimp +zetaDelta only; split)
        · refine Keeps.ite ?_ ?_
          · refine State.wireEdge_keeps rfl ?_
            exact Keeps.refl _ _
          · exact Keeps.refl _ _
        · exact Keeps.refl _ _
      · exact Keeps.refl _ _

theorem State.rwInit_keeps {m : Nat} {s u : State} (hm : m ||| 35184372088836 = m) (h : Keeps m s u) :
    Keeps m s (State.rwInit u) := by
  refine Keeps.next hm h ?_
  clear hm h
  unfold State.rwInit
  refine Keeps.foldl (fun _ _ => ?_) ?_
  · refine State.setWord_keeps (n := 13) (unit_BAL_RW _) rfl rfl ?_
    exact Keeps.refl _ _
  · exact Keeps.refl _ _

theorem State.btLearn_keeps {m : Nat} {s u : State} {target : Nat} {bt : Bool} (hm : m ||| 35184372089860 = m) (h : Keeps m s u) :
    Keeps m s (State.btLearn u target bt) := by
  refine Keeps.next hm h ?_
  clear hm h
  unfold State.btLearn
  refine Keeps.mk_bal rfl ?_
  refine Keeps.ite ?_ ?_
  · refine Keeps.foldl (fun _ _ => ?_) ?_
    · refine Keeps.ite ?_ ?_
      · refine State.learnTile_keeps rfl ?_
        exact Keeps.refl _ _
      · exact Keeps.refl _ _
    · exact Keeps.refl _ _
  · exact Keeps.refl _ _

theorem execBalsetRefresh_keeps {t : Nat} (u : State) : ∃ nxt, execBalsetRefresh t u = .next nxt ∧ Keeps 35253091566886 u nxt := by
  refine ⟨_, rfl, ?_⟩
  try extract_lets -underBinder
  first | split | (dsimp +zetaDelta only; split)
  · refine Keeps.ite ?_ ?_
    · refine State.sendMasks_keeps rfl ?_
      refine State.at_keeps rfl ?_
      exact Keeps.refl _ _
    · refine State.at_keeps rfl ?_
      exact Keeps.refl _ _
  · refine State.at_keeps rfl ?_
    exact Keeps.refl _ _

theorem State.balsetDone_keeps {m : Nat} {s u : State} {k : Nat} {mask : Nat} {ok : Bool} (hm : m ||| 35184372089860 = m) (h : Keeps m s u) :
    Keeps m s (State.balsetDone u k mask ok) := by
  refine Keeps.next hm h ?_
  clear hm h
  unfold State.balsetDone
  refine Keeps.ite ?_ ?_
  · refine State.setFld_keeps (n := 13) (unit_BAL_TILE _) rfl rfl ?_
    refine State.modBalSlot_keeps rfl ?_
    exact Keeps.refl _ _
  · refine State.raiseEv_keeps (n := 13) (show unitOf 53252 = 13 from rfl) rfl rfl ?_
    refine State.setFld_keeps (n := 13) (unit_BAL_TILE _) rfl rfl ?_
    refine State.modBalSlot_keeps rfl ?_
    exact Keeps.refl _ _

theorem State.balBoundary_keeps {m : Nat} {s u : State} (hm : m ||| 35184372089860 = m) (h : Keeps m s u) :
    Keeps m s (State.balBoundary u) := by
  refine Keeps.next hm h ?_
  clear hm h
  unfold State.balBoundary
  refine Keeps.foldl (fun _ _ => ?_) ?_
  · refine State.nmaxRefresh_keeps rfl ?_
    exact Keeps.refl _ _
  · refine State.balTake_keeps rfl ?_
    exact Keeps.refl _ _

theorem execUnsureExpiry_keeps {t : Nat} {k : Nat} (u : State) : ∃ nxt, execUnsureExpiry t k u = .next nxt ∧ Keeps 35184372089894 u nxt := by
  refine ⟨_, rfl, ?_⟩
  refine Keeps.ite ?_ ?_
  · refine State.setFld_keeps (n := 13) (unit_BAL_TILE _) rfl rfl ?_
    refine State.modBalSlot_keeps rfl ?_
    refine State.at_keeps rfl ?_
    exact Keeps.refl _ _
  · refine State.at_keeps rfl ?_
    exact Keeps.refl _ _

theorem State.balctlWrite_keeps {m : Nat} {s u : State} {v : Sys2Proof.Word} (hm : m ||| 35253091566852 = m) (h : Keeps m s u) :
    Keeps m s (State.balctlWrite u v) := by
  refine Keeps.next hm h ?_
  clear hm h
  unfold State.balctlWrite
  extract_lets -merge -useContext -underBinder y1 y2 y3 y4
  refine Keeps.next (t := y1) (Nat.or_self _) ?_ ?_
  · refine State.setWord_keeps (n := 13) (show unitOf 53248 = 13 from rfl) rfl rfl ?_
    exact Keeps.refl _ _
  · clear_value y1
    refine Keeps.ite ?_ ?_
    · exact Keeps.refl _ _
    · refine State.phaseShow_keeps rfl ?_
      refine State.when_keeps (fun _ => ?_) ?_
      · refine State.sendStop_keeps rfl ?_
        exact Keeps.refl _ _
      · refine Keeps.mk_bal rfl ?_
        exact Keeps.refl _ _

theorem State.balModeRefresh_keeps {m : Nat} {s u : State} (hm : m ||| 35184372088836 = m) (h : Keeps m s u) :
    Keeps m s (State.balModeRefresh u) := by
  refine Keeps.next hm h ?_
  clear hm h
  unfold State.balModeRefresh
  refine State.setHeld_keeps (n := 13) (show unitOf 53252 = 13 from rfl) rfl rfl ?_
  refine State.setFld_keeps (n := 13) (show unitOf 53268 = 13 from rfl) rfl rfl ?_
  refine State.setFlag_keeps (n := 13) (show unitOf 53268 = 13 from rfl) rfl rfl ?_
  exact Keeps.refl _ _

theorem execBalPhaseEnd_keeps {t : Nat} (u : State) : ∃ nxt, execBalPhaseEnd t u = .next nxt ∧ Keeps 35184372089894 u nxt := by
  refine ⟨_, rfl, ?_⟩
  try extract_lets -underBinder
  first | split | (dsimp +zetaDelta only; split)
  · refine Keeps.ite ?_ ?_
    · refine State.phaseShow_keeps rfl ?_
      refine Keeps.mk_bal rfl ?_
      refine State.at_keeps rfl ?_
      exact Keeps.refl _ _
    · refine State.at_keeps rfl ?_
      exact Keeps.refl _ _
  · refine State.at_keeps rfl ?_
    exact Keeps.refl _ _

theorem State.balTderWrite_keeps {m : Nat} {s u : State} {v : Sys2Proof.Word} (hm : m ||| 35184372088836 = m) (h : Keeps m s u) :
    Keeps m s (State.balTderWrite u v) := by
  refine Keeps.next hm h ?_
  clear hm h
  unfold State.balTderWrite
  refine Keeps.ite ?_ ?_
  · refine State.setWord_keeps (n := 13) (show unitOf 53264 = 13 from rfl) rfl rfl ?_
    exact Keeps.refl _ _
  · exact Keeps.refl _ _

theorem execDieTemperaturePoll_keeps {t : Nat} (u : State) : ∃ nxt, execDieTemperaturePoll t u = .next nxt ∧ Keeps 35253091566886 u nxt := by
  refine ⟨_, rfl, ?_⟩
  refine Keeps.ite ?_ ?_
  · refine State.at_keeps rfl ?_
    exact Keeps.refl _ _
  · refine Keeps.foldl (fun _ _ => ?_) ?_
    · refine Keeps.ite ?_ ?_
      · refine State.sendCmd_keeps rfl ?_
        refine State.nmaxRefresh_keeps rfl ?_
        exact Keeps.refl _ _
      · exact Keeps.refl _ _
    · refine Keeps.mk_bal rfl ?_
      refine State.at_keeps rfl ?_
      exact Keeps.refl _ _

end Sys2Proof.Machine
end

