-- ==== Sys2Proof/Laws/KeepsCan.lean ====
section
/-! SUPPORT. What each function of Machine/Can.lean can change. -/

namespace Sys2Proof.Machine

theorem State.canShow_keeps {m : Nat} {s u : State} {n : Nat} (hm : m ||| 2251799813685252 = m) (h : Keeps m s u) :
    Keeps m s (State.canShow u n) := by
  refine Keeps.next hm h ?_
  clear hm h
  unfold State.canShow
  extract_lets -merge -useContext -underBinder y1 y2
  refine Keeps.next (t := y2) (Nat.or_self _) ?_ ?_
  · refine State.setFlag_keeps (n := 19) (unit_CAN_TQSTS _) rfl rfl ?_
    refine State.setFld_keeps (n := 19) (unit_CAN_TQSTS _) rfl rfl ?_
    exact Keeps.refl _ _
  · clear_value y2
    try extract_lets -underBinder
    first | split | (dsimp +zetaDelta only; split)
    · refine State.setFld_keeps (n := 19) (unit_CAN_TQSTS _) rfl rfl ?_
      exact Keeps.refl _ _
    · exact Keeps.refl _ _

theorem State.modCan_keeps {m : Nat} {s u : State} {n : Nat} {f : Sys2Proof.Machine.CanSt → Sys2Proof.Machine.CanSt} (hm : m ||| 65536 = m) (h : Keeps m s u) :
    Keeps m s (State.modCan u n f) := by
  refine Keeps.next hm h ?_
  clear hm h
  unfold State.modCan
  refine Keeps.mk_can rfl ?_
  exact Keeps.refl _ _

theorem State.canCancel_keeps {m : Nat} {s u : State} {n : Nat} {serial : Nat} {begun : Bool} (hm : m ||| 2251799813750788 = m) (h : Keeps m s u) :
    Keeps m s (State.canCancel u n serial begun).2 := by
  refine Keeps.next hm h ?_
  clear hm h
  unfold State.canCancel
  refine Keeps.ite2 ?_ ?_
  · refine Keeps.pair2 ?_
    refine State.canShow_keeps rfl ?_
    refine State.modCan_keeps rfl ?_
    exact Keeps.refl _ _
  · refine Keeps.pair2 ?_
    exact Keeps.refl _ _

theorem State.canRelease_keeps {m : Nat} {s u : State} {n : Nat} {o : Nat} (hm : m ||| 2251799813750788 = m) (h : Keeps m s u) :
    Keeps m s (State.canRelease u n o) := by
  refine Keeps.next hm h ?_
  clear hm h
  unfold State.canRelease
  refine State.setFlag_keeps (n := 19) (unit_CAN_RXFULL _ _) rfl rfl ?_
  refine State.modCan_keeps rfl ?_
  exact Keeps.refl _ _

theorem execRxrel_keeps {t : Nat} {n : Nat} {x2 : Sys2Proof.Master} {v : Sys2Proof.Word} (u : State) : ∃ nxt, execRxrel t n x2 v u = .next nxt ∧ Keeps 2251799813750822 u nxt := by
  refine ⟨_, rfl, ?_⟩
  refine Keeps.ite ?_ ?_
  · refine State.canRelease_keeps rfl ?_
    refine State.at_keeps rfl ?_
    exact Keeps.refl _ _
  · refine State.at_keeps rfl ?_
    exact Keeps.refl _ _

theorem State.canStore_keeps {m : Nat} {s u : State} {n : Nat} {f : Sys2Proof.CanFrame} (hm : m ||| 2251799813750788 = m) (h : Keeps m s u) :
    Keeps m s (State.canStore u n f) := by
  refine Keeps.next hm h ?_
  clear hm h
  unfold State.canStore
  try extract_lets -underBinder
  first | split | (dsimp +zetaDelta only; split)
  · exact Keeps.refl _ _
  · extract_lets -merge -useContext -underBinder y1 y2
    refine Keeps.next (t := y1) (Nat.or_self _) ?_ ?_
    · refine State.satAdd_keeps (n := 19) (unit_CAN_RXCNT _) rfl rfl ?_
      exact Keeps.refl _ _
    · clear_value y1
      try extract_lets -underBinder
      first | split | (dsimp +zetaDelta only; split)
      · refine State.setFld_keeps (n := 19) (unit_CAN_RXFULL _ _) rfl rfl ?_
        refine State.modCan_keeps rfl ?_
        exact Keeps.refl _ _
      · refine State.modCan_keeps rfl ?_
        exact Keeps.refl _ _
      · refine State.raiseEv_keeps (n := 19) (unit_CAN_STS _) rfl rfl ?_
        refine State.satAdd_keeps (n := 19) (unit_CAN_RXCNT _) rfl rfl ?_
        refine State.setFld_keeps (n := 19) (unit_CAN_RXOVR _ _) rfl rfl ?_
        refine State.modCan_keeps rfl ?_
        exact Keeps.refl _ _

theorem State.canErr_keeps {m : Nat} {s u : State} {n : Nat} {tec : Nat} {rec_ : Nat} (hm : m ||| 2251799813754884 = m) (h : Keeps m s u) :
    Keeps m s (State.canErr u n tec rec_) := by
  refine Keeps.next hm h ?_
  clear hm h
  unfold State.canErr
  extract_lets -merge -useContext -underBinder y1 y2 y3 y4 y5 y6
  refine Keeps.next (t := y6) (Nat.or_self _) ?_ ?_
  · refine State.setHeld_keeps (n := 19) (unit_CAN_STS _) rfl rfl ?_
    refine State.setHeld_keeps (n := 19) (unit_CAN_STS _) rfl rfl ?_
    refine State.setFlag_keeps (n := 19) (unit_CAN_ERR _) rfl rfl ?_
    refine State.setFld_keeps (n := 19) (unit_CAN_ERR _) rfl rfl ?_
    refine State.setFld_keeps (n := 19) (unit_CAN_ERR _) rfl rfl ?_
    refine State.modCan_keeps rfl ?_
    exact Keeps.refl _ _
  · clear_value y6
    refine Keeps.ite ?_ ?_
    · refine State.wearAdd_keeps rfl ?_
      exact Keeps.refl _ _
    · exact Keeps.refl _ _

theorem execCanRxError_keeps {t : Nat} {n : Nat} {inc : Nat} (u : State) : ∃ nxt, execCanRxError t n inc u = .next nxt ∧ Keeps 2251799813754918 u nxt := by
  refine ⟨_, rfl, ?_⟩
  refine Keeps.ite ?_ ?_
  · refine State.canErr_keeps rfl ?_
    refine State.at_keeps rfl ?_
    exact Keeps.refl _ _
  · refine State.at_keeps rfl ?_
    exact Keeps.refl _ _

theorem State.canRestart_keeps {m : Nat} {s u : State} {n : Nat} {v : Sys2Proof.Word} (hm : m ||| 65536 = m) (h : Keeps m s u) :
    Keeps m s (State.canRestart u n v) := by
  refine Keeps.next hm h ?_
  clear hm h
  unfold State.canRestart
  refine Keeps.ite ?_ ?_
  · refine State.modCan_keeps rfl ?_
    exact Keeps.refl _ _
  · exact Keeps.refl _ _

theorem State.canCtlWrite_keeps {m : Nat} {s u : State} {n : Nat} {v : Sys2Proof.Word} (hm : m ||| 2251799813750788 = m) (h : Keeps m s u) :
    Keeps m s (State.canCtlWrite u n v) := by
  refine Keeps.next hm h ?_
  clear hm h
  unfold State.canCtlWrite
  refine State.canRestart_keeps rfl ?_
  refine State.setWord_keeps (n := 19) (unit_CAN_CTL _) rfl rfl ?_
  exact Keeps.refl _ _

theorem execRestart_keeps {t : Nat} {n : Nat} {x2 : Sys2Proof.Master} {v : Sys2Proof.Word} (u : State) : ∃ nxt, execRestart t n x2 v u = .next nxt ∧ Keeps 2251799813750822 u nxt := by
  refine ⟨_, rfl, ?_⟩
  refine Keeps.ite ?_ ?_
  · refine State.canCtlWrite_keeps rfl ?_
    refine State.at_keeps rfl ?_
    exact Keeps.refl _ _
  · refine State.at_keeps rfl ?_
    exact Keeps.refl _ _

theorem execCanTxDone_keeps {t : Nat} {n : Nat} {sof : Nat} {tdcv : Nat} (u : State) : ∃ nxt, execCanTxDone t n sof tdcv u = .next nxt ∧ Keeps 2251799813754918 u nxt := by
  refine ⟨_, rfl, ?_⟩
  try extract_lets -underBinder
  first | split | (dsimp +zetaDelta only; split)
  · refine Keeps.ite ?_ ?_
    · refine State.at_keeps rfl ?_
      exact Keeps.refl _ _
    · extract_lets -merge -useContext -underBinder y1 y2
      refine Keeps.next (t := y1) (Nat.or_self _) ?_ ?_
      · refine State.canShow_keeps rfl ?_
        refine State.modCan_keeps rfl ?_
        refine State.at_keeps rfl ?_
        exact Keeps.refl _ _
      · clear_value y1
        refine Keeps.next (t := y2) (Nat.or_self _) ?_ ?_
        · refine State.canErr_keeps rfl ?_
          refine State.satAdd_keeps (n := 19) (unit_CAN_TXCNT _) rfl rfl ?_
          exact Keeps.refl _ _
        · clear_value y2
          refine Keeps.ite ?_ ?_
          · refine State.setFld_keeps (n := 19) (unit_CAN_TDC _) rfl rfl ?_
            exact Keeps.refl _ _
          · exact Keeps.refl _ _
  · refine State.at_keeps rfl ?_
    exact Keeps.refl _ _

theorem State.abStop_keeps {m : Nat} {s u : State} {n : Nat} (hm : m ||| 2251799813685252 = m) (h : Keeps m s u) :
    Keeps m s (State.abStop u n) := by
  refine Keeps.next hm h ?_
  clear hm h
  unfold State.abStop
  refine State.setFld_keeps (n := 19) (unit_CAN_ABCTL _) rfl rfl ?_
  refine State.setFld_keeps (n := 19) (unit_CAN_ABCTL _) rfl rfl ?_
  refine Keeps.ite ?_ ?_
  · refine State.setWord_keeps (n := 19) (unit_CAN_NBT _) rfl rfl ?_
    exact Keeps.refl _ _
  · exact Keeps.refl _ _

theorem State.abGo_keeps {m : Nat} {s u : State} {n : Nat} (hm : m ||| 2251799813750788 = m) (h : Keeps m s u) :
    Keeps m s (State.abGo u n) := by
  refine Keeps.next hm h ?_
  clear hm h
  unfold State.abGo
  refine Keeps.ite ?_ ?_
  · exact Keeps.refl _ _
  · refine State.setFld_keeps (n := 19) (unit_CAN_ABCTL _) rfl rfl ?_
    refine State.setFld_keeps (n := 19) (unit_CAN_ABCTL _) rfl rfl ?_
    refine State.setFld_keeps (n := 19) (unit_CAN_CTL _) rfl rfl ?_
    refine State.modCan_keeps rfl ?_
    exact Keeps.refl _ _

theorem State.abctlWrite_keeps {m : Nat} {s u : State} {n : Nat} {v : Sys2Proof.Word} (hm : m ||| 2251799813750788 = m) (h : Keeps m s u) :
    Keeps m s (State.abctlWrite u n v) := by
  refine Keeps.next hm h ?_
  clear hm h
  unfold State.abctlWrite
  extract_lets -merge -useContext -underBinder y1 y2
  refine Keeps.next (t := y1) (Nat.or_self _) ?_ ?_
  · refine State.setFld_keeps (n := 19) (unit_CAN_ABCTL _) rfl rfl ?_
    exact Keeps.refl _ _
  · clear_value y1
    refine Keeps.next (t := y2) (Nat.or_self _) ?_ ?_
    · refine Keeps.ite ?_ ?_
      · refine State.abStop_keeps rfl ?_
        exact Keeps.refl _ _
      · exact Keeps.refl _ _
    · clear_value y2
      refine Keeps.ite ?_ ?_
      · refine State.abGo_keeps rfl ?_
        exact Keeps.refl _ _
      · exact Keeps.refl _ _

theorem execAbctlStop_keeps {t : Nat} {n : Nat} {x2 : Sys2Proof.Master} {v : Sys2Proof.Word} (u : State) : ∃ nxt, execAbctlStop t n x2 v u = .next nxt ∧ Keeps 2251799813750822 u nxt := by
  refine ⟨_, rfl, ?_⟩
  refine Keeps.ite ?_ ?_
  · refine State.abctlWrite_keeps rfl ?_
    refine State.at_keeps rfl ?_
    exact Keeps.refl _ _
  · refine State.at_keeps rfl ?_
    exact Keeps.refl _ _

theorem execCanProtocolException_keeps {t : Nat} {n : Nat} (u : State) : ∃ nxt, execCanProtocolException t n u = .next nxt ∧ Keeps 2251799813750822 u nxt := by
  refine ⟨_, rfl, ?_⟩
  refine Keeps.ite ?_ ?_
  · refine State.raiseEv_keeps (n := 19) (unit_CAN_STS _) rfl rfl ?_
    refine State.satAdd_keeps (n := 19) (unit_CAN_ERR _) rfl rfl ?_
    refine State.modCan_keeps rfl ?_
    refine State.at_keeps rfl ?_
    exact Keeps.refl _ _
  · refine State.at_keeps rfl ?_
    exact Keeps.refl _ _

theorem execCanTxAttemptFail_keeps {t : Nat} {n : Nat} {arb : Bool} (u : State) : ∃ nxt, execCanTxAttemptFail t n arb u = .next nxt ∧ Keeps 2251799813754918 u nxt := by
  refine ⟨_, rfl, ?_⟩
  try extract_lets -underBinder
  first | split | (dsimp +zetaDelta only; split)
  · refine Keeps.ite ?_ ?_
    · refine State.at_keeps rfl ?_
      exact Keeps.refl _ _
    · extract_lets -merge -useContext -underBinder y1
      refine Keeps.next (t := y1) (Nat.or_self _) ?_ ?_
      · refine Keeps.ite ?_ ?_
        · refine State.satAdd_keeps (n := 19) (unit_CAN_TXFAIL _) rfl rfl ?_
          refine State.canShow_keeps rfl ?_
          refine State.modCan_keeps rfl ?_
          refine State.at_keeps rfl ?_
          exact Keeps.refl _ _
        · refine State.at_keeps rfl ?_
          exact Keeps.refl _ _
      · clear_value y1
        refine Keeps.ite ?_ ?_
        · exact Keeps.refl _ _
        · refine State.canErr_keeps rfl ?_
          exact Keeps.refl _ _
  · refine State.at_keeps rfl ?_
    exact Keeps.refl _ _

theorem State.canTimingWrite_keeps {m : Nat} {s u : State} {n : Nat} {off : Nat} {v : Sys2Proof.Word} (hm : m ||| 2251799813685252 = m) (h : Keeps m s u) :
    Keeps m s (State.canTimingWrite u n off v) := by
  refine Keeps.next hm h ?_
  clear hm h
  unfold State.canTimingWrite
  extract_lets -merge -useContext -underBinder y1 y2
  refine Keeps.ite ?_ ?_
  · refine Keeps.ite ?_ ?_
    · refine State.raiseEv_keeps (n := 19) (unit_CAN_STS _) rfl rfl ?_
      exact Keeps.refl _ _
    · refine State.setWord_keeps (n := 19) (unit_CAN_NBT _) rfl rfl ?_
      exact Keeps.refl _ _
  · refine Keeps.ite ?_ ?_
    · refine Keeps.ite ?_ ?_
      · refine State.raiseEv_keeps (n := 19) (unit_CAN_STS _) rfl rfl ?_
        exact Keeps.refl _ _
      · refine State.setWord_keeps (n := 19) (unit_CAN_DBT _) rfl rfl ?_
        exact Keeps.refl _ _
    · refine Keeps.ite ?_ ?_
      · refine Keeps.ite ?_ ?_
        · refine State.raiseEv_keeps (n := 19) (unit_CAN_STS _) rfl rfl ?_
          exact Keeps.refl _ _
        · refine State.setFld_keeps (n := 19) (unit_CAN_TDC _) rfl rfl ?_
          refine State.setFld_keeps (n := 19) (unit_CAN_TDC _) rfl rfl ?_
          exact Keeps.refl _ _
      · refine Keeps.ite ?_ ?_
        · refine Keeps.ite ?_ ?_
          · refine State.raiseEv_keeps (n := 19) (unit_CAN_STS _) rfl rfl ?_
            exact Keeps.refl _ _
          · refine State.setWord_keeps (n := 19) (unit_CAN_ABCAND _ _) rfl rfl ?_
            exact Keeps.refl _ _
        · exact Keeps.refl _ _

theorem execAutobaudDwellEnd_keeps {t : Nat} {n : Nat} {err : Bool} (u : State) : ∃ nxt, execAutobaudDwellEnd t n err u = .next nxt ∧ Keeps 65570 u nxt := by
  refine ⟨_, rfl, ?_⟩
  refine Keeps.ite ?_ ?_
  · refine State.modCan_keeps rfl ?_
    refine State.at_keeps rfl ?_
    exact Keeps.refl _ _
  · refine State.at_keeps rfl ?_
    exact Keeps.refl _ _

theorem State.canQueue_keeps {m : Nat} {s u : State} {n : Nat} {ws : List Sys2Proof.Word} (hm : m ||| 2251799813750788 = m) (h : Keeps m s u) :
    Keeps m s (State.canQueue u n ws).2 := by
  refine Keeps.next hm h ?_
  clear hm h
  unfold State.canQueue
  refine Keeps.ite2 ?_ ?_
  · refine Keeps.pair2 ?_
    refine State.raiseEv_keeps (n := 19) (unit_CAN_STS _) rfl rfl ?_
    exact Keeps.refl _ _
  · refine Keeps.ite2 ?_ ?_
    · refine Keeps.pair2 ?_
      exact Keeps.refl _ _
    · refine Keeps.pair2 ?_
      refine State.canShow_keeps rfl ?_
      refine State.modCan_keeps rfl ?_
      exact Keeps.refl _ _

theorem State.txgo_keeps {m : Nat} {s u : State} {n : Nat} {x2 : Nat} {v : Sys2Proof.Word} (hm : m ||| 2251799813750788 = m) (h : Keeps m s u) :
    Keeps m s (State.txgo u n x2 v) := by
  refine Keeps.next hm h ?_
  clear hm h
  unfold State.txgo
  refine Keeps.ite ?_ ?_
  · exact Keeps.refl _ _
  · refine Keeps.ite ?_ ?_
    · refine State.setWord_keeps (n := 19) (unitOf_masterKey (unit_CAN_TXRES _)) rfl rfl ?_
      exact Keeps.refl _ _
    · extract_lets -merge -useContext -underBinder y1 y2 y3
      refine Keeps.next (t := y3) (Nat.or_self _) ?_ ?_
      · refine State.setWord_keeps (n := 19) (unitOf_masterKey (unit_CAN_TXRES _)) rfl rfl ?_
        refine State.canQueue_keeps rfl ?_
        exact Keeps.refl _ _
      · clear_value y3
        refine Keeps.ite ?_ ?_
        · refine State.setWord_keeps (n := 19) (unitOf_masterKey (unit_CAN_TXRES _)) rfl rfl ?_
          exact Keeps.refl _ _
        · exact Keeps.refl _ _

theorem execTxgo_keeps {t : Nat} {n : Nat} {x2 : Sys2Proof.Master} {v : Sys2Proof.Word} (u : State) : ∃ nxt, execTxgo t n x2 v u = .next nxt ∧ Keeps 2251799813750822 u nxt := by
  refine ⟨_, rfl, ?_⟩
  refine Keeps.ite ?_ ?_
  · refine State.txgo_keeps rfl ?_
    refine State.at_keeps rfl ?_
    exact Keeps.refl _ _
  · refine State.at_keeps rfl ?_
    exact Keeps.refl _ _

theorem State.txcan_keeps {m : Nat} {s u : State} {n : Nat} {x2 : Nat} {v : Sys2Proof.Word} {begun : Bool} (hm : m ||| 2251799813750788 = m) (h : Keeps m s u) :
    Keeps m s (State.txcan u n x2 v begun) := by
  refine Keeps.next hm h ?_
  clear hm h
  unfold State.txcan
  refine State.setWord_keeps (n := 19) (unitOf_masterKey (unit_CAN_TXRES _)) rfl rfl ?_
  refine State.canCancel_keeps rfl ?_
  exact Keeps.refl _ _

theorem State.canDrop_keeps {m : Nat} {s u : State} {n : Nat} {k : Nat} (hm : m ||| 2251799813685252 = m) (h : Keeps m s u) :
    Keeps m s (State.canDrop u n k) := by
  refine Keeps.next hm h ?_
  clear hm h
  unfold State.canDrop
  refine Keeps.ite ?_ ?_
  · exact Keeps.refl _ _
  · refine State.raiseEv_keeps (n := 19) (unit_CAN_STS _) rfl rfl ?_
    refine State.satAdd_keeps (n := 19) (unit_CAN_TXCNT _) rfl rfl ?_
    exact Keeps.refl _ _

theorem State.canLeave_keeps {m : Nat} {s u : State} (hm : m ||| 2251799813750788 = m) (h : Keeps m s u) :
    Keeps m s (State.canLeave u) := by
  refine Keeps.next hm h ?_
  clear hm h
  unfold State.canLeave
  refine Keeps.foldl (fun _ _ => ?_) ?_
  · refine State.canShow_keeps rfl ?_
    refine State.modCan_keeps rfl ?_
    refine State.canDrop_keeps rfl ?_
    exact Keeps.refl _ _
  · exact Keeps.refl _ _

theorem State.tmctlWrite_keeps {m : Nat} {s u : State} {n : Nat} {v : Sys2Proof.Word} (hm : m ||| 2251799813750788 = m) (h : Keeps m s u) :
    Keeps m s (State.tmctlWrite u n v) := by
  refine Keeps.next hm h ?_
  clear hm h
  unfold State.tmctlWrite
  refine Keeps.ite ?_ ?_
  · exact Keeps.refl _ _
  · extract_lets -merge -useContext -underBinder y1 y2
    refine Keeps.next (t := y2) (Nat.or_self _) ?_ ?_
    · refine State.setFld_keeps (n := 19) (unit_CAN_TMCTL _) rfl rfl ?_
      refine State.setFld_keeps (n := 19) (unit_CAN_TMCTL _) rfl rfl ?_
      exact Keeps.refl _ _
    · clear_value y2
      refine Keeps.ite ?_ ?_
      · refine State.modCan_keeps rfl ?_
        exact Keeps.refl _ _
      · exact Keeps.refl _ _

theorem execReferenceCycleStart_keeps {t : Nat} {n : Nat} (u : State) : ∃ nxt, execReferenceCycleStart t n u = .next nxt ∧ Keeps 2251799813750822 u nxt := by
  refine ⟨_, rfl, ?_⟩
  refine Keeps.ite ?_ ?_
  · refine Keeps.ite ?_ ?_
    · refine State.satAdd_keeps (n := 19) (unit_CAN_TXFAIL _) rfl rfl ?_
      refine State.at_keeps rfl ?_
      exact Keeps.refl _ _
    · refine State.canShow_keeps rfl ?_
      refine State.modCan_keeps rfl ?_
      refine State.at_keeps rfl ?_
      exact Keeps.refl _ _
  · refine State.at_keeps rfl ?_
    exact Keeps.refl _ _

theorem execAbctlGo_keeps {t : Nat} {n : Nat} {x2 : Sys2Proof.Master} {v : Sys2Proof.Word} (u : State) : ∃ nxt, execAbctlGo t n x2 v u = .next nxt ∧ Keeps 2251799813750822 u nxt := by
  refine ⟨_, rfl, ?_⟩
  refine Keeps.ite ?_ ?_
  · refine State.abctlWrite_keeps rfl ?_
    refine State.at_keeps rfl ?_
    exact Keeps.refl _ _
  · refine State.at_keeps rfl ?_
    exact Keeps.refl _ _

theorem execBusOffRecovery_keeps {t : Nat} {n : Nat} (u : State) : ∃ nxt, execBusOffRecovery t n u = .next nxt ∧ Keeps 2251799813754918 u nxt := by
  refine ⟨_, rfl, ?_⟩
  refine Keeps.ite ?_ ?_
  · refine State.canErr_keeps rfl ?_
    refine State.modCan_keeps rfl ?_
    refine State.at_keeps rfl ?_
    exact Keeps.refl _ _
  · refine State.at_keeps rfl ?_
    exact Keeps.refl _ _

theorem execCanTimingWrite_keeps {t : Nat} {x1 : Sys2Proof.Master} {off : Nat} {v : Sys2Proof.Word} (u : State) : ∃ nxt, execCanTimingWrite t x1 off v u = .next nxt ∧ Keeps 2251799813685286 u nxt := by
  refine ⟨_, rfl, ?_⟩
  try extract_lets -underBinder
  first | split | (dsimp +zetaDelta only; split)
  · refine State.canTimingWrite_keeps rfl ?_
    refine State.at_keeps rfl ?_
    exact Keeps.refl _ _
  · refine State.at_keeps rfl ?_
    exact Keeps.refl _ _

theorem State.abFound_keeps {m : Nat} {s u : State} {n : Nat} (hm : m ||| 2251799813685252 = m) (h : Keeps m s u) :
    Keeps m s (State.abFound u n) := by
  refine Keeps.next hm h ?_
  clear hm h
  unfold State.abFound
  refine Keeps.ite ?_ ?_
  · refine State.setFld_keeps (n := 19) (unit_CAN_ABCTL _) rfl rfl ?_
    refine State.setFld_keeps (n := 19) (unit_CAN_ABCTL _) rfl rfl ?_
    refine State.setFld_keeps (n := 19) (unit_CAN_ABCTL _) rfl rfl ?_
    refine State.setWord_keeps (n := 19) (unit_CAN_NBT _) rfl rfl ?_
    exact Keeps.refl _ _
  · exact Keeps.refl _ _

theorem execTxcan_keeps {t : Nat} {n : Nat} {x2 : Sys2Proof.Master} {v : Sys2Proof.Word} {begun : Bool} (u : State) : ∃ nxt, execTxcan t n x2 v begun u = .next nxt ∧ Keeps 2251799813750822 u nxt := by
  refine ⟨_, rfl, ?_⟩
  refine Keeps.ite ?_ ?_
  · refine State.txcan_keeps rfl ?_
    refine State.at_keeps rfl ?_
    exact Keeps.refl _ _
  · refine State.at_keeps rfl ?_
    exact Keeps.refl _ _

end Sys2Proof.Machine
end

