-- ==== Sys2Proof/Laws/KeepsHelm.lean ====
section
/-! SUPPORT. What each function of Machine/Helm.lean can change. -/

namespace Sys2Proof.Machine

theorem State.modHlm_keeps {m : Nat} {s u : State} {f : Sys2Proof.Machine.HlmSt → Sys2Proof.Machine.HlmSt} (hm : m ||| 16384 = m) (h : Keeps m s u) :
    Keeps m s (State.modHlm u f) := by
  refine Keeps.next hm h ?_
  clear hm h
  unfold State.modHlm
  refine Keeps.mk_hlm rfl ?_
  exact Keeps.refl _ _

theorem execSppTimeout_keeps {t : Nat} (u : State) : ∃ nxt, execSppTimeout t u = .next nxt ∧ Keeps 70368744194086 u nxt := by
  refine ⟨_, rfl, ?_⟩
  refine Keeps.ite ?_ ?_
  · refine State.setHeld_keeps (n := 14) (show unitOf 57348 = 14 from rfl) rfl rfl ?_
    refine State.modHlm_keeps rfl ?_
    refine State.at_keeps rfl ?_
    exact Keeps.refl _ _
  · refine State.at_keeps rfl ?_
    exact Keeps.refl _ _

theorem State.outerLoop_keeps {m : Nat} {s u : State} (hm : m ||| 16384 = m) (h : Keeps m s u) :
    Keeps m s (State.outerLoop u) := by
  refine Keeps.next hm h ?_
  clear hm h
  unfold State.outerLoop
  refine Keeps.ite ?_ ?_
  · refine State.modHlm_keeps rfl ?_
    exact Keeps.refl _ _
  · extract_lets -merge -useContext -underBinder y1 y2 y3 y4 y5 y6 y7 y8 y9
    refine Keeps.next (t := y1) (Nat.or_self _) ?_ ?_
    · refine Keeps.ite ?_ ?_
      · exact Keeps.refl _ _
      · refine State.modHlm_keeps rfl ?_
        exact Keeps.refl _ _
    · clear_value y1
      refine Keeps.ite ?_ ?_
      · refine State.modHlm_keeps rfl ?_
        exact Keeps.refl _ _
      · refine State.modHlm_keeps rfl ?_
        exact Keeps.refl _ _

theorem State.refChain_keeps {m : Nat} {s u : State} {y : Sys2Proof.Machine.Fl} {iexc : Sys2Proof.Machine.Fl} (hm : m ||| 211106232549380 = m) (h : Keeps m s u) :
    Keeps m s (State.refChain u y iexc).1 := by
  refine Keeps.next hm h ?_
  clear hm h
  unfold State.refChain
  extract_lets -merge -useContext -underBinder y1 y2 y3 y4 y5 y6 y7 y8 y9 y10 y11 y12 y13 y14 y15 y16 y17 y18
  refine Keeps.next (t := y6) (Nat.or_self _) ?_ ?_
  · refine State.outerLoop_keeps rfl ?_
    refine State.modHlm_keeps rfl ?_
    exact Keeps.refl _ _
  · clear_value y6
    refine Keeps.next (t := y14) (Nat.or_self _) ?_ ?_
    · refine State.setHeld_keeps (n := 14) (show unitOf 57348 = 14 from rfl) rfl rfl ?_
      refine State.setHeld_keeps (n := 14) (show unitOf 57348 = 14 from rfl) rfl rfl ?_
      exact Keeps.refl _ _
    · clear_value y14
      refine Keeps.next (t := y15) (Nat.or_self _) ?_ ?_
      · refine State.setFlag_keeps (n := 14) (show unitOf 57348 = 14 from rfl) rfl rfl ?_
        exact Keeps.refl _ _
      · clear_value y15
        refine Keeps.next (t := y17) (Nat.or_self _) ?_ ?_
        · refine Keeps.ite ?_ ?_
          · exact Keeps.refl _ _
          · refine State.modHlm_keeps rfl ?_
            exact Keeps.refl _ _
        · clear_value y17
          refine Keeps.ite ?_ ?_
          · exact Keeps.refl _ _
          · refine State.setFld_keeps (n := 15) (show unitOf 61444 = 15 from rfl) rfl rfl ?_
            refine State.raiseEv_keeps (n := 15) (show unitOf 61444 = 15 from rfl) rfl rfl ?_
            refine State.setWord_keeps (n := 15) (show unitOf 61476 = 15 from rfl) rfl rfl ?_
            exact Keeps.refl _ _

theorem State.srcMeasure_keeps {m : Nat} {s u : State} {valid : Bool} {need : Nat} (hm : m ||| 70368744194052 = m) (h : Keeps m s u) :
    Keeps m s (State.srcMeasure u valid need) := by
  refine Keeps.next hm h ?_
  clear hm h
  unfold State.srcMeasure
  refine State.setHeld_keeps (n := 14) (show unitOf 57348 = 14 from rfl) rfl rfl ?_
  refine State.modHlm_keeps rfl ?_
  exact Keeps.refl _ _

theorem execHelmDutyLatch_keeps {t : Nat} (u : State) : ∃ nxt, execHelmDutyLatch t u = .next nxt ∧ Keeps 16418 u nxt := by
  refine ⟨_, rfl, ?_⟩
  refine Keeps.ite ?_ ?_
  · refine State.at_keeps rfl ?_
    exact Keeps.refl _ _
  · refine State.modHlm_keeps rfl ?_
    refine State.at_keeps rfl ?_
    exact Keeps.refl _ _

theorem State.helmStop_keeps {m : Nat} {s u : State} (hm : m ||| 70368744194052 = m) (h : Keeps m s u) :
    Keeps m s (State.helmStop u) := by
  refine Keeps.next hm h ?_
  clear hm h
  unfold State.helmStop
  refine State.setFld_keeps (n := 14) (show unitOf 57344 = 14 from rfl) rfl rfl ?_
  refine State.setFld_keeps (n := 14) (show unitOf 57344 = 14 from rfl) rfl rfl ?_
  refine State.modHlm_keeps rfl ?_
  exact Keeps.refl _ _

theorem State.helmExtStop_keeps {m : Nat} {s u : State} (hm : m ||| 70368744194052 = m) (h : Keeps m s u) :
    Keeps m s (State.helmExtStop u) := by
  refine Keeps.next hm h ?_
  clear hm h
  unfold State.helmExtStop
  refine Keeps.ite ?_ ?_
  · refine State.raiseEv_keeps (n := 14) (show unitOf 57348 = 14 from rfl) rfl rfl ?_
    refine State.helmStop_keeps rfl ?_
    exact Keeps.refl _ _
  · exact Keeps.refl _ _

theorem State.legsWrite_keeps {m : Nat} {s u : State} {v : Sys2Proof.Word} (hm : m ||| 70368744177668 = m) (h : Keeps m s u) :
    Keeps m s (State.legsWrite u v) := by
  refine Keeps.next hm h ?_
  clear hm h
  unfold State.legsWrite
  refine Keeps.ite ?_ ?_
  · refine State.raiseEv_keeps (n := 14) (show unitOf 57348 = 14 from rfl) rfl rfl ?_
    exact Keeps.refl _ _
  · refine State.setFld_keeps (n := 14) (show unitOf 57356 = 14 from rfl) rfl rfl ?_
    refine State.setFld_keeps (n := 14) (show unitOf 57356 = 14 from rfl) rfl rfl ?_
    exact Keeps.refl _ _

theorem execLegsWrite_keeps {t : Nat} {x1 : Sys2Proof.Master} {v : Sys2Proof.Word} (u : State) : ∃ nxt, execLegsWrite t x1 v u = .next nxt ∧ Keeps 70368744177702 u nxt := by
  refine ⟨_, rfl, ?_⟩
  refine State.legsWrite_keeps rfl ?_
  refine State.at_keeps rfl ?_
  exact Keeps.refl _ _

theorem State.helmEntry_keeps {m : Nat} {s u : State} {y : Sys2Proof.Machine.Fl} (hm : m ||| 16384 = m) (h : Keeps m s u) :
    Keeps m s (State.helmEntry u y) := by
  refine Keeps.next hm h ?_
  clear hm h
  unfold State.helmEntry
  refine Keeps.ite ?_ ?_
  · exact Keeps.refl _ _
  · refine State.modHlm_keeps rfl ?_
    exact Keeps.refl _ _

theorem State.channels_keeps {m : Nat} {s u : State} {x : Sys2Proof.HelmIn} {y : Sys2Proof.Machine.Fl} (hm : m ||| 70368744194052 = m) (h : Keeps m s u) :
    Keeps m s (State.channels u x y) := by
  refine Keeps.next hm h ?_
  clear hm h
  unfold State.channels
  refine State.setWord_keeps (n := 14) (show unitOf 57456 = 14 from rfl) rfl rfl ?_
  refine State.setWord_keeps (n := 14) (show unitOf 57452 = 14 from rfl) rfl rfl ?_
  refine State.setWord_keeps (n := 14) (show unitOf 57448 = 14 from rfl) rfl rfl ?_
  refine State.modHlm_keeps rfl ?_
  refine State.setFlag_keeps (n := 14) (show unitOf 57344 = 14 from rfl) rfl rfl ?_
  refine State.setHeld_keeps (n := 14) (show unitOf 57348 = 14 from rfl) rfl rfl ?_
  refine State.setHeld_keeps (n := 14) (show unitOf 57348 = 14 from rfl) rfl rfl ?_
  exact Keeps.refl _ _

theorem State.carrierWrite_keeps {m : Nat} {s u : State} {v : Sys2Proof.Word} (hm : m ||| 70368744177668 = m) (h : Keeps m s u) :
    Keeps m s (State.carrierWrite u v) := by
  refine Keeps.next hm h ?_
  clear hm h
  unfold State.carrierWrite
  refine Keeps.ite ?_ ?_
  · refine State.raiseEv_keeps (n := 14) (show unitOf 57348 = 14 from rfl) rfl rfl ?_
    exact Keeps.refl _ _
  · refine Keeps.ite ?_ ?_
    · refine State.raiseEv_keeps (n := 14) (show unitOf 57348 = 14 from rfl) rfl rfl ?_
      exact Keeps.refl _ _
    · refine State.setFld_keeps (n := 14) (show unitOf 57352 = 14 from rfl) rfl rfl ?_
      refine State.setFld_keeps (n := 14) (show unitOf 57352 = 14 from rfl) rfl rfl ?_
      exact Keeps.refl _ _

theorem State.coefWrite_keeps {m : Nat} {s u : State} {n : Nat} {v : Sys2Proof.Word} (hm : m ||| 70368744194052 = m) (h : Keeps m s u) :
    Keeps m s (State.coefWrite u n v) := by
  refine Keeps.next hm h ?_
  clear hm h
  unfold State.coefWrite
  refine Keeps.ite ?_ ?_
  · refine State.setWord_keeps (n := 14) (by unfold unitOf Reg.HLM_KP; omega) rfl rfl ?_
    refine State.modHlm_keeps rfl ?_
    exact Keeps.refl _ _
  · refine State.raiseEv_keeps (n := 14) (show unitOf 57348 = 14 from rfl) rfl rfl ?_
    exact Keeps.refl _ _

theorem execCoefficientWrite_keeps {t : Nat} {x1 : Sys2Proof.Master} {n : Nat} {v : Sys2Proof.Word} (u : State) : ∃ nxt, execCoefficientWrite t x1 n v u = .next nxt ∧ Keeps 70368744194086 u nxt := by
  refine ⟨_, rfl, ?_⟩
  refine Keeps.ite ?_ ?_
  · refine State.coefWrite_keeps rfl ?_
    refine State.at_keeps rfl ?_
    exact Keeps.refl _ _
  · refine State.at_keeps rfl ?_
    exact Keeps.refl _ _

theorem execSppPeriod_keeps {t : Nat} {per : Nat} {high : Nat} (u : State) : ∃ nxt, execSppPeriod t per high u = .next nxt ∧ Keeps 70368744194086 u nxt := by
  refine ⟨_, rfl, ?_⟩
  try extract_lets -underBinder
  first | split | (dsimp +zetaDelta only; split)
  · refine State.srcMeasure_keeps rfl ?_
    refine State.modHlm_keeps rfl ?_
    refine State.at_keeps rfl ?_
    exact Keeps.refl _ _
  · refine State.srcMeasure_keeps rfl ?_
    refine State.modHlm_keeps rfl ?_
    refine State.at_keeps rfl ?_
    exact Keeps.refl _ _
  · refine State.modHlm_keeps rfl ?_
    refine State.at_keeps rfl ?_
    exact Keeps.refl _ _

theorem execCarrierWrite_keeps {t : Nat} {x1 : Sys2Proof.Master} {v : Sys2Proof.Word} (u : State) : ∃ nxt, execCarrierWrite t x1 v u = .next nxt ∧ Keeps 70368744177702 u nxt := by
  refine ⟨_, rfl, ?_⟩
  refine State.carrierWrite_keeps rfl ?_
  refine State.at_keeps rfl ?_
  exact Keeps.refl _ _

theorem State.spWrite_keeps {m : Nat} {s u : State} {sel : Nat} {v : Sys2Proof.Word} {alm : Bool} (hm : m ||| 70368744194052 = m) (h : Keeps m s u) :
    Keeps m s (State.spWrite u sel v alm) := by
  refine Keeps.next hm h ?_
  clear hm h
  unfold State.spWrite
  extract_lets -merge -useContext -underBinder y1
  refine Keeps.next (t := y1) (Nat.or_self _) ?_ ?_
  · refine State.modHlm_keeps rfl ?_
    exact Keeps.refl _ _
  · clear_value y1
    refine Keeps.ite ?_ ?_
    · refine State.setFld_keeps (n := 14) (show unitOf 57344 = 14 from rfl) rfl rfl ?_
      exact Keeps.refl _ _
    · refine State.setWord_keeps (n := 14) (unitOf_ite (show unitOf 57376 = 14 from rfl) (unitOf_ite (show unitOf 57380 = 14 from rfl) (show unitOf 57388 = 14 from rfl))) rfl rfl ?_
      exact Keeps.refl _ _

theorem execHostSetpointWrite_keeps {t : Nat} {x1 : Sys2Proof.Master} {off : Nat} {v : Sys2Proof.Word} (u : State) : ∃ nxt, execHostSetpointWrite t x1 off v u = .next nxt ∧ Keeps 70368744194086 u nxt := by
  refine ⟨_, rfl, ?_⟩
  try extract_lets -underBinder
  first | split | (dsimp +zetaDelta only; split)
  · refine State.spWrite_keeps rfl ?_
    refine State.at_keeps rfl ?_
    exact Keeps.refl _ _
  · refine State.at_keeps rfl ?_
    exact Keeps.refl _ _

theorem State.takeSetpoints_keeps {m : Nat} {s u : State} {y : Sys2Proof.Machine.Fl} (hm : m ||| 70368744194052 = m) (h : Keeps m s u) :
    Keeps m s (State.takeSetpoints u y) := by
  refine Keeps.next hm h ?_
  clear hm h
  unfold State.takeSetpoints
  try extract_lets -underBinder
  first | split | (dsimp +zetaDelta only; split)
  · try extract_lets -underBinder
    first | split | (dsimp +zetaDelta only; split)
    · try extract_lets -underBinder
      first | split | (dsimp +zetaDelta only; split)
      · try extract_lets -underBinder
        first | split | (dsimp +zetaDelta only; split)
        · refine State.modHlm_keeps rfl ?_
          exact Keeps.refl _ _
        · refine Keeps.ite ?_ ?_
          · refine State.modHlm_keeps rfl ?_
            refine State.setFld_keeps (n := 14) (show unitOf 57344 = 14 from rfl) rfl rfl ?_
            refine State.modHlm_keeps rfl ?_
            refine State.modHlm_keeps rfl ?_
            exact Keeps.refl _ _
          · refine State.setFld_keeps (n := 14) (show unitOf 57344 = 14 from rfl) rfl rfl ?_
            refine State.modHlm_keeps rfl ?_
            refine State.modHlm_keeps rfl ?_
            exact Keeps.refl _ _
      · refine State.setWord_keeps (n := 14) (show unitOf 57376 = 14 from rfl) rfl rfl ?_
        refine State.modHlm_keeps rfl ?_
        try extract_lets -underBinder
        first | split | (dsimp +zetaDelta only; split)
        · refine State.modHlm_keeps rfl ?_
          exact Keeps.refl _ _
        · refine Keeps.ite ?_ ?_
          · refine State.modHlm_keeps rfl ?_
            refine State.setFld_keeps (n := 14) (show unitOf 57344 = 14 from rfl) rfl rfl ?_
            refine State.modHlm_keeps rfl ?_
            refine State.modHlm_keeps rfl ?_
            exact Keeps.refl _ _
          · refine State.setFld_keeps (n := 14) (show unitOf 57344 = 14 from rfl) rfl rfl ?_
            refine State.modHlm_keeps rfl ?_
            refine State.modHlm_keeps rfl ?_
            exact Keeps.refl _ _
    · refine State.setWord_keeps (n := 14) (show unitOf 57380 = 14 from rfl) rfl rfl ?_
      refine State.modHlm_keeps rfl ?_
      try extract_lets -underBinder
      first | split | (dsimp +zetaDelta only; split)
      · try extract_lets -underBinder
        first | split | (dsimp +zetaDelta only; split)
        · refine State.modHlm_keeps rfl ?_
          exact Keeps.refl _ _
        · refine Keeps.ite ?_ ?_
          · refine State.modHlm_keeps rfl ?_
            refine State.setFld_keeps (n := 14) (show unitOf 57344 = 14 from rfl) rfl rfl ?_
            refine State.modHlm_keeps rfl ?_
            refine State.modHlm_keeps rfl ?_
            exact Keeps.refl _ _
          · refine State.setFld_keeps (n := 14) (show unitOf 57344 = 14 from rfl) rfl rfl ?_
            refine State.modHlm_keeps rfl ?_
            refine State.modHlm_keeps rfl ?_
            exact Keeps.refl _ _
      · refine State.setWord_keeps (n := 14) (show unitOf 57376 = 14 from rfl) rfl rfl ?_
        refine State.modHlm_keeps rfl ?_
        try extract_lets -underBinder
        first | split | (dsimp +zetaDelta only; split)
        · refine State.modHlm_keeps rfl ?_
          exact Keeps.refl _ _
        · refine Keeps.ite ?_ ?_
          · refine State.modHlm_keeps rfl ?_
            refine State.setFld_keeps (n := 14) (show unitOf 57344 = 14 from rfl) rfl rfl ?_
            refine State.modHlm_keeps rfl ?_
            refine State.modHlm_keeps rfl ?_
            exact Keeps.refl _ _
          · refine State.setFld_keeps (n := 14) (show unitOf 57344 = 14 from rfl) rfl rfl ?_
            refine State.modHlm_keeps rfl ?_
            refine State.modHlm_keeps rfl ?_
            exact Keeps.refl _ _
  · refine State.setWord_keeps (n := 14) (show unitOf 57388 = 14 from rfl) rfl rfl ?_
    refine State.modHlm_keeps rfl ?_
    try extract_lets -underBinder
    first | split | (dsimp +zetaDelta only; split)
    · try extract_lets -underBinder
      first | split | (dsimp +zetaDelta only; split)
      · try extract_lets -underBinder
        first | split | (dsimp +zetaDelta only; split)
        · refine State.modHlm_keeps rfl ?_
          exact Keeps.refl _ _
        · refine Keeps.ite ?_ ?_
          · refine State.modHlm_keeps rfl ?_
            refine State.setFld_keeps (n := 14) (show unitOf 57344 = 14 from rfl) rfl rfl ?_
            refine State.modHlm_keeps rfl ?_
            refine State.modHlm_keeps rfl ?_
            exact Keeps.refl _ _
          · refine State.setFld_keeps (n := 14) (show unitOf 57344 = 14 from rfl) rfl rfl ?_
            refine State.modHlm_keeps rfl ?_
            refine State.modHlm_keeps rfl ?_
            exact Keeps.refl _ _
      · refine State.setWord_keeps (n := 14) (show unitOf 57376 = 14 from rfl) rfl rfl ?_
        refine State.modHlm_keeps rfl ?_
        try extract_lets -underBinder
        first | split | (dsimp +zetaDelta only; split)
        · refine State.modHlm_keeps rfl ?_
          exact Keeps.refl _ _
        · refine Keeps.ite ?_ ?_
          · refine State.modHlm_keeps rfl ?_
            refine State.setFld_keeps (n := 14) (show unitOf 57344 = 14 from rfl) rfl rfl ?_
            refine State.modHlm_keeps rfl ?_
            refine State.modHlm_keeps rfl ?_
            exact Keeps.refl _ _
          · refine State.setFld_keeps (n := 14) (show unitOf 57344 = 14 from rfl) rfl rfl ?_
            refine State.modHlm_keeps rfl ?_
            refine State.modHlm_keeps rfl ?_
            exact Keeps.refl _ _
    · refine State.setWord_keeps (n := 14) (show unitOf 57380 = 14 from rfl) rfl rfl ?_
      refine State.modHlm_keeps rfl ?_
      try extract_lets -underBinder
      first | split | (dsimp +zetaDelta only; split)
      · try extract_lets -underBinder
        first | split | (dsimp +zetaDelta only; split)
        · refine State.modHlm_keeps rfl ?_
          exact Keeps.refl _ _
        · refine Keeps.ite ?_ ?_
          · refine State.modHlm_keeps rfl ?_
            refine State.setFld_keeps (n := 14) (show unitOf 57344 = 14 from rfl) rfl rfl ?_
            refine State.modHlm_keeps rfl ?_
            refine State.modHlm_keeps rfl ?_
            exact Keeps.refl _ _
          · refine State.setFld_keeps (n := 14) (show unitOf 57344 = 14 from rfl) rfl rfl ?_
            refine State.modHlm_keeps rfl ?_
            refine State.modHlm_keeps rfl ?_
            exact Keeps.refl _ _
      · refine State.setWord_keeps (n := 14) (show unitOf 57376 = 14 from rfl) rfl rfl ?_
        refine State.modHlm_keeps rfl ?_
        try extract_lets -underBinder
        first | split | (dsimp +zetaDelta only; split)
        · refine State.modHlm_keeps rfl ?_
          exact Keeps.refl _ _
        · refine Keeps.ite ?_ ?_
          · refine State.modHlm_keeps rfl ?_
            refine State.setFld_keeps (n := 14) (show unitOf 57344 = 14 from rfl) rfl rfl ?_
            refine State.modHlm_keeps rfl ?_
            refine State.modHlm_keeps rfl ?_
            exact Keeps.refl _ _
          · refine State.setFld_keeps (n := 14) (show unitOf 57344 = 14 from rfl) rfl rfl ?_
            refine State.modHlm_keeps rfl ?_
            refine State.modHlm_keeps rfl ?_
            exact Keeps.refl _ _

theorem State.controlLaw_keeps {m : Nat} {s u : State} {o : Sys2Proof.Machine.HelmOut} {legs : List Sys2Proof.Machine.Fl} (hm : m ||| 70368744194052 = m) (h : Keeps m s u) :
    Keeps m s (State.controlLaw u o legs) := by
  refine Keeps.next hm h ?_
  clear hm h
  unfold State.controlLaw
  refine State.setWord_keeps (n := 14) (show unitOf 57444 = 14 from rfl) rfl rfl ?_
  refine State.setWord_keeps (n := 14) (show unitOf 57440 = 14 from rfl) rfl rfl ?_
  refine State.setWord_keeps (n := 14) (show unitOf 57464 = 14 from rfl) rfl rfl ?_
  refine State.setFld_keeps (n := 14) (show unitOf 57460 = 14 from rfl) rfl rfl ?_
  refine State.setHeld_keeps (n := 14) (show unitOf 57348 = 14 from rfl) rfl rfl ?_
  refine State.modHlm_keeps rfl ?_
  exact Keeps.refl _ _

theorem State.takeCoefs_keeps {m : Nat} {s u : State} (hm : m ||| 70368744194052 = m) (h : Keeps m s u) :
    Keeps m s (State.takeCoefs u) := by
  refine Keeps.next hm h ?_
  clear hm h
  unfold State.takeCoefs
  refine State.setWord_keeps (n := 14) (show unitOf 57404 = 14 from rfl) rfl rfl ?_
  refine State.modHlm_keeps rfl ?_
  exact Keeps.refl _ _

end Sys2Proof.Machine
end

