-- ==== Sys2Proof/Laws/KeepsPmc.lean ====
section
/-! SUPPORT. What each function of Machine/Pmc.lean can change. -/

namespace Sys2Proof.Machine

theorem State.pmcSelCheck_keeps {m : Nat} {s u : State} (hm : m ||| 72057594037927940 = m) (h : Keeps m s u) :
    Keeps m s (State.pmcSelCheck u) := by
  refine Keeps.next hm h ?_
  clear hm h
  unfold State.pmcSelCheck
  refine State.when_keeps (fun _ => ?_) ?_
  · refine State.setFld_keeps (n := 24) (show unitOf 98304 = 24 from rfl) rfl rfl ?_
    exact Keeps.refl _ _
  · exact Keeps.refl _ _

theorem State.modPmc_keeps {m : Nat} {s u : State} {f : Sys2Proof.Machine.PmcSt → Sys2Proof.Machine.PmcSt} (hm : m ||| 1048576 = m) (h : Keeps m s u) :
    Keeps m s (State.modPmc u f) := by
  refine Keeps.next hm h ?_
  clear hm h
  unfold State.modPmc
  refine Keeps.mk_pmc rfl ?_
  exact Keeps.refl _ _

theorem State.pmcAdd_keeps {m : Nat} {s u : State} {n a i k : Nat} (hm : m ||| 72057594038976516 = m) (h : Keeps m s u) : Keeps m s (u.pmcAdd n a i k) := by
  refine Keeps.next hm h ?_
  clear hm h
  induction a generalizing u i k with
  | zero => exact Keeps.refl _ _
  | succ a ih =>
    unfold State.pmcAdd
    dsimp only
    split
    · exact State.modPmc_keeps rfl (Keeps.refl _ _)
    · split
      · exact Keeps.next rfl (State.setFld_keeps (n := 24) (show unitOf Reg.PMC_OVF = 24 from rfl) rfl rfl (State.modPmc_keeps rfl (Keeps.refl _ _))) ih
      · exact State.setFld_keeps (n := 24) (show unitOf Reg.PMC_OVF = 24 from rfl) rfl rfl (State.modPmc_keeps rfl (Keeps.refl _ _))

theorem State.pmcEvent_keeps {m : Nat} {s u : State} {x1 : Nat} {code : Nat} {n : Nat} (hm : m ||| 72057594038976516 = m) (h : Keeps m s u) :
    Keeps m s (State.pmcEvent u x1 code n) := by
  refine Keeps.next hm h ?_
  clear hm h
  unfold State.pmcEvent
  refine Keeps.ite ?_ ?_
  · exact Keeps.refl _ _
  · refine Keeps.foldl (fun _ _ => ?_) ?_
    · refine Keeps.ite ?_ ?_
      · refine State.pmcAdd_keeps rfl ?_
        exact Keeps.refl _ _
      · exact Keeps.refl _ _
    · exact Keeps.refl _ _

theorem State.pmcUnit_keeps {m : Nat} {s u : State} {x1 : Nat} (hm : m ||| 72057594038976517 = m) (h : Keeps m s u) :
    Keeps m s (State.pmcUnit u x1) := by
  refine Keeps.next hm h ?_
  clear hm h
  unfold State.pmcUnit
  refine State.pmcEvent_keeps rfl ?_
  refine State.pmcEvent_keeps rfl ?_
  refine State.pmcEvent_keeps rfl ?_
  refine State.pmcEvent_keeps rfl ?_
  refine State.pmcEvent_keeps rfl ?_
  refine State.modPmc_keeps rfl ?_
  refine State.freshNat_keeps rfl ?_
  refine State.freshNat_keeps rfl ?_
  exact Keeps.refl _ _

theorem State.pmcSync_keeps {m : Nat} {s u : State} (hm : m ||| 72057594038976517 = m) (h : Keeps m s u) :
    Keeps m s (State.pmcSync u) := by
  refine Keeps.next hm h ?_
  clear hm h
  unfold State.pmcSync
  refine State.modPmc_keeps rfl ?_
  refine Keeps.ite ?_ ?_
  · refine Keeps.foldl (fun _ _ => ?_) ?_
    · refine State.pmcUnit_keeps rfl ?_
      exact Keeps.refl _ _
    · exact Keeps.refl _ _
  · exact Keeps.refl _ _

theorem State.pmcCommand_keeps {m : Nat} {s u : State} {c : Nat} (hm : m ||| 72057594038976517 = m) (h : Keeps m s u) :
    Keeps m s (State.pmcCommand u c) := by
  refine Keeps.next hm h ?_
  clear hm h
  unfold State.pmcCommand
  extract_lets -merge -useContext -underBinder y1
  refine Keeps.next (t := y1) (Nat.or_self _) ?_ ?_
  · refine State.pmcSync_keeps rfl ?_
    exact Keeps.refl _ _
  · clear_value y1
    try extract_lets -underBinder
    first | split | (dsimp +zetaDelta only; split)
    · refine State.setFld_keeps (n := 24) (show unitOf 98304 = 24 from rfl) rfl rfl ?_
      exact Keeps.refl _ _
    · refine State.setFld_keeps (n := 24) (show unitOf 98304 = 24 from rfl) rfl rfl ?_
      exact Keeps.refl _ _
    · refine State.setFld_keeps (n := 24) (show unitOf 98304 = 24 from rfl) rfl rfl ?_
      refine Keeps.foldl (fun _ _ => ?_) ?_
      · refine Keeps.foldl (fun _ _ => ?_) ?_
        · try extract_lets -underBinder
          first | split | (dsimp +zetaDelta only; split)
          · refine State.setWord_keeps (n := 24) (unit_PMC_SNAP _ _) rfl rfl ?_
            exact Keeps.refl _ _
        · exact Keeps.refl _ _
      · exact Keeps.refl _ _
    · refine State.setFld_keeps (n := 24) (show unitOf 98304 = 24 from rfl) rfl rfl ?_
      refine State.setWord_keeps (n := 24) (show unitOf 98308 = 24 from rfl) rfl rfl ?_
      refine State.modPmc_keeps rfl ?_
      exact Keeps.refl _ _

theorem State.pmcctlWrite_keeps {m : Nat} {s u : State} {v : Sys2Proof.Word} (hm : m ||| 72057594038976517 = m) (h : Keeps m s u) :
    Keeps m s (State.pmcctlWrite u v) := by
  refine Keeps.next hm h ?_
  clear hm h
  unfold State.pmcctlWrite
  refine State.pmcSelCheck_keeps rfl ?_
  refine State.when_keeps (fun _ => ?_) ?_
  · refine State.setFld_keeps (n := 24) (show unitOf 98304 = 24 from rfl) rfl rfl ?_
    exact Keeps.refl _ _
  · refine State.pmcCommand_keeps rfl ?_
    exact Keeps.refl _ _

theorem execPmcStop_keeps {t : Nat} {x1 : Sys2Proof.Master} (u : State) : ∃ nxt, execPmcStop t x1 u = .next nxt ∧ Keeps 72057594038976551 u nxt := by
  refine ⟨_, rfl, ?_⟩
  refine State.pmcctlWrite_keeps rfl ?_
  refine State.at_keeps rfl ?_
  exact Keeps.refl _ _

theorem State.pmcSelWrite_keeps {m : Nat} {s u : State} {x1 : Nat} {i : Nat} {v : Sys2Proof.Word} (hm : m ||| 72057594038976517 = m) (h : Keeps m s u) :
    Keeps m s (State.pmcSelWrite u x1 i v) := by
  refine Keeps.next hm h ?_
  clear hm h
  unfold State.pmcSelWrite
  refine State.pmcSelCheck_keeps rfl ?_
  refine State.setWord_keeps (n := 24) (unit_PMC_SEL _ _) rfl rfl ?_
  refine State.pmcSync_keeps rfl ?_
  exact Keeps.refl _ _

theorem execPmcFreeze_keeps {t : Nat} {x1 : Sys2Proof.Master} (u : State) : ∃ nxt, execPmcFreeze t x1 u = .next nxt ∧ Keeps 72057594038976551 u nxt := by
  refine ⟨_, rfl, ?_⟩
  refine State.pmcctlWrite_keeps rfl ?_
  refine State.at_keeps rfl ?_
  exact Keeps.refl _ _

theorem State.pmcRetired_keeps {m : Nat} {s u : State} {x1 : Nat} (hm : m ||| 1048576 = m) (h : Keeps m s u) :
    Keeps m s (State.pmcRetired u x1) := by
  refine Keeps.next hm h ?_
  clear hm h
  unfold State.pmcRetired
  refine State.when_keeps (fun _ => ?_) ?_
  · refine State.modPmc_keeps rfl ?_
    exact Keeps.refl _ _
  · exact Keeps.refl _ _

theorem execPmcClear_keeps {t : Nat} {x1 : Sys2Proof.Master} (u : State) : ∃ nxt, execPmcClear t x1 u = .next nxt ∧ Keeps 72057594038976551 u nxt := by
  refine ⟨_, rfl, ?_⟩
  refine State.pmcctlWrite_keeps rfl ?_
  refine State.at_keeps rfl ?_
  exact Keeps.refl _ _

theorem execPmcStart_keeps {t : Nat} {x1 : Sys2Proof.Master} (u : State) : ∃ nxt, execPmcStart t x1 u = .next nxt ∧ Keeps 72057594038976551 u nxt := by
  refine ⟨_, rfl, ?_⟩
  refine State.pmcctlWrite_keeps rfl ?_
  refine State.at_keeps rfl ?_
  exact Keeps.refl _ _

theorem State.pmcWasted_keeps {m : Nat} {s u : State} {x1 : Nat} (hm : m ||| 1048576 = m) (h : Keeps m s u) :
    Keeps m s (State.pmcWasted u x1) := by
  refine Keeps.next hm h ?_
  clear hm h
  unfold State.pmcWasted
  refine State.when_keeps (fun _ => ?_) ?_
  · refine State.modPmc_keeps rfl ?_
    exact Keeps.refl _ _
  · exact Keeps.refl _ _

end Sys2Proof.Machine
end

