-- ==== Sys2Proof/Laws/KeepsAlmanac.lean ====
section
/-! SUPPORT. What each function of Machine/Almanac.lean can change. -/

namespace Sys2Proof.Machine

theorem State.evUse_keeps {m : Nat} {s u : State} {f : Nat} (hm : m ||| 1099512152068 = m) (h : Keeps m s u) :
    Keeps m s (State.evUse u f) := by
  refine Keeps.next hm h ?_
  clear hm h
  unfold State.evUse
  refine State.setFld_keeps (n := 8) (unit_ALM_EVSTS _) rfl rfl ?_
  refine Keeps.mk_alm rfl ?_
  exact Keeps.refl _ _

theorem State.setWatch_keeps {m : Nat} {s u : State} {w : Nat} {x : Sys2Proof.Machine.Watch} (hm : m ||| 524288 = m) (h : Keeps m s u) :
    Keeps m s (State.setWatch u w x) := by
  refine Keeps.next hm h ?_
  clear hm h
  unfold State.setWatch
  refine Keeps.mk_alm rfl ?_
  exact Keeps.refl _ _

theorem State.updWatch_keeps {m : Nat} {s u : State} {w : Nat} {f : Sys2Proof.Machine.Watch → Sys2Proof.Machine.Watch} (hm : m ||| 524288 = m) (h : Keeps m s u) :
    Keeps m s (State.updWatch u w f) := by
  refine Keeps.next hm h ?_
  clear hm h
  unfold State.updWatch
  refine State.setWatch_keeps rfl ?_
  exact Keeps.refl _ _

theorem State.meet_keeps {m : Nat} {s u : State} {w : Nat} {x2 : Sys2Proof.Machine.Met} (hm : m ||| 524288 = m) (h : Keeps m s u) :
    Keeps m s (State.meet u w x2) := by
  refine Keeps.next hm h ?_
  clear hm h
  unfold State.meet
  refine State.updWatch_keeps rfl ?_
  exact Keeps.refl _ _

theorem State.tell_keeps {m : Nat} {s u : State} {w : Nat} {p : Nat → Nat → Bool} {x3 : Sys2Proof.Machine.Met} (hm : m ||| 524288 = m) (h : Keeps m s u) :
    Keeps m s (State.tell u w p x3) := by
  refine Keeps.next hm h ?_
  clear hm h
  unfold State.tell
  refine Keeps.ite ?_ ?_
  · refine State.meet_keeps rfl ?_
    exact Keeps.refl _ _
  · try extract_lets -underBinder
    first | split | (dsimp +zetaDelta only; split)
    · refine State.updWatch_keeps rfl ?_
      exact Keeps.refl _ _
    · exact Keeps.refl _ _

theorem State.meetAll_keeps {m : Nat} {s u : State} {p : Nat → Nat → Bool} {x2 : Sys2Proof.Machine.Met} (hm : m ||| 524288 = m) (h : Keeps m s u) :
    Keeps m s (State.meetAll u p x2) := by
  refine Keeps.next hm h ?_
  clear hm h
  unfold State.meetAll
  refine Keeps.foldl (fun _ _ => ?_) ?_
  · refine Keeps.ite ?_ ?_
    · refine State.tell_keeps rfl ?_
      exact Keeps.refl _ _
    · exact Keeps.refl _ _
  · exact Keeps.refl _ _

theorem State.evSet_keeps {m : Nat} {s u : State} {f : Nat} (hm : m ||| 1099512152068 = m) (h : Keeps m s u) :
    Keeps m s (State.evSet u f) := by
  refine Keeps.next hm h ?_
  clear hm h
  unfold State.evSet
  extract_lets -merge -useContext -underBinder y1 y2 y3
  refine Keeps.next (t := y2) (Nat.or_self _) ?_ ?_
  · refine Keeps.mk_alm rfl ?_
    exact Keeps.refl _ _
  · clear_value y2
    refine Keeps.ite ?_ ?_
    · refine State.evUse_keeps rfl ?_
      refine State.meetAll_keeps rfl ?_
      exact Keeps.refl _ _
    · refine Keeps.ite ?_ ?_
      · exact Keeps.refl _ _
      · refine State.setFld_keeps (n := 8) (unit_ALM_EVSTS _) rfl rfl ?_
        exact Keeps.refl _ _

theorem State.almCancel_keeps {m : Nat} {s u : State} {w : Nat} (hm : m ||| 1099512152068 = m) (h : Keeps m s u) :
    Keeps m s (State.almCancel u w) := by
  refine Keeps.next hm h ?_
  clear hm h
  unfold State.almCancel
  refine State.setWord_keeps (n := 8) (show unitOf 32808 = 8 from rfl) rfl rfl ?_
  refine State.updWatch_keeps rfl ?_
  exact Keeps.refl _ _

theorem State.modGate_keeps {m : Nat} {s u : State} {w : Nat} {f : Sys2Proof.Machine.Gate → Sys2Proof.Machine.Gate} (hm : m ||| 524288 = m) (h : Keeps m s u) :
    Keeps m s (State.modGate u w f) := by
  refine Keeps.next hm h ?_
  clear hm h
  unfold State.modGate
  refine Keeps.mk_alm rfl ?_
  exact Keeps.refl _ _

theorem State.openGate_keeps {m : Nat} {s u : State} {w : Nat} {ahead : Nat} (hm : m ||| 524288 = m) (h : Keeps m s u) :
    Keeps m s (State.openGate u w ahead) := by
  refine Keeps.next hm h ?_
  clear hm h
  unfold State.openGate
  refine State.modGate_keeps rfl ?_
  exact Keeps.refl _ _

theorem State.almStart_keeps {m : Nat} {s u : State} (hm : m ||| 1099512152068 = m) (h : Keeps m s u) :
    Keeps m s (State.almStart u) := by
  refine Keeps.next hm h ?_
  clear hm h
  unfold State.almStart
  refine Keeps.ite ?_ ?_
  · refine State.raiseEv_keeps (n := 8) (show unitOf 32800 = 8 from rfl) rfl rfl ?_
    exact Keeps.refl _ _
  · refine State.updWatch_keeps rfl ?_
    refine State.openGate_keeps rfl ?_
    refine State.setFld_keeps (n := 8) (show unitOf 32768 = 8 from rfl) rfl rfl ?_
    exact Keeps.refl _ _

theorem State.evClear_keeps {m : Nat} {s u : State} {f : Nat} (hm : m ||| 1099511627780 = m) (h : Keeps m s u) :
    Keeps m s (State.evClear u f) := by
  refine Keeps.next hm h ?_
  clear hm h
  unfold State.evClear
  refine Keeps.ite ?_ ?_
  · exact Keeps.refl _ _
  · refine State.setFld_keeps (n := 8) (unit_ALM_EVSTS _) rfl rfl ?_
    exact Keeps.refl _ _

theorem State.act_keeps {m : Nat} {s u : State} {w : Nat} {x2 : Sys2Proof.Machine.Act} (hm : m ||| 92448037176951877 = m) (h : Keeps m s u) :
    Keeps m s (State.act u w x2).2 := by
  refine Keeps.next hm h ?_
  clear hm h
  unfold State.act
  try extract_lets -underBinder
  first | split | (dsimp +zetaDelta only; split)
  · refine Keeps.pair2 ?_
    refine State.balLaunch_keeps rfl ?_
    exact Keeps.refl _ _
  · refine Keeps.pair2 ?_
    refine State.excStart_keeps rfl ?_
    exact Keeps.refl _ _
  · refine Keeps.pair2 ?_
    refine State.excStop_keeps rfl ?_
    exact Keeps.refl _ _
  · refine Keeps.ite2 ?_ ?_
    · refine Keeps.pair2 ?_
      refine State.raiseEv_keeps (n := 14) (show unitOf 57348 = 14 from rfl) rfl rfl ?_
      exact Keeps.refl _ _
    · refine Keeps.pair2 ?_
      refine State.spWrite_keeps rfl ?_
      exact Keeps.refl _ _
  · refine Keeps.ite2 ?_ ?_
    · refine Keeps.pair2 ?_
      refine State.evSet_keeps rfl ?_
      exact Keeps.refl _ _
    · refine Keeps.ite2 ?_ ?_
      · refine Keeps.pair2 ?_
        refine State.evClear_keeps rfl ?_
        exact Keeps.refl _ _
      · refine Keeps.pair2 ?_
        refine State.logEvent_keeps rfl ?_
        exact Keeps.refl _ _
  · refine Keeps.pair2 ?_
    refine State.canQueue_keeps rfl ?_
    exact Keeps.refl _ _
  · refine Keeps.pair2 ?_
    refine State.pmcCommand_keeps rfl ?_
    exact Keeps.refl _ _

theorem State.setLate_keeps {m : Nat} {s u : State} {w : Nat} (hm : m ||| 1099512152068 = m) (h : Keeps m s u) :
    Keeps m s (State.setLate u w) := by
  refine Keeps.next hm h ?_
  clear hm h
  unfold State.setLate
  refine State.raiseEv_keeps (n := 8) (show unitOf 32800 = 8 from rfl) rfl rfl ?_
  refine State.setFld_keeps (n := 8) (unit_ALM_LATE _) rfl rfl ?_
  refine State.updWatch_keeps rfl ?_
  exact Keeps.refl _ _

theorem State.answer_keeps {m : Nat} {s u : State} {x1 : Nat} {v : Sys2Proof.Word} (hm : m ||| 8 = m) (h : Keeps m s u) :
    Keeps m s (State.answer u x1 v) := by
  refine Keeps.next hm h ?_
  clear hm h
  unfold State.answer
  refine Keeps.mk_lastRead rfl ?_
  exact Keeps.refl _ _

theorem State.dmAccess_keeps {m : Nat} {s u : State} {a : Sys2Proof.Machine.MemAcc} (hm : m ||| 524296 = m) (h : Keeps m s u) :
    Keeps m s (State.dmAccess u a) := by
  refine Keeps.next hm h ?_
  clear hm h
  unfold State.dmAccess
  refine Keeps.foldl (fun _ _ => ?_) ?_
  · refine Keeps.ite ?_ ?_
    · refine State.answer_keeps rfl ?_
      exact Keeps.refl _ _
    · refine State.updWatch_keeps rfl ?_
      exact Keeps.refl _ _
  · refine Keeps.mk_alm rfl ?_
    exact Keeps.refl _ _

theorem execDataMemoryAccess_keeps {t : Nat} {x1 : Sys2Proof.Master} {wr : Bool} {idx : Nat} {v : Sys2Proof.Word} (u : State) : ∃ nxt, execDataMemoryAccess t x1 wr idx v u = .next nxt ∧ Keeps 524330 u nxt := by
  refine ⟨_, rfl, ?_⟩
  refine State.dmAccess_keeps rfl ?_
  refine State.at_keeps rfl ?_
  exact Keeps.refl _ _

theorem State.almKill_keeps {m : Nat} {s u : State} {w : Nat} (hm : m ||| 1099512152068 = m) (h : Keeps m s u) :
    Keeps m s (State.almKill u w) := by
  refine Keeps.next hm h ?_
  clear hm h
  unfold State.almKill
  refine State.updWatch_keeps rfl ?_
  refine State.almCancel_keeps rfl ?_
  exact Keeps.refl _ _

theorem State.almLoad_keeps {m : Nat} {s u : State} (hm : m ||| 1103807119380 = m) (h : Keeps m s u) :
    Keeps m s (State.almLoad u) := by
  refine Keeps.next hm h ?_
  clear hm h
  unfold State.almLoad
  refine Keeps.mk_alm rfl ?_
  refine State.setFld_keeps (n := 8) (show unitOf 32768 = 8 from rfl) rfl rfl ?_
  refine State.setWord_keeps (n := 8) (show unitOf 32836 = 8 from rfl) rfl rfl ?_
  refine State.setWord_keeps (n := 8) (show unitOf 32832 = 8 from rfl) rfl rfl ?_
  refine State.freeLocks_keeps rfl ?_
  refine Keeps.foldl (fun _ _ => ?_) ?_
  · refine State.almKill_keeps rfl ?_
    exact Keeps.refl _ _
  · exact Keeps.refl _ _

theorem State.almctlWrite_keeps {m : Nat} {s u : State} {v : Sys2Proof.Word} (hm : m ||| 1103807119380 = m) (h : Keeps m s u) :
    Keeps m s (State.almctlWrite u v) := by
  refine Keeps.next hm h ?_
  clear hm h
  unfold State.almctlWrite
  refine Keeps.ite ?_ ?_
  · extract_lets -merge -useContext -underBinder y1
    refine Keeps.next (t := y1) (Nat.or_self _) ?_ ?_
    · refine State.almLoad_keeps rfl ?_
      exact Keeps.refl _ _
    · clear_value y1
      refine Keeps.ite ?_ ?_
      · refine State.raiseEv_keeps (n := 8) (show unitOf 32800 = 8 from rfl) rfl rfl ?_
        exact Keeps.refl _ _
      · exact Keeps.refl _ _
  · refine Keeps.ite ?_ ?_
    · refine State.almStart_keeps rfl ?_
      exact Keeps.refl _ _
    · exact Keeps.refl _ _

theorem execProgramStart_keeps {t : Nat} {x1 : Sys2Proof.Master} {v : Sys2Proof.Word} (u : State) : ∃ nxt, execProgramStart t x1 v u = .next nxt ∧ Keeps 1103807119414 u nxt := by
  refine ⟨_, rfl, ?_⟩
  refine State.almctlWrite_keeps rfl ?_
  refine State.at_keeps rfl ?_
  exact Keeps.refl _ _

theorem State.almKillEnd_keeps {m : Nat} {s u : State} {w : Nat} (hm : m ||| 1099512152068 = m) (h : Keeps m s u) :
    Keeps m s (State.almKillEnd u w) := by
  refine Keeps.next hm h ?_
  clear hm h
  unfold State.almKillEnd
  refine Keeps.ite ?_ ?_
  · exact Keeps.refl _ _
  · refine Keeps.mk_alm rfl ?_
    refine State.almKill_keeps rfl ?_
    exact Keeps.refl _ _

theorem State.almFault_keeps {m : Nat} {s u : State} {w : Nat} {code : Nat} (hm : m ||| 18015498022682692 = m) (h : Keeps m s u) :
    Keeps m s (State.almFault u w code) := by
  refine Keeps.next hm h ?_
  clear hm h
  unfold State.almFault
  refine State.pmcWasted_keeps rfl ?_
  refine State.logEvent_keeps rfl ?_
  refine State.raiseEv_keeps (n := 8) (show unitOf 32800 = 8 from rfl) rfl rfl ?_
  refine State.setFld_keeps (n := 8) (show unitOf 32804 = 8 from rfl) rfl rfl ?_
  refine State.setFld_keeps (n := 8) (show unitOf 32804 = 8 from rfl) rfl rfl ?_
  refine State.setFld_keeps (n := 8) (show unitOf 32804 = 8 from rfl) rfl rfl ?_
  refine State.updWatch_keeps rfl ?_
  refine State.almCancel_keeps rfl ?_
  exact Keeps.refl _ _

theorem State.issueMark_keeps {m : Nat} {s u : State} {w : Nat} (hm : m ||| 524288 = m) (h : Keeps m s u) :
    Keeps m s (State.issueMark u w) := by
  refine Keeps.next hm h ?_
  clear hm h
  unfold State.issueMark
  refine State.modGate_keeps rfl ?_
  refine Keeps.mk_alm rfl ?_
  exact Keeps.refl _ _

theorem State.undie_keeps {m : Nat} {s u : State} {d : Sys2Proof.Machine.Dying} (hm : m ||| 1099512152068 = m) (h : Keeps m s u) :
    Keeps m s (State.undie u d) := by
  refine Keeps.next hm h ?_
  clear hm h
  unfold State.undie
  refine Keeps.mk_alm rfl ?_
  refine State.setWord_keeps (n := 8) (show unitOf 32808 = 8 from rfl) rfl rfl ?_
  refine State.setWatch_keeps rfl ?_
  exact Keeps.refl _ _

theorem State.revive_keeps {m : Nat} {s u : State} {w : Nat} (hm : m ||| 1099512152068 = m) (h : Keeps m s u) :
    Keeps m s (State.revive u w).2 := by
  refine Keeps.next hm h ?_
  clear hm h
  unfold State.revive
  try extract_lets -underBinder
  first | split | (dsimp +zetaDelta only; split)
  · refine Keeps.pair2 ?_
    refine State.undie_keeps rfl ?_
    exact Keeps.refl _ _
  · refine Keeps.pair2 ?_
    exact Keeps.refl _ _

theorem State.issueBad_keeps {m : Nat} {s u : State} {w : Nat} {code : Nat} {p : Sys2Proof.Machine.State → Bool} (hm : m ||| 18015498022682692 = m) (h : Keeps m s u) :
    Keeps m s (State.issueBad u w code p) := by
  refine Keeps.next hm h ?_
  clear hm h
  unfold State.issueBad
  refine Keeps.ite ?_ ?_
  · refine State.when_keeps (fun _ => ?_) ?_
    · refine State.almKillEnd_keeps rfl ?_
      exact Keeps.refl _ _
    · refine State.almFault_keeps rfl ?_
      refine State.issueMark_keeps rfl ?_
      refine State.revive_keeps rfl ?_
      exact Keeps.refl _ _
  · exact Keeps.refl _ _

theorem State.slotsChanged_keeps {m : Nat} {s u : State} {w : Nat} (hm : m ||| 524288 = m) (h : Keeps m s u) :
    Keeps m s (State.slotsChanged u w) := by
  refine Keeps.next hm h ?_
  clear hm h
  unfold State.slotsChanged
  refine Keeps.ite ?_ ?_
  · refine State.tell_keeps rfl ?_
    exact Keeps.refl _ _
  · exact Keeps.refl _ _

theorem State.evRegWrite_keeps {m : Nat} {s u : State} {off : Nat} {v : Sys2Proof.Word} (hm : m ||| 1099512152068 = m) (h : Keeps m s u) :
    Keeps m s (State.evRegWrite u off v) := by
  refine Keeps.next hm h ?_
  clear hm h
  unfold State.evRegWrite
  refine Keeps.ite ?_ ?_
  · refine Keeps.foldl (fun _ _ => ?_) ?_
    · refine State.evSet_keeps rfl ?_
      exact Keeps.refl _ _
    · exact Keeps.refl _ _
  · refine Keeps.ite ?_ ?_
    · refine Keeps.foldl (fun _ _ => ?_) ?_
      · refine State.evSet_keeps rfl ?_
        exact Keeps.refl _ _
      · exact Keeps.refl _ _
    · refine Keeps.ite ?_ ?_
      · refine Keeps.foldl (fun _ _ => ?_) ?_
        · refine State.evClear_keeps rfl ?_
          exact Keeps.refl _ _
        · exact Keeps.refl _ _
      · refine Keeps.ite ?_ ?_
        · refine Keeps.foldl (fun _ _ => ?_) ?_
          · refine State.evClear_keeps rfl ?_
            exact Keeps.refl _ _
          · exact Keeps.refl _ _
        · exact Keeps.refl _ _

theorem execEvflagHostWrite_keeps {t : Nat} {x1 : Sys2Proof.Master} {off : Nat} {v : Sys2Proof.Word} (u : State) : ∃ nxt, execEvflagHostWrite t x1 off v u = .next nxt ∧ Keeps 1099512152102 u nxt := by
  refine ⟨_, rfl, ?_⟩
  refine State.evRegWrite_keeps rfl ?_
  refine State.at_keeps rfl ?_
  exact Keeps.refl _ _

theorem State.aluPut_keeps {m : Nat} {s u : State} {w : Nat} {d : Nat} {o : Sys2Proof.Machine.AluOut} (hm : m ||| 524288 = m) (h : Keeps m s u) :
    Keeps m s (State.aluPut u w d o) := by
  refine Keeps.next hm h ?_
  clear hm h
  unfold State.aluPut
  refine State.updWatch_keeps rfl ?_
  exact Keeps.refl _ _

theorem State.launch_keeps {m : Nat} {s u : State} {w : Nat} {a : Sys2Proof.Machine.Act} {late : Bool} (hm : m ||| 92448037176951877 = m) (h : Keeps m s u) :
    Keeps m s (State.launch u w a late) := by
  refine Keeps.next hm h ?_
  clear hm h
  unfold State.launch
  try extract_lets -underBinder
  first | split | (dsimp +zetaDelta only; split)
  · refine Keeps.ite ?_ ?_
    · refine State.act_keeps rfl ?_
      refine State.when_keeps (fun _ => ?_) ?_
      · refine State.pmcEvent_keeps rfl ?_
        refine State.setLate_keeps rfl ?_
        exact Keeps.refl _ _
      · exact Keeps.refl _ _
    · refine State.canDrop_keeps rfl ?_
      refine State.act_keeps rfl ?_
      refine State.when_keeps (fun _ => ?_) ?_
      · refine State.pmcEvent_keeps rfl ?_
        refine State.setLate_keeps rfl ?_
        exact Keeps.refl _ _
      · exact Keeps.refl _ _
  · refine State.act_keeps rfl ?_
    refine State.when_keeps (fun _ => ?_) ?_
    · refine State.pmcEvent_keeps rfl ?_
      refine State.setLate_keeps rfl ?_
      exact Keeps.refl _ _
    · exact Keeps.refl _ _

theorem State.launchSlot_keeps {m : Nat} {s u : State} {w : Nat} {a : Sys2Proof.Machine.Armed} {late : Bool} (hm : m ||| 92448037176951877 = m) (h : Keeps m s u) :
    Keeps m s (State.launchSlot u w a late) := by
  refine Keeps.next hm h ?_
  clear hm h
  unfold State.launchSlot
  refine State.slotsChanged_keeps rfl ?_
  refine State.launch_keeps rfl ?_
  refine State.updWatch_keeps rfl ?_
  exact Keeps.refl _ _

theorem State.cGo_keeps {m : Nat} {s u : State} {w : Nat} {c : Bool} (hm : m ||| 524288 = m) (h : Keeps m s u) :
    Keeps m s (State.cGo u w c) := by
  refine Keeps.next hm h ?_
  clear hm h
  unfold State.cGo
  refine State.updWatch_keeps rfl ?_
  exact Keeps.refl _ _

theorem State.timed_keeps {m : Nat} {s u : State} {w : Nat} {tm : Bool} {a : Sys2Proof.Machine.Act} (hm : m ||| 92448037176951877 = m) (h : Keeps m s u) :
    Keeps m s (State.timed u w tm a) := by
  refine Keeps.next hm h ?_
  clear hm h
  unfold State.timed
  refine Keeps.ite ?_ ?_
  · refine State.cGo_keeps rfl ?_
    refine State.act_keeps rfl ?_
    exact Keeps.refl _ _
  · refine Keeps.ite ?_ ?_
    · refine State.setWatch_keeps rfl ?_
      exact Keeps.refl _ _
    · extract_lets -merge -useContext -underBinder y1
      refine Keeps.next (t := y1) (Nat.or_self _) ?_ ?_
      · refine State.pmcEvent_keeps rfl ?_
        exact Keeps.refl _ _
      · clear_value y1
        try extract_lets -underBinder
        first | split | (dsimp +zetaDelta only; split)
        · refine State.cGo_keeps rfl ?_
          refine State.launch_keeps rfl ?_
          exact Keeps.refl _ _
        · refine State.cGo_keeps rfl ?_
          refine State.updWatch_keeps rfl ?_
          refine Keeps.mk_alm rfl ?_
          exact Keeps.refl _ _

theorem State.putGo_keeps {m : Nat} {s u : State} {w : Nat} {d : Nat} {v : Sys2Proof.Word} (hm : m ||| 524288 = m) (h : Keeps m s u) :
    Keeps m s (State.putGo u w d v) := by
  refine Keeps.next hm h ?_
  clear hm h
  unfold State.putGo
  refine State.updWatch_keeps rfl ?_
  exact Keeps.refl _ _

theorem State.convert_keeps {m : Nat} {s u : State} {base : Nat} {hit : Nat → Option Nat} (hm : m ||| 524288 = m) (h : Keeps m s u) :
    Keeps m s (State.convert u base hit) := by
  refine Keeps.next hm h ?_
  clear hm h
  unfold State.convert
  refine Keeps.foldl (fun _ _ => ?_) ?_
  · refine State.updWatch_keeps rfl ?_
    exact Keeps.refl _ _
  · exact Keeps.refl _ _

theorem State.dmWrite_keeps {m : Nat} {s u : State} {idx : Nat} {v : Sys2Proof.Word} (hm : m ||| 524288 = m) (h : Keeps m s u) :
    Keeps m s (State.dmWrite u idx v) := by
  refine Keeps.next hm h ?_
  clear hm h
  unfold State.dmWrite
  refine Keeps.mk_alm rfl ?_
  exact Keeps.refl _ _

theorem execTimedActionLaunch_keeps {t : Nat} (u : State) : ∃ nxt, execTimedActionLaunch t u = .next nxt ∧ Keeps 92448037176951911 u nxt := by
  refine ⟨_, rfl, ?_⟩
  refine State.when_keeps (fun _ => ?_) ?_
  · refine State.raiseEv_keeps (n := 8) (show unitOf 32800 = 8 from rfl) rfl rfl ?_
    exact Keeps.refl _ _
  · refine Keeps.foldl (fun _ _ => ?_) ?_
    · refine State.almKillEnd_keeps rfl ?_
      exact Keeps.refl _ _
    · refine Keeps.foldl (fun _ _ => ?_) ?_
      · refine State.launchSlot_keeps rfl ?_
        exact Keeps.refl _ _
      · refine Keeps.foldl (fun _ _ => ?_) ?_
        · refine State.undie_keeps rfl ?_
          exact Keeps.refl _ _
        · refine State.at_keeps rfl ?_
          exact Keeps.refl _ _

theorem State.issue_keeps {m : Nat} {s u : State} {w : Nat} {x : Option Sys2Proof.Word} {f : Sys2Proof.Machine.State → Sys2Proof.Machine.State} (hf : ∀ t, Keeps m t (f t)) (hm : m ||| 1099513200644 = m) (h : Keeps m s u) :
    Keeps m s (State.issue u w x f) := by
  unfold State.issue
  refine Keeps.ite ?_ ?_
  · extract_lets -merge -useContext -underBinder y1 y2
    refine Keeps.next (t := y1) (Nat.or_self _) ?_ ?_
    · refine Keeps.next (Nat.or_self m) ?_ (hf _)
      refine State.issueMark_keeps (lor_sub hm rfl) ?_
      refine State.revive_keeps (lor_sub hm rfl) ?_
      exact h
    · clear_value y1
      refine State.when_keeps (fun _ => ?_) ?_
      · refine State.almKillEnd_keeps (lor_sub hm rfl) ?_
        exact Keeps.refl _ _
      · refine Keeps.ite ?_ ?_
        · exact Keeps.refl _ _
        · refine State.pmcRetired_keeps (lor_sub hm rfl) ?_
          exact Keeps.refl _ _
  · exact h

theorem State.pmWrite_keeps {m : Nat} {s u : State} {idx : Nat} {v : Sys2Proof.Word} (hm : m ||| 1099512152068 = m) (h : Keeps m s u) :
    Keeps m s (State.pmWrite u idx v) := by
  refine Keeps.next hm h ?_
  clear hm h
  unfold State.pmWrite
  refine Keeps.ite ?_ ?_
  · refine State.raiseEv_keeps (n := 8) (show unitOf 32800 = 8 from rfl) rfl rfl ?_
    exact Keeps.refl _ _
  · refine Keeps.mk_alm rfl ?_
    exact Keeps.refl _ _

theorem State.loseTargets_keeps {m : Nat} {s u : State} {p : Nat → Nat → Option Nat → Option Int} (hm : m ||| 92448037176951877 = m) (h : Keeps m s u) :
    Keeps m s (State.loseTargets u p) := by
  refine Keeps.next hm h ?_
  clear hm h
  unfold State.loseTargets
  refine Keeps.foldl (fun _ _ => ?_) ?_
  · try extract_lets -underBinder
    first | split | (dsimp +zetaDelta only; split)
    · try extract_lets -underBinder
      first | split | (dsimp +zetaDelta only; split)
      · refine Keeps.ite ?_ ?_
        · refine Keeps.ite ?_ ?_
          · refine State.meet_keeps rfl ?_
            exact Keeps.refl _ _
          · refine State.meet_keeps rfl ?_
            exact Keeps.refl _ _
        · exact Keeps.refl _ _
      · exact Keeps.refl _ _
    · exact Keeps.refl _ _
  · refine Keeps.foldl (fun _ _ => ?_) ?_
    · refine State.launchSlot_keeps rfl ?_
      exact Keeps.refl _ _
    · exact Keeps.refl _ _

theorem State.wakeGo_keeps {m : Nat} {s u : State} {w : Nat} {rd : Nat} {x3 : Sys2Proof.Machine.Met} (hm : m ||| 1099512152068 = m) (h : Keeps m s u) :
    Keeps m s (State.wakeGo u w rd x3) := by
  refine Keeps.next hm h ?_
  clear hm h
  unfold State.wakeGo
  refine State.when_keeps (fun _ => ?_) ?_
  · refine State.setLate_keeps rfl ?_
    exact Keeps.refl _ _
  · refine State.updWatch_keeps rfl ?_
    refine State.openGate_keeps rfl ?_
    exact Keeps.refl _ _

theorem execProgramMemoryWrite_keeps {t : Nat} {x1 : Sys2Proof.Master} {idx : Nat} {v : Sys2Proof.Word} (u : State) : ∃ nxt, execProgramMemoryWrite t x1 idx v u = .next nxt ∧ Keeps 1099512152102 u nxt := by
  refine ⟨_, rfl, ?_⟩
  refine State.pmWrite_keeps rfl ?_
  refine State.at_keeps rfl ?_
  exact Keeps.refl _ _

theorem execProgramLoad_keeps {t : Nat} {x1 : Sys2Proof.Master} {v : Sys2Proof.Word} (u : State) : ∃ nxt, execProgramLoad t x1 v u = .next nxt ∧ Keeps 1103807119414 u nxt := by
  refine ⟨_, rfl, ?_⟩
  refine State.almctlWrite_keeps rfl ?_
  refine State.at_keeps rfl ?_
  exact Keeps.refl _ _

end Sys2Proof.Machine
end

