-- ==== Sys2Proof/Laws/KeepsMbox.lean ====
section
/-! SUPPORT. What each function of Machine/Mbox.lean can change. -/

namespace Sys2Proof.Machine

theorem State.d2hWrite_keeps {m : Nat} {s u : State} {n : Nat} {v : Sys2Proof.Word} (hm : m ||| 34359738500 = m) (h : Keeps m s u) :
    Keeps m s (State.d2hWrite u n v).2 := by
  refine Keeps.next hm h ?_
  clear hm h
  unfold State.d2hWrite
  refine Keeps.ite2 ?_ ?_
  · refine Keeps.pair2 ?_
    refine State.hostErr_keeps (show unitOf 12288 = 3 from rfl) rfl ?_
    exact Keeps.refl _ _
  · refine Keeps.pair2 ?_
    refine State.irq_keeps rfl ?_
    refine Keeps.mk_host rfl ?_
    refine State.setFld_keeps (n := 3) (show unitOf 12300 = 3 from rfl) rfl rfl ?_
    refine State.setFld_keeps (n := 3) (show unitOf 12300 = 3 from rfl) rfl rfl ?_
    refine State.setWord_keeps (n := 3) (unit_HOST_D2HMBX _) rfl rfl ?_
    exact Keeps.refl _ _

theorem State.postPut_keeps {m : Nat} {s u : State} {ws : List Sys2Proof.Word} (hm : m ||| 34359738500 = m) (h : Keeps m s u) :
    Keeps m s (State.postPut u ws).2 := by
  refine Keeps.next hm h ?_
  clear hm h
  unfold State.postPut
  refine Keeps.ite2 ?_ ?_
  · refine Keeps.pair2 ?_
    refine State.satAdd_keeps (n := 3) (show unitOf 12384 = 3 from rfl) rfl rfl ?_
    exact Keeps.refl _ _
  · extract_lets -merge -useContext -underBinder y1 y2 y3
    refine Keeps.next (t := y3) (Nat.or_self _) ?_ ?_
    · refine State.setFld_keeps (n := 3) (show unitOf 12384 = 3 from rfl) rfl rfl ?_
      refine Keeps.mk_host rfl ?_
      exact Keeps.refl _ _
    · clear_value y3
      refine Keeps.pair2 ?_
      refine Keeps.ite ?_ ?_
      · refine State.irq_keeps rfl ?_
        exact Keeps.refl _ _
      · exact Keeps.refl _ _

theorem State.h2dWrite_keeps {m : Nat} {s u : State} {n : Nat} {v : Sys2Proof.Word} (hm : m ||| 34359738500 = m) (h : Keeps m s u) :
    Keeps m s (State.h2dWrite u n v) := by
  refine Keeps.next hm h ?_
  clear hm h
  unfold State.h2dWrite
  refine Keeps.ite ?_ ?_
  · refine State.hostErr_keeps (show unitOf 12288 = 3 from rfl) rfl ?_
    exact Keeps.refl _ _
  · refine State.setFld_keeps (n := 3) (show unitOf 12300 = 3 from rfl) rfl rfl ?_
    refine State.setWord_keeps (n := 3) (unit_HOST_H2DMBX _) rfl rfl ?_
    exact Keeps.refl _ _

theorem State.h2dEmpty_keeps {m : Nat} {s u : State} {n : Nat} (hm : m ||| 34393292932 = m) (h : Keeps m s u) :
    Keeps m s (State.h2dEmpty u n) := by
  refine Keeps.next hm h ?_
  clear hm h
  unfold State.h2dEmpty
  refine Keeps.ite ?_ ?_
  · extract_lets -merge -useContext -underBinder y1
    refine Keeps.next (t := y1) (Nat.or_self _) ?_ ?_
    · refine State.irq_keeps rfl ?_
      refine State.setFld_keeps (n := 3) (show unitOf 12300 = 3 from rfl) rfl rfl ?_
      refine State.setFld_keeps (n := 3) (show unitOf 12300 = 3 from rfl) rfl rfl ?_
      exact Keeps.refl _ _
    · clear_value y1
      try extract_lets -underBinder
      first | split | (dsimp +zetaDelta only; split)
      · refine Keeps.ite ?_ ?_
        · refine State.h2dWrite_keeps rfl ?_
          refine Keeps.mk_pilot rfl ?_
          exact Keeps.refl _ _
        · exact Keeps.refl _ _
      · exact Keeps.refl _ _
  · exact Keeps.refl _ _

end Sys2Proof.Machine
end

