-- ==== Sys2Proof/Laws/KeepsAlmExec.lean ====
section
/-! SUPPORT. What each function of Machine/AlmExec.lean can change. -/

namespace Sys2Proof.Machine

theorem execAlmTcmp_keeps {t : Nat} {w : Nat} {tb : Nat} {b : Nat} {scale : Nat} {ofs : Nat} (u : State) : ∃ nxt, execAlmTcmp t w tb b scale ofs u = .next nxt ∧ Keeps 18015498022682726 u nxt := by
  refine ⟨_, rfl, ?_⟩
  refine State.issue_keeps (fun _ => ?_) rfl ?_
  · try extract_lets -underBinder
    first | split | (dsimp +zetaDelta only; split)
    · refine State.updWatch_keeps rfl ?_
      exact Keeps.refl _ _
    · refine State.almFault_keeps rfl ?_
      exact Keeps.refl _ _
    · refine State.almFault_keeps rfl ?_
      exact Keeps.refl _ _
  · refine State.at_keeps rfl ?_
    exact Keeps.refl _ _

theorem State.alu2_keeps {m : Nat} {s u : State} {w : Nat} {d : Nat} {a : Nat} {b : Nat} {f : Sys2Proof.Word → Sys2Proof.Word → Sys2Proof.Machine.AluOut} (hm : m ||| 524288 = m) (h : Keeps m s u) :
    Keeps m s (State.alu2 u w d a b f) := by
  refine Keeps.next hm h ?_
  clear hm h
  unfold State.alu2
  refine State.aluPut_keeps rfl ?_
  exact Keeps.refl _ _

theorem execAlmAnd_keeps {t : Nat} {w : Nat} {d : Nat} {a : Nat} {b : Nat} (u : State) : ∃ nxt, execAlmAnd t w d a b u = .next nxt ∧ Keeps 1099513200678 u nxt := by
  refine ⟨_, rfl, ?_⟩
  refine State.issue_keeps (fun _ => ?_) rfl ?_
  · refine State.alu2_keeps rfl ?_
    exact Keeps.refl _ _
  · refine State.at_keeps rfl ?_
    exact Keeps.refl _ _

theorem execAlmMin_keeps {t : Nat} {w : Nat} {d : Nat} {a : Nat} {b : Nat} (u : State) : ∃ nxt, execAlmMin t w d a b u = .next nxt ∧ Keeps 1099513200678 u nxt := by
  refine ⟨_, rfl, ?_⟩
  refine State.issue_keeps (fun _ => ?_) rfl ?_
  · refine State.alu2_keeps rfl ?_
    exact Keeps.refl _ _
  · refine State.at_keeps rfl ?_
    exact Keeps.refl _ _

theorem execAlmRing_keeps {t : Nat} {w : Nat} {n : Nat} (u : State) : ∃ nxt, execAlmRing t w n u = .next nxt ∧ Keeps 1133872939174 u nxt := by
  refine ⟨_, rfl, ?_⟩
  refine State.issue_keeps (fun _ => ?_) rfl ?_
  · refine Keeps.ite ?_ ?_
    · refine State.cGo_keeps rfl ?_
      refine State.doorbell_keeps rfl ?_
      exact Keeps.refl _ _
    · refine State.cGo_keeps rfl ?_
      exact Keeps.refl _ _
  · refine State.at_keeps rfl ?_
    exact Keeps.refl _ _

theorem execAlmLui_keeps {t : Nat} {w : Nat} {d : Nat} {imm : Nat} (u : State) : ∃ nxt, execAlmLui t w d imm u = .next nxt ∧ Keeps 1099513200678 u nxt := by
  refine ⟨_, rfl, ?_⟩
  refine State.issue_keeps (fun _ => ?_) rfl ?_
  · refine State.putGo_keeps rfl ?_
    exact Keeps.refl _ _
  · refine State.at_keeps rfl ?_
    exact Keeps.refl _ _

theorem execAlmTrigMark_keeps {t : Nat} {w : Nat} {tm : Bool} {a : Nat} (u : State) : ∃ nxt, execAlmTrigMark t w tm a u = .next nxt ∧ Keeps 92448037176951911 u nxt := by
  refine ⟨_, rfl, ?_⟩
  refine State.issue_keeps (fun _ => ?_) rfl ?_
  · refine State.timed_keeps rfl ?_
    exact Keeps.refl _ _
  · refine State.at_keeps rfl ?_
    exact Keeps.refl _ _

theorem State.branch_keeps {m : Nat} {s u : State} {w : Nat} {b : Bool} {tgt : Nat} (hm : m ||| 72057594039500804 = m) (h : Keeps m s u) :
    Keeps m s (State.branch u w b tgt) := by
  refine Keeps.next hm h ?_
  clear hm h
  unfold State.branch
  refine Keeps.ite ?_ ?_
  · refine State.pmcEvent_keeps rfl ?_
    refine State.updWatch_keeps rfl ?_
    exact Keeps.refl _ _
  · refine State.updWatch_keeps rfl ?_
    exact Keeps.refl _ _

theorem execAlmBltu_keeps {t : Nat} {w : Nat} {a : Nat} {b : Nat} {tgt : Nat} (u : State) : ∃ nxt, execAlmBltu t w a b tgt u = .next nxt ∧ Keeps 72058693551128614 u nxt := by
  refine ⟨_, rfl, ?_⟩
  refine State.issue_keeps (fun _ => ?_) rfl ?_
  · refine State.branch_keeps rfl ?_
    exact Keeps.refl _ _
  · refine State.at_keeps rfl ?_
    exact Keeps.refl _ _

theorem execAlmWaitev_keeps {t : Nat} {w : Nat} {d : Nat} {tmo : Bool} {cls : Nat} {arg : Nat} (u : State) : ∃ nxt, execAlmWaitev t w d tmo cls arg u = .next nxt ∧ Keeps 1099513200678 u nxt := by
  refine ⟨_, rfl, ?_⟩
  refine State.issue_keeps (fun _ => ?_) rfl ?_
  · extract_lets -merge -useContext -underBinder y1
    refine Keeps.next (t := y1) (Nat.or_self _) ?_ ?_
    · refine State.updWatch_keeps rfl ?_
      exact Keeps.refl _ _
    · clear_value y1
      try extract_lets -underBinder
      first | split | (dsimp +zetaDelta only; split)
      · refine State.wakeGo_keeps rfl ?_
        refine State.when_keeps (fun _ => ?_) ?_
        · refine State.evUse_keeps rfl ?_
          exact Keeps.refl _ _
        · exact Keeps.refl _ _
      · try extract_lets -underBinder
        first | split | (dsimp +zetaDelta only; split)
        · refine State.wakeGo_keeps rfl ?_
          exact Keeps.refl _ _
        · refine State.updWatch_keeps rfl ?_
          exact Keeps.refl _ _
  · refine State.at_keeps rfl ?_
    exact Keeps.refl _ _

theorem execAlmStw_keeps {t : Nat} {w : Nat} {d : Nat} {a : Nat} {imm : Nat} (u : State) : ∃ nxt, execAlmStw t w d a imm u = .next nxt ∧ Keeps 18015498022682734 u nxt := by
  refine ⟨_, rfl, ?_⟩
  refine State.issue_keeps (fun _ => ?_) rfl ?_
  · refine Keeps.ite ?_ ?_
    · refine State.updWatch_keeps rfl ?_
      refine State.dmAccess_keeps rfl ?_
      exact Keeps.refl _ _
    · refine State.almFault_keeps rfl ?_
      exact Keeps.refl _ _
  · refine State.at_keeps rfl ?_
    exact Keeps.refl _ _

theorem execAlmHalt_keeps {t : Nat} {w : Nat} (u : State) : ∃ nxt, execAlmHalt t w u = .next nxt ∧ Keeps 1099513200678 u nxt := by
  refine ⟨_, rfl, ?_⟩
  refine State.issue_keeps (fun _ => ?_) rfl ?_
  · refine State.updWatch_keeps rfl ?_
    exact Keeps.refl _ _
  · refine State.at_keeps rfl ?_
    exact Keeps.refl _ _

theorem execAlmBalPhaseStart_keeps {t : Nat} {w : Nat} {tm : Bool} {sel : Nat} {a : Nat} (u : State) : ∃ nxt, execAlmBalPhaseStart t w tm sel a u = .next nxt ∧ Keeps 92448037176951911 u nxt := by
  refine ⟨_, rfl, ?_⟩
  refine State.issue_keeps (fun _ => ?_) rfl ?_
  · refine State.timed_keeps rfl ?_
    exact Keeps.refl _ _
  · refine State.at_keeps rfl ?_
    exact Keeps.refl _ _

theorem execAlmSub_keeps {t : Nat} {w : Nat} {d : Nat} {a : Nat} {b : Nat} (u : State) : ∃ nxt, execAlmSub t w d a b u = .next nxt ∧ Keeps 1099513200678 u nxt := by
  refine ⟨_, rfl, ?_⟩
  refine State.issue_keeps (fun _ => ?_) rfl ?_
  · refine State.alu2_keeps rfl ?_
    exact Keeps.refl _ _
  · refine State.at_keeps rfl ?_
    exact Keeps.refl _ _

theorem execAlmLdw_keeps {t : Nat} {w : Nat} {d : Nat} {a : Nat} {imm : Nat} (u : State) : ∃ nxt, execAlmLdw t w d a imm u = .next nxt ∧ Keeps 18015498022682734 u nxt := by
  refine ⟨_, rfl, ?_⟩
  refine State.issue_keeps (fun _ => ?_) rfl ?_
  · refine Keeps.ite ?_ ?_
    · refine State.updWatch_keeps rfl ?_
      refine State.dmAccess_keeps rfl ?_
      exact Keeps.refl _ _
    · refine State.almFault_keeps rfl ?_
      exact Keeps.refl _ _
  · refine State.at_keeps rfl ?_
    exact Keeps.refl _ _

theorem State.ltPut_keeps {m : Nat} {s u : State} {w : Nat} {tb : Nat} {o : Sys2Proof.Machine.TgtOut} (hm : m ||| 18015498022682692 = m) (h : Keeps m s u) :
    Keeps m s (State.ltPut u w tb o) := by
  refine Keeps.next hm h ?_
  clear hm h
  unfold State.ltPut
  try extract_lets -underBinder
  first | split | (dsimp +zetaDelta only; split)
  · refine State.updWatch_keeps rfl ?_
    exact Keeps.refl _ _
  · refine State.almFault_keeps rfl ?_
    exact Keeps.refl _ _
  · refine State.almFault_keeps rfl ?_
    exact Keeps.refl _ _

theorem execAlmAtr_keeps {t : Nat} {w : Nat} {tb : Nat} {b : Nat} {scale : Nat} {ofs : Nat} (u : State) : ∃ nxt, execAlmAtr t w tb b scale ofs u = .next nxt ∧ Keeps 18015498022682726 u nxt := by
  refine ⟨_, rfl, ?_⟩
  refine State.issue_keeps (fun _ => ?_) rfl ?_
  · refine State.ltPut_keeps rfl ?_
    exact Keeps.refl _ _
  · refine State.at_keeps rfl ?_
    exact Keeps.refl _ _

theorem execAlmSlli_keeps {t : Nat} {w : Nat} {d : Nat} {a : Nat} {sh : Nat} (u : State) : ∃ nxt, execAlmSlli t w d a sh u = .next nxt ∧ Keeps 1099513200678 u nxt := by
  refine ⟨_, rfl, ?_⟩
  refine State.issue_keeps (fun _ => ?_) rfl ?_
  · refine State.aluPut_keeps rfl ?_
    exact Keeps.refl _ _
  · refine State.at_keeps rfl ?_
    exact Keeps.refl _ _

theorem execAlmClamp_keeps {t : Nat} {w : Nat} {d : Nat} {a : Nat} {b : Nat} {c : Nat} (u : State) : ∃ nxt, execAlmClamp t w d a b c u = .next nxt ∧ Keeps 1099513200678 u nxt := by
  refine ⟨_, rfl, ?_⟩
  refine State.issue_keeps (fun _ => ?_) rfl ?_
  · refine State.aluPut_keeps rfl ?_
    exact Keeps.refl _ _
  · refine State.at_keeps rfl ?_
    exact Keeps.refl _ _

theorem execAlmJal_keeps {t : Nat} {w : Nat} {d : Nat} {tgt : Nat} (u : State) : ∃ nxt, execAlmJal t w d tgt u = .next nxt ∧ Keeps 72058693551128614 u nxt := by
  refine ⟨_, rfl, ?_⟩
  refine State.issue_keeps (fun _ => ?_) rfl ?_
  · refine State.branch_keeps rfl ?_
    refine State.updWatch_keeps rfl ?_
    exact Keeps.refl _ _
  · refine State.at_keeps rfl ?_
    exact Keeps.refl _ _

theorem execAlmStcLockAcquire_keeps {t : Nat} {w : Nat} {d : Nat} {n : Nat} (u : State) : ∃ nxt, execAlmStcLockAcquire t w d n u = .next nxt ∧ Keeps 1099513200694 u nxt := by
  refine ⟨_, rfl, ?_⟩
  refine State.issue_keeps (fun _ => ?_) rfl ?_
  · refine State.cGo_keeps rfl ?_
    refine State.updWatch_keeps rfl ?_
    refine State.lockRead_keeps rfl ?_
    exact Keeps.refl _ _
  · refine State.at_keeps rfl ?_
    exact Keeps.refl _ _

theorem execAlmStcLockRelease_keeps {t : Nat} {w : Nat} {n : Nat} (u : State) : ∃ nxt, execAlmStcLockRelease t w n u = .next nxt ∧ Keeps 1103808167990 u nxt := by
  refine ⟨_, rfl, ?_⟩
  refine State.issue_keeps (fun _ => ?_) rfl ?_
  · refine State.cGo_keeps rfl ?_
    refine State.lockFree_keeps rfl ?_
    exact Keeps.refl _ _
  · refine State.at_keeps rfl ?_
    exact Keeps.refl _ _

theorem execAlmBalStop_keeps {t : Nat} {w : Nat} {tm : Bool} (u : State) : ∃ nxt, execAlmBalStop t w tm u = .next nxt ∧ Keeps 92448037176951911 u nxt := by
  refine ⟨_, rfl, ?_⟩
  refine State.issue_keeps (fun _ => ?_) rfl ?_
  · refine State.timed_keeps rfl ?_
    exact Keeps.refl _ _
  · refine State.at_keeps rfl ?_
    exact Keeps.refl _ _

theorem execAlmSra_keeps {t : Nat} {w : Nat} {d : Nat} {a : Nat} {b : Nat} (u : State) : ∃ nxt, execAlmSra t w d a b u = .next nxt ∧ Keeps 1099513200678 u nxt := by
  refine ⟨_, rfl, ?_⟩
  refine State.issue_keeps (fun _ => ?_) rfl ?_
  · refine State.alu2_keeps rfl ?_
    exact Keeps.refl _ _
  · refine State.at_keeps rfl ?_
    exact Keeps.refl _ _

theorem execAlmAt_keeps {t : Nat} {w : Nat} {tb : Nat} {b : Nat} {scale : Nat} {ofs : Nat} (u : State) : ∃ nxt, execAlmAt t w tb b scale ofs u = .next nxt ∧ Keeps 18015498022682726 u nxt := by
  refine ⟨_, rfl, ?_⟩
  refine State.issue_keeps (fun _ => ?_) rfl ?_
  · refine State.ltPut_keeps rfl ?_
    exact Keeps.refl _ _
  · refine State.at_keeps rfl ?_
    exact Keeps.refl _ _

theorem execAlmWaitevWake_keeps {t : Nat} {w : Nat} (u : State) : ∃ nxt, execAlmWaitevWake t w u = .next nxt ∧ Keeps 1099512152102 u nxt := by
  refine ⟨_, rfl, ?_⟩
  try extract_lets -underBinder
  first | split | (dsimp +zetaDelta only; split)
  · try extract_lets -underBinder
    first | split | (dsimp +zetaDelta only; split)
    · try extract_lets -underBinder
      first | split | (dsimp +zetaDelta only; split)
      · refine State.wakeGo_keeps rfl ?_
        refine State.at_keeps rfl ?_
        exact Keeps.refl _ _
      · refine Keeps.ite ?_ ?_
        · try extract_lets -underBinder
          first | split | (dsimp +zetaDelta only; split)
          · refine Keeps.ite ?_ ?_
            · refine State.at_keeps rfl ?_
              exact Keeps.refl _ _
            · refine Keeps.ite ?_ ?_
              · refine State.wakeGo_keeps rfl ?_
                refine State.at_keeps rfl ?_
                exact Keeps.refl _ _
              · refine State.wakeGo_keeps rfl ?_
                refine State.modGate_keeps rfl ?_
                refine State.at_keeps rfl ?_
                exact Keeps.refl _ _
          · refine State.at_keeps rfl ?_
            exact Keeps.refl _ _
        · refine State.at_keeps rfl ?_
          exact Keeps.refl _ _
    · refine State.at_keeps rfl ?_
      exact Keeps.refl _ _
  · refine State.at_keeps rfl ?_
    exact Keeps.refl _ _

theorem execAlmOri_keeps {t : Nat} {w : Nat} {d : Nat} {a : Nat} {imm : Nat} (u : State) : ∃ nxt, execAlmOri t w d a imm u = .next nxt ∧ Keeps 1099513200678 u nxt := by
  refine ⟨_, rfl, ?_⟩
  refine State.issue_keeps (fun _ => ?_) rfl ?_
  · refine State.aluPut_keeps rfl ?_
    exact Keeps.refl _ _
  · refine State.at_keeps rfl ?_
    exact Keeps.refl _ _

theorem execAlmBfc_keeps {t : Nat} {w : Nat} {f : Nat} {tgt : Nat} (u : State) : ∃ nxt, execAlmBfc t w f tgt u = .next nxt ∧ Keeps 72058693551128614 u nxt := by
  refine ⟨_, rfl, ?_⟩
  refine State.issue_keeps (fun _ => ?_) rfl ?_
  · refine State.branch_keeps rfl ?_
    exact Keeps.refl _ _
  · refine State.at_keeps rfl ?_
    exact Keeps.refl _ _

theorem execAlmJr_keeps {t : Nat} {w : Nat} {a : Nat} (u : State) : ∃ nxt, execAlmJr t w a u = .next nxt ∧ Keeps 72058693551128614 u nxt := by
  refine ⟨_, rfl, ?_⟩
  refine State.issue_keeps (fun _ => ?_) rfl ?_
  · refine State.branch_keeps rfl ?_
    exact Keeps.refl _ _
  · refine State.at_keeps rfl ?_
    exact Keeps.refl _ _

theorem State.spawnGo_keeps {m : Nat} {s u : State} {w : Nat} {k : Nat} {old : Sys2Proof.Machine.Watch} {pc : Nat} {pri : Nat} {g1 : Sys2Proof.Word} (hm : m ||| 524288 = m) (h : Keeps m s u) :
    Keeps m s (State.spawnGo u w k old pc pri g1) := by
  refine Keeps.next hm h ?_
  clear hm h
  unfold State.spawnGo
  refine State.cGo_keeps rfl ?_
  refine State.setWatch_keeps rfl ?_
  refine State.modGate_keeps rfl ?_
  refine Keeps.mk_alm rfl ?_
  exact Keeps.refl _ _

theorem execAlmSpawn_keeps {t : Nat} {w : Nat} {a : Nat} {b : Nat} {tgt : Nat} (u : State) : ∃ nxt, execAlmSpawn t w a b tgt u = .next nxt ∧ Keeps 1099513200678 u nxt := by
  refine ⟨_, rfl, ?_⟩
  refine State.issue_keeps (fun _ => ?_) rfl ?_
  · refine Keeps.ite ?_ ?_
    · refine State.cGo_keeps rfl ?_
      exact Keeps.refl _ _
    · try extract_lets -underBinder
      first | split | (dsimp +zetaDelta only; split)
      · refine Keeps.ite ?_ ?_
        · refine State.spawnGo_keeps rfl ?_
          refine State.updWatch_keeps rfl ?_
          exact Keeps.refl _ _
        · refine State.cGo_keeps rfl ?_
          exact Keeps.refl _ _
      · refine Keeps.ite ?_ ?_
        · refine State.spawnGo_keeps rfl ?_
          exact Keeps.refl _ _
        · refine State.cGo_keeps rfl ?_
          exact Keeps.refl _ _
  · refine State.at_keeps rfl ?_
    exact Keeps.refl _ _

theorem execAlmOr_keeps {t : Nat} {w : Nat} {d : Nat} {a : Nat} {b : Nat} (u : State) : ∃ nxt, execAlmOr t w d a b u = .next nxt ∧ Keeps 1099513200678 u nxt := by
  refine ⟨_, rfl, ?_⟩
  refine State.issue_keeps (fun _ => ?_) rfl ?_
  · refine State.alu2_keeps rfl ?_
    exact Keeps.refl _ _
  · refine State.at_keeps rfl ?_
    exact Keeps.refl _ _

theorem execAlmBge_keeps {t : Nat} {w : Nat} {a : Nat} {b : Nat} {tgt : Nat} (u : State) : ∃ nxt, execAlmBge t w a b tgt u = .next nxt ∧ Keeps 72058693551128614 u nxt := by
  refine ⟨_, rfl, ?_⟩
  refine State.issue_keeps (fun _ => ?_) rfl ?_
  · refine State.branch_keeps rfl ?_
    exact Keeps.refl _ _
  · refine State.at_keeps rfl ?_
    exact Keeps.refl _ _

theorem execAlmSetpHosti_keeps {t : Nat} {w : Nat} {tm : Bool} {a : Nat} (u : State) : ∃ nxt, execAlmSetpHosti t w tm a u = .next nxt ∧ Keeps 92448037176951911 u nxt := by
  refine ⟨_, rfl, ?_⟩
  refine State.issue_keeps (fun _ => ?_) rfl ?_
  · refine State.timed_keeps rfl ?_
    exact Keeps.refl _ _
  · refine State.at_keeps rfl ?_
    exact Keeps.refl _ _

theorem execAlmRdt_keeps {t : Nat} {w : Nat} {d : Nat} {part : Nat} {tb : Nat} (u : State) : ∃ nxt, execAlmRdt t w d part tb u = .next nxt ∧ Keeps 18015498022682726 u nxt := by
  refine ⟨_, rfl, ?_⟩
  refine State.issue_keeps (fun _ => ?_) rfl ?_
  · try extract_lets -underBinder
    first | split | (dsimp +zetaDelta only; split)
    · refine Keeps.ite ?_ ?_
      · refine State.almFault_keeps rfl ?_
        exact Keeps.refl _ _
      · refine State.putGo_keeps rfl ?_
        refine State.updWatch_keeps rfl ?_
        exact Keeps.refl _ _
    · refine State.putGo_keeps rfl ?_
      exact Keeps.refl _ _
    · try extract_lets -underBinder
      first | split | (dsimp +zetaDelta only; split)
      · refine State.almFault_keeps rfl ?_
        exact Keeps.refl _ _
      · refine State.almFault_keeps rfl ?_
        exact Keeps.refl _ _
      · refine State.putGo_keeps rfl ?_
        exact Keeps.refl _ _
      · refine State.putGo_keeps rfl ?_
        exact Keeps.refl _ _
      · refine State.putGo_keeps rfl ?_
        exact Keeps.refl _ _
      · refine State.putGo_keeps rfl ?_
        exact Keeps.refl _ _
      · refine State.almFault_keeps rfl ?_
        exact Keeps.refl _ _
    · refine State.putGo_keeps rfl ?_
      refine State.updWatch_keeps rfl ?_
      exact Keeps.refl _ _
  · refine State.at_keeps rfl ?_
    exact Keeps.refl _ _

theorem execAlmSlotWaitRelease_keeps {t : Nat} {w : Nat} (u : State) : ∃ nxt, execAlmSlotWaitRelease t w u = .next nxt ∧ Keeps 524322 u nxt := by
  refine ⟨_, rfl, ?_⟩
  refine Keeps.ite ?_ ?_
  · refine State.setWatch_keeps rfl ?_
    refine State.openGate_keeps rfl ?_
    refine State.at_keeps rfl ?_
    exact Keeps.refl _ _
  · refine State.at_keeps rfl ?_
    exact Keeps.refl _ _

theorem execAlmBeq_keeps {t : Nat} {w : Nat} {a : Nat} {b : Nat} {tgt : Nat} (u : State) : ∃ nxt, execAlmBeq t w a b tgt u = .next nxt ∧ Keeps 72058693551128614 u nxt := by
  refine ⟨_, rfl, ?_⟩
  refine State.issue_keeps (fun _ => ?_) rfl ?_
  · refine State.branch_keeps rfl ?_
    exact Keeps.refl _ _
  · refine State.at_keeps rfl ?_
    exact Keeps.refl _ _

theorem execAlmBfs_keeps {t : Nat} {w : Nat} {f : Nat} {tgt : Nat} (u : State) : ∃ nxt, execAlmBfs t w f tgt u = .next nxt ∧ Keeps 72058693551128614 u nxt := by
  refine ⟨_, rfl, ?_⟩
  refine State.issue_keeps (fun _ => ?_) rfl ?_
  · refine State.branch_keeps rfl ?_
    exact Keeps.refl _ _
  · refine State.at_keeps rfl ?_
    exact Keeps.refl _ _

theorem execAlmMbxSend_keeps {t : Nat} {w : Nat} {a : Nat} (u : State) : ∃ nxt, execAlmMbxSend t w a u = .next nxt ∧ Keeps 1133872939174 u nxt := by
  refine ⟨_, rfl, ?_⟩
  refine State.issue_keeps (fun _ => ?_) rfl ?_
  · refine Keeps.ite ?_ ?_
    · refine State.cGo_keeps rfl ?_
      exact Keeps.refl _ _
    · refine State.cGo_keeps rfl ?_
      refine State.d2hWrite_keeps rfl ?_
      exact Keeps.refl _ _
  · refine State.at_keeps rfl ?_
    exact Keeps.refl _ _

theorem execAlmSrli_keeps {t : Nat} {w : Nat} {d : Nat} {a : Nat} {sh : Nat} (u : State) : ∃ nxt, execAlmSrli t w d a sh u = .next nxt ∧ Keeps 1099513200678 u nxt := by
  refine ⟨_, rfl, ?_⟩
  refine State.issue_keeps (fun _ => ?_) rfl ?_
  · refine State.aluPut_keeps rfl ?_
    exact Keeps.refl _ _
  · refine State.at_keeps rfl ?_
    exact Keeps.refl _ _

theorem execAlmBne_keeps {t : Nat} {w : Nat} {a : Nat} {b : Nat} {tgt : Nat} (u : State) : ∃ nxt, execAlmBne t w a b tgt u = .next nxt ∧ Keeps 72058693551128614 u nxt := by
  refine ⟨_, rfl, ?_⟩
  refine State.issue_keeps (fun _ => ?_) rfl ?_
  · refine State.branch_keeps rfl ?_
    exact Keeps.refl _ _
  · refine State.at_keeps rfl ?_
    exact Keeps.refl _ _

theorem execAlmMbxReceive_keeps {t : Nat} {w : Nat} {d : Nat} (u : State) : ∃ nxt, execAlmMbxReceive t w d u = .next nxt ∧ Keeps 1133906493606 u nxt := by
  refine ⟨_, rfl, ?_⟩
  refine State.issue_keeps (fun _ => ?_) rfl ?_
  · refine Keeps.ite ?_ ?_
    · refine State.cGo_keeps rfl ?_
      refine State.updWatch_keeps rfl ?_
      refine State.h2dEmpty_keeps rfl ?_
      exact Keeps.refl _ _
    · refine State.cGo_keeps rfl ?_
      exact Keeps.refl _ _
  · refine State.at_keeps rfl ?_
    exact Keeps.refl _ _

theorem execAlmSrl_keeps {t : Nat} {w : Nat} {d : Nat} {a : Nat} {b : Nat} (u : State) : ∃ nxt, execAlmSrl t w d a b u = .next nxt ∧ Keeps 1099513200678 u nxt := by
  refine ⟨_, rfl, ?_⟩
  refine State.issue_keeps (fun _ => ?_) rfl ?_
  · refine State.alu2_keeps rfl ?_
    exact Keeps.refl _ _
  · refine State.at_keeps rfl ?_
    exact Keeps.refl _ _

theorem execAlmMax_keeps {t : Nat} {w : Nat} {d : Nat} {a : Nat} {b : Nat} (u : State) : ∃ nxt, execAlmMax t w d a b u = .next nxt ∧ Keeps 1099513200678 u nxt := by
  refine ⟨_, rfl, ?_⟩
  refine State.issue_keeps (fun _ => ?_) rfl ?_
  · refine State.alu2_keeps rfl ?_
    exact Keeps.refl _ _
  · refine State.at_keeps rfl ?_
    exact Keeps.refl _ _

theorem execAlmMul_keeps {t : Nat} {w : Nat} {d : Nat} {a : Nat} {b : Nat} (u : State) : ∃ nxt, execAlmMul t w d a b u = .next nxt ∧ Keeps 1099513200678 u nxt := by
  refine ⟨_, rfl, ?_⟩
  refine State.issue_keeps (fun _ => ?_) rfl ?_
  · refine State.alu2_keeps rfl ?_
    exact Keeps.refl _ _
  · refine State.at_keeps rfl ?_
    exact Keeps.refl _ _

theorem execAlmAddi_keeps {t : Nat} {w : Nat} {d : Nat} {a : Nat} {imm : Nat} (u : State) : ∃ nxt, execAlmAddi t w d a imm u = .next nxt ∧ Keeps 1099513200678 u nxt := by
  refine ⟨_, rfl, ?_⟩
  refine State.issue_keeps (fun _ => ?_) rfl ?_
  · refine State.aluPut_keeps rfl ?_
    exact Keeps.refl _ _
  · refine State.at_keeps rfl ?_
    exact Keeps.refl _ _

theorem execAlmSetpHostv_keeps {t : Nat} {w : Nat} {tm : Bool} {a : Nat} (u : State) : ∃ nxt, execAlmSetpHostv t w tm a u = .next nxt ∧ Keeps 92448037176951911 u nxt := by
  refine ⟨_, rfl, ?_⟩
  refine State.issue_keeps (fun _ => ?_) rfl ?_
  · refine State.timed_keeps rfl ?_
    exact Keeps.refl _ _
  · refine State.at_keeps rfl ?_
    exact Keeps.refl _ _

theorem execEccFault_keeps {t : Nat} {w : Nat} (u : State) : ∃ nxt, execEccFault t w u = .next nxt ∧ Keeps 18015498022682726 u nxt := by
  refine ⟨_, rfl, ?_⟩
  refine State.issueBad_keeps rfl ?_
  refine State.at_keeps rfl ?_
  exact Keeps.refl _ _

theorem execAlmStcCan_keeps {t : Nat} {w : Nat} {tm : Bool} {n : Nat} {a : Nat} (u : State) : ∃ nxt, execAlmStcCan t w tm n a u = .next nxt ∧ Keeps 92448037176951911 u nxt := by
  refine ⟨_, rfl, ?_⟩
  refine State.issue_keeps (fun _ => ?_) rfl ?_
  · refine Keeps.ite ?_ ?_
    · refine State.timed_keeps rfl ?_
      exact Keeps.refl _ _
    · refine State.almFault_keeps rfl ?_
      exact Keeps.refl _ _
  · refine State.at_keeps rfl ?_
    exact Keeps.refl _ _

theorem execAlmStcAwait_keeps {t : Nat} {w : Nat} {a : Nat} (u : State) : ∃ nxt, execAlmStcAwait t w a u = .next nxt ∧ Keeps 1103808167974 u nxt := by
  refine ⟨_, rfl, ?_⟩
  refine State.issue_keeps (fun _ => ?_) rfl ?_
  · refine State.cGo_keeps rfl ?_
    refine State.setWord_keeps (n := 0) (show unitOf 88 = 0 from rfl) rfl rfl ?_
    exact Keeps.refl _ _
  · refine State.at_keeps rfl ?_
    exact Keeps.refl _ _

theorem execAlmTrigClear_keeps {t : Nat} {w : Nat} {tm : Bool} {f : Nat} (u : State) : ∃ nxt, execAlmTrigClear t w tm f u = .next nxt ∧ Keeps 92448037176951911 u nxt := by
  refine ⟨_, rfl, ?_⟩
  refine State.issue_keeps (fun _ => ?_) rfl ?_
  · refine State.timed_keeps rfl ?_
    exact Keeps.refl _ _
  · refine State.at_keeps rfl ?_
    exact Keeps.refl _ _

theorem execAlmLds_keeps {t : Nat} {w : Nat} {d : Nat} {a : Nat} {imm : Nat} (u : State) : ∃ nxt, execAlmLds t w d a imm u = .next nxt ∧ Keeps 90073092060610662 u nxt := by
  refine ⟨_, rfl, ?_⟩
  refine State.issue_keeps (fun _ => ?_) rfl ?_
  · extract_lets -merge -useContext -underBinder y1 y2
    refine Keeps.next (t := y1) (Nat.or_self _) ?_ ?_
    · refine State.pmcEvent_keeps rfl ?_
      exact Keeps.refl _ _
    · clear_value y1
      refine Keeps.ite ?_ ?_
      · refine State.putGo_keeps rfl ?_
        exact Keeps.refl _ _
      · refine State.almFault_keeps rfl ?_
        exact Keeps.refl _ _
  · refine State.at_keeps rfl ?_
    exact Keeps.refl _ _

theorem execAlmBgeu_keeps {t : Nat} {w : Nat} {a : Nat} {b : Nat} {tgt : Nat} (u : State) : ∃ nxt, execAlmBgeu t w a b tgt u = .next nxt ∧ Keeps 72058693551128614 u nxt := by
  refine ⟨_, rfl, ?_⟩
  refine State.issue_keeps (fun _ => ?_) rfl ?_
  · refine State.branch_keeps rfl ?_
    exact Keeps.refl _ _
  · refine State.at_keeps rfl ?_
    exact Keeps.refl _ _

theorem execAlmStcPmc_keeps {t : Nat} {w : Nat} {tm : Bool} {c : Nat} (u : State) : ∃ nxt, execAlmStcPmc t w tm c u = .next nxt ∧ Keeps 92448037176951911 u nxt := by
  refine ⟨_, rfl, ?_⟩
  refine State.issue_keeps (fun _ => ?_) rfl ?_
  · refine State.timed_keeps rfl ?_
    exact Keeps.refl _ _
  · refine State.at_keeps rfl ?_
    exact Keeps.refl _ _

theorem execAlmMulh_keeps {t : Nat} {w : Nat} {d : Nat} {a : Nat} {b : Nat} (u : State) : ∃ nxt, execAlmMulh t w d a b u = .next nxt ∧ Keeps 1099513200678 u nxt := by
  refine ⟨_, rfl, ?_⟩
  refine State.issue_keeps (fun _ => ?_) rfl ?_
  · refine State.alu2_keeps rfl ?_
    exact Keeps.refl _ _
  · refine State.at_keeps rfl ?_
    exact Keeps.refl _ _

theorem execIllegalInstruction_keeps {t : Nat} {w : Nat} (u : State) : ∃ nxt, execIllegalInstruction t w u = .next nxt ∧ Keeps 18015498022682726 u nxt := by
  refine ⟨_, rfl, ?_⟩
  refine State.issueBad_keeps rfl ?_
  refine State.at_keeps rfl ?_
  exact Keeps.refl _ _

theorem execAlmExcStart_keeps {t : Nat} {w : Nat} {tm : Bool} {plan : Nat} {a : Nat} (u : State) : ∃ nxt, execAlmExcStart t w tm plan a u = .next nxt ∧ Keeps 92448037176951911 u nxt := by
  refine ⟨_, rfl, ?_⟩
  refine State.issue_keeps (fun _ => ?_) rfl ?_
  · refine State.timed_keeps rfl ?_
    exact Keeps.refl _ _
  · refine State.at_keeps rfl ?_
    exact Keeps.refl _ _

theorem execAlmTrigSet_keeps {t : Nat} {w : Nat} {tm : Bool} {f : Nat} (u : State) : ∃ nxt, execAlmTrigSet t w tm f u = .next nxt ∧ Keeps 92448037176951911 u nxt := by
  refine ⟨_, rfl, ?_⟩
  refine State.issue_keeps (fun _ => ?_) rfl ?_
  · refine State.timed_keeps rfl ?_
    exact Keeps.refl _ _
  · refine State.at_keeps rfl ?_
    exact Keeps.refl _ _

theorem execAlmPost_keeps {t : Nat} {w : Nat} {sel : Nat} {a : Nat} {b : Nat} (u : State) : ∃ nxt, execAlmPost t w sel a b u = .next nxt ∧ Keeps 1133872939174 u nxt := by
  refine ⟨_, rfl, ?_⟩
  refine State.issue_keeps (fun _ => ?_) rfl ?_
  · refine State.cGo_keeps rfl ?_
    refine State.postPut_keeps rfl ?_
    exact Keeps.refl _ _
  · refine State.at_keeps rfl ?_
    exact Keeps.refl _ _

theorem execAlmFenceRelease_keeps {t : Nat} {w : Nat} (u : State) : ∃ nxt, execAlmFenceRelease t w u = .next nxt ∧ Keeps 524322 u nxt := by
  refine ⟨_, rfl, ?_⟩
  refine Keeps.ite ?_ ?_
  · refine State.setWatch_keeps rfl ?_
    refine State.openGate_keeps rfl ?_
    refine State.at_keeps rfl ?_
    exact Keeps.refl _ _
  · refine State.at_keeps rfl ?_
    exact Keeps.refl _ _

theorem execAlmFence_keeps {t : Nat} {w : Nat} {busy : Bool} (u : State) : ∃ nxt, execAlmFence t w busy u = .next nxt ∧ Keeps 1099513200678 u nxt := by
  refine ⟨_, rfl, ?_⟩
  refine State.issue_keeps (fun _ => ?_) rfl ?_
  · refine State.updWatch_keeps rfl ?_
    exact Keeps.refl _ _
  · refine State.at_keeps rfl ?_
    exact Keeps.refl _ _

theorem State.snapAt_keeps {m : Nat} {s u : State} {w : Nat} {d : Nat} {target : Int} (hm : m ||| 1443109536516 = m) (h : Keeps m s u) :
    Keeps m s (State.snapAt u w d target) := by
  refine Keeps.next hm h ?_
  clear hm h
  unfold State.snapAt
  refine Keeps.ite ?_ ?_
  · extract_lets -merge -useContext -underBinder y1
    refine Keeps.next (t := y1) (Nat.or_self _) ?_ ?_
    · refine State.cGo_keeps rfl ?_
      refine State.updWatch_keeps rfl ?_
      refine State.acqSnap_keeps rfl ?_
      exact Keeps.refl _ _
    · clear_value y1
      refine State.when_keeps (fun _ => ?_) ?_
      · refine State.setLate_keeps rfl ?_
        exact Keeps.refl _ _
      · exact Keeps.refl _ _
  · refine State.cGo_keeps rfl ?_
    refine State.updWatch_keeps rfl ?_
    refine State.acqSnap_keeps rfl ?_
    exact Keeps.refl _ _

theorem execSnap_keeps {t : Nat} {w : Nat} {d : Nat} (u : State) : ∃ nxt, execSnap t w d u = .next nxt ∧ Keeps 18015841620067174 u nxt := by
  refine ⟨_, rfl, ?_⟩
  refine State.issue_keeps (fun _ => ?_) rfl ?_
  · try extract_lets -underBinder
    first | split | (dsimp +zetaDelta only; split)
    · refine State.snapAt_keeps rfl ?_
      exact Keeps.refl _ _
    · refine State.snapAt_keeps rfl ?_
      exact Keeps.refl _ _
    · refine State.almFault_keeps rfl ?_
      exact Keeps.refl _ _
  · refine State.at_keeps rfl ?_
    exact Keeps.refl _ _

theorem execAlmYield_keeps {t : Nat} {w : Nat} (u : State) : ∃ nxt, execAlmYield t w u = .next nxt ∧ Keeps 1099513200678 u nxt := by
  refine ⟨_, rfl, ?_⟩
  refine State.issue_keeps (fun _ => ?_) rfl ?_
  · refine State.updWatch_keeps rfl ?_
    refine State.modGate_keeps rfl ?_
    exact Keeps.refl _ _
  · refine State.at_keeps rfl ?_
    exact Keeps.refl _ _

theorem execAlmSll_keeps {t : Nat} {w : Nat} {d : Nat} {a : Nat} {b : Nat} (u : State) : ∃ nxt, execAlmSll t w d a b u = .next nxt ∧ Keeps 1099513200678 u nxt := by
  refine ⟨_, rfl, ?_⟩
  refine State.issue_keeps (fun _ => ?_) rfl ?_
  · refine State.alu2_keeps rfl ?_
    exact Keeps.refl _ _
  · refine State.at_keeps rfl ?_
    exact Keeps.refl _ _

theorem execAlmSrai_keeps {t : Nat} {w : Nat} {d : Nat} {a : Nat} {sh : Nat} (u : State) : ∃ nxt, execAlmSrai t w d a sh u = .next nxt ∧ Keeps 1099513200678 u nxt := by
  refine ⟨_, rfl, ?_⟩
  refine State.issue_keeps (fun _ => ?_) rfl ?_
  · refine State.aluPut_keeps rfl ?_
    exact Keeps.refl _ _
  · refine State.at_keeps rfl ?_
    exact Keeps.refl _ _

theorem execAlmKill_keeps {t : Nat} {w : Nat} {a : Nat} (u : State) : ∃ nxt, execAlmKill t w a u = .next nxt ∧ Keeps 1099513200678 u nxt := by
  refine ⟨_, rfl, ?_⟩
  refine State.issue_keeps (fun _ => ?_) rfl ?_
  · extract_lets -merge -useContext -underBinder y1 y2 y3
    refine Keeps.next (t := y2) (Nat.or_self _) ?_ ?_
    · refine State.cGo_keeps rfl ?_
      exact Keeps.refl _ _
    · clear_value y2
      refine State.almKillEnd_keeps rfl ?_
      try extract_lets -underBinder
      first | split | (dsimp +zetaDelta only; split)
      · refine Keeps.mk_alm rfl ?_
        refine State.updWatch_keeps rfl ?_
        refine State.setWatch_keeps rfl ?_
        exact Keeps.refl _ _
      · exact Keeps.refl _ _
  · refine State.at_keeps rfl ?_
    exact Keeps.refl _ _

theorem execAlmExcStop_keeps {t : Nat} {w : Nat} {tm : Bool} {plan : Nat} (u : State) : ∃ nxt, execAlmExcStop t w tm plan u = .next nxt ∧ Keeps 92448037176951911 u nxt := by
  refine ⟨_, rfl, ?_⟩
  refine State.issue_keeps (fun _ => ?_) rfl ?_
  · refine State.timed_keeps rfl ?_
    exact Keeps.refl _ _
  · refine State.at_keeps rfl ?_
    exact Keeps.refl _ _

theorem execAlmAndi_keeps {t : Nat} {w : Nat} {d : Nat} {a : Nat} {imm : Nat} (u : State) : ∃ nxt, execAlmAndi t w d a imm u = .next nxt ∧ Keeps 1099513200678 u nxt := by
  refine ⟨_, rfl, ?_⟩
  refine State.issue_keeps (fun _ => ?_) rfl ?_
  · refine State.aluPut_keeps rfl ?_
    exact Keeps.refl _ _
  · refine State.at_keeps rfl ?_
    exact Keeps.refl _ _

theorem execAlmSetpClass_keeps {t : Nat} {w : Nat} {tm : Bool} {a : Nat} (u : State) : ∃ nxt, execAlmSetpClass t w tm a u = .next nxt ∧ Keeps 92448037176951911 u nxt := by
  refine ⟨_, rfl, ?_⟩
  refine State.issue_keeps (fun _ => ?_) rfl ?_
  · refine State.timed_keeps rfl ?_
    exact Keeps.refl _ _
  · refine State.at_keeps rfl ?_
    exact Keeps.refl _ _

theorem execAlmBlt_keeps {t : Nat} {w : Nat} {a : Nat} {b : Nat} {tgt : Nat} (u : State) : ∃ nxt, execAlmBlt t w a b tgt u = .next nxt ∧ Keeps 72058693551128614 u nxt := by
  refine ⟨_, rfl, ?_⟩
  refine State.issue_keeps (fun _ => ?_) rfl ?_
  · refine State.branch_keeps rfl ?_
    exact Keeps.refl _ _
  · refine State.at_keeps rfl ?_
    exact Keeps.refl _ _

theorem execAlmXor_keeps {t : Nat} {w : Nat} {d : Nat} {a : Nat} {b : Nat} (u : State) : ∃ nxt, execAlmXor t w d a b u = .next nxt ∧ Keeps 1099513200678 u nxt := by
  refine ⟨_, rfl, ?_⟩
  refine State.issue_keeps (fun _ => ?_) rfl ?_
  · refine State.alu2_keeps rfl ?_
    exact Keeps.refl _ _
  · refine State.at_keeps rfl ?_
    exact Keeps.refl _ _

theorem execAlmAdd_keeps {t : Nat} {w : Nat} {d : Nat} {a : Nat} {b : Nat} (u : State) : ∃ nxt, execAlmAdd t w d a b u = .next nxt ∧ Keeps 1099513200678 u nxt := by
  refine ⟨_, rfl, ?_⟩
  refine State.issue_keeps (fun _ => ?_) rfl ?_
  · refine State.alu2_keeps rfl ?_
    exact Keeps.refl _ _
  · refine State.at_keeps rfl ?_
    exact Keeps.refl _ _

end Sys2Proof.Machine
end

