-- ==== Sys2Proof/Laws/KeepsSextant.lean ====
section
/-! SUPPORT. What each function of Machine/Sextant.lean can change. -/

namespace Sys2Proof.Machine

theorem State.modSxt_keeps {m : Nat} {s u : State} {f : Sys2Proof.Machine.SxtSt → Sys2Proof.Machine.SxtSt} (hm : m ||| 131072 = m) (h : Keeps m s u) :
    Keeps m s (State.modSxt u f) := by
  refine Keeps.next hm h ?_
  clear hm h
  unfold State.modSxt
  refine Keeps.mk_sxt rfl ?_
  exact Keeps.refl _ _

theorem State.setCxWord_keeps {m : Nat} {s u : State} {c : Nat} {off : Nat} {v : Sys2Proof.Word} (hm : m ||| 131072 = m) (h : Keeps m s u) :
    Keeps m s (State.setCxWord u c off v) := by
  refine Keeps.next hm h ?_
  clear hm h
  unfold State.setCxWord
  refine State.modSxt_keeps rfl ?_
  exact Keeps.refl _ _

theorem State.setCxBits_keeps {m : Nat} {s u : State} {c : Nat} {off : Nat} {lo : Nat} {len : Nat} {v : Nat} (hm : m ||| 131072 = m) (h : Keeps m s u) :
    Keeps m s (State.setCxBits u c off lo len v) := by
  refine Keeps.next hm h ?_
  clear hm h
  unfold State.setCxBits
  refine State.setCxWord_keeps rfl ?_
  exact Keeps.refl _ _

theorem State.setCxFlag_keeps {m : Nat} {s u : State} {c : Nat} {b : Nat} {v : Bool} (hm : m ||| 131072 = m) (h : Keeps m s u) :
    Keeps m s (State.setCxFlag u c b v) := by
  refine Keeps.next hm h ?_
  clear hm h
  unfold State.setCxFlag
  refine State.setCxBits_keeps rfl ?_
  exact Keeps.refl _ _

theorem State.putCx_keeps {m : Nat} {s u : State} {c : Nat} {off : Nat} {ws : List Sys2Proof.Word} (hm : m ||| 131072 = m) (h : Keeps m s u) :
    Keeps m s (State.putCx u c off ws) := by
  refine Keeps.next hm h ?_
  clear hm h
  unfold State.putCx
  refine State.modSxt_keeps rfl ?_
  exact Keeps.refl _ _

theorem State.storeCx_keeps {m : Nat} {s u : State} {c : Nat} {x : Sys2Proof.Machine.Cx} (hm : m ||| 131072 = m) (h : Keeps m s u) :
    Keeps m s (State.storeCx u c x) := by
  refine Keeps.next hm h ?_
  clear hm h
  unfold State.storeCx
  refine State.putCx_keeps rfl ?_
  exact Keeps.refl _ _

theorem State.checkCx_keeps {m : Nat} {s u : State} {c : Nat} (hm : m ||| 72061992085618692 = m) (h : Keeps m s u) :
    Keeps m s (State.checkCx u c) := by
  refine Keeps.next hm h ?_
  clear hm h
  unfold State.checkCx
  refine State.setCxFlag_keeps rfl ?_
  refine State.storeCx_keeps rfl ?_
  refine State.when_keeps (fun _ => ?_) ?_
  · refine State.modSide_keeps rfl ?_
    exact Keeps.refl _ _
  · refine Keeps.ite ?_ ?_
    · refine State.pmcEvent_keeps rfl ?_
      refine State.raiseEv_keeps (n := 10) (show unitOf 40964 = 10 from rfl) rfl rfl ?_
      refine State.satAdd_keeps (n := 10) (show unitOf 40984 = 10 from rfl) rfl rfl ?_
      refine State.setCxFlag_keeps rfl ?_
      exact Keeps.refl _ _
    · exact Keeps.refl _ _

theorem State.sxtFlush_keeps {m : Nat} {s u : State} {j : Sys2Proof.Machine.SxtJob} (hm : m ||| 16 = m) (h : Keeps m s u) :
    Keeps m s (State.sxtFlush u j) := by
  refine Keeps.next hm h ?_
  clear hm h
  unfold State.sxtFlush
  try extract_lets -underBinder
  first | split | (dsimp +zetaDelta only; split)
  · refine State.contribute_keeps rfl ?_
    exact Keeps.refl _ _
  · exact Keeps.refl _ _

theorem State.putJob_keeps {m : Nat} {s u : State} {old : Sys2Proof.Machine.SxtJob} {new : Sys2Proof.Machine.SxtJob} {fin : Bool} (hm : m ||| 131088 = m) (h : Keeps m s u) :
    Keeps m s (State.putJob u old new fin) := by
  refine Keeps.next hm h ?_
  clear hm h
  unfold State.putJob
  refine State.modSxt_keeps rfl ?_
  refine State.sxtFlush_keeps rfl ?_
  exact Keeps.refl _ _

theorem State.sxtStatus_keeps {m : Nat} {s u : State} (hm : m ||| 4398046511108 = m) (h : Keeps m s u) :
    Keeps m s (State.sxtStatus u) := by
  refine Keeps.next hm h ?_
  clear hm h
  unfold State.sxtStatus
  refine State.setHeld_keeps (n := 10) (show unitOf 40964 = 10 from rfl) rfl rfl ?_
  refine State.setHeld_keeps (n := 10) (show unitOf 40964 = 10 from rfl) rfl rfl ?_
  exact Keeps.refl _ _

theorem State.setCxLong_keeps {m : Nat} {s u : State} {c : Nat} {off : Nat} {v : Nat} (hm : m ||| 131072 = m) (h : Keeps m s u) :
    Keeps m s (State.setCxLong u c off v) := by
  refine Keeps.next hm h ?_
  clear hm h
  unfold State.setCxLong
  refine State.setCxWord_keeps rfl ?_
  refine State.setCxWord_keeps rfl ?_
  exact Keeps.refl _ _

theorem State.setCxF_keeps {m : Nat} {s u : State} {c : Nat} {off : Nat} {v : Sys2Proof.Machine.Fl} (hm : m ||| 131072 = m) (h : Keeps m s u) :
    Keeps m s (State.setCxF u c off v) := by
  refine Keeps.next hm h ?_
  clear hm h
  unfold State.setCxF
  refine State.setCxWord_keeps rfl ?_
  exact Keeps.refl _ _

theorem State.lrnVoid_keeps {m : Nat} {s u : State} {p : Nat} {code : Nat} (hm : m ||| 4398046642180 = m) (h : Keeps m s u) :
    Keeps m s (State.lrnVoid u p code) := by
  refine Keeps.next hm h ?_
  clear hm h
  unfold State.lrnVoid
  refine State.satAdd_keeps (n := 10) (show unitOf 41076 = 10 from rfl) rfl rfl ?_
  refine State.setCxFlag_keeps rfl ?_
  refine State.setCxBits_keeps rfl ?_
  refine State.setCxBits_keeps rfl ?_
  exact Keeps.refl _ _

theorem State.setCapl_keeps {m : Nat} {s u : State} {p : Nat} {capl : Sys2Proof.Machine.Fl} (hm : m ||| 131072 = m) (h : Keeps m s u) :
    Keeps m s (State.setCapl u p capl) := by
  refine Keeps.next hm h ?_
  clear hm h
  unfold State.setCapl
  extract_lets -merge -useContext -underBinder y1 y2 y3
  refine Keeps.next (t := y3) (Nat.or_self _) ?_ ?_
  · refine State.setCxF_keeps rfl ?_
    refine State.setCxF_keeps rfl ?_
    exact Keeps.refl _ _
  · clear_value y3
    refine Keeps.ite ?_ ?_
    · refine State.setCxF_keeps rfl ?_
      refine State.setCxF_keeps rfl ?_
      exact Keeps.refl _ _
    · exact Keeps.refl _ _

theorem State.saveTrig_keeps {m : Nat} {s u : State} {code : Nat} (hm : m ||| 131072 = m) (h : Keeps m s u) :
    Keeps m s (State.saveTrig u code) := by
  refine Keeps.next hm h ?_
  clear hm h
  unfold State.saveTrig
  refine Keeps.ite ?_ ?_
  · refine State.modSxt_keeps rfl ?_
    exact Keeps.refl _ _
  · exact Keeps.refl _ _

theorem State.lrnDone_keeps {m : Nat} {s u : State} {p : Nat} (hm : m ||| 18018796556124228 = m) (h : Keeps m s u) :
    Keeps m s (State.lrnDone u p) := by
  refine Keeps.next hm h ?_
  clear hm h
  unfold State.lrnDone
  extract_lets -merge -useContext -underBinder y1 y2 y3 y4 y5 y6 y7 y8 y9 y10 y11
  refine Keeps.next (t := y4) (Nat.or_self _) ?_ ?_
  · refine State.setCxF_keeps rfl ?_
    exact Keeps.refl _ _
  · clear_value y4
    refine Keeps.ite ?_ ?_
    · refine State.lrnVoid_keeps rfl ?_
      exact Keeps.refl _ _
    · refine State.saveTrig_keeps rfl ?_
      refine State.logEvent_keeps rfl ?_
      refine State.satAdd_keeps (n := 10) (show unitOf 41076 = 10 from rfl) rfl rfl ?_
      refine State.setCxFlag_keeps rfl ?_
      refine State.setCxWord_keeps rfl ?_
      refine State.setCxBits_keeps rfl ?_
      refine State.setCxBits_keeps rfl ?_
      refine State.setCxBits_keeps rfl ?_
      refine State.setCapl_keeps rfl ?_
      refine State.setCxF_keeps rfl ?_
      exact Keeps.refl _ _

theorem State.lrnStep_keeps {m : Nat} {s u : State} {p : Nat} {j : Sys2Proof.Machine.SxtJob} {rd : Option Int} {cur : Option Int} {t : Sys2Proof.Machine.Fl} {q : Sys2Proof.Machine.Charge} (hm : m ||| 18018796556124228 = m) (h : Keeps m s u) :
    Keeps m s (State.lrnStep u p j rd cur t q) := by
  refine Keeps.next hm h ?_
  clear hm h
  unfold State.lrnStep
  refine Keeps.ite ?_ ?_
  · exact Keeps.refl _ _
  · try extract_lets -underBinder
    first | split | (dsimp +zetaDelta only; split)
    · refine Keeps.ite ?_ ?_
      · refine State.setCxBits_keeps rfl ?_
        refine State.setCxLong_keeps rfl ?_
        exact Keeps.refl _ _
      · refine State.setCxLong_keeps rfl ?_
        exact Keeps.refl _ _
    · refine Keeps.ite ?_ ?_
      · refine State.setCxBits_keeps rfl ?_
        refine State.setCxLong_keeps rfl ?_
        exact Keeps.refl _ _
      · refine Keeps.ite ?_ ?_
        · refine State.modSide_keeps rfl ?_
          refine State.setCxFlag_keeps rfl ?_
          refine State.setCxWord_keeps rfl ?_
          refine State.setCxWord_keeps rfl ?_
          refine State.setCxLong_keeps rfl ?_
          refine State.setCxBits_keeps rfl ?_
          refine State.setCxLong_keeps rfl ?_
          exact Keeps.refl _ _
        · refine State.setCxLong_keeps rfl ?_
          exact Keeps.refl _ _
    · extract_lets -merge -useContext -underBinder y1
      refine Keeps.next (t := y1) (Nat.or_self _) ?_ ?_
      · refine State.setCxF_keeps rfl ?_
        refine State.setCxF_keeps rfl ?_
        refine State.setCxLong_keeps rfl ?_
        exact Keeps.refl _ _
      · clear_value y1
        refine Keeps.ite ?_ ?_
        · refine State.lrnVoid_keeps rfl ?_
          exact Keeps.refl _ _
        · refine Keeps.ite ?_ ?_
          · refine State.lrnVoid_keeps rfl ?_
            exact Keeps.refl _ _
          · refine Keeps.ite ?_ ?_
            · refine State.lrnVoid_keeps rfl ?_
              exact Keeps.refl _ _
            · refine Keeps.ite ?_ ?_
              · refine State.lrnVoid_keeps rfl ?_
                exact Keeps.refl _ _
              · refine Keeps.ite ?_ ?_
                · refine State.lrnVoid_keeps rfl ?_
                  exact Keeps.refl _ _
                · refine Keeps.ite ?_ ?_
                  · refine State.lrnVoid_keeps rfl ?_
                    exact Keeps.refl _ _
                  · refine Keeps.ite ?_ ?_
                    · refine State.lrnVoid_keeps rfl ?_
                      exact Keeps.refl _ _
                    · refine Keeps.ite ?_ ?_
                      · refine State.modSide_keeps rfl ?_
                        refine State.setCxFlag_keeps rfl ?_
                        refine State.setCxWord_keeps rfl ?_
                        refine State.setCxWord_keeps rfl ?_
                        refine State.setCxLong_keeps rfl ?_
                        refine State.setCxBits_keeps rfl ?_
                        exact Keeps.refl _ _
                      · refine Keeps.ite ?_ ?_
                        · refine State.lrnDone_keeps rfl ?_
                          exact Keeps.refl _ _
                        · exact Keeps.refl _ _

theorem State.outputsCx_keeps {m : Nat} {s u : State} {c : Nat} {t : Sys2Proof.Machine.Fl} (hm : m ||| 131072 = m) (h : Keeps m s u) :
    Keeps m s (State.outputsCx u c t) := by
  refine Keeps.next hm h ?_
  clear hm h
  unfold State.outputsCx
  refine State.when_keeps (fun _ => ?_) ?_
  · refine State.setCxFlag_keeps rfl ?_
    exact Keeps.refl _ _
  · refine State.when_keeps (fun _ => ?_) ?_
    · refine State.setCxFlag_keeps rfl ?_
      exact Keeps.refl _ _
    · refine State.setCxFlag_keeps rfl ?_
      refine State.setCxFlag_keeps rfl ?_
      refine State.putCx_keeps rfl ?_
      exact Keeps.refl _ _

theorem State.disagreeStep_keeps {m : Nat} {s u : State} {c : Nat} {nu : Sys2Proof.Machine.Fl} {sv : Sys2Proof.Machine.Fl} (hm : m ||| 131072 = m) (h : Keeps m s u) :
    Keeps m s (State.disagreeStep u c nu sv) := by
  refine Keeps.next hm h ?_
  clear hm h
  unfold State.disagreeStep
  refine Keeps.ite ?_ ?_
  · extract_lets -merge -useContext -underBinder y1 y2 y3 y4 y5 y6 y7 y8
    refine Keeps.next (t := y3) (Nat.or_self _) ?_ ?_
    · refine State.modSide_keeps rfl ?_
      refine State.setCxBits_keeps rfl ?_
      exact Keeps.refl _ _
    · clear_value y3
      refine Keeps.ite ?_ ?_
      · refine Keeps.ite ?_ ?_
        · refine State.storeCx_keeps rfl ?_
          refine State.setCxFlag_keeps rfl ?_
          exact Keeps.refl _ _
        · refine State.setCxFlag_keeps rfl ?_
          exact Keeps.refl _ _
      · exact Keeps.refl _ _
  · extract_lets -merge -useContext -underBinder y9 y10
    refine Keeps.next (t := y10) (Nat.or_self _) ?_ ?_
    · refine State.modSide_keeps rfl ?_
      refine State.setCxBits_keeps rfl ?_
      exact Keeps.refl _ _
    · clear_value y10
      refine Keeps.ite ?_ ?_
      · refine State.setCxFlag_keeps rfl ?_
        exact Keeps.refl _ _
      · exact Keeps.refl _ _

theorem State.cellUpdate_keeps {m : Nat} {s u : State} {j : Sys2Proof.Machine.SxtJob} {c : Nat} (hm : m ||| 90076390595100741 = m) (h : Keeps m s u) :
    Keeps m s (State.cellUpdate u j c) := by
  refine Keeps.next hm h ?_
  clear hm h
  unfold State.cellUpdate
  refine Keeps.ite ?_ ?_
  · refine State.setCxFlag_keeps rfl ?_
    refine State.setCxFlag_keeps rfl ?_
    refine State.pmcEvent_keeps rfl ?_
    refine State.setCxWord_keeps rfl ?_
    exact Keeps.refl _ _
  · try extract_lets -underBinder
    first | split | (dsimp +zetaDelta only; split)
    · refine Keeps.ite ?_ ?_
      · refine State.lrnStep_keeps rfl ?_
        refine State.when_keeps (fun _ => ?_) ?_
        · refine State.modSide_keeps rfl ?_
          exact Keeps.refl _ _
        · refine State.when_keeps (fun _ => ?_) ?_
          · refine State.setCxLong_keeps rfl ?_
            exact Keeps.refl _ _
          · refine State.modSide_keeps rfl ?_
            refine State.setCxLong_keeps rfl ?_
            refine Keeps.foldl (fun _ _ => ?_) ?_
            · refine State.setCxFlag_keeps rfl ?_
              exact Keeps.refl _ _
            · refine State.setCxLong_keeps rfl ?_
              refine State.setCxF_keeps rfl ?_
              refine State.setCxFlag_keeps rfl ?_
              refine State.setCxFlag_keeps rfl ?_
              refine State.when_keeps (fun _ => ?_) ?_
              · refine State.modSide_keeps rfl ?_
                exact Keeps.refl _ _
              · refine State.setCxFlag_keeps rfl ?_
                refine State.setCxFlag_keeps rfl ?_
                refine State.pmcEvent_keeps rfl ?_
                refine State.setCxWord_keeps rfl ?_
                exact Keeps.refl _ _
      · refine State.putCx_keeps rfl ?_
        refine State.outputsCx_keeps rfl ?_
        refine State.lrnStep_keeps rfl ?_
        refine State.when_keeps (fun _ => ?_) ?_
        · refine Keeps.ite ?_ ?_
          · exact Keeps.refl _ _
          · refine State.disagreeStep_keeps rfl ?_
            exact Keeps.refl _ _
        · refine State.checkCx_keeps rfl ?_
          refine State.setCxFlag_keeps rfl ?_
          refine State.storeCx_keeps rfl ?_
          refine State.when_keeps (fun _ => ?_) ?_
          · refine State.modSide_keeps rfl ?_
            exact Keeps.refl _ _
          · refine State.when_keeps (fun _ => ?_) ?_
            · refine State.setCxLong_keeps rfl ?_
              exact Keeps.refl _ _
            · refine State.modSide_keeps rfl ?_
              refine State.setCxLong_keeps rfl ?_
              refine Keeps.foldl (fun _ _ => ?_) ?_
              · refine State.setCxFlag_keeps rfl ?_
                exact Keeps.refl _ _
              · refine State.setCxLong_keeps rfl ?_
                refine State.setCxF_keeps rfl ?_
                refine State.setCxFlag_keeps rfl ?_
                refine State.setCxFlag_keeps rfl ?_
                refine State.when_keeps (fun _ => ?_) ?_
                · refine State.modSide_keeps rfl ?_
                  exact Keeps.refl _ _
                · refine State.setCxFlag_keeps rfl ?_
                  refine State.setCxFlag_keeps rfl ?_
                  refine State.pmcEvent_keeps rfl ?_
                  refine State.setCxWord_keeps rfl ?_
                  exact Keeps.refl _ _
    · refine Keeps.ite ?_ ?_
      · refine State.putCx_keeps rfl ?_
        refine State.outputsCx_keeps rfl ?_
        refine State.lrnStep_keeps rfl ?_
        refine State.when_keeps (fun _ => ?_) ?_
        · refine Keeps.ite ?_ ?_
          · exact Keeps.refl _ _
          · refine State.disagreeStep_keeps rfl ?_
            exact Keeps.refl _ _
        · refine State.checkCx_keeps rfl ?_
          refine State.setCxLong_keeps rfl ?_
          refine State.setCxFlag_keeps rfl ?_
          refine State.setCxFlag_keeps rfl ?_
          refine State.modSide_keeps rfl ?_
          refine State.storeCx_keeps rfl ?_
          refine Keeps.ite ?_ ?_
          · refine State.modSide_keeps rfl ?_
            refine State.setCxLong_keeps rfl ?_
            refine State.modSide_keeps rfl ?_
            refine State.setCxLong_keeps rfl ?_
            refine Keeps.foldl (fun _ _ => ?_) ?_
            · refine State.setCxFlag_keeps rfl ?_
              exact Keeps.refl _ _
            · refine State.setCxLong_keeps rfl ?_
              refine State.setCxF_keeps rfl ?_
              refine State.setCxFlag_keeps rfl ?_
              refine State.setCxFlag_keeps rfl ?_
              refine State.when_keeps (fun _ => ?_) ?_
              · refine State.modSide_keeps rfl ?_
                exact Keeps.refl _ _
              · refine State.setCxFlag_keeps rfl ?_
                refine State.setCxFlag_keeps rfl ?_
                refine State.pmcEvent_keeps rfl ?_
                refine State.setCxWord_keeps rfl ?_
                exact Keeps.refl _ _
          · refine State.freshNat_keeps rfl ?_
            refine State.modSide_keeps rfl ?_
            refine State.setCxLong_keeps rfl ?_
            refine State.modSide_keeps rfl ?_
            refine State.setCxLong_keeps rfl ?_
            refine Keeps.foldl (fun _ _ => ?_) ?_
            · refine State.setCxFlag_keeps rfl ?_
              exact Keeps.refl _ _
            · refine State.setCxLong_keeps rfl ?_
              refine State.setCxF_keeps rfl ?_
              refine State.setCxFlag_keeps rfl ?_
              refine State.setCxFlag_keeps rfl ?_
              refine State.when_keeps (fun _ => ?_) ?_
              · refine State.modSide_keeps rfl ?_
                exact Keeps.refl _ _
              · refine State.setCxFlag_keeps rfl ?_
                refine State.setCxFlag_keeps rfl ?_
                refine State.pmcEvent_keeps rfl ?_
                refine State.setCxWord_keeps rfl ?_
                exact Keeps.refl _ _
      · try extract_lets -underBinder
        first | split | (dsimp +zetaDelta only; split)
        · refine State.putCx_keeps rfl ?_
          refine State.outputsCx_keeps rfl ?_
          refine State.lrnStep_keeps rfl ?_
          refine State.when_keeps (fun _ => ?_) ?_
          · refine Keeps.ite ?_ ?_
            · exact Keeps.refl _ _
            · refine State.disagreeStep_keeps rfl ?_
              exact Keeps.refl _ _
          · refine State.checkCx_keeps rfl ?_
            refine State.pmcEvent_keeps rfl ?_
            refine State.setCxFlag_keeps rfl ?_
            refine State.storeCx_keeps rfl ?_
            refine State.modSide_keeps rfl ?_
            refine State.setCxLong_keeps rfl ?_
            refine State.modSide_keeps rfl ?_
            refine State.setCxLong_keeps rfl ?_
            refine Keeps.foldl (fun _ _ => ?_) ?_
            · refine State.setCxFlag_keeps rfl ?_
              exact Keeps.refl _ _
            · refine State.setCxLong_keeps rfl ?_
              refine State.setCxF_keeps rfl ?_
              refine State.setCxFlag_keeps rfl ?_
              refine State.setCxFlag_keeps rfl ?_
              refine State.when_keeps (fun _ => ?_) ?_
              · refine State.modSide_keeps rfl ?_
                exact Keeps.refl _ _
              · refine State.setCxFlag_keeps rfl ?_
                refine State.setCxFlag_keeps rfl ?_
                refine State.pmcEvent_keeps rfl ?_
                refine State.setCxWord_keeps rfl ?_
                exact Keeps.refl _ _
        · refine State.putCx_keeps rfl ?_
          refine State.outputsCx_keeps rfl ?_
          refine State.lrnStep_keeps rfl ?_
          refine State.when_keeps (fun _ => ?_) ?_
          · refine Keeps.ite ?_ ?_
            · exact Keeps.refl _ _
            · refine State.disagreeStep_keeps rfl ?_
              exact Keeps.refl _ _
          · refine State.checkCx_keeps rfl ?_
            refine State.setCxFlag_keeps rfl ?_
            refine State.storeCx_keeps rfl ?_
            refine State.modSide_keeps rfl ?_
            refine State.setCxLong_keeps rfl ?_
            refine State.modSide_keeps rfl ?_
            refine State.setCxLong_keeps rfl ?_
            refine Keeps.foldl (fun _ _ => ?_) ?_
            · refine State.setCxFlag_keeps rfl ?_
              exact Keeps.refl _ _
            · refine State.setCxLong_keeps rfl ?_
              refine State.setCxF_keeps rfl ?_
              refine State.setCxFlag_keeps rfl ?_
              refine State.setCxFlag_keeps rfl ?_
              refine State.when_keeps (fun _ => ?_) ?_
              · refine State.modSide_keeps rfl ?_
                exact Keeps.refl _ _
              · refine State.setCxFlag_keeps rfl ?_
                refine State.setCxFlag_keeps rfl ?_
                refine State.pmcEvent_keeps rfl ?_
                refine State.setCxWord_keeps rfl ?_
                exact Keeps.refl _ _

theorem State.tileUpdate_keeps {m : Nat} {s u : State} {j : Sys2Proof.Machine.SxtJob} {c : Nat} (hm : m ||| 72057594039107589 = m) (h : Keeps m s u) :
    Keeps m s (State.tileUpdate u j c) := by
  refine Keeps.next hm h ?_
  clear hm h
  unfold State.tileUpdate
  extract_lets -merge -useContext -underBinder y1 y2 y3 y4 y5 y6 y7 y8 y9 y10 y11 y12 y13 y14 y15 y16
  refine Keeps.next (t := y4) (Nat.or_self _) ?_ ?_
  · refine State.setCxFlag_keeps rfl ?_
    refine State.pmcEvent_keeps rfl ?_
    refine State.setCxWord_keeps rfl ?_
    exact Keeps.refl _ _
  · clear_value y4
    refine Keeps.ite ?_ ?_
    · exact Keeps.refl _ _
    · refine State.setCxLong_keeps rfl ?_
      refine State.setCxF_keeps rfl ?_
      refine Keeps.ite ?_ ?_
      · refine Keeps.ite ?_ ?_
        · exact Keeps.refl _ _
        · refine State.freshNat_keeps rfl ?_
          exact Keeps.refl _ _
      · refine Keeps.ite ?_ ?_
        · refine State.modSide_keeps rfl ?_
          refine State.setCxF_keeps rfl ?_
          refine Keeps.ite ?_ ?_
          · exact Keeps.refl _ _
          · refine State.freshNat_keeps rfl ?_
            exact Keeps.refl _ _
        · refine State.setCxF_keeps rfl ?_
          refine Keeps.ite ?_ ?_
          · exact Keeps.refl _ _
          · refine State.freshNat_keeps rfl ?_
            exact Keeps.refl _ _

theorem State.cxCompute_keeps {m : Nat} {s u : State} {j : Sys2Proof.Machine.SxtJob} {c : Nat} (hm : m ||| 90076390595100741 = m) (h : Keeps m s u) :
    Keeps m s (State.cxCompute u j c).2 := by
  refine Keeps.next hm h ?_
  clear hm h
  unfold State.cxCompute
  extract_lets -merge -useContext -underBinder y1 y2 y3 y4
  refine Keeps.next (t := y1) (Nat.or_self _) ?_ ?_
  · refine State.sxtStatus_keeps rfl ?_
    refine Keeps.ite ?_ ?_
    · refine State.cellUpdate_keeps rfl ?_
      exact Keeps.refl _ _
    · refine State.tileUpdate_keeps rfl ?_
      exact Keeps.refl _ _
  · clear_value y1
    refine Keeps.pair2 ?_
    exact Keeps.refl _ _

theorem execContextUpdateDone_keeps {t : Nat} {c : Nat} (u : State) : ∃ nxt, execContextUpdateDone t c u = .next nxt ∧ Keeps 90076390595100791 u nxt := by
  refine ⟨_, rfl, ?_⟩
  try extract_lets -underBinder
  first | split | (dsimp +zetaDelta only; split)
  · refine State.at_keeps rfl ?_
    exact Keeps.refl _ _
  · refine Keeps.ite ?_ ?_
    · refine State.at_keeps rfl ?_
      exact Keeps.refl _ _
    · refine State.putJob_keeps rfl ?_
      refine Keeps.ite2 ?_ ?_
      · refine Keeps.pair2 ?_
        refine State.at_keeps rfl ?_
        exact Keeps.refl _ _
      · refine State.cxCompute_keeps rfl ?_
        refine State.at_keeps rfl ?_
        exact Keeps.refl _ _

theorem State.storeFixed_keeps {m : Nat} {s u : State} {c : Nat} {x : Sys2Proof.Machine.Cx} (hm : m ||| 131072 = m) (h : Keeps m s u) :
    Keeps m s (State.storeFixed u c x) := by
  refine Keeps.next hm h ?_
  clear hm h
  unfold State.storeFixed
  refine State.putCx_keeps rfl ?_
  exact Keeps.refl _ _

theorem State.sxtNominal_keeps {m : Nat} {s u : State} {p : Nat} (hm : m ||| 131072 = m) (h : Keeps m s u) :
    Keeps m s (State.sxtNominal u p) := by
  refine Keeps.next hm h ?_
  clear hm h
  unfold State.sxtNominal
  refine State.setCxFlag_keeps rfl ?_
  refine Keeps.ite ?_ ?_
  · refine State.setCxF_keeps rfl ?_
    refine State.setCxF_keeps rfl ?_
    refine Keeps.ite ?_ ?_
    · refine State.setCxF_keeps rfl ?_
      refine State.setCxF_keeps rfl ?_
      refine State.storeFixed_keeps rfl ?_
      exact Keeps.refl _ _
    · refine State.storeFixed_keeps rfl ?_
      exact Keeps.refl _ _
  · refine Keeps.ite ?_ ?_
    · refine State.setCxF_keeps rfl ?_
      refine State.setCxF_keeps rfl ?_
      refine State.storeFixed_keeps rfl ?_
      exact Keeps.refl _ _
    · refine State.storeFixed_keeps rfl ?_
      exact Keeps.refl _ _

theorem State.lrnConfig_keeps {m : Nat} {s u : State} {p : Nat} (hm : m ||| 4398046642180 = m) (h : Keeps m s u) :
    Keeps m s (State.lrnConfig u p) := by
  refine Keeps.next hm h ?_
  clear hm h
  unfold State.lrnConfig
  refine Keeps.ite ?_ ?_
  · refine State.lrnVoid_keeps rfl ?_
    exact Keeps.refl _ _
  · refine State.setCxBits_keeps rfl ?_
    exact Keeps.refl _ _

theorem State.sxtRestart_keeps {m : Nat} {s u : State} {p : Nat} (hm : m ||| 4398046642180 = m) (h : Keeps m s u) :
    Keeps m s (State.sxtRestart u p) := by
  refine Keeps.next hm h ?_
  clear hm h
  unfold State.sxtRestart
  refine State.setCxFlag_keeps rfl ?_
  refine State.sxtNominal_keeps rfl ?_
  refine State.lrnConfig_keeps rfl ?_
  exact Keeps.refl _ _

theorem State.sxtNotRestored_keeps {m : Nat} {s u : State} (hm : m ||| 4398046511108 = m) (h : Keeps m s u) :
    Keeps m s (State.sxtNotRestored u) := by
  refine Keeps.next hm h ?_
  clear hm h
  unfold State.sxtNotRestored
  refine State.setHeld_keeps (n := 10) (show unitOf 41028 = 10 from rfl) rfl rfl ?_
  exact Keeps.refl _ _

theorem State.sxtSched_keeps {m : Nat} {s u : State} (hm : m ||| 4398046511108 = m) (h : Keeps m s u) :
    Keeps m s (State.sxtSched u) := by
  refine Keeps.next hm h ?_
  clear hm h
  unfold State.sxtSched
  refine State.setFld_keeps (n := 10) (show unitOf 40968 = 10 from rfl) rfl rfl ?_
  refine State.setFld_keeps (n := 10) (show unitOf 40968 = 10 from rfl) rfl rfl ?_
  refine State.setFld_keeps (n := 10) (show unitOf 40968 = 10 from rfl) rfl rfl ?_
  exact Keeps.refl _ _

theorem State.sxtctlWrite_keeps {m : Nat} {s u : State} {v : Sys2Proof.Word} (hm : m ||| 4398046642180 = m) (h : Keeps m s u) :
    Keeps m s (State.sxtctlWrite u v) := by
  refine Keeps.next hm h ?_
  clear hm h
  unfold State.sxtctlWrite
  refine State.sxtSched_keeps rfl ?_
  refine State.when_keeps (fun _ => ?_) ?_
  · refine State.modSxt_keeps rfl ?_
    exact Keeps.refl _ _
  · refine State.when_keeps (fun _ => ?_) ?_
    · refine State.modSxt_keeps rfl ?_
      exact Keeps.refl _ _
    · refine State.when_keeps (fun _ => ?_) ?_
      · refine State.modSxt_keeps rfl ?_
        exact Keeps.refl _ _
      · refine State.setWord_keeps (n := 10) (show unitOf 40960 = 10 from rfl) rfl rfl ?_
        exact Keeps.refl _ _

theorem State.sxtActive_keeps {m : Nat} {s u : State} (hm : m ||| 72061992085487621 = m) (h : Keeps m s u) :
    Keeps m s (State.sxtActive u) := by
  refine Keeps.next hm h ?_
  clear hm h
  unfold State.sxtActive
  refine State.sxtSched_keeps rfl ?_
  refine State.setFld_keeps (n := 10) (show unitOf 40972 = 10 from rfl) rfl rfl ?_
  refine State.pmcSync_keeps rfl ?_
  exact Keeps.refl _ _

theorem State.sxtLanes_keeps {m : Nat} {s u : State} (hm : m ||| 72061992085618693 = m) (h : Keeps m s u) :
    Keeps m s (State.sxtLanes u) := by
  refine Keeps.next hm h ?_
  clear hm h
  unfold State.sxtLanes
  refine State.sxtActive_keeps rfl ?_
  refine State.modSxt_keeps rfl ?_
  refine State.setFld_keeps (n := 10) (show unitOf 40972 = 10 from rfl) rfl rfl ?_
  exact Keeps.refl _ _

theorem State.sxtWinWrite_keeps {m : Nat} {s u : State} {a : Nat} {v : Sys2Proof.Word} (hm : m ||| 4398046642180 = m) (h : Keeps m s u) :
    Keeps m s (State.sxtWinWrite u a v) := by
  refine Keeps.next hm h ?_
  clear hm h
  unfold State.sxtWinWrite
  refine Keeps.ite ?_ ?_
  · refine Keeps.ite ?_ ?_
    · exact Keeps.refl _ _
    · refine Keeps.ite ?_ ?_
      · refine State.raiseEv_keeps (n := 10) (show unitOf 40964 = 10 from rfl) rfl rfl ?_
        exact Keeps.refl _ _
      · refine State.modSxt_keeps rfl ?_
        exact Keeps.refl _ _
  · refine Keeps.ite ?_ ?_
    · refine State.modSxt_keeps rfl ?_
      exact Keeps.refl _ _
    · exact Keeps.refl _ _

theorem State.clearCx_keeps {m : Nat} {s u : State} {c : Nat} (hm : m ||| 131072 = m) (h : Keeps m s u) :
    Keeps m s (State.clearCx u c) := by
  refine Keeps.next hm h ?_
  clear hm h
  unfold State.clearCx
  refine State.modSide_keeps rfl ?_
  refine State.modSxt_keeps rfl ?_
  exact Keeps.refl _ _

theorem State.sxtModel_keeps {m : Nat} {s u : State} {p : Nat} (hm : m ||| 131072 = m) (h : Keeps m s u) :
    Keeps m s (State.sxtModel u p) := by
  refine Keeps.next hm h ?_
  clear hm h
  unfold State.sxtModel
  extract_lets -merge -useContext -underBinder y1 y2 y3 y4 y5 y6 y7 y8 y9 y10 y11 y12 y13
  refine Keeps.next (t := y5) (Nat.or_self _) ?_ ?_
  · refine State.setCxBits_keeps rfl ?_
    refine State.setCxBits_keeps rfl ?_
    exact Keeps.refl _ _
  · clear_value y5
    refine Keeps.ite ?_ ?_
    · exact Keeps.refl _ _
    · refine Keeps.ite ?_ ?_
      · refine State.storeCx_keeps rfl ?_
        exact Keeps.refl _ _
      · refine State.storeCx_keeps rfl ?_
        refine State.storeFixed_keeps rfl ?_
        exact Keeps.refl _ _

theorem State.sxtKind_keeps {m : Nat} {s u : State} {c : Nat} {kind : Nat} (hm : m ||| 131072 = m) (h : Keeps m s u) :
    Keeps m s (State.sxtKind u c kind) := by
  refine Keeps.next hm h ?_
  clear hm h
  unfold State.sxtKind
  refine Keeps.ite ?_ ?_
  · exact Keeps.refl _ _
  · extract_lets -merge -useContext -underBinder y1 y2 y3 y4
    refine Keeps.next (t := y1) (Nat.or_self _) ?_ ?_
    · refine State.clearCx_keeps rfl ?_
      exact Keeps.refl _ _
    · clear_value y1
      refine Keeps.ite ?_ ?_
      · exact Keeps.refl _ _
      · refine Keeps.ite ?_ ?_
        · refine State.setCxWord_keeps rfl ?_
          exact Keeps.refl _ _
        · refine State.sxtModel_keeps rfl ?_
          refine State.setCxLong_keeps rfl ?_
          refine State.setCxWord_keeps rfl ?_
          exact Keeps.refl _ _

theorem State.sxtCatchUp_keeps {m : Nat} {s u : State} (hm : m ||| 90076390595100757 = m) (h : Keeps m s u) :
    Keeps m s (State.sxtCatchUp u) := by
  refine Keeps.next hm h ?_
  clear hm h
  unfold State.sxtCatchUp
  refine Keeps.foldl (fun _ _ => ?_) ?_
  · refine State.putJob_keeps rfl ?_
    refine Keeps.foldl2 (fun _ _ => ?_) ?_
    · refine State.cxCompute_keeps rfl ?_
      exact Keeps.refl _ _
    · refine Keeps.pair2 ?_
      exact Keeps.refl _ _
  · exact Keeps.refl _ _

theorem State.sxtStaleMarks_keeps {m : Nat} {s u : State} {stale : List Sys2Proof.Machine.ItemId} (hm : m ||| 131072 = m) (h : Keeps m s u) :
    Keeps m s (State.sxtStaleMarks u stale) := by
  refine Keeps.next hm h ?_
  clear hm h
  unfold State.sxtStaleMarks
  refine Keeps.foldl (fun _ _ => ?_) ?_
  · refine State.setCxFlag_keeps rfl ?_
    exact Keeps.refl _ _
  · exact Keeps.refl _ _

theorem State.sxtModels_keeps {m : Nat} {s u : State} (hm : m ||| 131072 = m) (h : Keeps m s u) :
    Keeps m s (State.sxtModels u) := by
  refine Keeps.next hm h ?_
  clear hm h
  unfold State.sxtModels
  refine Keeps.foldl (fun _ _ => ?_) ?_
  · refine State.sxtModel_keeps rfl ?_
    exact Keeps.refl _ _
  · exact Keeps.refl _ _

theorem State.sxtClose_keeps {m : Nat} {s u : State} {target : Nat} (hm : m ||| 72061992085618709 = m) (h : Keeps m s u) :
    Keeps m s (State.sxtClose u target) := by
  refine Keeps.next hm h ?_
  clear hm h
  unfold State.sxtClose
  refine Keeps.ite ?_ ?_
  · exact Keeps.refl _ _
  · extract_lets -merge -useContext -underBinder y1 y2 y3 y4 y5 y6 y7 y8 y9 y10 y11
    refine Keeps.next (t := y3) (Nat.or_self _) ?_ ?_
    · refine State.modSxt_keeps rfl ?_
      exact Keeps.refl _ _
    · clear_value y3
      refine Keeps.ite ?_ ?_
      · exact Keeps.refl _ _
      · refine State.setHeld_keeps (n := 10) (show unitOf 40964 = 10 from rfl) rfl rfl ?_
        try extract_lets -underBinder
        first | split | (dsimp +zetaDelta only; split)
        · refine State.schedule_keeps rfl ?_
          refine State.modSxt_keeps rfl ?_
          refine State.sxtLanes_keeps rfl ?_
          exact Keeps.refl _ _
        · refine State.modSxt_keeps rfl ?_
          refine State.sxtLanes_keeps rfl ?_
          exact Keeps.refl _ _

theorem State.sxtEpoch_keeps {m : Nat} {s u : State} (hm : m ||| 131088 = m) (h : Keeps m s u) :
    Keeps m s (State.sxtEpoch u) := by
  refine Keeps.next hm h ?_
  clear hm h
  unfold State.sxtEpoch
  refine Keeps.foldl (fun _ _ => ?_) ?_
  · refine Keeps.ite ?_ ?_
    · exact Keeps.refl _ _
    · try extract_lets -underBinder
      first | split | (dsimp +zetaDelta only; split)
      · refine State.putJob_keeps rfl ?_
        refine State.schedule_keeps rfl ?_
        exact Keeps.refl _ _
      · exact Keeps.refl _ _
  · exact Keeps.refl _ _

theorem State.sxtBegin_keeps {m : Nat} {s u : State} {p : Nat} (hm : m ||| 4398046642180 = m) (h : Keeps m s u) :
    Keeps m s (State.sxtBegin u p) := by
  refine Keeps.next hm h ?_
  clear hm h
  unfold State.sxtBegin
  refine Keeps.ite ?_ ?_
  · refine State.sxtRestart_keeps rfl ?_
    exact Keeps.refl _ _
  · refine State.storeFixed_keeps rfl ?_
    exact Keeps.refl _ _

theorem State.dapplyTake_keeps {m : Nat} {s u : State} (hm : m ||| 4398046642180 = m) (h : Keeps m s u) :
    Keeps m s (State.dapplyTake u) := by
  refine Keeps.next hm h ?_
  clear hm h
  unfold State.dapplyTake
  refine Keeps.ite ?_ ?_
  · exact Keeps.refl _ _
  · try extract_lets -underBinder
    first | split | (dsimp +zetaDelta only; split)
    · refine State.raiseEv_keeps (n := 10) (show unitOf 40964 = 10 from rfl) rfl rfl ?_
      refine State.setWord_keeps (n := 10) (show unitOf 40980 = 10 from rfl) rfl rfl ?_
      refine State.modSxt_keeps rfl ?_
      exact Keeps.refl _ _
    · refine State.raiseEv_keeps (n := 10) (show unitOf 40964 = 10 from rfl) rfl rfl ?_
      refine State.setWord_keeps (n := 10) (show unitOf 40980 = 10 from rfl) rfl rfl ?_
      refine State.modSxt_keeps rfl ?_
      exact Keeps.refl _ _
    · refine State.sxtSched_keeps rfl ?_
      refine State.sxtStatus_keeps rfl ?_
      refine State.sxtNotRestored_keeps rfl ?_
      refine Keeps.foldl (fun _ _ => ?_) ?_
      · refine State.setCxBits_keeps rfl ?_
        exact Keeps.refl _ _
      · refine Keeps.foldl (fun _ _ => ?_) ?_
        · refine State.sxtModel_keeps rfl ?_
          refine Keeps.ite ?_ ?_
          · refine State.sxtBegin_keeps rfl ?_
            exact Keeps.refl _ _
          · refine Keeps.ite ?_ ?_
            · refine State.sxtRestart_keeps rfl ?_
              exact Keeps.refl _ _
            · refine Keeps.ite ?_ ?_
              · refine State.lrnConfig_keeps rfl ?_
                exact Keeps.refl _ _
              · exact Keeps.refl _ _
        · refine State.modSxt_keeps rfl ?_
          refine State.setWord_keeps (n := 10) (show unitOf 40980 = 10 from rfl) rfl rfl ?_
          refine State.modSxt_keeps rfl ?_
          exact Keeps.refl _ _

theorem execPrerested_keeps {t : Nat} {x1 : Sys2Proof.Master} (u : State) : ∃ nxt, execPrerested t x1 u = .next nxt ∧ Keeps 4398046642214 u nxt := by
  refine ⟨_, rfl, ?_⟩
  refine State.sxtctlWrite_keeps rfl ?_
  refine State.at_keeps rfl ?_
  exact Keeps.refl _ _

end Sys2Proof.Machine
end

