-- ==== Sys2Proof/Laws/KeepsAzimuth.lean ====
section
/-! SUPPORT. What each function of Machine/Azimuth.lean can change. -/

namespace Sys2Proof.Machine

theorem State.modAzmPos_keeps {m : Nat} {s u : State} {p : Nat} {f : Sys2Proof.Machine.AzmPos → Sys2Proof.Machine.AzmPos} (hm : m ||| 262144 = m) (h : Keeps m s u) :
    Keeps m s (State.modAzmPos u p f) := by
  refine Keeps.next hm h ?_
  clear hm h
  unfold State.modAzmPos
  refine State.modAzm_keeps rfl ?_
  exact Keeps.refl _ _

theorem State.azmFeed_keeps {m : Nat} {s u : State} {fin : Nat} {p : Nat} {c : Sys2Proof.Machine.AzmCell} (hm : m ||| 393216 = m) (h : Keeps m s u) :
    Keeps m s (State.azmFeed u fin p c) := by
  refine Keeps.next hm h ?_
  clear hm h
  unfold State.azmFeed
  extract_lets -merge -useContext -underBinder y1
  refine Keeps.next (t := y1) (Nat.or_self _) ?_ ?_
  · try extract_lets -underBinder
    first | split | (dsimp +zetaDelta only; split)
    · refine State.modAzmPos_keeps rfl ?_
      exact Keeps.refl _ _
    · exact Keeps.refl _ _
  · clear_value y1
    try extract_lets -underBinder
    first | split | (dsimp +zetaDelta only; split)
    · refine Keeps.ite ?_ ?_
      · refine State.setCxF_keeps rfl ?_
        exact Keeps.refl _ _
      · exact Keeps.refl _ _
    · exact Keeps.refl _ _

theorem State.platRefresh_keeps {m : Nat} {s u : State} (hm : m ||| 17592186306564 = m) (h : Keeps m s u) :
    Keeps m s (State.platRefresh u) := by
  refine Keeps.next hm h ?_
  clear hm h
  unfold State.platRefresh
  refine State.setHeld_keeps (n := 12) (show unitOf 49156 = 12 from rfl) rfl rfl ?_
  refine Keeps.foldl (fun _ _ => ?_) ?_
  · refine State.modAzmPos_keeps rfl ?_
    exact Keeps.refl _ _
  · exact Keeps.refl _ _

theorem State.azmAllocate_keeps {m : Nat} {s u : State} (hm : m ||| 17592186306564 = m) (h : Keeps m s u) :
    Keeps m s (State.azmAllocate u) := by
  refine Keeps.next hm h ?_
  clear hm h
  unfold State.azmAllocate
  refine State.platRefresh_keeps rfl ?_
  refine State.modAzm_keeps rfl ?_
  exact Keeps.refl _ _

theorem State.azmPut_keeps {m : Nat} {s u : State} {old : Sys2Proof.Machine.AzmJob} {new : Sys2Proof.Machine.AzmJob} (hm : m ||| 262144 = m) (h : Keeps m s u) :
    Keeps m s (State.azmPut u old new) := by
  refine Keeps.next hm h ?_
  clear hm h
  unfold State.azmPut
  refine State.modAzm_keeps rfl ?_
  exact Keeps.refl _ _

theorem State.azmSchedule_keeps {m : Nat} {s u : State} {j : Sys2Proof.Machine.AzmJob} {es : List Sys2Proof.Machine.EpochRec} (hm : m ||| 262160 = m) (h : Keeps m s u) :
    Keeps m s (State.azmSchedule u j es) := by
  refine Keeps.next hm h ?_
  clear hm h
  unfold State.azmSchedule
  try extract_lets -underBinder
  first | split | (dsimp +zetaDelta only; split)
  · try extract_lets -underBinder
    first | split | (dsimp +zetaDelta only; split)
    · refine State.azmPut_keeps rfl ?_
      refine State.schedule_keeps rfl ?_
      exact Keeps.refl _ _
    · exact Keeps.refl _ _
  · exact Keeps.refl _ _

theorem State.azmEpoch_keeps {m : Nat} {s u : State} (hm : m ||| 262160 = m) (h : Keeps m s u) :
    Keeps m s (State.azmEpoch u) := by
  refine Keeps.next hm h ?_
  clear hm h
  unfold State.azmEpoch
  refine Keeps.foldl (fun _ _ => ?_) ?_
  · refine State.azmSchedule_keeps rfl ?_
    exact Keeps.refl _ _
  · exact Keeps.refl _ _

theorem State.azmFinish_keeps {m : Nat} {s u : State} {j : Sys2Proof.Machine.AzmJob} (hm : m ||| 72075186225283092 = m) (h : Keeps m s u) :
    Keeps m s (State.azmFinish u j) := by
  refine Keeps.next hm h ?_
  clear hm h
  unfold State.azmFinish
  refine Keeps.ite ?_ ?_
  · exact Keeps.refl _ _
  · try extract_lets -underBinder
    first | split | (dsimp +zetaDelta only; split)
    · refine State.modAzm_keeps rfl ?_
      exact Keeps.refl _ _
    · refine State.azmSchedule_keeps rfl ?_
      refine State.when_keeps (fun _ => ?_) ?_
      · refine State.raiseEv_keeps (n := 12) (show unitOf 49156 = 12 from rfl) rfl rfl ?_
        exact Keeps.refl _ _
      · refine State.when_keeps (fun _ => ?_) ?_
        · refine State.raiseEv_keeps (n := 12) (show unitOf 49156 = 12 from rfl) rfl rfl ?_
          exact Keeps.refl _ _
        · refine State.pmcEvent_keeps rfl ?_
          refine State.azmPut_keeps rfl ?_
          exact Keeps.refl _ _

theorem State.azmFinishAll_keeps {m : Nat} {s u : State} (hm : m ||| 72075186225283092 = m) (h : Keeps m s u) :
    Keeps m s (State.azmFinishAll u) := by
  refine Keeps.next hm h ?_
  clear hm h
  unfold State.azmFinishAll
  refine Keeps.foldl (fun _ _ => ?_) ?_
  · refine State.azmFinish_keeps rfl ?_
    exact Keeps.refl _ _
  · exact Keeps.refl _ _

theorem State.azmEnsure_keeps {m : Nat} {s u : State} {w : Sys2Proof.Machine.AzmWin} {b : Nat} (hm : m ||| 262144 = m) (h : Keeps m s u) :
    Keeps m s (State.azmEnsure u w b) := by
  refine Keeps.next hm h ?_
  clear hm h
  unfold State.azmEnsure
  refine Keeps.ite ?_ ?_
  · exact Keeps.refl _ _
  · refine State.modAzm_keeps rfl ?_
    exact Keeps.refl _ _

theorem execAzmBlockEnd_keeps {t : Nat} (u : State) : ∃ nxt, execAzmBlockEnd t u = .next nxt ∧ Keeps 72075186225283126 u nxt := by
  refine ⟨_, rfl, ?_⟩
  try extract_lets -underBinder
  first | split | (dsimp +zetaDelta only; split)
  · refine State.azmFinishAll_keeps rfl ?_
    refine State.at_keeps rfl ?_
    exact Keeps.refl _ _
  · extract_lets -merge -useContext -underBinder y1 y2 y3
    refine Keeps.next (t := y1) (Nat.or_self _) ?_ ?_
    · refine State.endBlocks_keeps rfl ?_
      refine State.at_keeps rfl ?_
      exact Keeps.refl _ _
    · clear_value y1
      refine State.azmFinishAll_keeps rfl ?_
      refine Keeps.ite ?_ ?_
      · refine State.azmEnsure_keeps rfl ?_
        exact Keeps.refl _ _
      · exact Keeps.refl _ _

theorem State.azmTrend_keeps {m : Nat} {s u : State} {start : Nat} {zs : Nat} {mean : Rat} {p : Nat} {c : Sys2Proof.Machine.AzmCell} (hm : m ||| 262144 = m) (h : Keeps m s u) :
    Keeps m s (State.azmTrend u start zs mean p c) := by
  refine Keeps.next hm h ?_
  clear hm h
  unfold State.azmTrend
  try extract_lets -underBinder
  first | split | (dsimp +zetaDelta only; split)
  · exact Keeps.refl _ _
  · refine Keeps.ite ?_ ?_
    · exact Keeps.refl _ _
    · refine State.modAzmPos_keeps rfl ?_
      exact Keeps.refl _ _

theorem State.azmPthrWrite_keeps {m : Nat} {s u : State} {v : Sys2Proof.Word} (hm : m ||| 17592186306564 = m) (h : Keeps m s u) :
    Keeps m s (State.azmPthrWrite u v) := by
  refine Keeps.next hm h ?_
  clear hm h
  unfold State.azmPthrWrite
  refine State.platRefresh_keeps rfl ?_
  refine State.setFld_keeps (n := 12) (show unitOf 49176 = 12 from rfl) rfl rfl ?_
  exact Keeps.refl _ _

theorem State.blockReady_keeps {m : Nat} {s u : State} {j : Sys2Proof.Machine.AzmJob} {r : Sys2Proof.Machine.AzmResult} (hm : m ||| 72075186225414164 = m) (h : Keeps m s u) :
    Keeps m s (State.blockReady u j r) := by
  refine Keeps.next hm h ?_
  clear hm h
  unfold State.blockReady
  refine State.pmcEvent_keeps rfl ?_
  refine State.contribute_keeps rfl ?_
  refine State.platRefresh_keeps rfl ?_
  refine Keeps.foldl (fun _ _ => ?_) ?_
  · refine State.azmFeed_keeps rfl ?_
    refine State.azmTrend_keeps rfl ?_
    exact Keeps.refl _ _
  · refine State.modAzm_keeps rfl ?_
    exact Keeps.refl _ _

theorem State.azmSample_keeps {m : Nat} {s u : State} {target : Nat} (hm : m ||| 72075186225283092 = m) (h : Keeps m s u) :
    Keeps m s (State.azmSample u target) := by
  refine Keeps.next hm h ?_
  clear hm h
  unfold State.azmSample
  extract_lets -merge -useContext -underBinder y1 y2 y3 y4 y5
  refine Keeps.next (t := y2) (Nat.or_self _) ?_ ?_
  · try extract_lets -underBinder
    first | split | (dsimp +zetaDelta only; split)
    · refine Keeps.ite ?_ ?_
      · refine State.azmEnsure_keeps rfl ?_
        exact Keeps.refl _ _
      · exact Keeps.refl _ _
    · exact Keeps.refl _ _
  · clear_value y2
    refine State.azmFinishAll_keeps rfl ?_
    refine Keeps.foldl (fun _ _ => ?_) ?_
    · refine Keeps.ite ?_ ?_
      · refine State.azmSchedule_keeps rfl ?_
        refine State.azmPut_keeps rfl ?_
        exact Keeps.refl _ _
      · exact Keeps.refl _ _
    · exact Keeps.refl _ _

end Sys2Proof.Machine
end

