-- ==== Sys2Proof/Laws/KeepsBalPlan.lean ====
section
/-! SUPPORT. What each function of Machine/BalPlan.lean can change. -/

namespace Sys2Proof.Machine

theorem State.balPlan_keeps {m : Nat} {s u : State} (hm : m ||| 1024 = m) (h : Keeps m s u) :
    Keeps m s (State.balPlan u) := by
  refine Keeps.next hm h ?_
  clear hm h
  unfold State.balPlan
  refine Keeps.foldl (fun _ _ => ?_) ?_
  · refine State.modBalSlot_keeps rfl ?_
    exact Keeps.refl _ _
  · refine Keeps.mk_bal rfl ?_
    exact Keeps.refl _ _

theorem execBalPlan_keeps {t : Nat} (u : State) : ∃ nxt, execBalPlan t u = .next nxt ∧ Keeps 1058 u nxt := by
  refine ⟨_, rfl, ?_⟩
  refine Keeps.ite ?_ ?_
  · refine State.balPlan_keeps rfl ?_
    refine State.at_keeps rfl ?_
    exact Keeps.refl _ _
  · refine State.at_keeps rfl ?_
    exact Keeps.refl _ _

end Sys2Proof.Machine
end

