-- ==== Sys2Proof/Laws/KeepsClock.lean ====
section
/-! SUPPORT. What each function of Machine/Clock.lean can change. -/

namespace Sys2Proof.Machine

theorem State.xevmodeWrite_keeps {m : Nat} {s u : State} {v : Sys2Proof.Word} {busy : Sys2Proof.Word} (hm : m ||| 8589934596 = m) (h : Keeps m s u) :
    Keeps m s (State.xevmodeWrite u v busy) := by
  refine Keeps.next hm h ?_
  clear hm h
  unfold State.xevmodeWrite
  refine Keeps.foldl (fun _ _ => ?_) ?_
  · refine State.setFlag_keeps (n := 1) (unit_CLK_XSTAT _) rfl rfl ?_
    exact Keeps.refl _ _
  · refine State.setFld_keeps (n := 1) (show unitOf 4116 = 1 from rfl) rfl rfl ?_
    exact Keeps.refl _ _

theorem execXevmodeWrite_keeps {t : Nat} {x1 : Sys2Proof.Master} {v : Sys2Proof.Word} {busy : Sys2Proof.Word} (u : State) : ∃ nxt, execXevmodeWrite t x1 v busy u = .next nxt ∧ Keeps 8589934630 u nxt := by
  refine ⟨_, rfl, ?_⟩
  refine State.xevmodeWrite_keeps rfl ?_
  refine State.at_keeps rfl ?_
  exact Keeps.refl _ _

theorem execPllUnlock_keeps {t : Nat} (u : State) : ∃ nxt, execPllUnlock t u = .next nxt ∧ Keeps 8589934630 u nxt := by
  refine ⟨_, rfl, ?_⟩
  refine State.raiseEv_keeps (n := 1) (show unitOf 4096 = 1 from rfl) rfl rfl ?_
  refine State.setFld_keeps (n := 1) (show unitOf 4096 = 1 from rfl) rfl rfl ?_
  refine State.at_keeps rfl ?_
  exact Keeps.refl _ _

theorem State.xfbWrite_keeps {m : Nat} {s u : State} {v : Sys2Proof.Word} (hm : m ||| 8589934596 = m) (h : Keeps m s u) :
    Keeps m s (State.xfbWrite u v) := by
  refine Keeps.next hm h ?_
  clear hm h
  unfold State.xfbWrite
  refine Keeps.foldl (fun _ _ => ?_) ?_
  · refine Keeps.ite ?_ ?_
    · refine State.setFld_keeps (n := 1) (unit_CLK_XSTAT _) rfl rfl ?_
      exact Keeps.refl _ _
    · refine Keeps.ite ?_ ?_
      · refine State.setFld_keeps (n := 1) (unit_CLK_XSTAT _) rfl rfl ?_
        exact Keeps.refl _ _
      · exact Keeps.refl _ _
  · refine State.setWord_keeps (n := 1) (show unitOf 4112 = 1 from rfl) rfl rfl ?_
    refine State.when_keeps (fun _ => ?_) ?_
    · refine State.raiseEv_keeps (n := 1) (show unitOf 4096 = 1 from rfl) rfl rfl ?_
      exact Keeps.refl _ _
    · exact Keeps.refl _ _

theorem State.modXing_keeps {m : Nat} {s u : State} {n : Nat} {f : Sys2Proof.Machine.Xing → Sys2Proof.Machine.Xing} (hm : m ||| 8192 = m) (h : Keeps m s u) :
    Keeps m s (State.modXing u n f) := by
  refine Keeps.next hm h ?_
  clear hm h
  unfold State.modXing
  refine Keeps.mk_clk rfl ?_
  exact Keeps.refl _ _

theorem State.setXPhase_keeps {m : Nat} {s u : State} {n : Nat} {v : Nat} (hm : m ||| 8192 = m) (h : Keeps m s u) :
    Keeps m s (State.setXPhase u n v) := by
  refine Keeps.next hm h ?_
  clear hm h
  unfold State.setXPhase
  refine Keeps.mk_clk rfl ?_
  exact Keeps.refl _ _

theorem execCrossingTimeout_keeps {t : Nat} {n : Nat} {x2 : Nat} (u : State) : ∃ nxt, execCrossingTimeout t n x2 u = .next nxt ∧ Keeps 8589942822 u nxt := by
  refine ⟨_, rfl, ?_⟩
  refine Keeps.ite ?_ ?_
  · refine State.raiseEv_keeps (n := 1) (show unitOf 4096 = 1 from rfl) rfl rfl ?_
    refine State.satAdd_keeps (n := 1) (show unitOf 4104 = 1 from rfl) rfl rfl ?_
    refine State.setFld_keeps (n := 1) (show unitOf 4104 = 1 from rfl) rfl rfl ?_
    refine State.modXing_keeps rfl ?_
    refine State.satAdd_keeps (n := 1) (unit_CLK_XSTAT _) rfl rfl ?_
    refine State.setXPhase_keeps rfl ?_
    refine State.setFld_keeps (n := 1) (unit_CLK_XSTAT _) rfl rfl ?_
    refine State.at_keeps rfl ?_
    exact Keeps.refl _ _
  · refine State.at_keeps rfl ?_
    exact Keeps.refl _ _

theorem State.setXFailed_keeps {m : Nat} {s u : State} {n : Nat} {b : Bool} (hm : m ||| 8192 = m) (h : Keeps m s u) :
    Keeps m s (State.setXFailed u n b) := by
  refine Keeps.next hm h ?_
  clear hm h
  unfold State.setXFailed
  refine Keeps.mk_clk rfl ?_
  exact Keeps.refl _ _

theorem State.xStart_keeps {m : Nat} {s u : State} {n : Nat} (hm : m ||| 8589942788 = m) (h : Keeps m s u) :
    Keeps m s (State.xStart u n) := by
  refine Keeps.next hm h ?_
  clear hm h
  unfold State.xStart
  refine Keeps.ite ?_ ?_
  · refine State.setXPhase_keeps rfl ?_
    refine State.setFld_keeps (n := 1) (unit_CLK_XSTAT _) rfl rfl ?_
    exact Keeps.refl _ _
  · exact Keeps.refl _ _

theorem State.xStartAll_keeps {m : Nat} {s u : State} {l : List Nat} (hm : m ||| 8589942788 = m) (h : Keeps m s u) :
    Keeps m s (State.xStartAll u l) := by
  refine Keeps.next hm h ?_
  clear hm h
  unfold State.xStartAll
  refine Keeps.foldl (fun _ _ => ?_) ?_
  · refine State.xStart_keeps rfl ?_
    exact Keeps.refl _ _
  · exact Keeps.refl _ _

theorem execPllLock_keeps {t : Nat} (u : State) : ∃ nxt, execPllLock t u = .next nxt ∧ Keeps 8589934630 u nxt := by
  refine ⟨_, rfl, ?_⟩
  refine State.setFld_keeps (n := 1) (show unitOf 4096 = 1 from rfl) rfl rfl ?_
  refine State.at_keeps rfl ?_
  exact Keeps.refl _ _

theorem State.xresyncWrite_keeps {m : Nat} {s u : State} {v : Sys2Proof.Word} (hm : m ||| 8589942788 = m) (h : Keeps m s u) :
    Keeps m s (State.xresyncWrite u v) := by
  refine Keeps.next hm h ?_
  clear hm h
  unfold State.xresyncWrite
  refine State.xStartAll_keeps rfl ?_
  exact Keeps.refl _ _

theorem State.clkMon_keeps {m : Nat} {s u : State} {i : Nat} {stop : Bool} (hm : m ||| 8589934596 = m) (h : Keeps m s u) :
    Keeps m s (State.clkMon u i stop) := by
  refine Keeps.next hm h ?_
  clear hm h
  unfold State.clkMon
  refine Keeps.ite ?_ ?_
  · refine State.setHeld_keeps (n := 1) (show unitOf 4096 = 1 from rfl) rfl rfl ?_
    refine State.setFlag_keeps (n := 1) (show unitOf 4100 = 1 from rfl) rfl rfl ?_
    exact Keeps.refl _ _
  · exact Keeps.refl _ _

theorem State.xSend_keeps {m : Nat} {s u : State} {n : Nat} {ws : List Sys2Proof.Machine.XWord} (hm : m ||| 8589942788 = m) (h : Keeps m s u) :
    Keeps m s (State.xSend u n ws) := by
  refine Keeps.next hm h ?_
  clear hm h
  unfold State.xSend
  refine Keeps.ite ?_ ?_
  · refine State.satAdd_keeps (n := 1) (unit_CLK_XSTAT _) rfl rfl ?_
    exact Keeps.refl _ _
  · refine Keeps.ite ?_ ?_
    · refine State.modXing_keeps rfl ?_
      exact Keeps.refl _ _
    · refine Keeps.ite ?_ ?_
      · refine State.modXing_keeps rfl ?_
        exact Keeps.refl _ _
      · refine State.modXing_keeps rfl ?_
        exact Keeps.refl _ _

theorem execXresync_keeps {t : Nat} {x1 : Sys2Proof.Master} {v : Sys2Proof.Word} (u : State) : ∃ nxt, execXresync t x1 v u = .next nxt ∧ Keeps 8589942822 u nxt := by
  refine ⟨_, rfl, ?_⟩
  refine State.xresyncWrite_keeps rfl ?_
  refine State.at_keeps rfl ?_
  exact Keeps.refl _ _

theorem execPointerCheckFail_keeps {t : Nat} {n : Nat} (u : State) : ∃ nxt, execPointerCheckFail t n u = .next nxt ∧ Keeps 8589942822 u nxt := by
  refine ⟨_, rfl, ?_⟩
  refine Keeps.ite ?_ ?_
  · refine Keeps.ite ?_ ?_
    · refine State.raiseEv_keeps (n := 1) (show unitOf 4096 = 1 from rfl) rfl rfl ?_
      refine State.setFld_keeps (n := 1) (unit_CLK_XSTAT _) rfl rfl ?_
      refine State.setXFailed_keeps rfl ?_
      refine State.at_keeps rfl ?_
      exact Keeps.refl _ _
    · refine State.at_keeps rfl ?_
      exact Keeps.refl _ _
  · refine State.xStart_keeps rfl ?_
    refine State.at_keeps rfl ?_
    exact Keeps.refl _ _

theorem execXfbWrite_keeps {t : Nat} {x1 : Sys2Proof.Master} {v : Sys2Proof.Word} (u : State) : ∃ nxt, execXfbWrite t x1 v u = .next nxt ∧ Keeps 8589934630 u nxt := by
  refine ⟨_, rfl, ?_⟩
  refine State.xfbWrite_keeps rfl ?_
  refine State.at_keeps rfl ?_
  exact Keeps.refl _ _

theorem State.xPhaseStep_keeps {m : Nat} {s u : State} {n : Nat} {x2 : Nat} (hm : m ||| 8589942788 = m) (h : Keeps m s u) :
    Keeps m s (State.xPhaseStep u n x2) := by
  refine Keeps.next hm h ?_
  clear hm h
  unfold State.xPhaseStep
  refine Keeps.ite ?_ ?_
  · exact Keeps.refl _ _
  · try extract_lets -underBinder
    first | split | (dsimp +zetaDelta only; split)
    · refine State.setXPhase_keeps rfl ?_
      refine State.modXing_keeps rfl ?_
      refine State.satAdd_keeps (n := 1) (unit_CLK_XSTAT _) rfl rfl ?_
      exact Keeps.refl _ _
    · refine State.setXPhase_keeps rfl ?_
      exact Keeps.refl _ _
    · refine State.raiseEv_keeps (n := 1) (show unitOf 4096 = 1 from rfl) rfl rfl ?_
      refine State.setFlag_keeps (n := 1) (unit_CLK_XSTAT _) rfl rfl ?_
      refine State.setFld_keeps (n := 1) (unit_CLK_XSTAT _) rfl rfl ?_
      refine State.setXFailed_keeps rfl ?_
      refine State.setXPhase_keeps rfl ?_
      exact Keeps.refl _ _

theorem State.xDrain_keeps {m : Nat} {s u : State} {n : Nat} (hm : m ||| 8192 = m) (h : Keeps m s u) :
    Keeps m s (State.xDrain u n).2 := by
  refine Keeps.next hm h ?_
  clear hm h
  unfold State.xDrain
  refine Keeps.ite2 ?_ ?_
  · refine Keeps.pair2 ?_
    refine State.modXing_keeps rfl ?_
    exact Keeps.refl _ _
  · refine Keeps.pair2 ?_
    refine State.modXing_keeps rfl ?_
    exact Keeps.refl _ _

end Sys2Proof.Machine
end

