-- ==== Sys2Proof/Laws/KeepsRole.lean ====
section
/-! SUPPORT. What each function of Machine/Role.lean can change. -/

namespace Sys2Proof.Machine

theorem State.modRdn_keeps {m : Nat} {s u : State} {f : Sys2Proof.Machine.RdnSt → Sys2Proof.Machine.RdnSt} (hm : m ||| 16777216 = m) (h : Keeps m s u) :
    Keeps m s (State.modRdn u f) := by
  refine Keeps.next hm h ?_
  clear hm h
  unfold State.modRdn
  refine Keeps.mk_rdn rfl ?_
  exact Keeps.refl _ _

theorem State.restoreWatches_keeps {m : Nat} {s u : State} {x1 : Sys2Proof.Mirror} (hm : m ||| 92448037176951877 = m) (h : Keeps m s u) :
    Keeps m s (State.restoreWatches u x1) := by
  refine Keeps.next hm h ?_
  clear hm h
  unfold State.restoreWatches
  extract_lets -merge -useContext -underBinder y1 y2 y3 y4
  refine Keeps.next (t := y1) (Nat.or_self _) ?_ ?_
  · refine Keeps.foldl (fun _ _ => ?_) ?_
    · refine State.setWatch_keeps rfl ?_
      exact Keeps.refl _ _
    · exact Keeps.refl _ _
  · clear_value y1
    refine Keeps.next (t := y3) (Nat.or_self _) ?_ ?_
    · refine Keeps.mk_alm rfl ?_
      exact Keeps.refl _ _
    · clear_value y3
      refine State.meetAll_keeps rfl ?_
      refine State.loseTargets_keeps rfl ?_
      exact Keeps.refl _ _

theorem State.freeAllLocks_keeps {m : Nat} {s u : State} (hm : m ||| 4294967316 = m) (h : Keeps m s u) :
    Keeps m s (State.freeAllLocks u) := by
  refine Keeps.next hm h ?_
  clear hm h
  unfold State.freeAllLocks
  refine Keeps.foldl (fun _ _ => ?_) ?_
  · refine State.freeLocks_keeps rfl ?_
    exact Keeps.refl _ _
  · exact Keeps.refl _ _

theorem State.tsyncAll_keeps {m : Nat} {s u : State} (hm : m ||| 68719476996 = m) (h : Keeps m s u) :
    Keeps m s (State.tsyncAll u) := by
  refine Keeps.next hm h ?_
  clear hm h
  unfold State.tsyncAll
  refine Keeps.foldl (fun _ _ => ?_) ?_
  · refine State.portKick_keeps rfl ?_
    refine State.portSendBody_keeps rfl ?_
    exact Keeps.refl _ _
  · exact Keeps.refl _ _

theorem State.sxtTakeover_keeps {m : Nat} {s u : State} (hm : m ||| 131072 = m) (h : Keeps m s u) :
    Keeps m s (State.sxtTakeover u) := by
  refine Keeps.next hm h ?_
  clear hm h
  unfold State.sxtTakeover
  extract_lets -merge -useContext -underBinder y1 y2
  refine Keeps.next (t := y2) (Nat.or_self _) ?_ ?_
  · refine State.modSxt_keeps rfl ?_
    exact Keeps.refl _ _
  · clear_value y2
    refine Keeps.ite ?_ ?_
    · exact Keeps.refl _ _
    · refine State.modSxt_keeps rfl ?_
      exact Keeps.refl _ _

theorem State.setRole_keeps {m : Nat} {s u : State} {r : Nat} {claim : Bool} (hm : m ||| 1125899906842628 = m) (h : Keeps m s u) :
    Keeps m s (State.setRole u r claim) := by
  refine Keeps.next hm h ?_
  clear hm h
  unfold State.setRole
  refine State.setFlag_keeps (n := 18) (show unitOf 73732 = 18 from rfl) rfl rfl ?_
  refine State.setFld_keeps (n := 18) (show unitOf 73732 = 18 from rfl) rfl rfl ?_
  exact Keeps.refl _ _

theorem State.takeover_keeps {m : Nat} {s u : State} (hm : m ||| 93574010115147589 = m) (h : Keeps m s u) :
    Keeps m s (State.takeover u) := by
  refine Keeps.next hm h ?_
  clear hm h
  unfold State.takeover
  extract_lets -merge -useContext -underBinder y1 y2 y3 y4 y5
  refine Keeps.next (t := y1) (Nat.or_self _) ?_ ?_
  · refine State.tsyncAll_keeps rfl ?_
    refine State.setRole_keeps rfl ?_
    exact Keeps.refl _ _
  · clear_value y1
    refine State.sxtTakeover_keeps rfl ?_
    refine Keeps.foldl (fun _ _ => ?_) ?_
    · refine State.owSchedule_keeps rfl ?_
      exact Keeps.refl _ _
    · refine State.setWord_keeps (n := 0) (show unitOf 68 = 0 from rfl) rfl rfl ?_
      refine State.setFld_keeps (n := 8) (show unitOf 32768 = 8 from rfl) rfl rfl ?_
      try extract_lets -underBinder
      first | split | (dsimp +zetaDelta only; split)
      · exact Keeps.refl _ _
      · refine State.modRdn_keeps rfl ?_
        refine State.restoreWatches_keeps rfl ?_
        exact Keeps.refl _ _

theorem State.roleLeave_keeps {m : Nat} {s u : State} (hm : m ||| 2340864551370772 = m) (h : Keeps m s u) :
    Keeps m s (State.roleLeave u) := by
  refine Keeps.next hm h ?_
  clear hm h
  unfold State.roleLeave
  refine State.freeAllLocks_keeps rfl ?_
  refine State.canLeave_keeps rfl ?_
  refine State.excCut_keeps rfl ?_
  refine State.helmExtStop_keeps rfl ?_
  refine State.setFld_keeps (n := 8) (show unitOf 32768 = 8 from rfl) rfl rfl ?_
  refine Keeps.foldl (fun _ _ => ?_) ?_
  · refine State.almKill_keeps rfl ?_
    exact Keeps.refl _ _
  · exact Keeps.refl _ _

theorem State.roleStep_keeps {m : Nat} {s u : State} (hm : m ||| 93574010115147605 = m) (h : Keeps m s u) :
    Keeps m s (State.roleStep u) := by
  refine Keeps.next hm h ?_
  clear hm h
  unfold State.roleStep
  refine Keeps.ite ?_ ?_
  · exact Keeps.refl _ _
  · try extract_lets -underBinder
    first | split | (dsimp +zetaDelta only; split)
    · refine Keeps.ite ?_ ?_
      · refine Keeps.ite ?_ ?_
        · exact Keeps.refl _ _
        · refine Keeps.ite ?_ ?_
          · refine State.setRole_keeps rfl ?_
            exact Keeps.refl _ _
          · refine State.setRole_keeps rfl ?_
            exact Keeps.refl _ _
      · refine Keeps.ite ?_ ?_
        · refine State.setRole_keeps rfl ?_
          exact Keeps.refl _ _
        · refine Keeps.ite ?_ ?_
          · refine State.setRole_keeps rfl ?_
            exact Keeps.refl _ _
          · exact Keeps.refl _ _
    · refine Keeps.ite ?_ ?_
      · refine State.setHeld_keeps (n := 18) (show unitOf 73732 = 18 from rfl) rfl rfl ?_
        refine State.setRole_keeps rfl ?_
        exact Keeps.refl _ _
      · refine Keeps.ite ?_ ?_
        · refine State.takeover_keeps rfl ?_
          exact Keeps.refl _ _
        · exact Keeps.refl _ _
    · refine Keeps.ite ?_ ?_
      · exact Keeps.refl _ _
      · refine State.raiseEv_keeps (n := 18) (show unitOf 73732 = 18 from rfl) rfl rfl ?_
        refine State.roleLeave_keeps rfl ?_
        refine State.setRole_keeps rfl ?_
        exact Keeps.refl _ _
    · refine Keeps.ite ?_ ?_
      · exact Keeps.refl _ _
      · refine State.raiseEv_keeps (n := 18) (show unitOf 73732 = 18 from rfl) rfl rfl ?_
        refine State.roleLeave_keeps rfl ?_
        refine State.setRole_keeps rfl ?_
        exact Keeps.refl _ _
    · exact Keeps.refl _ _

end Sys2Proof.Machine
end

