-- ==== Sys2Proof/Laws/KeepsLodestone.lean ====
section
/-! SUPPORT. What each function of Machine/Lodestone.lean can change. -/

namespace Sys2Proof.Machine

theorem State.setRb_keeps {m : Nat} {s u : State} {n : Nat} {hs : Bool} {ls : Bool} {load : Bool} (hm : m ||| 281474976710660 = m) (h : Keeps m s u) :
    Keeps m s (State.setRb u n hs ls load) := by
  refine Keeps.next hm h ?_
  clear hm h
  unfold State.setRb
  refine State.setFlag_keeps (n := 16) (unit_LDS_OUT _) rfl rfl ?_
  refine State.setFlag_keeps (n := 16) (unit_LDS_OUT _) rfl rfl ?_
  refine State.setFlag_keeps (n := 16) (unit_LDS_OUT _) rfl rfl ?_
  exact Keeps.refl _ _

theorem State.modLds_keeps {m : Nat} {s u : State} {f : Sys2Proof.Machine.LdsSt → Sys2Proof.Machine.LdsSt} (hm : m ||| 32768 = m) (h : Keeps m s u) :
    Keeps m s (State.modLds u f) := by
  refine Keeps.next hm h ?_
  clear hm h
  unfold State.modLds
  refine Keeps.mk_lds rfl ?_
  exact Keeps.refl _ _

theorem State.modOut_keeps {m : Nat} {s u : State} {n : Nat} {f : Sys2Proof.Machine.OutSt → Sys2Proof.Machine.OutSt} (hm : m ||| 32768 = m) (h : Keeps m s u) :
    Keeps m s (State.modOut u n f) := by
  refine Keeps.next hm h ?_
  clear hm h
  unfold State.modOut
  refine State.modLds_keeps rfl ?_
  exact Keeps.refl _ _

theorem State.tickCounts_keeps {m : Nat} {s u : State} {x : Sys2Proof.TickIn} (hm : m ||| 281474976743428 = m) (h : Keeps m s u) :
    Keeps m s (State.tickCounts u x) := by
  refine Keeps.next hm h ?_
  clear hm h
  unfold State.tickCounts
  refine Keeps.foldl (fun _ _ => ?_) ?_
  · extract_lets -merge -useContext -underBinder y1 y2
    refine Keeps.next (t := y1) (Nat.or_self _) ?_ ?_
    · refine State.setRb_keeps rfl ?_
      exact Keeps.refl _ _
    · clear_value y1
      refine Keeps.ite ?_ ?_
      · refine State.setFld_keeps (n := 16) (unit_LDS_OUT _) rfl rfl ?_
        refine State.modOut_keeps rfl ?_
        exact Keeps.refl _ _
      · exact Keeps.refl _ _
  · refine State.modLds_keeps rfl ?_
    exact Keeps.refl _ _

theorem State.sealDecode_keeps {m : Nat} {s u : State} {v : Nat} (hm : m ||| 281474976710660 = m) (h : Keeps m s u) :
    Keeps m s (State.sealDecode u v) := by
  refine Keeps.next hm h ?_
  clear hm h
  unfold State.sealDecode
  refine State.setFld_keeps (n := 16) (show unitOf 65544 = 16 from rfl) rfl rfl ?_
  refine State.setFld_keeps (n := 16) (show unitOf 65544 = 16 from rfl) rfl rfl ?_
  refine State.setFld_keeps (n := 16) (show unitOf 65544 = 16 from rfl) rfl rfl ?_
  refine State.setFld_keeps (n := 16) (show unitOf 65544 = 16 from rfl) rfl rfl ?_
  refine State.setFld_keeps (n := 16) (show unitOf 65544 = 16 from rfl) rfl rfl ?_
  refine State.setFld_keeps (n := 16) (show unitOf 65544 = 16 from rfl) rfl rfl ?_
  refine State.setFld_keeps (n := 16) (show unitOf 65544 = 16 from rfl) rfl rfl ?_
  refine State.setFld_keeps (n := 16) (show unitOf 65544 = 16 from rfl) rfl rfl ?_
  refine State.setFld_keeps (n := 16) (show unitOf 65544 = 16 from rfl) rfl rfl ?_
  exact Keeps.refl _ _

theorem State.ldsRefresh_keeps {m : Nat} {s u : State} (hm : m ||| 281474976710660 = m) (h : Keeps m s u) :
    Keeps m s (State.ldsRefresh u) := by
  refine Keeps.next hm h ?_
  clear hm h
  unfold State.ldsRefresh
  refine State.setFlag_keeps (n := 16) (show unitOf 65548 = 16 from rfl) rfl rfl ?_
  refine State.setFld_keeps (n := 16) (show unitOf 65548 = 16 from rfl) rfl rfl ?_
  exact Keeps.refl _ _

theorem State.driveGone_keeps {m : Nat} {s u : State} {n : Nat} (hm : m ||| 70368744194052 = m) (h : Keeps m s u) :
    Keeps m s (State.driveGone u n) := by
  refine Keeps.next hm h ?_
  clear hm h
  unfold State.driveGone
  refine Keeps.ite ?_ ?_
  · refine State.helmExtStop_keeps rfl ?_
    exact Keeps.refl _ _
  · exact Keeps.refl _ _

theorem State.releaseStart_keeps {m : Nat} {s u : State} {n : Nat} (hm : m ||| 351843720937476 = m) (h : Keeps m s u) :
    Keeps m s (State.releaseStart u n) := by
  refine Keeps.next hm h ?_
  clear hm h
  unfold State.releaseStart
  extract_lets -merge -useContext -underBinder y1 y2 y3 y4 y5 y6 y7 y8
  refine Keeps.next (t := y5) (Nat.or_self _) ?_ ?_
  · refine Keeps.ite ?_ ?_
    · refine State.raise_keeps (n := 16) (unit_LDS_OUT _) rfl rfl ?_
      exact Keeps.refl _ _
    · exact Keeps.refl _ _
  · clear_value y5
    refine Keeps.next (t := y6) (Nat.or_self _) ?_ ?_
    · refine State.modOut_keeps rfl ?_
      exact Keeps.refl _ _
    · clear_value y6
      refine Keeps.next (t := y7) (Nat.or_self _) ?_ ?_
      · refine Keeps.ite ?_ ?_
        · refine State.setFld_keeps (n := 16) (unit_LDS_OUT _) rfl rfl ?_
          exact Keeps.refl _ _
        · exact Keeps.refl _ _
      · clear_value y7
        refine State.driveGone_keeps rfl ?_
        refine State.setFld_keeps (n := 16) (unit_LDS_OUT _) rfl rfl ?_
        refine State.setFld_keeps (n := 16) (unit_LDS_OUT _) rfl rfl ?_
        refine Keeps.ite ?_ ?_
        · refine State.setFld_keeps (n := 16) (unit_LDS_OUT _) rfl rfl ?_
          exact Keeps.refl _ _
        · exact Keeps.refl _ _

theorem State.clearReq_keeps {m : Nat} {s u : State} {n : Nat} (hm : m ||| 562949953421316 = m) (h : Keeps m s u) :
    Keeps m s (State.clearReq u n) := by
  refine Keeps.next hm h ?_
  clear hm h
  unfold State.clearReq
  refine State.setFld_keeps (n := 17) (show unitOf 69632 = 17 from rfl) rfl rfl ?_
  exact Keeps.refl _ _

theorem State.outFault_keeps {m : Nat} {s u : State} {n : Nat} {code : Nat} (hm : m ||| 18295873486225476 = m) (h : Keeps m s u) :
    Keeps m s (State.outFault u n code) := by
  refine Keeps.next hm h ?_
  clear hm h
  unfold State.outFault
  extract_lets -merge -useContext -underBinder y1
  refine Keeps.next (t := y1) (Nat.or_self _) ?_ ?_
  · refine State.modOut_keeps rfl ?_
    exact Keeps.refl _ _
  · clear_value y1
    refine Keeps.ite ?_ ?_
    · refine State.logEvent_keeps rfl ?_
      refine State.setFld_keeps (n := 16) (unit_LDS_OUT _) rfl rfl ?_
      exact Keeps.refl _ _
    · exact Keeps.refl _ _

theorem State.energizeFail_keeps {m : Nat} {s u : State} {n : Nat} {code : Nat} (hm : m ||| 18929192183840836 = m) (h : Keeps m s u) :
    Keeps m s (State.energizeFail u n code) := by
  refine Keeps.next hm h ?_
  clear hm h
  unfold State.energizeFail
  refine State.driveGone_keeps rfl ?_
  refine State.clearReq_keeps rfl ?_
  refine State.setFld_keeps (n := 16) (unit_LDS_OUT _) rfl rfl ?_
  refine State.modOut_keeps rfl ?_
  refine State.setFld_keeps (n := 16) (unit_LDS_OUT _) rfl rfl ?_
  refine State.setFld_keeps (n := 16) (unit_LDS_OUT _) rfl rfl ?_
  refine State.outFault_keeps rfl ?_
  exact Keeps.refl _ _

theorem State.energizeStart_keeps {m : Nat} {s u : State} {n : Nat} (hm : m ||| 18929192183840836 = m) (h : Keeps m s u) :
    Keeps m s (State.energizeStart u n) := by
  refine Keeps.next hm h ?_
  clear hm h
  unfold State.energizeStart
  extract_lets -merge -useContext -underBinder y1 y2
  refine Keeps.next (t := y2) (Nat.or_self _) ?_ ?_
  · refine State.setFld_keeps (n := 16) (unit_LDS_OUT _) rfl rfl ?_
    refine State.modOut_keeps rfl ?_
    exact Keeps.refl _ _
  · clear_value y2
    refine Keeps.ite ?_ ?_
    · refine State.energizeFail_keeps rfl ?_
      exact Keeps.refl _ _
    · refine State.setFld_keeps (n := 16) (unit_LDS_OUT _) rfl rfl ?_
      refine State.setFld_keeps (n := 16) (unit_LDS_OUT _) rfl rfl ?_
      refine State.modOut_keeps rfl ?_
      exact Keeps.refl _ _

theorem State.outputEval_keeps {m : Nat} {s u : State} {n : Nat} (hm : m ||| 18929192183840836 = m) (h : Keeps m s u) :
    Keeps m s (State.outputEval u n) := by
  refine Keeps.next hm h ?_
  clear hm h
  unfold State.outputEval
  refine Keeps.ite ?_ ?_
  · exact Keeps.refl _ _
  · refine Keeps.ite ?_ ?_
    · refine Keeps.ite ?_ ?_
      · exact Keeps.refl _ _
      · refine State.releaseStart_keeps rfl ?_
        refine Keeps.ite ?_ ?_
        · refine State.clearReq_keeps rfl ?_
          exact Keeps.refl _ _
        · exact Keeps.refl _ _
    · refine Keeps.ite ?_ ?_
      · exact Keeps.refl _ _
      · refine Keeps.ite ?_ ?_
        · refine State.clearReq_keeps rfl ?_
          exact Keeps.refl _ _
        · refine Keeps.ite ?_ ?_
          · refine Keeps.ite ?_ ?_
            · refine State.modOut_keeps rfl ?_
              exact Keeps.refl _ _
            · refine State.energizeStart_keeps rfl ?_
              exact Keeps.refl _ _
          · exact Keeps.refl _ _

theorem State.outputsEval_keeps {m : Nat} {s u : State} (hm : m ||| 18929192183840836 = m) (h : Keeps m s u) :
    Keeps m s (State.outputsEval u) := by
  refine Keeps.next hm h ?_
  clear hm h
  unfold State.outputsEval
  refine State.ldsRefresh_keeps rfl ?_
  refine Keeps.foldl (fun _ _ => ?_) ?_
  · refine State.outputEval_keeps rfl ?_
    exact Keeps.refl _ _
  · exact Keeps.refl _ _

theorem State.openTrip_keeps {m : Nat} {s u : State} (hm : m ||| 4785074604081156 = m) (h : Keeps m s u) :
    Keeps m s (State.openTrip u) := by
  refine Keeps.next hm h ?_
  clear hm h
  unfold State.openTrip
  refine State.setFld_keeps (n := 20) (show unitOf 81920 = 20 from rfl) rfl rfl ?_
  refine Keeps.ite ?_ ?_
  · refine State.setFld_keeps (n := 16) (show unitOf 65552 = 16 from rfl) rfl rfl ?_
    exact Keeps.refl _ _
  · exact Keeps.refl _ _

theorem State.trip_keeps {m : Nat} {s u : State} {cause : Sys2Proof.Machine.Fld} (hk : unitOf cause.reg = 16) (hm : m ||| 23432826170949828 = m) (h : Keeps m s u) :
    Keeps m s (State.trip u cause) := by
  refine Keeps.next hm h ?_
  clear hm h
  unfold State.trip
  extract_lets -merge -useContext -underBinder y1 y2 y3 y4
  refine Keeps.next (t := y2) (Nat.or_self _) ?_ ?_
  · refine State.ldsRefresh_keeps rfl ?_
    refine State.raise_keeps hk rfl rfl ?_
    exact Keeps.refl _ _
  · clear_value y2
    refine Keeps.next (t := y3) (Nat.or_self _) ?_ ?_
    · refine Keeps.ite ?_ ?_
      · refine State.irq_keeps rfl ?_
        refine State.logEvent_keeps rfl ?_
        exact Keeps.refl _ _
      · exact Keeps.refl _ _
    · clear_value y3
      refine State.outputsEval_keeps rfl ?_
      refine Keeps.ite ?_ ?_
      · refine State.openTrip_keeps rfl ?_
        exact Keeps.refl _ _
      · exact Keeps.refl _ _

theorem State.pairEval_keeps {m : Nat} {s u : State} {n : Nat} (hm : m ||| 23432826170949828 = m) (h : Keeps m s u) :
    Keeps m s (State.pairEval u n) := by
  refine Keeps.next hm h ?_
  clear hm h
  unfold State.pairEval
  extract_lets -merge -useContext -underBinder y1 y2 y3 y4 y5 y6 y7
  refine Keeps.next (t := y3) (Nat.or_self _) ?_ ?_
  · refine State.modLds_keeps rfl ?_
    exact Keeps.refl _ _
  · clear_value y3
    refine Keeps.next (t := y4) (Nat.or_self _) ?_ ?_
    · refine Keeps.ite ?_ ?_
      · refine State.modLds_keeps rfl ?_
        refine State.setFld_keeps (n := 16) (show unitOf 65556 = 16 from rfl) rfl rfl ?_
        exact Keeps.refl _ _
      · exact Keeps.refl _ _
    · clear_value y4
      refine Keeps.next (t := y6) (Nat.or_self _) ?_ ?_
      · refine State.setFld_keeps (n := 16) (show unitOf 65556 = 16 from rfl) rfl rfl ?_
        exact Keeps.refl _ _
      · clear_value y6
        refine Keeps.next (t := y7) (Nat.or_self _) ?_ ?_
        · refine State.setFld_keeps (n := 16) (show unitOf 65556 = 16 from rfl) rfl rfl ?_
          exact Keeps.refl _ _
        · clear_value y7
          refine Keeps.ite ?_ ?_
          · refine State.trip_keeps (show unitOf 65548 = 16 from rfl) rfl ?_
            refine State.setFld_keeps (n := 16) (show unitOf 65556 = 16 from rfl) rfl rfl ?_
            exact Keeps.refl _ _
          · exact Keeps.refl _ _

theorem State.setPair_keeps {m : Nat} {s u : State} {n : Nat} {a : Bool} {b : Bool} (hm : m ||| 281474976710660 = m) (h : Keeps m s u) :
    Keeps m s (State.setPair u n a b) := by
  refine Keeps.next hm h ?_
  clear hm h
  unfold State.setPair
  refine State.setFld_keeps (n := 16) (show unitOf 65560 = 16 from rfl) rfl rfl ?_
  refine State.setFld_keeps (n := 16) (show unitOf 65560 = 16 from rfl) rfl rfl ?_
  exact Keeps.refl _ _

theorem execLodestonePowerUpEnd_keeps {t : Nat} {r0 : Nat} {r1 : Nat} {r2 : Nat} {a : Nat} {b : Nat} {safeB : Bool} (u : State) : ∃ nxt, execLodestonePowerUpEnd t r0 r1 r2 a b safeB u = .next nxt ∧ Keeps 23432834760892646 u nxt := by
  refine ⟨_, rfl, ?_⟩
  refine Keeps.ite ?_ ?_
  · refine State.at_keeps rfl ?_
    exact Keeps.refl _ _
  · extract_lets -merge -useContext -underBinder y1 y2 y3 y4 y5 y6
    refine Keeps.next (t := y5) (Nat.or_self _) ?_ ?_
    · refine State.setFld_keeps (n := 16) (show unitOf 65540 = 16 from rfl) rfl rfl ?_
      refine State.setFld_keeps (n := 16) (show unitOf 65540 = 16 from rfl) rfl rfl ?_
      refine State.sealDecode_keeps rfl ?_
      refine State.setFld_keeps (n := 16) (show unitOf 65536 = 16 from rfl) rfl rfl ?_
      refine State.setFld_keeps (n := 16) (show unitOf 65536 = 16 from rfl) rfl rfl ?_
      refine State.modLds_keeps rfl ?_
      refine State.xStartAll_keeps rfl ?_
      refine State.at_keeps rfl ?_
      exact Keeps.refl _ _
    · clear_value y5
      refine State.outputsEval_keeps rfl ?_
      refine Keeps.foldl (fun _ _ => ?_) ?_
      · refine State.pairEval_keeps rfl ?_
        refine State.setPair_keeps rfl ?_
        exact Keeps.refl _ _
      · refine Keeps.ite ?_ ?_
        · exact Keeps.refl _ _
        · refine State.trip_keeps (show unitOf 65548 = 16 from rfl) rfl ?_
          refine State.raise_keeps (n := 16) (show unitOf 65536 = 16 from rfl) rfl rfl ?_
          exact Keeps.refl _ _

theorem State.refHbTick_keeps {m : Nat} {s u : State} (hm : m ||| 32768 = m) (h : Keeps m s u) :
    Keeps m s (State.refHbTick u) := by
  refine Keeps.next hm h ?_
  clear hm h
  unfold State.refHbTick
  refine State.modLds_keeps rfl ?_
  exact Keeps.refl _ _

theorem State.drmStep_keeps {m : Nat} {s u : State} (hm : m ||| 18929192183840836 = m) (h : Keeps m s u) :
    Keeps m s (State.drmStep u) := by
  refine Keeps.next hm h ?_
  clear hm h
  unfold State.drmStep
  refine Keeps.ite ?_ ?_
  · exact Keeps.refl _ _
  · refine Keeps.ite ?_ ?_
    · refine State.outputsEval_keeps rfl ?_
      refine State.setFld_keeps (n := 16) (show unitOf 65552 = 16 from rfl) rfl rfl ?_
      exact Keeps.refl _ _
    · refine Keeps.ite ?_ ?_
      · refine State.outputsEval_keeps rfl ?_
        refine State.setFld_keeps (n := 16) (show unitOf 65552 = 16 from rfl) rfl rfl ?_
        refine State.setFld_keeps (n := 16) (show unitOf 65552 = 16 from rfl) rfl rfl ?_
        exact Keeps.refl _ _
      · exact Keeps.refl _ _

theorem execLodestoneTick_keeps {t : Nat} {x : Sys2Proof.TickIn} (u : State) : ∃ nxt, execLodestoneTick t x u = .next nxt ∧ Keeps 94418435045312375 u nxt := by
  refine ⟨_, rfl, ?_⟩
  refine Keeps.ite ?_ ?_
  · refine State.at_keeps rfl ?_
    exact Keeps.refl _ _
  · extract_lets -merge -useContext -underBinder y1 y2 y3
    refine Keeps.next (t := y1) (Nat.or_self _) ?_ ?_
    · refine State.refHbTick_keeps rfl ?_
      refine State.tickCounts_keeps rfl ?_
      refine State.at_keeps rfl ?_
      exact Keeps.refl _ _
    · clear_value y1
      refine Keeps.next (t := y2) (Nat.or_self _) ?_ ?_
      · refine Keeps.ite ?_ ?_
        · refine State.setFld_keeps (n := 16) (show unitOf 65552 = 16 from rfl) rfl rfl ?_
          exact Keeps.refl _ _
        · exact Keeps.refl _ _
      · clear_value y2
        refine State.outputsEval_keeps rfl ?_
        refine State.roleStep_keeps rfl ?_
        refine Keeps.ite ?_ ?_
        · refine State.drmStep_keeps rfl ?_
          exact Keeps.refl _ _
        · exact Keeps.refl _ _

theorem State.drmEnter_keeps {m : Nat} {s u : State} {cause : Nat} (hm : m ||| 26829187525230676 = m) (h : Keeps m s u) :
    Keeps m s (State.drmEnter u cause) := by
  refine Keeps.next hm h ?_
  clear hm h
  unfold State.drmEnter
  refine Keeps.ite ?_ ?_
  · exact Keeps.refl _ _
  · extract_lets -merge -useContext -underBinder y1 y2 y3 y4 y5
    refine Keeps.next (t := y2) (Nat.or_self _) ?_ ?_
    · refine State.setFld_keeps (n := 18) (show unitOf 73732 = 18 from rfl) rfl rfl ?_
      refine State.setFld_keeps (n := 20) (show unitOf 81920 = 20 from rfl) rfl rfl ?_
      refine State.setFld_keeps (n := 16) (show unitOf 65552 = 16 from rfl) rfl rfl ?_
      refine State.setFld_keeps (n := 16) (show unitOf 65552 = 16 from rfl) rfl rfl ?_
      refine State.setFld_keeps (n := 16) (show unitOf 65552 = 16 from rfl) rfl rfl ?_
      exact Keeps.refl _ _
    · clear_value y2
      refine Keeps.next (t := y4) (Nat.or_self _) ?_ ?_
      · refine State.modLds_keeps rfl ?_
        refine Keeps.ite ?_ ?_
        · refine State.setFld_keeps (n := 18) (show unitOf 73732 = 18 from rfl) rfl rfl ?_
          exact Keeps.refl _ _
        · exact Keeps.refl _ _
      · clear_value y4
        refine State.drmStep_keeps rfl ?_
        refine State.outputsEval_keeps rfl ?_
        refine State.roleLeave_keeps rfl ?_
        refine Keeps.ite ?_ ?_
        · exact Keeps.refl _ _
        · refine State.logEvent_keeps rfl ?_
          exact Keeps.refl _ _

theorem State.binAbsent_keeps {m : Nat} {s u : State} (hm : m ||| 26829187525230676 = m) (h : Keeps m s u) :
    Keeps m s (State.binAbsent u) := by
  refine Keeps.next hm h ?_
  clear hm h
  unfold State.binAbsent
  refine Keeps.ite ?_ ?_
  · exact Keeps.refl _ _
  · refine State.drmEnter_keeps rfl ?_
    refine State.setFld_keeps (n := 16) (show unitOf 65548 = 16 from rfl) rfl rfl ?_
    refine State.modLds_keeps rfl ?_
    exact Keeps.refl _ _

theorem State.binStart_keeps {m : Nat} {s u : State} (hm : m ||| 562949953421316 = m) (h : Keeps m s u) :
    Keeps m s (State.binStart u) := by
  refine Keeps.next hm h ?_
  clear hm h
  unfold State.binStart
  try extract_lets -underBinder
  first | split | (dsimp +zetaDelta only; split)
  · refine Keeps.ite ?_ ?_
    · refine State.setFld_keeps (n := 17) (show unitOf 69640 = 17 from rfl) rfl rfl ?_
      refine State.setFld_keeps (n := 17) (show unitOf 69640 = 17 from rfl) rfl rfl ?_
      exact Keeps.refl _ _
    · exact Keeps.refl _ _
  · exact Keeps.refl _ _

theorem execHeartbeatWrite_keeps {t : Nat} {v : Nat} {cyc : Nat} (u : State) : ∃ nxt, execHeartbeatWrite t v cyc u = .next nxt ∧ Keeps 26829187525230710 u nxt := by
  refine ⟨_, rfl, ?_⟩
  refine Keeps.ite ?_ ?_
  · refine State.binAbsent_keeps rfl ?_
    refine State.modLds_keeps rfl ?_
    refine State.when_keeps (fun _ => ?_) ?_
    · refine State.binStart_keeps rfl ?_
      exact Keeps.refl _ _
    · refine State.at_keeps rfl ?_
      exact Keeps.refl _ _
  · refine State.outputsEval_keeps rfl ?_
    refine State.modLds_keeps rfl ?_
    refine State.when_keeps (fun _ => ?_) ?_
    · refine State.binStart_keeps rfl ?_
      exact Keeps.refl _ _
    · refine State.at_keeps rfl ?_
      exact Keeps.refl _ _

theorem State.pilotService_keeps {m : Nat} {s u : State} (hm : m ||| 32768 = m) (h : Keeps m s u) :
    Keeps m s (State.pilotService u) := by
  refine Keeps.next hm h ?_
  clear hm h
  unfold State.pilotService
  refine State.modLds_keeps rfl ?_
  exact Keeps.refl _ _

theorem execHb_keeps {t : Nat} {x1 : Sys2Proof.Master} (u : State) : ∃ nxt, execHb t x1 u = .next nxt ∧ Keeps 32802 u nxt := by
  refine ⟨_, rfl, ?_⟩
  refine Keeps.ite ?_ ?_
  · refine State.modLds_keeps rfl ?_
    refine State.at_keeps rfl ?_
    exact Keeps.refl _ _
  · refine State.at_keeps rfl ?_
    exact Keeps.refl _ _

theorem execLodestoneOscStop_keeps {t : Nat} (u : State) : ∃ nxt, execLodestoneOscStop t u = .next nxt ∧ Keeps 914793674358822 u nxt := by
  refine ⟨_, rfl, ?_⟩
  refine State.helmExtStop_keeps rfl ?_
  refine Keeps.foldl (fun _ _ => ?_) ?_
  · refine State.modOut_keeps rfl ?_
    refine State.clearReq_keeps rfl ?_
    refine State.setFld_keeps (n := 16) (unit_LDS_OUT _) rfl rfl ?_
    refine State.setFld_keeps (n := 16) (unit_LDS_OUT _) rfl rfl ?_
    refine State.setFld_keeps (n := 16) (unit_LDS_OUT _) rfl rfl ?_
    refine State.setFld_keeps (n := 16) (unit_LDS_OUT _) rfl rfl ?_
    exact Keeps.refl _ _
  · refine State.modLds_keeps rfl ?_
    refine State.at_keeps rfl ?_
    exact Keeps.refl _ _

theorem execFaultLoopReturn_keeps {t : Nat} {r : Nat} (u : State) : ∃ nxt, execFaultLoopReturn t r u = .next nxt ∧ Keeps 18929260903317606 u nxt := by
  refine ⟨_, rfl, ?_⟩
  refine Keeps.ite ?_ ?_
  · refine State.outputsEval_keeps rfl ?_
    refine State.setFld_keeps (n := 4) (show unitOf 16452 = 4 from rfl) rfl rfl ?_
    refine State.at_keeps rfl ?_
    exact Keeps.refl _ _
  · refine State.at_keeps rfl ?_
    exact Keeps.refl _ _

theorem execLostRing_keeps {t : Nat} {r : Nat} (u : State) : ∃ nxt, execLostRing t r u = .next nxt ∧ Keeps 26829187525230710 u nxt := by
  refine ⟨_, rfl, ?_⟩
  refine Keeps.ite ?_ ?_
  · refine State.drmEnter_keeps rfl ?_
    refine State.at_keeps rfl ?_
    exact Keeps.refl _ _
  · refine State.at_keeps rfl ?_
    exact Keeps.refl _ _

theorem execHoldTimerExpiry_keeps {t : Nat} (u : State) : ∃ nxt, execHoldTimerExpiry t u = .next nxt ∧ Keeps 18929192183840870 u nxt := by
  refine ⟨_, rfl, ?_⟩
  refine State.drmStep_keeps rfl ?_
  refine State.at_keeps rfl ?_
  exact Keeps.refl _ _

theorem State.releaseEnd_keeps {m : Nat} {s u : State} {n : Nat} (hm : m ||| 18929192183844932 = m) (h : Keeps m s u) :
    Keeps m s (State.releaseEnd u n) := by
  refine Keeps.next hm h ?_
  clear hm h
  unfold State.releaseEnd
  extract_lets -merge -useContext -underBinder y1 y2 y3 y4
  refine Keeps.next (t := y2) (Nat.or_self _) ?_ ?_
  · refine State.wearAdd_keeps rfl ?_
    exact Keeps.refl _ _
  · clear_value y2
    refine State.outputsEval_keeps rfl ?_
    refine State.setFld_keeps (n := 16) (unit_LDS_OUT _) rfl rfl ?_
    refine State.modOut_keeps rfl ?_
    refine Keeps.ite ?_ ?_
    · refine State.wearAdd_keeps rfl ?_
      exact Keeps.refl _ _
    · refine Keeps.ite ?_ ?_
      · refine State.wearAdd_keeps rfl ?_
        refine State.setFld_keeps (n := 16) (unit_LDS_OUT _) rfl rfl ?_
        exact Keeps.refl _ _
      · refine State.setFld_keeps (n := 16) (unit_LDS_OUT _) rfl rfl ?_
        exact Keeps.refl _ _

theorem execDeenergizeCheck_keeps {t : Nat} {n : Nat} {hs : Bool} {ls : Bool} {load : Bool} (u : State) : ∃ nxt, execDeenergizeCheck t n hs ls load u = .next nxt ∧ Keeps 18929192183844966 u nxt := by
  refine ⟨_, rfl, ?_⟩
  refine Keeps.ite ?_ ?_
  · refine State.setRb_keeps rfl ?_
    refine State.at_keeps rfl ?_
    exact Keeps.refl _ _
  · try extract_lets -underBinder
    first | split | (dsimp +zetaDelta only; split)
    · refine Keeps.ite ?_ ?_
      · refine State.setRb_keeps rfl ?_
        refine State.at_keeps rfl ?_
        exact Keeps.refl _ _
      · refine State.setFld_keeps (n := 16) (unit_LDS_OUT _) rfl rfl ?_
        refine State.setFld_keeps (n := 16) (unit_LDS_OUT _) rfl rfl ?_
        refine State.modOut_keeps rfl ?_
        refine Keeps.ite ?_ ?_
        · refine State.setRb_keeps rfl ?_
          refine State.at_keeps rfl ?_
          exact Keeps.refl _ _
        · refine State.outFault_keeps rfl ?_
          refine State.setRb_keeps rfl ?_
          refine State.at_keeps rfl ?_
          exact Keeps.refl _ _
    · refine Keeps.ite ?_ ?_
      · refine State.setRb_keeps rfl ?_
        refine State.at_keeps rfl ?_
        exact Keeps.refl _ _
      · refine State.modOut_keeps rfl ?_
        refine Keeps.ite ?_ ?_
        · refine State.outFault_keeps rfl ?_
          refine State.setRb_keeps rfl ?_
          refine State.at_keeps rfl ?_
          exact Keeps.refl _ _
        · refine State.setRb_keeps rfl ?_
          refine State.at_keeps rfl ?_
          exact Keeps.refl _ _
    · refine Keeps.ite ?_ ?_
      · refine State.setRb_keeps rfl ?_
        refine State.at_keeps rfl ?_
        exact Keeps.refl _ _
      · refine State.releaseEnd_keeps rfl ?_
        refine Keeps.ite ?_ ?_
        · refine State.outFault_keeps rfl ?_
          refine State.setRb_keeps rfl ?_
          refine State.at_keeps rfl ?_
          exact Keeps.refl _ _
        · refine State.setRb_keeps rfl ?_
          refine State.at_keeps rfl ?_
          exact Keeps.refl _ _

theorem execDiscrepancy_keeps {t : Nat} {n : Nat} (u : State) : ∃ nxt, execDiscrepancy t n u = .next nxt ∧ Keeps 23432826170949862 u nxt := by
  refine ⟨_, rfl, ?_⟩
  refine Keeps.ite ?_ ?_
  · refine State.pairEval_keeps rfl ?_
    refine State.setFld_keeps (n := 16) (show unitOf 65556 = 16 from rfl) rfl rfl ?_
    refine State.at_keeps rfl ?_
    exact Keeps.refl _ _
  · refine State.at_keeps rfl ?_
    exact Keeps.refl _ _

theorem State.outreqBit_keeps {m : Nat} {s u : State} {n : Nat} {b : Bool} (hm : m ||| 844424930131972 = m) (h : Keeps m s u) :
    Keeps m s (State.outreqBit u n b) := by
  refine Keeps.next hm h ?_
  clear hm h
  unfold State.outreqBit
  refine Keeps.ite ?_ ?_
  · exact Keeps.refl _ _
  · refine Keeps.ite ?_ ?_
    · refine State.clearReq_keeps rfl ?_
      exact Keeps.refl _ _
    · refine Keeps.ite ?_ ?_
      · refine State.raise_keeps (n := 16) (unit_LDS_OUT _) rfl rfl ?_
        exact Keeps.refl _ _
      · refine Keeps.ite ?_ ?_
        · exact Keeps.refl _ _
        · refine State.setFld_keeps (n := 17) (show unitOf 69632 = 17 from rfl) rfl rfl ?_
          exact Keeps.refl _ _

theorem State.outreqSet_keeps {m : Nat} {s u : State} {v : Nat} (hm : m ||| 18929192183840836 = m) (h : Keeps m s u) :
    Keeps m s (State.outreqSet u v) := by
  refine Keeps.next hm h ?_
  clear hm h
  unfold State.outreqSet
  refine State.outputsEval_keeps rfl ?_
  refine Keeps.foldl (fun _ _ => ?_) ?_
  · refine State.outreqBit_keeps rfl ?_
    exact Keeps.refl _ _
  · exact Keeps.refl _ _

theorem execOffPulseStart_keeps {t : Nat} {n : Nat} (u : State) : ∃ nxt, execOffPulseStart t n u = .next nxt ∧ Keeps 281474976743462 u nxt := by
  refine ⟨_, rfl, ?_⟩
  refine Keeps.ite ?_ ?_
  · refine Keeps.ite ?_ ?_
    · refine State.setFld_keeps (n := 16) (unit_LDS_OUT _) rfl rfl ?_
      refine State.setFld_keeps (n := 16) (unitOf_fldIte (unit_LDS_OUT _) (unit_LDS_OUT _)) rfl rfl ?_
      refine State.modOut_keeps rfl ?_
      refine State.at_keeps rfl ?_
      exact Keeps.refl _ _
    · refine Keeps.ite ?_ ?_
      · refine State.raise_keeps (n := 16) (unit_LDS_OUT _) rfl rfl ?_
        refine State.at_keeps rfl ?_
        exact Keeps.refl _ _
      · refine State.at_keeps rfl ?_
        exact Keeps.refl _ _
  · refine State.at_keeps rfl ?_
    exact Keeps.refl _ _

theorem State.pulseEnd_keeps {m : Nat} {s u : State} {n : Nat} {p : Sys2Proof.Machine.OutPulse} (hm : m ||| 281474976743428 = m) (h : Keeps m s u) :
    Keeps m s (State.pulseEnd u n p) := by
  refine Keeps.next hm h ?_
  clear hm h
  unfold State.pulseEnd
  refine State.setFld_keeps (n := 16) (unit_LDS_OUT _) rfl rfl ?_
  refine State.modOut_keeps rfl ?_
  refine State.setFld_keeps (n := 16) (unitOf_fldIte (unit_LDS_OUT _) (unit_LDS_OUT _)) rfl rfl ?_
  exact Keeps.refl _ _

theorem execArmedThresholdFault_keeps {t : Nat} {k : Nat} (u : State) : ∃ nxt, execArmedThresholdFault t k u = .next nxt ∧ Keeps 23432826170949862 u nxt := by
  refine ⟨_, rfl, ?_⟩
  refine Keeps.ite ?_ ?_
  · refine State.trip_keeps (show unitOf 65548 = 16 from rfl) rfl ?_
    refine State.at_keeps rfl ?_
    exact Keeps.refl _ _
  · refine State.at_keeps rfl ?_
    exact Keeps.refl _ _

theorem State.inject_keeps {m : Nat} {s u : State} {p : Nat} {b : Sys2Proof.Body} (hm : m ||| 256 = m) (h : Keeps m s u) :
    Keeps m s (State.inject u p b) := by
  refine Keeps.next hm h ?_
  clear hm h
  unfold State.inject
  refine State.portQueue_keeps rfl ?_
  refine State.modPort_keeps rfl ?_
  exact Keeps.refl _ _

theorem execProfileInject_keeps {t : Nat} {r : Nat} (u : State) : ∃ nxt, execProfileInject t r u = .next nxt ∧ Keeps 290 u nxt := by
  refine ⟨_, rfl, ?_⟩
  try extract_lets -underBinder
  first | split | (dsimp +zetaDelta only; split)
  · refine State.at_keeps rfl ?_
    exact Keeps.refl _ _
  · refine Keeps.ite ?_ ?_
    · refine State.at_keeps rfl ?_
      exact Keeps.refl _ _
    · extract_lets -merge -useContext -underBinder y1
      refine Keeps.next (t := y1) (Nat.or_self _) ?_ ?_
      · refine State.inject_keeps rfl ?_
        refine State.inject_keeps rfl ?_
        refine State.at_keeps rfl ?_
        exact Keeps.refl _ _
      · clear_value y1
        refine State.modRing_keeps rfl ?_
        exact Keeps.refl _ _

theorem State.binDemand_keeps {m : Nat} {s u : State} {mask : Nat} (hm : m ||| 23432826170949828 = m) (h : Keeps m s u) :
    Keeps m s (State.binDemand u mask) := by
  refine Keeps.next hm h ?_
  clear hm h
  unfold State.binDemand
  refine State.trip_keeps (show unitOf 65548 = 16 from rfl) rfl ?_
  refine State.modLds_keeps rfl ?_
  exact Keeps.refl _ _

theorem execBpermitLoss_keeps {t : Nat} {mask : Nat} (u : State) : ∃ nxt, execBpermitLoss t mask u = .next nxt ∧ Keeps 23432826170949862 u nxt := by
  refine ⟨_, rfl, ?_⟩
  refine Keeps.ite ?_ ?_
  · refine State.binDemand_keeps rfl ?_
    refine State.setFld_keeps (n := 16) (show unitOf 65548 = 16 from rfl) rfl rfl ?_
    refine State.at_keeps rfl ?_
    exact Keeps.refl _ _
  · refine State.outputsEval_keeps rfl ?_
    refine State.setFld_keeps (n := 16) (show unitOf 65548 = 16 from rfl) rfl rfl ?_
    refine State.at_keeps rfl ?_
    exact Keeps.refl _ _

theorem execProofWarn_keeps {t : Nat} {n : Nat} (u : State) : ∃ nxt, execProofWarn t n u = .next nxt ∧ Keeps 18295873486192742 u nxt := by
  refine ⟨_, rfl, ?_⟩
  refine Keeps.ite ?_ ?_
  · refine State.logEvent_keeps rfl ?_
    refine State.raise_keeps (n := 16) (unit_LDS_OUT _) rfl rfl ?_
    refine State.at_keeps rfl ?_
    exact Keeps.refl _ _
  · refine State.at_keeps rfl ?_
    exact Keeps.refl _ _

theorem State.pulseFail_keeps {m : Nat} {s u : State} {n : Nat} (hm : m ||| 18929192183844932 = m) (h : Keeps m s u) :
    Keeps m s (State.pulseFail u n) := by
  refine Keeps.next hm h ?_
  clear hm h
  unfold State.pulseFail
  refine State.outputsEval_keeps rfl ?_
  refine State.wearAdd_keeps rfl ?_
  refine State.outFault_keeps rfl ?_
  refine State.pulseEnd_keeps rfl ?_
  exact Keeps.refl _ _

theorem execOffPulseCheck_keeps {t : Nat} {n : Nat} {hs : Bool} {ls : Bool} (u : State) : ∃ nxt, execOffPulseCheck t n hs ls u = .next nxt ∧ Keeps 18929192183844966 u nxt := by
  refine ⟨_, rfl, ?_⟩
  try extract_lets -underBinder
  first | split | (dsimp +zetaDelta only; split)
  · refine State.setRb_keeps rfl ?_
    refine State.at_keeps rfl ?_
    exact Keeps.refl _ _
  · refine Keeps.ite ?_ ?_
    · refine State.outputsEval_keeps rfl ?_
      refine State.pulseEnd_keeps rfl ?_
      refine State.setRb_keeps rfl ?_
      refine State.at_keeps rfl ?_
      exact Keeps.refl _ _
    · refine State.pulseFail_keeps rfl ?_
      refine State.setRb_keeps rfl ?_
      refine State.at_keeps rfl ?_
      exact Keeps.refl _ _
  · extract_lets -merge -useContext -underBinder y1
    refine Keeps.next (t := y1) (Nat.or_self _) ?_ ?_
    · refine State.modOut_keeps rfl ?_
      refine State.setRb_keeps rfl ?_
      refine State.at_keeps rfl ?_
      exact Keeps.refl _ _
    · clear_value y1
      refine Keeps.ite ?_ ?_
      · refine State.wearAdd_keeps rfl ?_
        exact Keeps.refl _ _
      · refine State.outputsEval_keeps rfl ?_
        refine State.wearAdd_keeps rfl ?_
        refine State.outFault_keeps rfl ?_
        exact Keeps.refl _ _

theorem execBpermitReturn_keeps {t : Nat} {mask : Nat} (u : State) : ∃ nxt, execBpermitReturn t mask u = .next nxt ∧ Keeps 18929192183840870 u nxt := by
  refine ⟨_, rfl, ?_⟩
  refine Keeps.ite ?_ ?_
  · refine State.at_keeps rfl ?_
    exact Keeps.refl _ _
  · refine State.outputsEval_keeps rfl ?_
    refine State.setFld_keeps (n := 16) (show unitOf 65548 = 16 from rfl) rfl rfl ?_
    refine State.at_keeps rfl ?_
    exact Keeps.refl _ _

theorem execInputFilterPass_keeps {t : Nat} {n : Nat} {a : Bool} {b : Bool} (u : State) : ∃ nxt, execInputFilterPass t n a b u = .next nxt ∧ Keeps 23432826170949862 u nxt := by
  refine ⟨_, rfl, ?_⟩
  refine Keeps.ite ?_ ?_
  · refine State.pairEval_keeps rfl ?_
    refine State.setPair_keeps rfl ?_
    refine State.at_keeps rfl ?_
    exact Keeps.refl _ _
  · refine State.at_keeps rfl ?_
    exact Keeps.refl _ _

theorem execPilotWatchdogExpiry_keeps {t : Nat} (u : State) : ∃ nxt, execPilotWatchdogExpiry t u = .next nxt ∧ Keeps 26829187525230710 u nxt := by
  refine ⟨_, rfl, ?_⟩
  refine Keeps.ite ?_ ?_
  · refine State.drmEnter_keeps rfl ?_
    refine State.at_keeps rfl ?_
    exact Keeps.refl _ _
  · refine State.at_keeps rfl ?_
    exact Keeps.refl _ _

theorem State.outreqWrite_keeps {m : Nat} {s u : State} {v : Sys2Proof.Word} (hm : m ||| 18929192183840836 = m) (h : Keeps m s u) :
    Keeps m s (State.outreqWrite u v) := by
  refine Keeps.next hm h ?_
  clear hm h
  unfold State.outreqWrite
  refine Keeps.ite ?_ ?_
  · exact Keeps.refl _ _
  · refine State.outreqSet_keeps rfl ?_
    exact Keeps.refl _ _

theorem execCloseRequest_keeps {t : Nat} {x1 : Sys2Proof.Master} {v : Sys2Proof.Word} (u : State) : ∃ nxt, execCloseRequest t x1 v u = .next nxt ∧ Keeps 18929192183840870 u nxt := by
  refine ⟨_, rfl, ?_⟩
  refine State.outreqWrite_keeps rfl ?_
  refine State.at_keeps rfl ?_
  exact Keeps.refl _ _

theorem execPilotService_keeps {t : Nat} (u : State) : ∃ nxt, execPilotService t u = .next nxt ∧ Keeps 32802 u nxt := by
  refine ⟨_, rfl, ?_⟩
  refine State.pilotService_keeps rfl ?_
  refine State.at_keeps rfl ?_
  exact Keeps.refl _ _

theorem execHeartbeatTimeout_keeps {t : Nat} {cyc : Nat} (u : State) : ∃ nxt, execHeartbeatTimeout t cyc u = .next nxt ∧ Keeps 26829187525230710 u nxt := by
  refine ⟨_, rfl, ?_⟩
  refine Keeps.ite ?_ ?_
  · refine State.binAbsent_keeps rfl ?_
    refine State.at_keeps rfl ?_
    exact Keeps.refl _ _
  · refine State.at_keeps rfl ?_
    exact Keeps.refl _ _

theorem execOverTemperature_keeps {t : Nat} (u : State) : ∃ nxt, execOverTemperature t u = .next nxt ∧ Keeps 23432826170949862 u nxt := by
  refine ⟨_, rfl, ?_⟩
  refine Keeps.ite ?_ ?_
  · refine State.at_keeps rfl ?_
    exact Keeps.refl _ _
  · refine State.trip_keeps (show unitOf 65548 = 16 from rfl) rfl ?_
    refine Keeps.foldl (fun _ _ => ?_) ?_
    · refine State.setFld_keeps (n := 16) (show unitOf 65548 = 16 from rfl) rfl rfl ?_
      exact Keeps.refl _ _
    · refine State.at_keeps rfl ?_
      exact Keeps.refl _ _

theorem execEnergizeCheck_keeps {t : Nat} {n : Nat} {hs : Bool} {ls : Bool} {load : Bool} (u : State) : ∃ nxt, execEnergizeCheck t n hs ls load u = .next nxt ∧ Keeps 18929192183840870 u nxt := by
  refine ⟨_, rfl, ?_⟩
  refine Keeps.ite ?_ ?_
  · refine State.setRb_keeps rfl ?_
    refine State.at_keeps rfl ?_
    exact Keeps.refl _ _
  · try extract_lets -underBinder
    first | split | (dsimp +zetaDelta only; split)
    · refine Keeps.ite ?_ ?_
      · refine State.setRb_keeps rfl ?_
        refine State.at_keeps rfl ?_
        exact Keeps.refl _ _
      · refine Keeps.ite ?_ ?_
        · refine State.outputsEval_keeps rfl ?_
          refine State.energizeFail_keeps rfl ?_
          refine State.setRb_keeps rfl ?_
          refine State.at_keeps rfl ?_
          exact Keeps.refl _ _
        · refine State.setFld_keeps (n := 16) (unit_LDS_OUT _) rfl rfl ?_
          refine State.modOut_keeps rfl ?_
          refine State.setRb_keeps rfl ?_
          refine State.at_keeps rfl ?_
          exact Keeps.refl _ _
    · refine Keeps.ite ?_ ?_
      · refine State.setRb_keeps rfl ?_
        refine State.at_keeps rfl ?_
        exact Keeps.refl _ _
      · refine Keeps.ite ?_ ?_
        · refine State.modOut_keeps rfl ?_
          refine State.setRb_keeps rfl ?_
          refine State.at_keeps rfl ?_
          exact Keeps.refl _ _
        · refine State.outputsEval_keeps rfl ?_
          refine State.energizeFail_keeps rfl ?_
          refine State.setRb_keeps rfl ?_
          refine State.at_keeps rfl ?_
          exact Keeps.refl _ _
    · refine Keeps.ite ?_ ?_
      · refine State.setRb_keeps rfl ?_
        refine State.at_keeps rfl ?_
        exact Keeps.refl _ _
      · refine Keeps.ite ?_ ?_
        · refine State.outputsEval_keeps rfl ?_
          refine State.setFld_keeps (n := 16) (unit_LDS_OUT _) rfl rfl ?_
          refine State.setFld_keeps (n := 16) (unit_LDS_OUT _) rfl rfl ?_
          refine State.modOut_keeps rfl ?_
          refine State.setRb_keeps rfl ?_
          refine State.at_keeps rfl ?_
          exact Keeps.refl _ _
        · refine State.outputsEval_keeps rfl ?_
          refine State.energizeFail_keeps rfl ?_
          refine State.setRb_keeps rfl ?_
          refine State.at_keeps rfl ?_
          exact Keeps.refl _ _

theorem State.safetyReset_keeps {m : Nat} {s u : State} (hm : m ||| 18929192183840836 = m) (h : Keeps m s u) :
    Keeps m s (State.safetyReset u) := by
  refine Keeps.next hm h ?_
  clear hm h
  unfold State.safetyReset
  extract_lets -merge -useContext -underBinder y1 y2 y3 y4 y5 y6 y7 y8 y9 y10 y11 y12 y13
  refine Keeps.next (t := y2) (Nat.or_self _) ?_ ?_
  · refine State.setFld_keeps (n := 16) (show unitOf 65556 = 16 from rfl) rfl rfl ?_
    exact Keeps.refl _ _
  · clear_value y2
    refine Keeps.next (t := y3) (Nat.or_self _) ?_ ?_
    · refine Keeps.ite ?_ ?_
      · refine State.setFld_keeps (n := 16) (show unitOf 65548 = 16 from rfl) rfl rfl ?_
        exact Keeps.refl _ _
      · exact Keeps.refl _ _
    · clear_value y3
      refine Keeps.next (t := y4) (Nat.or_self _) ?_ ?_
      · refine Keeps.ite ?_ ?_
        · exact Keeps.refl _ _
        · refine State.setFld_keeps (n := 16) (show unitOf 65548 = 16 from rfl) rfl rfl ?_
          exact Keeps.refl _ _
      · clear_value y4
        refine Keeps.next (t := y5) (Nat.or_self _) ?_ ?_
        · refine Keeps.ite ?_ ?_
          · exact Keeps.refl _ _
          · refine State.setFld_keeps (n := 16) (show unitOf 65548 = 16 from rfl) rfl rfl ?_
            exact Keeps.refl _ _
        · clear_value y5
          refine Keeps.next (t := y6) (Nat.or_self _) ?_ ?_
          · refine Keeps.ite ?_ ?_
            · refine State.modLds_keeps rfl ?_
              exact Keeps.refl _ _
            · exact Keeps.refl _ _
          · clear_value y6
            refine Keeps.next (t := y8) (Nat.or_self _) ?_ ?_
            · refine Keeps.foldl (fun _ _ => ?_) ?_
              · refine Keeps.ite ?_ ?_
                · exact Keeps.refl _ _
                · refine State.setFld_keeps (n := 16) (show unitOf 65548 = 16 from rfl) rfl rfl ?_
                  exact Keeps.refl _ _
              · exact Keeps.refl _ _
            · clear_value y8
              refine Keeps.next (t := y9) (Nat.or_self _) ?_ ?_
              · refine Keeps.ite ?_ ?_
                · exact Keeps.refl _ _
                · refine State.setFld_keeps (n := 16) (show unitOf 65548 = 16 from rfl) rfl rfl ?_
                  exact Keeps.refl _ _
              · clear_value y9
                refine Keeps.next (t := y10) (Nat.or_self _) ?_ ?_
                · refine Keeps.ite ?_ ?_
                  · exact Keeps.refl _ _
                  · refine State.setFld_keeps (n := 16) (show unitOf 65548 = 16 from rfl) rfl rfl ?_
                    exact Keeps.refl _ _
                · clear_value y10
                  refine Keeps.next (t := y11) (Nat.or_self _) ?_ ?_
                  · refine Keeps.ite ?_ ?_
                    · refine State.setFld_keeps (n := 16) (show unitOf 65548 = 16 from rfl) rfl rfl ?_
                      exact Keeps.refl _ _
                    · exact Keeps.refl _ _
                  · clear_value y11
                    refine State.outputsEval_keeps rfl ?_
                    refine State.setFld_keeps (n := 16) (show unitOf 65536 = 16 from rfl) rfl rfl ?_
                    refine Keeps.foldl (fun _ _ => ?_) ?_
                    · refine Keeps.ite ?_ ?_
                      · exact Keeps.refl _ _
                      · refine State.setFld_keeps (n := 16) (unit_LDS_OUT _) rfl rfl ?_
                        exact Keeps.refl _ _
                    · refine Keeps.ite ?_ ?_
                      · refine State.modLds_keeps rfl ?_
                        refine State.setFld_keeps (n := 16) (show unitOf 65548 = 16 from rfl) rfl rfl ?_
                        exact Keeps.refl _ _
                      · exact Keeps.refl _ _

theorem execFlFast_keeps {t : Nat} {r : Nat} (u : State) : ∃ nxt, execFlFast t r u = .next nxt ∧ Keeps 23432894890426598 u nxt := by
  refine ⟨_, rfl, ?_⟩
  refine Keeps.ite ?_ ?_
  · refine State.trip_keeps (show unitOf 65548 = 16 from rfl) rfl ?_
    refine State.setFld_keeps (n := 4) (show unitOf 16452 = 4 from rfl) rfl rfl ?_
    refine State.setFld_keeps (n := 4) (show unitOf 16452 = 4 from rfl) rfl rfl ?_
    refine State.at_keeps rfl ?_
    exact Keeps.refl _ _
  · refine State.at_keeps rfl ?_
    exact Keeps.refl _ _

theorem execCloseRelease_keeps {t : Nat} {x1 : Sys2Proof.Master} {v : Sys2Proof.Word} (u : State) : ∃ nxt, execCloseRelease t x1 v u = .next nxt ∧ Keeps 18929192183840870 u nxt := by
  refine ⟨_, rfl, ?_⟩
  refine State.outreqWrite_keeps rfl ?_
  refine State.at_keeps rfl ?_
  exact Keeps.refl _ _

theorem execFaultLoopLoss_keeps {t : Nat} {r : Nat} (u : State) : ∃ nxt, execFaultLoopLoss t r u = .next nxt ∧ Keeps 23432894890426598 u nxt := by
  refine ⟨_, rfl, ?_⟩
  refine Keeps.ite ?_ ?_
  · refine State.trip_keeps (show unitOf 65548 = 16 from rfl) rfl ?_
    refine State.setFld_keeps (n := 4) (show unitOf 16452 = 4 from rfl) rfl rfl ?_
    refine State.setFld_keeps (n := 4) (show unitOf 16452 = 4 from rfl) rfl rfl ?_
    refine State.at_keeps rfl ?_
    exact Keeps.refl _ _
  · refine State.at_keeps rfl ?_
    exact Keeps.refl _ _

theorem execOvercurrentContactorTrip_keeps {t : Nat} (u : State) : ∃ nxt, execOvercurrentContactorTrip t u = .next nxt ∧ Keeps 23432791811211366 u nxt := by
  refine ⟨_, rfl, ?_⟩
  refine Keeps.ite ?_ ?_
  · refine State.outputsEval_keeps rfl ?_
    refine State.openTrip_keeps rfl ?_
    refine State.modLds_keeps rfl ?_
    refine State.at_keeps rfl ?_
    exact Keeps.refl _ _
  · refine State.at_keeps rfl ?_
    exact Keeps.refl _ _

theorem execClkMismatch_keeps {t : Nat} (u : State) : ∃ nxt, execClkMismatch t u = .next nxt ∧ Keeps 26829187525230710 u nxt := by
  refine ⟨_, rfl, ?_⟩
  refine Keeps.ite ?_ ?_
  · refine State.drmEnter_keeps rfl ?_
    refine State.at_keeps rfl ?_
    exact Keeps.refl _ _
  · refine State.at_keeps rfl ?_
    exact Keeps.refl _ _

theorem execSupervisionStart_keeps {t : Nat} (u : State) : ∃ nxt, execSupervisionStart t u = .next nxt ∧ Keeps 18929192183840870 u nxt := by
  refine ⟨_, rfl, ?_⟩
  refine Keeps.ite ?_ ?_
  · refine State.outputsEval_keeps rfl ?_
    refine State.modLds_keeps rfl ?_
    refine State.at_keeps rfl ?_
    exact Keeps.refl _ _
  · refine State.at_keeps rfl ?_
    exact Keeps.refl _ _

theorem execTwinEnergizeTimeout_keeps {t : Nat} {n : Nat} (u : State) : ∃ nxt, execTwinEnergizeTimeout t n u = .next nxt ∧ Keeps 844424930164774 u nxt := by
  refine ⟨_, rfl, ?_⟩
  try extract_lets -underBinder
  first | split | (dsimp +zetaDelta only; split)
  · refine Keeps.ite ?_ ?_
    · refine State.modOut_keeps rfl ?_
      refine State.raise_keeps (n := 16) (unit_LDS_OUT _) rfl rfl ?_
      refine State.clearReq_keeps rfl ?_
      refine State.at_keeps rfl ?_
      exact Keeps.refl _ _
    · refine State.at_keeps rfl ?_
      exact Keeps.refl _ _
  · refine State.at_keeps rfl ?_
    exact Keeps.refl _ _

theorem execOvercurrent_keeps {t : Nat} {a : Bool} {b : Bool} (u : State) : ∃ nxt, execOvercurrent t a b u = .next nxt ∧ Keeps 23432826170949862 u nxt := by
  refine ⟨_, rfl, ?_⟩
  refine Keeps.ite ?_ ?_
  · refine State.trip_keeps (show unitOf 65548 = 16 from rfl) rfl ?_
    refine Keeps.ite ?_ ?_
    · refine State.trip_keeps (show unitOf 65548 = 16 from rfl) rfl ?_
      refine State.modLds_keeps rfl ?_
      refine State.at_keeps rfl ?_
      exact Keeps.refl _ _
    · refine State.modLds_keeps rfl ?_
      refine State.at_keeps rfl ?_
      exact Keeps.refl _ _
  · refine Keeps.ite ?_ ?_
    · refine State.trip_keeps (show unitOf 65548 = 16 from rfl) rfl ?_
      refine State.modLds_keeps rfl ?_
      refine State.at_keeps rfl ?_
      exact Keeps.refl _ _
    · refine State.modLds_keeps rfl ?_
      refine State.at_keeps rfl ?_
      exact Keeps.refl _ _

theorem execSealRead_keeps {t : Nat} {v : Nat} (u : State) : ∃ nxt, execSealRead t v u = .next nxt ∧ Keeps 23432826170949862 u nxt := by
  refine ⟨_, rfl, ?_⟩
  refine Keeps.ite ?_ ?_
  · refine State.modLds_keeps rfl ?_
    refine State.setFld_keeps (n := 16) (show unitOf 65540 = 16 from rfl) rfl rfl ?_
    refine State.setFld_keeps (n := 16) (show unitOf 65540 = 16 from rfl) rfl rfl ?_
    refine State.at_keeps rfl ?_
    exact Keeps.refl _ _
  · refine Keeps.ite ?_ ?_
    · refine State.trip_keeps (show unitOf 65548 = 16 from rfl) rfl ?_
      refine State.raise_keeps (n := 16) (show unitOf 65536 = 16 from rfl) rfl rfl ?_
      refine State.modLds_keeps rfl ?_
      refine State.setFld_keeps (n := 16) (show unitOf 65540 = 16 from rfl) rfl rfl ?_
      refine State.setFld_keeps (n := 16) (show unitOf 65540 = 16 from rfl) rfl rfl ?_
      refine State.at_keeps rfl ?_
      exact Keeps.refl _ _
    · refine Keeps.ite ?_ ?_
      · refine State.raise_keeps (n := 16) (show unitOf 65536 = 16 from rfl) rfl rfl ?_
        refine State.modLds_keeps rfl ?_
        refine State.setFld_keeps (n := 16) (show unitOf 65540 = 16 from rfl) rfl rfl ?_
        refine State.setFld_keeps (n := 16) (show unitOf 65540 = 16 from rfl) rfl rfl ?_
        refine State.at_keeps rfl ?_
        exact Keeps.refl _ _
      · refine State.modLds_keeps rfl ?_
        refine State.setFld_keeps (n := 16) (show unitOf 65540 = 16 from rfl) rfl rfl ?_
        refine State.setFld_keeps (n := 16) (show unitOf 65540 = 16 from rfl) rfl rfl ?_
        refine State.at_keeps rfl ?_
        exact Keeps.refl _ _

theorem execLockstepMismatch_keeps {t : Nat} (u : State) : ∃ nxt, execLockstepMismatch t u = .next nxt ∧ Keeps 26829187525230710 u nxt := by
  refine ⟨_, rfl, ?_⟩
  refine State.binAbsent_keeps rfl ?_
  refine State.freeLocks_keeps rfl ?_
  refine State.modLds_keeps rfl ?_
  refine State.at_keeps rfl ?_
  exact Keeps.refl _ _

theorem execSafeBLow_keeps {t : Nat} (u : State) : ∃ nxt, execSafeBLow t u = .next nxt ∧ Keeps 23432826170949862 u nxt := by
  refine ⟨_, rfl, ?_⟩
  refine State.binDemand_keeps rfl ?_
  refine State.modLds_keeps rfl ?_
  refine State.at_keeps rfl ?_
  exact Keeps.refl _ _

end Sys2Proof.Machine
end

