-- ==== Sys2Proof/Laws/KeepsBinnacle.lean ====
section
/-! SUPPORT. What each function of Machine/Binnacle.lean can change. -/

namespace Sys2Proof.Machine

theorem State.modBin_keeps {m : Nat} {s u : State} {f : Sys2Proof.Machine.BinSt → Sys2Proof.Machine.BinSt} (hm : m ||| 8388608 = m) (h : Keeps m s u) :
    Keeps m s (State.modBin u f) := by
  refine Keeps.next hm h ?_
  clear hm h
  unfold State.modBin
  refine Keeps.mk_bin rfl ?_
  exact Keeps.refl _ _

theorem State.binTrip_keeps {m : Nat} {s u : State} {mask : Nat} (hm : m ||| 23432826170949828 = m) (h : Keeps m s u) :
    Keeps m s (State.binTrip u mask) := by
  refine Keeps.next hm h ?_
  clear hm h
  unfold State.binTrip
  refine Keeps.ite ?_ ?_
  · exact Keeps.refl _ _
  · refine State.binDemand_keeps rfl ?_
    refine State.raiseEv_keeps (n := 17) (show unitOf 69636 = 17 from rfl) rfl rfl ?_
    refine State.setFld_keeps (n := 16) (show unitOf 65548 = 16 from rfl) rfl rfl ?_
    exact Keeps.refl _ _

theorem execBinnacleDelayedTrip_keeps {t : Nat} (u : State) : ∃ nxt, execBinnacleDelayedTrip t u = .next nxt ∧ Keeps 23432826170949862 u nxt := by
  refine ⟨_, rfl, ?_⟩
  try extract_lets -underBinder
  first | split | (dsimp +zetaDelta only; split)
  · refine Keeps.ite ?_ ?_
    · refine State.binTrip_keeps rfl ?_
      refine State.modLds_keeps rfl ?_
      refine State.at_keeps rfl ?_
      exact Keeps.refl _ _
    · refine State.at_keeps rfl ?_
      exact Keeps.refl _ _
  · refine State.at_keeps rfl ?_
    exact Keeps.refl _ _

theorem State.binWarn_keeps {m : Nat} {s u : State} {f : Sys2Proof.Machine.Fld} {inst : Sys2Proof.Word} {v : Sys2Proof.Word} (hk : unitOf f.reg = 17) (hm : m ||| 18577348462903364 = m) (h : Keeps m s u) :
    Keeps m s (State.binWarn u f inst v) := by
  refine Keeps.next hm h ?_
  clear hm h
  unfold State.binWarn
  refine State.logEvent_keeps rfl ?_
  refine State.raiseEv_keeps hk rfl rfl ?_
  exact Keeps.refl _ _

theorem State.binBlockCell_keeps {m : Nat} {s u : State} {start : Nat} {fin : Nat} {p : Nat} {c : Sys2Proof.Machine.AzmCell} (hm : m ||| 23432826179338436 = m) (h : Keeps m s u) :
    Keeps m s (State.binBlockCell u start fin p c) := by
  refine Keeps.next hm h ?_
  clear hm h
  unfold State.binBlockCell
  extract_lets -merge -useContext -underBinder y1 y2
  refine Keeps.next (t := y2) (Nat.or_self _) ?_ ?_
  · refine State.modBin_keeps rfl ?_
    exact Keeps.refl _ _
  · clear_value y2
    try extract_lets -underBinder
    first | split | (dsimp +zetaDelta only; split)
    · refine State.modBin_keeps rfl ?_
      exact Keeps.refl _ _
    · extract_lets -merge -useContext -underBinder y3 y4 y5
      refine Keeps.next (t := y4) (Nat.or_self _) ?_ ?_
      · refine State.modBin_keeps rfl ?_
        exact Keeps.refl _ _
      · clear_value y4
        refine Keeps.next (t := y5) (Nat.or_self _) ?_ ?_
        · try extract_lets -underBinder
          first | split | (dsimp +zetaDelta only; split)
          · refine Keeps.ite ?_ ?_
            · refine State.binWarn_keeps (show unitOf 69636 = 17 from rfl) rfl ?_
              exact Keeps.refl _ _
            · exact Keeps.refl _ _
          · exact Keeps.refl _ _
        · clear_value y5
          refine Keeps.ite ?_ ?_
          · refine State.binTrip_keeps rfl ?_
            exact Keeps.refl _ _
          · exact Keeps.refl _ _

theorem State.binEpoch_keeps {m : Nat} {s u : State} (hm : m ||| 23432826179338436 = m) (h : Keeps m s u) :
    Keeps m s (State.binEpoch u) := by
  refine Keeps.next hm h ?_
  clear hm h
  unfold State.binEpoch
  refine Keeps.ite ?_ ?_
  · exact Keeps.refl _ _
  · extract_lets -merge -useContext -underBinder y1 y2 y3 y4 y5 y6 y7 y8 y9
    refine Keeps.next (t := y7) (Nat.or_self _) ?_ ?_
    · refine State.modBin_keeps rfl ?_
      exact Keeps.refl _ _
    · clear_value y7
      refine Keeps.next (t := y8) (Nat.or_self _) ?_ ?_
      · refine Keeps.ite ?_ ?_
        · exact Keeps.refl _ _
        · refine State.binTrip_keeps rfl ?_
          exact Keeps.refl _ _
      · clear_value y8
        refine Keeps.next (t := y9) (Nat.or_self _) ?_ ?_
        · refine Keeps.foldl (fun _ _ => ?_) ?_
          · refine State.modBin_keeps rfl ?_
            exact Keeps.refl _ _
          · exact Keeps.refl _ _
        · clear_value y9
          refine Keeps.ite ?_ ?_
          · refine State.binTrip_keeps rfl ?_
            exact Keeps.refl _ _
          · exact Keeps.refl _ _

theorem execAzmBlockReady_keeps {t : Nat} (u : State) : ∃ nxt, execAzmBlockReady t u = .next nxt ∧ Keeps 95508012404752630 u nxt := by
  refine ⟨_, rfl, ?_⟩
  try extract_lets -underBinder
  first | split | (dsimp +zetaDelta only; split)
  · extract_lets -merge -useContext -underBinder y1 y2 y3
    refine Keeps.next (t := y1) (Nat.or_self _) ?_ ?_
    · refine State.blockReady_keeps rfl ?_
      refine State.at_keeps rfl ?_
      exact Keeps.refl _ _
    · clear_value y1
      refine Keeps.ite ?_ ?_
      · exact Keeps.refl _ _
      · refine Keeps.foldl (fun _ _ => ?_) ?_
        · refine State.binBlockCell_keeps rfl ?_
          exact Keeps.refl _ _
        · exact Keeps.refl _ _
  · refine State.at_keeps rfl ?_
    exact Keeps.refl _ _

theorem execInsulationEstimate_keeps {t : Nat} {riso : Nat} (u : State) : ∃ nxt, execInsulationEstimate t riso u = .next nxt ∧ Keeps 23432826179338470 u nxt := by
  refine ⟨_, rfl, ?_⟩
  refine Keeps.ite ?_ ?_
  · refine State.at_keeps rfl ?_
    exact Keeps.refl _ _
  · extract_lets -merge -useContext -underBinder y1 y2 y3 y4 y5 y6 y7 y8
    refine Keeps.next (t := y1) (Nat.or_self _) ?_ ?_
    · refine State.setFld_keeps (n := 17) (show unitOf 69644 = 17 from rfl) rfl rfl ?_
      refine State.at_keeps rfl ?_
      exact Keeps.refl _ _
    · clear_value y1
      refine Keeps.next (t := y6) (Nat.or_self _) ?_ ?_
      · refine State.setHeld_keeps (n := 17) (show unitOf 69636 = 17 from rfl) rfl rfl ?_
        exact Keeps.refl _ _
      · clear_value y6
        refine Keeps.next (t := y8) (Nat.or_self _) ?_ ?_
        · refine State.modBin_keeps rfl ?_
          refine Keeps.ite ?_ ?_
          · refine State.logEvent_keeps rfl ?_
            exact Keeps.refl _ _
          · exact Keeps.refl _ _
        · clear_value y8
          refine Keeps.ite ?_ ?_
          · refine State.binTrip_keeps rfl ?_
            exact Keeps.refl _ _
          · exact Keeps.refl _ _

theorem State.binCell_keeps {m : Nat} {s u : State} {target : Nat} {k : Nat} {p : Nat} (hm : m ||| 23432826179338436 = m) (h : Keeps m s u) :
    Keeps m s (State.binCell u target k p) := by
  refine Keeps.next hm h ?_
  clear hm h
  unfold State.binCell
  try extract_lets -underBinder
  first | split | (dsimp +zetaDelta only; split)
  · refine State.modBin_keeps rfl ?_
    exact Keeps.refl _ _
  · extract_lets -merge -useContext -underBinder y1 y2 y3 y4 y5 y6 y7 y8
    refine Keeps.next (t := y7) (Nat.or_self _) ?_ ?_
    · refine State.modBin_keeps rfl ?_
      exact Keeps.refl _ _
    · clear_value y7
      refine Keeps.ite ?_ ?_
      · exact Keeps.refl _ _
      · try extract_lets -underBinder
        first | split | (dsimp +zetaDelta only; split)
        · refine Keeps.ite ?_ ?_
          · refine State.binTrip_keeps rfl ?_
            refine State.binWarn_keeps (show unitOf 69636 = 17 from rfl) rfl ?_
            exact Keeps.refl _ _
          · refine State.binWarn_keeps (show unitOf 69636 = 17 from rfl) rfl ?_
            exact Keeps.refl _ _
        · refine State.binWarn_keeps (show unitOf 69636 = 17 from rfl) rfl ?_
          exact Keeps.refl _ _

theorem State.binSnapshot_keeps {m : Nat} {s u : State} {target : Nat} (hm : m ||| 23432826179338436 = m) (h : Keeps m s u) :
    Keeps m s (State.binSnapshot u target) := by
  refine Keeps.next hm h ?_
  clear hm h
  unfold State.binSnapshot
  refine Keeps.ite ?_ ?_
  · exact Keeps.refl _ _
  · extract_lets -merge -useContext -underBinder y1 y2 y3 y4 y5 y6
    refine Keeps.next (t := y1) (Nat.or_self _) ?_ ?_
    · refine Keeps.foldl (fun _ _ => ?_) ?_
      · refine Keeps.foldl (fun _ _ => ?_) ?_
        · refine State.binCell_keeps rfl ?_
          exact Keeps.refl _ _
        · exact Keeps.refl _ _
      · exact Keeps.refl _ _
    · clear_value y1
      refine Keeps.next (t := y3) (Nat.or_self _) ?_ ?_
      · refine Keeps.ite ?_ ?_
        · refine State.binTrip_keeps rfl ?_
          exact Keeps.refl _ _
        · exact Keeps.refl _ _
      · clear_value y3
        refine Keeps.next (t := y4) (Nat.or_self _) ?_ ?_
        · refine Keeps.ite ?_ ?_
          · refine State.modLds_keeps rfl ?_
            refine State.binTrip_keeps rfl ?_
            exact Keeps.refl _ _
          · exact Keeps.refl _ _
        · clear_value y4
          refine Keeps.next (t := y6) (Nat.or_self _) ?_ ?_
          · refine State.modBin_keeps rfl ?_
            exact Keeps.refl _ _
          · clear_value y6
            try extract_lets -underBinder
            first | split | (dsimp +zetaDelta only; split)
            · refine Keeps.ite ?_ ?_
              · refine State.binTrip_keeps rfl ?_
                exact Keeps.refl _ _
              · exact Keeps.refl _ _
            · exact Keeps.refl _ _

end Sys2Proof.Machine
end

