-- ==== Sys2Proof/Laws/KeepsLearning.lean ====
section
/-! SUPPORT. What each function of Machine/Learning.lean can change. -/

namespace Sys2Proof.Machine

theorem State.brownSave_keeps {m : Nat} {s u : State} (hm : m ||| 131072 = m) (h : Keeps m s u) :
    Keeps m s (State.brownSave u) := by
  refine Keeps.next hm h ?_
  clear hm h
  unfold State.brownSave
  refine Keeps.ite ?_ ?_
  · exact Keeps.refl _ _
  · extract_lets -merge -useContext -underBinder y1
    refine Keeps.next (t := y1) (Nat.or_self _) ?_ ?_
    · refine State.modSxt_keeps rfl ?_
      exact Keeps.refl _ _
    · clear_value y1
      refine Keeps.ite ?_ ?_
      · refine State.modSxt_keeps rfl ?_
        exact Keeps.refl _ _
      · exact Keeps.refl _ _

theorem State.journalShow_keeps {m : Nat} {s u : State} (hm : m ||| 4398046511108 = m) (h : Keeps m s u) :
    Keeps m s (State.journalShow u) := by
  refine Keeps.next hm h ?_
  clear hm h
  unfold State.journalShow
  extract_lets -merge -useContext -underBinder y1 y2
  refine Keeps.next (t := y2) (Nat.or_self _) ?_ ?_
  · refine State.setHeld_keeps (n := 10) (show unitOf 41028 = 10 from rfl) rfl rfl ?_
    exact Keeps.refl _ _
  · clear_value y2
    try extract_lets -underBinder
    first | split | (dsimp +zetaDelta only; split)
    · refine State.setWord_keeps (n := 10) (show unitOf 41072 = 10 from rfl) rfl rfl ?_
      refine State.setFld_keeps (n := 10) (show unitOf 41028 = 10 from rfl) rfl rfl ?_
      exact Keeps.refl _ _
    · refine State.setWord_keeps (n := 10) (show unitOf 41072 = 10 from rfl) rfl rfl ?_
      exact Keeps.refl _ _

theorem State.setSlot_keeps {m : Nat} {s u : State} {n : Nat} {x2 : Sys2Proof.Machine.Store} (hm : m ||| 131072 = m) (h : Keeps m s u) :
    Keeps m s (State.setSlot u n x2) := by
  refine Keeps.next hm h ?_
  clear hm h
  unfold State.setSlot
  refine State.modSxt_keeps rfl ?_
  exact Keeps.refl _ _

theorem State.restoreWrite_keeps {m : Nat} {s u : State} (hm : m ||| 4398046642180 = m) (h : Keeps m s u) :
    Keeps m s (State.restoreWrite u) := by
  refine Keeps.next hm h ?_
  clear hm h
  unfold State.restoreWrite
  refine Keeps.ite ?_ ?_
  · refine State.setFld_keeps (n := 10) (show unitOf 41028 = 10 from rfl) rfl rfl ?_
    refine State.modSxt_keeps rfl ?_
    exact Keeps.refl _ _
  · refine State.raiseEv_keeps (n := 10) (show unitOf 41028 = 10 from rfl) rfl rfl ?_
    refine State.setFld_keeps (n := 10) (show unitOf 41028 = 10 from rfl) rfl rfl ?_
    exact Keeps.refl _ _

theorem State.lrnctlWrite_keeps {m : Nat} {s u : State} {v : Sys2Proof.Word} (hm : m ||| 4398046642180 = m) (h : Keeps m s u) :
    Keeps m s (State.lrnctlWrite u v) := by
  refine Keeps.next hm h ?_
  clear hm h
  unfold State.lrnctlWrite
  refine State.when_keeps (fun _ => ?_) ?_
  · refine State.modSxt_keeps rfl ?_
    exact Keeps.refl _ _
  · refine State.when_keeps (fun _ => ?_) ?_
    · refine State.modSxt_keeps rfl ?_
      exact Keeps.refl _ _
    · refine State.when_keeps (fun _ => ?_) ?_
      · refine State.restoreWrite_keeps rfl ?_
        exact Keeps.refl _ _
      · refine State.when_keeps (fun _ => ?_) ?_
        · refine State.saveTrig_keeps rfl ?_
          exact Keeps.refl _ _
        · refine State.when_keeps (fun _ => ?_) ?_
          · refine Keeps.foldl (fun _ _ => ?_) ?_
            · refine State.lrnConfig_keeps rfl ?_
              exact Keeps.refl _ _
            · exact Keeps.refl _ _
          · refine State.setWord_keeps (n := 10) (show unitOf 41024 = 10 from rfl) rfl rfl ?_
            exact Keeps.refl _ _

theorem State.lrnctlBit_keeps {m : Nat} {s u : State} {b : Nat} (hm : m ||| 4398046642180 = m) (h : Keeps m s u) :
    Keeps m s (State.lrnctlBit u b) := by
  refine Keeps.next hm h ?_
  clear hm h
  unfold State.lrnctlBit
  refine State.lrnctlWrite_keeps rfl ?_
  exact Keeps.refl _ _

theorem execLearnSave_keeps {t : Nat} {x1 : Sys2Proof.Master} (u : State) : ∃ nxt, execLearnSave t x1 u = .next nxt ∧ Keeps 4398046642214 u nxt := by
  refine ⟨_, rfl, ?_⟩
  refine State.lrnctlBit_keeps rfl ?_
  refine State.at_keeps rfl ?_
  exact Keeps.refl _ _

theorem execPeriodicSave_keeps {t : Nat} (u : State) : ∃ nxt, execPeriodicSave t u = .next nxt ∧ Keeps 131106 u nxt := by
  refine ⟨_, rfl, ?_⟩
  refine Keeps.ite ?_ ?_
  · refine State.saveTrig_keeps rfl ?_
    refine State.at_keeps rfl ?_
    exact Keeps.refl _ _
  · refine State.at_keeps rfl ?_
    exact Keeps.refl _ _

theorem State.nominalTake_keeps {m : Nat} {s u : State} {p : Nat} (hm : m ||| 131072 = m) (h : Keeps m s u) :
    Keeps m s (State.nominalTake u p) := by
  refine Keeps.next hm h ?_
  clear hm h
  unfold State.nominalTake
  refine State.setCxFlag_keeps rfl ?_
  refine Keeps.ite ?_ ?_
  · refine State.setCxF_keeps rfl ?_
    refine Keeps.ite ?_ ?_
    · refine State.setCxF_keeps rfl ?_
      exact Keeps.refl _ _
    · exact Keeps.refl _ _
  · refine Keeps.ite ?_ ?_
    · refine State.setCxF_keeps rfl ?_
      exact Keeps.refl _ _
    · exact Keeps.refl _ _

theorem State.lrnTake_keeps {m : Nat} {s u : State} {p : Nat} {x2 : Sys2Proof.Machine.Store} {b : Nat} (hm : m ||| 131072 = m) (h : Keeps m s u) :
    Keeps m s (State.lrnTake u p x2 b) := by
  refine Keeps.next hm h ?_
  clear hm h
  unfold State.lrnTake
  extract_lets -merge -useContext -underBinder y1 y2 y3 y4
  refine Keeps.next (t := y4) (Nat.or_self _) ?_ ?_
  · refine State.setCxWord_keeps rfl ?_
    refine State.setCxBits_keeps rfl ?_
    refine State.setCxFlag_keeps rfl ?_
    refine State.setCxWord_keeps rfl ?_
    refine State.setCapl_keeps rfl ?_
    exact Keeps.refl _ _
  · clear_value y4
    refine Keeps.ite ?_ ?_
    · refine State.setCxF_keeps rfl ?_
      refine State.setCxWord_keeps rfl ?_
      exact Keeps.refl _ _
    · exact Keeps.refl _ _

theorem State.lrnBoundary_keeps {m : Nat} {s u : State} (hm : m ||| 4398046642180 = m) (h : Keeps m s u) :
    Keeps m s (State.lrnBoundary u) := by
  refine Keeps.next hm h ?_
  clear hm h
  unfold State.lrnBoundary
  extract_lets -merge -useContext -underBinder y1 y2 y3 y4 y5 y6 y7
  refine Keeps.next (t := y2) (Nat.or_self _) ?_ ?_
  · refine State.modSxt_keeps rfl ?_
    exact Keeps.refl _ _
  · clear_value y2
    refine Keeps.next (t := y3) (Nat.or_self _) ?_ ?_
    · try extract_lets -underBinder
      first | split | (dsimp +zetaDelta only; split)
      · refine State.modSxt_keeps rfl ?_
        refine Keeps.foldl (fun _ _ => ?_) ?_
        · refine State.lrnTake_keeps rfl ?_
          exact Keeps.refl _ _
        · exact Keeps.refl _ _
      · exact Keeps.refl _ _
    · clear_value y3
      refine Keeps.next (t := y5) (Nat.or_self _) ?_ ?_
      · refine State.sxtNotRestored_keeps rfl ?_
        refine Keeps.ite ?_ ?_
        · refine State.modSxt_keeps rfl ?_
          refine Keeps.foldl (fun _ _ => ?_) ?_
          · refine State.nominalTake_keeps rfl ?_
            exact Keeps.refl _ _
          · exact Keeps.refl _ _
        · exact Keeps.refl _ _
      · clear_value y5
        refine Keeps.ite ?_ ?_
        · refine State.raiseEv_keeps (n := 10) (show unitOf 41028 = 10 from rfl) rfl rfl ?_
          refine State.modSxt_keeps rfl ?_
          exact Keeps.refl _ _
        · exact Keeps.refl _ _

theorem State.sxtAllocate_keeps {m : Nat} {s u : State} (hm : m ||| 4398046642180 = m) (h : Keeps m s u) :
    Keeps m s (State.sxtAllocate u) := by
  refine Keeps.next hm h ?_
  clear hm h
  unfold State.sxtAllocate
  refine State.sxtSched_keeps rfl ?_
  refine State.sxtStatus_keeps rfl ?_
  refine State.journalShow_keeps rfl ?_
  refine State.sxtNotRestored_keeps rfl ?_
  refine State.sxtModels_keeps rfl ?_
  refine Keeps.ite ?_ ?_
  · refine State.modSxt_keeps rfl ?_
    refine State.setFlag_keeps (n := 10) (show unitOf 41028 = 10 from rfl) rfl rfl ?_
    refine Keeps.foldl (fun _ _ => ?_) ?_
    · refine State.sxtKind_keeps rfl ?_
      exact Keeps.refl _ _
    · refine Keeps.foldl (fun _ _ => ?_) ?_
      · refine State.sxtKind_keeps rfl ?_
        exact Keeps.refl _ _
      · refine Keeps.foldl (fun _ _ => ?_) ?_
        · refine State.lrnConfig_keeps rfl ?_
          exact Keeps.refl _ _
        · exact Keeps.refl _ _
  · refine Keeps.ite ?_ ?_
    · refine Keeps.foldl (fun _ _ => ?_) ?_
      · refine State.sxtNominal_keeps rfl ?_
        exact Keeps.refl _ _
      · refine State.modSxt_keeps rfl ?_
        refine State.setFlag_keeps (n := 10) (show unitOf 41028 = 10 from rfl) rfl rfl ?_
        refine Keeps.foldl (fun _ _ => ?_) ?_
        · refine State.sxtKind_keeps rfl ?_
          exact Keeps.refl _ _
        · refine Keeps.foldl (fun _ _ => ?_) ?_
          · refine State.sxtKind_keeps rfl ?_
            exact Keeps.refl _ _
          · refine Keeps.foldl (fun _ _ => ?_) ?_
            · refine State.lrnConfig_keeps rfl ?_
              exact Keeps.refl _ _
            · exact Keeps.refl _ _
    · try extract_lets -underBinder
      first | split | (dsimp +zetaDelta only; split)
      · refine Keeps.foldl (fun _ _ => ?_) ?_
        · refine State.lrnTake_keeps rfl ?_
          refine State.sxtNominal_keeps rfl ?_
          exact Keeps.refl _ _
        · refine State.modSxt_keeps rfl ?_
          refine State.setFlag_keeps (n := 10) (show unitOf 41028 = 10 from rfl) rfl rfl ?_
          refine Keeps.foldl (fun _ _ => ?_) ?_
          · refine State.sxtKind_keeps rfl ?_
            exact Keeps.refl _ _
          · refine Keeps.foldl (fun _ _ => ?_) ?_
            · refine State.sxtKind_keeps rfl ?_
              exact Keeps.refl _ _
            · refine Keeps.foldl (fun _ _ => ?_) ?_
              · refine State.lrnConfig_keeps rfl ?_
                exact Keeps.refl _ _
              · exact Keeps.refl _ _
      · refine State.raiseEv_keeps (n := 10) (show unitOf 41028 = 10 from rfl) rfl rfl ?_
        refine Keeps.foldl (fun _ _ => ?_) ?_
        · refine State.sxtNominal_keeps rfl ?_
          exact Keeps.refl _ _
        · refine State.modSxt_keeps rfl ?_
          refine State.setFlag_keeps (n := 10) (show unitOf 41028 = 10 from rfl) rfl rfl ?_
          refine Keeps.foldl (fun _ _ => ?_) ?_
          · refine State.sxtKind_keeps rfl ?_
            exact Keeps.refl _ _
          · refine Keeps.foldl (fun _ _ => ?_) ?_
            · refine State.sxtKind_keeps rfl ?_
              exact Keeps.refl _ _
            · refine Keeps.foldl (fun _ _ => ?_) ?_
              · refine State.lrnConfig_keeps rfl ?_
                exact Keeps.refl _ _
              · exact Keeps.refl _ _

theorem execJournalSaveStart_keeps {t : Nat} (u : State) : ∃ nxt, execJournalSaveStart t u = .next nxt ∧ Keeps 4398046642214 u nxt := by
  refine ⟨_, rfl, ?_⟩
  try extract_lets -underBinder
  first | split | (dsimp +zetaDelta only; split)
  · refine State.at_keeps rfl ?_
    exact Keeps.refl _ _
  · refine Keeps.ite ?_ ?_
    · refine State.at_keeps rfl ?_
      exact Keeps.refl _ _
    · refine State.setFld_keeps (n := 10) (show unitOf 41028 = 10 from rfl) rfl rfl ?_
      refine State.modSxt_keeps rfl ?_
      refine State.setSlot_keeps rfl ?_
      refine State.at_keeps rfl ?_
      exact Keeps.refl _ _

end Sys2Proof.Machine
end

