-- ==== Sys2Proof/Laws/KeepsLimits.lean ====
section
/-! SUPPORT. What each function of Machine/Limits.lean can change. -/

namespace Sys2Proof.Machine

theorem State.modDsp_keeps {m : Nat} {s u : State} {f : Sys2Proof.Machine.DspSt → Sys2Proof.Machine.DspSt} (hm : m ||| 2097152 = m) (h : Keeps m s u) :
    Keeps m s (State.modDsp u f) := by
  refine Keeps.next hm h ?_
  clear hm h
  unfold State.modDsp
  refine Keeps.mk_dsp rfl ?_
  exact Keeps.refl _ _

theorem State.avFrame_keeps {m : Nat} {s u : State} {num : Sys2Proof.Word} {o : Sys2Proof.Machine.DspOut} (hm : m ||| 2392537302106116 = m) (h : Keeps m s u) :
    Keeps m s (State.avFrame u num o) := by
  refine Keeps.next hm h ?_
  clear hm h
  unfold State.avFrame
  refine Keeps.ite ?_ ?_
  · refine Keeps.ite ?_ ?_
    · refine State.raiseEv_keeps (n := 15) (show unitOf 61444 = 15 from rfl) rfl rfl ?_
      refine State.canDrop_keeps rfl ?_
      refine State.canQueue_keeps rfl ?_
      exact Keeps.refl _ _
    · refine State.canQueue_keeps rfl ?_
      exact Keeps.refl _ _
  · exact Keeps.refl _ _

theorem State.coolStep_keeps {m : Nat} {s u : State} {k : Nat} (hm : m ||| 2097152 = m) (h : Keeps m s u) :
    Keeps m s (State.coolStep u k) := by
  refine Keeps.next hm h ?_
  clear hm h
  unfold State.coolStep
  refine Keeps.ite ?_ ?_
  · refine State.modDsp_keeps rfl ?_
    exact Keeps.refl _ _
  · try extract_lets -underBinder
    first | split | (dsimp +zetaDelta only; split)
    · refine State.modDsp_keeps rfl ?_
      exact Keeps.refl _ _
    · refine Keeps.ite ?_ ?_
      · refine State.modDsp_keeps rfl ?_
        exact Keeps.refl _ _
      · refine State.modDsp_keeps rfl ?_
        exact Keeps.refl _ _

theorem State.coolfreqWrite_keeps {m : Nat} {s u : State} {v : Sys2Proof.Word} (hm : m ||| 140737488355332 = m) (h : Keeps m s u) :
    Keeps m s (State.coolfreqWrite u v) := by
  refine Keeps.next hm h ?_
  clear hm h
  unfold State.coolfreqWrite
  refine Keeps.ite ?_ ?_
  · refine State.setWord_keeps (n := 15) (show unitOf 61488 = 15 from rfl) rfl rfl ?_
    exact Keeps.refl _ _
  · exact Keeps.refl _ _

theorem State.coolAll_keeps {m : Nat} {s u : State} (hm : m ||| 140737490452484 = m) (h : Keeps m s u) :
    Keeps m s (State.coolAll u) := by
  refine Keeps.next hm h ?_
  clear hm h
  unfold State.coolAll
  refine State.setHeld_keeps (n := 15) (show unitOf 61444 = 15 from rfl) rfl rfl ?_
  refine Keeps.foldl (fun _ _ => ?_) ?_
  · refine State.coolStep_keeps rfl ?_
    exact Keeps.refl _ _
  · exact Keeps.refl _ _

theorem State.dspCommit_keeps {m : Nat} {s u : State} {x1 : Sys2Proof.Machine.Store} {stale : Bool} {conf : Bool} (hm : m ||| 140737490452484 = m) (h : Keeps m s u) :
    Keeps m s (State.dspCommit u x1 stale conf).1 := by
  refine Keeps.next hm h ?_
  clear hm h
  unfold State.dspCommit
  extract_lets -merge -useContext -underBinder y1 y2 y3 y4 y5 y6 y7 y8 y9 y10 y11 y12 y13 y14 y15 y16 y17 y18 y19 y20 y21 y22
  refine Keeps.next (t := y6) (Nat.or_self _) ?_ ?_
  · refine State.coolAll_keeps rfl ?_
    refine State.modDsp_keeps rfl ?_
    exact Keeps.refl _ _
  · clear_value y6
    refine State.setWord_keeps (n := 15) (show unitOf 61472 = 15 from rfl) rfl rfl ?_
    refine State.setWord_keeps (n := 15) (show unitOf 61468 = 15 from rfl) rfl rfl ?_
    refine State.setHeld_keeps (n := 15) (show unitOf 61444 = 15 from rfl) rfl rfl ?_
    refine State.setHeld_keeps (n := 15) (show unitOf 61444 = 15 from rfl) rfl rfl ?_
    exact Keeps.refl _ _

theorem State.orderedWrite_keeps {m : Nat} {s u : State} {off : Nat} {v : Sys2Proof.Word} (hm : m ||| 134217732 = m) (h : Keeps m s u) :
    Keeps m s (State.orderedWrite u off v) := by
  refine Keeps.next hm h ?_
  clear hm h
  unfold State.orderedWrite
  refine Keeps.ite ?_ ?_
  · refine State.setWord_keepsAny rfl ?_
    exact Keeps.refl _ _
  · exact Keeps.refl _ _

end Sys2Proof.Machine
end

