-- ==== Sys2Proof/Laws/KeepsPilot.lean ====
section
/-! SUPPORT. What each function of Machine/Pilot.lean can change. -/

namespace Sys2Proof.Machine

theorem State.setRingIdx_keeps {m : Nat} {s u : State} {x1 : Nat} {reg : Nat} {v : Nat} (hk : unitOf reg = 3) (hm : m ||| 34359738372 = m) (h : Keeps m s u) :
    Keeps m s (State.setRingIdx u x1 reg v) := by
  refine Keeps.next hm h ?_
  clear hm h
  unfold State.setRingIdx
  refine State.setWord_keeps (n := 3) (unitOf_masterKey hk) rfl rfl ?_
  exact Keeps.refl _ _

theorem State.modHost_keeps {m : Nat} {s u : State} {f : Sys2Proof.Machine.HostSt → Sys2Proof.Machine.HostSt} (hm : m ||| 128 = m) (h : Keeps m s u) :
    Keeps m s (State.modHost u f) := by
  refine Keeps.next hm h ?_
  clear hm h
  unfold State.modHost
  refine Keeps.mk_host rfl ?_
  exact Keeps.refl _ _

theorem State.rspPut_keeps {m : Nat} {s u : State} {x1 : Nat} {ws : List Sys2Proof.Word} (hm : m ||| 34359738500 = m) (h : Keeps m s u) :
    Keeps m s (State.rspPut u x1 ws) := by
  refine Keeps.next hm h ?_
  clear hm h
  unfold State.rspPut
  extract_lets -merge -useContext -underBinder y1 y2 y3 y4
  refine Keeps.next (t := y4) (Nat.or_self _) ?_ ?_
  · refine State.setRingIdx_keeps (show unitOf 12376 = 3 from rfl) rfl ?_
    refine State.modHost_keeps rfl ?_
    exact Keeps.refl _ _
  · clear_value y4
    refine Keeps.ite ?_ ?_
    · refine State.doorbell_keeps rfl ?_
      exact Keeps.refl _ _
    · exact Keeps.refl _ _

theorem State.setSession_keeps {m : Nat} {s u : State} {k : Nat} {x : Sys2Proof.Machine.Session} (hm : m ||| 128 = m) (h : Keeps m s u) :
    Keeps m s (State.setSession u k x) := by
  refine Keeps.next hm h ?_
  clear hm h
  unfold State.setSession
  refine State.modHost_keeps rfl ?_
  exact Keeps.refl _ _

theorem State.sessionSend_keeps {m : Nat} {s u : State} {k : Nat} {ws : List Sys2Proof.Word} (hm : m ||| 128 = m) (h : Keeps m s u) :
    Keeps m s (State.sessionSend u k ws) := by
  refine Keeps.next hm h ?_
  clear hm h
  unfold State.sessionSend
  refine State.modHost_keeps rfl ?_
  refine State.setSession_keeps rfl ?_
  exact Keeps.refl _ _

theorem State.respond_keeps {m : Nat} {s u : State} {src : Sys2Proof.Issuer} {tag : Nat} {op : Nat} {status : Nat} {data : List Sys2Proof.Word} (hm : m ||| 34359738500 = m) (h : Keeps m s u) :
    Keeps m s (State.respond u src tag op status data) := by
  refine Keeps.next hm h ?_
  clear hm h
  unfold State.respond
  try extract_lets -underBinder
  first | split | (dsimp +zetaDelta only; split)
  · refine State.rspPut_keeps rfl ?_
    exact Keeps.refl _ _
  · refine State.rspPut_keeps rfl ?_
    exact Keeps.refl _ _
  · refine Keeps.ite ?_ ?_
    · refine State.sessionSend_keeps rfl ?_
      exact Keeps.refl _ _
    · exact Keeps.refl _ _

theorem State.modPilot_keeps {m : Nat} {s u : State} {f : Sys2Proof.Machine.PilotSt → Sys2Proof.Machine.PilotSt} (hm : m ||| 33554432 = m) (h : Keeps m s u) :
    Keeps m s (State.modPilot u f) := by
  refine Keeps.next hm h ?_
  clear hm h
  unfold State.modPilot
  refine Keeps.mk_pilot rfl ?_
  exact Keeps.refl _ _

theorem State.boundaryBad_keeps {m : Nat} {s u : State} {op : Nat} {bad : Bool} (hm : m ||| 33554432 = m) (h : Keeps m s u) :
    Keeps m s (State.boundaryBad u op bad) := by
  refine Keeps.next hm h ?_
  clear hm h
  unfold State.boundaryBad
  refine State.modPilot_keeps rfl ?_
  exact Keeps.refl _ _

theorem State.answerWaiting_keeps {m : Nat} {s u : State} {w : Sys2Proof.Machine.Waiting} {status : Nat} {data : List Sys2Proof.Word} (hm : m ||| 34393292932 = m) (h : Keeps m s u) :
    Keeps m s (State.answerWaiting u w status data) := by
  refine Keeps.next hm h ?_
  clear hm h
  unfold State.answerWaiting
  extract_lets -merge -useContext -underBinder y1
  refine Keeps.next (t := y1) (Nat.or_self _) ?_ ?_
  · refine State.modPilot_keeps rfl ?_
    exact Keeps.refl _ _
  · clear_value y1
    refine Keeps.ite ?_ ?_
    · exact Keeps.refl _ _
    · refine State.respond_keeps rfl ?_
      exact Keeps.refl _ _

theorem State.answerAll_keeps {m : Nat} {s u : State} {f : Sys2Proof.Machine.State → Sys2Proof.Machine.Waiting → Option (Nat × List Sys2Proof.Word)} (hm : m ||| 34393292932 = m) (h : Keeps m s u) :
    Keeps m s (State.answerAll u f) := by
  refine Keeps.next hm h ?_
  clear hm h
  unfold State.answerAll
  refine Keeps.foldl (fun _ _ => ?_) ?_
  · try extract_lets -underBinder
    first | split | (dsimp +zetaDelta only; split)
    · refine State.answerWaiting_keeps rfl ?_
      exact Keeps.refl _ _
    · exact Keeps.refl _ _
  · exact Keeps.refl _ _

theorem State.boundaryAnswer_keeps {m : Nat} {s u : State} (hm : m ||| 34393292932 = m) (h : Keeps m s u) :
    Keeps m s (State.boundaryAnswer u) := by
  refine Keeps.next hm h ?_
  clear hm h
  unfold State.boundaryAnswer
  refine State.answerAll_keeps rfl ?_
  exact Keeps.refl _ _

theorem State.saveAnswer_keeps {m : Nat} {s u : State} {ok : Bool} (hm : m ||| 34393292932 = m) (h : Keeps m s u) :
    Keeps m s (State.saveAnswer u ok) := by
  refine Keeps.next hm h ?_
  clear hm h
  unfold State.saveAnswer
  refine State.modPilot_keeps rfl ?_
  refine State.answerAll_keeps rfl ?_
  exact Keeps.refl _ _

theorem State.takeEntry_keeps {m : Nat} {s u : State} {src : Sys2Proof.Issuer} {ws : List Sys2Proof.Word} (hm : m ||| 34359738500 = m) (h : Keeps m s u) :
    Keeps m s (State.takeEntry u src ws) := by
  refine Keeps.next hm h ?_
  clear hm h
  unfold State.takeEntry
  try extract_lets -underBinder
  first | split | (dsimp +zetaDelta only; split)
  · extract_lets -merge -useContext -underBinder y1 y2 y3 y4 y5
    refine Keeps.next (t := y3) (Nat.or_self _) ?_ ?_
    · refine State.modHost_keeps rfl ?_
      exact Keeps.refl _ _
    · clear_value y3
      refine Keeps.next (t := y5) (Nat.or_self _) ?_ ?_
      · refine State.setRingIdx_keeps (show unitOf 12372 = 3 from rfl) rfl ?_
        refine Keeps.ite ?_ ?_
        · refine State.setRingIdx_keeps (show unitOf 12368 = 3 from rfl) rfl ?_
          exact Keeps.refl _ _
        · exact Keeps.refl _ _
      · clear_value y5
        refine Keeps.ite ?_ ?_
        · refine State.doorbell_keeps rfl ?_
          exact Keeps.refl _ _
        · exact Keeps.refl _ _
  · try extract_lets -underBinder
    first | split | (dsimp +zetaDelta only; split)
    · refine State.setSession_keeps rfl ?_
      exact Keeps.refl _ _
    · exact Keeps.refl _ _

theorem State.pilotAns_keeps {m : Nat} {s u : State} {c : Sys2Proof.Entry} {op : Nat} {need : List Sys2Proof.Word → Bool} {l : Bool} {a : Bool} {f : List Sys2Proof.Word → Sys2Proof.Machine.State → Sys2Proof.Machine.Ans × Sys2Proof.Machine.State} (hf : ∀ p t, Keeps m t (f p t).2) (hm : m ||| 0 = m) (h : Keeps m s u) :
    Keeps m s (State.pilotAns u c op need l a f).2 := by
  unfold State.pilotAns
  refine Keeps.ite2 ?_ ?_
  · refine Keeps.pair2 ?_
    exact h
  · refine Keeps.ite2 ?_ ?_
    · refine Keeps.pair2 ?_
      exact h
    · refine Keeps.ite2 ?_ ?_
      · refine Keeps.pair2 ?_
        exact h
      · refine Keeps.ite2 ?_ ?_
        · refine Keeps.pair2 ?_
          exact h
        · refine Keeps.ite2 ?_ ?_
          · refine Keeps.pair2 ?_
            exact h
          · refine Keeps.ite2 ?_ ?_
            · refine Keeps.pair2 ?_
              exact h
            · refine Keeps.next (Nat.or_self m) ?_ (hf _ _)
              exact h

theorem State.coefAnswer_keeps {m : Nat} {s u : State} (hm : m ||| 34393292932 = m) (h : Keeps m s u) :
    Keeps m s (State.coefAnswer u) := by
  refine Keeps.next hm h ?_
  clear hm h
  unfold State.coefAnswer
  refine State.answerAll_keeps rfl ?_
  exact Keeps.refl _ _

theorem State.autobaudAnswer_keeps {m : Nat} {s u : State} (hm : m ||| 34393292932 = m) (h : Keeps m s u) :
    Keeps m s (State.autobaudAnswer u) := by
  refine Keeps.next hm h ?_
  clear hm h
  unfold State.autobaudAnswer
  refine State.answerAll_keeps rfl ?_
  exact Keeps.refl _ _

theorem State.laneAnswer_keeps {m : Nat} {s u : State} (hm : m ||| 34393292932 = m) (h : Keeps m s u) :
    Keeps m s (State.laneAnswer u) := by
  refine Keeps.next hm h ?_
  clear hm h
  unfold State.laneAnswer
  refine State.answerAll_keeps rfl ?_
  exact Keeps.refl _ _

theorem State.pilotCmd_keeps {m : Nat} {s u : State} {t : Nat} {c : Sys2Proof.Entry} {op : Nat} {need : List Sys2Proof.Word → Bool} {l : Bool} {a : Bool} {f : List Sys2Proof.Word → Sys2Proof.Machine.State → Sys2Proof.Machine.Ans × Sys2Proof.Machine.State} (hf : ∀ p t, Keeps m t (f p t).2) (hm : m ||| 34393292966 = m) (h : Keeps m s u) :
    Keeps m s (State.pilotCmd u t c op need l a f) := by
  unfold State.pilotCmd
  extract_lets -merge -useContext -underBinder y1 y2 y3
  refine Keeps.next (t := y1) (Nat.or_self _) ?_ ?_
  · refine State.at_keeps (lor_sub hm rfl) ?_
    exact h
  · clear_value y1
    refine Keeps.ite ?_ ?_
    · exact Keeps.refl _ _
    · try extract_lets -underBinder
      first | split | (dsimp +zetaDelta only; split)
      · refine State.respond_keeps (lor_sub hm rfl) ?_
        refine State.pilotAns_keeps (fun _ _ => ?_) (lor_sub hm rfl) ?_
        · refine Keeps.next (Nat.or_self m) ?_ (hf _ _)
          exact Keeps.refl _ _
        · refine State.takeEntry_keeps (lor_sub hm rfl) ?_
          exact Keeps.refl _ _
      · refine State.modPilot_keeps (lor_sub hm rfl) ?_
        refine State.pilotAns_keeps (fun _ _ => ?_) (lor_sub hm rfl) ?_
        · refine Keeps.next (Nat.or_self m) ?_ (hf _ _)
          exact Keeps.refl _ _
        · refine State.takeEntry_keeps (lor_sub hm rfl) ?_
          exact Keeps.refl _ _

end Sys2Proof.Machine
end

