-- ==== Sys2Proof/Laws/KeepsCommit.lean ====
section
/-! SUPPORT. What each function of Machine/Commit.lean can change. -/

namespace Sys2Proof.Machine

theorem State.commitMarks_keeps {m : Nat} {s u : State} {e : Sys2Proof.Machine.EpochRec} {stale : List Sys2Proof.Machine.ItemId} (hm : m ||| 81227800187502596 = m) (h : Keeps m s u) :
    Keeps m s (State.commitMarks u e stale) := by
  refine Keeps.next hm h ?_
  clear hm h
  unfold State.commitMarks
  refine State.when_keeps (fun _ => ?_) ?_
  · refine State.setFld_keeps (n := 15) (show unitOf 61444 = 15 from rfl) rfl rfl ?_
    refine State.raiseEv_keeps (n := 15) (show unitOf 61444 = 15 from rfl) rfl rfl ?_
    refine State.satAdd_keeps (n := 21) (show unitOf 86028 = 21 from rfl) rfl rfl ?_
    exact Keeps.refl _ _
  · refine State.when_keeps (fun _ => ?_) ?_
    · refine State.satAdd_keeps (n := 21) (show unitOf 86028 = 21 from rfl) rfl rfl ?_
      exact Keeps.refl _ _
    · refine State.when_keeps (fun _ => ?_) ?_
      · refine State.raiseEv_keeps (n := 6) (show unitOf 24580 = 6 from rfl) rfl rfl ?_
        exact Keeps.refl _ _
      · refine State.when_keeps (fun _ => ?_) ?_
        · refine State.raiseEv_keeps (n := 12) (show unitOf 49156 = 12 from rfl) rfl rfl ?_
          exact Keeps.refl _ _
        · refine State.when_keeps (fun _ => ?_) ?_
          · refine State.pmcEvent_keeps rfl ?_
            refine State.setWord_keeps (n := 10) (show unitOf 40988 = 10 from rfl) rfl rfl ?_
            refine State.raiseEv_keeps (n := 10) (show unitOf 40964 = 10 from rfl) rfl rfl ?_
            exact Keeps.refl _ _
          · refine State.when_keeps (fun _ => ?_) ?_
            · refine State.raiseEv_keeps (n := 0) (show unitOf 72 = 0 from rfl) rfl rfl ?_
              exact Keeps.refl _ _
            · refine State.when_keeps (fun _ => ?_) ?_
              · refine State.raiseEv_keeps (n := 0) (show unitOf 72 = 0 from rfl) rfl rfl ?_
                exact Keeps.refl _ _
              · refine State.setWord_keeps (n := 0) (show unitOf 76 = 0 from rfl) rfl rfl ?_
                refine State.setHeld_keeps (n := 0) (show unitOf 72 = 0 from rfl) rfl rfl ?_
                exact Keeps.refl _ _

theorem State.mirrorSend_keeps {m : Nat} {s u : State} {num : Sys2Proof.Word} (hm : m ||| 1125899923619845 = m) (h : Keeps m s u) :
    Keeps m s (State.mirrorSend u num) := by
  refine Keeps.next hm h ?_
  clear hm h
  unfold State.mirrorSend
  refine Keeps.ite ?_ ?_
  · refine State.setFld_keeps (n := 18) (show unitOf 73764 = 18 from rfl) rfl rfl ?_
    refine State.modRdn_keeps rfl ?_
    refine State.setWord_keeps (n := 18) (show unitOf 73736 = 18 from rfl) rfl rfl ?_
    refine State.freshNat_keeps rfl ?_
    try extract_lets -underBinder
    first | split | (dsimp +zetaDelta only; split)
    · refine Keeps.ite ?_ ?_
      · exact Keeps.refl _ _
      · refine State.satAdd_keeps (n := 18) (show unitOf 73752 = 18 from rfl) rfl rfl ?_
        refine State.raiseEv_keeps (n := 18) (show unitOf 73732 = 18 from rfl) rfl rfl ?_
        exact Keeps.refl _ _
    · exact Keeps.refl _ _
  · refine State.modRdn_keeps rfl ?_
    try extract_lets -underBinder
    first | split | (dsimp +zetaDelta only; split)
    · refine Keeps.ite ?_ ?_
      · exact Keeps.refl _ _
      · refine State.satAdd_keeps (n := 18) (show unitOf 73752 = 18 from rfl) rfl rfl ?_
        refine State.raiseEv_keeps (n := 18) (show unitOf 73732 = 18 from rfl) rfl rfl ?_
        exact Keeps.refl _ _
    · exact Keeps.refl _ _

theorem State.ovrMark_keeps {m : Nat} {s u : State} {bads : List Bool} (hm : m ||| 33554432 = m) (h : Keeps m s u) :
    Keeps m s (State.ovrMark u bads) := by
  refine Keeps.next hm h ?_
  clear hm h
  unfold State.ovrMark
  refine State.modPilot_keeps rfl ?_
  exact Keeps.refl _ _

theorem State.profileBoundary_keeps {m : Nat} {s u : State} (hm : m ||| 70373072699412 = m) (h : Keeps m s u) :
    Keeps m s (State.profileBoundary u).2 := by
  refine Keeps.next hm h ?_
  clear hm h
  unfold State.profileBoundary
  refine Keeps.pair2 ?_
  refine State.ovrMark_keeps rfl ?_
  refine State.when_keeps (fun _ => ?_) ?_
  · refine State.raiseEv_keeps (n := 0) (show unitOf 72 = 0 from rfl) rfl rfl ?_
    exact Keeps.refl _ _
  · refine State.setFlag_keeps (n := 14) (show unitOf 57344 = 14 from rfl) rfl rfl ?_
    refine State.setFlag_keeps (n := 0) (show unitOf 128 = 0 from rfl) rfl rfl ?_
    refine Keeps.mk_ep rfl ?_
    exact Keeps.refl _ _

theorem State.hlmEpoch_keeps {m : Nat} {s u : State} (hm : m ||| 140737488371716 = m) (h : Keeps m s u) :
    Keeps m s (State.hlmEpoch u) := by
  refine Keeps.next hm h ?_
  clear hm h
  unfold State.hlmEpoch
  refine State.modHlm_keeps rfl ?_
  refine State.when_keeps (fun _ => ?_) ?_
  · refine State.setWord_keeps (n := 15) (show unitOf 61480 = 15 from rfl) rfl rfl ?_
    exact Keeps.refl _ _
  · exact Keeps.refl _ _

theorem State.epochDies_keeps {m : Nat} {s u : State} {serial : Nat} (hm : m ||| 16 = m) (h : Keeps m s u) :
    Keeps m s (State.epochDies u serial) := by
  refine Keeps.next hm h ?_
  clear hm h
  unfold State.epochDies
  refine Keeps.mk_ep rfl ?_
  exact Keeps.refl _ _

theorem State.boundary_keeps {m : Nat} {s u : State} {b : Nat} (hm : m ||| 90340552592475733 = m) (h : Keeps m s u) :
    Keeps m s (State.boundary u b) := by
  refine Keeps.next hm h ?_
  clear hm h
  unfold State.boundary
  extract_lets -merge -useContext -underBinder y1 y2 y3 y4 y5 y6 y7 y8 y9 y10 y11 y12 y13 y14 y15 y16 y17 y18 y19 y20 y21 y22
  refine Keeps.next (t := y3) (Nat.or_self _) ?_ ?_
  · refine State.when_keeps (fun _ => ?_) ?_
    · refine State.sxtCatchUp_keeps rfl ?_
      exact Keeps.refl _ _
    · exact Keeps.refl _ _
  · clear_value y3
    refine Keeps.next (t := y7) (Nat.or_self _) ?_ ?_
    · refine State.profileBoundary_keeps rfl ?_
      refine Keeps.mk_ep rfl ?_
      exact Keeps.refl _ _
    · clear_value y7
      refine Keeps.next (t := y9) (Nat.or_self _) ?_ ?_
      · refine Keeps.mk_ep rfl ?_
        exact Keeps.refl _ _
      · clear_value y9
        refine Keeps.next (t := y11) (Nat.or_self _) ?_ ?_
        · refine Keeps.mk_ep rfl ?_
          exact Keeps.refl _ _
        · clear_value y11
          refine Keeps.next (t := y13) (Nat.or_self _) ?_ ?_
          · refine State.balBoundary_keeps rfl ?_
            refine State.hlmEpoch_keeps rfl ?_
            refine State.acqBoundary_keeps rfl ?_
            refine Keeps.ite ?_ ?_
            · exact Keeps.refl _ _
            · refine State.epochDies_keeps rfl ?_
              exact Keeps.refl _ _
          · clear_value y13
            refine Keeps.next (t := y15) (Nat.or_self _) ?_ ?_
            · refine State.papplyTake_keeps rfl ?_
              exact Keeps.refl _ _
            · clear_value y15
              refine Keeps.next (t := y16) (Nat.or_self _) ?_ ?_
              · refine State.boundaryBad_keeps rfl ?_
                exact Keeps.refl _ _
              · clear_value y16
                refine Keeps.next (t := y18) (Nat.or_self _) ?_ ?_
                · refine State.dapplyTake_keeps rfl ?_
                  exact Keeps.refl _ _
                · clear_value y18
                  refine Keeps.next (t := y19) (Nat.or_self _) ?_ ?_
                  · refine State.lrnBoundary_keeps rfl ?_
                    refine State.boundaryBad_keeps rfl ?_
                    exact Keeps.refl _ _
                  · clear_value y19
                    refine State.azmEpoch_keeps rfl ?_
                    refine State.sxtEpoch_keeps rfl ?_
                    refine State.sxtSched_keeps rfl ?_
                    refine State.refreshCap_keeps rfl ?_
                    refine State.balModeRefresh_keeps rfl ?_
                    refine Keeps.ite ?_ ?_
                    · refine State.azmProfile_keeps rfl ?_
                      refine Keeps.mk_sxt rfl ?_
                      refine State.sxtActive_keeps rfl ?_
                      refine State.sxtModels_keeps rfl ?_
                      exact Keeps.refl _ _
                    · exact Keeps.refl _ _

theorem State.pauseEnd_keeps {m : Nat} {s u : State} {num : Sys2Proof.Word} (hm : m ||| 4503634020665476 = m) (h : Keeps m s u) :
    Keeps m s (State.pauseEnd u num) := by
  refine Keeps.next hm h ?_
  clear hm h
  unfold State.pauseEnd
  try extract_lets -underBinder
  first | split | (dsimp +zetaDelta only; split)
  · exact Keeps.refl _ _
  · extract_lets -merge -useContext -underBinder y1 y2 y3 y4
    refine Keeps.next (t := y3) (Nat.or_self _) ?_ ?_
    · refine Keeps.mk_upd rfl ?_
      exact Keeps.refl _ _
    · clear_value y3
      refine State.answerAll_keeps rfl ?_
      refine State.setFld_keeps (n := 20) (show unitOf 81968 = 20 from rfl) rfl rfl ?_
      refine State.setWord_keeps (n := 20) (show unitOf 81972 = 20 from rfl) rfl rfl ?_
      exact Keeps.refl _ _

theorem State.takeoverDone_keeps {m : Nat} {s u : State} {num : Sys2Proof.Word} (hm : m ||| 19140298433101892 = m) (h : Keeps m s u) :
    Keeps m s (State.takeoverDone u num) := by
  refine Keeps.next hm h ?_
  clear hm h
  unfold State.takeoverDone
  extract_lets -merge -useContext -underBinder y1
  refine Keeps.next (t := y1) (Nat.or_self _) ?_ ?_
  · refine State.modRdn_keeps rfl ?_
    exact Keeps.refl _ _
  · clear_value y1
    refine Keeps.ite ?_ ?_
    · refine State.logEvent_keeps rfl ?_
      refine State.satAdd_keeps (n := 18) (show unitOf 73752 = 18 from rfl) rfl rfl ?_
      refine State.raiseEv_keeps (n := 18) (show unitOf 73732 = 18 from rfl) rfl rfl ?_
      refine State.setRole_keeps rfl ?_
      exact Keeps.refl _ _
    · exact Keeps.refl _ _

theorem State.clearEvents_keeps {m : Nat} {s u : State} (hm : m ||| 134217732 = m) (h : Keeps m s u) :
    Keeps m s (State.clearEvents u) := by
  refine Keeps.next hm h ?_
  clear hm h
  unfold State.clearEvents
  refine Keeps.foldl (fun _ _ => ?_) ?_
  · refine State.setWord_keepsAny rfl ?_
    exact Keeps.refl _ _
  · exact Keeps.refl _ _

theorem State.commit_keeps {m : Nat} {s u : State} {e : Sys2Proof.Machine.EpochRec} (hm : m ||| 108038326274738389 = m) (h : Keeps m s u) :
    Keeps m s (State.commit u e) := by
  refine Keeps.next hm h ?_
  clear hm h
  unfold State.commit
  refine State.boundaryAnswer_keeps rfl ?_
  refine State.pauseEnd_keeps rfl ?_
  refine State.takeoverDone_keeps rfl ?_
  refine State.meetAll_keeps rfl ?_
  refine State.mirrorSend_keeps rfl ?_
  refine State.binEpoch_keeps rfl ?_
  refine State.irq_keeps rfl ?_
  refine State.when_keeps (fun _ => ?_) ?_
  · refine State.doorbell_keeps rfl ?_
    exact Keeps.refl _ _
  · refine State.avFrame_keeps rfl ?_
    refine State.sxtStaleMarks_keeps rfl ?_
    refine State.commitMarks_keeps rfl ?_
    refine State.setFld_keeps (n := 0) (show unitOf 128 = 0 from rfl) rfl rfl ?_
    refine State.exchange_keeps rfl ?_
    refine State.dspCommit_keeps rfl ?_
    refine State.clearEvents_keeps rfl ?_
    exact Keeps.refl _ _

theorem execEpochCommit_keeps {t : Nat} (u : State) : ∃ nxt, execEpochCommit t u = .next nxt ∧ Keeps 108038326274738423 u nxt := by
  refine ⟨_, rfl, ?_⟩
  try extract_lets -underBinder
  first | split | (dsimp +zetaDelta only; split)
  · refine Keeps.ite ?_ ?_
    · refine State.commit_keeps rfl ?_
      refine State.at_keeps rfl ?_
      exact Keeps.refl _ _
    · refine State.at_keeps rfl ?_
      exact Keeps.refl _ _
  · refine State.at_keeps rfl ?_
    exact Keeps.refl _ _

theorem State.passBoundary_keeps {m : Nat} {s u : State} (hm : m ||| 90340552592475733 = m) (h : Keeps m s u) :
    Keeps m s (State.passBoundary u) := by
  refine Keeps.next hm h ?_
  clear hm h
  unfold State.passBoundary
  refine Keeps.ite ?_ ?_
  · refine State.boundary_keeps rfl ?_
    exact Keeps.refl _ _
  · exact Keeps.refl _ _

theorem execStartUpComplete_keeps {t : Nat} (u : State) : ∃ nxt, execStartUpComplete t u = .next nxt ∧ Keeps 98222745277384567 u nxt := by
  refine ⟨_, rfl, ?_⟩
  try extract_lets -underBinder
  first | split | (dsimp +zetaDelta only; split)
  · refine Keeps.ite ?_ ?_
    · refine State.at_keeps rfl ?_
      exact Keeps.refl _ _
    · extract_lets -merge -useContext -underBinder y1 y2 y3 y4
      refine Keeps.next (t := y1) (Nat.or_self _) ?_ ?_
      · refine State.setFld_keeps (n := 0) (show unitOf 64 = 0 from rfl) rfl rfl ?_
        refine State.at_keeps rfl ?_
        exact Keeps.refl _ _
      · clear_value y1
        refine Keeps.next (t := y2) (Nat.or_self _) ?_ ?_
        · refine State.sxtctlWrite_keeps rfl ?_
          exact Keeps.refl _ _
        · clear_value y2
          refine Keeps.next (t := y4) (Nat.or_self _) ?_ ?_
          · refine State.setFld_keeps (n := 20) (show unitOf 81920 = 20 from rfl) rfl rfl ?_
            refine State.setFld_keeps (n := 15) (show unitOf 61440 = 15 from rfl) rfl rfl ?_
            refine State.setFld_keeps (n := 13) (show unitOf 53248 = 13 from rfl) rfl rfl ?_
            refine State.azmctlWrite_keeps rfl ?_
            exact Keeps.refl _ _
          · clear_value y4
            refine Keeps.ite ?_ ?_
            · refine State.roleStep_keeps rfl ?_
              exact Keeps.refl _ _
            · refine Keeps.ite ?_ ?_
              · exact Keeps.refl _ _
              · refine State.setRole_keeps rfl ?_
                exact Keeps.refl _ _
  · refine State.at_keeps rfl ?_
    exact Keeps.refl _ _

theorem execEpochBoundary_keeps {t : Nat} (u : State) : ∃ nxt, execEpochBoundary t u = .next nxt ∧ Keeps 90340552592475767 u nxt := by
  refine ⟨_, rfl, ?_⟩
  refine Keeps.ite ?_ ?_
  · refine State.boundary_keeps rfl ?_
    refine State.at_keeps rfl ?_
    exact Keeps.refl _ _
  · refine State.at_keeps rfl ?_
    exact Keeps.refl _ _

end Sys2Proof.Machine
end

