-- ==== Sys2Proof/Laws/KeepsService.lean ====
section
/-! SUPPORT. What each function of Machine/Service.lean can change. -/

namespace Sys2Proof.Machine

theorem State.modUpd_keeps {m : Nat} {s u : State} {f : Sys2Proof.Machine.UpdSt → Sys2Proof.Machine.UpdSt} (hm : m ||| 2048 = m) (h : Keeps m s u) :
    Keeps m s (State.modUpd u f) := by
  refine Keeps.next hm h ?_
  clear hm h
  unfold State.modUpd
  refine Keeps.mk_upd rfl ?_
  exact Keeps.refl _ _

theorem State.flashWrite_keeps {m : Nat} {s u : State} {a : Nat} {bs : List Nat} (hm : m ||| 2048 = m) (h : Keeps m s u) :
    Keeps m s (State.flashWrite u a bs) := by
  refine Keeps.next hm h ?_
  clear hm h
  unfold State.flashWrite
  refine State.modUpd_keeps rfl ?_
  exact Keeps.refl _ _

theorem State.writeRecord_keeps {m : Nat} {s u : State} {bank : Nat} {pend : Nat} (hm : m ||| 2048 = m) (h : Keeps m s u) :
    Keeps m s (State.writeRecord u bank pend) := by
  refine Keeps.next hm h ?_
  clear hm h
  unfold State.writeRecord
  refine State.flashWrite_keeps rfl ?_
  exact Keeps.refl _ _

theorem State.binReset_keeps {m : Nat} {s u : State} (hm : m ||| 281474976743428 = m) (h : Keeps m s u) :
    Keeps m s (State.binReset u) := by
  refine Keeps.next hm h ?_
  clear hm h
  unfold State.binReset
  refine State.setFld_keeps (n := 16) (show unitOf 65548 = 16 from rfl) rfl rfl ?_
  refine State.modLds_keeps rfl ?_
  exact Keeps.refl _ _

theorem State.showVersions_keeps {m : Nat} {s u : State} (hm : m ||| 4503599627370500 = m) (h : Keeps m s u) :
    Keeps m s (State.showVersions u) := by
  refine Keeps.next hm h ?_
  clear hm h
  unfold State.showVersions
  refine Keeps.foldl (fun _ _ => ?_) ?_
  · refine State.setWord_keeps (n := 20) (unit_UPD_VER _) rfl rfl ?_
    exact Keeps.refl _ _
  · exact Keeps.refl _ _

theorem State.pauseStart_keeps {m : Nat} {s u : State} (hm : m ||| 23450383997519940 = m) (h : Keeps m s u) :
    Keeps m s (State.pauseStart u) := by
  refine Keeps.next hm h ?_
  clear hm h
  unfold State.pauseStart
  refine State.outputsEval_keeps rfl ?_
  refine State.excCut_keeps rfl ?_
  refine State.binReset_keeps rfl ?_
  refine State.showVersions_keeps rfl ?_
  refine State.setFld_keeps (n := 20) (show unitOf 81924 = 20 from rfl) rfl rfl ?_
  refine State.setFld_keeps (n := 20) (show unitOf 81920 = 20 from rfl) rfl rfl ?_
  refine State.setFld_keeps (n := 20) (show unitOf 81920 = 20 from rfl) rfl rfl ?_
  refine State.modUpd_keeps rfl ?_
  exact Keeps.refl _ _

theorem State.rampCheck_keeps {m : Nat} {s u : State} (hm : m ||| 23450418390812868 = m) (h : Keeps m s u) :
    Keeps m s (State.rampCheck u) := by
  refine Keeps.next hm h ?_
  clear hm h
  unfold State.rampCheck
  refine Keeps.ite ?_ ?_
  · extract_lets -merge -useContext -underBinder y1 y2
    refine Keeps.next (t := y1) (Nat.or_self _) ?_ ?_
    · refine State.helmStop_keeps rfl ?_
      exact Keeps.refl _ _
    · clear_value y1
      refine Keeps.ite ?_ ?_
      · refine State.pauseStart_keeps rfl ?_
        refine State.modPilot_keeps rfl ?_
        exact Keeps.refl _ _
      · refine State.answerAll_keeps rfl ?_
        exact Keeps.refl _ _
  · exact Keeps.refl _ _

end Sys2Proof.Machine
end

