-- ==== Sys2Proof/Laws/KeepsHelmRun.lean ====
section
/-! SUPPORT. What each function of Machine/HelmRun.lean can change. -/

namespace Sys2Proof.Machine

theorem State.helmRunReq_keeps {m : Nat} {s u : State} (hm : m ||| 70368744194052 = m) (h : Keeps m s u) :
    Keeps m s (State.helmRunReq u) := by
  refine Keeps.next hm h ?_
  clear hm h
  unfold State.helmRunReq
  refine Keeps.ite ?_ ?_
  · exact Keeps.refl _ _
  · refine Keeps.ite ?_ ?_
    · refine State.setFld_keeps (n := 14) (show unitOf 57344 = 14 from rfl) rfl rfl ?_
      refine State.setFld_keeps (n := 14) (show unitOf 57344 = 14 from rfl) rfl rfl ?_
      refine State.modHlm_keeps rfl ?_
      exact Keeps.refl _ _
    · refine State.raiseEv_keeps (n := 14) (show unitOf 57348 = 14 from rfl) rfl rfl ?_
      refine State.setFld_keeps (n := 14) (show unitOf 57344 = 14 from rfl) rfl rfl ?_
      exact Keeps.refl _ _

theorem State.carrierAnswer_keeps {m : Nat} {s u : State} (hm : m ||| 70403137486980 = m) (h : Keeps m s u) :
    Keeps m s (State.carrierAnswer u) := by
  refine Keeps.next hm h ?_
  clear hm h
  unfold State.carrierAnswer
  refine Keeps.ite ?_ ?_
  · refine State.answerAll_keeps rfl ?_
    refine State.helmRunReq_keeps rfl ?_
    exact Keeps.refl _ _
  · exact Keeps.refl _ _

theorem State.helmSample_keeps {m : Nat} {s u : State} {x : Sys2Proof.HelmIn} (hm : m ||| 211106232811524 = m) (h : Keeps m s u) :
    Keeps m s (State.helmSample u x) := by
  refine Keeps.next hm h ?_
  clear hm h
  unfold State.helmSample
  extract_lets -merge -useContext -underBinder y1 y2 y3 y4 y5 y6
  refine Keeps.next (t := y2) (Nat.or_self _) ?_ ?_
  · refine State.takeSetpoints_keeps rfl ?_
    refine State.takeCoefs_keeps rfl ?_
    exact Keeps.refl _ _
  · clear_value y2
    refine State.channels_keeps rfl ?_
    refine Keeps.ite ?_ ?_
    · refine State.when_keeps (fun _ => ?_) ?_
      · refine State.azmClip_keeps rfl ?_
        exact Keeps.refl _ _
      · refine State.controlLaw_keeps rfl ?_
        refine State.refChain_keeps rfl ?_
        refine State.helmEntry_keeps rfl ?_
        exact Keeps.refl _ _
    · exact Keeps.refl _ _

theorem State.valleyWaits_keeps {m : Nat} {s u : State} (hm : m ||| 524288 = m) (h : Keeps m s u) :
    Keeps m s (State.valleyWaits u) := by
  refine Keeps.next hm h ?_
  clear hm h
  unfold State.valleyWaits
  refine Keeps.foldl (fun _ _ => ?_) ?_
  · refine Keeps.ite ?_ ?_
    · try extract_lets -underBinder
      first | split | (dsimp +zetaDelta only; split)
      · refine Keeps.ite ?_ ?_
        · exact Keeps.refl _ _
        · refine Keeps.ite ?_ ?_
          · refine State.meet_keeps rfl ?_
            exact Keeps.refl _ _
          · refine State.updWatch_keeps rfl ?_
            exact Keeps.refl _ _
      · exact Keeps.refl _ _
    · try extract_lets -underBinder
      first | split | (dsimp +zetaDelta only; split)
      · refine Keeps.ite ?_ ?_
        · refine State.tell_keeps rfl ?_
          exact Keeps.refl _ _
        · exact Keeps.refl _ _
      · exact Keeps.refl _ _
  · exact Keeps.refl _ _

theorem execCarrierValley_keeps {t : Nat} {x : Sys2Proof.HelmIn} (u : State) : ∃ nxt, execCarrierValley t x u = .next nxt ∧ Keeps 23591173059561702 u nxt := by
  refine ⟨_, rfl, ?_⟩
  refine Keeps.ite ?_ ?_
  · refine State.at_keeps rfl ?_
    exact Keeps.refl _ _
  · extract_lets -merge -useContext -underBinder y1 y2 y3 y4 y5 y6
    refine Keeps.next (t := y2) (Nat.or_self _) ?_ ?_
    · refine State.setWord_keeps (n := 2) (show unitOf 8272 = 2 from rfl) rfl rfl ?_
      refine State.at_keeps rfl ?_
      exact Keeps.refl _ _
    · clear_value y2
      refine Keeps.next (t := y4) (Nat.or_self _) ?_ ?_
      · refine Keeps.mk_time rfl ?_
        exact Keeps.refl _ _
      · clear_value y4
        refine Keeps.next (t := y5) (Nat.or_self _) ?_ ?_
        · refine State.modHlm_keeps rfl ?_
          exact Keeps.refl _ _
        · clear_value y5
          refine State.rampCheck_keeps rfl ?_
          refine State.carrierAnswer_keeps rfl ?_
          refine State.coefAnswer_keeps rfl ?_
          refine State.helmSample_keeps rfl ?_
          refine State.valleyWaits_keeps rfl ?_
          refine State.convert_keeps rfl ?_
          exact Keeps.refl _ _

theorem State.carrierStart_keeps {m : Nat} {s u : State} (hm : m ||| 17179885572 = m) (h : Keeps m s u) :
    Keeps m s (State.carrierStart u) := by
  refine Keeps.next hm h ?_
  clear hm h
  unfold State.carrierStart
  refine State.setFld_keeps (n := 2) (show unitOf 8228 = 2 from rfl) rfl rfl ?_
  refine State.modHlm_keeps rfl ?_
  exact Keeps.refl _ _

theorem State.carrierStop_keeps {m : Nat} {s u : State} (hm : m ||| 97796113307651269 = m) (h : Keeps m s u) :
    Keeps m s (State.carrierStop u) := by
  refine Keeps.next hm h ?_
  clear hm h
  unfold State.carrierStop
  refine Keeps.ite ?_ ?_
  · exact Keeps.refl _ _
  · extract_lets -merge -useContext -underBinder y1 y2 y3 y4 y5
    refine Keeps.next (t := y1) (Nat.or_self _) ?_ ?_
    · refine State.modHlm_keeps rfl ?_
      refine State.setFld_keeps (n := 2) (show unitOf 8228 = 2 from rfl) rfl rfl ?_
      exact Keeps.refl _ _
    · clear_value y1
      refine State.rampCheck_keeps rfl ?_
      refine State.answerAll_keeps rfl ?_
      refine State.raise_keeps (n := 2) (show unitOf 8228 = 2 from rfl) rfl rfl ?_
      refine State.meetAll_keeps rfl ?_
      refine State.loseTargets_keeps rfl ?_
      exact Keeps.refl _ _

theorem State.hlmctlWrite_keeps {m : Nat} {s u : State} {v : Sys2Proof.Word} (hm : m ||| 97796113307651269 = m) (h : Keeps m s u) :
    Keeps m s (State.hlmctlWrite u v) := by
  refine Keeps.next hm h ?_
  clear hm h
  unfold State.hlmctlWrite
  extract_lets -merge -useContext -underBinder y1 y2 y3 y4 y5 y6 y7
  refine Keeps.next (t := y3) (Nat.or_self _) ?_ ?_
  · refine State.setFld_keeps (n := 14) (show unitOf 57344 = 14 from rfl) rfl rfl ?_
    refine Keeps.ite ?_ ?_
    · refine State.raiseEv_keeps (n := 14) (show unitOf 57348 = 14 from rfl) rfl rfl ?_
      exact Keeps.refl _ _
    · refine Keeps.ite ?_ ?_
      · exact Keeps.refl _ _
      · refine State.spWrite_keeps rfl ?_
        exact Keeps.refl _ _
  · clear_value y3
    refine Keeps.next (t := y6) (Nat.or_self _) ?_ ?_
    · refine State.setFlag_keeps (n := 14) (show unitOf 57344 = 14 from rfl) rfl rfl ?_
      exact Keeps.refl _ _
    · clear_value y6
      refine Keeps.next (t := y7) (Nat.or_self _) ?_ ?_
      · refine Keeps.ite ?_ ?_
        · refine Keeps.ite ?_ ?_
          · exact Keeps.refl _ _
          · refine State.carrierStart_keeps rfl ?_
            exact Keeps.refl _ _
        · refine State.carrierStop_keeps rfl ?_
          refine State.helmStop_keeps rfl ?_
          exact Keeps.refl _ _
      · clear_value y7
        refine Keeps.ite ?_ ?_
        · refine State.helmRunReq_keeps rfl ?_
          exact Keeps.refl _ _
        · refine State.helmStop_keeps rfl ?_
          exact Keeps.refl _ _

theorem execHelmStop_keeps {t : Nat} {x1 : Sys2Proof.Master} {v : Sys2Proof.Word} (u : State) : ∃ nxt, execHelmStop t x1 v u = .next nxt ∧ Keeps 97796113307651303 u nxt := by
  refine ⟨_, rfl, ?_⟩
  refine State.hlmctlWrite_keeps rfl ?_
  refine State.at_keeps rfl ?_
  exact Keeps.refl _ _

theorem execCarrierEnable_keeps {t : Nat} {x1 : Sys2Proof.Master} {v : Sys2Proof.Word} (u : State) : ∃ nxt, execCarrierEnable t x1 v u = .next nxt ∧ Keeps 97796113307651303 u nxt := by
  refine ⟨_, rfl, ?_⟩
  refine State.hlmctlWrite_keeps rfl ?_
  refine State.at_keeps rfl ?_
  exact Keeps.refl _ _

theorem execClassSelect_keeps {t : Nat} {x1 : Sys2Proof.Master} {v : Sys2Proof.Word} (u : State) : ∃ nxt, execClassSelect t x1 v u = .next nxt ∧ Keeps 97796113307651303 u nxt := by
  refine ⟨_, rfl, ?_⟩
  refine State.hlmctlWrite_keeps rfl ?_
  refine State.at_keeps rfl ?_
  exact Keeps.refl _ _

theorem execCarrierStop_keeps {t : Nat} (u : State) : ∃ nxt, execCarrierStop t u = .next nxt ∧ Keeps 97796113307651303 u nxt := by
  refine ⟨_, rfl, ?_⟩
  refine State.carrierStop_keeps rfl ?_
  refine State.at_keeps rfl ?_
  exact Keeps.refl _ _

theorem execHelmRunRequest_keeps {t : Nat} {x1 : Sys2Proof.Master} {v : Sys2Proof.Word} (u : State) : ∃ nxt, execHelmRunRequest t x1 v u = .next nxt ∧ Keeps 97796113307651303 u nxt := by
  refine ⟨_, rfl, ?_⟩
  refine State.hlmctlWrite_keeps rfl ?_
  refine State.at_keeps rfl ?_
  exact Keeps.refl _ _

end Sys2Proof.Machine
end

