-- ==== Sys2Proof/Laws/KeepsHostRings.lean ====
section
/-! SUPPORT. What each function of Machine/HostRings.lean can change. -/

namespace Sys2Proof.Machine

theorem State.cmdpiWrite_keeps {m : Nat} {s u : State} {x1 : Nat} {v : Sys2Proof.Word} (hm : m ||| 34359738500 = m) (h : Keeps m s u) :
    Keeps m s (State.cmdpiWrite u x1 v) := by
  refine Keeps.next hm h ?_
  clear hm h
  unfold State.cmdpiWrite
  refine Keeps.ite ?_ ?_
  · refine State.hostErr_keeps (show unitOf 12288 = 3 from rfl) rfl ?_
    exact Keeps.refl _ _
  · refine Keeps.ite ?_ ?_
    · refine State.hostErr_keeps (show unitOf 12288 = 3 from rfl) rfl ?_
      exact Keeps.refl _ _
    · refine State.setRingIdx_keeps (show unitOf 12368 = 3 from rfl) rfl ?_
      exact Keeps.refl _ _

theorem execCmdpiWrite_keeps {t : Nat} {x1 : Sys2Proof.Master} {v : Sys2Proof.Word} (u : State) : ∃ nxt, execCmdpiWrite t x1 v u = .next nxt ∧ Keeps 34359738534 u nxt := by
  refine ⟨_, rfl, ?_⟩
  refine State.cmdpiWrite_keeps rfl ?_
  refine State.at_keeps rfl ?_
  exact Keeps.refl _ _

theorem State.rspciWrite_keeps {m : Nat} {s u : State} {x1 : Nat} {v : Sys2Proof.Word} (hm : m ||| 34359738500 = m) (h : Keeps m s u) :
    Keeps m s (State.rspciWrite u x1 v) := by
  refine Keeps.next hm h ?_
  clear hm h
  unfold State.rspciWrite
  refine Keeps.ite ?_ ?_
  · refine State.hostErr_keeps (show unitOf 12288 = 3 from rfl) rfl ?_
    exact Keeps.refl _ _
  · refine Keeps.ite ?_ ?_
    · refine State.hostErr_keeps (show unitOf 12288 = 3 from rfl) rfl ?_
      exact Keeps.refl _ _
    · refine State.setRingIdx_keeps (show unitOf 12380 = 3 from rfl) rfl ?_
      exact Keeps.refl _ _

theorem State.relayEntry_keeps {m : Nat} {s u : State} {n : Nat} {w : Sys2Proof.Word} (hm : m ||| 34359738500 = m) (h : Keeps m s u) :
    Keeps m s (State.relayEntry u n w) := by
  refine Keeps.next hm h ?_
  clear hm h
  unfold State.relayEntry
  refine State.rspPut_keeps rfl ?_
  exact Keeps.refl _ _

theorem State.d2hEmpty_keeps {m : Nat} {s u : State} {n : Nat} (hm : m ||| 34359738500 = m) (h : Keeps m s u) :
    Keeps m s (State.d2hEmpty u n) := by
  refine Keeps.next hm h ?_
  clear hm h
  unfold State.d2hEmpty
  refine Keeps.ite ?_ ?_
  · exact Keeps.refl _ _
  · extract_lets -merge -useContext -underBinder y1
    refine Keeps.next (t := y1) (Nat.or_self _) ?_ ?_
    · refine State.modHost_keeps rfl ?_
      refine State.setFld_keeps (n := 3) (show unitOf 12300 = 3 from rfl) rfl rfl ?_
      exact Keeps.refl _ _
    · clear_value y1
      try extract_lets -underBinder
      first | split | (dsimp +zetaDelta only; split)
      · refine State.d2hWrite_keeps rfl ?_
        refine State.modHost_keeps rfl ?_
        exact Keeps.refl _ _
      · exact Keeps.refl _ _

theorem State.d2hemptyWrite_keeps {m : Nat} {s u : State} {v : Sys2Proof.Word} (hm : m ||| 34359738500 = m) (h : Keeps m s u) :
    Keeps m s (State.d2hemptyWrite u v) := by
  refine Keeps.next hm h ?_
  clear hm h
  unfold State.d2hemptyWrite
  refine Keeps.foldl (fun _ _ => ?_) ?_
  · refine State.d2hEmpty_keeps rfl ?_
    exact Keeps.refl _ _
  · exact Keeps.refl _ _

theorem State.ringsReset_keeps {m : Nat} {s u : State} {x1 : Nat} {src : Sys2Proof.Issuer} (hm : m ||| 34393292804 = m) (h : Keeps m s u) :
    Keeps m s (State.ringsReset u x1 src) := by
  refine Keeps.next hm h ?_
  clear hm h
  unfold State.ringsReset
  refine State.modPilot_keeps rfl ?_
  refine State.setRingIdx_keeps (show unitOf 12380 = 3 from rfl) rfl ?_
  refine State.setRingIdx_keeps (show unitOf 12376 = 3 from rfl) rfl ?_
  refine State.setRingIdx_keeps (show unitOf 12372 = 3 from rfl) rfl ?_
  refine State.setRingIdx_keeps (show unitOf 12368 = 3 from rfl) rfl ?_
  exact Keeps.refl _ _

theorem State.pcieLoss_keeps {m : Nat} {s u : State} (hm : m ||| 47278203028 = m) (h : Keeps m s u) :
    Keeps m s (State.pcieLoss u) := by
  refine Keeps.next hm h ?_
  clear hm h
  unfold State.pcieLoss
  refine State.xStartAll_keeps rfl ?_
  refine State.ringsReset_keeps rfl ?_
  refine State.freeLocks_keeps rfl ?_
  refine State.modHost_keeps rfl ?_
  exact Keeps.refl _ _

theorem execPcieLinkLoss_keeps {t : Nat} (u : State) : ∃ nxt, execPcieLinkLoss t u = .next nxt ∧ Keeps 47278203062 u nxt := by
  refine ⟨_, rfl, ?_⟩
  refine State.pcieLoss_keeps rfl ?_
  refine State.at_keeps rfl ?_
  exact Keeps.refl _ _

theorem State.udpShow_keeps {m : Nat} {s u : State} (hm : m ||| 34359738372 = m) (h : Keeps m s u) :
    Keeps m s (State.udpShow u) := by
  refine Keeps.next hm h ?_
  clear hm h
  unfold State.udpShow
  refine State.setFld_keeps (n := 3) (show unitOf 12400 = 3 from rfl) rfl rfl ?_
  exact Keeps.refl _ _

theorem State.closeSession_keeps {m : Nat} {s u : State} {k : Nat} (hm : m ||| 34393292932 = m) (h : Keeps m s u) :
    Keeps m s (State.closeSession u k) := by
  refine Keeps.next hm h ?_
  clear hm h
  unfold State.closeSession
  refine State.udpShow_keeps rfl ?_
  refine State.modPilot_keeps rfl ?_
  refine State.setSession_keeps rfl ?_
  exact Keeps.refl _ _

theorem execUdpOpen_keeps {t : Nat} {port : Nat} {slot : Nat} {nc : List Nat} (u : State) : ∃ nxt, execUdpOpen t port slot nc u = .next nxt ∧ Keeps 163 u nxt := by
  refine ⟨_, rfl, ?_⟩
  try extract_lets -underBinder
  first | split | (dsimp +zetaDelta only; split)
  · refine State.at_keeps rfl ?_
    exact Keeps.refl _ _
  · refine Keeps.ite ?_ ?_
    · refine State.at_keeps rfl ?_
      exact Keeps.refl _ _
    · refine State.modHost_keeps rfl ?_
      refine State.setSession_keeps rfl ?_
      refine State.freshNat_keeps rfl ?_
      refine State.freshNat_keeps rfl ?_
      refine State.at_keeps rfl ?_
      exact Keeps.refl _ _

theorem execMbxStall_keeps {t : Nat} {n : Nat} (u : State) : ∃ nxt, execMbxStall t n u = .next nxt ∧ Keeps 34359738534 u nxt := by
  refine ⟨_, rfl, ?_⟩
  refine Keeps.ite ?_ ?_
  · refine Keeps.foldl (fun _ _ => ?_) ?_
    · refine State.relayEntry_keeps rfl ?_
      exact Keeps.refl _ _
    · refine State.modHost_keeps rfl ?_
      refine State.doorbell_keeps rfl ?_
      refine State.at_keeps rfl ?_
      exact Keeps.refl _ _
  · refine State.at_keeps rfl ?_
    exact Keeps.refl _ _

theorem State.mailTake_keeps {m : Nat} {s u : State} {n : Nat} (hm : m ||| 34393292932 = m) (h : Keeps m s u) :
    Keeps m s (State.mailTake u n) := by
  refine Keeps.next hm h ?_
  clear hm h
  unfold State.mailTake
  refine Keeps.ite ?_ ?_
  · refine State.h2dEmpty_keeps rfl ?_
    refine State.modPilot_keeps rfl ?_
    exact Keeps.refl _ _
  · exact Keeps.refl _ _

theorem State.dboutWrite_keeps {m : Nat} {s u : State} {v : Sys2Proof.Word} (hm : m ||| 34393292932 = m) (h : Keeps m s u) :
    Keeps m s (State.dboutWrite u v) := by
  refine Keeps.next hm h ?_
  clear hm h
  unfold State.dboutWrite
  refine Keeps.ite ?_ ?_
  · refine State.when_keeps (fun _ => ?_) ?_
    · refine Keeps.foldl (fun _ _ => ?_) ?_
      · refine State.mailTake_keeps rfl ?_
        exact Keeps.refl _ _
      · exact Keeps.refl _ _
    · refine State.modHost_keeps rfl ?_
      exact Keeps.refl _ _
  · refine State.modHost_keeps rfl ?_
    exact Keeps.refl _ _

theorem State.hspiReset_keeps {m : Nat} {s u : State} (hm : m ||| 47278202900 = m) (h : Keeps m s u) :
    Keeps m s (State.hspiReset u) := by
  refine Keeps.next hm h ?_
  clear hm h
  unfold State.hspiReset
  refine State.xStartAll_keeps rfl ?_
  refine State.setWord_keeps (n := 0) (show unitOf 96 = 0 from rfl) rfl rfl ?_
  refine State.ringsReset_keeps rfl ?_
  refine State.freeLocks_keeps rfl ?_
  exact Keeps.refl _ _

theorem State.udpDrop_keeps {m : Nat} {s u : State} (hm : m ||| 34359738500 = m) (h : Keeps m s u) :
    Keeps m s (State.udpDrop u) := by
  refine Keeps.next hm h ?_
  clear hm h
  unfold State.udpDrop
  refine State.satAdd_keeps (n := 3) (show unitOf 12400 = 3 from rfl) rfl rfl ?_
  refine State.hostErr_keeps (show unitOf 12288 = 3 from rfl) rfl ?_
  exact Keeps.refl _ _

theorem execUdpConfirm_keeps {t : Nat} {port : Nat} {sid : Nat} {mac : List Nat} (u : State) : ∃ nxt, execUdpConfirm t port sid mac u = .next nxt ∧ Keeps 34359738534 u nxt := by
  refine ⟨_, rfl, ?_⟩
  try extract_lets -underBinder
  first | split | (dsimp +zetaDelta only; split)
  · refine State.udpDrop_keeps rfl ?_
    refine State.at_keeps rfl ?_
    exact Keeps.refl _ _
  · refine Keeps.ite ?_ ?_
    · refine State.at_keeps rfl ?_
      exact Keeps.refl _ _
    · refine Keeps.ite ?_ ?_
      · refine State.udpShow_keeps rfl ?_
        refine State.setSession_keeps rfl ?_
        refine State.at_keeps rfl ?_
        exact Keeps.refl _ _
      · refine State.udpDrop_keeps rfl ?_
        refine State.at_keeps rfl ?_
        exact Keeps.refl _ _

theorem execDbinClear_keeps {t : Nat} {x1 : Sys2Proof.Master} {v : Sys2Proof.Word} (u : State) : ∃ nxt, execDbinClear t x1 v u = .next nxt ∧ Keeps 34359738406 u nxt := by
  refine ⟨_, rfl, ?_⟩
  refine State.setWord_keeps (n := 3) (show unitOf 12352 = 3 from rfl) rfl rfl ?_
  refine State.at_keeps rfl ?_
  exact Keeps.refl _ _

theorem execDboutWrite_keeps {t : Nat} {x1 : Sys2Proof.Master} {v : Sys2Proof.Word} (u : State) : ∃ nxt, execDboutWrite t x1 v u = .next nxt ∧ Keeps 34393292966 u nxt := by
  refine ⟨_, rfl, ?_⟩
  refine State.dboutWrite_keeps rfl ?_
  refine State.at_keeps rfl ?_
  exact Keeps.refl _ _

theorem execH2dMailboxWrite_keeps {t : Nat} {x1 : Sys2Proof.Master} {n : Nat} {v : Sys2Proof.Word} (u : State) : ∃ nxt, execH2dMailboxWrite t x1 n v u = .next nxt ∧ Keeps 34359738534 u nxt := by
  refine ⟨_, rfl, ?_⟩
  refine Keeps.ite ?_ ?_
  · refine State.h2dWrite_keeps rfl ?_
    refine State.at_keeps rfl ?_
    exact Keeps.refl _ _
  · refine State.at_keeps rfl ?_
    exact Keeps.refl _ _

theorem execD2hempty_keeps {t : Nat} {x1 : Sys2Proof.Master} {v : Sys2Proof.Word} (u : State) : ∃ nxt, execD2hempty t x1 v u = .next nxt ∧ Keeps 34359738534 u nxt := by
  refine ⟨_, rfl, ?_⟩
  refine State.d2hemptyWrite_keeps rfl ?_
  refine State.at_keeps rfl ?_
  exact Keeps.refl _ _

theorem execUdpDatagram_keeps {t : Nat} {port : Nat} {sid : Nat} {seq : Nat} {typ : Nat} {ws : List Sys2Proof.Word} {tag : List Nat} (u : State) : ∃ nxt, execUdpDatagram t port sid seq typ ws tag u = .next nxt ∧ Keeps 34359738534 u nxt := by
  refine ⟨_, rfl, ?_⟩
  try extract_lets -underBinder
  first | split | (dsimp +zetaDelta only; split)
  · refine State.udpDrop_keeps rfl ?_
    refine State.at_keeps rfl ?_
    exact Keeps.refl _ _
  · refine Keeps.ite ?_ ?_
    · refine State.udpDrop_keeps rfl ?_
      refine State.at_keeps rfl ?_
      exact Keeps.refl _ _
    · refine Keeps.ite ?_ ?_
      · refine State.respond_keeps rfl ?_
        refine State.setSession_keeps rfl ?_
        refine State.at_keeps rfl ?_
        exact Keeps.refl _ _
      · refine State.setSession_keeps rfl ?_
        refine State.at_keeps rfl ?_
        exact Keeps.refl _ _

theorem execRspciWrite_keeps {t : Nat} {x1 : Sys2Proof.Master} {v : Sys2Proof.Word} (u : State) : ∃ nxt, execRspciWrite t x1 v u = .next nxt ∧ Keeps 34359738534 u nxt := by
  refine ⟨_, rfl, ?_⟩
  refine State.rspciWrite_keeps rfl ?_
  refine State.at_keeps rfl ?_
  exact Keeps.refl _ _

theorem execUdpSessionTimeout_keeps {t : Nat} {k : Nat} (u : State) : ∃ nxt, execUdpSessionTimeout t k u = .next nxt ∧ Keeps 34393292966 u nxt := by
  refine ⟨_, rfl, ?_⟩
  refine Keeps.ite ?_ ?_
  · refine State.closeSession_keeps rfl ?_
    refine State.at_keeps rfl ?_
    exact Keeps.refl _ _
  · refine State.at_keeps rfl ?_
    exact Keeps.refl _ _

theorem State.postciWrite_keeps {m : Nat} {s u : State} {v : Sys2Proof.Word} (hm : m ||| 34359738500 = m) (h : Keeps m s u) :
    Keeps m s (State.postciWrite u v) := by
  refine Keeps.next hm h ?_
  clear hm h
  unfold State.postciWrite
  refine Keeps.ite ?_ ?_
  · refine State.hostErr_keeps (show unitOf 12288 = 3 from rfl) rfl ?_
    exact Keeps.refl _ _
  · refine State.setFld_keeps (n := 3) (show unitOf 12388 = 3 from rfl) rfl rfl ?_
    exact Keeps.refl _ _

theorem execPostciWrite_keeps {t : Nat} {x1 : Sys2Proof.Master} {v : Sys2Proof.Word} (u : State) : ∃ nxt, execPostciWrite t x1 v u = .next nxt ∧ Keeps 34359738534 u nxt := by
  refine ⟨_, rfl, ?_⟩
  refine State.postciWrite_keeps rfl ?_
  refine State.at_keeps rfl ?_
  exact Keeps.refl _ _

end Sys2Proof.Machine
end

