-- ==== Sys2Proof/Laws/KeepsLog.lean ====
section
/-! SUPPORT. What each function of Machine/Log.lean can change. -/

namespace Sys2Proof.Machine

theorem State.modWear_keeps {m : Nat} {s u : State} {f : Sys2Proof.Machine.WearSt → Sys2Proof.Machine.WearSt} (hm : m ||| 4096 = m) (h : Keeps m s u) :
    Keeps m s (State.modWear u f) := by
  refine Keeps.next hm h ?_
  clear hm h
  unfold State.modWear
  refine Keeps.mk_wear rfl ?_
  exact Keeps.refl _ _

theorem State.unitSet_keeps {m : Nat} {s u : State} {i : Nat} {x2 : Nat} (hm : m ||| 4096 = m) (h : Keeps m s u) :
    Keeps m s (State.unitSet u i x2) := by
  refine Keeps.next hm h ?_
  clear hm h
  unfold State.unitSet
  refine State.modWear_keeps rfl ?_
  exact Keeps.refl _ _

theorem State.modLog_keeps {m : Nat} {s u : State} {f : Sys2Proof.Machine.LogSt → Sys2Proof.Machine.LogSt} (hm : m ||| 64 = m) (h : Keeps m s u) :
    Keeps m s (State.modLog u f) := by
  refine Keeps.next hm h ?_
  clear hm h
  unfold State.modLog
  refine Keeps.mk_log rfl ?_
  exact Keeps.refl _ _

theorem State.scrubRow_keeps {m : Nat} {s u : State} {f : Sys2Proof.EccFinding} (hm : m ||| 4096 = m) (h : Keeps m s u) :
    Keeps m s (State.scrubRow u f) := by
  refine Keeps.next hm h ?_
  clear hm h
  unfold State.scrubRow
  extract_lets -merge -useContext -underBinder y1 y2 y3 y4
  refine Keeps.next (t := y2) (Nat.or_self _) ?_ ?_
  · refine State.wearAdd_keeps rfl ?_
    refine State.wearAdd_keeps rfl ?_
    exact Keeps.refl _ _
  · clear_value y2
    refine Keeps.next (t := y4) (Nat.or_self _) ?_ ?_
    · refine State.modWear_keeps rfl ?_
      exact Keeps.refl _ _
    · clear_value y4
      refine Keeps.ite ?_ ?_
      · refine State.modWear_keeps rfl ?_
        exact Keeps.refl _ _
      · exact Keeps.refl _ _

theorem State.wearFlush_keeps {m : Nat} {s u : State} {ok : Bool} (hm : m ||| 36028797018968068 = m) (h : Keeps m s u) :
    Keeps m s (State.wearFlush u ok) := by
  refine Keeps.next hm h ?_
  clear hm h
  unfold State.wearFlush
  refine Keeps.ite ?_ ?_
  · extract_lets -merge -useContext -underBinder y1 y2 y3
    refine Keeps.next (t := y2) (Nat.or_self _) ?_ ?_
    · refine State.wearAdd_keeps rfl ?_
      exact Keeps.refl _ _
    · clear_value y2
      refine State.setWord_keeps (n := 23) (show unitOf 94224 = 23 from rfl) rfl rfl ?_
      refine State.modWear_keeps rfl ?_
      exact Keeps.refl _ _
  · refine State.raiseEv_keeps (n := 23) (show unitOf 94208 = 23 from rfl) rfl rfl ?_
    refine State.modWear_keeps rfl ?_
    exact Keeps.refl _ _

theorem State.wearHistory_keeps {m : Nat} {s u : State} {kind : Nat} {a : Nat} {b : Nat} (hm : m ||| 4096 = m) (h : Keeps m s u) :
    Keeps m s (State.wearHistory u kind a b) := by
  refine Keeps.next hm h ?_
  clear hm h
  unfold State.wearHistory
  refine State.modWear_keeps rfl ?_
  refine State.modWear_keeps rfl ?_
  refine State.modWear_keeps rfl ?_
  refine State.modWear_keeps rfl ?_
  refine State.modWear_keeps rfl ?_
  exact Keeps.refl _ _

theorem State.memRepair_keeps {m : Nat} {s u : State} {x1 : Nat} {row : Nat} (hm : m ||| 54043195528450116 = m) (h : Keeps m s u) :
    Keeps m s (State.memRepair u x1 row) := by
  refine Keeps.next hm h ?_
  clear hm h
  unfold State.memRepair
  refine Keeps.ite ?_ ?_
  · exact Keeps.refl _ _
  · refine State.when_keeps (fun _ => ?_) ?_
    · refine State.setHeld_keeps (n := 23) (show unitOf 94208 = 23 from rfl) rfl rfl ?_
      exact Keeps.refl _ _
    · refine State.wearFlush_keeps rfl ?_
      refine State.raiseEv_keeps (n := 23) (show unitOf 94208 = 23 from rfl) rfl rfl ?_
      refine State.wearHistory_keeps rfl ?_
      refine State.logEvent_keeps rfl ?_
      refine State.wearAdd_keeps rfl ?_
      exact Keeps.refl _ _

theorem State.repairSched_keeps {m : Nat} {s u : State} (hm : m ||| 54043195528450116 = m) (h : Keeps m s u) :
    Keeps m s (State.repairSched u) := by
  refine Keeps.next hm h ?_
  clear hm h
  unfold State.repairSched
  refine State.modWear_keeps rfl ?_
  refine Keeps.foldl (fun _ _ => ?_) ?_
  · refine State.memRepair_keeps rfl ?_
    exact Keeps.refl _ _
  · exact Keeps.refl _ _

theorem State.logNew_keeps {m : Nat} {s u : State} {e : Sys2Proof.Machine.LogEv} (hm : m ||| 18014398509486148 = m) (h : Keeps m s u) :
    Keeps m s (State.logNew u e) := by
  refine Keeps.next hm h ?_
  clear hm h
  unfold State.logNew
  refine State.when_keeps (fun _ => ?_) ?_
  · refine State.raiseEv_keeps (n := 22) (show unitOf 90112 = 22 from rfl) rfl rfl ?_
    exact Keeps.refl _ _
  · refine State.wearAdd_keeps rfl ?_
    refine State.wearAdd_keeps rfl ?_
    refine State.modLog_keeps rfl ?_
    exact Keeps.refl _ _

theorem State.logWrite_keeps {m : Nat} {s u : State} {e : Sys2Proof.Machine.LogEv} (hm : m ||| 18014398509486148 = m) (h : Keeps m s u) :
    Keeps m s (State.logWrite u e) := by
  refine Keeps.next hm h ?_
  clear hm h
  unfold State.logWrite
  try extract_lets -underBinder
  first | split | (dsimp +zetaDelta only; split)
  · refine State.wearAdd_keeps rfl ?_
    refine State.modLog_keeps rfl ?_
    exact Keeps.refl _ _
  · refine State.logNew_keeps rfl ?_
    exact Keeps.refl _ _

theorem State.logDrain_keeps {m : Nat} {s u : State} {n : Nat} (hm : m ||| 18014398509486148 = m) (h : Keeps m s u) : Keeps m s (u.logDrain n) := by
  refine Keeps.next hm h ?_
  clear hm h
  induction n generalizing u with
  | zero => exact Keeps.refl _ _
  | succ n ih =>
    unfold State.logDrain
    split
    · exact Keeps.next rfl (State.logWrite_keeps rfl (State.modLog_keeps rfl (Keeps.refl _ _))) ih
    · exact Keeps.refl _ _

theorem execLogEvent_keeps {t : Nat} (u : State) : ∃ nxt, execLogEvent t u = .next nxt ∧ Keeps 18014398509486182 u nxt := by
  refine ⟨_, rfl, ?_⟩
  refine Keeps.ite ?_ ?_
  · refine State.at_keeps rfl ?_
    exact Keeps.refl _ _
  · extract_lets -merge -useContext -underBinder y1
    refine Keeps.next (t := y1) (Nat.or_self _) ?_ ?_
    · refine State.logDrain_keeps rfl ?_
      refine State.at_keeps rfl ?_
      exact Keeps.refl _ _
    · clear_value y1
      refine Keeps.ite ?_ ?_
      · refine State.logEvent_keeps rfl ?_
        refine State.modLog_keeps rfl ?_
        exact Keeps.refl _ _
      · exact Keeps.refl _ _

theorem State.unitFault_keeps {m : Nat} {s u : State} {i : Nat} (hm : m ||| 4096 = m) (h : Keeps m s u) :
    Keeps m s (State.unitFault u i) := by
  refine Keeps.next hm h ?_
  clear hm h
  unfold State.unitFault
  refine State.modWear_keeps rfl ?_
  exact Keeps.refl _ _

theorem execEccScrub_keeps {t : Nat} {found : List Sys2Proof.EccFinding} (u : State) : ∃ nxt, execEccScrub t found u = .next nxt ∧ Keeps 4130 u nxt := by
  refine ⟨_, rfl, ?_⟩
  refine Keeps.foldl (fun _ _ => ?_) ?_
  · refine State.scrubRow_keeps rfl ?_
    exact Keeps.refl _ _
  · refine State.at_keeps rfl ?_
    exact Keeps.refl _ _

theorem State.wearDataRead_keeps {m : Nat} {s u : State} {x1 : Nat} (hm : m ||| 36028797018963972 = m) (h : Keeps m s u) :
    Keeps m s (State.wearDataRead u x1).2 := by
  refine Keeps.next hm h ?_
  clear hm h
  unfold State.wearDataRead
  refine Keeps.pair2 ?_
  refine State.setWord_keeps (n := 23) (unitOf_masterKey (show unitOf 94212 = 23 from rfl)) rfl rfl ?_
  exact Keeps.refl _ _

theorem execWearDataRead_keeps {t : Nat} {x1 : Sys2Proof.Master} (u : State) : ∃ nxt, execWearDataRead t x1 u = .next nxt ∧ Keeps 36028797018964014 u nxt := by
  refine ⟨_, rfl, ?_⟩
  refine State.answer_keeps rfl ?_
  refine State.wearDataRead_keeps rfl ?_
  refine State.at_keeps rfl ?_
  exact Keeps.refl _ _

theorem State.rdidxWrite_keeps {m : Nat} {s u : State} {x1 : Nat} {v : Sys2Proof.Word} (hm : m ||| 18014398509481988 = m) (h : Keeps m s u) :
    Keeps m s (State.rdidxWrite u x1 v) := by
  refine Keeps.next hm h ?_
  clear hm h
  unfold State.rdidxWrite
  refine State.setWord_keeps (n := 22) (unitOf_masterKey (show unitOf 90144 = 22 from rfl)) rfl rfl ?_
  refine Keeps.foldl (fun _ _ => ?_) ?_
  · try extract_lets -underBinder
    first | split | (dsimp +zetaDelta only; split)
    · refine State.setWord_keeps (n := 22) (unitOf_masterKey (unit_LOG_RDATA _)) rfl rfl ?_
      exact Keeps.refl _ _
  · exact Keeps.refl _ _

theorem execLogRdidxWrite_keeps {t : Nat} {x1 : Sys2Proof.Master} {v : Sys2Proof.Word} (u : State) : ∃ nxt, execLogRdidxWrite t x1 v u = .next nxt ∧ Keeps 18014398509482022 u nxt := by
  refine ⟨_, rfl, ?_⟩
  refine State.rdidxWrite_keeps rfl ?_
  refine State.at_keeps rfl ?_
  exact Keeps.refl _ _

theorem State.wearHours_keeps {m : Nat} {s u : State} (hm : m ||| 36028797018968068 = m) (h : Keeps m s u) :
    Keeps m s (State.wearHours u) := by
  refine Keeps.next hm h ?_
  clear hm h
  unfold State.wearHours
  refine State.setWord_keeps (n := 23) (show unitOf 94220 = 23 from rfl) rfl rfl ?_
  refine State.modWear_keeps rfl ?_
  refine State.wearAdd_keeps rfl ?_
  exact Keeps.refl _ _

theorem execLedgerFlush_keeps {t : Nat} {ok : Bool} (u : State) : ∃ nxt, execLedgerFlush t ok u = .next nxt ∧ Keeps 36028797018968102 u nxt := by
  refine ⟨_, rfl, ?_⟩
  refine Keeps.ite ?_ ?_
  · refine State.wearFlush_keeps rfl ?_
    refine State.wearHours_keeps rfl ?_
    refine State.at_keeps rfl ?_
    exact Keeps.refl _ _
  · refine State.at_keeps rfl ?_
    exact Keeps.refl _ _

end Sys2Proof.Machine
end

