-- ==== Sys2Proof/Laws/KeepsRdn.lean ====
section
/-! SUPPORT. What each function of Machine/Rdn.lean can change. -/

namespace Sys2Proof.Machine

theorem State.mirrorChecks_keeps {m : Nat} {s u : State} {x : Sys2Proof.Mirror} (hm : m ||| 1125899906842628 = m) (h : Keeps m s u) :
    Keeps m s (State.mirrorChecks u x).2 := by
  refine Keeps.next hm h ?_
  clear hm h
  unfold State.mirrorChecks
  refine Keeps.pair2 ?_
  refine State.when_keeps (fun _ => ?_) ?_
  · refine State.raiseEv_keeps (n := 18) (show unitOf 73732 = 18 from rfl) rfl rfl ?_
    exact Keeps.refl _ _
  · refine State.when_keeps (fun _ => ?_) ?_
    · refine State.raiseEv_keeps (n := 18) (show unitOf 73732 = 18 from rfl) rfl rfl ?_
      exact Keeps.refl _ _
    · refine State.when_keeps (fun _ => ?_) ?_
      · refine State.raiseEv_keeps (n := 18) (show unitOf 73732 = 18 from rfl) rfl rfl ?_
        exact Keeps.refl _ _
      · exact Keeps.refl _ _

theorem State.mirrorReadings_keeps {m : Nat} {s u : State} (hm : m ||| 512 = m) (h : Keeps m s u) :
    Keeps m s (State.mirrorReadings u) := by
  refine Keeps.next hm h ?_
  clear hm h
  unfold State.mirrorReadings
  extract_lets -merge -useContext -underBinder y1 y2 y3 y4
  refine Keeps.next (t := y4) (Nat.or_self _) ?_ ?_
  · refine Keeps.mk_acq rfl ?_
    exact Keeps.refl _ _
  · clear_value y4
    refine Keeps.foldl (fun _ _ => ?_) ?_
    · refine State.modPosAcc_keeps rfl ?_
      exact Keeps.refl _ _
    · exact Keeps.refl _ _

theorem State.mirrorSpace_keeps {m : Nat} {s u : State} {x : Sys2Proof.Mirror} (hm : m ||| 140737490452500 = m) (h : Keeps m s u) :
    Keeps m s (State.mirrorSpace u x) := by
  refine Keeps.next hm h ?_
  clear hm h
  unfold State.mirrorSpace
  refine Keeps.mk_ep rfl ?_
  refine State.dspCommit_keeps rfl ?_
  exact Keeps.refl _ _

theorem State.mirrorContexts_keeps {m : Nat} {s u : State} {x : Sys2Proof.Mirror} (hm : m ||| 4398046642180 = m) (h : Keeps m s u) :
    Keeps m s (State.mirrorContexts u x) := by
  refine Keeps.next hm h ?_
  clear hm h
  unfold State.mirrorContexts
  extract_lets -merge -useContext -underBinder y1 y2 y3
  refine Keeps.next (t := y2) (Nat.or_self _) ?_ ?_
  · refine State.modSxt_keeps rfl ?_
    exact Keeps.refl _ _
  · clear_value y2
    refine State.sxtStatus_keeps rfl ?_
    refine Keeps.foldl (fun _ _ => ?_) ?_
    · refine State.modSide_keeps rfl ?_
      exact Keeps.refl _ _
    · exact Keeps.refl _ _

theorem State.mirrorApply_keeps {m : Nat} {s u : State} {us : Nat} {x : Sys2Proof.Mirror} (hm : m ||| 1377962967057428 = m) (h : Keeps m s u) :
    Keeps m s (State.mirrorApply u us x) := by
  refine Keeps.next hm h ?_
  clear hm h
  unfold State.mirrorApply
  refine State.modRdn_keeps rfl ?_
  refine State.setFld_keeps (n := 18) (show unitOf 73764 = 18 from rfl) rfl rfl ?_
  refine State.setWord_keeps (n := 18) (show unitOf 73736 = 18 from rfl) rfl rfl ?_
  refine State.setWord_keeps (n := 10) (show unitOf 41028 = 10 from rfl) rfl rfl ?_
  refine State.setWord_keeps (n := 14) (show unitOf 57388 = 14 from rfl) rfl rfl ?_
  refine State.setWord_keeps (n := 14) (show unitOf 57380 = 14 from rfl) rfl rfl ?_
  refine State.setWord_keeps (n := 14) (show unitOf 57376 = 14 from rfl) rfl rfl ?_
  refine State.setFld_keeps (n := 14) (show unitOf 57344 = 14 from rfl) rfl rfl ?_
  refine State.modHlm_keeps rfl ?_
  refine Keeps.mk_bal rfl ?_
  refine Keeps.foldl (fun _ _ => ?_) ?_
  · refine State.setWord_keeps (n := 13) (unit_BAL_RW _) rfl rfl ?_
    exact Keeps.refl _ _
  · refine State.setHeld_keeps (n := 6) (show unitOf 24580 = 6 from rfl) rfl rfl ?_
    refine Keeps.foldl (fun _ _ => ?_) ?_
    · refine State.setFld_keeps (n := 6) (unit_ACQ_OWCNF _) rfl rfl ?_
      exact Keeps.refl _ _
    · refine Keeps.foldl (fun _ _ => ?_) ?_
      · refine State.setFld_keeps (n := 6) (unit_ACQ_OWSUS _) rfl rfl ?_
        exact Keeps.refl _ _
      · refine State.setWord_keeps (n := 8) (show unitOf 32836 = 8 from rfl) rfl rfl ?_
        refine State.setWord_keeps (n := 8) (show unitOf 32832 = 8 from rfl) rfl rfl ?_
        refine Keeps.mk_alm rfl ?_
        refine State.mirrorSpace_keeps rfl ?_
        refine State.mirrorContexts_keeps rfl ?_
        exact Keeps.refl _ _

theorem execMirrorArrival_keeps {t : Nat} {us : Nat} {x : Sys2Proof.Mirror} (u : State) : ∃ nxt, execMirrorArrival t us x u = .next nxt ∧ Keeps 24740420402202358 u nxt := by
  refine ⟨_, rfl, ?_⟩
  refine Keeps.ite ?_ ?_
  · extract_lets -merge -useContext -underBinder y1 y2 y3 y4
    refine Keeps.next (t := y3) (Nat.or_self _) ?_ ?_
    · refine State.mirrorChecks_keeps rfl ?_
      refine State.mirrorReadings_keeps rfl ?_
      refine State.mirrorApply_keeps rfl ?_
      refine State.at_keeps rfl ?_
      exact Keeps.refl _ _
    · clear_value y3
      refine State.binEpoch_keeps rfl ?_
      refine State.binSnapshot_keeps rfl ?_
      refine Keeps.ite ?_ ?_
      · refine State.setHeld_keeps (n := 18) (show unitOf 73732 = 18 from rfl) rfl rfl ?_
        refine State.setRole_keeps rfl ?_
        exact Keeps.refl _ _
      · refine Keeps.ite ?_ ?_
        · refine State.setHeld_keeps (n := 18) (show unitOf 73732 = 18 from rfl) rfl rfl ?_
          refine State.setRole_keeps rfl ?_
          exact Keeps.refl _ _
        · exact Keeps.refl _ _
  · refine State.at_keeps rfl ?_
    exact Keeps.refl _ _

theorem State.setTwinRole_keeps {m : Nat} {s u : State} {r : Nat} (hm : m ||| 1125934266581124 = m) (h : Keeps m s u) :
    Keeps m s (State.setTwinRole u r) := by
  refine Keeps.next hm h ?_
  clear hm h
  unfold State.setTwinRole
  refine Keeps.ite ?_ ?_
  · exact Keeps.refl _ _
  · refine State.doorbell_keeps rfl ?_
    refine State.setFld_keeps (n := 18) (show unitOf 73732 = 18 from rfl) rfl rfl ?_
    exact Keeps.refl _ _

theorem State.setLanes_keeps {m : Nat} {s u : State} {l : Nat} (hm : m ||| 1125934283358340 = m) (h : Keeps m s u) :
    Keeps m s (State.setLanes u l) := by
  refine Keeps.next hm h ?_
  clear hm h
  unfold State.setLanes
  refine State.when_keeps (fun _ => ?_) ?_
  · refine State.modRdn_keeps rfl ?_
    refine State.setTwinRole_keeps rfl ?_
    exact Keeps.refl _ _
  · refine State.setHeld_keeps (n := 18) (show unitOf 73732 = 18 from rfl) rfl rfl ?_
    refine State.setHeld_keeps (n := 18) (show unitOf 73732 = 18 from rfl) rfl rfl ?_
    refine State.modRdn_keeps rfl ?_
    exact Keeps.refl _ _

theorem execPeerLaneUp_keeps {t : Nat} {lane : Nat} (u : State) : ∃ nxt, execPeerLaneUp t lane u = .next nxt ∧ Keeps 1125934283358374 u nxt := by
  refine ⟨_, rfl, ?_⟩
  refine Keeps.ite ?_ ?_
  · refine State.setLanes_keeps rfl ?_
    refine State.at_keeps rfl ?_
    exact Keeps.refl _ _
  · refine State.at_keeps rfl ?_
    exact Keeps.refl _ _

theorem execMirrorTimeout_keeps {t : Nat} (u : State) : ∃ nxt, execMirrorTimeout t u = .next nxt ∧ Keeps 93574010115147639 u nxt := by
  refine ⟨_, rfl, ?_⟩
  refine Keeps.ite ?_ ?_
  · refine State.roleStep_keeps rfl ?_
    refine State.at_keeps rfl ?_
    exact Keeps.refl _ _
  · refine State.at_keeps rfl ?_
    exact Keeps.refl _ _

theorem execPeerStatusReceive_keeps {t : Nat} {x : Sys2Proof.PeerStatus} (u : State) : ∃ nxt, execPeerStatusReceive t x u = .next nxt ∧ Keeps 20055126467199206 u nxt := by
  refine ⟨_, rfl, ?_⟩
  refine Keeps.ite ?_ ?_
  · refine State.at_keeps rfl ?_
    exact Keeps.refl _ _
  · extract_lets -merge -useContext -underBinder y1 y2 y3 y4
    refine Keeps.next (t := y3) (Nat.or_self _) ?_ ?_
    · refine State.setWord_keeps (n := 18) (show unitOf 73748 = 18 from rfl) rfl rfl ?_
      refine State.setWord_keeps (n := 18) (show unitOf 73744 = 18 from rfl) rfl rfl ?_
      refine State.modRdn_keeps rfl ?_
      refine State.setWord_keeps (n := 18) (show unitOf 73760 = 18 from rfl) rfl rfl ?_
      refine State.modLds_keeps rfl ?_
      refine State.setTwinRole_keeps rfl ?_
      refine State.at_keeps rfl ?_
      exact Keeps.refl _ _
    · clear_value y3
      refine Keeps.next (t := y4) (Nat.or_self _) ?_ ?_
      · try extract_lets -underBinder
        first | split | (dsimp +zetaDelta only; split)
        · refine State.setWord_keeps (n := 18) (show unitOf 73740 = 18 from rfl) rfl rfl ?_
          exact Keeps.refl _ _
        · exact Keeps.refl _ _
      · clear_value y4
        refine Keeps.ite ?_ ?_
        · refine State.outreqSet_keeps rfl ?_
          exact Keeps.refl _ _
        · refine State.outputsEval_keeps rfl ?_
          exact Keeps.refl _ _

theorem State.rdnctlWrite_keeps {m : Nat} {s u : State} {x1 : Nat} {v : Sys2Proof.Word} (hm : m ||| 93574010115180373 = m) (h : Keeps m s u) :
    Keeps m s (State.rdnctlWrite u x1 v) := by
  refine Keeps.next hm h ?_
  clear hm h
  unfold State.rdnctlWrite
  extract_lets -merge -useContext -underBinder y1 y2 y3 y4
  refine Keeps.next (t := y2) (Nat.or_self _) ?_ ?_
  · refine State.setFld_keeps (n := 18) (show unitOf 73728 = 18 from rfl) rfl rfl ?_
    refine State.when_keeps (fun _ => ?_) ?_
    · refine State.modLds_keeps rfl ?_
      exact Keeps.refl _ _
    · exact Keeps.refl _ _
  · clear_value y2
    refine Keeps.ite ?_ ?_
    · exact Keeps.refl _ _
    · refine Keeps.ite ?_ ?_
      · refine State.raiseEv_keeps (n := 18) (show unitOf 73732 = 18 from rfl) rfl rfl ?_
        exact Keeps.refl _ _
      · refine Keeps.ite ?_ ?_
        · refine State.modLds_keeps rfl ?_
          refine State.setFlag_keeps (n := 18) (show unitOf 73728 = 18 from rfl) rfl rfl ?_
          exact Keeps.refl _ _
        · refine Keeps.ite ?_ ?_
          · refine State.roleStep_keeps rfl ?_
            refine State.setRole_keeps rfl ?_
            refine State.when_keeps (fun _ => ?_) ?_
            · refine State.roleLeave_keeps rfl ?_
              exact Keeps.refl _ _
            · refine State.modLds_keeps rfl ?_
              refine State.setFlag_keeps (n := 18) (show unitOf 73728 = 18 from rfl) rfl rfl ?_
              exact Keeps.refl _ _
          · refine State.setRole_keeps rfl ?_
            refine State.modLds_keeps rfl ?_
            refine State.setFlag_keeps (n := 18) (show unitOf 73728 = 18 from rfl) rfl rfl ?_
            exact Keeps.refl _ _

theorem execGrantFall_keeps {t : Nat} (u : State) : ∃ nxt, execGrantFall t u = .next nxt ∧ Keeps 94418435045312375 u nxt := by
  refine ⟨_, rfl, ?_⟩
  refine State.outputsEval_keeps rfl ?_
  refine State.roleStep_keeps rfl ?_
  refine State.drmStep_keeps rfl ?_
  refine State.setFld_keeps (n := 18) (show unitOf 73732 = 18 from rfl) rfl rfl ?_
  refine State.at_keeps rfl ?_
  exact Keeps.refl _ _

theorem execGrantRise_keeps {t : Nat} {edge : Nat} (u : State) : ∃ nxt, execGrantRise t edge u = .next nxt ∧ Keeps 94418435045312375 u nxt := by
  refine ⟨_, rfl, ?_⟩
  refine State.outputsEval_keeps rfl ?_
  refine State.roleStep_keeps rfl ?_
  refine State.modRdn_keeps rfl ?_
  refine State.setFld_keeps (n := 18) (show unitOf 73732 = 18 from rfl) rfl rfl ?_
  refine State.at_keeps rfl ?_
  exact Keeps.refl _ _

theorem execPeerLaneDown_keeps {t : Nat} {lane : Nat} (u : State) : ∃ nxt, execPeerLaneDown t lane u = .next nxt ∧ Keeps 1125934283358374 u nxt := by
  refine ⟨_, rfl, ?_⟩
  refine Keeps.ite ?_ ?_
  · refine State.setLanes_keeps rfl ?_
    refine State.at_keeps rfl ?_
    exact Keeps.refl _ _
  · refine State.at_keeps rfl ?_
    exact Keeps.refl _ _

theorem execTwinWrite_keeps {t : Nat} {x1 : Sys2Proof.Master} {v : Sys2Proof.Word} (u : State) : ∃ nxt, execTwinWrite t x1 v u = .next nxt ∧ Keeps 93574010115180407 u nxt := by
  refine ⟨_, rfl, ?_⟩
  refine State.rdnctlWrite_keeps rfl ?_
  refine State.at_keeps rfl ?_
  exact Keeps.refl _ _

theorem execAutorunHelmStart_keeps {t : Nat} (u : State) : ∃ nxt, execAutorunHelmStart t u = .next nxt ∧ Keeps 70368760971302 u nxt := by
  refine ⟨_, rfl, ?_⟩
  refine Keeps.ite ?_ ?_
  · refine State.helmRunReq_keeps rfl ?_
    refine State.modRdn_keeps rfl ?_
    refine State.at_keeps rfl ?_
    exact Keeps.refl _ _
  · refine State.at_keeps rfl ?_
    exact Keeps.refl _ _

end Sys2Proof.Machine
end

