-- ==== Sys2Proof/Laws/KeepsSnapshot.lean ====
section
/-! SUPPORT. What each function of Machine/Snapshot.lean can change. -/

namespace Sys2Proof.Machine

theorem State.applyTopology_keeps {m : Nat} {s u : State} (hm : m ||| 57449482945028 = m) (h : Keeps m s u) :
    Keeps m s (State.applyTopology u) := by
  refine Keeps.next hm h ?_
  clear hm h
  unfold State.applyTopology
  refine State.azmAllocate_keeps rfl ?_
  refine State.sxtAllocate_keeps rfl ?_
  refine State.rwInit_keeps rfl ?_
  refine State.applySlots_keeps rfl ?_
  exact Keeps.refl _ _

theorem State.snapConsumers_keeps {m : Nat} {s u : State} {target : Nat} {seq : Nat} {bt : Bool} (hm : m ||| 95547594823877845 = m) (h : Keeps m s u) :
    Keeps m s (State.snapConsumers u target seq bt) := by
  refine Keeps.next hm h ?_
  clear hm h
  unfold State.snapConsumers
  refine State.meetAll_keeps rfl ?_
  refine State.binSnapshot_keeps rfl ?_
  refine State.azmSample_keeps rfl ?_
  refine State.sxtClose_keeps rfl ?_
  refine State.btLearn_keeps rfl ?_
  exact Keeps.refl _ _

theorem execSnapshotClose_keeps {t : Nat} {seq : Nat} (u : State) : ∃ nxt, execSnapshotClose t seq u = .next nxt ∧ Keeps 95547938454820855 u nxt := by
  refine ⟨_, rfl, ?_⟩
  try extract_lets -underBinder
  first | split | (dsimp +zetaDelta only; split)
  · refine Keeps.ite ?_ ?_
    · refine State.when_keeps (fun _ => ?_) ?_
      · refine State.laneAnswer_keeps rfl ?_
        exact Keeps.refl _ _
      · refine State.snapConsumers_keeps rfl ?_
        refine State.acqClose_keeps rfl ?_
        refine State.at_keeps rfl ?_
        exact Keeps.refl _ _
    · refine State.at_keeps rfl ?_
      exact Keeps.refl _ _
  · refine State.at_keeps rfl ?_
    exact Keeps.refl _ _

theorem State.acqctlWrite_keeps {m : Nat} {s u : State} {v : Sys2Proof.Word} (hm : m ||| 57449482945028 = m) (h : Keeps m s u) :
    Keeps m s (State.acqctlWrite u v) := by
  refine Keeps.next hm h ?_
  clear hm h
  unfold State.acqctlWrite
  extract_lets -merge -useContext -underBinder y1
  refine Keeps.next (t := y1) (Nat.or_self _) ?_ ?_
  · refine State.setFld_keeps (n := 6) (show unitOf 24576 = 6 from rfl) rfl rfl ?_
    exact Keeps.refl _ _
  · clear_value y1
    refine Keeps.ite ?_ ?_
    · exact Keeps.refl _ _
    · refine Keeps.ite ?_ ?_
      · refine State.applyTopology_keeps rfl ?_
        exact Keeps.refl _ _
      · refine State.raiseEv_keeps (n := 6) (show unitOf 24580 = 6 from rfl) rfl rfl ?_
        exact Keeps.refl _ _

theorem execAcqApply_keeps {t : Nat} {x1 : Sys2Proof.Master} {v : Sys2Proof.Word} (u : State) : ∃ nxt, execAcqApply t x1 v u = .next nxt ∧ Keeps 57449482945062 u nxt := by
  refine ⟨_, rfl, ?_⟩
  refine State.acqctlWrite_keeps rfl ?_
  refine State.at_keeps rfl ?_
  exact Keeps.refl _ _

end Sys2Proof.Machine
end

