-- ==== Sys2Proof/Laws/KeepsTime.lean ====
section
/-! SUPPORT. What each function of Machine/Time.lean can change. -/

namespace Sys2Proof.Machine

theorem State.rtcLost_keeps {m : Nat} {s u : State} (hm : m ||| 17179869220 = m) (h : Keeps m s u) :
    Keeps m s (State.rtcLost u) := by
  refine Keeps.next hm h ?_
  clear hm h
  unfold State.rtcLost
  refine State.setFld_keeps (n := 2) (show unitOf 8228 = 2 from rfl) rfl rfl ?_
  refine State.raise_keeps (n := 2) (show unitOf 8228 = 2 from rfl) rfl rfl ?_
  refine Keeps.mk_time rfl ?_
  exact Keeps.refl _ _

theorem execVbatLow_keeps {t : Nat} (u : State) : ∃ nxt, execVbatLow t u = .next nxt ∧ Keeps 17179869222 u nxt := by
  refine ⟨_, rfl, ?_⟩
  refine State.rtcLost_keeps rfl ?_
  refine State.at_keeps rfl ?_
  exact Keeps.refl _ _

theorem State.setServo_keeps {m : Nat} {s u : State} {v : Sys2Proof.Machine.Servo} (hm : m ||| 17179869220 = m) (h : Keeps m s u) :
    Keeps m s (State.setServo u v) := by
  refine Keeps.next hm h ?_
  clear hm h
  unfold State.setServo
  refine State.setFlag_keeps (n := 2) (show unitOf 8264 = 2 from rfl) rfl rfl ?_
  refine State.setFlag_keeps (n := 2) (show unitOf 8228 = 2 from rfl) rfl rfl ?_
  refine State.setFlag_keeps (n := 2) (show unitOf 8228 = 2 from rfl) rfl rfl ?_
  refine State.setFld_keeps (n := 2) (show unitOf 8228 = 2 from rfl) rfl rfl ?_
  refine Keeps.mk_time rfl ?_
  exact Keeps.refl _ _

theorem State.enterLocked_keeps {m : Nat} {s u : State} (hm : m ||| 17179869220 = m) (h : Keeps m s u) :
    Keeps m s (State.enterLocked u) := by
  refine Keeps.next hm h ?_
  clear hm h
  unfold State.enterLocked
  refine State.setFld_keeps (n := 2) (show unitOf 8228 = 2 from rfl) rfl rfl ?_
  refine State.raise_keeps (n := 2) (show unitOf 8228 = 2 from rfl) rfl rfl ?_
  refine State.setServo_keeps rfl ?_
  refine Keeps.mk_time rfl ?_
  exact Keeps.refl _ _

theorem State.countWithin_keeps {m : Nat} {s u : State} {ofs : Int} (hm : m ||| 17179869220 = m) (h : Keeps m s u) :
    Keeps m s (State.countWithin u ofs) := by
  refine Keeps.next hm h ?_
  clear hm h
  unfold State.countWithin
  extract_lets -merge -useContext -underBinder y1 y2 y3
  refine Keeps.next (t := y3) (Nat.or_self _) ?_ ?_
  · refine Keeps.mk_time rfl ?_
    exact Keeps.refl _ _
  · clear_value y3
    refine Keeps.ite ?_ ?_
    · refine State.enterLocked_keeps rfl ?_
      exact Keeps.refl _ _
    · exact Keeps.refl _ _

theorem State.setLatch_keeps {m : Nat} {s u : State} {x1 : Nat} {off : Nat} {v : Sys2Proof.Word} (hm : m ||| 32 = m) (h : Keeps m s u) :
    Keeps m s (State.setLatch u x1 off v) := by
  refine Keeps.next hm h ?_
  clear hm h
  unfold State.setLatch
  refine Keeps.mk_time rfl ?_
  exact Keeps.refl _ _

theorem execRtcRewrite_keeps {t : Nat} {trim : Int} (u : State) : ∃ nxt, execRtcRewrite t trim u = .next nxt ∧ Keeps 17179869222 u nxt := by
  refine ⟨_, rfl, ?_⟩
  refine Keeps.ite ?_ ?_
  · refine State.setFldS_keeps (n := 2) (show unitOf 8264 = 2 from rfl) rfl rfl ?_
    refine Keeps.mk_time rfl ?_
    refine State.at_keeps rfl ?_
    exact Keeps.refl _ _
  · refine State.at_keeps rfl ?_
    exact Keeps.refl _ _

theorem State.discipline_keeps {m : Nat} {s u : State} {ofs : Int} (hm : m ||| 17179869220 = m) (h : Keeps m s u) :
    Keeps m s (State.discipline u ofs) := by
  refine Keeps.next hm h ?_
  clear hm h
  unfold State.discipline
  refine State.setFld_keeps (n := 2) (show unitOf 8228 = 2 from rfl) rfl rfl ?_
  refine State.setWord_keeps (n := 2) (show unitOf 8232 = 2 from rfl) rfl rfl ?_
  refine State.setWord_keeps (n := 2) (show unitOf 8212 = 2 from rfl) rfl rfl ?_
  refine Keeps.mk_time rfl ?_
  exact Keeps.refl _ _

theorem State.ptpTake_keeps {m : Nat} {s u : State} {msg : Sys2Proof.PtpMsg} {f : Sys2Proof.Machine.State → Sys2Proof.Machine.State} (hf : ∀ t, Keeps m t (f t)) (hm : m ||| 17179869188 = m) (h : Keeps m s u) :
    Keeps m s (State.ptpTake u msg f) := by
  unfold State.ptpTake
  refine Keeps.ite ?_ ?_
  · refine Keeps.next (Nat.or_self m) ?_ (hf _)
    exact h
  · refine State.satAdd_keeps (n := 2) (show unitOf 8228 = 2 from rfl) (unitOn_sub hm rfl) (lor_sub hm rfl) ?_
    exact h

theorem State.enterHoldover_keeps {m : Nat} {s u : State} (hm : m ||| 17179869220 = m) (h : Keeps m s u) :
    Keeps m s (State.enterHoldover u) := by
  refine Keeps.next hm h ?_
  clear hm h
  unfold State.enterHoldover
  refine State.raise_keeps (n := 2) (show unitOf 8228 = 2 from rfl) rfl rfl ?_
  refine State.setServo_keeps rfl ?_
  refine Keeps.mk_time rfl ?_
  exact Keeps.refl _ _

theorem State.enterFree_keeps {m : Nat} {s u : State} (hm : m ||| 17179869220 = m) (h : Keeps m s u) :
    Keeps m s (State.enterFree u) := by
  refine Keeps.next hm h ?_
  clear hm h
  unfold State.enterFree
  refine State.setServo_keeps rfl ?_
  refine Keeps.mk_time rfl ?_
  exact Keeps.refl _ _

theorem State.startAcquire_keeps {m : Nat} {s u : State} (hm : m ||| 17179869220 = m) (h : Keeps m s u) :
    Keeps m s (State.startAcquire u) := by
  refine Keeps.next hm h ?_
  clear hm h
  unfold State.startAcquire
  refine State.setServo_keeps rfl ?_
  refine Keeps.mk_time rfl ?_
  exact Keeps.refl _ _

theorem State.reselect_keeps {m : Nat} {s u : State} (hm : m ||| 17179869220 = m) (h : Keeps m s u) :
    Keeps m s (State.reselect u) := by
  refine Keeps.next hm h ?_
  clear hm h
  unfold State.reselect
  extract_lets -merge -useContext -underBinder y1 y2 y3 y4 y5 y6
  refine Keeps.next (t := y5) (Nat.or_self _) ?_ ?_
  · refine State.setFld_keeps (n := 2) (show unitOf 8228 = 2 from rfl) rfl rfl ?_
    refine Keeps.mk_time rfl ?_
    exact Keeps.refl _ _
  · clear_value y5
    refine Keeps.next (t := y6) (Nat.or_self _) ?_ ?_
    · refine Keeps.ite ?_ ?_
      · try extract_lets -underBinder
        first | split | (dsimp +zetaDelta only; split)
        · refine Keeps.ite ?_ ?_
          · refine State.enterHoldover_keeps rfl ?_
            exact Keeps.refl _ _
          · refine State.enterFree_keeps rfl ?_
            exact Keeps.refl _ _
        · refine State.enterHoldover_keeps rfl ?_
          exact Keeps.refl _ _
        · exact Keeps.refl _ _
      · exact Keeps.refl _ _
    · clear_value y6
      refine Keeps.ite ?_ ?_
      · try extract_lets -underBinder
        first | split | (dsimp +zetaDelta only; split)
        · refine State.startAcquire_keeps rfl ?_
          exact Keeps.refl _ _
        · refine State.startAcquire_keeps rfl ?_
          exact Keeps.refl _ _
        · exact Keeps.refl _ _
      · exact Keeps.refl _ _

theorem execPtpAnnounceReceive_keeps {t : Nat} {a : Sys2Proof.Announce} (u : State) : ∃ nxt, execPtpAnnounceReceive t a u = .next nxt ∧ Keeps 17179869222 u nxt := by
  refine ⟨_, rfl, ?_⟩
  refine State.ptpTake_keeps (fun _ => ?_) rfl ?_
  · extract_lets -merge -useContext -underBinder y1 y2
    refine Keeps.next (t := y2) (Nat.or_self _) ?_ ?_
    · refine State.reselect_keeps rfl ?_
      refine Keeps.mk_time rfl ?_
      exact Keeps.refl _ _
    · clear_value y2
      try extract_lets -underBinder
      first | split | (dsimp +zetaDelta only; split)
      · refine Keeps.ite ?_ ?_
        · refine State.setFld_keeps (n := 2) (show unitOf 8264 = 2 from rfl) rfl rfl ?_
          exact Keeps.refl _ _
        · exact Keeps.refl _ _
      · exact Keeps.refl _ _
  · refine State.at_keeps rfl ?_
    exact Keeps.refl _ _

theorem execMasterLost_keeps {t : Nat} (u : State) : ∃ nxt, execMasterLost t u = .next nxt ∧ Keeps 17179869222 u nxt := by
  refine ⟨_, rfl, ?_⟩
  refine State.reselect_keeps rfl ?_
  refine Keeps.mk_time rfl ?_
  refine State.at_keeps rfl ?_
  exact Keeps.refl _ _

theorem State.ptpctlWrite_keeps {m : Nat} {s u : State} {v : Sys2Proof.Word} (hm : m ||| 17179869220 = m) (h : Keeps m s u) :
    Keeps m s (State.ptpctlWrite u v) := by
  refine Keeps.next hm h ?_
  clear hm h
  unfold State.ptpctlWrite
  extract_lets -merge -useContext -underBinder y1 y2 y3
  refine Keeps.next (t := y1) (Nat.or_self _) ?_ ?_
  · refine State.setWord_keeps (n := 2) (show unitOf 8224 = 2 from rfl) rfl rfl ?_
    exact Keeps.refl _ _
  · clear_value y1
    refine Keeps.next (t := y3) (Nat.or_self _) ?_ ?_
    · refine Keeps.mk_time rfl ?_
      exact Keeps.refl _ _
    · clear_value y3
      refine Keeps.ite ?_ ?_
      · refine State.reselect_keeps rfl ?_
        exact Keeps.refl _ _
      · refine State.enterFree_keeps rfl ?_
        exact Keeps.refl _ _

theorem execPtpDisable_keeps {t : Nat} {x1 : Sys2Proof.Master} (u : State) : ∃ nxt, execPtpDisable t x1 u = .next nxt ∧ Keeps 17179869222 u nxt := by
  refine ⟨_, rfl, ?_⟩
  refine State.ptpctlWrite_keeps rfl ?_
  refine State.at_keeps rfl ?_
  exact Keeps.refl _ _

theorem State.rateWrite_keeps {m : Nat} {s u : State} {v : Sys2Proof.Word} (hm : m ||| 17179869188 = m) (h : Keeps m s u) :
    Keeps m s (State.rateWrite u v) := by
  refine Keeps.next hm h ?_
  clear hm h
  unfold State.rateWrite
  refine Keeps.ite ?_ ?_
  · refine State.setWord_keeps (n := 2) (show unitOf 8212 = 2 from rfl) rfl rfl ?_
    exact Keeps.refl _ _
  · exact Keeps.refl _ _

theorem State.stepMeridian_keeps {m : Nat} {s u : State} {port : Nat} {m2 : Int} (hm : m ||| 18014415689351268 = m) (h : Keeps m s u) :
    Keeps m s (State.stepMeridian u port m2) := by
  refine Keeps.next hm h ?_
  clear hm h
  unfold State.stepMeridian
  refine State.logEvent_keeps rfl ?_
  refine State.raise_keeps (n := 2) (show unitOf 8228 = 2 from rfl) rfl rfl ?_
  refine Keeps.mk_time rfl ?_
  exact Keeps.refl _ _

theorem execPtpMessageReceive_keeps {t : Nat} {msg : Sys2Proof.PtpMsg} (u : State) : ∃ nxt, execPtpMessageReceive t msg u = .next nxt ∧ Keeps 17179869222 u nxt := by
  refine ⟨_, rfl, ?_⟩
  refine State.ptpTake_keeps (fun _ => ?_) rfl ?_
  · exact Keeps.refl _ _
  · refine State.at_keeps rfl ?_
    exact Keeps.refl _ _

theorem State.countOver_keeps {m : Nat} {s u : State} {ofs : Int} (hm : m ||| 17179869220 = m) (h : Keeps m s u) :
    Keeps m s (State.countOver u ofs) := by
  refine Keeps.next hm h ?_
  clear hm h
  unfold State.countOver
  extract_lets -merge -useContext -underBinder y1 y2 y3
  refine Keeps.next (t := y3) (Nat.or_self _) ?_ ?_
  · refine Keeps.mk_time rfl ?_
    exact Keeps.refl _ _
  · clear_value y3
    refine Keeps.ite ?_ ?_
    · refine State.startAcquire_keeps rfl ?_
      exact Keeps.refl _ _
    · exact Keeps.refl _ _

theorem execLeapSecond_keeps {t : Nat} {ins : Bool} (u : State) : ∃ nxt, execLeapSecond t ins u = .next nxt ∧ Keeps 17179869222 u nxt := by
  refine ⟨_, rfl, ?_⟩
  refine Keeps.ite ?_ ?_
  · refine Keeps.ite ?_ ?_
    · refine State.setFld_keeps (n := 2) (show unitOf 8264 = 2 from rfl) rfl rfl ?_
      refine Keeps.mk_time rfl ?_
      refine State.at_keeps rfl ?_
      exact Keeps.refl _ _
    · refine State.at_keeps rfl ?_
      exact Keeps.refl _ _
  · refine Keeps.ite ?_ ?_
    · refine State.setFld_keeps (n := 2) (show unitOf 8264 = 2 from rfl) rfl rfl ?_
      refine Keeps.mk_time rfl ?_
      refine State.at_keeps rfl ?_
      exact Keeps.refl _ _
    · refine State.at_keeps rfl ?_
      exact Keeps.refl _ _

theorem execPdelayReqReceive_keeps {t : Nat} {msg : Sys2Proof.PtpMsg} {seq : Nat} (u : State) : ∃ nxt, execPdelayReqReceive t msg seq u = .next nxt ∧ Keeps 17179869222 u nxt := by
  refine ⟨_, rfl, ?_⟩
  refine State.ptpTake_keeps (fun _ => ?_) rfl ?_
  · refine Keeps.ite ?_ ?_
    · refine Keeps.mk_time rfl ?_
      exact Keeps.refl _ _
    · exact Keeps.refl _ _
  · refine State.at_keeps rfl ?_
    exact Keeps.refl _ _

theorem execHoldExceeded_keeps {t : Nat} (u : State) : ∃ nxt, execHoldExceeded t u = .next nxt ∧ Keeps 17179869222 u nxt := by
  refine ⟨_, rfl, ?_⟩
  refine Keeps.ite ?_ ?_
  · refine State.raise_keeps (n := 2) (show unitOf 8228 = 2 from rfl) rfl rfl ?_
    refine State.at_keeps rfl ?_
    exact Keeps.refl _ _
  · refine State.at_keeps rfl ?_
    exact Keeps.refl _ _

end Sys2Proof.Machine
end

