-- ==== Sys2Proof/Laws/KeepsTile.lean ====
section
/-! SUPPORT. What each function of Machine/Tile.lean can change. -/

namespace Sys2Proof.Machine

theorem State.setTile_keeps {m : Nat} {s u : State} {k : Nat} {x : Sys2Proof.Machine.Tile} (hm : m ||| 256 = m) (h : Keeps m s u) :
    Keeps m s (State.setTile u k x) := by
  refine Keeps.next hm h ?_
  clear hm h
  unfold State.setTile
  refine Keeps.mk_trv rfl ?_
  exact Keeps.refl _ _

theorem State.onTile_keeps {m : Nat} {s u : State} {k : Nat} {f : Sys2Proof.Machine.Tile → Sys2Proof.Machine.Tile} (hm : m ||| 256 = m) (h : Keeps m s u) :
    Keeps m s (State.onTile u k f) := by
  refine Keeps.next hm h ?_
  clear hm h
  unfold State.onTile
  refine Keeps.ite ?_ ?_
  · refine State.setTile_keeps rfl ?_
    exact Keeps.refl _ _
  · exact Keeps.refl _ _

theorem execTileResponseWindowEnd_keeps {t : Nat} {k : Nat} (u : State) : ∃ nxt, execTileResponseWindowEnd t k u = .next nxt ∧ Keeps 290 u nxt := by
  refine ⟨_, rfl, ?_⟩
  refine State.onTile_keeps rfl ?_
  refine State.at_keeps rfl ?_
  exact Keeps.refl _ _

theorem State.tileReceive_keeps {m : Nat} {s u : State} {k : Nat} {side : Nat} {crcOk : Bool} {residence : Nat} {td : Int} {f : Sys2Proof.Frame} (hm : m ||| 256 = m) (h : Keeps m s u) :
    Keeps m s (State.tileReceive u k side crcOk residence td f) := by
  refine Keeps.next hm h ?_
  clear hm h
  unfold State.tileReceive
  refine Keeps.ite ?_ ?_
  · exact Keeps.refl _ _
  · refine Keeps.ite ?_ ?_
    · refine State.setTile_keeps rfl ?_
      exact Keeps.refl _ _
    · refine Keeps.ite ?_ ?_
      · refine State.setTile_keeps rfl ?_
        exact Keeps.refl _ _
      · try extract_lets -underBinder
        first | split | (dsimp +zetaDelta only; split)
        · refine State.setTile_keeps rfl ?_
          exact Keeps.refl _ _
        · refine Keeps.ite ?_ ?_
          · refine State.setTile_keeps rfl ?_
            exact Keeps.refl _ _
          · refine State.setTile_keeps rfl ?_
            exact Keeps.refl _ _

theorem execTileFrameRelay_keeps {t : Nat} {k : Nat} {side : Nat} {crcOk : Bool} {f : Sys2Proof.Frame} (u : State) : ∃ nxt, execTileFrameRelay t k side crcOk f u = .next nxt ∧ Keeps 290 u nxt := by
  refine ⟨_, rfl, ?_⟩
  refine State.tileReceive_keeps rfl ?_
  refine State.at_keeps rfl ?_
  exact Keeps.refl _ _

theorem execAlertLinkdown_keeps {t : Nat} {k : Nat} {side : Nat} {f : Sys2Proof.Frame} (u : State) : ∃ nxt, execAlertLinkdown t k side f u = .next nxt ∧ Keeps 290 u nxt := by
  refine ⟨_, rfl, ?_⟩
  refine State.onTile_keeps rfl ?_
  refine State.at_keeps rfl ?_
  exact Keeps.refl _ _

theorem execLoadendFrame_keeps {t : Nat} {k : Nat} {side : Nat} {f : Sys2Proof.Frame} (u : State) : ∃ nxt, execLoadendFrame t k side f u = .next nxt ∧ Keeps 290 u nxt := by
  refine ⟨_, rfl, ?_⟩
  refine State.tileReceive_keeps rfl ?_
  refine State.at_keeps rfl ?_
  exact Keeps.refl _ _

theorem execTsyncFrame_keeps {t : Nat} {k : Nat} {side : Nat} {f : Sys2Proof.Frame} (u : State) : ∃ nxt, execTsyncFrame t k side f u = .next nxt ∧ Keeps 290 u nxt := by
  refine ⟨_, rfl, ?_⟩
  refine State.tileReceive_keeps rfl ?_
  refine State.at_keeps rfl ?_
  exact Keeps.refl _ _

theorem execTileConversion_keeps {t : Nat} {k : Nat} {c : Sys2Proof.Conversion} (u : State) : ∃ nxt, execTileConversion t k c u = .next nxt ∧ Keeps 290 u nxt := by
  refine ⟨_, rfl, ?_⟩
  refine State.onTile_keeps rfl ?_
  refine State.at_keeps rfl ?_
  exact Keeps.refl _ _

theorem execDieTemperatureRead_keeps {t : Nat} {k : Nat} {side : Nat} {td : Int} {f : Sys2Proof.Frame} (u : State) : ∃ nxt, execDieTemperatureRead t k side td f u = .next nxt ∧ Keeps 290 u nxt := by
  refine ⟨_, rfl, ?_⟩
  refine State.tileReceive_keeps rfl ?_
  refine State.at_keeps rfl ?_
  exact Keeps.refl _ _

theorem execTileDieHot_keeps {t : Nat} {k : Nat} (u : State) : ∃ nxt, execTileDieHot t k u = .next nxt ∧ Keeps 290 u nxt := by
  refine ⟨_, rfl, ?_⟩
  refine State.onTile_keeps rfl ?_
  refine State.at_keeps rfl ?_
  exact Keeps.refl _ _

theorem execTileSnaprSlot_keeps {t : Nat} {k : Nat} (u : State) : ∃ nxt, execTileSnaprSlot t k u = .next nxt ∧ Keeps 290 u nxt := by
  refine ⟨_, rfl, ?_⟩
  refine State.onTile_keeps rfl ?_
  refine State.at_keeps rfl ?_
  exact Keeps.refl _ _

theorem execTileBalsetExpiry_keeps {t : Nat} {k : Nat} (u : State) : ∃ nxt, execTileBalsetExpiry t k u = .next nxt ∧ Keeps 290 u nxt := by
  refine ⟨_, rfl, ?_⟩
  refine State.onTile_keeps rfl ?_
  refine State.at_keeps rfl ?_
  exact Keeps.refl _ _

theorem execTileComparatorRelease_keeps {t : Nat} {k : Nat} (u : State) : ∃ nxt, execTileComparatorRelease t k u = .next nxt ∧ Keeps 290 u nxt := by
  refine ⟨_, rfl, ?_⟩
  refine State.onTile_keeps rfl ?_
  refine State.at_keeps rfl ?_
  exact Keeps.refl _ _

theorem execTileComparatorTrip_keeps {t : Nat} {k : Nat} (u : State) : ∃ nxt, execTileComparatorTrip t k u = .next nxt ∧ Keeps 290 u nxt := by
  refine ⟨_, rfl, ?_⟩
  refine State.onTile_keeps rfl ?_
  refine State.at_keeps rfl ?_
  exact Keeps.refl _ _

theorem execTilePowerUp_keeps {t : Nat} {k : Nat} {ncell : Nat} (u : State) : ∃ nxt, execTilePowerUp t k ncell u = .next nxt ∧ Keeps 290 u nxt := by
  refine ⟨_, rfl, ?_⟩
  refine State.setTile_keeps rfl ?_
  refine State.at_keeps rfl ?_
  exact Keeps.refl _ _

theorem execArmstat_keeps {t : Nat} {k : Nat} {side : Nat} {f : Sys2Proof.Frame} (u : State) : ∃ nxt, execArmstat t k side f u = .next nxt ∧ Keeps 290 u nxt := by
  refine ⟨_, rfl, ?_⟩
  refine State.tileReceive_keeps rfl ?_
  refine State.at_keeps rfl ?_
  exact Keeps.refl _ _

theorem execProfileFrame_keeps {t : Nat} {k : Nat} {side : Nat} {f : Sys2Proof.Frame} (u : State) : ∃ nxt, execProfileFrame t k side f u = .next nxt ∧ Keeps 290 u nxt := by
  refine ⟨_, rfl, ?_⟩
  refine State.tileReceive_keeps rfl ?_
  refine State.at_keeps rfl ?_
  exact Keeps.refl _ _

theorem execOpenWireSinks_keeps {t : Nat} {k : Nat} {side : Nat} {f : Sys2Proof.Frame} (u : State) : ∃ nxt, execOpenWireSinks t k side f u = .next nxt ∧ Keeps 290 u nxt := by
  refine ⟨_, rfl, ?_⟩
  refine State.tileReceive_keeps rfl ?_
  refine State.at_keeps rfl ?_
  exact Keeps.refl _ _

theorem execEchoFrame_keeps {t : Nat} {k : Nat} {side : Nat} {residence : Nat} {f : Sys2Proof.Frame} (u : State) : ∃ nxt, execEchoFrame t k side residence f u = .next nxt ∧ Keeps 290 u nxt := by
  refine ⟨_, rfl, ?_⟩
  refine State.tileReceive_keeps rfl ?_
  refine State.at_keeps rfl ?_
  exact Keeps.refl _ _

theorem execSampleFrame_keeps {t : Nat} {k : Nat} {side : Nat} {f : Sys2Proof.Frame} (u : State) : ∃ nxt, execSampleFrame t k side f u = .next nxt ∧ Keeps 290 u nxt := by
  refine ⟨_, rfl, ?_⟩
  refine State.tileReceive_keeps rfl ?_
  refine State.at_keeps rfl ?_
  exact Keeps.refl _ _

theorem execTileSinkOn_keeps {t : Nat} {k : Nat} (u : State) : ∃ nxt, execTileSinkOn t k u = .next nxt ∧ Keeps 290 u nxt := by
  refine ⟨_, rfl, ?_⟩
  refine State.onTile_keeps rfl ?_
  refine State.at_keeps rfl ?_
  exact Keeps.refl _ _

theorem execLoadFrame_keeps {t : Nat} {k : Nat} {side : Nat} {f : Sys2Proof.Frame} (u : State) : ∃ nxt, execLoadFrame t k side f u = .next nxt ∧ Keeps 290 u nxt := by
  refine ⟨_, rfl, ?_⟩
  refine State.tileReceive_keeps rfl ?_
  refine State.at_keeps rfl ?_
  exact Keeps.refl _ _

theorem execBalset_keeps {t : Nat} {k : Nat} {side : Nat} {f : Sys2Proof.Frame} (u : State) : ∃ nxt, execBalset t k side f u = .next nxt ∧ Keeps 290 u nxt := by
  refine ⟨_, rfl, ?_⟩
  refine State.tileReceive_keeps rfl ?_
  refine State.at_keeps rfl ?_
  exact Keeps.refl _ _

theorem execEnumFrame_keeps {t : Nat} {k : Nat} {side : Nat} {f : Sys2Proof.Frame} (u : State) : ∃ nxt, execEnumFrame t k side f u = .next nxt ∧ Keeps 290 u nxt := by
  refine ⟨_, rfl, ?_⟩
  refine State.tileReceive_keeps rfl ?_
  refine State.at_keeps rfl ?_
  exact Keeps.refl _ _

end Sys2Proof.Machine
end

