-- ==== Sys2Proof/Laws/KeepsTraverse.lean ====
section
/-! SUPPORT. What each function of Machine/Traverse.lean can change. -/

namespace Sys2Proof.Machine

theorem State.clearEchos_keeps {m : Nat} {s u : State} {r : Nat} (hm : m ||| 256 = m) (h : Keeps m s u) :
    Keeps m s (State.clearEchos u r) := by
  refine Keeps.next hm h ?_
  clear hm h
  unfold State.clearEchos
  refine Keeps.foldl (fun _ _ => ?_) ?_
  · refine State.modKnown_keeps rfl ?_
    exact Keeps.refl _ _
  · exact Keeps.refl _ _

theorem State.sendEnum_keeps {m : Nat} {s u : State} {r : Nat} {e : Nat} (hm : m ||| 68719476996 = m) (h : Keeps m s u) :
    Keeps m s (State.sendEnum u r e) := by
  refine Keeps.next hm h ?_
  clear hm h
  unfold State.sendEnum
  refine State.portSendBody_keeps rfl ?_
  exact Keeps.refl _ _

theorem State.startTraining_keeps {m : Nat} {s u : State} {r : Nat} {from1 : Option Nat} (hm : m ||| 68719476996 = m) (h : Keeps m s u) :
    Keeps m s (State.startTraining u r from1) := by
  refine Keeps.next hm h ?_
  clear hm h
  unfold State.startTraining
  extract_lets -merge -useContext -underBinder y1 y2
  refine Keeps.next (t := y2) (Nat.or_self _) ?_ ?_
  · refine State.clearEchos_keeps rfl ?_
    refine State.modRing_keeps rfl ?_
    refine State.setRingState_keeps rfl ?_
    exact Keeps.refl _ _
  · clear_value y2
    try extract_lets -underBinder
    first | split | (dsimp +zetaDelta only; split)
    · refine State.sendEnum_keeps rfl ?_
      exact Keeps.refl _ _
    · refine State.sendEnum_keeps rfl ?_
      refine State.sendEnum_keeps rfl ?_
      exact Keeps.refl _ _

theorem State.enterReach_keeps {m : Nat} {s u : State} {r : Nat} {v : Sys2Proof.Machine.RingState} (hm : m ||| 18049651601053508 = m) (h : Keeps m s u) :
    Keeps m s (State.enterReach u r v) := by
  refine Keeps.next hm h ?_
  clear hm h
  unfold State.enterReach
  extract_lets -merge -useContext -underBinder y1 y2 y3 y4 y5
  refine Keeps.next (t := y2) (Nat.or_self _) ?_ ?_
  · refine State.setRingState_keeps rfl ?_
    exact Keeps.refl _ _
  · clear_value y2
    refine Keeps.next (t := y3) (Nat.or_self _) ?_ ?_
    · refine State.setFld_keeps (n := 4) (unit_TRV_RINGSTS _) rfl rfl ?_
      exact Keeps.refl _ _
    · clear_value y3
      refine Keeps.ite ?_ ?_
      · exact Keeps.refl _ _
      · refine State.abandonRing_keeps rfl ?_
        refine Keeps.ite ?_ ?_
        · refine State.logEvent_keeps rfl ?_
          refine State.raise_keeps (n := 4) (unit_TRV_RINGSTS _) rfl rfl ?_
          refine State.modRing_keeps rfl ?_
          refine Keeps.ite ?_ ?_
          · exact Keeps.refl _ _
          · refine State.wearAdd_keeps rfl ?_
            exact Keeps.refl _ _
        · refine Keeps.ite ?_ ?_
          · exact Keeps.refl _ _
          · refine State.wearAdd_keeps rfl ?_
            exact Keeps.refl _ _

theorem State.ringUp_keeps {m : Nat} {s u : State} {r : Nat} (hm : m ||| 68719477508 = m) (h : Keeps m s u) :
    Keeps m s (State.ringUp u r) := by
  refine Keeps.next hm h ?_
  clear hm h
  unfold State.ringUp
  refine Keeps.foldl (fun _ _ => ?_) ?_
  · refine State.sweepSlot_keeps rfl ?_
    exact Keeps.refl _ _
  · refine State.raise_keeps (n := 4) (unit_TRV_RINGSTS _) rfl rfl ?_
    refine Keeps.foldl (fun _ _ => ?_) ?_
    · refine State.modKnown_keeps rfl ?_
      exact Keeps.refl _ _
    · exact Keeps.refl _ _

theorem State.restoreHome_keeps {m : Nat} {s u : State} {r : Nat} {k : Nat} (hm : m ||| 256 = m) (h : Keeps m s u) :
    Keeps m s (State.restoreHome u r k) := by
  refine Keeps.next hm h ?_
  clear hm h
  unfold State.restoreHome
  refine Keeps.ite ?_ ?_
  · exact Keeps.refl _ _
  · refine State.setTile_keeps rfl ?_
    exact Keeps.refl _ _

theorem State.restoreRing_keeps {m : Nat} {s u : State} {r : Nat} (hm : m ||| 35253091567364 = m) (h : Keeps m s u) :
    Keeps m s (State.restoreRing u r) := by
  refine Keeps.next hm h ?_
  clear hm h
  unfold State.restoreRing
  refine Keeps.foldl (fun _ _ => ?_) ?_
  · refine State.restoreHome_keeps rfl ?_
    exact Keeps.refl _ _
  · refine State.abandonRing_keeps rfl ?_
    refine State.setFld_keeps (n := 4) (unit_TRV_RINGSTS _) rfl rfl ?_
    refine State.setRingState_keeps rfl ?_
    exact Keeps.refl _ _

theorem State.evaluate_keeps {m : Nat} {s u : State} {r : Nat} (hm : m ||| 18049651601184580 = m) (h : Keeps m s u) :
    Keeps m s (State.evaluate u r) := by
  refine Keeps.next hm h ?_
  clear hm h
  unfold State.evaluate
  refine State.serviceRing_keeps rfl ?_
  try extract_lets -underBinder
  first | split | (dsimp +zetaDelta only; split)
  · refine Keeps.ite ?_ ?_
    · refine State.enterReach_keeps rfl ?_
      refine Keeps.ite ?_ ?_
      · refine State.modRing_keeps rfl ?_
        refine State.setFld_keeps (n := 4) (unit_TRV_RINGSTS _) rfl rfl ?_
        refine State.setFld_keeps (n := 4) (unit_TRV_RINGSTS _) rfl rfl ?_
        exact Keeps.refl _ _
      · refine State.ringUp_keeps rfl ?_
        refine State.modRing_keeps rfl ?_
        refine State.setFld_keeps (n := 4) (unit_TRV_RINGSTS _) rfl rfl ?_
        refine State.setFld_keeps (n := 4) (unit_TRV_RINGSTS _) rfl rfl ?_
        exact Keeps.refl _ _
    · refine State.modRing_keeps rfl ?_
      refine State.setFld_keeps (n := 4) (unit_TRV_RINGSTS _) rfl rfl ?_
      refine State.setFld_keeps (n := 4) (unit_TRV_RINGSTS _) rfl rfl ?_
      exact Keeps.refl _ _
  · refine Keeps.ite ?_ ?_
    · refine State.enterReach_keeps rfl ?_
      refine State.modRing_keeps rfl ?_
      refine State.setFld_keeps (n := 4) (unit_TRV_RINGSTS _) rfl rfl ?_
      refine State.setFld_keeps (n := 4) (unit_TRV_RINGSTS _) rfl rfl ?_
      exact Keeps.refl _ _
    · refine State.logEvent_keeps rfl ?_
      refine State.enterReach_keeps rfl ?_
      refine State.modRing_keeps rfl ?_
      refine State.setFld_keeps (n := 4) (unit_TRV_RINGSTS _) rfl rfl ?_
      refine State.setFld_keeps (n := 4) (unit_TRV_RINGSTS _) rfl rfl ?_
      exact Keeps.refl _ _
  · refine Keeps.ite ?_ ?_
    · refine State.restoreRing_keeps rfl ?_
      refine State.modRing_keeps rfl ?_
      refine State.setFld_keeps (n := 4) (unit_TRV_RINGSTS _) rfl rfl ?_
      refine State.setFld_keeps (n := 4) (unit_TRV_RINGSTS _) rfl rfl ?_
      exact Keeps.refl _ _
    · refine State.enterReach_keeps rfl ?_
      refine State.modRing_keeps rfl ?_
      refine State.setFld_keeps (n := 4) (unit_TRV_RINGSTS _) rfl rfl ?_
      refine State.setFld_keeps (n := 4) (unit_TRV_RINGSTS _) rfl rfl ?_
      exact Keeps.refl _ _
  · refine Keeps.ite ?_ ?_
    · refine State.restoreRing_keeps rfl ?_
      refine State.modRing_keeps rfl ?_
      refine State.setFld_keeps (n := 4) (unit_TRV_RINGSTS _) rfl rfl ?_
      refine State.setFld_keeps (n := 4) (unit_TRV_RINGSTS _) rfl rfl ?_
      exact Keeps.refl _ _
    · refine State.enterReach_keeps rfl ?_
      refine State.modRing_keeps rfl ?_
      refine State.setFld_keeps (n := 4) (unit_TRV_RINGSTS _) rfl rfl ?_
      refine State.setFld_keeps (n := 4) (unit_TRV_RINGSTS _) rfl rfl ?_
      exact Keeps.refl _ _
  · refine State.modRing_keeps rfl ?_
    refine State.setFld_keeps (n := 4) (unit_TRV_RINGSTS _) rfl rfl ?_
    refine State.setFld_keeps (n := 4) (unit_TRV_RINGSTS _) rfl rfl ?_
    exact Keeps.refl _ _
  · refine State.modRing_keeps rfl ?_
    refine State.setFld_keeps (n := 4) (unit_TRV_RINGSTS _) rfl rfl ?_
    refine State.setFld_keeps (n := 4) (unit_TRV_RINGSTS _) rfl rfl ?_
    exact Keeps.refl _ _
  · refine State.modRing_keeps rfl ?_
    refine State.setFld_keeps (n := 4) (unit_TRV_RINGSTS _) rfl rfl ?_
    refine State.setFld_keeps (n := 4) (unit_TRV_RINGSTS _) rfl rfl ?_
    exact Keeps.refl _ _
  · refine State.modRing_keeps rfl ?_
    refine State.setFld_keeps (n := 4) (unit_TRV_RINGSTS _) rfl rfl ?_
    refine State.setFld_keeps (n := 4) (unit_TRV_RINGSTS _) rfl rfl ?_
    exact Keeps.refl _ _
  · refine State.modRing_keeps rfl ?_
    refine State.setFld_keeps (n := 4) (unit_TRV_RINGSTS _) rfl rfl ?_
    refine State.setFld_keeps (n := 4) (unit_TRV_RINGSTS _) rfl rfl ?_
    exact Keeps.refl _ _

theorem State.startCheck_keeps {m : Nat} {s u : State} {r : Nat} {aim : Sys2Proof.Machine.CheckAim} (hm : m ||| 18049651601184580 = m) (h : Keeps m s u) :
    Keeps m s (State.startCheck u r aim) := by
  refine Keeps.next hm h ?_
  clear hm h
  unfold State.startCheck
  extract_lets -merge -useContext -underBinder y1 y2 y3 y4 y5 y6
  refine Keeps.next (t := y4) (Nat.or_self _) ?_ ?_
  · refine State.modRing_keeps rfl ?_
    refine Keeps.ite ?_ ?_
    · refine State.raise_keeps (n := 4) (unit_TRV_RINGSTS _) rfl rfl ?_
      exact Keeps.refl _ _
    · exact Keeps.refl _ _
  · clear_value y4
    refine Keeps.next (t := y5) (Nat.or_self _) ?_ ?_
    · refine Keeps.ite ?_ ?_
      · refine State.sendEnum_keeps rfl ?_
        exact Keeps.refl _ _
      · exact Keeps.refl _ _
    · clear_value y5
      refine Keeps.next (t := y6) (Nat.or_self _) ?_ ?_
      · refine Keeps.ite ?_ ?_
        · refine State.sendEnum_keeps rfl ?_
          exact Keeps.refl _ _
        · exact Keeps.refl _ _
      · clear_value y6
        refine Keeps.ite ?_ ?_
        · refine State.evaluate_keeps rfl ?_
          exact Keeps.refl _ _
        · exact Keeps.refl _ _

theorem State.armingDone_keeps {m : Nat} {s u : State} {r : Nat} (hm : m ||| 18049651601184580 = m) (h : Keeps m s u) :
    Keeps m s (State.armingDone u r) := by
  refine Keeps.next hm h ?_
  clear hm h
  unfold State.armingDone
  refine Keeps.ite ?_ ?_
  · refine State.startCheck_keeps rfl ?_
    exact Keeps.refl _ _
  · exact Keeps.refl _ _

theorem State.failAttempt_keeps {m : Nat} {s u : State} {r n : Nat} (hm : m ||| 68719476996 = m) (h : Keeps m s u) : Keeps m s (u.failAttempt r n) := by
  refine Keeps.next hm h ?_
  clear hm h
  induction n generalizing u with
  | zero => exact Keeps.refl _ _
  | succ n ih =>
    unfold State.failAttempt
    dsimp only
    have k : Keeps 68719476996 u (u.modRing r fun g => { g with fails := g.fails + 1 }) := State.modRing_keeps rfl (Keeps.refl _ _)
    split
    · exact State.raise_keeps (unit_TRV_RINGSTS _) rfl rfl (State.setRingState_keeps rfl k)
    · split
      · exact State.startTraining_keeps rfl k
      · exact State.startTraining_keeps rfl k
      · exact State.startTraining_keeps rfl k
      · exact Keeps.next rfl k ih

theorem State.breakSeen_keeps {m : Nat} {s u : State} {r : Nat} (hm : m ||| 18049651601184580 = m) (h : Keeps m s u) :
    Keeps m s (State.breakSeen u r) := by
  refine Keeps.next hm h ?_
  clear hm h
  unfold State.breakSeen
  try extract_lets -underBinder
  first | split | (dsimp +zetaDelta only; split)
  · refine State.failAttempt_keeps rfl ?_
    exact Keeps.refl _ _
  · refine State.armingDone_keeps rfl ?_
    refine State.startCheck_keeps rfl ?_
    exact Keeps.refl _ _
  · refine State.startCheck_keeps rfl ?_
    exact Keeps.refl _ _
  · refine State.startCheck_keeps rfl ?_
    exact Keeps.refl _ _
  · refine State.startCheck_keeps rfl ?_
    exact Keeps.refl _ _
  · refine State.startCheck_keeps rfl ?_
    exact Keeps.refl _ _
  · exact Keeps.refl _ _
  · exact Keeps.refl _ _
  · exact Keeps.refl _ _

theorem State.trackLinks_keeps {m : Nat} {s u : State} {r : Nat} (hm : m ||| 256 = m) (h : Keeps m s u) :
    Keeps m s (State.trackLinks u r) := by
  refine Keeps.next hm h ?_
  clear hm h
  unfold State.trackLinks
  refine State.modRing_keeps rfl ?_
  exact Keeps.refl _ _

theorem State.portDown_keeps {m : Nat} {s u : State} {p : Nat} (hm : m ||| 18049651601184580 = m) (h : Keeps m s u) :
    Keeps m s (State.portDown u p) := by
  refine Keeps.next hm h ?_
  clear hm h
  unfold State.portDown
  refine Keeps.ite ?_ ?_
  · exact Keeps.refl _ _
  · refine State.breakSeen_keeps rfl ?_
    refine State.trackLinks_keeps rfl ?_
    refine State.setFld_keeps (n := 4) (unit_TRV_PORTSTS _) rfl rfl ?_
    refine State.modPort_keeps rfl ?_
    exact Keeps.refl _ _

theorem State.cmdOutcome_keeps {m : Nat} {s u : State} {use : Sys2Proof.Machine.CmdUse} {ok : Bool} {data : List Nat} (hm : m ||| 18049651601184580 = m) (h : Keeps m s u) :
    Keeps m s (State.cmdOutcome u use ok data) := by
  refine Keeps.next hm h ?_
  clear hm h
  unfold State.cmdOutcome
  try extract_lets -underBinder
  first | split | (dsimp +zetaDelta only; split)
  · try extract_lets -underBinder
    first | split | (dsimp +zetaDelta only; split)
    · refine Keeps.ite ?_ ?_
      · refine State.modAcqSlot_keeps rfl ?_
        exact Keeps.refl _ _
      · refine State.owAbandon_keeps rfl ?_
        exact Keeps.refl _ _
    · exact Keeps.refl _ _
  · refine State.balsetDone_keeps rfl ?_
    exact Keeps.refl _ _
  · refine Keeps.ite ?_ ?_
    · refine State.dieTempRead_keeps rfl ?_
      exact Keeps.refl _ _
    · exact Keeps.refl _ _
  · refine State.armingDone_keeps rfl ?_
    refine State.modKnown_keeps rfl ?_
    exact Keeps.refl _ _

theorem State.dropOutst_keeps {m : Nat} {s u : State} {p : Nat} {seq : Nat} (hm : m ||| 256 = m) (h : Keeps m s u) :
    Keeps m s (State.dropOutst u p seq) := by
  refine Keeps.next hm h ?_
  clear hm h
  unfold State.dropOutst
  refine State.modPort_keeps rfl ?_
  exact Keeps.refl _ _

theorem execUnclaimedFrame_keeps {t : Nat} {p : Nat} {f : Sys2Proof.Frame} (u : State) : ∃ nxt, execUnclaimedFrame t p f u = .next nxt ∧ Keeps 18049651601184614 u nxt := by
  refine ⟨_, rfl, ?_⟩
  try extract_lets -underBinder
  first | split | (dsimp +zetaDelta only; split)
  · refine State.at_keeps rfl ?_
    exact Keeps.refl _ _
  · refine Keeps.ite ?_ ?_
    · refine State.at_keeps rfl ?_
      exact Keeps.refl _ _
    · extract_lets -merge -useContext -underBinder y1 y2
      refine Keeps.next (t := y1) (Nat.or_self _) ?_ ?_
      · refine State.satAdd_keeps (n := 4) (unit_TRV_PORTSTS _) rfl rfl ?_
        refine State.at_keeps rfl ?_
        exact Keeps.refl _ _
      · clear_value y1
        try extract_lets -underBinder
        first | split | (dsimp +zetaDelta only; split)
        · try extract_lets -underBinder
          first | split | (dsimp +zetaDelta only; split)
          · refine State.cmdOutcome_keeps rfl ?_
            refine State.dropOutst_keeps rfl ?_
            exact Keeps.refl _ _
          · exact Keeps.refl _ _
        · exact Keeps.refl _ _

theorem State.ringTsync_keeps {m : Nat} {s u : State} {r : Nat} (hm : m ||| 18049651601184580 = m) (h : Keeps m s u) :
    Keeps m s (State.ringTsync u r) := by
  refine Keeps.next hm h ?_
  clear hm h
  unfold State.ringTsync
  refine Keeps.ite ?_ ?_
  · refine State.armingDone_keeps rfl ?_
    refine Keeps.foldl (fun _ _ => ?_) ?_
    · refine State.portKick_keeps rfl ?_
      refine State.portSendBody_keeps rfl ?_
      exact Keeps.refl _ _
    · refine Keeps.ite ?_ ?_
      · refine State.modRing_keeps rfl ?_
        exact Keeps.refl _ _
      · exact Keeps.refl _ _
  · exact Keeps.refl _ _

theorem execTsyncSend_keeps {t : Nat} (u : State) : ∃ nxt, execTsyncSend t u = .next nxt ∧ Keeps 18049651601184614 u nxt := by
  refine ⟨_, rfl, ?_⟩
  refine Keeps.ite ?_ ?_
  · refine Keeps.foldl (fun _ _ => ?_) ?_
    · refine State.ringTsync_keeps rfl ?_
      exact Keeps.refl _ _
    · refine Keeps.mk_trv rfl ?_
      refine State.at_keeps rfl ?_
      exact Keeps.refl _ _
  · refine State.at_keeps rfl ?_
    exact Keeps.refl _ _

theorem State.ringDown_keeps {m : Nat} {s u : State} {r : Nat} (hm : m ||| 35253091698436 = m) (h : Keeps m s u) :
    Keeps m s (State.ringDown u r) := by
  refine Keeps.next hm h ?_
  clear hm h
  unfold State.ringDown
  refine State.serviceRing_keeps rfl ?_
  refine State.abandonRing_keeps rfl ?_
  refine State.modRing_keeps rfl ?_
  refine Keeps.foldl (fun _ _ => ?_) ?_
  · refine State.modPort_keeps rfl ?_
    exact Keeps.refl _ _
  · refine State.setRingState_keeps rfl ?_
    exact Keeps.refl _ _

theorem State.tryTrain_keeps {m : Nat} {s u : State} {r : Nat} (hm : m ||| 68719476996 = m) (h : Keeps m s u) :
    Keeps m s (State.tryTrain u r) := by
  refine Keeps.next hm h ?_
  clear hm h
  unfold State.tryTrain
  refine Keeps.ite ?_ ?_
  · refine State.startTraining_keeps rfl ?_
    refine State.modRing_keeps rfl ?_
    exact Keeps.refl _ _
  · exact Keeps.refl _ _

theorem State.ringsFollow_keeps {m : Nat} {s u : State} (hm : m ||| 35253091698436 = m) (h : Keeps m s u) :
    Keeps m s (State.ringsFollow u) := by
  refine Keeps.next hm h ?_
  clear hm h
  unfold State.ringsFollow
  refine Keeps.foldl (fun _ _ => ?_) ?_
  · refine Keeps.ite ?_ ?_
    · refine State.tryTrain_keeps rfl ?_
      exact Keeps.refl _ _
    · refine Keeps.ite ?_ ?_
      · exact Keeps.refl _ _
      · refine State.ringDown_keeps rfl ?_
        exact Keeps.refl _ _
  · exact Keeps.refl _ _

theorem State.trvctlWrite_keeps {m : Nat} {s u : State} {v : Sys2Proof.Word} (hm : m ||| 35253091698436 = m) (h : Keeps m s u) :
    Keeps m s (State.trvctlWrite u v) := by
  refine Keeps.next hm h ?_
  clear hm h
  unfold State.trvctlWrite
  refine State.ringsFollow_keeps rfl ?_
  refine State.setWord_keeps (n := 4) (show unitOf 16384 = 4 from rfl) rfl rfl ?_
  exact Keeps.refl _ _

theorem execTrvCtlWrite_keeps {t : Nat} {x1 : Sys2Proof.Master} {v : Sys2Proof.Word} (u : State) : ∃ nxt, execTrvCtlWrite t x1 v u = .next nxt ∧ Keeps 35253091698470 u nxt := by
  refine ⟨_, rfl, ?_⟩
  refine State.trvctlWrite_keeps rfl ?_
  refine State.at_keeps rfl ?_
  exact Keeps.refl _ _

theorem State.portUp_keeps {m : Nat} {s u : State} {p : Nat} (hm : m ||| 18049660191127364 = m) (h : Keeps m s u) :
    Keeps m s (State.portUp u p) := by
  refine Keeps.next hm h ?_
  clear hm h
  unfold State.portUp
  refine Keeps.ite ?_ ?_
  · exact Keeps.refl _ _
  · extract_lets -merge -useContext -underBinder y1 y2
    refine Keeps.next (t := y2) (Nat.or_self _) ?_ ?_
    · refine State.trackLinks_keeps rfl ?_
      refine State.xStart_keeps rfl ?_
      refine State.setFld_keeps (n := 4) (unit_TRV_PORTSTS _) rfl rfl ?_
      refine State.modPort_keeps rfl ?_
      exact Keeps.refl _ _
    · clear_value y2
      try extract_lets -underBinder
      first | split | (dsimp +zetaDelta only; split)
      · refine Keeps.ite ?_ ?_
        · refine State.tryTrain_keeps rfl ?_
          refine State.setRingState_keeps rfl ?_
          exact Keeps.refl _ _
        · exact Keeps.refl _ _
      · refine Keeps.ite ?_ ?_
        · refine State.tryTrain_keeps rfl ?_
          refine State.setRingState_keeps rfl ?_
          exact Keeps.refl _ _
        · exact Keeps.refl _ _
      · refine State.tryTrain_keeps rfl ?_
        exact Keeps.refl _ _
      · exact Keeps.refl _ _
      · refine State.armingDone_keeps rfl ?_
        refine State.startCheck_keeps rfl ?_
        exact Keeps.refl _ _
      · refine State.startCheck_keeps rfl ?_
        exact Keeps.refl _ _
      · refine State.startCheck_keeps rfl ?_
        exact Keeps.refl _ _
      · refine State.startCheck_keeps rfl ?_
        exact Keeps.refl _ _
      · refine State.startCheck_keeps rfl ?_
        exact Keeps.refl _ _

theorem execPortLinkUp_keeps {t : Nat} {p : Nat} (u : State) : ∃ nxt, execPortLinkUp t p u = .next nxt ∧ Keeps 18049660191127398 u nxt := by
  refine ⟨_, rfl, ?_⟩
  refine State.portUp_keeps rfl ?_
  refine State.at_keeps rfl ?_
  exact Keeps.refl _ _

theorem State.sendEchos_keeps {m : Nat} {s u : State} {r : Nat} {e : Nat} {x3 : Nat} (hm : m ||| 68719476996 = m) (h : Keeps m s u) :
    Keeps m s (State.sendEchos u r e x3) := by
  refine Keeps.next hm h ?_
  clear hm h
  unfold State.sendEchos
  refine Keeps.foldl (fun _ _ => ?_) ?_
  · refine State.portSendBody_keeps rfl ?_
    exact Keeps.refl _ _
  · exact Keeps.refl _ _

theorem State.enumPassed_keeps {m : Nat} {s u : State} {r : Nat} {n : Nat} (hm : m ||| 68719476996 = m) (h : Keeps m s u) :
    Keeps m s (State.enumPassed u r n) := by
  refine Keeps.next hm h ?_
  clear hm h
  unfold State.enumPassed
  extract_lets -merge -useContext -underBinder y1 y2 y3 y4 y5
  refine Keeps.next (t := y2) (Nat.or_self _) ?_ ?_
  · refine State.setFld_keeps (n := 4) (unit_TRV_RINGSTS _) rfl rfl ?_
    refine State.modRing_keeps rfl ?_
    exact Keeps.refl _ _
  · clear_value y2
    refine Keeps.foldl (fun _ _ => ?_) ?_
    · refine Keeps.foldl (fun _ _ => ?_) ?_
      · refine State.sendEchos_keeps rfl ?_
        exact Keeps.refl _ _
      · exact Keeps.refl _ _
    · refine State.setFld_keeps (n := 4) (unit_TRV_RINGSTS _) rfl rfl ?_
      refine State.setFld_keeps (n := 4) (unit_TRV_RINGSTS _) rfl rfl ?_
      refine State.when_keeps (fun _ => ?_) ?_
      · refine State.raise_keeps (n := 4) (unit_TRV_RINGSTS _) rfl rfl ?_
        exact Keeps.refl _ _
      · exact Keeps.refl _ _

theorem State.trainEnum_keeps {m : Nat} {s u : State} {r : Nat} {origin : Nat} {count : Nat} {turned : Bool} {lp : Nat} (hm : m ||| 68719476996 = m) (h : Keeps m s u) :
    Keeps m s (State.trainEnum u r origin count turned lp) := by
  refine Keeps.next hm h ?_
  clear hm h
  unfold State.trainEnum
  try extract_lets -underBinder
  first | split | (dsimp +zetaDelta only; split)
  · refine Keeps.ite ?_ ?_
    · exact Keeps.refl _ _
    · refine Keeps.ite ?_ ?_
      · refine State.enumPassed_keeps rfl ?_
        exact Keeps.refl _ _
      · refine State.failAttempt_keeps rfl ?_
        exact Keeps.refl _ _
  · refine Keeps.ite ?_ ?_
    · refine State.failAttempt_keeps rfl ?_
      exact Keeps.refl _ _
    · extract_lets -merge -useContext -underBinder y1
      refine Keeps.next (t := y1) (Nat.or_self _) ?_ ?_
      · refine State.modRing_keeps rfl ?_
        exact Keeps.refl _ _
      · clear_value y1
        try extract_lets -underBinder
        first | split | (dsimp +zetaDelta only; split)
        · refine Keeps.ite ?_ ?_
          · refine State.enumPassed_keeps rfl ?_
            exact Keeps.refl _ _
          · refine State.failAttempt_keeps rfl ?_
            exact Keeps.refl _ _
        · exact Keeps.refl _ _

theorem execEnumReturn_keeps {t : Nat} {p : Nat} {f : Sys2Proof.Frame} {loopTime : Nat} (u : State) : ∃ nxt, execEnumReturn t p f loopTime u = .next nxt ∧ Keeps 18049651601184614 u nxt := by
  refine ⟨_, rfl, ?_⟩
  try extract_lets -underBinder
  first | split | (dsimp +zetaDelta only; split)
  · refine Keeps.ite ?_ ?_
    · refine Keeps.ite ?_ ?_
      · refine State.at_keeps rfl ?_
        exact Keeps.refl _ _
      · refine State.trainEnum_keeps rfl ?_
        refine State.at_keeps rfl ?_
        exact Keeps.refl _ _
    · refine Keeps.ite ?_ ?_
      · extract_lets -merge -useContext -underBinder y1
        refine Keeps.next (t := y1) (Nat.or_self _) ?_ ?_
        · refine State.modRing_keeps rfl ?_
          refine State.at_keeps rfl ?_
          exact Keeps.refl _ _
        · clear_value y1
          try extract_lets -underBinder
          first | split | (dsimp +zetaDelta only; split)
          · refine State.armingDone_keeps rfl ?_
            refine State.evaluate_keeps rfl ?_
            exact Keeps.refl _ _
          · exact Keeps.refl _ _
      · refine State.at_keeps rfl ?_
        exact Keeps.refl _ _
  · refine State.at_keeps rfl ?_
    exact Keeps.refl _ _

theorem State.enterArming_keeps {m : Nat} {s u : State} {r : Nat} (hm : m ||| 68719476996 = m) (h : Keeps m s u) :
    Keeps m s (State.enterArming u r) := by
  refine Keeps.next hm h ?_
  clear hm h
  unfold State.enterArming
  refine Keeps.foldl (fun _ _ => ?_) ?_
  · refine State.modKnown_keeps rfl ?_
    exact Keeps.refl _ _
  · refine State.modRing_keeps rfl ?_
    refine State.setRingState_keeps rfl ?_
    exact Keeps.refl _ _

theorem State.loadingDone_keeps {m : Nat} {s u : State} {r : Nat} (hm : m ||| 68719476996 = m) (h : Keeps m s u) :
    Keeps m s (State.loadingDone u r) := by
  refine Keeps.next hm h ?_
  clear hm h
  unfold State.loadingDone
  refine Keeps.ite ?_ ?_
  · refine State.enterArming_keeps rfl ?_
    exact Keeps.refl _ _
  · exact Keeps.refl _ _

theorem State.enterLoading_keeps {m : Nat} {s u : State} {r : Nat} (hm : m ||| 68719476996 = m) (h : Keeps m s u) :
    Keeps m s (State.enterLoading u r) := by
  refine Keeps.next hm h ?_
  clear hm h
  unfold State.enterLoading
  extract_lets -merge -useContext -underBinder y1 y2 y3 y4
  refine Keeps.next (t := y1) (Nat.or_self _) ?_ ?_
  · refine State.setRingState_keeps rfl ?_
    exact Keeps.refl _ _
  · clear_value y1
    refine Keeps.next (t := y2) (Nat.or_self _) ?_ ?_
    · refine Keeps.foldl (fun _ _ => ?_) ?_
      · refine State.modKnown_keeps rfl ?_
        exact Keeps.refl _ _
      · exact Keeps.refl _ _
    · clear_value y2
      refine State.loadingDone_keeps rfl ?_
      refine Keeps.ite ?_ ?_
      · exact Keeps.refl _ _
      · refine Keeps.ite ?_ ?_
        · refine State.startLoad_keeps rfl ?_
          exact Keeps.refl _ _
        · refine Keeps.foldl (fun _ _ => ?_) ?_
          · refine State.loadTile_keeps rfl ?_
            exact Keeps.refl _ _
          · exact Keeps.refl _ _

theorem State.failedChanged_keeps {m : Nat} {s u : State} {r : Nat} (hm : m ||| 18049651601184580 = m) (h : Keeps m s u) :
    Keeps m s (State.failedChanged u r) := by
  refine Keeps.next hm h ?_
  clear hm h
  unfold State.failedChanged
  refine State.serviceRing_keeps rfl ?_
  refine Keeps.ite ?_ ?_
  · refine State.enterReach_keeps rfl ?_
    exact Keeps.refl _ _
  · exact Keeps.refl _ _

theorem execTurnbackFrameReceive_keeps {t : Nat} {p : Nat} {f : Sys2Proof.Frame} (u : State) : ∃ nxt, execTurnbackFrameReceive t p f u = .next nxt ∧ Keeps 18049651601184614 u nxt := by
  refine ⟨_, rfl, ?_⟩
  refine Keeps.ite ?_ ?_
  · refine State.breakSeen_keeps rfl ?_
    refine State.at_keeps rfl ?_
    exact Keeps.refl _ _
  · refine State.at_keeps rfl ?_
    exact Keeps.refl _ _

theorem State.configTile_keeps {m : Nat} {s u : State} {k : Nat} (hm : m ||| 68719476996 = m) (h : Keeps m s u) :
    Keeps m s (State.configTile u k) := by
  refine Keeps.next hm h ?_
  clear hm h
  unfold State.configTile
  refine State.setTile_keeps rfl ?_
  refine State.setFld_keeps (n := 4) (unit_TRV_HOPDLY _) rfl rfl ?_
  refine State.setFld_keeps (n := 4) (unit_TRV_HOPDLY _) rfl rfl ?_
  exact Keeps.refl _ _

theorem execOpenRingTrainStart_keeps {t : Nat} {p : Nat} (u : State) : ∃ nxt, execOpenRingTrainStart t p u = .next nxt ∧ Keeps 68719477030 u nxt := by
  refine ⟨_, rfl, ?_⟩
  refine Keeps.ite ?_ ?_
  · refine State.startTraining_keeps rfl ?_
    refine State.modRing_keeps rfl ?_
    refine State.at_keeps rfl ?_
    exact Keeps.refl _ _
  · refine State.at_keeps rfl ?_
    exact Keeps.refl _ _

theorem execTileBoot_keeps {t : Nat} {k : Nat} (u : State) : ∃ nxt, execTileBoot t k u = .next nxt ∧ Keeps 18049651601184614 u nxt := by
  refine ⟨_, rfl, ?_⟩
  refine Keeps.ite ?_ ?_
  · extract_lets -merge -useContext -underBinder y1
    refine Keeps.next (t := y1) (Nat.or_self _) ?_ ?_
    · refine State.modRing_keeps rfl ?_
      refine State.modKnown_keeps rfl ?_
      refine State.onTile_keeps rfl ?_
      refine State.at_keeps rfl ?_
      exact Keeps.refl _ _
    · clear_value y1
      refine Keeps.ite ?_ ?_
      · refine State.failedChanged_keeps rfl ?_
        refine State.sweepSlot_keeps rfl ?_
        exact Keeps.refl _ _
      · refine State.loadingDone_keeps rfl ?_
        exact Keeps.refl _ _
  · refine State.onTile_keeps rfl ?_
    refine State.at_keeps rfl ?_
    exact Keeps.refl _ _

theorem State.clearHops_keeps {m : Nat} {s u : State} {r : Nat} (hm : m ||| 68719476740 = m) (h : Keeps m s u) :
    Keeps m s (State.clearHops u r) := by
  refine Keeps.next hm h ?_
  clear hm h
  unfold State.clearHops
  refine Keeps.foldl (fun _ _ => ?_) ?_
  · refine State.setFld_keeps (n := 4) (unit_TRV_HOPDLY _) rfl rfl ?_
    refine State.setFld_keeps (n := 4) (unit_TRV_HOPDLY _) rfl rfl ?_
    exact Keeps.refl _ _
  · exact Keeps.refl _ _

theorem State.tileLinks_keeps {m : Nat} {s u : State} {k : Nat} (hm : m ||| 256 = m) (h : Keeps m s u) :
    Keeps m s (State.tileLinks u k) := by
  refine Keeps.next hm h ?_
  clear hm h
  unfold State.tileLinks
  refine State.trackLinks_keeps rfl ?_
  exact Keeps.refl _ _

theorem execEchorReceive_keeps {t : Nat} {p : Nat} {rtt : Nat} {f : Sys2Proof.Frame} (u : State) : ∃ nxt, execEchorReceive t p rtt f u = .next nxt ∧ Keeps 68719477030 u nxt := by
  refine ⟨_, rfl, ?_⟩
  try extract_lets -underBinder
  first | split | (dsimp +zetaDelta only; split)
  · extract_lets -merge -useContext -underBinder y1 y2 y3 y4
    refine Keeps.next (t := y3) (Nat.or_self _) ?_ ?_
    · refine State.modKnown_keeps rfl ?_
      refine State.at_keeps rfl ?_
      exact Keeps.refl _ _
    · clear_value y3
      refine Keeps.ite ?_ ?_
      · refine State.loadTile_keeps rfl ?_
        refine State.configTile_keeps rfl ?_
        exact Keeps.refl _ _
      · exact Keeps.refl _ _
  · refine State.at_keeps rfl ?_
    exact Keeps.refl _ _

theorem State.loadFailed_keeps {m : Nat} {s u : State} {k : Nat} (hm : m ||| 18049651601184580 = m) (h : Keeps m s u) :
    Keeps m s (State.loadFailed u k) := by
  refine Keeps.next hm h ?_
  clear hm h
  unfold State.loadFailed
  extract_lets -merge -useContext -underBinder y1 y2
  refine Keeps.next (t := y2) (Nat.or_self _) ?_ ?_
  · refine State.modKnown_keeps rfl ?_
    exact Keeps.refl _ _
  · clear_value y2
    refine Keeps.ite ?_ ?_
    · refine State.failedChanged_keeps rfl ?_
      refine State.loadingDone_keeps rfl ?_
      refine State.raise_keeps (n := 4) (unit_TRV_RINGSTS _) rfl rfl ?_
      refine State.modKnown_keeps rfl ?_
      exact Keeps.refl _ _
    · refine State.loadTile_keeps rfl ?_
      exact Keeps.refl _ _

theorem execPortLinkDown_keeps {t : Nat} {p : Nat} (u : State) : ∃ nxt, execPortLinkDown t p u = .next nxt ∧ Keeps 18049651601184614 u nxt := by
  refine ⟨_, rfl, ?_⟩
  refine State.portDown_keeps rfl ?_
  refine State.at_keeps rfl ?_
  exact Keeps.refl _ _

theorem execCmdTimeout_keeps {t : Nat} {p : Nat} {seq : Nat} (u : State) : ∃ nxt, execCmdTimeout t p seq u = .next nxt ∧ Keeps 18049651601184614 u nxt := by
  refine ⟨_, rfl, ?_⟩
  try extract_lets -underBinder
  first | split | (dsimp +zetaDelta only; split)
  · refine Keeps.ite ?_ ?_
    · refine State.at_keeps rfl ?_
      exact Keeps.refl _ _
    · refine Keeps.ite ?_ ?_
      · refine State.portSend_keeps rfl ?_
        refine State.modPort_keeps rfl ?_
        refine State.at_keeps rfl ?_
        exact Keeps.refl _ _
      · refine State.cmdOutcome_keeps rfl ?_
        refine State.satAdd_keeps (n := 4) (unit_TRV_PORTSTS _) rfl rfl ?_
        refine State.dropOutst_keeps rfl ?_
        refine State.at_keeps rfl ?_
        exact Keeps.refl _ _
  · refine State.at_keeps rfl ?_
    exact Keeps.refl _ _

theorem execRespReceive_keeps {t : Nat} {p : Nat} {crcOk : Bool} {f : Sys2Proof.Frame} (u : State) : ∃ nxt, execRespReceive t p crcOk f u = .next nxt ∧ Keeps 18049651601184614 u nxt := by
  refine ⟨_, rfl, ?_⟩
  refine Keeps.ite ?_ ?_
  · try extract_lets -underBinder
    first | split | (dsimp +zetaDelta only; split)
    · extract_lets -merge -useContext -underBinder y1
      refine Keeps.next (t := y1) (Nat.or_self _) ?_ ?_
      · refine State.portCheck_keeps rfl ?_
        refine State.at_keeps rfl ?_
        exact Keeps.refl _ _
      · clear_value y1
        refine Keeps.ite ?_ ?_
        · refine Keeps.ite ?_ ?_
          · exact Keeps.refl _ _
          · refine State.loadFailed_keeps rfl ?_
            exact Keeps.refl _ _
        · try extract_lets -underBinder
          first | split | (dsimp +zetaDelta only; split)
          · refine State.cmdOutcome_keeps rfl ?_
            refine State.dropOutst_keeps rfl ?_
            exact Keeps.refl _ _
          · exact Keeps.refl _ _
    · refine State.portCheck_keeps rfl ?_
      refine State.at_keeps rfl ?_
      exact Keeps.refl _ _
  · refine State.portCheck_keeps rfl ?_
    refine State.at_keeps rfl ?_
    exact Keeps.refl _ _

theorem execRingRestore_keeps {t : Nat} {r : Nat} (u : State) : ∃ nxt, execRingRestore t r u = .next nxt ∧ Keeps 18049651601184614 u nxt := by
  refine ⟨_, rfl, ?_⟩
  refine Keeps.ite ?_ ?_
  · refine State.startCheck_keeps rfl ?_
    refine State.at_keeps rfl ?_
    exact Keeps.refl _ _
  · refine State.at_keeps rfl ?_
    exact Keeps.refl _ _

theorem execAlertReceive_keeps {t : Nat} {p : Nat} {crcOk : Bool} {f : Sys2Proof.Frame} (u : State) : ∃ nxt, execAlertReceive t p crcOk f u = .next nxt ∧ Keeps 18049651601184614 u nxt := by
  refine ⟨_, rfl, ?_⟩
  refine Keeps.ite ?_ ?_
  · try extract_lets -underBinder
    first | split | (dsimp +zetaDelta only; split)
    · extract_lets -merge -useContext -underBinder y1 y2
      refine Keeps.next (t := y1) (Nat.or_self _) ?_ ?_
      · refine State.portCheck_keeps rfl ?_
        refine State.at_keeps rfl ?_
        exact Keeps.refl _ _
      · clear_value y1
        refine Keeps.ite ?_ ?_
        · refine State.breakSeen_keeps rfl ?_
          exact Keeps.refl _ _
        · refine Keeps.ite ?_ ?_
          · refine State.modKnown_keeps rfl ?_
            exact Keeps.refl _ _
          · refine Keeps.ite ?_ ?_
            · refine State.setHot_keeps rfl ?_
              exact Keeps.refl _ _
            · exact Keeps.refl _ _
    · refine State.portCheck_keeps rfl ?_
      refine State.at_keeps rfl ?_
      exact Keeps.refl _ _
  · refine State.portCheck_keeps rfl ?_
    refine State.at_keeps rfl ?_
    exact Keeps.refl _ _

theorem execTrainingDone_keeps {t : Nat} {r : Nat} (u : State) : ∃ nxt, execTrainingDone t r u = .next nxt ∧ Keeps 68719477030 u nxt := by
  refine ⟨_, rfl, ?_⟩
  refine Keeps.ite ?_ ?_
  · refine State.at_keeps rfl ?_
    exact Keeps.refl _ _
  · refine Keeps.ite ?_ ?_
    · refine State.enterLoading_keeps rfl ?_
      refine Keeps.foldl (fun _ _ => ?_) ?_
      · refine State.configTile_keeps rfl ?_
        exact Keeps.refl _ _
      · refine State.clearHops_keeps rfl ?_
        refine State.modRing_keeps rfl ?_
        refine State.at_keeps rfl ?_
        exact Keeps.refl _ _
    · refine State.failAttempt_keeps rfl ?_
      refine State.at_keeps rfl ?_
      exact Keeps.refl _ _

theorem execArmstatPoll_keeps {t : Nat} {r : Nat} (u : State) : ∃ nxt, execArmstatPoll t r u = .next nxt ∧ Keeps 68719477030 u nxt := by
  refine ⟨_, rfl, ?_⟩
  refine Keeps.ite ?_ ?_
  · refine Keeps.foldl (fun _ _ => ?_) ?_
    · refine Keeps.ite ?_ ?_
      · refine State.sendCmd_keeps rfl ?_
        exact Keeps.refl _ _
      · exact Keeps.refl _ _
    · refine State.modRing_keeps rfl ?_
      refine State.at_keeps rfl ?_
      exact Keeps.refl _ _
  · refine State.at_keeps rfl ?_
    exact Keeps.refl _ _

theorem execAlertBootReceive_keeps {t : Nat} {p : Nat} {f : Sys2Proof.Frame} (u : State) : ∃ nxt, execAlertBootReceive t p f u = .next nxt ∧ Keeps 35527969605414 u nxt := by
  refine ⟨_, rfl, ?_⟩
  refine Keeps.ite ?_ ?_
  · refine Keeps.foldl (fun _ _ => ?_) ?_
    · refine Keeps.ite ?_ ?_
      · refine State.sendEchos_keeps rfl ?_
        exact Keeps.refl _ _
      · exact Keeps.refl _ _
    · refine State.suspRefresh_keeps rfl ?_
      refine State.setWord_keeps (n := 13) (unit_BAL_TILE _) rfl rfl ?_
      refine State.setFld_keeps (n := 13) (unit_BAL_MAN _) rfl rfl ?_
      refine State.setFld_keeps (n := 6) (unit_ACQ_OWSUS _) rfl rfl ?_
      refine State.serviceRing_keeps rfl ?_
      refine State.modBalSlot_keeps rfl ?_
      refine State.modAcqSlot_keeps rfl ?_
      refine State.setKnown_keeps rfl ?_
      refine State.at_keeps rfl ?_
      exact Keeps.refl _ _
  · refine State.at_keeps rfl ?_
    exact Keeps.refl _ _

theorem execPortFrameSent_keeps {t : Nat} {p : Nat} (u : State) : ∃ nxt, execPortFrameSent t p u = .next nxt ∧ Keeps 290 u nxt := by
  refine ⟨_, rfl, ?_⟩
  try extract_lets -underBinder
  first | split | (dsimp +zetaDelta only; split)
  · refine State.portKick_keeps rfl ?_
    refine State.modPort_keeps rfl ?_
    refine State.at_keeps rfl ?_
    exact Keeps.refl _ _
  · refine State.at_keeps rfl ?_
    exact Keeps.refl _ _

theorem execTileLinkUp_keeps {t : Nat} {k : Nat} {side : Nat} (u : State) : ∃ nxt, execTileLinkUp t k side u = .next nxt ∧ Keeps 290 u nxt := by
  refine ⟨_, rfl, ?_⟩
  refine State.tileLinks_keeps rfl ?_
  refine State.onTile_keeps rfl ?_
  refine State.at_keeps rfl ?_
  exact Keeps.refl _ _

theorem execTileLinkDown_keeps {t : Nat} {k : Nat} {side : Nat} (u : State) : ∃ nxt, execTileLinkDown t k side u = .next nxt ∧ Keeps 290 u nxt := by
  refine ⟨_, rfl, ?_⟩
  refine State.tileLinks_keeps rfl ?_
  refine State.onTile_keeps rfl ?_
  refine State.at_keeps rfl ?_
  exact Keeps.refl _ _

end Sys2Proof.Machine
end

