-- ==== Sys2Proof/Laws/KeepsBus.lean ====
section
/-! SUPPORT. What each function of Machine/Bus.lean can change. -/

namespace Sys2Proof.Machine

theorem State.timeLowRead_keeps {m : Nat} {s u : State} {n off : Nat} {x : Word × State} (hm : m ||| 32 = m)
    (e : u.timeLowRead n off = some x) (h : Keeps m s u) : Keeps m s x.2 := by
  refine Keeps.next hm h ?_
  clear hm h
  unfold State.timeLowRead at e
  repeat' split at e
  · cases e; exact State.setLatch_keeps rfl (Keeps.refl _ _)
  · cases e; exact State.setLatch_keeps rfl (State.setLatch_keeps rfl (Keeps.refl _ _))
  · cases e; exact State.setLatch_keeps rfl (Keeps.refl _ _)
  · cases e

theorem State.regRead_keeps {m : Nat} {s u : State} {x1 : Nat} {off : Nat} {r : Sys2Proof.Machine.RegRow} (hm : m ||| 108121644149507125 = m) (h : Keeps m s u) :
    Keeps m s (State.regRead u x1 off r).2 := by
  refine Keeps.next hm h ?_
  clear hm h
  unfold State.regRead
  try dsimp only
  try dsimp only
  try extract_lets -underBinder
  first | split | (dsimp +zetaDelta only; split)
  · refine Keeps.ite2 ?_ ?_
    · refine State.lockRead_keeps rfl ?_
      exact Keeps.refl _ _
    · refine Keeps.ite2 ?_ ?_
      · try dsimp only
        exact Keeps.refl _ _
      · try dsimp only
        exact Keeps.refl _ _
  · try dsimp only
    try extract_lets -underBinder
    first | split | (dsimp +zetaDelta only; split)
    · exact State.timeLowRead_keeps rfl ‹_› (Keeps.refl _ _)
    · try dsimp only
      exact Keeps.refl _ _
  · refine Keeps.ite2 ?_ ?_
    · try dsimp only
      exact Keeps.refl _ _
    · try dsimp only
      exact Keeps.refl _ _
  · refine Keeps.ite2 ?_ ?_
    · try dsimp only
      refine State.setWord_keeps (n := 4) (unit_TRV_PORTSTS _) rfl rfl ?_
      exact Keeps.refl _ _
    · try dsimp only
      exact Keeps.refl _ _
  · refine Keeps.ite2 ?_ ?_
    · try dsimp only
      exact Keeps.refl _ _
    · refine Keeps.ite2 ?_ ?_
      · try dsimp only
        exact Keeps.refl _ _
      · try dsimp only
        exact Keeps.refl _ _
  · try dsimp only
    refine State.suspAll_keeps rfl ?_
    exact Keeps.refl _ _
  · refine Keeps.ite2 ?_ ?_
    · try dsimp only
      exact Keeps.refl _ _
    · try dsimp only
      exact Keeps.refl _ _
  · refine Keeps.ite2 ?_ ?_
    · try dsimp only
      exact Keeps.refl _ _
    · refine Keeps.ite2 ?_ ?_
      · try dsimp only
        refine State.setLatch_keeps rfl ?_
        exact Keeps.refl _ _
      · refine Keeps.ite2 ?_ ?_
        · try dsimp only
          exact Keeps.refl _ _
        · try dsimp only
          exact Keeps.refl _ _
  · try dsimp only
    try extract_lets -underBinder
    first | split | (dsimp +zetaDelta only; split)
    · refine Keeps.ite2 ?_ ?_
      · try dsimp only
        exact Keeps.refl _ _
      · refine Keeps.ite2 ?_ ?_
        · try dsimp only
          exact Keeps.refl _ _
        · try dsimp only
          exact Keeps.refl _ _
    · try dsimp only
      exact Keeps.refl _ _
  · refine Keeps.ite2 ?_ ?_
    · try dsimp only
      exact Keeps.refl _ _
    · try dsimp only
      exact Keeps.refl _ _
  · refine Keeps.ite2 ?_ ?_
    · try dsimp only
      exact Keeps.refl _ _
    · refine Keeps.ite2 ?_ ?_
      · try dsimp only
        exact Keeps.refl _ _
      · try dsimp only
        exact Keeps.refl _ _
  · refine Keeps.ite2 ?_ ?_
    · refine State.wearDataRead_keeps rfl ?_
      exact Keeps.refl _ _
    · try dsimp only
      exact Keeps.refl _ _
  · refine Keeps.ite2 ?_ ?_
    · refine Keeps.ite2 ?_ ?_
      · try dsimp only
        refine State.setLatch_keeps rfl ?_
        refine State.pmcSync_keeps rfl ?_
        exact Keeps.refl _ _
      · try dsimp only
        refine State.pmcSync_keeps rfl ?_
        exact Keeps.refl _ _
    · try dsimp only
      exact Keeps.refl _ _
  · refine Keeps.ite2 ?_ ?_
    · try dsimp only
      exact Keeps.refl _ _
    · try dsimp only
      exact Keeps.refl _ _
  · try dsimp only
    exact Keeps.refl _ _

theorem State.busRead_keeps {m : Nat} {s u : State} {x1 : Nat} {off : Nat} (hm : m ||| 108121644149507125 = m) (h : Keeps m s u) :
    Keeps m s (State.busRead u x1 off).2 := by
  refine Keeps.next hm h ?_
  clear hm h
  unfold State.busRead
  refine Keeps.ite2 ?_ ?_
  · try extract_lets -underBinder
    first | split | (dsimp +zetaDelta only; split)
    · refine State.regRead_keeps rfl ?_
      exact Keeps.refl _ _
    · refine Keeps.pair2 ?_
      exact Keeps.refl _ _
  · refine Keeps.ite2 ?_ ?_
    · refine Keeps.pair2 ?_
      exact Keeps.refl _ _
    · refine Keeps.ite2 ?_ ?_
      · refine Keeps.pair2 ?_
        exact Keeps.refl _ _
      · refine Keeps.pair2 ?_
        exact Keeps.refl _ _

theorem execPortstsRead_keeps {t : Nat} {x1 : Sys2Proof.Master} {p : Nat} (u : State) : ∃ nxt, execPortstsRead t x1 p u = .next nxt ∧ Keeps 108121644149507135 u nxt := by
  refine ⟨_, rfl, ?_⟩
  refine Keeps.ite ?_ ?_
  · refine State.answer_keeps rfl ?_
    refine State.busRead_keeps rfl ?_
    refine State.at_keeps rfl ?_
    exact Keeps.refl _ _
  · refine State.at_keeps rfl ?_
    exact Keeps.refl _ _

theorem State.reqSend_keeps {m : Nat} {s u : State} {x1 : Nat} {ws : List Sys2Proof.Machine.XWord} (hm : m ||| 8589942788 = m) (h : Keeps m s u) :
    Keeps m s (State.reqSend u x1 ws) := by
  refine Keeps.next hm h ?_
  clear hm h
  unfold State.reqSend
  try extract_lets -underBinder
  first | split | (dsimp +zetaDelta only; split)
  · refine State.xSend_keeps rfl ?_
    exact Keeps.refl _ _
  · exact Keeps.refl _ _

theorem State.plainWrite_keeps {m : Nat} {s u : State} {x1 : Nat} {off : Nat} {r : Sys2Proof.Machine.RegRow} {v : Sys2Proof.Word} (hm : m ||| 134217732 = m) (h : Keeps m s u) :
    Keeps m s (State.plainWrite u x1 off r v) := by
  refine Keeps.next hm h ?_
  clear hm h
  unfold State.plainWrite
  refine State.setWord_keepsAny rfl ?_
  exact Keeps.refl _ _

theorem State.hostWrite_keeps {m : Nat} {s u : State} {x1 : Nat} {off : Nat} {r : Sys2Proof.Machine.RegRow} {v : Sys2Proof.Word} (hm : m ||| 34527510660 = m) (h : Keeps m s u) :
    Keeps m s (State.hostWrite u x1 off r v) := by
  refine Keeps.next hm h ?_
  clear hm h
  unfold State.hostWrite
  refine Keeps.ite ?_ ?_
  · refine State.h2dWrite_keeps rfl ?_
    exact Keeps.refl _ _
  · refine Keeps.ite ?_ ?_
    · refine State.d2hemptyWrite_keeps rfl ?_
      exact Keeps.refl _ _
    · refine Keeps.ite ?_ ?_
      · refine State.dboutWrite_keeps rfl ?_
        exact Keeps.refl _ _
      · refine Keeps.ite ?_ ?_
        · refine State.cmdpiWrite_keeps rfl ?_
          exact Keeps.refl _ _
        · refine Keeps.ite ?_ ?_
          · refine State.rspciWrite_keeps rfl ?_
            exact Keeps.refl _ _
          · refine Keeps.ite ?_ ?_
            · refine State.postciWrite_keeps rfl ?_
              exact Keeps.refl _ _
            · refine State.plainWrite_keeps rfl ?_
              exact Keeps.refl _ _

theorem State.rangeWrite_keeps {m : Nat} {s u : State} {x1 : Nat} {off : Nat} {r : Sys2Proof.Machine.RegRow} {v : Sys2Proof.Word} {ok : Bool} (hm : m ||| 134217732 = m) (h : Keeps m s u) :
    Keeps m s (State.rangeWrite u x1 off r v ok) := by
  refine Keeps.next hm h ?_
  clear hm h
  unfold State.rangeWrite
  refine Keeps.ite ?_ ?_
  · refine State.plainWrite_keeps rfl ?_
    exact Keeps.refl _ _
  · exact Keeps.refl _ _

theorem State.hlmWrite_keeps {m : Nat} {s u : State} {x1 : Nat} {off : Nat} {r : Sys2Proof.Machine.RegRow} {v : Sys2Proof.Word} (hm : m ||| 97796113441868997 = m) (h : Keeps m s u) :
    Keeps m s (State.hlmWrite u x1 off r v) := by
  refine Keeps.next hm h ?_
  clear hm h
  unfold State.hlmWrite
  refine Keeps.ite ?_ ?_
  · refine State.hlmctlWrite_keeps rfl ?_
    exact Keeps.refl _ _
  · refine Keeps.ite ?_ ?_
    · refine State.carrierWrite_keeps rfl ?_
      exact Keeps.refl _ _
    · refine Keeps.ite ?_ ?_
      · refine State.legsWrite_keeps rfl ?_
        exact Keeps.refl _ _
      · refine Keeps.ite ?_ ?_
        · refine State.coefWrite_keeps rfl ?_
          exact Keeps.refl _ _
        · try extract_lets -underBinder
          first | split | (dsimp +zetaDelta only; split)
          · refine State.spWrite_keeps rfl ?_
            exact Keeps.refl _ _
          · refine State.rangeWrite_keeps rfl ?_
            exact Keeps.refl _ _

theorem State.dspstsWrite_keeps {m : Nat} {s u : State} {x1 : Nat} {off : Nat} {r : Sys2Proof.Machine.RegRow} {v : Sys2Proof.Word} (hm : m ||| 140737622573060 = m) (h : Keeps m s u) :
    Keeps m s (State.dspstsWrite u x1 off r v) := by
  refine Keeps.next hm h ?_
  clear hm h
  unfold State.dspstsWrite
  refine State.when_keeps (fun _ => ?_) ?_
  · refine State.setFld_keeps (n := 15) (show unitOf 61444 = 15 from rfl) rfl rfl ?_
    refine State.setFld_keeps (n := 15) (show unitOf 61444 = 15 from rfl) rfl rfl ?_
    exact Keeps.refl _ _
  · refine State.plainWrite_keeps rfl ?_
    exact Keeps.refl _ _

theorem State.canWrite_keeps {m : Nat} {s u : State} {x1 : Nat} {off : Nat} {r : Sys2Proof.Machine.RegRow} {v : Sys2Proof.Word} (hm : m ||| 2251799947968516 = m) (h : Keeps m s u) :
    Keeps m s (State.canWrite u x1 off r v) := by
  refine Keeps.next hm h ?_
  clear hm h
  unfold State.canWrite
  try extract_lets -underBinder
  first | split | (dsimp +zetaDelta only; split)
  · exact Keeps.refl _ _
  · refine Keeps.ite ?_ ?_
    · refine State.canCtlWrite_keeps rfl ?_
      exact Keeps.refl _ _
    · refine Keeps.ite ?_ ?_
      · refine State.canTimingWrite_keeps rfl ?_
        exact Keeps.refl _ _
      · refine Keeps.ite ?_ ?_
        · refine State.txgo_keeps rfl ?_
          exact Keeps.refl _ _
        · refine Keeps.ite ?_ ?_
          · refine State.txcan_keeps rfl ?_
            exact Keeps.refl _ _
          · refine Keeps.ite ?_ ?_
            · refine State.canRelease_keeps rfl ?_
              exact Keeps.refl _ _
            · refine Keeps.ite ?_ ?_
              · refine State.abctlWrite_keeps rfl ?_
                exact Keeps.refl _ _
              · refine Keeps.ite ?_ ?_
                · refine State.tmctlWrite_keeps rfl ?_
                  exact Keeps.refl _ _
                · refine State.plainWrite_keeps rfl ?_
                  exact Keeps.refl _ _

theorem State.thmWrite_keeps {m : Nat} {s u : State} {x1 : Nat} {off : Nat} {r : Sys2Proof.Machine.RegRow} {v : Sys2Proof.Word} (hm : m ||| 72061992219705349 = m) (h : Keeps m s u) :
    Keeps m s (State.thmWrite u x1 off r v) := by
  refine Keeps.next hm h ?_
  clear hm h
  unfold State.thmWrite
  refine Keeps.ite ?_ ?_
  · refine State.sxtSched_keeps rfl ?_
    refine State.rangeWrite_keeps rfl ?_
    refine State.pmcSync_keeps rfl ?_
    exact Keeps.refl _ _
  · refine Keeps.ite ?_ ?_
    · refine State.rangeWrite_keeps rfl ?_
      exact Keeps.refl _ _
    · refine State.plainWrite_keeps rfl ?_
      exact Keeps.refl _ _

theorem State.kctlWrite_keeps {m : Nat} {s u : State} {x1 : Nat} {v : Sys2Proof.Word} (hm : m ||| 144115188075857924 = m) (h : Keeps m s u) :
    Keeps m s (State.kctlWrite u x1 v) := by
  refine Keeps.next hm h ?_
  clear hm h
  unfold State.kctlWrite
  refine Keeps.foldl (fun _ _ => ?_) ?_
  · refine State.setWord_keeps (n := 25) (unit_SEC_KDATA _) rfl rfl ?_
    exact Keeps.refl _ _
  · refine State.when_keeps (fun _ => ?_) ?_
    · refine State.setFld_keeps (n := 25) (show unitOf 102400 = 25 from rfl) rfl rfl ?_
      exact Keeps.refl _ _
    · refine State.when_keeps (fun _ => ?_) ?_
      · refine State.setFld_keeps (n := 25) (show unitOf 102400 = 25 from rfl) rfl rfl ?_
        refine Keeps.mk_upd rfl ?_
        exact Keeps.refl _ _
      · exact Keeps.refl _ _

theorem State.regWrite_keeps {m : Nat} {s u : State} {x1 : Nat} {off : Nat} {r : Sys2Proof.Machine.RegRow} {v : Sys2Proof.Word} (hm : m ||| 243182693458636789 = m) (h : Keeps m s u) :
    Keeps m s (State.regWrite u x1 off r v) := by
  refine Keeps.next hm h ?_
  clear hm h
  unfold State.regWrite
  try extract_lets -underBinder
  first | split | (dsimp +zetaDelta only; split)
  · refine Keeps.ite ?_ ?_
    · refine State.epochctlWrite_keeps rfl ?_
      exact Keeps.refl _ _
    · refine Keeps.ite ?_ ?_
      · refine State.profileWrite_keeps rfl ?_
        exact Keeps.refl _ _
      · refine Keeps.ite ?_ ?_
        · refine State.lockRelWrite_keeps rfl ?_
          exact Keeps.refl _ _
        · refine State.plainWrite_keeps rfl ?_
          exact Keeps.refl _ _
  · refine Keeps.ite ?_ ?_
    · refine State.xfbWrite_keeps rfl ?_
      exact Keeps.refl _ _
    · refine Keeps.ite ?_ ?_
      · refine State.xevmodeWrite_keeps rfl ?_
        exact Keeps.refl _ _
      · refine Keeps.ite ?_ ?_
        · refine State.xresyncWrite_keeps rfl ?_
          exact Keeps.refl _ _
        · refine State.plainWrite_keeps rfl ?_
          exact Keeps.refl _ _
  · refine Keeps.ite ?_ ?_
    · refine State.rateWrite_keeps rfl ?_
      exact Keeps.refl _ _
    · refine Keeps.ite ?_ ?_
      · refine State.ptpctlWrite_keeps rfl ?_
        exact Keeps.refl _ _
      · refine State.plainWrite_keeps rfl ?_
        exact Keeps.refl _ _
  · refine State.hostWrite_keeps rfl ?_
    exact Keeps.refl _ _
  · refine Keeps.ite ?_ ?_
    · refine State.trvctlWrite_keeps rfl ?_
      exact Keeps.refl _ _
    · refine Keeps.ite ?_ ?_
      · refine State.slotcfgWrite_keeps rfl ?_
        exact Keeps.refl _ _
      · refine State.plainWrite_keeps rfl ?_
        exact Keeps.refl _ _
  · refine Keeps.ite ?_ ?_
    · refine State.acqctlWrite_keeps rfl ?_
      exact Keeps.refl _ _
    · refine Keeps.ite ?_ ?_
      · refine State.modcfgWrite_keeps rfl ?_
        exact Keeps.refl _ _
      · refine Keeps.ite ?_ ?_
        · refine State.owcmdWrite_keeps rfl ?_
          exact Keeps.refl _ _
        · refine State.plainWrite_keeps rfl ?_
          exact Keeps.refl _ _
  · refine Keeps.ite ?_ ?_
    · refine State.almctlWrite_keeps rfl ?_
      exact Keeps.refl _ _
    · refine Keeps.ite ?_ ?_
      · refine State.evRegWrite_keeps rfl ?_
        exact Keeps.refl _ _
      · refine State.plainWrite_keeps rfl ?_
        exact Keeps.refl _ _
  · refine Keeps.ite ?_ ?_
    · refine State.sxtctlWrite_keeps rfl ?_
      exact Keeps.refl _ _
    · refine Keeps.ite ?_ ?_
      · refine State.lrnctlWrite_keeps rfl ?_
        exact Keeps.refl _ _
      · refine Keeps.ite ?_ ?_
        · refine State.rangeWrite_keeps rfl ?_
          exact Keeps.refl _ _
        · refine Keeps.ite ?_ ?_
          · refine State.rangeWrite_keeps rfl ?_
            exact Keeps.refl _ _
          · refine State.plainWrite_keeps rfl ?_
            exact Keeps.refl _ _
  · refine Keeps.ite ?_ ?_
    · refine State.azmctlWrite_keeps rfl ?_
      exact Keeps.refl _ _
    · refine Keeps.ite ?_ ?_
      · refine State.azmPthrWrite_keeps rfl ?_
        exact Keeps.refl _ _
      · refine State.plainWrite_keeps rfl ?_
        exact Keeps.refl _ _
  · refine Keeps.ite ?_ ?_
    · refine State.balctlWrite_keeps rfl ?_
      exact Keeps.refl _ _
    · refine Keeps.ite ?_ ?_
      · refine State.balTderWrite_keeps rfl ?_
        exact Keeps.refl _ _
      · refine State.plainWrite_keeps rfl ?_
        refine State.suspAll_keeps rfl ?_
        exact Keeps.refl _ _
  · refine State.hlmWrite_keeps rfl ?_
    exact Keeps.refl _ _
  · refine Keeps.ite ?_ ?_
    · refine State.orderedWrite_keeps rfl ?_
      exact Keeps.refl _ _
    · refine Keeps.ite ?_ ?_
      · refine State.coolfreqWrite_keeps rfl ?_
        exact Keeps.refl _ _
      · refine Keeps.ite ?_ ?_
        · refine State.dspstsWrite_keeps rfl ?_
          exact Keeps.refl _ _
        · refine State.plainWrite_keeps rfl ?_
          exact Keeps.refl _ _
  · exact Keeps.refl _ _
  · refine Keeps.ite ?_ ?_
    · refine State.outreqWrite_keeps rfl ?_
      exact Keeps.refl _ _
    · refine State.plainWrite_keeps rfl ?_
      exact Keeps.refl _ _
  · refine Keeps.ite ?_ ?_
    · refine State.rdnctlWrite_keeps rfl ?_
      exact Keeps.refl _ _
    · refine State.plainWrite_keeps rfl ?_
      exact Keeps.refl _ _
  · refine State.canWrite_keeps rfl ?_
    exact Keeps.refl _ _
  · refine State.thmWrite_keeps rfl ?_
    exact Keeps.refl _ _
  · refine Keeps.ite ?_ ?_
    · refine State.rdidxWrite_keeps rfl ?_
      exact Keeps.refl _ _
    · refine Keeps.ite ?_ ?_
      · refine State.rangeWrite_keeps rfl ?_
        exact Keeps.refl _ _
      · refine State.plainWrite_keeps rfl ?_
        exact Keeps.refl _ _
  · refine Keeps.ite ?_ ?_
    · refine State.pmcctlWrite_keeps rfl ?_
      exact Keeps.refl _ _
    · refine Keeps.ite ?_ ?_
      · refine State.pmcSelWrite_keeps rfl ?_
        exact Keeps.refl _ _
      · refine State.plainWrite_keeps rfl ?_
        exact Keeps.refl _ _
  · refine Keeps.ite ?_ ?_
    · refine State.kctlWrite_keeps rfl ?_
      exact Keeps.refl _ _
    · refine Keeps.ite ?_ ?_
      · refine State.setWord_keepsAny rfl ?_
        exact Keeps.refl _ _
      · refine State.plainWrite_keeps rfl ?_
        exact Keeps.refl _ _
  · refine State.plainWrite_keeps rfl ?_
    exact Keeps.refl _ _

theorem State.winWrite_keeps {m : Nat} {s u : State} {x1 : Nat} {a : Nat} {v : Sys2Proof.Word} (hm : m ||| 4398047166476 = m) (h : Keeps m s u) :
    Keeps m s (State.winWrite u x1 a v) := by
  refine Keeps.next hm h ?_
  clear hm h
  unfold State.winWrite
  refine Keeps.ite ?_ ?_
  · refine State.dmAccess_keeps rfl ?_
    exact Keeps.refl _ _
  · refine Keeps.ite ?_ ?_
    · refine State.sxtWinWrite_keeps rfl ?_
      exact Keeps.refl _ _
    · exact Keeps.refl _ _

theorem State.busWrite_keeps {m : Nat} {s u : State} {x1 : Nat} {off : Nat} {v : Sys2Proof.Word} (hm : m ||| 243182693458636797 = m) (h : Keeps m s u) :
    Keeps m s (State.busWrite u x1 off v) := by
  refine Keeps.next hm h ?_
  clear hm h
  unfold State.busWrite
  extract_lets -merge -useContext -underBinder y1
  refine Keeps.next (t := y1) (Nat.or_self _) ?_ ?_
  · refine State.when_keeps (fun _ => ?_) ?_
    · refine State.passBoundary_keeps rfl ?_
      exact Keeps.refl _ _
    · exact Keeps.refl _ _
  · clear_value y1
    refine Keeps.ite ?_ ?_
    · try extract_lets -underBinder
      first | split | (dsimp +zetaDelta only; split)
      · refine State.regWrite_keeps rfl ?_
        exact Keeps.refl _ _
      · refine State.hostErr_keeps (show unitOf 12288 = 3 from rfl) rfl ?_
        exact Keeps.refl _ _
    · refine Keeps.ite ?_ ?_
      · refine State.pmWrite_keeps rfl ?_
        exact Keeps.refl _ _
      · refine Keeps.ite ?_ ?_
        · refine State.winWrite_keeps rfl ?_
          exact Keeps.refl _ _
        · refine State.hostErr_keeps (show unitOf 12288 = 3 from rfl) rfl ?_
          exact Keeps.refl _ _

theorem State.bar2Write_keeps {m : Nat} {s u : State} {x1 : Nat} {off : Nat} {v : Sys2Proof.Word} (hm : m ||| 34359738500 = m) (h : Keeps m s u) :
    Keeps m s (State.bar2Write u x1 off v) := by
  refine Keeps.next hm h ?_
  clear hm h
  unfold State.bar2Write
  refine Keeps.ite ?_ ?_
  · refine State.modHost_keeps rfl ?_
    exact Keeps.refl _ _
  · refine Keeps.ite ?_ ?_
    · refine State.hostErr_keeps (show unitOf 12288 = 3 from rfl) rfl ?_
      exact Keeps.refl _ _
    · exact Keeps.refl _ _

theorem State.writeAccess_keeps {m : Nat} {s u : State} {x1 : Nat} {sp : Sys2Proof.Space} {off : Nat} {bytes : Nat} {v : Sys2Proof.Word} (hm : m ||| 243182693458636797 = m) (h : Keeps m s u) :
    Keeps m s (State.writeAccess u x1 sp off bytes v) := by
  refine Keeps.next hm h ?_
  clear hm h
  unfold State.writeAccess
  refine Keeps.ite ?_ ?_
  · refine State.hostErr_keeps (show unitOf 12288 = 3 from rfl) rfl ?_
    exact Keeps.refl _ _
  · try extract_lets -underBinder
    first | split | (dsimp +zetaDelta only; split)
    · refine State.busWrite_keeps rfl ?_
      exact Keeps.refl _ _
    · refine State.bar2Write_keeps rfl ?_
      exact Keeps.refl _ _

theorem State.memRead_keeps {m : Nat} {s u : State} {x1 : Nat} {off : Nat} {bytes : Nat} (hm : m ||| 128 = m) (h : Keeps m s u) :
    Keeps m s (State.memRead u x1 off bytes).2 := by
  refine Keeps.next hm h ?_
  clear hm h
  unfold State.memRead
  refine Keeps.pair2 ?_
  refine State.modHost_keeps rfl ?_
  exact Keeps.refl _ _

theorem State.readAccess_keeps {m : Nat} {s u : State} {x1 : Nat} {sp : Sys2Proof.Space} {off : Nat} {bytes : Nat} (hm : m ||| 108121678509245621 = m) (h : Keeps m s u) :
    Keeps m s (State.readAccess u x1 sp off bytes).2 := by
  refine Keeps.next hm h ?_
  clear hm h
  unfold State.readAccess
  refine Keeps.ite2 ?_ ?_
  · refine Keeps.pair2 ?_
    refine State.hostErr_keeps (show unitOf 12288 = 3 from rfl) rfl ?_
    exact Keeps.refl _ _
  · try extract_lets -underBinder
    first | split | (dsimp +zetaDelta only; split)
    · refine State.busRead_keeps rfl ?_
      exact Keeps.refl _ _
    · refine Keeps.pair2 ?_
      exact Keeps.refl _ _

theorem State.readRequest_keeps {m : Nat} {s u : State} {x1 : Nat} {sp : Sys2Proof.Space} {off : Nat} {bytes : Nat} (hm : m ||| 108121678509245621 = m) (h : Keeps m s u) :
    Keeps m s (State.readRequest u x1 sp off bytes).2 := by
  refine Keeps.next hm h ?_
  clear hm h
  unfold State.readRequest
  refine Keeps.ite2 ?_ ?_
  · refine Keeps.pair2 ?_
    refine State.memRead_keeps rfl ?_
    exact Keeps.refl _ _
  · refine State.readAccess_keeps rfl ?_
    exact Keeps.refl _ _

theorem State.complete_keeps {m : Nat} {s u : State} {x1 : Nat} {w : Sys2Proof.Word} (hm : m ||| 8589942796 = m) (h : Keeps m s u) :
    Keeps m s (State.complete u x1 w) := by
  refine Keeps.next hm h ?_
  clear hm h
  unfold State.complete
  try extract_lets -underBinder
  first | split | (dsimp +zetaDelta only; split)
  · refine State.answer_keeps rfl ?_
    refine State.xSend_keeps rfl ?_
    exact Keeps.refl _ _
  · refine State.answer_keeps rfl ?_
    exact Keeps.refl _ _

theorem State.hspiEnd_keeps {m : Nat} {s u : State} {armed : Bool} (hm : m ||| 128 = m) (h : Keeps m s u) :
    Keeps m s (State.hspiEnd u armed) := by
  refine Keeps.next hm h ?_
  clear hm h
  unfold State.hspiEnd
  refine State.modHost_keeps rfl ?_
  exact Keeps.refl _ _

theorem State.burstWrite_keeps {m : Nat} {s u : State} {n : Nat} {sp : Space} {off : Nat} {l : List Word} (hm : m ||| 243182693458636797 = m) (h : Keeps m s u) :
    Keeps m s (u.burstWrite n sp off l) := by
  induction l generalizing u off with
  | nil => exact h
  | cons w l ih => exact ih (State.writeAccess_keeps hm h)

theorem State.hspiWrite_keeps {m : Nat} {s u : State} {addr : Nat} {len : Nat} {ws : List Sys2Proof.Word} (hm : m ||| 243182693458636797 = m) (h : Keeps m s u) :
    Keeps m s (State.hspiWrite u addr len ws) := by
  refine Keeps.next hm h ?_
  clear hm h
  unfold State.hspiWrite
  refine Keeps.ite ?_ ?_
  · refine State.hspiEnd_keeps rfl ?_
    refine State.modHost_keeps rfl ?_
    exact Keeps.refl _ _
  · refine State.hspiEnd_keeps rfl ?_
    refine State.modHost_keeps rfl ?_
    refine State.burstWrite_keeps rfl ?_
    exact Keeps.refl _ _

theorem State.burstRead_keeps {m : Nat} {s u : State} {n : Nat} {sp : Space} {off k : Nat} (hm : m ||| 108121678509245621 = m) (h : Keeps m s u) :
    Keeps m s (u.burstRead n sp off k).2 := by
  induction k generalizing u off with
  | zero => exact h
  | succ k ih => exact ih (State.readAccess_keeps hm h)

theorem State.hspiRead_keeps {m : Nat} {s u : State} {addr : Nat} {len : Nat} (hm : m ||| 108121687099188405 = m) (h : Keeps m s u) :
    Keeps m s (State.hspiRead u addr len) := by
  refine Keeps.next hm h ?_
  clear hm h
  unfold State.hspiRead
  refine Keeps.ite ?_ ?_
  · refine State.hspiEnd_keeps rfl ?_
    refine State.modHost_keeps rfl ?_
    exact Keeps.refl _ _
  · refine State.xSend_keeps rfl ?_
    refine State.hspiEnd_keeps rfl ?_
    refine State.modHost_keeps rfl ?_
    refine State.burstRead_keeps rfl ?_
    exact Keeps.refl _ _

theorem State.hostTake_keeps {m : Nat} {s u : State} {n : Nat} {l : List XWord} (hm : m ||| 279211490477600765 = m) (h : Keeps m s u) :
    Keeps m s (u.hostTake n l) := by
  induction l generalizing u with
  | nil => exact h
  | cons x l ih =>
    cases x with
    | write sp off bytes v => exact ih (State.writeAccess_keeps (lor_sub hm rfl) h)
    | read sp off bytes => exact ih (State.complete_keeps (lor_sub hm rfl) (State.readRequest_keeps (lor_sub hm rfl) h))
    | frame addr len wr =>
      refine ih (Keeps.ite ?_ ?_)
      · exact State.hspiWrite_keeps (lor_sub hm rfl) h
      · exact State.hspiRead_keeps (lor_sub hm rfl) h
    | data w => exact ih h

theorem execHandshakePhase_keeps {t : Nat} {n : Nat} {x2 : Nat} (u : State) : ∃ nxt, execHandshakePhase t n x2 u = .next nxt ∧ Keeps 279211490477600767 u nxt := by
  refine ⟨_, rfl, ?_⟩
  refine Keeps.ite ?_ ?_
  · refine Keeps.ite ?_ ?_
    · refine State.hostTake_keeps rfl ?_
      refine State.xDrain_keeps rfl ?_
      refine State.xPhaseStep_keeps rfl ?_
      refine State.at_keeps rfl ?_
      exact Keeps.refl _ _
    · refine Keeps.ite ?_ ?_
      · refine State.hostTake_keeps rfl ?_
        refine State.xDrain_keeps rfl ?_
        refine State.xPhaseStep_keeps rfl ?_
        refine State.at_keeps rfl ?_
        exact Keeps.refl _ _
      · refine State.xDrain_keeps rfl ?_
        refine State.xPhaseStep_keeps rfl ?_
        refine State.at_keeps rfl ?_
        exact Keeps.refl _ _
  · refine State.xPhaseStep_keeps rfl ?_
    refine State.at_keeps rfl ?_
    exact Keeps.refl _ _

theorem execProfileSelection_keeps {t : Nat} {x1 : Sys2Proof.Master} {v : Sys2Proof.Word} (u : State) : ∃ nxt, execProfileSelection t x1 v u = .next nxt ∧ Keeps 90340552592475767 u nxt := by
  refine ⟨_, rfl, ?_⟩
  refine State.profileWrite_keeps rfl ?_
  refine State.passBoundary_keeps rfl ?_
  refine State.at_keeps rfl ?_
  exact Keeps.refl _ _

theorem execLearnRestore_keeps {t : Nat} {x1 : Sys2Proof.Master} (u : State) : ∃ nxt, execLearnRestore t x1 u = .next nxt ∧ Keeps 90340552592475767 u nxt := by
  refine ⟨_, rfl, ?_⟩
  refine State.lrnctlBit_keeps rfl ?_
  refine State.passBoundary_keeps rfl ?_
  refine State.at_keeps rfl ?_
  exact Keeps.refl _ _

theorem execSextantWindowWrite_keeps {t : Nat} {x1 : Sys2Proof.Master} {a : Nat} {v : Sys2Proof.Word} (u : State) : ∃ nxt, execSextantWindowWrite t x1 a v u = .next nxt ∧ Keeps 90340552592475767 u nxt := by
  refine ⟨_, rfl, ?_⟩
  refine Keeps.ite ?_ ?_
  · refine State.sxtWinWrite_keeps rfl ?_
    refine State.passBoundary_keeps rfl ?_
    refine State.at_keeps rfl ?_
    exact Keeps.refl _ _
  · refine State.passBoundary_keeps rfl ?_
    refine State.at_keeps rfl ?_
    exact Keeps.refl _ _

theorem execDapply_keeps {t : Nat} {x1 : Sys2Proof.Master} (u : State) : ∃ nxt, execDapply t x1 u = .next nxt ∧ Keeps 90340552592475767 u nxt := by
  refine ⟨_, rfl, ?_⟩
  refine State.sxtctlWrite_keeps rfl ?_
  refine State.passBoundary_keeps rfl ?_
  refine State.at_keeps rfl ?_
  exact Keeps.refl _ _

theorem execHspiPortReset_keeps {t : Nat} (u : State) : ∃ nxt, execHspiPortReset t u = .next nxt ∧ Keeps 47278203062 u nxt := by
  refine ⟨_, rfl, ?_⟩
  refine Keeps.ite ?_ ?_
  · refine State.at_keeps rfl ?_
    exact Keeps.refl _ _
  · refine Keeps.ite ?_ ?_
    · refine State.hspiEnd_keeps rfl ?_
      refine State.hspiReset_keeps rfl ?_
      refine State.at_keeps rfl ?_
      exact Keeps.refl _ _
    · refine State.at_keeps rfl ?_
      exact Keeps.refl _ _

theorem execLearnNominal_keeps {t : Nat} {x1 : Sys2Proof.Master} (u : State) : ∃ nxt, execLearnNominal t x1 u = .next nxt ∧ Keeps 90340552592475767 u nxt := by
  refine ⟨_, rfl, ?_⟩
  refine State.lrnctlBit_keeps rfl ?_
  refine State.passBoundary_keeps rfl ?_
  refine State.at_keeps rfl ?_
  exact Keeps.refl _ _

theorem execHspiWriteFrame_keeps {t : Nat} {addr : Nat} {len : Nat} {ws : List Sys2Proof.Word} {crcOk : Bool} (u : State) : ∃ nxt, execHspiWriteFrame t addr len ws crcOk u = .next nxt ∧ Keeps 243182693458636799 u nxt := by
  refine ⟨_, rfl, ?_⟩
  refine Keeps.ite ?_ ?_
  · refine State.when_keeps (fun _ => ?_) ?_
    · refine State.reqSend_keeps rfl ?_
      exact Keeps.refl _ _
    · refine State.at_keeps rfl ?_
      exact Keeps.refl _ _
  · refine Keeps.ite ?_ ?_
    · refine State.hspiEnd_keeps rfl ?_
      refine State.modHost_keeps rfl ?_
      refine State.hostErr_keeps (show unitOf 12288 = 3 from rfl) rfl ?_
      refine State.at_keeps rfl ?_
      exact Keeps.refl _ _
    · refine Keeps.ite ?_ ?_
      · refine State.hspiEnd_keeps rfl ?_
        refine State.modHost_keeps rfl ?_
        refine State.hostErr_keeps (show unitOf 12288 = 3 from rfl) rfl ?_
        refine State.at_keeps rfl ?_
        exact Keeps.refl _ _
      · extract_lets -merge -useContext -underBinder y1 y2
        refine Keeps.next (t := y2) (Nat.or_self _) ?_ ?_
        · refine State.reqSend_keeps rfl ?_
          refine State.at_keeps rfl ?_
          exact Keeps.refl _ _
        · clear_value y2
          refine Keeps.ite ?_ ?_
          · refine State.hspiWrite_keeps rfl ?_
            exact Keeps.refl _ _
          · exact Keeps.refl _ _

theorem execRegisterWrite_keeps {t : Nat} {x1 : Sys2Proof.Master} {sp : Sys2Proof.Space} {off : Nat} {bytes : Nat} {v : Sys2Proof.Word} (u : State) : ∃ nxt, execRegisterWrite t x1 sp off bytes v u = .next nxt ∧ Keeps 243182693458636799 u nxt := by
  refine ⟨_, rfl, ?_⟩
  refine Keeps.ite ?_ ?_
  · refine State.at_keeps rfl ?_
    exact Keeps.refl _ _
  · extract_lets -merge -useContext -underBinder y1 y2
    refine Keeps.next (t := y2) (Nat.or_self _) ?_ ?_
    · refine State.reqSend_keeps rfl ?_
      refine State.at_keeps rfl ?_
      exact Keeps.refl _ _
    · clear_value y2
      refine Keeps.ite ?_ ?_
      · refine State.writeAccess_keeps rfl ?_
        exact Keeps.refl _ _
      · exact Keeps.refl _ _

theorem execKctlLock_keeps {t : Nat} {x1 : Sys2Proof.Master} {v : Sys2Proof.Word} (u : State) : ∃ nxt, execKctlLock t x1 v u = .next nxt ∧ Keeps 144115188075857958 u nxt := by
  refine ⟨_, rfl, ?_⟩
  refine State.kctlWrite_keeps rfl ?_
  refine State.at_keeps rfl ?_
  exact Keeps.refl _ _

theorem execTimeLowWordRead_keeps {t : Nat} {x1 : Sys2Proof.Master} {r : Sys2Proof.BusRead} (u : State) : ∃ nxt, execTimeLowWordRead t x1 r u = .next nxt ∧ Keeps 108121687099188415 u nxt := by
  refine ⟨_, rfl, ?_⟩
  refine Keeps.ite ?_ ?_
  · refine State.answer_keeps rfl ?_
    refine State.reqSend_keeps rfl ?_
    refine State.at_keeps rfl ?_
    exact Keeps.refl _ _
  · refine Keeps.ite ?_ ?_
    · refine State.reqSend_keeps rfl ?_
      refine State.at_keeps rfl ?_
      exact Keeps.refl _ _
    · refine State.complete_keeps rfl ?_
      refine State.readRequest_keeps rfl ?_
      refine State.reqSend_keeps rfl ?_
      refine State.at_keeps rfl ?_
      exact Keeps.refl _ _

theorem execPapply_keeps {t : Nat} {x1 : Sys2Proof.Master} (u : State) : ∃ nxt, execPapply t x1 u = .next nxt ∧ Keeps 90340552592475767 u nxt := by
  refine ⟨_, rfl, ?_⟩
  refine State.modAzm_keeps rfl ?_
  refine State.passBoundary_keeps rfl ?_
  refine State.at_keeps rfl ?_
  exact Keeps.refl _ _

theorem execHspiReadFrame_keeps {t : Nat} {addr : Nat} {len : Nat} (u : State) : ∃ nxt, execHspiReadFrame t addr len u = .next nxt ∧ Keeps 108121687099188407 u nxt := by
  refine ⟨_, rfl, ?_⟩
  refine Keeps.ite ?_ ?_
  · refine State.at_keeps rfl ?_
    exact Keeps.refl _ _
  · extract_lets -merge -useContext -underBinder y1 y2
    refine Keeps.next (t := y2) (Nat.or_self _) ?_ ?_
    · refine State.reqSend_keeps rfl ?_
      refine State.at_keeps rfl ?_
      exact Keeps.refl _ _
    · clear_value y2
      refine Keeps.ite ?_ ?_
      · refine State.hspiRead_keeps rfl ?_
        exact Keeps.refl _ _
      · exact Keeps.refl _ _

theorem execHspiResetEnable_keeps {t : Nat} (u : State) : ∃ nxt, execHspiResetEnable t u = .next nxt ∧ Keeps 162 u nxt := by
  refine ⟨_, rfl, ?_⟩
  refine Keeps.ite ?_ ?_
  · refine State.hspiEnd_keeps rfl ?_
    refine State.at_keeps rfl ?_
    exact Keeps.refl _ _
  · refine State.at_keeps rfl ?_
    exact Keeps.refl _ _

theorem execHspiStatusFrame_keeps {t : Nat} (u : State) : ∃ nxt, execHspiStatusFrame t u = .next nxt ∧ Keeps 162 u nxt := by
  refine ⟨_, rfl, ?_⟩
  refine Keeps.ite ?_ ?_
  · refine State.at_keeps rfl ?_
    exact Keeps.refl _ _
  · refine State.hspiEnd_keeps rfl ?_
    refine State.modHost_keeps rfl ?_
    refine State.at_keeps rfl ?_
    exact Keeps.refl _ _

theorem execEpochctlWrite_keeps {t : Nat} {x1 : Sys2Proof.Master} {v : Sys2Proof.Word} (u : State) : ∃ nxt, execEpochctlWrite t x1 v u = .next nxt ∧ Keeps 90340552592475767 u nxt := by
  refine ⟨_, rfl, ?_⟩
  refine State.epochctlWrite_keeps rfl ?_
  refine State.passBoundary_keeps rfl ?_
  refine State.at_keeps rfl ?_
  exact Keeps.refl _ _

theorem execLearnExport_keeps {t : Nat} {x1 : Sys2Proof.Master} (u : State) : ∃ nxt, execLearnExport t x1 u = .next nxt ∧ Keeps 90340552592475767 u nxt := by
  refine ⟨_, rfl, ?_⟩
  refine State.lrnctlBit_keeps rfl ?_
  refine State.passBoundary_keeps rfl ?_
  refine State.at_keeps rfl ?_
  exact Keeps.refl _ _

theorem execKctlWrite_keeps {t : Nat} {x1 : Sys2Proof.Master} {v : Sys2Proof.Word} (u : State) : ∃ nxt, execKctlWrite t x1 v u = .next nxt ∧ Keeps 144115188075857958 u nxt := by
  refine ⟨_, rfl, ?_⟩
  refine State.kctlWrite_keeps rfl ?_
  refine State.at_keeps rfl ?_
  exact Keeps.refl _ _

end Sys2Proof.Machine
end

