-- ==== Sys2Proof/Laws/KeepsCanBus.lean ====
section
/-! SUPPORT. What each function of Machine/CanBus.lean can change. -/

namespace Sys2Proof.Machine

theorem State.hvacStatus_keeps {m : Nat} {s u : State} {b : Nat} (hm : m ||| 140737490452484 = m) (h : Keeps m s u) :
    Keeps m s (State.hvacStatus u b) := by
  refine Keeps.next hm h ?_
  clear hm h
  unfold State.hvacStatus
  extract_lets -merge -useContext -underBinder y1 y2
  refine Keeps.next (t := y2) (Nat.or_self _) ?_ ?_
  · refine State.setHeld_keeps (n := 15) (show unitOf 61444 = 15 from rfl) rfl rfl ?_
    refine Keeps.mk_dsp rfl ?_
    exact Keeps.refl _ _
  · clear_value y2
    refine Keeps.ite ?_ ?_
    · refine State.raiseEv_keeps (n := 15) (show unitOf 61444 = 15 from rfl) rfl rfl ?_
      exact Keeps.refl _ _
    · exact Keeps.refl _ _

theorem execHvacStatusReceive_keeps {t : Nat} {b : Nat} (u : State) : ∃ nxt, execHvacStatusReceive t b u = .next nxt ∧ Keeps 140737490452518 u nxt := by
  refine ⟨_, rfl, ?_⟩
  refine State.hvacStatus_keeps rfl ?_
  refine State.at_keeps rfl ?_
  exact Keeps.refl _ _

theorem execBusReferenceLost_keeps {t : Nat} {n : Nat} (u : State) : ∃ nxt, execBusReferenceLost t n u = .next nxt ∧ Keeps 92448054356821095 u nxt := by
  refine ⟨_, rfl, ?_⟩
  refine Keeps.ite ?_ ?_
  · refine State.raise_keeps (n := 2) (unitOf_fldIte (show unitOf 8228 = 2 from rfl) (unitOf_fldIte (show unitOf 8228 = 2 from rfl) (show unitOf 8228 = 2 from rfl))) rfl rfl ?_
    refine State.meetAll_keeps rfl ?_
    refine State.loseTargets_keeps rfl ?_
    refine State.at_keeps rfl ?_
    exact Keeps.refl _ _
  · refine State.at_keeps rfl ?_
    exact Keeps.refl _ _

theorem State.busReference_keeps {m : Nat} {s u : State} {n : Nat} {k : Nat} {sof : Nat} (hm : m ||| 92448037176951877 = m) (h : Keeps m s u) :
    Keeps m s (State.busReference u n k sof) := by
  refine Keeps.next hm h ?_
  clear hm h
  unfold State.busReference
  refine State.meetAll_keeps rfl ?_
  refine State.loseTargets_keeps rfl ?_
  refine State.convert_keeps rfl ?_
  refine State.modCan_keeps rfl ?_
  exact Keeps.refl _ _

theorem execReferenceMessageSent_keeps {t : Nat} {n : Nat} {sof : Nat} (u : State) : ∃ nxt, execReferenceMessageSent t n sof u = .next nxt ∧ Keeps 92448037176956007 u nxt := by
  refine ⟨_, rfl, ?_⟩
  try extract_lets -underBinder
  first | split | (dsimp +zetaDelta only; split)
  · refine State.at_keeps rfl ?_
    exact Keeps.refl _ _
  · refine Keeps.ite ?_ ?_
    · refine State.busReference_keeps rfl ?_
      refine State.canErr_keeps rfl ?_
      refine State.satAdd_keeps (n := 19) (unit_CAN_TXCNT _) rfl rfl ?_
      refine State.canShow_keeps rfl ?_
      refine State.modCan_keeps rfl ?_
      refine State.at_keeps rfl ?_
      exact Keeps.refl _ _
    · refine State.at_keeps rfl ?_
      exact Keeps.refl _ _

theorem execHvacFrameSend_keeps {t : Nat} (u : State) : ∃ nxt, execHvacFrameSend t u = .next nxt ∧ Keeps 2251799815847974 u nxt := by
  refine ⟨_, rfl, ?_⟩
  refine Keeps.ite ?_ ?_
  · refine Keeps.ite ?_ ?_
    · refine State.canDrop_keeps rfl ?_
      refine State.canQueue_keeps rfl ?_
      refine Keeps.mk_dsp rfl ?_
      refine State.at_keeps rfl ?_
      exact Keeps.refl _ _
    · refine State.canQueue_keeps rfl ?_
      refine Keeps.mk_dsp rfl ?_
      refine State.at_keeps rfl ?_
      exact Keeps.refl _ _
  · refine State.at_keeps rfl ?_
    exact Keeps.refl _ _

theorem State.canRxOk_keeps {m : Nat} {s u : State} {n : Nat} (hm : m ||| 2251799813754885 = m) (h : Keeps m s u) :
    Keeps m s (State.canRxOk u n) := by
  refine Keeps.next hm h ?_
  clear hm h
  unfold State.canRxOk
  refine Keeps.ite ?_ ?_
  · exact Keeps.refl _ _
  · refine Keeps.ite ?_ ?_
    · refine State.canErr_keeps rfl ?_
      exact Keeps.refl _ _
    · refine State.canErr_keeps rfl ?_
      refine State.freshNat_keeps rfl ?_
      exact Keeps.refl _ _

theorem execCanFrameReceive_keeps {t : Nat} {n : Nat} {f : Sys2Proof.CanFrame} (u : State) : ∃ nxt, execCanFrameReceive t n f u = .next nxt ∧ Keeps 92588809060701415 u nxt := by
  refine ⟨_, rfl, ?_⟩
  refine Keeps.ite ?_ ?_
  · refine State.at_keeps rfl ?_
    exact Keeps.refl _ _
  · extract_lets -merge -useContext -underBinder y1 y2 y3 y4
    refine Keeps.next (t := y2) (Nat.or_self _) ?_ ?_
    · refine State.autobaudAnswer_keeps rfl ?_
      refine State.canStore_keeps rfl ?_
      refine State.canRxOk_keeps rfl ?_
      refine State.abFound_keeps rfl ?_
      refine State.modCan_keeps rfl ?_
      refine State.at_keeps rfl ?_
      exact Keeps.refl _ _
    · clear_value y2
      refine Keeps.next (t := y3) (Nat.or_self _) ?_ ?_
      · refine Keeps.ite ?_ ?_
        · refine State.hvacStatus_keeps rfl ?_
          exact Keeps.refl _ _
        · exact Keeps.refl _ _
      · clear_value y3
        refine Keeps.ite ?_ ?_
        · refine State.modCan_keeps rfl ?_
          refine State.busReference_keeps rfl ?_
          exact Keeps.refl _ _
        · exact Keeps.refl _ _

theorem execHvacLost_keeps {t : Nat} (u : State) : ∃ nxt, execHvacLost t u = .next nxt ∧ Keeps 140737488355366 u nxt := by
  refine ⟨_, rfl, ?_⟩
  refine Keeps.ite ?_ ?_
  · refine State.setHeld_keeps (n := 15) (show unitOf 61444 = 15 from rfl) rfl rfl ?_
    refine State.at_keeps rfl ?_
    exact Keeps.refl _ _
  · refine State.at_keeps rfl ?_
    exact Keeps.refl _ _

end Sys2Proof.Machine
end

