-- ==== Sys2Proof/Laws/KeepsLinks.lean ====
section
/-! SUPPORT. What each function of Machine/Links.lean can change. -/

namespace Sys2Proof.Machine

theorem State.noteSync_keeps {m : Nat} {s u : State} {port : Nat} {gm : Nat} (hm : m ||| 32 = m) (h : Keeps m s u) :
    Keeps m s (State.noteSync u port gm) := by
  refine Keeps.next hm h ?_
  clear hm h
  unfold State.noteSync
  refine Keeps.mk_time rfl ?_
  exact Keeps.refl _ _

theorem State.meridianStep_keeps {m : Nat} {s u : State} {port : Nat} {m2 : Int} (hm : m ||| 92448054356821093 = m) (h : Keeps m s u) :
    Keeps m s (State.meridianStep u port m2) := by
  refine Keeps.next hm h ?_
  clear hm h
  unfold State.meridianStep
  extract_lets -merge -useContext -underBinder y1 y2 y3
  refine Keeps.next (t := y2) (Nat.or_self _) ?_ ?_
  · refine State.azmStep_keeps rfl ?_
    refine State.stepMeridian_keeps rfl ?_
    exact Keeps.refl _ _
  · clear_value y2
    refine State.loseTargets_keeps rfl ?_
    exact Keeps.refl _ _

theorem execEthLinkUp_keeps {t : Nat} {n : Nat} (u : State) : ∃ nxt, execEthLinkUp t n u = .next nxt ∧ Keeps 8589942950 u nxt := by
  refine ⟨_, rfl, ?_⟩
  refine Keeps.ite ?_ ?_
  · refine State.xStart_keeps rfl ?_
    refine State.modHost_keeps rfl ?_
    refine State.at_keeps rfl ?_
    exact Keeps.refl _ _
  · refine State.at_keeps rfl ?_
    exact Keeps.refl _ _

theorem State.syncAcquire_keeps {m : Nat} {s u : State} {port : Nat} {ofs : Int} (hm : m ||| 92448054356821093 = m) (h : Keeps m s u) :
    Keeps m s (State.syncAcquire u port ofs) := by
  refine Keeps.next hm h ?_
  clear hm h
  unfold State.syncAcquire
  extract_lets -merge -useContext -underBinder y1 y2 y3
  refine Keeps.next (t := y1) (Nat.or_self _) ?_ ?_
  · refine State.discipline_keeps rfl ?_
    exact Keeps.refl _ _
  · clear_value y1
    refine Keeps.next (t := y3) (Nat.or_self _) ?_ ?_
    · refine Keeps.mk_time rfl ?_
      exact Keeps.refl _ _
    · clear_value y3
      try extract_lets -underBinder
      first | split | (dsimp +zetaDelta only; split)
      · refine State.meridianStep_keeps rfl ?_
        exact Keeps.refl _ _
      · refine State.countWithin_keeps rfl ?_
        exact Keeps.refl _ _

theorem execClockStopped_keeps {t : Nat} {c : Nat} (u : State) : ∃ nxt, execClockStopped t c u = .next nxt ∧ Keeps 18049677371021286 u nxt := by
  refine ⟨_, rfl, ?_⟩
  refine Keeps.ite ?_ ?_
  · refine State.at_keeps rfl ?_
    exact Keeps.refl _ _
  · extract_lets -merge -useContext -underBinder y1 y2
    refine Keeps.next (t := y1) (Nat.or_self _) ?_ ?_
    · refine State.clkMon_keeps rfl ?_
      refine State.at_keeps rfl ?_
      exact Keeps.refl _ _
    · clear_value y1
      refine Keeps.ite ?_ ?_
      · refine State.modHost_keeps rfl ?_
        exact Keeps.refl _ _
      · refine Keeps.ite ?_ ?_
        · refine State.portDown_keeps rfl ?_
          exact Keeps.refl _ _
        · refine Keeps.ite ?_ ?_
          · refine State.modLds_keeps rfl ?_
            exact Keeps.refl _ _
          · refine Keeps.ite ?_ ?_
            · refine State.raise_keeps (n := 2) (show unitOf 8228 = 2 from rfl) rfl rfl ?_
              refine Keeps.mk_time rfl ?_
              exact Keeps.refl _ _
            · exact Keeps.refl _ _

theorem execPcieLinkUp_keeps {t : Nat} (u : State) : ∃ nxt, execPcieLinkUp t u = .next nxt ∧ Keeps 8589942950 u nxt := by
  refine ⟨_, rfl, ?_⟩
  refine Keeps.ite ?_ ?_
  · refine State.xStartAll_keeps rfl ?_
    refine State.modHost_keeps rfl ?_
    refine State.at_keeps rfl ?_
    exact Keeps.refl _ _
  · refine State.at_keeps rfl ?_
    exact Keeps.refl _ _

theorem execPtpSyncReceive_keeps {t : Nat} {msg : Sys2Proof.PtpMsg} {gm : Nat} {ofs : Int} (u : State) : ∃ nxt, execPtpSyncReceive t msg gm ofs u = .next nxt ∧ Keeps 92448054356821095 u nxt := by
  refine ⟨_, rfl, ?_⟩
  refine State.ptpTake_keeps (fun _ => ?_) rfl ?_
  · extract_lets -merge -useContext -underBinder y1
    refine Keeps.next (t := y1) (Nat.or_self _) ?_ ?_
    · refine State.noteSync_keeps rfl ?_
      exact Keeps.refl _ _
    · clear_value y1
      refine Keeps.ite ?_ ?_
      · try extract_lets -underBinder
        first | split | (dsimp +zetaDelta only; split)
        · refine State.syncAcquire_keeps rfl ?_
          exact Keeps.refl _ _
        · refine State.countOver_keeps rfl ?_
          refine State.discipline_keeps rfl ?_
          exact Keeps.refl _ _
        · exact Keeps.refl _ _
        · exact Keeps.refl _ _
      · exact Keeps.refl _ _
  · refine State.at_keeps rfl ?_
    exact Keeps.refl _ _

theorem execClockRunning_keeps {t : Nat} {c : Nat} (u : State) : ∃ nxt, execClockRunning t c u = .next nxt ∧ Keeps 8589942822 u nxt := by
  refine ⟨_, rfl, ?_⟩
  refine Keeps.ite ?_ ?_
  · extract_lets -merge -useContext -underBinder y1 y2
    refine Keeps.next (t := y1) (Nat.or_self _) ?_ ?_
    · refine State.xStartAll_keeps rfl ?_
      refine State.clkMon_keeps rfl ?_
      refine State.at_keeps rfl ?_
      exact Keeps.refl _ _
    · clear_value y1
      refine Keeps.ite ?_ ?_
      · refine Keeps.mk_time rfl ?_
        exact Keeps.refl _ _
      · exact Keeps.refl _ _
  · refine State.at_keeps rfl ?_
    exact Keeps.refl _ _

end Sys2Proof.Machine
end

