-- ==== Sys2Proof/Laws/KeepsPilotReg.lean ====
section
/-! SUPPORT. What each function of Machine/PilotReg.lean can change. -/

namespace Sys2Proof.Machine

theorem State.images_keeps {m : Nat} {s u : State} {l : Sys2Proof.Machine.Images} (hm : m ||| 243182693458636797 = m) (h : Keeps m s u) :
    Keeps m s (State.images u l) := by
  refine Keeps.next hm h ?_
  clear hm h
  unfold State.images
  refine Keeps.foldl (fun _ _ => ?_) ?_
  · refine State.busWrite_keeps rfl ?_
    exact Keeps.refl _ _
  · exact Keeps.refl _ _

theorem State.regReads_keeps {m : Nat} {s u : State} {n : Nat} {l : List Nat} (hm : m ||| 108121644149507125 = m) (h : Keeps m s u) :
    Keeps m s (u.regReads n l).2 := by
  induction l generalizing u with
  | nil => exact h
  | cons o l ih => exact ih (State.busRead_keeps hm h)

theorem State.answerRegs_keeps {m : Nat} {s u : State} {offs : List Nat} (hm : m ||| 108121644149507125 = m) (h : Keeps m s u) :
    Keeps m s (State.answerRegs u offs).2 := by
  refine Keeps.next hm h ?_
  clear hm h
  unfold State.answerRegs
  refine Keeps.pair2 ?_
  refine State.regReads_keeps rfl ?_
  exact Keeps.refl _ _

theorem State.atBoundary_keeps {m : Nat} {s u : State} {f : Sys2Proof.Machine.State → Sys2Proof.Machine.State} (hf : ∀ t, Keeps m t (f t)) (hm : m ||| 90340552592475733 = m) (h : Keeps m s u) :
    Keeps m s (State.atBoundary u f).2 := by
  unfold State.atBoundary
  extract_lets -merge -useContext -underBinder y1
  refine Keeps.next (t := y1) (Nat.or_self _) ?_ ?_
  · refine State.passBoundary_keeps (lor_sub hm rfl) ?_
    exact h
  · clear_value y1
    refine Keeps.ite2 ?_ ?_
    · refine Keeps.pair2 ?_
      refine Keeps.next (Nat.or_self m) ?_ (hf _)
      exact Keeps.refl _ _
    · refine Keeps.pair2 ?_
      exact Keeps.refl _ _

theorem State.setImages_keeps {m : Nat} {s u : State} {l : Sys2Proof.Machine.Images} (hm : m ||| 243182693458636797 = m) (h : Keeps m s u) :
    Keeps m s (State.setImages u l).2 := by
  refine Keeps.next hm h ?_
  clear hm h
  unfold State.setImages
  refine Keeps.ite2 ?_ ?_
  · refine Keeps.pair2 ?_
    refine State.images_keeps rfl ?_
    exact Keeps.refl _ _
  · refine Keeps.pair2 ?_
    exact Keeps.refl _ _

theorem needs_keeps {m : Nat} {s u : State} {b : Bool} {x : Ans × State} (h : Keeps m s u) (k : Keeps m s x.2) :
    Keeps m s (needs b u x).2 := by
  unfold needs
  split <;> assumption

theorem needsState_keeps {m : Nat} {s u : State} {b : Bool} {x : Ans × State} (h : Keeps m s u) (k : Keeps m s x.2) :
    Keeps m s (needsState b u x).2 := by
  unfold needsState
  split <;> assumption

end Sys2Proof.Machine
end

