-- ==== Sys2Proof/Laws/KeepsPilotLog.lean ====
section
/-! SUPPORT. What each function of Machine/PilotLog.lean can change. -/

namespace Sys2Proof.Machine

theorem execCmdLogWindow_keeps {t : Nat} {c : Sys2Proof.Entry} (u : State) : ∃ nxt, execCmdLogWindow t c u = .next nxt ∧ Keeps 243182693458636799 u nxt := by
  refine ⟨_, rfl, ?_⟩
  refine State.pilotCmd_keeps (fun _ _ => ?_) rfl ?_
  · refine State.setImages_keeps rfl ?_
    exact Keeps.refl _ _
  · exact Keeps.refl _ _

theorem State.erased_keeps {m : Nat} {s u : State} (hm : m ||| 18014398509482052 = m) (h : Keeps m s u) :
    Keeps m s (State.erased u) := by
  refine Keeps.next hm h ?_
  clear hm h
  unfold State.erased
  try extract_lets -underBinder
  first | split | (dsimp +zetaDelta only; split)
  · refine State.setFld_keeps (n := 22) (show unitOf 90112 = 22 from rfl) rfl rfl ?_
    refine State.modLog_keeps rfl ?_
    exact Keeps.refl _ _
  · exact Keeps.refl _ _

theorem execLogErasureDone_keeps {t : Nat} (u : State) : ∃ nxt, execLogErasureDone t u = .next nxt ∧ Keeps 18014432902775014 u nxt := by
  refine ⟨_, rfl, ?_⟩
  refine Keeps.ite ?_ ?_
  · refine State.at_keeps rfl ?_
    exact Keeps.refl _ _
  · refine State.answerAll_keeps rfl ?_
    refine State.erased_keeps rfl ?_
    refine State.at_keeps rfl ?_
    exact Keeps.refl _ _

theorem execCmdPmcControl_keeps {t : Nat} {c : Sys2Proof.Entry} (u : State) : ∃ nxt, execCmdPmcControl t c u = .next nxt ∧ Keeps 243182693458636799 u nxt := by
  refine ⟨_, rfl, ?_⟩
  refine State.pilotCmd_keeps (fun _ _ => ?_) rfl ?_
  · refine needs_keeps ?_ ?_
    · exact Keeps.refl _ _
    · refine Keeps.pair2 ?_
      refine State.pmcCommand_keeps rfl ?_
      refine State.images_keeps rfl ?_
      exact Keeps.refl _ _
  · exact Keeps.refl _ _

theorem State.logClear_keeps {m : Nat} {s u : State} {key : Nat} {nonce : List Nat} (hm : m ||| 18014398509486148 = m) (h : Keeps m s u) :
    Keeps m s (State.logClear u key nonce) := by
  refine Keeps.next hm h ?_
  clear hm h
  unfold State.logClear
  refine State.raiseEv_keeps (n := 22) (show unitOf 90112 = 22 from rfl) rfl rfl ?_
  refine State.setFld_keeps (n := 22) (show unitOf 90112 = 22 from rfl) rfl rfl ?_
  refine State.modLog_keeps rfl ?_
  refine State.logDrain_keeps rfl ?_
  refine State.logEvent_keeps rfl ?_
  refine State.logDrain_keeps rfl ?_
  exact Keeps.refl _ _

theorem State.channelMove_keeps {m : Nat} {s u : State} {a : Nat} {b : Nat} (hm : m ||| 140737622573060 = m) (h : Keeps m s u) :
    Keeps m s (State.channelMove u a b) := by
  refine Keeps.next hm h ?_
  clear hm h
  unfold State.channelMove
  extract_lets -merge -useContext -underBinder y1 y2 y3
  refine Keeps.next (t := y1) (Nat.or_self _) ?_ ?_
  · refine Keeps.foldl (fun _ _ => ?_) ?_
    · refine Keeps.ite ?_ ?_
      · refine State.setFld_keeps (n := 15) (unit_DSP_COOLCFG _) rfl rfl ?_
        exact Keeps.refl _ _
      · exact Keeps.refl _ _
    · exact Keeps.refl _ _
  · clear_value y1
    refine State.setFld_keepsAny rfl ?_
    exact Keeps.refl _ _

theorem State.spareEffect_keeps {m : Nat} {s u : State} {kind : Nat} {r : Nat} {sp : Nat} (hm : m ||| 212205878378500 = m) (h : Keeps m s u) :
    Keeps m s (State.spareEffect u kind r sp) := by
  refine Keeps.next hm h ?_
  clear hm h
  unfold State.spareEffect
  try extract_lets -underBinder
  first | split | (dsimp +zetaDelta only; split)
  · refine State.setFld_keeps (n := 8) (show unitOf 32812 = 8 from rfl) rfl rfl ?_
    exact Keeps.refl _ _
  · refine State.legsWrite_keeps rfl ?_
    exact Keeps.refl _ _
  · refine State.channelMove_keeps rfl ?_
    exact Keeps.refl _ _
  · exact Keeps.refl _ _

theorem execCmdLogInfo_keeps {t : Nat} {c : Sys2Proof.Entry} (u : State) : ∃ nxt, execCmdLogInfo t c u = .next nxt ∧ Keeps 34393292966 u nxt := by
  refine ⟨_, rfl, ?_⟩
  refine State.pilotCmd_keeps (fun _ _ => ?_) rfl ?_
  · refine Keeps.pair2 ?_
    exact Keeps.refl _ _
  · exact Keeps.refl _ _

theorem execCmdLogClear_keeps {t : Nat} {c : Sys2Proof.Entry} (u : State) : ∃ nxt, execCmdLogClear t c u = .next nxt ∧ Keeps 18014432902779110 u nxt := by
  refine ⟨_, rfl, ?_⟩
  refine State.pilotCmd_keeps (fun _ _ => ?_) rfl ?_
  · refine needs_keeps ?_ ?_
    · exact Keeps.refl _ _
    · try extract_lets -underBinder
      first | split | (dsimp +zetaDelta only; split)
      · refine Keeps.pair2 ?_
        refine State.logEvent_keeps rfl ?_
        refine State.modPilot_keeps rfl ?_
        exact Keeps.refl _ _
      · refine Keeps.ite2 ?_ ?_
        · refine Keeps.pair2 ?_
          refine State.logEvent_keeps rfl ?_
          refine State.modPilot_keeps rfl ?_
          exact Keeps.refl _ _
        · refine Keeps.ite2 ?_ ?_
          · refine Keeps.pair2 ?_
            refine State.modPilot_keeps rfl ?_
            exact Keeps.refl _ _
          · refine Keeps.ite2 ?_ ?_
            · refine Keeps.pair2 ?_
              refine State.logEvent_keeps rfl ?_
              refine State.modPilot_keeps rfl ?_
              exact Keeps.refl _ _
            · refine Keeps.pair2 ?_
              refine State.logClear_keeps rfl ?_
              refine State.modPilot_keeps rfl ?_
              exact Keeps.refl _ _
  · exact Keeps.refl _ _

theorem execCmdLogRead_keeps {t : Nat} {c : Sys2Proof.Entry} (u : State) : ∃ nxt, execCmdLogRead t c u = .next nxt ∧ Keeps 18014432902774950 u nxt := by
  refine ⟨_, rfl, ?_⟩
  refine State.pilotCmd_keeps (fun _ _ => ?_) rfl ?_
  · refine needs_keeps ?_ ?_
    · exact Keeps.refl _ _
    · refine needsState_keeps ?_ ?_
      · exact Keeps.refl _ _
      · refine Keeps.pair2 ?_
        refine Keeps.foldl (fun _ _ => ?_) ?_
        · refine State.rdidxWrite_keeps rfl ?_
          exact Keeps.refl _ _
        · exact Keeps.refl _ _
  · exact Keeps.refl _ _

theorem execCmdCommissionSpare_keeps {t : Nat} {c : Sys2Proof.Entry} (u : State) : ∃ nxt, execCmdCommissionSpare t c u = .next nxt ∧ Keeps 54255435800121574 u nxt := by
  refine ⟨_, rfl, ?_⟩
  refine State.pilotCmd_keeps (fun _ _ => ?_) rfl ?_
  · try extract_lets -underBinder
    first | split | (dsimp +zetaDelta only; split)
    · refine Keeps.pair2 ?_
      exact Keeps.refl _ _
    · refine needsState_keeps ?_ ?_
      · exact Keeps.refl _ _
      · refine Keeps.pair2 ?_
        refine State.spareEffect_keeps rfl ?_
        refine State.wearFlush_keeps rfl ?_
        refine State.logEvent_keeps rfl ?_
        refine State.unitSet_keeps rfl ?_
        refine State.unitSet_keeps rfl ?_
        refine State.wearHistory_keeps rfl ?_
        exact Keeps.refl _ _
  · exact Keeps.refl _ _

theorem execCmdLogNonce_keeps {t : Nat} {c : Sys2Proof.Entry} (u : State) : ∃ nxt, execCmdLogNonce t c u = .next nxt ∧ Keeps 34393292967 u nxt := by
  refine ⟨_, rfl, ?_⟩
  refine State.pilotCmd_keeps (fun _ _ => ?_) rfl ?_
  · refine Keeps.pair2 ?_
    refine State.modPilot_keeps rfl ?_
    refine State.freshNat_keeps rfl ?_
    exact Keeps.refl _ _
  · exact Keeps.refl _ _

theorem execCmdWearRead_keeps {t : Nat} {c : Sys2Proof.Entry} (u : State) : ∃ nxt, execCmdWearRead t c u = .next nxt ∧ Keeps 34393292966 u nxt := by
  refine ⟨_, rfl, ?_⟩
  refine State.pilotCmd_keeps (fun _ _ => ?_) rfl ?_
  · refine needs_keeps ?_ ?_
    · exact Keeps.refl _ _
    · refine Keeps.pair2 ?_
      exact Keeps.refl _ _
  · exact Keeps.refl _ _

theorem execCmdPmcRead_keeps {t : Nat} {c : Sys2Proof.Entry} (u : State) : ∃ nxt, execCmdPmcRead t c u = .next nxt ∧ Keeps 72057628432269479 u nxt := by
  refine ⟨_, rfl, ?_⟩
  refine State.pilotCmd_keeps (fun _ _ => ?_) rfl ?_
  · refine needs_keeps ?_ ?_
    · exact Keeps.refl _ _
    · refine Keeps.pair2 ?_
      refine State.pmcCommand_keeps rfl ?_
      exact Keeps.refl _ _
  · exact Keeps.refl _ _

end Sys2Proof.Machine
end

