-- ==== Sys2Proof/Laws/KeepsPilotSafety.lean ====
section
/-! SUPPORT. What each function of Machine/PilotSafety.lean can change. -/

namespace Sys2Proof.Machine

theorem execCmdRdnStatus_keeps {t : Nat} {c : Sys2Proof.Entry} (u : State) : ∃ nxt, execCmdRdnStatus t c u = .next nxt ∧ Keeps 108121678542800055 u nxt := by
  refine ⟨_, rfl, ?_⟩
  refine State.pilotCmd_keeps (fun _ _ => ?_) rfl ?_
  · refine State.answerRegs_keeps rfl ?_
    exact Keeps.refl _ _
  · exact Keeps.refl _ _

theorem execCmdCanSend_keeps {t : Nat} {c : Sys2Proof.Entry} (u : State) : ∃ nxt, execCmdCanSend t c u = .next nxt ∧ Keeps 2251834207043750 u nxt := by
  refine ⟨_, rfl, ?_⟩
  refine State.pilotCmd_keeps (fun _ _ => ?_) rfl ?_
  · refine needs_keeps ?_ ?_
    · exact Keeps.refl _ _
    · refine needsState_keeps ?_ ?_
      · exact Keeps.refl _ _
      · refine Keeps.pair2 ?_
        refine State.canQueue_keeps rfl ?_
        exact Keeps.refl _ _
  · exact Keeps.refl _ _

theorem execCmdSafetyStatus_keeps {t : Nat} {c : Sys2Proof.Entry} (u : State) : ∃ nxt, execCmdSafetyStatus t c u = .next nxt ∧ Keeps 108121678542800055 u nxt := by
  refine ⟨_, rfl, ?_⟩
  refine State.pilotCmd_keeps (fun _ _ => ?_) rfl ?_
  · refine State.answerRegs_keeps rfl ?_
    exact Keeps.refl _ _
  · exact Keeps.refl _ _

theorem execCmdCanFilter_keeps {t : Nat} {c : Sys2Proof.Entry} (u : State) : ∃ nxt, execCmdCanFilter t c u = .next nxt ∧ Keeps 243182693458636799 u nxt := by
  refine ⟨_, rfl, ?_⟩
  refine State.pilotCmd_keeps (fun _ _ => ?_) rfl ?_
  · refine needs_keeps ?_ ?_
    · exact Keeps.refl _ _
    · refine State.setImages_keeps rfl ?_
      exact Keeps.refl _ _
  · exact Keeps.refl _ _

theorem execCmdCanAutobaud_keeps {t : Nat} {c : Sys2Proof.Entry} (u : State) : ∃ nxt, execCmdCanAutobaud t c u = .next nxt ∧ Keeps 2251834207043750 u nxt := by
  refine ⟨_, rfl, ?_⟩
  refine State.pilotCmd_keeps (fun _ _ => ?_) rfl ?_
  · refine needs_keeps ?_ ?_
    · exact Keeps.refl _ _
    · refine Keeps.pair2 ?_
      refine State.abGo_keeps rfl ?_
      refine State.setFld_keeps (n := 19) (unit_CAN_ABCTL _) rfl rfl ?_
      exact Keeps.refl _ _
  · exact Keeps.refl _ _

theorem execCmdSafetyReset_keeps {t : Nat} {c : Sys2Proof.Entry} (u : State) : ∃ nxt, execCmdSafetyReset t c u = .next nxt ∧ Keeps 18929226577133798 u nxt := by
  refine ⟨_, rfl, ?_⟩
  refine State.pilotCmd_keeps (fun _ _ => ?_) rfl ?_
  · refine Keeps.pair2 ?_
    refine State.safetyReset_keeps rfl ?_
    exact Keeps.refl _ _
  · exact Keeps.refl _ _

theorem execCmdCanCancel_keeps {t : Nat} {begun : Bool} {c : Sys2Proof.Entry} (u : State) : ∃ nxt, execCmdCanCancel t begun c u = .next nxt ∧ Keeps 2251834207043750 u nxt := by
  refine ⟨_, rfl, ?_⟩
  refine State.pilotCmd_keeps (fun _ _ => ?_) rfl ?_
  · refine needs_keeps ?_ ?_
    · exact Keeps.refl _ _
    · refine Keeps.pair2 ?_
      refine State.canCancel_keeps rfl ?_
      exact Keeps.refl _ _
  · exact Keeps.refl _ _

theorem execCmdSealHistory_keeps {t : Nat} {c : Sys2Proof.Entry} (u : State) : ∃ nxt, execCmdSealHistory t c u = .next nxt ∧ Keeps 34393292966 u nxt := by
  refine ⟨_, rfl, ?_⟩
  refine State.pilotCmd_keeps (fun _ _ => ?_) rfl ?_
  · refine Keeps.pair2 ?_
    exact Keeps.refl _ _
  · exact Keeps.refl _ _

theorem execCmdOutputRequest_keeps {t : Nat} {c : Sys2Proof.Entry} (u : State) : ∃ nxt, execCmdOutputRequest t c u = .next nxt ∧ Keeps 18929226577133798 u nxt := by
  refine ⟨_, rfl, ?_⟩
  refine State.pilotCmd_keeps (fun _ _ => ?_) rfl ?_
  · refine needs_keeps ?_ ?_
    · exact Keeps.refl _ _
    · refine Keeps.pair2 ?_
      refine State.outreqWrite_keeps rfl ?_
      exact Keeps.refl _ _
  · exact Keeps.refl _ _

theorem execCmdCanSetup_keeps {t : Nat} {c : Sys2Proof.Entry} (u : State) : ∃ nxt, execCmdCanSetup t c u = .next nxt ∧ Keeps 243182693458636799 u nxt := by
  refine ⟨_, rfl, ?_⟩
  refine State.pilotCmd_keeps (fun _ _ => ?_) rfl ?_
  · refine needs_keeps ?_ ?_
    · exact Keeps.refl _ _
    · refine Keeps.pair2 ?_
      refine State.canCtlWrite_keeps rfl ?_
      refine State.images_keeps rfl ?_
      refine State.canCtlWrite_keeps rfl ?_
      exact Keeps.refl _ _
  · exact Keeps.refl _ _

theorem execCmdRdnSetup_keeps {t : Nat} {c : Sys2Proof.Entry} (u : State) : ∃ nxt, execCmdRdnSetup t c u = .next nxt ∧ Keeps 93574044508473335 u nxt := by
  refine ⟨_, rfl, ?_⟩
  refine State.pilotCmd_keeps (fun _ _ => ?_) rfl ?_
  · refine needs_keeps ?_ ?_
    · exact Keeps.refl _ _
    · refine needsState_keeps ?_ ?_
      · exact Keeps.refl _ _
      · refine Keeps.pair2 ?_
        refine State.rdnctlWrite_keeps rfl ?_
        exact Keeps.refl _ _
  · exact Keeps.refl _ _

theorem execCmdCanRecv_keeps {t : Nat} {c : Sys2Proof.Entry} (u : State) : ∃ nxt, execCmdCanRecv t c u = .next nxt ∧ Keeps 2251834207043750 u nxt := by
  refine ⟨_, rfl, ?_⟩
  refine State.pilotCmd_keeps (fun _ _ => ?_) rfl ?_
  · refine needs_keeps ?_ ?_
    · exact Keeps.refl _ _
    · refine needsState_keeps ?_ ?_
      · exact Keeps.refl _ _
      · refine Keeps.pair2 ?_
        refine State.canRelease_keeps rfl ?_
        exact Keeps.refl _ _
  · exact Keeps.refl _ _

theorem execCmdBinParam_keeps {t : Nat} {c : Sys2Proof.Entry} (u : State) : ∃ nxt, execCmdBinParam t c u = .next nxt ∧ Keeps 562984480932006 u nxt := by
  refine ⟨_, rfl, ?_⟩
  refine State.pilotCmd_keeps (fun _ _ => ?_) rfl ?_
  · refine needs_keeps ?_ ?_
    · exact Keeps.refl _ _
    · try extract_lets -underBinder
      first | split | (dsimp +zetaDelta only; split)
      · refine Keeps.pair2 ?_
        exact Keeps.refl _ _
      · refine Keeps.ite2 ?_ ?_
        · refine Keeps.pair2 ?_
          refine State.raiseEv_keeps (n := 17) (show unitOf 69636 = 17 from rfl) rfl rfl ?_
          exact Keeps.refl _ _
        · refine Keeps.pair2 ?_
          refine State.setFld_keepsAny rfl ?_
          exact Keeps.refl _ _
  · exact Keeps.refl _ _

theorem execAutobaudLimit_keeps {t : Nat} {n : Nat} (u : State) : ∃ nxt, execAutobaudLimit t n u = .next nxt ∧ Keeps 2251834206978214 u nxt := by
  refine ⟨_, rfl, ?_⟩
  refine Keeps.ite ?_ ?_
  · refine State.answerAll_keeps rfl ?_
    refine State.abStop_keeps rfl ?_
    refine State.at_keeps rfl ?_
    exact Keeps.refl _ _
  · refine State.at_keeps rfl ?_
    exact Keeps.refl _ _

theorem execCmdCanTimemaster_keeps {t : Nat} {c : Sys2Proof.Entry} (u : State) : ∃ nxt, execCmdCanTimemaster t c u = .next nxt ∧ Keeps 2251834207043750 u nxt := by
  refine ⟨_, rfl, ?_⟩
  refine State.pilotCmd_keeps (fun _ _ => ?_) rfl ?_
  · refine needs_keeps ?_ ?_
    · exact Keeps.refl _ _
    · refine Keeps.pair2 ?_
      refine State.tmctlWrite_keeps rfl ?_
      exact Keeps.refl _ _
  · exact Keeps.refl _ _

end Sys2Proof.Machine
end

