-- ==== Sys2Proof/Laws/KeepsPilotString.lean ====
section
/-! SUPPORT. What each function of Machine/PilotString.lean can change. -/

namespace Sys2Proof.Machine

theorem execCmdHvacSetup_keeps {t : Nat} {c : Sys2Proof.Entry} (u : State) : ∃ nxt, execCmdHvacSetup t c u = .next nxt ∧ Keeps 243182693458636799 u nxt := by
  refine ⟨_, rfl, ?_⟩
  refine State.pilotCmd_keeps (fun _ _ => ?_) rfl ?_
  · refine State.setImages_keeps rfl ?_
    exact Keeps.refl _ _
  · exact Keeps.refl _ _

theorem execCmdDspSetup_keeps {t : Nat} {c : Sys2Proof.Entry} (u : State) : ∃ nxt, execCmdDspSetup t c u = .next nxt ∧ Keeps 243182693458636799 u nxt := by
  refine ⟨_, rfl, ?_⟩
  refine State.pilotCmd_keeps (fun _ _ => ?_) rfl ?_
  · refine State.setImages_keeps rfl ?_
    exact Keeps.refl _ _
  · exact Keeps.refl _ _

theorem execCmdHlmCoef_keeps {t : Nat} {c : Sys2Proof.Entry} (u : State) : ∃ nxt, execCmdHlmCoef t c u = .next nxt ∧ Keeps 70403137487014 u nxt := by
  refine ⟨_, rfl, ?_⟩
  refine State.pilotCmd_keeps (fun _ _ => ?_) rfl ?_
  · refine needs_keeps ?_ ?_
    · exact Keeps.refl _ _
    · refine needsState_keeps ?_ ?_
      · exact Keeps.refl _ _
      · refine Keeps.pair2 ?_
        refine Keeps.foldl (fun _ _ => ?_) ?_
        · refine State.coefWrite_keeps rfl ?_
          exact Keeps.refl _ _
        · exact Keeps.refl _ _
  · exact Keeps.refl _ _

theorem execCmdBalStatus_keeps {t : Nat} {c : Sys2Proof.Entry} (u : State) : ∃ nxt, execCmdBalStatus t c u = .next nxt ∧ Keeps 108121678542800055 u nxt := by
  refine ⟨_, rfl, ?_⟩
  refine State.pilotCmd_keeps (fun _ _ => ?_) rfl ?_
  · refine needs_keeps ?_ ?_
    · exact Keeps.refl _ _
    · refine State.answerRegs_keeps rfl ?_
      exact Keeps.refl _ _
  · exact Keeps.refl _ _

theorem execCmdRestoreLearned_keeps {t : Nat} {c : Sys2Proof.Entry} (u : State) : ∃ nxt, execCmdRestoreLearned t c u = .next nxt ∧ Keeps 90340586952214263 u nxt := by
  refine ⟨_, rfl, ?_⟩
  refine State.pilotCmd_keeps (fun _ _ => ?_) rfl ?_
  · refine needsState_keeps ?_ ?_
    · exact Keeps.refl _ _
    · extract_lets -merge -useContext -underBinder y1 y2
      refine Keeps.ite2 ?_ ?_
      · refine State.atBoundary_keeps (fun _ => ?_) rfl ?_
        · refine State.lrnctlBit_keeps rfl ?_
          exact Keeps.refl _ _
        · exact Keeps.refl _ _
      · refine Keeps.pair2 ?_
        refine State.lrnctlBit_keeps rfl ?_
        refine State.passBoundary_keeps rfl ?_
        exact Keeps.refl _ _
  · exact Keeps.refl _ _

theorem execCmdLearnCfg_keeps {t : Nat} {c : Sys2Proof.Entry} (u : State) : ∃ nxt, execCmdLearnCfg t c u = .next nxt ∧ Keeps 243182693458636799 u nxt := by
  refine ⟨_, rfl, ?_⟩
  refine State.pilotCmd_keeps (fun _ _ => ?_) rfl ?_
  · refine needs_keeps ?_ ?_
    · exact Keeps.refl _ _
    · refine State.setImages_keeps rfl ?_
      exact Keeps.refl _ _
  · exact Keeps.refl _ _

theorem execCmdAzmCal_keeps {t : Nat} {c : Sys2Proof.Entry} (u : State) : ∃ nxt, execCmdAzmCal t c u = .next nxt ∧ Keeps 243182693458636799 u nxt := by
  refine ⟨_, rfl, ?_⟩
  refine State.pilotCmd_keeps (fun _ _ => ?_) rfl ?_
  · refine needs_keeps ?_ ?_
    · exact Keeps.refl _ _
    · refine State.setImages_keeps rfl ?_
      exact Keeps.refl _ _
  · exact Keeps.refl _ _

theorem execCmdBalSetup_keeps {t : Nat} {c : Sys2Proof.Entry} (u : State) : ∃ nxt, execCmdBalSetup t c u = .next nxt ∧ Keeps 243182693458636799 u nxt := by
  refine ⟨_, rfl, ?_⟩
  refine State.pilotCmd_keeps (fun _ _ => ?_) rfl ?_
  · refine State.setImages_keeps rfl ?_
    exact Keeps.refl _ _
  · exact Keeps.refl _ _

theorem execCmdHlmStatus_keeps {t : Nat} {c : Sys2Proof.Entry} (u : State) : ∃ nxt, execCmdHlmStatus t c u = .next nxt ∧ Keeps 108121678542800055 u nxt := by
  refine ⟨_, rfl, ?_⟩
  refine State.pilotCmd_keeps (fun _ _ => ?_) rfl ?_
  · refine State.answerRegs_keeps rfl ?_
    exact Keeps.refl _ _
  · exact Keeps.refl _ _

theorem execCmdSxtDapply_keeps {t : Nat} {c : Sys2Proof.Entry} (u : State) : ∃ nxt, execCmdSxtDapply t c u = .next nxt ∧ Keeps 90340586952214263 u nxt := by
  refine ⟨_, rfl, ?_⟩
  refine State.pilotCmd_keeps (fun _ _ => ?_) rfl ?_
  · refine State.atBoundary_keeps (fun _ => ?_) rfl ?_
    · refine State.sxtctlWrite_keeps rfl ?_
      exact Keeps.refl _ _
    · exact Keeps.refl _ _
  · exact Keeps.refl _ _

theorem State.stageWin_keeps {m : Nat} {s u : State} (hm : m ||| 4398046511108 = m) (h : Keeps m s u) :
    Keeps m s (State.stageWin u) := by
  refine Keeps.next hm h ?_
  clear hm h
  unfold State.stageWin
  refine State.setWord_keeps (n := 10) (show unitOf 1089552 = 10 from rfl) rfl rfl ?_
  exact Keeps.refl _ _

theorem execCmdStageWrite_keeps {t : Nat} {c : Sys2Proof.Entry} (u : State) : ∃ nxt, execCmdStageWrite t c u = .next nxt ∧ Keeps 90340586952214263 u nxt := by
  refine ⟨_, rfl, ?_⟩
  refine State.pilotCmd_keeps (fun _ _ => ?_) rfl ?_
  · refine needs_keeps ?_ ?_
    · exact Keeps.refl _ _
    · refine Keeps.ite2 ?_ ?_
      · refine Keeps.pair2 ?_
        exact Keeps.refl _ _
      · refine Keeps.pair2 ?_
        refine Keeps.foldl (fun _ _ => ?_) ?_
        · try extract_lets -underBinder
          first | split | (dsimp +zetaDelta only; split)
          · refine State.sxtWinWrite_keeps rfl ?_
            exact Keeps.refl _ _
        · refine State.stageWin_keeps rfl ?_
          refine State.passBoundary_keeps rfl ?_
          exact Keeps.refl _ _
  · exact Keeps.refl _ _

theorem execCmdCoolSetup_keeps {t : Nat} {c : Sys2Proof.Entry} (u : State) : ∃ nxt, execCmdCoolSetup t c u = .next nxt ∧ Keeps 243182693458636799 u nxt := by
  refine ⟨_, rfl, ?_⟩
  refine State.pilotCmd_keeps (fun _ _ => ?_) rfl ?_
  · refine needs_keeps ?_ ?_
    · exact Keeps.refl _ _
    · refine State.setImages_keeps rfl ?_
      exact Keeps.refl _ _
  · exact Keeps.refl _ _

theorem execCmdAzmApply_keeps {t : Nat} {c : Sys2Proof.Entry} (u : State) : ∃ nxt, execCmdAzmApply t c u = .next nxt ∧ Keeps 90340586952214263 u nxt := by
  refine ⟨_, rfl, ?_⟩
  refine State.pilotCmd_keeps (fun _ _ => ?_) rfl ?_
  · refine State.atBoundary_keeps (fun _ => ?_) rfl ?_
    · refine State.azmctlWrite_keeps rfl ?_
      exact Keeps.refl _ _
    · exact Keeps.refl _ _
  · exact Keeps.refl _ _

theorem execCmdHlmAnalog_keeps {t : Nat} {c : Sys2Proof.Entry} (u : State) : ∃ nxt, execCmdHlmAnalog t c u = .next nxt ∧ Keeps 243182693458636799 u nxt := by
  refine ⟨_, rfl, ?_⟩
  refine State.pilotCmd_keeps (fun _ _ => ?_) rfl ?_
  · refine needs_keeps ?_ ?_
    · exact Keeps.refl _ _
    · refine State.setImages_keeps rfl ?_
      exact Keeps.refl _ _
  · exact Keeps.refl _ _

theorem execCmdCtxRead_keeps {t : Nat} {c : Sys2Proof.Entry} (u : State) : ∃ nxt, execCmdCtxRead t c u = .next nxt ∧ Keeps 34393292966 u nxt := by
  refine ⟨_, rfl, ?_⟩
  refine State.pilotCmd_keeps (fun _ _ => ?_) rfl ?_
  · refine needs_keeps ?_ ?_
    · exact Keeps.refl _ _
    · refine Keeps.pair2 ?_
      exact Keeps.refl _ _
  · exact Keeps.refl _ _

theorem execCmdAzmPlan_keeps {t : Nat} {c : Sys2Proof.Entry} (u : State) : ∃ nxt, execCmdAzmPlan t c u = .next nxt ∧ Keeps 243182693458636799 u nxt := by
  refine ⟨_, rfl, ?_⟩
  refine State.pilotCmd_keeps (fun _ _ => ?_) rfl ?_
  · refine needs_keeps ?_ ?_
    · exact Keeps.refl _ _
    · refine State.setImages_keeps rfl ?_
      exact Keeps.refl _ _
  · exact Keeps.refl _ _

theorem execCmdStageRead_keeps {t : Nat} {c : Sys2Proof.Entry} (u : State) : ∃ nxt, execCmdStageRead t c u = .next nxt ∧ Keeps 4432439804070 u nxt := by
  refine ⟨_, rfl, ?_⟩
  refine State.pilotCmd_keeps (fun _ _ => ?_) rfl ?_
  · refine needs_keeps ?_ ?_
    · exact Keeps.refl _ _
    · refine Keeps.pair2 ?_
      refine State.stageWin_keeps rfl ?_
      exact Keeps.refl _ _
  · exact Keeps.refl _ _

theorem execCmdCoolFloor_keeps {t : Nat} {c : Sys2Proof.Entry} (u : State) : ∃ nxt, execCmdCoolFloor t c u = .next nxt ∧ Keeps 243182693458636799 u nxt := by
  refine ⟨_, rfl, ?_⟩
  refine State.pilotCmd_keeps (fun _ _ => ?_) rfl ?_
  · refine State.setImages_keeps rfl ?_
    exact Keeps.refl _ _
  · exact Keeps.refl _ _

theorem execCmdHlmLimits_keeps {t : Nat} {c : Sys2Proof.Entry} (u : State) : ∃ nxt, execCmdHlmLimits t c u = .next nxt ∧ Keeps 243182693458636799 u nxt := by
  refine ⟨_, rfl, ?_⟩
  refine State.pilotCmd_keeps (fun _ _ => ?_) rfl ?_
  · refine State.setImages_keeps rfl ?_
    exact Keeps.refl _ _
  · exact Keeps.refl _ _

theorem execCmdExportLearned_keeps {t : Nat} {c : Sys2Proof.Entry} (u : State) : ∃ nxt, execCmdExportLearned t c u = .next nxt ∧ Keeps 90340586952214263 u nxt := by
  refine ⟨_, rfl, ?_⟩
  refine State.pilotCmd_keeps (fun _ _ => ?_) rfl ?_
  · refine State.atBoundary_keeps (fun _ => ?_) rfl ?_
    · refine State.lrnctlBit_keeps rfl ?_
      exact Keeps.refl _ _
    · exact Keeps.refl _ _
  · exact Keeps.refl _ _

theorem execCmdSxtCfg_keeps {t : Nat} {c : Sys2Proof.Entry} (u : State) : ∃ nxt, execCmdSxtCfg t c u = .next nxt ∧ Keeps 243182693458636799 u nxt := by
  refine ⟨_, rfl, ?_⟩
  refine State.pilotCmd_keeps (fun _ _ => ?_) rfl ?_
  · refine needs_keeps ?_ ?_
    · exact Keeps.refl _ _
    · refine State.setImages_keeps rfl ?_
      exact Keeps.refl _ _
  · exact Keeps.refl _ _

theorem execCmdHlmSetpoint_keeps {t : Nat} {c : Sys2Proof.Entry} (u : State) : ∃ nxt, execCmdHlmSetpoint t c u = .next nxt ∧ Keeps 70403137487014 u nxt := by
  refine ⟨_, rfl, ?_⟩
  refine State.pilotCmd_keeps (fun _ _ => ?_) rfl ?_
  · refine needs_keeps ?_ ?_
    · exact Keeps.refl _ _
    · refine Keeps.pair2 ?_
      refine State.when_keeps (fun _ => ?_) ?_
      · refine State.spWrite_keeps rfl ?_
        exact Keeps.refl _ _
      · refine State.when_keeps (fun _ => ?_) ?_
        · refine State.spWrite_keeps rfl ?_
          exact Keeps.refl _ _
        · refine State.when_keeps (fun _ => ?_) ?_
          · refine State.spWrite_keeps rfl ?_
            exact Keeps.refl _ _
          · refine State.when_keeps (fun _ => ?_) ?_
            · refine State.spWrite_keeps rfl ?_
              exact Keeps.refl _ _
            · exact Keeps.refl _ _
  · exact Keeps.refl _ _

theorem execCmdHlmDispatch_keeps {t : Nat} {c : Sys2Proof.Entry} (u : State) : ∃ nxt, execCmdHlmDispatch t c u = .next nxt ∧ Keeps 243182693458636799 u nxt := by
  refine ⟨_, rfl, ?_⟩
  refine State.pilotCmd_keeps (fun _ _ => ?_) rfl ?_
  · refine State.setImages_keeps rfl ?_
    exact Keeps.refl _ _
  · exact Keeps.refl _ _

theorem execCmdHlmRun_keeps {t : Nat} {c : Sys2Proof.Entry} (u : State) : ∃ nxt, execCmdHlmRun t c u = .next nxt ∧ Keeps 97796113307651303 u nxt := by
  refine ⟨_, rfl, ?_⟩
  refine State.pilotCmd_keeps (fun _ _ => ?_) rfl ?_
  · refine needs_keeps ?_ ?_
    · exact Keeps.refl _ _
    · extract_lets -merge -useContext -underBinder y1 y2 y3 y4
      refine Keeps.next (t := y3) (Nat.or_self _) ?_ ?_
      · refine State.hlmctlWrite_keeps rfl ?_
        exact Keeps.refl _ _
      · clear_value y3
        refine Keeps.ite2 ?_ ?_
        · refine Keeps.pair2 ?_
          exact Keeps.refl _ _
        · refine Keeps.ite2 ?_ ?_
          · refine Keeps.pair2 ?_
            exact Keeps.refl _ _
          · refine Keeps.pair2 ?_
            refine State.helmRunReq_keeps rfl ?_
            exact Keeps.refl _ _
  · exact Keeps.refl _ _

theorem execCmdJournalSave_keeps {t : Nat} {c : Sys2Proof.Entry} (u : State) : ∃ nxt, execCmdJournalSave t c u = .next nxt ∧ Keeps 4432439935142 u nxt := by
  refine ⟨_, rfl, ?_⟩
  refine State.pilotCmd_keeps (fun _ _ => ?_) rfl ?_
  · refine needsState_keeps ?_ ?_
    · exact Keeps.refl _ _
    · refine Keeps.pair2 ?_
      refine State.lrnctlBit_keeps rfl ?_
      exact Keeps.refl _ _
  · exact Keeps.refl _ _

theorem execCmdAcceptNominal_keeps {t : Nat} {c : Sys2Proof.Entry} (u : State) : ∃ nxt, execCmdAcceptNominal t c u = .next nxt ∧ Keeps 90340586952214263 u nxt := by
  refine ⟨_, rfl, ?_⟩
  refine State.pilotCmd_keeps (fun _ _ => ?_) rfl ?_
  · refine State.atBoundary_keeps (fun _ => ?_) rfl ?_
    · refine State.lrnctlBit_keeps rfl ?_
      exact Keeps.refl _ _
    · exact Keeps.refl _ _
  · exact Keeps.refl _ _

theorem execCmdHlmSetup_keeps {t : Nat} {c : Sys2Proof.Entry} (u : State) : ∃ nxt, execCmdHlmSetup t c u = .next nxt ∧ Keeps 243182693458636799 u nxt := by
  refine ⟨_, rfl, ?_⟩
  refine State.pilotCmd_keeps (fun _ _ => ?_) rfl ?_
  · refine needs_keeps ?_ ?_
    · exact Keeps.refl _ _
    · refine needsState_keeps ?_ ?_
      · exact Keeps.refl _ _
      · refine Keeps.pair2 ?_
        refine State.images_keeps rfl ?_
        exact Keeps.refl _ _
  · exact Keeps.refl _ _

theorem execCmdAzmStatus_keeps {t : Nat} {c : Sys2Proof.Entry} (u : State) : ∃ nxt, execCmdAzmStatus t c u = .next nxt ∧ Keeps 108121678542800055 u nxt := by
  refine ⟨_, rfl, ?_⟩
  refine State.pilotCmd_keeps (fun _ _ => ?_) rfl ?_
  · refine State.answerRegs_keeps rfl ?_
    exact Keeps.refl _ _
  · exact Keeps.refl _ _

theorem execCmdBalManual_keeps {t : Nat} {c : Sys2Proof.Entry} (u : State) : ∃ nxt, execCmdBalManual t c u = .next nxt ∧ Keeps 243182693458636799 u nxt := by
  refine ⟨_, rfl, ?_⟩
  refine State.pilotCmd_keeps (fun _ _ => ?_) rfl ?_
  · refine needs_keeps ?_ ?_
    · exact Keeps.refl _ _
    · refine Keeps.pair2 ?_
      refine Keeps.foldl (fun _ _ => ?_) ?_
      · try extract_lets -underBinder
        first | split | (dsimp +zetaDelta only; split)
        · refine State.busWrite_keeps rfl ?_
          exact Keeps.refl _ _
      · exact Keeps.refl _ _
  · exact Keeps.refl _ _

theorem execCmdSxtWrite_keeps {t : Nat} {c : Sys2Proof.Entry} (u : State) : ∃ nxt, execCmdSxtWrite t c u = .next nxt ∧ Keeps 90340586952214263 u nxt := by
  refine ⟨_, rfl, ?_⟩
  refine State.pilotCmd_keeps (fun _ _ => ?_) rfl ?_
  · refine needs_keeps ?_ ?_
    · exact Keeps.refl _ _
    · refine Keeps.pair2 ?_
      refine Keeps.foldl (fun _ _ => ?_) ?_
      · try extract_lets -underBinder
        first | split | (dsimp +zetaDelta only; split)
        · refine State.sxtWinWrite_keeps rfl ?_
          exact Keeps.refl _ _
      · refine State.passBoundary_keeps rfl ?_
        exact Keeps.refl _ _
  · exact Keeps.refl _ _

theorem execCmdAzmCfg_keeps {t : Nat} {c : Sys2Proof.Entry} (u : State) : ∃ nxt, execCmdAzmCfg t c u = .next nxt ∧ Keeps 243182693458636799 u nxt := by
  refine ⟨_, rfl, ?_⟩
  refine State.pilotCmd_keeps (fun _ _ => ?_) rfl ?_
  · refine needs_keeps ?_ ?_
    · exact Keeps.refl _ _
    · refine State.setImages_keeps rfl ?_
      exact Keeps.refl _ _
  · exact Keeps.refl _ _

end Sys2Proof.Machine
end

