-- ==== Sys2Proof/Laws/KeepsPilotSystem.lean ====
section
/-! SUPPORT. What each function of Machine/PilotSystem.lean can change. -/

namespace Sys2Proof.Machine

theorem execCmdSetMod_keeps {t : Nat} {c : Sys2Proof.Entry} (u : State) : ∃ nxt, execCmdSetMod t c u = .next nxt ∧ Keeps 243182693458636799 u nxt := by
  refine ⟨_, rfl, ?_⟩
  refine State.pilotCmd_keeps (fun _ _ => ?_) rfl ?_
  · refine State.setImages_keeps rfl ?_
    exact Keeps.refl _ _
  · exact Keeps.refl _ _

theorem execCmdAlmDread_keeps {t : Nat} {c : Sys2Proof.Entry} (u : State) : ∃ nxt, execCmdAlmDread t c u = .next nxt ∧ Keeps 34393292966 u nxt := by
  refine ⟨_, rfl, ?_⟩
  refine State.pilotCmd_keeps (fun _ _ => ?_) rfl ?_
  · refine needs_keeps ?_ ?_
    · exact Keeps.refl _ _
    · refine Keeps.pair2 ?_
      exact Keeps.refl _ _
  · exact Keeps.refl _ _

theorem execCmdRings_keeps {t : Nat} {c : Sys2Proof.Entry} (u : State) : ∃ nxt, execCmdRings t c u = .next nxt ∧ Keeps 35287484993446 u nxt := by
  refine ⟨_, rfl, ?_⟩
  refine State.pilotCmd_keeps (fun _ _ => ?_) rfl ?_
  · refine needs_keeps ?_ ?_
    · exact Keeps.refl _ _
    · refine Keeps.pair2 ?_
      refine State.trvctlWrite_keeps rfl ?_
      refine Keeps.mk_upd rfl ?_
      exact Keeps.refl _ _
  · exact Keeps.refl _ _

theorem execCmdAlmLoad_keeps {t : Nat} {c : Sys2Proof.Entry} (u : State) : ∃ nxt, execCmdAlmLoad t c u = .next nxt ∧ Keeps 243182693458636799 u nxt := by
  refine ⟨_, rfl, ?_⟩
  refine State.pilotCmd_keeps (fun _ _ => ?_) rfl ?_
  · refine needs_keeps ?_ ?_
    · exact Keeps.refl _ _
    · refine Keeps.pair2 ?_
      refine State.images_keeps rfl ?_
      refine State.almLoad_keeps rfl ?_
      exact Keeps.refl _ _
  · exact Keeps.refl _ _

theorem execCmdSetPtp_keeps {t : Nat} {c : Sys2Proof.Entry} (u : State) : ∃ nxt, execCmdSetPtp t c u = .next nxt ∧ Keeps 243182693458636799 u nxt := by
  refine ⟨_, rfl, ?_⟩
  refine State.pilotCmd_keeps (fun _ _ => ?_) rfl ?_
  · refine State.setImages_keeps rfl ?_
    exact Keeps.refl _ _
  · exact Keeps.refl _ _

theorem execCmdAlmFlags_keeps {t : Nat} {c : Sys2Proof.Entry} (u : State) : ∃ nxt, execCmdAlmFlags t c u = .next nxt ∧ Keeps 1133905445030 u nxt := by
  refine ⟨_, rfl, ?_⟩
  refine State.pilotCmd_keeps (fun _ _ => ?_) rfl ?_
  · refine Keeps.pair2 ?_
    refine State.evRegWrite_keeps rfl ?_
    refine State.evRegWrite_keeps rfl ?_
    refine State.evRegWrite_keeps rfl ?_
    refine State.evRegWrite_keeps rfl ?_
    exact Keeps.refl _ _
  · exact Keeps.refl _ _

theorem execCmdGetStatus_keeps {t : Nat} {c : Sys2Proof.Entry} (u : State) : ∃ nxt, execCmdGetStatus t c u = .next nxt ∧ Keeps 108121678542800055 u nxt := by
  refine ⟨_, rfl, ?_⟩
  refine State.pilotCmd_keeps (fun _ _ => ?_) rfl ?_
  · refine State.answerRegs_keeps rfl ?_
    exact Keeps.refl _ _
  · exact Keeps.refl _ _

theorem execCmdWriteReg_keeps {t : Nat} {c : Sys2Proof.Entry} (u : State) : ∃ nxt, execCmdWriteReg t c u = .next nxt ∧ Keeps 243182693458636799 u nxt := by
  refine ⟨_, rfl, ?_⟩
  refine State.pilotCmd_keeps (fun _ _ => ?_) rfl ?_
  · refine needs_keeps ?_ ?_
    · exact Keeps.refl _ _
    · refine Keeps.pair2 ?_
      refine State.burstWrite_keeps rfl ?_
      exact Keeps.refl _ _
  · exact Keeps.refl _ _

theorem execCmdSetEpoch_keeps {t : Nat} {c : Sys2Proof.Entry} (u : State) : ∃ nxt, execCmdSetEpoch t c u = .next nxt ∧ Keeps 243182693458636799 u nxt := by
  refine ⟨_, rfl, ?_⟩
  refine State.pilotCmd_keeps (fun _ _ => ?_) rfl ?_
  · refine State.setImages_keeps rfl ?_
    exact Keeps.refl _ _
  · exact Keeps.refl _ _

theorem execCmdSetCalendar_keeps {t : Nat} {c : Sys2Proof.Entry} (u : State) : ∃ nxt, execCmdSetCalendar t c u = .next nxt ∧ Keeps 51573162150 u nxt := by
  refine ⟨_, rfl, ?_⟩
  refine State.pilotCmd_keeps (fun _ _ => ?_) rfl ?_
  · refine needs_keeps ?_ ?_
    · exact Keeps.refl _ _
    · refine needsState_keeps ?_ ?_
      · exact Keeps.refl _ _
      · refine Keeps.pair2 ?_
        refine State.setFld_keeps (n := 2) (show unitOf 8228 = 2 from rfl) rfl rfl ?_
        refine Keeps.mk_time rfl ?_
        exact Keeps.refl _ _
  · exact Keeps.refl _ _

theorem execCmdAlmStatus_keeps {t : Nat} {c : Sys2Proof.Entry} (u : State) : ∃ nxt, execCmdAlmStatus t c u = .next nxt ∧ Keeps 108121678542800055 u nxt := by
  refine ⟨_, rfl, ?_⟩
  refine State.pilotCmd_keeps (fun _ _ => ?_) rfl ?_
  · refine needs_keeps ?_ ?_
    · exact Keeps.refl _ _
    · refine State.answerRegs_keeps rfl ?_
      exact Keeps.refl _ _
  · exact Keeps.refl _ _

theorem execCmdStateRead_keeps {t : Nat} {c : Sys2Proof.Entry} (u : State) : ∃ nxt, execCmdStateRead t c u = .next nxt ∧ Keeps 34393292966 u nxt := by
  refine ⟨_, rfl, ?_⟩
  refine State.pilotCmd_keeps (fun _ _ => ?_) rfl ?_
  · refine needs_keeps ?_ ?_
    · exact Keeps.refl _ _
    · refine Keeps.pair2 ?_
      exact Keeps.refl _ _
  · exact Keeps.refl _ _

theorem execCmdGetTime_keeps {t : Nat} {c : Sys2Proof.Entry} (u : State) : ∃ nxt, execCmdGetTime t c u = .next nxt ∧ Keeps 34393292966 u nxt := by
  refine ⟨_, rfl, ?_⟩
  refine State.pilotCmd_keeps (fun _ _ => ?_) rfl ?_
  · refine Keeps.pair2 ?_
    exact Keeps.refl _ _
  · exact Keeps.refl _ _

theorem execCmdReadReg_keeps {t : Nat} {c : Sys2Proof.Entry} (u : State) : ∃ nxt, execCmdReadReg t c u = .next nxt ∧ Keeps 108121678542800055 u nxt := by
  refine ⟨_, rfl, ?_⟩
  refine State.pilotCmd_keeps (fun _ _ => ?_) rfl ?_
  · refine needs_keeps ?_ ?_
    · exact Keeps.refl _ _
    · refine Keeps.pair2 ?_
      refine State.regReads_keeps rfl ?_
      exact Keeps.refl _ _
  · exact Keeps.refl _ _

theorem execCmdGetRing_keeps {t : Nat} {c : Sys2Proof.Entry} (u : State) : ∃ nxt, execCmdGetRing t c u = .next nxt ∧ Keeps 108121678542800055 u nxt := by
  refine ⟨_, rfl, ?_⟩
  refine State.pilotCmd_keeps (fun _ _ => ?_) rfl ?_
  · refine needs_keeps ?_ ?_
    · exact Keeps.refl _ _
    · refine State.answerRegs_keeps rfl ?_
      exact Keeps.refl _ _
  · exact Keeps.refl _ _

theorem execCmdSetNet_keeps {t : Nat} {c : Sys2Proof.Entry} (u : State) : ∃ nxt, execCmdSetNet t c u = .next nxt ∧ Keeps 34393292966 u nxt := by
  refine ⟨_, rfl, ?_⟩
  refine State.pilotCmd_keeps (fun _ _ => ?_) rfl ?_
  · refine needs_keeps ?_ ?_
    · exact Keeps.refl _ _
    · refine Keeps.pair2 ?_
      refine Keeps.foldl (fun _ _ => ?_) ?_
      · refine State.when_keeps (fun _ => ?_) ?_
        · refine State.closeSession_keeps rfl ?_
          exact Keeps.refl _ _
        · exact Keeps.refl _ _
      · refine State.modPilot_keeps rfl ?_
        exact Keeps.refl _ _
  · exact Keeps.refl _ _

theorem execCmdEcho_keeps {t : Nat} {c : Sys2Proof.Entry} (u : State) : ∃ nxt, execCmdEcho t c u = .next nxt ∧ Keeps 34393292966 u nxt := by
  refine ⟨_, rfl, ?_⟩
  refine State.pilotCmd_keeps (fun _ _ => ?_) rfl ?_
  · refine Keeps.pair2 ?_
    exact Keeps.refl _ _
  · exact Keeps.refl _ _

theorem execCmdSetUtcofs_keeps {t : Nat} {c : Sys2Proof.Entry} (u : State) : ∃ nxt, execCmdSetUtcofs t c u = .next nxt ∧ Keeps 51573162150 u nxt := by
  refine ⟨_, rfl, ?_⟩
  refine State.pilotCmd_keeps (fun _ _ => ?_) rfl ?_
  · refine needs_keeps ?_ ?_
    · exact Keeps.refl _ _
    · refine Keeps.pair2 ?_
      refine State.setFld_keeps (n := 2) (show unitOf 8264 = 2 from rfl) rfl rfl ?_
      exact Keeps.refl _ _
  · exact Keeps.refl _ _

theorem execCmdSetOverride_keeps {t : Nat} {c : Sys2Proof.Entry} (u : State) : ∃ nxt, execCmdSetOverride t c u = .next nxt ∧ Keeps 90340586952214263 u nxt := by
  refine ⟨_, rfl, ?_⟩
  refine State.pilotCmd_keeps (fun _ _ => ?_) rfl ?_
  · refine needs_keeps ?_ ?_
    · exact Keeps.refl _ _
    · refine needsState_keeps ?_ ?_
      · exact Keeps.refl _ _
      · refine Keeps.ite2 ?_ ?_
        · refine State.atBoundary_keeps (fun _ => ?_) rfl ?_
          · refine Keeps.mk_ep rfl ?_
            exact Keeps.refl _ _
          · exact Keeps.refl _ _
        · refine Keeps.pair2 ?_
          refine State.raiseEv_keeps (n := 0) (show unitOf 72 = 0 from rfl) rfl rfl ?_
          exact Keeps.refl _ _
  · exact Keeps.refl _ _

theorem execCmdUnknownCommand_keeps {t : Nat} {op : Nat} {c : Sys2Proof.Entry} (u : State) : ∃ nxt, execCmdUnknownCommand t op c u = .next nxt ∧ Keeps 34359738534 u nxt := by
  refine ⟨_, rfl, ?_⟩
  refine Keeps.ite ?_ ?_
  · refine State.at_keeps rfl ?_
    exact Keeps.refl _ _
  · refine State.respond_keeps rfl ?_
    refine State.takeEntry_keeps rfl ?_
    refine State.at_keeps rfl ?_
    exact Keeps.refl _ _

theorem execCmdOwRetest_keeps {t : Nat} {c : Sys2Proof.Entry} (u : State) : ∃ nxt, execCmdOwRetest t c u = .next nxt ∧ Keeps 35562362767270 u nxt := by
  refine ⟨_, rfl, ?_⟩
  refine State.pilotCmd_keeps (fun _ _ => ?_) rfl ?_
  · refine needs_keeps ?_ ?_
    · exact Keeps.refl _ _
    · refine needsState_keeps ?_ ?_
      · exact Keeps.refl _ _
      · refine Keeps.pair2 ?_
        refine State.owcmdWrite_keeps rfl ?_
        exact Keeps.refl _ _
  · exact Keeps.refl _ _

theorem execCmdAlmStart_keeps {t : Nat} {c : Sys2Proof.Entry} (u : State) : ∃ nxt, execCmdAlmStart t c u = .next nxt ∧ Keeps 1133905445030 u nxt := by
  refine ⟨_, rfl, ?_⟩
  refine State.pilotCmd_keeps (fun _ _ => ?_) rfl ?_
  · extract_lets -merge -useContext -underBinder y1
    refine Keeps.next (t := y1) (Nat.or_self _) ?_ ?_
    · refine State.almStart_keeps rfl ?_
      exact Keeps.refl _ _
    · clear_value y1
      refine Keeps.pair2 ?_
      exact Keeps.refl _ _
  · exact Keeps.refl _ _

theorem execCmdSetAwait_keeps {t : Nat} {c : Sys2Proof.Entry} (u : State) : ∃ nxt, execCmdSetAwait t c u = .next nxt ∧ Keeps 38688260262 u nxt := by
  refine ⟨_, rfl, ?_⟩
  refine State.pilotCmd_keeps (fun _ _ => ?_) rfl ?_
  · refine Keeps.pair2 ?_
    try extract_lets -underBinder
    first | split | (dsimp +zetaDelta only; split)
    · refine State.setWord_keeps (n := 0) (show unitOf 92 = 0 from rfl) rfl rfl ?_
      exact Keeps.refl _ _
    · refine State.setWord_keeps (n := 0) (show unitOf 96 = 0 from rfl) rfl rfl ?_
      exact Keeps.refl _ _
    · refine State.setSession_keeps rfl ?_
      exact Keeps.refl _ _
  · exact Keeps.refl _ _

theorem execCmdSetTiles_keeps {t : Nat} {c : Sys2Proof.Entry} (u : State) : ∃ nxt, execCmdSetTiles t c u = .next nxt ∧ Keeps 243182693458636799 u nxt := by
  refine ⟨_, rfl, ?_⟩
  refine State.pilotCmd_keeps (fun _ _ => ?_) rfl ?_
  · refine needs_keeps ?_ ?_
    · exact Keeps.refl _ _
    · refine State.setImages_keeps rfl ?_
      exact Keeps.refl _ _
  · exact Keeps.refl _ _

theorem execCmdGetInfo_keeps {t : Nat} {c : Sys2Proof.Entry} (u : State) : ∃ nxt, execCmdGetInfo t c u = .next nxt ∧ Keeps 34393292966 u nxt := by
  refine ⟨_, rfl, ?_⟩
  refine State.pilotCmd_keeps (fun _ _ => ?_) rfl ?_
  · refine Keeps.pair2 ?_
    exact Keeps.refl _ _
  · exact Keeps.refl _ _

theorem execCmdClearOverrides_keeps {t : Nat} {c : Sys2Proof.Entry} (u : State) : ∃ nxt, execCmdClearOverrides t c u = .next nxt ∧ Keeps 90340586952214263 u nxt := by
  refine ⟨_, rfl, ?_⟩
  refine State.pilotCmd_keeps (fun _ _ => ?_) rfl ?_
  · refine State.atBoundary_keeps (fun _ => ?_) rfl ?_
    · refine Keeps.mk_ep rfl ?_
      exact Keeps.refl _ _
    · exact Keeps.refl _ _
  · exact Keeps.refl _ _

theorem execCmdAlmWrite_keeps {t : Nat} {c : Sys2Proof.Entry} (u : State) : ∃ nxt, execCmdAlmWrite t c u = .next nxt ∧ Keeps 1133905445030 u nxt := by
  refine ⟨_, rfl, ?_⟩
  refine State.pilotCmd_keeps (fun _ _ => ?_) rfl ?_
  · refine needs_keeps ?_ ?_
    · exact Keeps.refl _ _
    · refine needsState_keeps ?_ ?_
      · exact Keeps.refl _ _
      · refine Keeps.pair2 ?_
        refine Keeps.foldl (fun _ _ => ?_) ?_
        · try extract_lets -underBinder
          first | split | (dsimp +zetaDelta only; split)
          · refine State.pmWrite_keeps rfl ?_
            exact Keeps.refl _ _
        · refine State.setFld_keeps (n := 8) (show unitOf 32788 = 8 from rfl) rfl rfl ?_
          exact Keeps.refl _ _
  · exact Keeps.refl _ _

theorem execCmdSetProfile_keeps {t : Nat} {c : Sys2Proof.Entry} (u : State) : ∃ nxt, execCmdSetProfile t c u = .next nxt ∧ Keeps 90340586952214263 u nxt := by
  refine ⟨_, rfl, ?_⟩
  refine State.pilotCmd_keeps (fun _ _ => ?_) rfl ?_
  · refine needs_keeps ?_ ?_
    · exact Keeps.refl _ _
    · refine Keeps.ite2 ?_ ?_
      · refine Keeps.pair2 ?_
        refine State.profileWrite_keeps rfl ?_
        exact Keeps.refl _ _
      · refine State.atBoundary_keeps (fun _ => ?_) rfl ?_
        · refine State.profileWrite_keeps rfl ?_
          exact Keeps.refl _ _
        · exact Keeps.refl _ _
  · exact Keeps.refl _ _

theorem execCmdApplyTopology_keeps {t : Nat} {c : Sys2Proof.Entry} (u : State) : ∃ nxt, execCmdApplyTopology t c u = .next nxt ∧ Keeps 57483876237990 u nxt := by
  refine ⟨_, rfl, ?_⟩
  refine State.pilotCmd_keeps (fun _ _ => ?_) rfl ?_
  · refine needs_keeps ?_ ?_
    · exact Keeps.refl _ _
    · refine needsState_keeps ?_ ?_
      · exact Keeps.refl _ _
      · extract_lets -merge -useContext -underBinder y1
        refine Keeps.next (t := y1) (Nat.or_self _) ?_ ?_
        · refine State.acqctlWrite_keeps rfl ?_
          exact Keeps.refl _ _
        · clear_value y1
          refine Keeps.pair2 ?_
          exact Keeps.refl _ _
  · exact Keeps.refl _ _

theorem execCmdSetRate_keeps {t : Nat} {c : Sys2Proof.Entry} (u : State) : ∃ nxt, execCmdSetRate t c u = .next nxt ∧ Keeps 51573162150 u nxt := by
  refine ⟨_, rfl, ?_⟩
  refine State.pilotCmd_keeps (fun _ _ => ?_) rfl ?_
  · refine needsState_keeps ?_ ?_
    · exact Keeps.refl _ _
    · refine Keeps.pair2 ?_
      refine State.rateWrite_keeps rfl ?_
      exact Keeps.refl _ _
  · exact Keeps.refl _ _

theorem execCmdSetChecks_keeps {t : Nat} {c : Sys2Proof.Entry} (u : State) : ∃ nxt, execCmdSetChecks t c u = .next nxt ∧ Keeps 243182693458636799 u nxt := by
  refine ⟨_, rfl, ?_⟩
  refine State.pilotCmd_keeps (fun _ _ => ?_) rfl ?_
  · refine needs_keeps ?_ ?_
    · exact Keeps.refl _ _
    · refine State.setImages_keeps rfl ?_
      exact Keeps.refl _ _
  · exact Keeps.refl _ _

theorem execCmdAlmDwrite_keeps {t : Nat} {c : Sys2Proof.Entry} (u : State) : ∃ nxt, execCmdAlmDwrite t c u = .next nxt ∧ Keeps 34393817254 u nxt := by
  refine ⟨_, rfl, ?_⟩
  refine State.pilotCmd_keeps (fun _ _ => ?_) rfl ?_
  · refine needs_keeps ?_ ?_
    · exact Keeps.refl _ _
    · refine Keeps.pair2 ?_
      refine Keeps.foldl (fun _ _ => ?_) ?_
      · try extract_lets -underBinder
        first | split | (dsimp +zetaDelta only; split)
        · refine State.dmWrite_keeps rfl ?_
          exact Keeps.refl _ _
      · exact Keeps.refl _ _
  · exact Keeps.refl _ _

theorem execCmdMbxRelay_keeps {t : Nat} {c : Sys2Proof.Entry} (u : State) : ∃ nxt, execCmdMbxRelay t c u = .next nxt ∧ Keeps 34393292966 u nxt := by
  refine ⟨_, rfl, ?_⟩
  refine State.pilotCmd_keeps (fun _ _ => ?_) rfl ?_
  · refine needs_keeps ?_ ?_
    · exact Keeps.refl _ _
    · refine needsState_keeps ?_ ?_
      · exact Keeps.refl _ _
      · refine Keeps.ite2 ?_ ?_
        · refine Keeps.pair2 ?_
          refine State.modPilot_keeps rfl ?_
          refine State.mailTake_keeps rfl ?_
          exact Keeps.refl _ _
        · refine Keeps.ite2 ?_ ?_
          · refine Keeps.pair2 ?_
            refine State.h2dWrite_keeps rfl ?_
            exact Keeps.refl _ _
          · refine Keeps.ite2 ?_ ?_
            · refine Keeps.pair2 ?_
              exact Keeps.refl _ _
            · refine Keeps.pair2 ?_
              refine State.modPilot_keeps rfl ?_
              exact Keeps.refl _ _
  · exact Keeps.refl _ _

end Sys2Proof.Machine
end

