-- ==== Sys2Proof/Laws/KeepsPilotUpdate.lean ====
section
/-! SUPPORT. What each function of Machine/PilotUpdate.lean can change. -/

namespace Sys2Proof.Machine

theorem execConfirmationWindowClose_keeps {t : Nat} (u : State) : ∃ nxt, execConfirmationWindowClose t u = .next nxt ∧ Keeps 22517998136854630 u nxt := by
  refine ⟨_, rfl, ?_⟩
  try extract_lets -underBinder
  first | split | (dsimp +zetaDelta only; split)
  · refine Keeps.ite ?_ ?_
    · refine State.logEvent_keeps rfl ?_
      refine State.modUpd_keeps rfl ?_
      refine State.setFld_keeps (n := 20) (show unitOf 81968 = 20 from rfl) rfl rfl ?_
      refine State.setHeld_keeps (n := 20) (show unitOf 81920 = 20 from rfl) rfl rfl ?_
      refine State.at_keeps rfl ?_
      exact Keeps.refl _ _
    · refine State.at_keeps rfl ?_
      exact Keeps.refl _ _
  · refine State.at_keeps rfl ?_
    exact Keeps.refl _ _

theorem execPauseTimeout_keeps {t : Nat} (u : State) : ∃ nxt, execPauseTimeout t u = .next nxt ∧ Keeps 26829187525230710 u nxt := by
  refine ⟨_, rfl, ?_⟩
  refine Keeps.ite ?_ ?_
  · refine State.binAbsent_keeps rfl ?_
    refine State.setFld_keeps (n := 20) (show unitOf 81920 = 20 from rfl) rfl rfl ?_
    refine State.at_keeps rfl ?_
    exact Keeps.refl _ _
  · refine State.at_keeps rfl ?_
    exact Keeps.refl _ _

theorem execCmdActivate_keeps {t : Nat} {c : Sys2Proof.Entry} (u : State) : ∃ nxt, execCmdActivate t c u = .next nxt ∧ Keeps 23450418390812902 u nxt := by
  refine ⟨_, rfl, ?_⟩
  refine State.pilotCmd_keeps (fun _ _ => ?_) rfl ?_
  · refine needsState_keeps ?_ ?_
    · exact Keeps.refl _ _
    · refine Keeps.ite2 ?_ ?_
      · refine Keeps.pair2 ?_
        refine State.modUpd_keeps rfl ?_
        refine State.writeRecord_keeps rfl ?_
        exact Keeps.refl _ _
      · refine needsState_keeps ?_ ?_
        · exact Keeps.refl _ _
        · refine Keeps.ite2 ?_ ?_
          · refine Keeps.pair2 ?_
            refine State.spWrite_keeps rfl ?_
            refine State.spWrite_keeps rfl ?_
            exact Keeps.refl _ _
          · refine Keeps.pair2 ?_
            refine State.pauseStart_keeps rfl ?_
            exact Keeps.refl _ _
  · exact Keeps.refl _ _

theorem execCmdUpdEnd_keeps {t : Nat} {c : Sys2Proof.Entry} (u : State) : ∃ nxt, execCmdUpdEnd t c u = .next nxt ∧ Keeps 4503634020665510 u nxt := by
  refine ⟨_, rfl, ?_⟩
  refine State.pilotCmd_keeps (fun _ _ => ?_) rfl ?_
  · try extract_lets -underBinder
    first | split | (dsimp +zetaDelta only; split)
    · refine Keeps.pair2 ?_
      exact Keeps.refl _ _
    · extract_lets -merge -useContext -underBinder y1
      refine Keeps.next (t := y1) (Nat.or_self _) ?_ ?_
      · refine State.modUpd_keeps rfl ?_
        refine State.setFld_keeps (n := 20) (show unitOf 81924 = 20 from rfl) rfl rfl ?_
        exact Keeps.refl _ _
      · clear_value y1
        refine Keeps.ite2 ?_ ?_
        · refine Keeps.pair2 ?_
          refine State.setFld_keeps (n := 20) (show unitOf 81924 = 20 from rfl) rfl rfl ?_
          exact Keeps.refl _ _
        · refine Keeps.pair2 ?_
          refine State.raiseEv_keeps (n := 20) (show unitOf 81920 = 20 from rfl) rfl rfl ?_
          exact Keeps.refl _ _
  · exact Keeps.refl _ _

theorem execBootRecordWritten_keeps {t : Nat} (u : State) : ∃ nxt, execBootRecordWritten t u = .next nxt ∧ Keeps 4503599627372582 u nxt := by
  refine ⟨_, rfl, ?_⟩
  try extract_lets -underBinder
  first | split | (dsimp +zetaDelta only; split)
  · refine State.modUpd_keeps rfl ?_
    refine State.setFld_keeps (n := 20) (show unitOf 81920 = 20 from rfl) rfl rfl ?_
    refine State.writeRecord_keeps rfl ?_
    refine State.at_keeps rfl ?_
    exact Keeps.refl _ _
  · refine State.at_keeps rfl ?_
    exact Keeps.refl _ _

theorem execCmdCommit_keeps {t : Nat} {c : Sys2Proof.Entry} (u : State) : ∃ nxt, execCmdCommit t c u = .next nxt ∧ Keeps 166633220606003430 u nxt := by
  refine ⟨_, rfl, ?_⟩
  refine State.pilotCmd_keeps (fun _ _ => ?_) rfl ?_
  · refine needsState_keeps ?_ ?_
    · exact Keeps.refl _ _
    · refine Keeps.pair2 ?_
      refine State.logEvent_keeps rfl ?_
      refine State.setFld_keeps (n := 25) (show unitOf 102404 = 25 from rfl) rfl rfl ?_
      refine State.setFld_keeps (n := 20) (show unitOf 81968 = 20 from rfl) rfl rfl ?_
      refine State.modUpd_keeps rfl ?_
      refine State.setFld_keeps (n := 20) (show unitOf 81920 = 20 from rfl) rfl rfl ?_
      refine State.writeRecord_keeps rfl ?_
      exact Keeps.refl _ _
  · exact Keeps.refl _ _

theorem State.eraseSlot_keeps {m : Nat} {s u : State} {b : Nat} {k : Nat} (hm : m ||| 2048 = m) (h : Keeps m s u) :
    Keeps m s (State.eraseSlot u b k) := by
  refine Keeps.next hm h ?_
  clear hm h
  unfold State.eraseSlot
  refine State.modUpd_keeps rfl ?_
  exact Keeps.refl _ _

theorem execCmdUpdStatus_keeps {t : Nat} {c : Sys2Proof.Entry} (u : State) : ∃ nxt, execCmdUpdStatus t c u = .next nxt ∧ Keeps 108121678542800055 u nxt := by
  refine ⟨_, rfl, ?_⟩
  refine State.pilotCmd_keeps (fun _ _ => ?_) rfl ?_
  · refine State.answerRegs_keeps rfl ?_
    exact Keeps.refl _ _
  · exact Keeps.refl _ _

theorem execCmdUpdBegin_keeps {t : Nat} {c : Sys2Proof.Entry} (u : State) : ∃ nxt, execCmdUpdBegin t c u = .next nxt ∧ Keeps 4503634020665510 u nxt := by
  refine ⟨_, rfl, ?_⟩
  refine State.pilotCmd_keeps (fun _ _ => ?_) rfl ?_
  · refine needs_keeps ?_ ?_
    · exact Keeps.refl _ _
    · refine needsState_keeps ?_ ?_
      · exact Keeps.refl _ _
      · refine Keeps.ite2 ?_ ?_
        · refine Keeps.pair2 ?_
          exact Keeps.refl _ _
        · refine Keeps.pair2 ?_
          refine State.modUpd_keeps rfl ?_
          refine State.setFld_keeps (n := 20) (show unitOf 81924 = 20 from rfl) rfl rfl ?_
          refine State.setFld_keeps (n := 20) (show unitOf 81924 = 20 from rfl) rfl rfl ?_
          refine State.eraseSlot_keeps rfl ?_
          exact Keeps.refl _ _
  · exact Keeps.refl _ _

theorem execCmdUpdWrite_keeps {t : Nat} {c : Sys2Proof.Entry} (u : State) : ∃ nxt, execCmdUpdWrite t c u = .next nxt ∧ Keeps 34393295014 u nxt := by
  refine ⟨_, rfl, ?_⟩
  refine State.pilotCmd_keeps (fun _ _ => ?_) rfl ?_
  · refine needs_keeps ?_ ?_
    · exact Keeps.refl _ _
    · try extract_lets -underBinder
      first | split | (dsimp +zetaDelta only; split)
      · refine Keeps.pair2 ?_
        exact Keeps.refl _ _
      · refine needs_keeps ?_ ?_
        · exact Keeps.refl _ _
        · refine Keeps.pair2 ?_
          refine State.flashWrite_keeps rfl ?_
          exact Keeps.refl _ _
  · exact Keeps.refl _ _

theorem execPauseResumption_keeps {t : Nat} (u : State) : ∃ nxt, execPauseResumption t u = .next nxt ∧ Keeps 23432791811344502 u nxt := by
  refine ⟨_, rfl, ?_⟩
  refine Keeps.ite ?_ ?_
  · refine State.at_keeps rfl ?_
    exact Keeps.refl _ _
  · refine State.outputsEval_keeps rfl ?_
    refine State.setFld_keeps (n := 16) (show unitOf 65548 = 16 from rfl) rfl rfl ?_
    refine State.setFld_keeps (n := 20) (show unitOf 81920 = 20 from rfl) rfl rfl ?_
    refine State.modSxt_keeps rfl ?_
    refine State.modLds_keeps rfl ?_
    refine State.modUpd_keeps rfl ?_
    refine Keeps.foldl (fun _ _ => ?_) ?_
    · refine State.epochDies_keeps rfl ?_
      exact Keeps.refl _ _
    · refine State.at_keeps rfl ?_
      exact Keeps.refl _ _

theorem execActivateRampTimeout_keeps {t : Nat} (u : State) : ∃ nxt, execActivateRampTimeout t u = .next nxt ∧ Keeps 23450418390812902 u nxt := by
  refine ⟨_, rfl, ?_⟩
  refine State.answerAll_keeps rfl ?_
  refine State.rampCheck_keeps rfl ?_
  refine State.at_keeps rfl ?_
  exact Keeps.refl _ _

end Sys2Proof.Machine
end

