-- ==== Sys2Proof/Laws/KeepsThermal.lean ====
section
/-! SUPPORT. What each function of Machine/Thermal.lean can change. -/

namespace Sys2Proof.Machine

theorem State.modPwr_keeps {m : Nat} {s u : State} {f : Sys2Proof.Machine.PwrSt → Sys2Proof.Machine.PwrSt} (hm : m ||| 4194304 = m) (h : Keeps m s u) :
    Keeps m s (State.modPwr u f) := by
  refine Keeps.next hm h ?_
  clear hm h
  unfold State.modPwr
  refine Keeps.mk_pwr rfl ?_
  exact Keeps.refl _ _

theorem State.setBroken_keeps {m : Nat} {s u : State} {k : Nat} {b : Bool} (hm : m ||| 9007199258935300 = m) (h : Keeps m s u) :
    Keeps m s (State.setBroken u k b) := by
  refine Keeps.next hm h ?_
  clear hm h
  unfold State.setBroken
  refine State.setHeld_keeps (n := 21) (show unitOf 86020 = 21 from rfl) rfl rfl ?_
  refine State.modPwr_keeps rfl ?_
  exact Keeps.refl _ _

theorem State.showTemp_keeps {m : Nat} {s u : State} {f : Sys2Proof.Machine.Fld} {v : Option Int} (hk : unitOf f.reg = 21) (hm : m ||| 9007199254740996 = m) (h : Keeps m s u) :
    Keeps m s (State.showTemp u f v) := by
  refine Keeps.next hm h ?_
  clear hm h
  unfold State.showTemp
  try extract_lets -underBinder
  first | split | (dsimp +zetaDelta only; split)
  · refine State.setFldS_keeps hk rfl rfl ?_
    exact Keeps.refl _ _
  · refine State.setFld_keeps hk rfl rfl ?_
    exact Keeps.refl _ _

theorem State.throttle_keeps {m : Nat} {s u : State} {on : Bool} (hm : m ||| 81069225699967109 = m) (h : Keeps m s u) :
    Keeps m s (State.throttle u on) := by
  refine Keeps.next hm h ?_
  clear hm h
  unfold State.throttle
  refine State.sxtSched_keeps rfl ?_
  refine State.when_keeps (fun _ => ?_) ?_
  · refine State.irq_keeps rfl ?_
    exact Keeps.refl _ _
  · refine State.setHeld_keeps (n := 21) (show unitOf 86020 = 21 from rfl) rfl rfl ?_
    refine State.pmcSync_keeps rfl ?_
    exact Keeps.refl _ _

theorem State.throttleCount_keeps {m : Nat} {s u : State} {hot : Int} (hm : m ||| 81069225704161413 = m) (h : Keeps m s u) :
    Keeps m s (State.throttleCount u hot) := by
  refine Keeps.next hm h ?_
  clear hm h
  unfold State.throttleCount
  refine State.when_keeps (fun _ => ?_) ?_
  · refine State.throttle_keeps rfl ?_
    exact Keeps.refl _ _
  · refine State.modPwr_keeps rfl ?_
    exact Keeps.refl _ _

theorem State.warnShow_keeps {m : Nat} {s u : State} (hm : m ||| 9007199254740996 = m) (h : Keeps m s u) :
    Keeps m s (State.warnShow u) := by
  refine Keeps.next hm h ?_
  clear hm h
  unfold State.warnShow
  refine State.setHeld_keeps (n := 21) (show unitOf 86020 = 21 from rfl) rfl rfl ?_
  exact Keeps.refl _ _

theorem State.warnBegin_keeps {m : Nat} {s u : State} {inst : Nat} {reading : Nat} (hm : m ||| 27021632123961540 = m) (h : Keeps m s u) :
    Keeps m s (State.warnBegin u inst reading) := by
  refine Keeps.next hm h ?_
  clear hm h
  unfold State.warnBegin
  refine State.logEvent_keeps rfl ?_
  refine State.irq_keeps rfl ?_
  refine State.raise_keeps (n := 21) (show unitOf 86020 = 21 from rfl) rfl rfl ?_
  exact Keeps.refl _ _

theorem State.dieWarning_keeps {m : Nat} {s u : State} {temps : List Int} (hm : m ||| 27021632128155844 = m) (h : Keeps m s u) :
    Keeps m s (State.dieWarning u temps) := by
  refine Keeps.next hm h ?_
  clear hm h
  unfold State.dieWarning
  refine State.warnShow_keeps rfl ?_
  refine State.when_keeps (fun _ => ?_) ?_
  · refine State.warnBegin_keeps rfl ?_
    exact Keeps.refl _ _
  · refine State.modPwr_keeps rfl ?_
    exact Keeps.refl _ _

theorem State.thermalShutdown_keeps {m : Nat} {s u : State} {i : Nat} {broken : Bool} (hm : m ||| 23432826175144132 = m) (h : Keeps m s u) :
    Keeps m s (State.thermalShutdown u i broken) := by
  refine Keeps.next hm h ?_
  clear hm h
  unfold State.thermalShutdown
  refine State.modPwr_keeps rfl ?_
  refine State.helmExtStop_keeps rfl ?_
  refine State.trip_keeps (show unitOf 65548 = 16 from rfl) rfl ?_
  exact Keeps.refl _ _

theorem execDieSensorConversion_keeps {t : Nat} {temps : List Int} (u : State) : ∃ nxt, execDieSensorConversion t temps u = .next nxt ∧ Keeps 104502017515372775 u nxt := by
  refine ⟨_, rfl, ?_⟩
  refine Keeps.ite ?_ ?_
  · refine State.at_keeps rfl ?_
    exact Keeps.refl _ _
  · extract_lets -merge -useContext -underBinder y1 y2 y3
    refine Keeps.next (t := y1) (Nat.or_self _) ?_ ?_
    · refine Keeps.foldl (fun _ _ => ?_) ?_
      · refine State.setBroken_keeps rfl ?_
        refine State.showTemp_keeps (unit_THM_DIE _) rfl ?_
        exact Keeps.refl _ _
      · refine State.at_keeps rfl ?_
        exact Keeps.refl _ _
    · clear_value y1
      refine Keeps.next (t := y3) (Nat.or_self _) ?_ ?_
      · refine State.when_keeps (fun _ => ?_) ?_
        · refine State.throttleCount_keeps rfl ?_
          refine State.dieWarning_keeps rfl ?_
          exact Keeps.refl _ _
        · exact Keeps.refl _ _
      · clear_value y3
        try extract_lets -underBinder
        first | split | (dsimp +zetaDelta only; split)
        · refine State.modPwr_keeps rfl ?_
          exact Keeps.refl _ _
        · refine State.when_keeps (fun _ => ?_) ?_
          · refine State.thermalShutdown_keeps rfl ?_
            exact Keeps.refl _ _
          · refine State.modPwr_keeps rfl ?_
            exact Keeps.refl _ _

theorem execCmdThermalStatus_keeps {t : Nat} {c : Sys2Proof.Entry} (u : State) : ∃ nxt, execCmdThermalStatus t c u = .next nxt ∧ Keeps 34393292966 u nxt := by
  refine ⟨_, rfl, ?_⟩
  refine State.pilotCmd_keeps (fun _ _ => ?_) rfl ?_
  · refine Keeps.pair2 ?_
    exact Keeps.refl _ _
  · exact Keeps.refl _ _

theorem execCmdThermalSetup_keeps {t : Nat} {c : Sys2Proof.Entry} (u : State) : ∃ nxt, execCmdThermalSetup t c u = .next nxt ∧ Keeps 81069225733521575 u nxt := by
  refine ⟨_, rfl, ?_⟩
  refine State.pilotCmd_keeps (fun _ _ => ?_) rfl ?_
  · refine needs_keeps ?_ ?_
    · exact Keeps.refl _ _
    · refine Keeps.pair2 ?_
      refine State.sxtSched_keeps rfl ?_
      refine State.setFld_keeps (n := 21) (show unitOf 86016 = 21 from rfl) rfl rfl ?_
      refine State.setFld_keeps (n := 21) (show unitOf 86016 = 21 from rfl) rfl rfl ?_
      refine State.setFld_keeps (n := 21) (show unitOf 86016 = 21 from rfl) rfl rfl ?_
      refine State.pmcSync_keeps rfl ?_
      exact Keeps.refl _ _
  · exact Keeps.refl _ _

theorem execThrottleEnd_keeps {t : Nat} (u : State) : ∃ nxt, execThrottleEnd t u = .next nxt ∧ Keeps 81069225699967143 u nxt := by
  refine ⟨_, rfl, ?_⟩
  try extract_lets -underBinder
  first | split | (dsimp +zetaDelta only; split)
  · refine Keeps.ite ?_ ?_
    · refine State.throttle_keeps rfl ?_
      refine State.at_keeps rfl ?_
      exact Keeps.refl _ _
    · refine State.at_keeps rfl ?_
      exact Keeps.refl _ _
  · refine State.at_keeps rfl ?_
    exact Keeps.refl _ _

theorem execBoardChannelConversion_keeps {t : Nat} {ch : Nat} {raw : Nat} (u : State) : ∃ nxt, execBoardChannelConversion t ch raw u = .next nxt ∧ Keeps 27021632128159974 u nxt := by
  refine ⟨_, rfl, ?_⟩
  refine Keeps.ite ?_ ?_
  · refine State.at_keeps rfl ?_
    exact Keeps.refl _ _
  · extract_lets -merge -useContext -underBinder y1 y2 y3 y4 y5 y6 y7
    refine Keeps.next (t := y4) (Nat.or_self _) ?_ ?_
    · refine State.when_keeps (fun _ => ?_) ?_
      · refine State.unitFault_keeps rfl ?_
        exact Keeps.refl _ _
      · refine State.setBroken_keeps rfl ?_
        refine State.showTemp_keeps (unitOf_fldIte (unit_THM_TH _) (unit_THM_TD _)) rfl ?_
        refine State.at_keeps rfl ?_
        exact Keeps.refl _ _
    · clear_value y4
      refine State.warnShow_keeps rfl ?_
      refine State.when_keeps (fun _ => ?_) ?_
      · refine State.warnBegin_keeps rfl ?_
        exact Keeps.refl _ _
      · refine State.modPwr_keeps rfl ?_
        exact Keeps.refl _ _

end Sys2Proof.Machine
end

