-- ==== Sys2Proof/Laws/KeepsPower.lean ====
section
/-! SUPPORT. What each function of Machine/Power.lean can change. -/

namespace Sys2Proof.Machine

theorem State.canGate_keeps {m : Nat} {s u : State} {n : Nat} (hm : m ||| 2251799813754884 = m) (h : Keeps m s u) :
    Keeps m s (State.canGate u n) := by
  refine Keeps.next hm h ?_
  clear hm h
  unfold State.canGate
  refine State.canShow_keeps rfl ?_
  refine State.canErr_keeps rfl ?_
  refine State.setWord_keeps (n := 19) (unit_CAN_RXFULL _ _) rfl rfl ?_
  refine State.setWord_keeps (n := 19) (unit_CAN_RXFULL _ _) rfl rfl ?_
  refine State.modCan_keeps rfl ?_
  exact Keeps.refl _ _

theorem State.trimApply_keeps {m : Nat} {s u : State} {x1 : Sys2Proof.Word} (hm : m ||| 12437791548323732 = m) (h : Keeps m s u) :
    Keeps m s (State.trimApply u x1) := by
  refine Keeps.next hm h ?_
  clear hm h
  unfold State.trimApply
  refine Keeps.foldl (fun _ _ => ?_) ?_
  · refine State.when_keeps (fun _ => ?_) ?_
    · refine State.canGate_keeps rfl ?_
      exact Keeps.refl _ _
    · exact Keeps.refl _ _
  · refine State.when_keeps (fun _ => ?_) ?_
    · refine State.setLanes_keeps rfl ?_
      exact Keeps.refl _ _
    · refine State.when_keeps (fun _ => ?_) ?_
      · refine State.pcieLoss_keeps rfl ?_
        exact Keeps.refl _ _
      · refine Keeps.foldl (fun _ _ => ?_) ?_
        · refine State.when_keeps (fun _ => ?_) ?_
          · refine State.modHost_keeps rfl ?_
            exact Keeps.refl _ _
          · exact Keeps.refl _ _
        · refine State.when_keeps (fun _ => ?_) ?_
          · refine State.excCut_keeps rfl ?_
            exact Keeps.refl _ _
          · refine State.ringsFollow_keeps rfl ?_
            refine State.setWord_keeps (n := 21) (show unitOf 86024 = 21 from rfl) rfl rfl ?_
            exact Keeps.refl _ _

theorem State.recoveryMode_keeps {m : Nat} {s u : State} (hm : m ||| 4503599627403268 = m) (h : Keeps m s u) :
    Keeps m s (State.recoveryMode u) := by
  refine Keeps.next hm h ?_
  clear hm h
  unfold State.recoveryMode
  refine State.modLds_keeps rfl ?_
  refine State.setFld_keeps (n := 20) (show unitOf 81920 = 20 from rfl) rfl rfl ?_
  exact Keeps.refl _ _

theorem State.runBank_keeps {m : Nat} {s u : State} {b : Nat} (hm : m ||| 4503599627403268 = m) (h : Keeps m s u) :
    Keeps m s (State.runBank u b) := by
  refine Keeps.next hm h ?_
  clear hm h
  unfold State.runBank
  refine State.modLds_keeps rfl ?_
  refine State.showVersions_keeps rfl ?_
  refine State.setFld_keeps (n := 20) (show unitOf 81920 = 20 from rfl) rfl rfl ?_
  exact Keeps.refl _ _

theorem State.bootBank_keeps {m : Nat} {s u : State} {strap : Bool} (hm : m ||| 22517998136887364 = m) (h : Keeps m s u) :
    Keeps m s (State.bootBank u strap) := by
  refine Keeps.next hm h ?_
  clear hm h
  unfold State.bootBank
  refine Keeps.ite ?_ ?_
  · refine State.recoveryMode_keeps rfl ?_
    exact Keeps.refl _ _
  · refine Keeps.ite ?_ ?_
    · refine Keeps.ite ?_ ?_
      · refine State.logEvent_keeps rfl ?_
        refine State.setHeld_keeps (n := 20) (show unitOf 81920 = 20 from rfl) rfl rfl ?_
        refine State.writeRecord_keeps rfl ?_
        refine State.runBank_keeps rfl ?_
        exact Keeps.refl _ _
      · refine State.runBank_keeps rfl ?_
        exact Keeps.refl _ _
    · refine Keeps.ite ?_ ?_
      · refine State.logEvent_keeps rfl ?_
        refine State.setHeld_keeps (n := 20) (show unitOf 81920 = 20 from rfl) rfl rfl ?_
        refine State.writeRecord_keeps rfl ?_
        refine State.runBank_keeps rfl ?_
        exact Keeps.refl _ _
      · refine State.recoveryMode_keeps rfl ?_
        exact Keeps.refl _ _

theorem State.bistFail_keeps {m : Nat} {s u : State} {kind : Nat} {n : Nat} (hm : m ||| 54043195528450116 = m) (h : Keeps m s u) :
    Keeps m s (State.bistFail u kind n) := by
  refine Keeps.next hm h ?_
  clear hm h
  unfold State.bistFail
  refine Keeps.ite ?_ ?_
  · exact Keeps.refl _ _
  · extract_lets -merge -useContext -underBinder y1
    refine Keeps.next (t := y1) (Nat.or_self _) ?_ ?_
    · refine State.unitFault_keeps rfl ?_
      exact Keeps.refl _ _
    · clear_value y1
      refine State.when_keeps (fun _ => ?_) ?_
      · refine State.logEvent_keeps rfl ?_
        refine State.raiseEv_keeps (n := 23) (show unitOf 94208 = 23 from rfl) rfl rfl ?_
        exact Keeps.refl _ _
      · exact Keeps.refl _ _

theorem State.shutStart_keeps {m : Nat} {s u : State} (hm : m ||| 27021597768417348 = m) (h : Keeps m s u) :
    Keeps m s (State.shutStart u) := by
  refine Keeps.next hm h ?_
  clear hm h
  unfold State.shutStart
  try extract_lets -underBinder
  first | split | (dsimp +zetaDelta only; split)
  · exact Keeps.refl _ _
  · refine State.logEvent_keeps rfl ?_
    refine State.modPwr_keeps rfl ?_
    refine State.setFld_keeps (n := 21) (show unitOf 86120 = 21 from rfl) rfl rfl ?_
    refine State.setFld_keeps (n := 21) (show unitOf 86120 = 21 from rfl) rfl rfl ?_
    refine State.setFlag_keeps (n := 21) (show unitOf 86120 = 21 from rfl) rfl rfl ?_
    refine State.setFld_keeps (n := 21) (show unitOf 86120 = 21 from rfl) rfl rfl ?_
    exact Keeps.refl _ _

theorem State.logStart_keeps {m : Nat} {s u : State} (hm : m ||| 18014398509482052 = m) (h : Keeps m s u) :
    Keeps m s (State.logStart u) := by
  refine Keeps.next hm h ?_
  clear hm h
  unfold State.logStart
  extract_lets -merge -useContext -underBinder y1
  refine Keeps.next (t := y1) (Nat.or_self _) ?_ ?_
  · refine State.erased_keeps rfl ?_
    exact Keeps.refl _ _
  · clear_value y1
    try extract_lets -underBinder
    first | split | (dsimp +zetaDelta only; split)
    · refine State.when_keeps (fun _ => ?_) ?_
      · refine State.raiseEv_keeps (n := 22) (show unitOf 90112 = 22 from rfl) rfl rfl ?_
        refine State.logEvent_keeps rfl ?_
        exact Keeps.refl _ _
      · exact Keeps.refl _ _
    · exact Keeps.refl _ _

theorem execResetRelease_keeps {t : Nat} {x : Sys2Proof.StartIn} (u : State) : ∃ nxt, execResetRelease t x u = .next nxt ∧ Keeps 67554277882640998 u nxt := by
  refine ⟨_, rfl, ?_⟩
  refine Keeps.ite ?_ ?_
  · refine State.at_keeps rfl ?_
    exact Keeps.refl _ _
  · refine State.bootBank_keeps rfl ?_
    refine State.modFault_keeps rfl ?_
    refine State.modFault_keeps rfl ?_
    refine Keeps.foldl (fun _ _ => ?_) ?_
    · refine State.bistFail_keeps rfl ?_
      exact Keeps.refl _ _
    · refine State.shutStart_keeps rfl ?_
      refine State.repairSched_keeps rfl ?_
      refine State.logStart_keeps rfl ?_
      refine State.wearAdd_keeps rfl ?_
      refine State.xStartAll_keeps rfl ?_
      refine State.modLds_keeps rfl ?_
      refine State.modPwr_keeps rfl ?_
      refine State.at_keeps rfl ?_
      exact Keeps.refl _ _

theorem State.wearReload_keeps {m : Nat} {s u : State} (hm : m ||| 4096 = m) (h : Keeps m s u) :
    Keeps m s (State.wearReload u) := by
  refine Keeps.next hm h ?_
  clear hm h
  unfold State.wearReload
  refine State.modWear_keeps rfl ?_
  exact Keeps.refl _ _

theorem State.ldsSuspend_keeps {m : Nat} {s u : State} {subst : Bool} (hm : m ||| 281474976743428 = m) (h : Keeps m s u) :
    Keeps m s (State.ldsSuspend u subst) := by
  refine Keeps.next hm h ?_
  clear hm h
  unfold State.ldsSuspend
  refine State.setFld_keeps (n := 16) (show unitOf 65548 = 16 from rfl) rfl rfl ?_
  refine State.modLds_keeps rfl ?_
  exact Keeps.refl _ _

theorem State.restart_keeps {m : Nat} {s u : State} {keep : Nat → Bool} (hm : m ||| 201326588 = m) (h : Keeps m s u) :
    Keeps m s (u.restart keep) := by
  refine Keeps.next hm h ?_
  constructor
  · rfl
  · exact fun h => Tab.wf_filter regReset u.regs _ 0 h
  all_goals (intro b; first | rfl | exact Nat.le_refl _ | exact absurd b (by decide) | exact fun _ _ => rfl)

theorem State.powerDown_keeps {m : Nat} {s u : State} (hm : m ||| 201326588 = m) (h : Keeps m s u) : Keeps m s u.powerDown := by
  refine Keeps.next hm h ?_
  clear hm h
  unfold State.powerDown
  refine State.modPwr_keeps rfl ?_
  refine State.wearReload_keeps rfl ?_
  refine State.restart_keeps rfl ?_
  exact Keeps.refl _ _

theorem State.sleep_keeps {m : Nat} {s u : State} {off : Bool} (hm : m ||| 30188191453544444 = m) (h : Keeps m s u) :
    Keeps m s (State.sleep u off) := by
  refine Keeps.next hm h ?_
  clear hm h
  unfold State.sleep
  refine Keeps.ite ?_ ?_
  · refine State.setFld_keeps (n := 21) (show unitOf 86020 = 21 from rfl) rfl rfl ?_
    refine State.powerDown_keeps rfl ?_
    exact Keeps.refl _ _
  · refine State.outputsEval_keeps rfl ?_
    refine State.setFld_keeps (n := 21) (show unitOf 86020 = 21 from rfl) rfl rfl ?_
    refine Keeps.foldl (fun _ _ => ?_) ?_
    · refine State.canGate_keeps rfl ?_
      exact Keeps.refl _ _
    · refine State.helmExtStop_keeps rfl ?_
      refine State.ldsSuspend_keeps rfl ?_
      exact Keeps.refl _ _

theorem State.sleepAnswer_keeps {m : Nat} {s u : State} {ok : Bool} (hm : m ||| 30188225813282812 = m) (h : Keeps m s u) :
    Keeps m s (State.sleepAnswer u ok) := by
  refine Keeps.next hm h ?_
  clear hm h
  unfold State.sleepAnswer
  refine Keeps.ite ?_ ?_
  · exact Keeps.refl _ _
  · refine State.when_keeps (fun _ => ?_) ?_
    · refine State.sleep_keeps rfl ?_
      exact Keeps.refl _ _
    · refine State.answerAll_keeps rfl ?_
      exact Keeps.refl _ _

theorem execJournalSaveDone_keeps {t : Nat} {ok : Bool} (u : State) : ∃ nxt, execJournalSaveDone t ok u = .next nxt ∧ Keeps 30192623859793918 u nxt := by
  refine ⟨_, rfl, ?_⟩
  try extract_lets -underBinder
  first | split | (dsimp +zetaDelta only; split)
  · refine State.at_keeps rfl ?_
    exact Keeps.refl _ _
  · refine Keeps.ite ?_ ?_
    · refine State.at_keeps rfl ?_
      exact Keeps.refl _ _
    · extract_lets -merge -useContext -underBinder y1 y2
      refine Keeps.next (t := y1) (Nat.or_self _) ?_ ?_
      · refine State.wearAdd_keeps rfl ?_
        refine State.setFld_keeps (n := 10) (show unitOf 41028 = 10 from rfl) rfl rfl ?_
        refine State.modSxt_keeps rfl ?_
        refine State.at_keeps rfl ?_
        exact Keeps.refl _ _
      · clear_value y1
        refine State.saveAnswer_keeps rfl ?_
        refine State.sleepAnswer_keeps rfl ?_
        refine Keeps.ite ?_ ?_
        · refine State.journalShow_keeps rfl ?_
          refine State.modSxt_keeps rfl ?_
          refine State.setSlot_keeps rfl ?_
          exact Keeps.refl _ _
        · refine State.logEvent_keeps rfl ?_
          refine State.raiseEv_keeps (n := 10) (show unitOf 41028 = 10 from rfl) rfl rfl ?_
          exact Keeps.refl _ _

theorem State.showKept_keeps {m : Nat} {s u : State} (hm : m ||| 36245418123722788 = m) (h : Keeps m s u) :
    Keeps m s (State.showKept u) := by
  refine Keeps.next hm h ?_
  clear hm h
  unfold State.showKept
  extract_lets -merge -useContext -underBinder y1 y2 y3 y4 y5 y6 y7 y8 y9
  refine Keeps.next (t := y1) (Nat.or_self _) ?_ ?_
  · refine State.setWord_keeps (n := 2) (show unitOf 8264 = 2 from rfl) rfl rfl ?_
    exact Keeps.refl _ _
  · clear_value y1
    refine Keeps.next (t := y3) (Nat.or_self _) ?_ ?_
    · refine Keeps.mk_time rfl ?_
      exact Keeps.refl _ _
    · clear_value y3
      refine Keeps.next (t := y4) (Nat.or_self _) ?_ ?_
      · refine State.setWord_keeps (n := 23) (show unitOf 94220 = 23 from rfl) rfl rfl ?_
        refine State.setFlag_keeps (n := 2) (show unitOf 8228 = 2 from rfl) rfl rfl ?_
        exact Keeps.refl _ _
      · clear_value y4
        refine Keeps.next (t := y5) (Nat.or_self _) ?_ ?_
        · refine State.setWord_keeps (n := 23) (show unitOf 94224 = 23 from rfl) rfl rfl ?_
          exact Keeps.refl _ _
        · clear_value y5
          refine Keeps.next (t := y6) (Nat.or_self _) ?_ ?_
          · refine State.setFld_keeps (n := 10) (show unitOf 40972 = 10 from rfl) rfl rfl ?_
            exact Keeps.refl _ _
          · clear_value y6
            refine Keeps.next (t := y7) (Nat.or_self _) ?_ ?_
            · refine State.setFlag_keeps (n := 8) (show unitOf 32812 = 8 from rfl) rfl rfl ?_
              exact Keeps.refl _ _
            · clear_value y7
              refine Keeps.foldl (fun _ _ => ?_) ?_
              · refine Keeps.ite ?_ ?_
                · refine State.channelMove_keeps rfl ?_
                  exact Keeps.refl _ _
                · exact Keeps.refl _ _
              · refine State.when_keeps (fun _ => ?_) ?_
                · refine State.legsWrite_keeps rfl ?_
                  exact Keeps.refl _ _
                · exact Keeps.refl _ _

theorem State.deviceReset_keeps {m : Nat} {s u : State} {subst : Bool} (hm : m ||| 56230425005129724 = m) (h : Keeps m s u) :
    Keeps m s (State.deviceReset u subst) := by
  refine Keeps.next hm h ?_
  clear hm h
  unfold State.deviceReset
  refine State.outputsEval_keeps rfl ?_
  refine State.ldsSuspend_keeps rfl ?_
  refine State.showKept_keeps rfl ?_
  refine State.setFlag_keeps (n := 6) (show unitOf 24580 = 6 from rfl) rfl rfl ?_
  refine State.setFlag_keeps (n := 18) (show unitOf 73732 = 18 from rfl) rfl rfl ?_
  refine State.setWord_keeps (n := 1) (show unitOf 4096 = 1 from rfl) rfl rfl ?_
  refine Keeps.mk' ?_ (.inl (by rfl)) (.inl (by rfl)) (.inr (by rfl)) (.inl (by rfl)) (.inl (by rfl)) (.inl (by rfl)) (.inl (by rfl)) (.inl (by rfl)) (.inl (by rfl)) (.inl (by rfl)) (.inl (by rfl)) (.inl (by rfl)) (.inl (by rfl)) (.inr (by rfl)) (.inl (by rfl)) (.inl (by rfl)) (.inl (by rfl)) (.inl (by rfl)) (.inl (by rfl)) (.inl (by rfl)) (.inr (by rfl)) (.inl (by rfl)) (.inl (by rfl)) (.inl (by rfl))
  refine State.restart_keeps rfl ?_
  exact Keeps.refl _ _

theorem State.pinReset_keeps {m : Nat} {s u : State} (hm : m ||| 56230425005129724 = m) (h : Keeps m s u) :
    Keeps m s (State.pinReset u) := by
  refine Keeps.next hm h ?_
  clear hm h
  unfold State.pinReset
  refine State.deviceReset_keeps rfl ?_
  refine State.setWord_keeps (n := 16) (show unitOf 65552 = 16 from rfl) rfl rfl ?_
  exact Keeps.refl _ _

theorem execDeviceReset_keeps {t : Nat} (u : State) : ∃ nxt, execDeviceReset t u = .next nxt ∧ Keeps 56230425005129726 u nxt := by
  refine ⟨_, rfl, ?_⟩
  refine Keeps.ite ?_ ?_
  · refine State.at_keeps rfl ?_
    exact Keeps.refl _ _
  · refine State.pinReset_keeps rfl ?_
    refine State.at_keeps rfl ?_
    exact Keeps.refl _ _

theorem State.sealStart_keeps {m : Nat} {s u : State} (hm : m ||| 18014398543040580 = m) (h : Keeps m s u) :
    Keeps m s (State.sealStart u) := by
  refine Keeps.next hm h ?_
  clear hm h
  unfold State.sealStart
  refine Keeps.ite ?_ ?_
  · exact Keeps.refl _ _
  · refine State.logEvent_keeps rfl ?_
    refine State.wearAdd_keeps rfl ?_
    refine State.modPilot_keeps rfl ?_
    exact Keeps.refl _ _

theorem execBootReady_keeps {t : Nat} (u : State) : ∃ nxt, execBootReady t u = .next nxt ∧ Keeps 22518273048320102 u nxt := by
  refine ⟨_, rfl, ?_⟩
  refine Keeps.ite ?_ ?_
  · refine State.at_keeps rfl ?_
    exact Keeps.refl _ _
  · refine State.sealStart_keeps rfl ?_
    refine State.setFld_keeps (n := 20) (show unitOf 81920 = 20 from rfl) rfl rfl ?_
    refine State.setFld_keeps (n := 6) (show unitOf 24592 = 6 from rfl) rfl rfl ?_
    refine State.modUpd_keeps rfl ?_
    refine State.at_keeps rfl ?_
    exact Keeps.refl _ _

theorem State.powerOffCmd_keeps {m : Nat} {s u : State} {off : Bool} (hm : m ||| 36028797019099140 = m) (h : Keeps m s u) :
    Keeps m s (State.powerOffCmd u off).2 := by
  refine Keeps.next hm h ?_
  clear hm h
  unfold State.powerOffCmd
  refine Keeps.pair2 ?_
  refine State.saveTrig_keeps rfl ?_
  refine State.wearFlush_keeps rfl ?_
  refine State.wearHours_keeps rfl ?_
  exact Keeps.refl _ _

theorem execCmdPowerState_keeps {t : Nat} {c : Sys2Proof.Entry} (u : State) : ∃ nxt, execCmdPowerState t c u = .next nxt ∧ Keeps 67395780901601278 u nxt := by
  refine ⟨_, rfl, ?_⟩
  refine Keeps.ite ?_ ?_
  · refine State.pilotCmd_keeps (fun _ _ => ?_) rfl ?_
    · refine needs_keeps ?_ ?_
      · exact Keeps.refl _ _
      · try extract_lets -underBinder
        first | split | (dsimp +zetaDelta only; split)
        · refine Keeps.pair2 ?_
          refine State.setFld_keeps (n := 21) (show unitOf 86020 = 21 from rfl) rfl rfl ?_
          refine State.trimApply_keeps rfl ?_
          exact Keeps.refl _ _
        · refine needs_keeps ?_ ?_
          · exact Keeps.refl _ _
          · refine Keeps.pair2 ?_
            refine State.setFld_keeps (n := 21) (show unitOf 86020 = 21 from rfl) rfl rfl ?_
            refine State.trimApply_keeps rfl ?_
            exact Keeps.refl _ _
        · refine needsState_keeps ?_ ?_
          · exact Keeps.refl _ _
          · refine State.powerOffCmd_keeps rfl ?_
            exact Keeps.refl _ _
    · exact Keeps.refl _ _
  · refine State.sleepAnswer_keeps rfl ?_
    refine State.pilotCmd_keeps (fun _ _ => ?_) rfl ?_
    · refine needs_keeps ?_ ?_
      · exact Keeps.refl _ _
      · try extract_lets -underBinder
        first | split | (dsimp +zetaDelta only; split)
        · refine Keeps.pair2 ?_
          refine State.setFld_keeps (n := 21) (show unitOf 86020 = 21 from rfl) rfl rfl ?_
          refine State.trimApply_keeps rfl ?_
          exact Keeps.refl _ _
        · refine needs_keeps ?_ ?_
          · exact Keeps.refl _ _
          · refine Keeps.pair2 ?_
            refine State.setFld_keeps (n := 21) (show unitOf 86020 = 21 from rfl) rfl rfl ?_
            refine State.trimApply_keeps rfl ?_
            exact Keeps.refl _ _
        · refine needsState_keeps ?_ ?_
          · exact Keeps.refl _ _
          · refine State.powerOffCmd_keeps rfl ?_
            exact Keeps.refl _ _
    · exact Keeps.refl _ _

theorem execRecoveryReset_keeps {t : Nat} (u : State) : ∃ nxt, execRecoveryReset t u = .next nxt ∧ Keeps 56230425005129726 u nxt := by
  refine ⟨_, rfl, ?_⟩
  try extract_lets -underBinder
  first | split | (dsimp +zetaDelta only; split)
  · refine Keeps.ite ?_ ?_
    · refine State.pinReset_keeps rfl ?_
      refine State.at_keeps rfl ?_
      exact Keeps.refl _ _
    · refine State.at_keeps rfl ?_
      exact Keeps.refl _ _
  · refine State.at_keeps rfl ?_
    exact Keeps.refl _ _

theorem execPowerFail_keeps {t : Nat} {torn : Bool} (u : State) : ∃ nxt, execPowerFail t torn u = .next nxt ∧ Keeps 201326590 u nxt := by
  refine ⟨_, rfl, ?_⟩
  refine State.powerDown_keeps rfl ?_
  try extract_lets -underBinder
  first | split | (dsimp +zetaDelta only; split)
  · refine State.when_keeps (fun _ => ?_) ?_
    · refine State.modLog_keeps rfl ?_
      exact Keeps.refl _ _
    · refine State.at_keeps rfl ?_
      exact Keeps.refl _ _
  · refine State.at_keeps rfl ?_
    exact Keeps.refl _ _

theorem execBrownNFall_keeps {t : Nat} (u : State) : ∃ nxt, execBrownNFall t u = .next nxt ∧ Keeps 131106 u nxt := by
  refine ⟨_, rfl, ?_⟩
  refine State.brownSave_keeps rfl ?_
  refine State.at_keeps rfl ?_
  exact Keeps.refl _ _

theorem execBrownNHigh100ms_keeps {t : Nat} (u : State) : ∃ nxt, execBrownNHigh100ms t u = .next nxt ∧ Keeps 131106 u nxt := by
  refine ⟨_, rfl, ?_⟩
  refine Keeps.ite ?_ ?_
  · refine State.saveTrig_keeps rfl ?_
    refine State.modSxt_keeps rfl ?_
    refine State.at_keeps rfl ?_
    exact Keeps.refl _ _
  · refine State.modSxt_keeps rfl ?_
    refine State.at_keeps rfl ?_
    exact Keeps.refl _ _

theorem State.dialZero_keeps {m : Nat} {s u : State} (hm : m ||| 71434498 = m) (h : Keeps m s u) : Keeps m s u.dialZero := by
  refine Keeps.next hm h ?_
  constructor
  · rfl
  · exact id
  all_goals (intro b; first | rfl | exact absurd b (by decide) | exact fun _ _ => rfl)

theorem execPowerOnReset_keeps {t : Nat} (u : State) : ∃ nxt, execPowerOnReset t u = .next nxt ∧ Keeps 36245418257940479 u nxt := by
  refine ⟨_, rfl, ?_⟩
  refine State.showKept_keeps rfl ?_
  refine Keeps.ite ?_ ?_
  · refine Keeps.mk_time rfl ?_
    refine State.freshNat_keeps rfl ?_
    refine State.dialZero_keeps rfl ?_
    refine State.powerDown_keeps rfl ?_
    refine State.at_keeps rfl ?_
    exact Keeps.refl _ _
  · refine State.rtcLost_keeps rfl ?_
    refine State.dialZero_keeps rfl ?_
    refine State.powerDown_keeps rfl ?_
    refine State.at_keeps rfl ?_
    exact Keeps.refl _ _

theorem execWakeFrame_keeps {t : Nat} {p : Nat} {dst : List Nat} {payload : List Nat} (u : State) : ∃ nxt, execWakeFrame t p dst payload u = .next nxt ∧ Keeps 56230425005129726 u nxt := by
  refine ⟨_, rfl, ?_⟩
  refine Keeps.ite ?_ ?_
  · refine State.deviceReset_keeps rfl ?_
    refine State.at_keeps rfl ?_
    exact Keeps.refl _ _
  · refine State.at_keeps rfl ?_
    exact Keeps.refl _ _

end Sys2Proof.Machine
end

