-- ==== Sys2Proof/Laws/Exec.lean ====
section
/-! SUPPORT. What each command can change: the mask of its meaning, and that every command executes within it. -/

namespace Sys2Proof.Machine

/-- The mask of a command. -/
def keepsMask : Instr → Nat
  | .powerOnReset .. => 36245418257940479
  | .deviceReset .. => 56230425005129726
  | .resetRelease .. => 67554277882640998
  | .lodestonePowerUpEnd .. => 23432834760892646
  | .brownNFall .. => 131106
  | .brownNHigh100ms .. => 131106
  | .vbatLow .. => 17179869222
  | .pllLock .. => 8589934630
  | .pllUnlock .. => 8589934630
  | .registerWrite .. => 243182693458636799
  | .timeLowWordRead .. => 108121687099188415
  | .portstsRead .. => 108121644149507135
  | .wearDataRead .. => 36028797018964014
  | .lockAcquire .. => 58
  | .lockRelease .. => 4294967350
  | .epochctlWrite .. => 90340552592475767
  | .profileSelection .. => 90340552592475767
  | .epochBoundary .. => 90340552592475767
  | .contributionArrival .. => 4294967350
  | .epochCommit .. => 108038326274738423
  | .ptpMessageReceive .. => 17179869222
  | .ptpSyncReceive .. => 92448054356821095
  | .ptpAnnounceReceive .. => 17179869222
  | .pdelayReqReceive .. => 17179869222
  | .masterLost .. => 17179869222
  | .ptpDisable .. => 17179869222
  | .holdExceeded .. => 17179869222
  | .rtcRewrite .. => 17179869222
  | .leapSecond .. => 17179869222
  | .timedActionLaunch .. => 92448037176951911
  | .carrierValley .. => 23591173059561702
  | .helmDutyLatch .. => 16418
  | .carrierStop .. => 97796113307651303
  | .busReferenceLost .. => 92448054356821095
  | .portLinkUp .. => 18049660191127398
  | .portLinkDown .. => 18049651601184614
  | .trvCtlWrite .. => 35253091698470
  | .openRingTrainStart .. => 68719477030
  | .enumReturn .. => 18049651601184614
  | .echorReceive .. => 68719477030
  | .trainingDone .. => 68719477030
  | .armstatPoll .. => 68719477030
  | .ringRestore .. => 18049651601184614
  | .lostRing .. => 26829187525230710
  | .tsyncSend .. => 18049651601184614
  | .unclaimedFrame .. => 18049651601184614
  | .snaprReceive .. => 343597388582
  | .respReceive .. => 18049651601184614
  | .cmdTimeout .. => 18049651601184614
  | .alertReceive .. => 18049651601184614
  | .alertBootReceive .. => 35527969605414
  | .profileInject .. => 290
  | .sampleFrame .. => 290
  | .tsyncFrame .. => 290
  | .enumFrame .. => 290
  | .echoFrame .. => 290
  | .loadFrame .. => 290
  | .loadendFrame .. => 290
  | .tileBoot .. => 18049651601184614
  | .profileFrame .. => 290
  | .tileFrameRelay .. => 290
  | .tileLinkDown .. => 290
  | .alertLinkdown .. => 290
  | .tileSnaprSlot .. => 290
  | .tileConversion .. => 290
  | .tileComparatorTrip .. => 290
  | .tileComparatorRelease .. => 290
  | .tileDieHot .. => 290
  | .balset .. => 290
  | .tileBalsetExpiry .. => 290
  | .dieTemperatureRead .. => 290
  | .armstat .. => 290
  | .openWireSinks .. => 290
  | .tileSinkOn .. => 290
  | .faultLoopLoss .. => 23432894890426598
  | .flFast .. => 23432894890426598
  | .armedThresholdFault .. => 23432826170949862
  | .acqApply .. => 57449482945062
  | .snap .. => 18015841620067174
  | .modCodeReady .. => 546
  | .modFault .. => 274877907494
  | .snapshotClose .. => 95547938454820855
  | .owTestAbandon .. => 35253091567398
  | .owTestWindowEnd .. => 35253091567398
  | .owRetestGo .. => 35527969474342
  | .almAdd .. => 1099513200678
  | .almSub .. => 1099513200678
  | .almAnd .. => 1099513200678
  | .almOr .. => 1099513200678
  | .almXor .. => 1099513200678
  | .almSll .. => 1099513200678
  | .almSrl .. => 1099513200678
  | .almSra .. => 1099513200678
  | .almMul .. => 1099513200678
  | .almMulh .. => 1099513200678
  | .almMin .. => 1099513200678
  | .almMax .. => 1099513200678
  | .almClamp .. => 1099513200678
  | .almAddi .. => 1099513200678
  | .almAndi .. => 1099513200678
  | .almOri .. => 1099513200678
  | .almSlli .. => 1099513200678
  | .almSrli .. => 1099513200678
  | .almSrai .. => 1099513200678
  | .almLui .. => 1099513200678
  | .almLdw .. => 18015498022682734
  | .almStw .. => 18015498022682734
  | .almLds .. => 90073092060610662
  | .almRdt .. => 18015498022682726
  | .almPost .. => 1133872939174
  | .almRing .. => 1133872939174
  | .almMbxSend .. => 1133872939174
  | .almMbxReceive .. => 1133906493606
  | .almBeq .. => 72058693551128614
  | .almBne .. => 72058693551128614
  | .almBlt .. => 72058693551128614
  | .almBge .. => 72058693551128614
  | .almBltu .. => 72058693551128614
  | .almBgeu .. => 72058693551128614
  | .almBfs .. => 72058693551128614
  | .almBfc .. => 72058693551128614
  | .almJal .. => 72058693551128614
  | .almJr .. => 72058693551128614
  | .almWaitev .. => 1099513200678
  | .almWaitevWake .. => 1099512152102
  | .almSpawn .. => 1099513200678
  | .almKill .. => 1099513200678
  | .almYield .. => 1099513200678
  | .almHalt .. => 1099513200678
  | .almFence .. => 1099513200678
  | .almFenceRelease .. => 524322
  | .almSlotWaitRelease .. => 524322
  | .almStcLockAcquire .. => 1099513200694
  | .almStcLockRelease .. => 1103808167990
  | .almStcAwait .. => 1103808167974
  | .almStcCan .. => 92448037176951911
  | .almStcPmc .. => 92448037176951911
  | .almBalStop .. => 92448037176951911
  | .almBalPhaseStart .. => 92448037176951911
  | .almExcStart .. => 92448037176951911
  | .almExcStop .. => 92448037176951911
  | .almSetpHosti .. => 92448037176951911
  | .almSetpHostv .. => 92448037176951911
  | .almSetpClass .. => 92448037176951911
  | .almTrigSet .. => 92448037176951911
  | .almTrigClear .. => 92448037176951911
  | .almTrigMark .. => 92448037176951911
  | .almTcmp .. => 18015498022682726
  | .almAt .. => 18015498022682726
  | .almAtr .. => 18015498022682726
  | .illegalInstruction .. => 18015498022682726
  | .eccFault .. => 18015498022682726
  | .programLoad .. => 1103807119414
  | .programStart .. => 1103807119414
  | .programMemoryWrite .. => 1099512152102
  | .dataMemoryAccess .. => 524330
  | .evflagHostWrite .. => 1099512152102
  | .contextUpdateDone .. => 90076390595100791
  | .dapply .. => 90340552592475767
  | .prerested .. => 4398046642214
  | .sextantWindowWrite .. => 90340552592475767
  | .journalSaveStart .. => 4398046642214
  | .journalSaveDone .. => 30192623859793918
  | .periodicSave .. => 131106
  | .learnSave .. => 4398046642214
  | .learnRestore .. => 90340552592475767
  | .learnNominal .. => 90340552592475767
  | .learnExport .. => 90340552592475767
  | .papply .. => 90340552592475767
  | .azmAutoStart .. => 17592186306598
  | .excWindowElapse .. => 17592186306598
  | .azmBlockEnd .. => 72075186225283126
  | .azmBlockReady .. => 95508012404752630
  | .balPhaseEffect .. => 35253091566886
  | .balPhaseEnd .. => 35184372089894
  | .balsetRefresh .. => 35253091566886
  | .balPlan .. => 1058
  | .dieTemperaturePoll .. => 35253091566886
  | .unsureExpiry .. => 35184372089894
  | .helmRunRequest .. => 97796113307651303
  | .helmStop .. => 97796113307651303
  | .carrierEnable .. => 97796113307651303
  | .legsWrite .. => 70368744177702
  | .carrierWrite .. => 70368744177702
  | .coefficientWrite .. => 70368744194086
  | .hostSetpointWrite .. => 70368744194086
  | .classSelect .. => 97796113307651303
  | .sppPeriod .. => 70368744194086
  | .sppTimeout .. => 70368744194086
  | .hvacFrameSend .. => 2251799815847974
  | .hvacStatusReceive .. => 140737490452518
  | .hvacLost .. => 140737488355366
  | .closeRequest .. => 18929192183840870
  | .closeRelease .. => 18929192183840870
  | .energizeCheck .. => 18929192183840870
  | .deenergizeCheck .. => 18929192183844966
  | .offPulseStart .. => 281474976743462
  | .offPulseCheck .. => 18929192183844966
  | .proofWarn .. => 18295873486192742
  | .lodestoneTick .. => 94418435045312375
  | .clkMismatch .. => 26829187525230710
  | .heartbeatWrite .. => 26829187525230710
  | .heartbeatTimeout .. => 26829187525230710
  | .lockstepMismatch .. => 26829187525230710
  | .pilotWatchdogExpiry .. => 26829187525230710
  | .pilotService .. => 32802
  | .bpermitLoss .. => 23432826170949862
  | .bpermitReturn .. => 18929192183840870
  | .safeBLow .. => 23432826170949862
  | .overcurrent .. => 23432826170949862
  | .overcurrentContactorTrip .. => 23432791811211366
  | .overTemperature .. => 23432826170949862
  | .sealRead .. => 23432826170949862
  | .inputFilterPass .. => 23432826170949862
  | .discrepancy .. => 23432826170949862
  | .insulationEstimate .. => 23432826179338470
  | .binnacleDelayedTrip .. => 23432826170949862
  | .holdTimerExpiry .. => 18929192183840870
  | .twinWrite .. => 93574010115180407
  | .hb .. => 32802
  | .grantRise .. => 94418435045312375
  | .grantFall .. => 94418435045312375
  | .autorunHelmStart .. => 70368760971302
  | .startUpComplete .. => 98222745277384567
  | .mirrorArrival .. => 24740420402202358
  | .mirrorTimeout .. => 93574010115147639
  | .peerStatusReceive .. => 20055126467199206
  | .peerLaneDown .. => 1125934283358374
  | .twinEnergizeTimeout .. => 844424930164774
  | .pcieLinkLoss .. => 47278203062
  | .cmdpiWrite .. => 34359738534
  | .rspciWrite .. => 34359738534
  | .postciWrite .. => 34359738534
  | .h2dMailboxWrite .. => 34359738534
  | .d2hempty .. => 34359738534
  | .mbxStall .. => 34359738534
  | .dboutWrite .. => 34393292966
  | .dbinClear .. => 34359738406
  | .hspiReadFrame .. => 108121687099188407
  | .hspiWriteFrame .. => 243182693458636799
  | .hspiStatusFrame .. => 162
  | .hspiResetEnable .. => 162
  | .hspiPortReset .. => 47278203062
  | .udpOpen .. => 163
  | .udpConfirm .. => 34359738534
  | .udpDatagram .. => 34359738534
  | .udpSessionTimeout .. => 34393292966
  | .cmdUnknownCommand .. => 34359738534
  | .cmdGetInfo .. => 34393292966
  | .cmdEcho .. => 34393292966
  | .cmdReadReg .. => 108121678542800055
  | .cmdWriteReg .. => 243182693458636799
  | .cmdSetProfile .. => 90340586952214263
  | .cmdSetOverride .. => 90340586952214263
  | .cmdClearOverrides .. => 90340586952214263
  | .cmdSetEpoch .. => 243182693458636799
  | .cmdGetStatus .. => 108121678542800055
  | .cmdMbxRelay .. => 34393292966
  | .cmdStateRead .. => 34393292966
  | .cmdSetAwait .. => 38688260262
  | .cmdSetNet .. => 34393292966
  | .cmdGetTime .. => 34393292966
  | .cmdSetCalendar .. => 51573162150
  | .cmdSetPtp .. => 243182693458636799
  | .cmdSetRate .. => 51573162150
  | .cmdSetUtcofs .. => 51573162150
  | .cmdSetTiles .. => 243182693458636799
  | .cmdApplyTopology .. => 57483876237990
  | .cmdRings .. => 35287484993446
  | .cmdSetMod .. => 243182693458636799
  | .cmdSetChecks .. => 243182693458636799
  | .cmdOwRetest .. => 35562362767270
  | .cmdGetRing .. => 108121678542800055
  | .cmdAlmLoad .. => 243182693458636799
  | .cmdAlmWrite .. => 1133905445030
  | .cmdAlmStart .. => 1133905445030
  | .cmdAlmDread .. => 34393292966
  | .cmdAlmDwrite .. => 34393817254
  | .cmdAlmFlags .. => 1133905445030
  | .cmdAlmStatus .. => 108121678542800055
  | .cmdSxtWrite .. => 90340586952214263
  | .cmdSxtDapply .. => 90340586952214263
  | .cmdSxtCfg .. => 243182693458636799
  | .cmdCtxRead .. => 34393292966
  | .cmdLearnCfg .. => 243182693458636799
  | .cmdRestoreLearned .. => 90340586952214263
  | .cmdStageWrite .. => 90340586952214263
  | .cmdStageRead .. => 4432439804070
  | .cmdExportLearned .. => 90340586952214263
  | .cmdAcceptNominal .. => 90340586952214263
  | .cmdJournalSave .. => 4432439935142
  | .cmdAzmPlan .. => 243182693458636799
  | .cmdAzmCal .. => 243182693458636799
  | .cmdAzmApply .. => 90340586952214263
  | .cmdAzmCfg .. => 243182693458636799
  | .cmdAzmStatus .. => 108121678542800055
  | .cmdBalSetup .. => 243182693458636799
  | .cmdBalManual .. => 243182693458636799
  | .cmdBalStatus .. => 108121678542800055
  | .cmdHlmSetup .. => 243182693458636799
  | .cmdHlmAnalog .. => 243182693458636799
  | .cmdHlmCoef .. => 70403137487014
  | .cmdHlmRun .. => 97796113307651303
  | .cmdHlmSetpoint .. => 70403137487014
  | .cmdHlmLimits .. => 243182693458636799
  | .cmdHlmDispatch .. => 243182693458636799
  | .cmdDspSetup .. => 243182693458636799
  | .cmdCoolSetup .. => 243182693458636799
  | .cmdCoolFloor .. => 243182693458636799
  | .cmdHvacSetup .. => 243182693458636799
  | .cmdHlmStatus .. => 108121678542800055
  | .cmdSafetyStatus .. => 108121678542800055
  | .cmdSafetyReset .. => 18929226577133798
  | .cmdOutputRequest .. => 18929226577133798
  | .cmdBinParam .. => 562984480932006
  | .cmdSealHistory .. => 34393292966
  | .cmdRdnSetup .. => 93574044508473335
  | .cmdRdnStatus .. => 108121678542800055
  | .cmdCanSetup .. => 243182693458636799
  | .cmdCanFilter .. => 243182693458636799
  | .cmdCanSend .. => 2251834207043750
  | .cmdCanRecv .. => 2251834207043750
  | .cmdCanCancel .. => 2251834207043750
  | .cmdCanAutobaud .. => 2251834207043750
  | .cmdCanTimemaster .. => 2251834207043750
  | .cmdUpdBegin .. => 4503634020665510
  | .cmdUpdWrite .. => 34393295014
  | .cmdUpdEnd .. => 4503634020665510
  | .cmdActivate .. => 23450418390812902
  | .cmdCommit .. => 166633220606003430
  | .cmdUpdStatus .. => 108121678542800055
  | .cmdPowerState .. => 67395780901601278
  | .cmdThermalSetup .. => 81069225733521575
  | .cmdThermalStatus .. => 34393292966
  | .cmdLogInfo .. => 34393292966
  | .cmdLogRead .. => 18014432902774950
  | .cmdLogWindow .. => 243182693458636799
  | .cmdLogNonce .. => 34393292967
  | .cmdLogClear .. => 18014432902779110
  | .cmdWearRead .. => 34393292966
  | .cmdCommissionSpare .. => 54255435800121574
  | .cmdPmcControl .. => 243182693458636799
  | .cmdPmcRead .. => 72057628432269479
  | .canFrameReceive .. => 92588809060701415
  | .canTxDone .. => 2251799813754918
  | .canTxAttemptFail .. => 2251799813754918
  | .txgo .. => 2251799813750822
  | .txcan .. => 2251799813750822
  | .rxrel .. => 2251799813750822
  | .restart .. => 2251799813750822
  | .busOffRecovery .. => 2251799813754918
  | .canTimingWrite .. => 2251799813685286
  | .abctlGo .. => 2251799813750822
  | .abctlStop .. => 2251799813750822
  | .autobaudDwellEnd .. => 65570
  | .referenceCycleStart .. => 2251799813750822
  | .bootReady .. => 22518273048320102
  | .supervisionStart .. => 18929192183840870
  | .pauseResumption .. => 23432791811344502
  | .pauseTimeout .. => 26829187525230710
  | .bootRecordWritten .. => 4503599627372582
  | .confirmationWindowClose .. => 22517998136854630
  | .recoveryReset .. => 56230425005129726
  | .kctlWrite .. => 144115188075857958
  | .kctlLock .. => 144115188075857958
  | .wakeFrame .. => 56230425005129726
  | .dieSensorConversion .. => 104502017515372775
  | .boardChannelConversion .. => 27021632128159974
  | .throttleEnd .. => 81069225699967143
  | .logEvent .. => 18014398509486182
  | .logRdidxWrite .. => 18014398509482022
  | .logErasureDone .. => 18014432902775014
  | .ledgerFlush .. => 36028797018968102
  | .eccScrub .. => 4130
  | .pmcStart .. => 72057594038976551
  | .pmcStop .. => 72057594038976551
  | .pmcFreeze .. => 72057594038976551
  | .pmcClear .. => 72057594038976551
  | .clockStopped .. => 18049677371021286
  | .clockRunning .. => 8589942822
  | .lodestoneOscStop .. => 914793674358822
  | .pointerCheckFail .. => 8589942822
  | .handshakePhase .. => 279211490477600767
  | .crossingTimeout .. => 8589942822
  | .xresync .. => 8589942822
  | .xfbWrite .. => 8589934630
  | .xevmodeWrite .. => 8589934630
  | .tilePowerUp .. => 290
  | .tileLinkUp .. => 290
  | .turnbackFrameReceive .. => 18049651601184614
  | .tileResponseWindowEnd .. => 290
  | .portFrameSent .. => 290
  | .faultLoopReturn .. => 18929260903317606
  | .peerLaneUp .. => 1125934283358374
  | .ethLinkUp .. => 8589942950
  | .pcieLinkUp .. => 8589942950
  | .canRxError .. => 2251799813754918
  | .canProtocolException .. => 2251799813750822
  | .referenceMessageSent .. => 92448037176956007
  | .powerFail .. => 201326590
  | .activateRampTimeout .. => 23450418390812902
  | .autobaudLimit .. => 2251834206978214

theorem exec_powerOnReset_keeps (t) (s : State) : ∃ nxt : State, exec (.powerOnReset t) s = .next nxt ∧ Keeps 36245418257940479 s nxt :=
  @execPowerOnReset_keeps t s
theorem exec_deviceReset_keeps (t) (s : State) : ∃ nxt : State, exec (.deviceReset t) s = .next nxt ∧ Keeps 56230425005129726 s nxt :=
  @execDeviceReset_keeps t s
theorem exec_resetRelease_keeps (t x) (s : State) : ∃ nxt : State, exec (.resetRelease t x) s = .next nxt ∧ Keeps 67554277882640998 s nxt :=
  @execResetRelease_keeps t x s
theorem exec_lodestonePowerUpEnd_keeps (t r0 r1 r2 a b safeB) (s : State) : ∃ nxt : State, exec (.lodestonePowerUpEnd t r0 r1 r2 a b safeB) s = .next nxt ∧ Keeps 23432834760892646 s nxt :=
  @execLodestonePowerUpEnd_keeps t r0 r1 r2 a b safeB s
theorem exec_brownNFall_keeps (t) (s : State) : ∃ nxt : State, exec (.brownNFall t) s = .next nxt ∧ Keeps 131106 s nxt :=
  @execBrownNFall_keeps t s
theorem exec_brownNHigh100ms_keeps (t) (s : State) : ∃ nxt : State, exec (.brownNHigh100ms t) s = .next nxt ∧ Keeps 131106 s nxt :=
  @execBrownNHigh100ms_keeps t s
theorem exec_vbatLow_keeps (t) (s : State) : ∃ nxt : State, exec (.vbatLow t) s = .next nxt ∧ Keeps 17179869222 s nxt :=
  @execVbatLow_keeps t s
theorem exec_pllLock_keeps (t) (s : State) : ∃ nxt : State, exec (.pllLock t) s = .next nxt ∧ Keeps 8589934630 s nxt :=
  @execPllLock_keeps t s
theorem exec_pllUnlock_keeps (t) (s : State) : ∃ nxt : State, exec (.pllUnlock t) s = .next nxt ∧ Keeps 8589934630 s nxt :=
  @execPllUnlock_keeps t s
theorem exec_registerWrite_keeps (t m sp off bytes v) (s : State) : ∃ nxt : State, exec (.registerWrite t m sp off bytes v) s = .next nxt ∧ Keeps 243182693458636799 s nxt :=
  @execRegisterWrite_keeps t m sp off bytes v s
theorem exec_timeLowWordRead_keeps (t m r) (s : State) : ∃ nxt : State, exec (.timeLowWordRead t m r) s = .next nxt ∧ Keeps 108121687099188415 s nxt :=
  @execTimeLowWordRead_keeps t m r s
theorem exec_portstsRead_keeps (t m p) (s : State) : ∃ nxt : State, exec (.portstsRead t m p) s = .next nxt ∧ Keeps 108121644149507135 s nxt :=
  @execPortstsRead_keeps t m p s
theorem exec_wearDataRead_keeps (t m) (s : State) : ∃ nxt : State, exec (.wearDataRead t m) s = .next nxt ∧ Keeps 36028797018964014 s nxt :=
  @execWearDataRead_keeps t m s
theorem exec_lockAcquire_keeps (t m n) (s : State) : ∃ nxt : State, exec (.lockAcquire t m n) s = .next nxt ∧ Keeps 58 s nxt :=
  @execLockAcquire_keeps t m n s
theorem exec_lockRelease_keeps (t m v) (s : State) : ∃ nxt : State, exec (.lockRelease t m v) s = .next nxt ∧ Keeps 4294967350 s nxt :=
  @execLockRelease_keeps t m v s
theorem exec_epochctlWrite_keeps (t m v) (s : State) : ∃ nxt : State, exec (.epochctlWrite t m v) s = .next nxt ∧ Keeps 90340552592475767 s nxt :=
  @execEpochctlWrite_keeps t m v s
theorem exec_profileSelection_keeps (t m v) (s : State) : ∃ nxt : State, exec (.profileSelection t m v) s = .next nxt ∧ Keeps 90340552592475767 s nxt :=
  @execProfileSelection_keeps t m v s
theorem exec_epochBoundary_keeps (t) (s : State) : ∃ nxt : State, exec (.epochBoundary t) s = .next nxt ∧ Keeps 90340552592475767 s nxt :=
  @execEpochBoundary_keeps t s
theorem exec_contributionArrival_keeps (t p) (s : State) : ∃ nxt : State, exec (.contributionArrival t p) s = .next nxt ∧ Keeps 4294967350 s nxt :=
  @execContributionArrival_keeps t p s
theorem exec_epochCommit_keeps (t) (s : State) : ∃ nxt : State, exec (.epochCommit t) s = .next nxt ∧ Keeps 108038326274738423 s nxt :=
  @execEpochCommit_keeps t s
theorem exec_ptpMessageReceive_keeps (t msg) (s : State) : ∃ nxt : State, exec (.ptpMessageReceive t msg) s = .next nxt ∧ Keeps 17179869222 s nxt :=
  @execPtpMessageReceive_keeps t msg s
theorem exec_ptpSyncReceive_keeps (t msg gm ofs) (s : State) : ∃ nxt : State, exec (.ptpSyncReceive t msg gm ofs) s = .next nxt ∧ Keeps 92448054356821095 s nxt :=
  @execPtpSyncReceive_keeps t msg gm ofs s
theorem exec_ptpAnnounceReceive_keeps (t a) (s : State) : ∃ nxt : State, exec (.ptpAnnounceReceive t a) s = .next nxt ∧ Keeps 17179869222 s nxt :=
  @execPtpAnnounceReceive_keeps t a s
theorem exec_pdelayReqReceive_keeps (t msg seq) (s : State) : ∃ nxt : State, exec (.pdelayReqReceive t msg seq) s = .next nxt ∧ Keeps 17179869222 s nxt :=
  @execPdelayReqReceive_keeps t msg seq s
theorem exec_masterLost_keeps (t) (s : State) : ∃ nxt : State, exec (.masterLost t) s = .next nxt ∧ Keeps 17179869222 s nxt :=
  @execMasterLost_keeps t s
theorem exec_ptpDisable_keeps (t m) (s : State) : ∃ nxt : State, exec (.ptpDisable t m) s = .next nxt ∧ Keeps 17179869222 s nxt :=
  @execPtpDisable_keeps t m s
theorem exec_holdExceeded_keeps (t) (s : State) : ∃ nxt : State, exec (.holdExceeded t) s = .next nxt ∧ Keeps 17179869222 s nxt :=
  @execHoldExceeded_keeps t s
theorem exec_rtcRewrite_keeps (t trim) (s : State) : ∃ nxt : State, exec (.rtcRewrite t trim) s = .next nxt ∧ Keeps 17179869222 s nxt :=
  @execRtcRewrite_keeps t trim s
theorem exec_leapSecond_keeps (t ins) (s : State) : ∃ nxt : State, exec (.leapSecond t ins) s = .next nxt ∧ Keeps 17179869222 s nxt :=
  @execLeapSecond_keeps t ins s
theorem exec_timedActionLaunch_keeps (t) (s : State) : ∃ nxt : State, exec (.timedActionLaunch t) s = .next nxt ∧ Keeps 92448037176951911 s nxt :=
  @execTimedActionLaunch_keeps t s
theorem exec_carrierValley_keeps (t x) (s : State) : ∃ nxt : State, exec (.carrierValley t x) s = .next nxt ∧ Keeps 23591173059561702 s nxt :=
  @execCarrierValley_keeps t x s
theorem exec_helmDutyLatch_keeps (t) (s : State) : ∃ nxt : State, exec (.helmDutyLatch t) s = .next nxt ∧ Keeps 16418 s nxt :=
  @execHelmDutyLatch_keeps t s
theorem exec_carrierStop_keeps (t) (s : State) : ∃ nxt : State, exec (.carrierStop t) s = .next nxt ∧ Keeps 97796113307651303 s nxt :=
  @execCarrierStop_keeps t s
theorem exec_busReferenceLost_keeps (t n) (s : State) : ∃ nxt : State, exec (.busReferenceLost t n) s = .next nxt ∧ Keeps 92448054356821095 s nxt :=
  @execBusReferenceLost_keeps t n s
theorem exec_portLinkUp_keeps (t p) (s : State) : ∃ nxt : State, exec (.portLinkUp t p) s = .next nxt ∧ Keeps 18049660191127398 s nxt :=
  @execPortLinkUp_keeps t p s
theorem exec_portLinkDown_keeps (t p) (s : State) : ∃ nxt : State, exec (.portLinkDown t p) s = .next nxt ∧ Keeps 18049651601184614 s nxt :=
  @execPortLinkDown_keeps t p s
theorem exec_trvCtlWrite_keeps (t m v) (s : State) : ∃ nxt : State, exec (.trvCtlWrite t m v) s = .next nxt ∧ Keeps 35253091698470 s nxt :=
  @execTrvCtlWrite_keeps t m v s
theorem exec_openRingTrainStart_keeps (t p) (s : State) : ∃ nxt : State, exec (.openRingTrainStart t p) s = .next nxt ∧ Keeps 68719477030 s nxt :=
  @execOpenRingTrainStart_keeps t p s
theorem exec_enumReturn_keeps (t p f loopTime) (s : State) : ∃ nxt : State, exec (.enumReturn t p f loopTime) s = .next nxt ∧ Keeps 18049651601184614 s nxt :=
  @execEnumReturn_keeps t p f loopTime s
theorem exec_echorReceive_keeps (t p rtt f) (s : State) : ∃ nxt : State, exec (.echorReceive t p rtt f) s = .next nxt ∧ Keeps 68719477030 s nxt :=
  @execEchorReceive_keeps t p rtt f s
theorem exec_trainingDone_keeps (t r) (s : State) : ∃ nxt : State, exec (.trainingDone t r) s = .next nxt ∧ Keeps 68719477030 s nxt :=
  @execTrainingDone_keeps t r s
theorem exec_armstatPoll_keeps (t r) (s : State) : ∃ nxt : State, exec (.armstatPoll t r) s = .next nxt ∧ Keeps 68719477030 s nxt :=
  @execArmstatPoll_keeps t r s
theorem exec_ringRestore_keeps (t r) (s : State) : ∃ nxt : State, exec (.ringRestore t r) s = .next nxt ∧ Keeps 18049651601184614 s nxt :=
  @execRingRestore_keeps t r s
theorem exec_lostRing_keeps (t r) (s : State) : ∃ nxt : State, exec (.lostRing t r) s = .next nxt ∧ Keeps 26829187525230710 s nxt :=
  @execLostRing_keeps t r s
theorem exec_tsyncSend_keeps (t) (s : State) : ∃ nxt : State, exec (.tsyncSend t) s = .next nxt ∧ Keeps 18049651601184614 s nxt :=
  @execTsyncSend_keeps t s
theorem exec_unclaimedFrame_keeps (t p f) (s : State) : ∃ nxt : State, exec (.unclaimedFrame t p f) s = .next nxt ∧ Keeps 18049651601184614 s nxt :=
  @execUnclaimedFrame_keeps t p f s
theorem exec_snaprReceive_keeps (t p crcOk f) (s : State) : ∃ nxt : State, exec (.snaprReceive t p crcOk f) s = .next nxt ∧ Keeps 343597388582 s nxt :=
  @execSnaprReceive_keeps t p crcOk f s
theorem exec_respReceive_keeps (t p crcOk f) (s : State) : ∃ nxt : State, exec (.respReceive t p crcOk f) s = .next nxt ∧ Keeps 18049651601184614 s nxt :=
  @execRespReceive_keeps t p crcOk f s
theorem exec_cmdTimeout_keeps (t p seq) (s : State) : ∃ nxt : State, exec (.cmdTimeout t p seq) s = .next nxt ∧ Keeps 18049651601184614 s nxt :=
  @execCmdTimeout_keeps t p seq s
theorem exec_alertReceive_keeps (t p crcOk f) (s : State) : ∃ nxt : State, exec (.alertReceive t p crcOk f) s = .next nxt ∧ Keeps 18049651601184614 s nxt :=
  @execAlertReceive_keeps t p crcOk f s
theorem exec_alertBootReceive_keeps (t p f) (s : State) : ∃ nxt : State, exec (.alertBootReceive t p f) s = .next nxt ∧ Keeps 35527969605414 s nxt :=
  @execAlertBootReceive_keeps t p f s
theorem exec_profileInject_keeps (t r) (s : State) : ∃ nxt : State, exec (.profileInject t r) s = .next nxt ∧ Keeps 290 s nxt :=
  @execProfileInject_keeps t r s
theorem exec_sampleFrame_keeps (t k side f) (s : State) : ∃ nxt : State, exec (.sampleFrame t k side f) s = .next nxt ∧ Keeps 290 s nxt :=
  @execSampleFrame_keeps t k side f s
theorem exec_tsyncFrame_keeps (t k side f) (s : State) : ∃ nxt : State, exec (.tsyncFrame t k side f) s = .next nxt ∧ Keeps 290 s nxt :=
  @execTsyncFrame_keeps t k side f s
theorem exec_enumFrame_keeps (t k side f) (s : State) : ∃ nxt : State, exec (.enumFrame t k side f) s = .next nxt ∧ Keeps 290 s nxt :=
  @execEnumFrame_keeps t k side f s
theorem exec_echoFrame_keeps (t k side residence f) (s : State) : ∃ nxt : State, exec (.echoFrame t k side residence f) s = .next nxt ∧ Keeps 290 s nxt :=
  @execEchoFrame_keeps t k side residence f s
theorem exec_loadFrame_keeps (t k side f) (s : State) : ∃ nxt : State, exec (.loadFrame t k side f) s = .next nxt ∧ Keeps 290 s nxt :=
  @execLoadFrame_keeps t k side f s
theorem exec_loadendFrame_keeps (t k side f) (s : State) : ∃ nxt : State, exec (.loadendFrame t k side f) s = .next nxt ∧ Keeps 290 s nxt :=
  @execLoadendFrame_keeps t k side f s
theorem exec_tileBoot_keeps (t k) (s : State) : ∃ nxt : State, exec (.tileBoot t k) s = .next nxt ∧ Keeps 18049651601184614 s nxt :=
  @execTileBoot_keeps t k s
theorem exec_profileFrame_keeps (t k side f) (s : State) : ∃ nxt : State, exec (.profileFrame t k side f) s = .next nxt ∧ Keeps 290 s nxt :=
  @execProfileFrame_keeps t k side f s
theorem exec_tileFrameRelay_keeps (t k side crcOk f) (s : State) : ∃ nxt : State, exec (.tileFrameRelay t k side crcOk f) s = .next nxt ∧ Keeps 290 s nxt :=
  @execTileFrameRelay_keeps t k side crcOk f s
theorem exec_tileLinkDown_keeps (t k side) (s : State) : ∃ nxt : State, exec (.tileLinkDown t k side) s = .next nxt ∧ Keeps 290 s nxt :=
  @execTileLinkDown_keeps t k side s
theorem exec_alertLinkdown_keeps (t k side f) (s : State) : ∃ nxt : State, exec (.alertLinkdown t k side f) s = .next nxt ∧ Keeps 290 s nxt :=
  @execAlertLinkdown_keeps t k side f s
theorem exec_tileSnaprSlot_keeps (t k) (s : State) : ∃ nxt : State, exec (.tileSnaprSlot t k) s = .next nxt ∧ Keeps 290 s nxt :=
  @execTileSnaprSlot_keeps t k s
theorem exec_tileConversion_keeps (t k c) (s : State) : ∃ nxt : State, exec (.tileConversion t k c) s = .next nxt ∧ Keeps 290 s nxt :=
  @execTileConversion_keeps t k c s
theorem exec_tileComparatorTrip_keeps (t k) (s : State) : ∃ nxt : State, exec (.tileComparatorTrip t k) s = .next nxt ∧ Keeps 290 s nxt :=
  @execTileComparatorTrip_keeps t k s
theorem exec_tileComparatorRelease_keeps (t k) (s : State) : ∃ nxt : State, exec (.tileComparatorRelease t k) s = .next nxt ∧ Keeps 290 s nxt :=
  @execTileComparatorRelease_keeps t k s
theorem exec_tileDieHot_keeps (t k) (s : State) : ∃ nxt : State, exec (.tileDieHot t k) s = .next nxt ∧ Keeps 290 s nxt :=
  @execTileDieHot_keeps t k s
theorem exec_balset_keeps (t k side f) (s : State) : ∃ nxt : State, exec (.balset t k side f) s = .next nxt ∧ Keeps 290 s nxt :=
  @execBalset_keeps t k side f s
theorem exec_tileBalsetExpiry_keeps (t k) (s : State) : ∃ nxt : State, exec (.tileBalsetExpiry t k) s = .next nxt ∧ Keeps 290 s nxt :=
  @execTileBalsetExpiry_keeps t k s
theorem exec_dieTemperatureRead_keeps (t k side td f) (s : State) : ∃ nxt : State, exec (.dieTemperatureRead t k side td f) s = .next nxt ∧ Keeps 290 s nxt :=
  @execDieTemperatureRead_keeps t k side td f s
theorem exec_armstat_keeps (t k side f) (s : State) : ∃ nxt : State, exec (.armstat t k side f) s = .next nxt ∧ Keeps 290 s nxt :=
  @execArmstat_keeps t k side f s
theorem exec_openWireSinks_keeps (t k side f) (s : State) : ∃ nxt : State, exec (.openWireSinks t k side f) s = .next nxt ∧ Keeps 290 s nxt :=
  @execOpenWireSinks_keeps t k side f s
theorem exec_tileSinkOn_keeps (t k) (s : State) : ∃ nxt : State, exec (.tileSinkOn t k) s = .next nxt ∧ Keeps 290 s nxt :=
  @execTileSinkOn_keeps t k s
theorem exec_faultLoopLoss_keeps (t r) (s : State) : ∃ nxt : State, exec (.faultLoopLoss t r) s = .next nxt ∧ Keeps 23432894890426598 s nxt :=
  @execFaultLoopLoss_keeps t r s
theorem exec_flFast_keeps (t r) (s : State) : ∃ nxt : State, exec (.flFast t r) s = .next nxt ∧ Keeps 23432894890426598 s nxt :=
  @execFlFast_keeps t r s
theorem exec_armedThresholdFault_keeps (t k) (s : State) : ∃ nxt : State, exec (.armedThresholdFault t k) s = .next nxt ∧ Keeps 23432826170949862 s nxt :=
  @execArmedThresholdFault_keeps t k s
theorem exec_acqApply_keeps (t m v) (s : State) : ∃ nxt : State, exec (.acqApply t m v) s = .next nxt ∧ Keeps 57449482945062 s nxt :=
  @execAcqApply_keeps t m v s
theorem exec_snap_keeps (t w d) (s : State) : ∃ nxt : State, exec (.snap t w d) s = .next nxt ∧ Keeps 18015841620067174 s nxt :=
  @execSnap_keeps t w d s
theorem exec_modCodeReady_keeps (t n seq code) (s : State) : ∃ nxt : State, exec (.modCodeReady t n seq code) s = .next nxt ∧ Keeps 546 s nxt :=
  @execModCodeReady_keeps t n seq code s
theorem exec_modFault_keeps (t n) (s : State) : ∃ nxt : State, exec (.modFault t n) s = .next nxt ∧ Keeps 274877907494 s nxt :=
  @execModFault_keeps t n s
theorem exec_snapshotClose_keeps (t seq) (s : State) : ∃ nxt : State, exec (.snapshotClose t seq) s = .next nxt ∧ Keeps 95547938454820855 s nxt :=
  @execSnapshotClose_keeps t seq s
theorem exec_owTestAbandon_keeps (t k) (s : State) : ∃ nxt : State, exec (.owTestAbandon t k) s = .next nxt ∧ Keeps 35253091567398 s nxt :=
  @execOwTestAbandon_keeps t k s
theorem exec_owTestWindowEnd_keeps (t k) (s : State) : ∃ nxt : State, exec (.owTestWindowEnd t k) s = .next nxt ∧ Keeps 35253091567398 s nxt :=
  @execOwTestWindowEnd_keeps t k s
theorem exec_owRetestGo_keeps (t m v) (s : State) : ∃ nxt : State, exec (.owRetestGo t m v) s = .next nxt ∧ Keeps 35527969474342 s nxt :=
  @execOwRetestGo_keeps t m v s
theorem exec_almAdd_keeps (t w d a b) (s : State) : ∃ nxt : State, exec (.almAdd t w d a b) s = .next nxt ∧ Keeps 1099513200678 s nxt :=
  @execAlmAdd_keeps t w d a b s
theorem exec_almSub_keeps (t w d a b) (s : State) : ∃ nxt : State, exec (.almSub t w d a b) s = .next nxt ∧ Keeps 1099513200678 s nxt :=
  @execAlmSub_keeps t w d a b s
theorem exec_almAnd_keeps (t w d a b) (s : State) : ∃ nxt : State, exec (.almAnd t w d a b) s = .next nxt ∧ Keeps 1099513200678 s nxt :=
  @execAlmAnd_keeps t w d a b s
theorem exec_almOr_keeps (t w d a b) (s : State) : ∃ nxt : State, exec (.almOr t w d a b) s = .next nxt ∧ Keeps 1099513200678 s nxt :=
  @execAlmOr_keeps t w d a b s
theorem exec_almXor_keeps (t w d a b) (s : State) : ∃ nxt : State, exec (.almXor t w d a b) s = .next nxt ∧ Keeps 1099513200678 s nxt :=
  @execAlmXor_keeps t w d a b s
theorem exec_almSll_keeps (t w d a b) (s : State) : ∃ nxt : State, exec (.almSll t w d a b) s = .next nxt ∧ Keeps 1099513200678 s nxt :=
  @execAlmSll_keeps t w d a b s
theorem exec_almSrl_keeps (t w d a b) (s : State) : ∃ nxt : State, exec (.almSrl t w d a b) s = .next nxt ∧ Keeps 1099513200678 s nxt :=
  @execAlmSrl_keeps t w d a b s
theorem exec_almSra_keeps (t w d a b) (s : State) : ∃ nxt : State, exec (.almSra t w d a b) s = .next nxt ∧ Keeps 1099513200678 s nxt :=
  @execAlmSra_keeps t w d a b s
theorem exec_almMul_keeps (t w d a b) (s : State) : ∃ nxt : State, exec (.almMul t w d a b) s = .next nxt ∧ Keeps 1099513200678 s nxt :=
  @execAlmMul_keeps t w d a b s
theorem exec_almMulh_keeps (t w d a b) (s : State) : ∃ nxt : State, exec (.almMulh t w d a b) s = .next nxt ∧ Keeps 1099513200678 s nxt :=
  @execAlmMulh_keeps t w d a b s
theorem exec_almMin_keeps (t w d a b) (s : State) : ∃ nxt : State, exec (.almMin t w d a b) s = .next nxt ∧ Keeps 1099513200678 s nxt :=
  @execAlmMin_keeps t w d a b s
theorem exec_almMax_keeps (t w d a b) (s : State) : ∃ nxt : State, exec (.almMax t w d a b) s = .next nxt ∧ Keeps 1099513200678 s nxt :=
  @execAlmMax_keeps t w d a b s
theorem exec_almClamp_keeps (t w d a b c) (s : State) : ∃ nxt : State, exec (.almClamp t w d a b c) s = .next nxt ∧ Keeps 1099513200678 s nxt :=
  @execAlmClamp_keeps t w d a b c s
theorem exec_almAddi_keeps (t w d a imm) (s : State) : ∃ nxt : State, exec (.almAddi t w d a imm) s = .next nxt ∧ Keeps 1099513200678 s nxt :=
  @execAlmAddi_keeps t w d a imm s
theorem exec_almAndi_keeps (t w d a imm) (s : State) : ∃ nxt : State, exec (.almAndi t w d a imm) s = .next nxt ∧ Keeps 1099513200678 s nxt :=
  @execAlmAndi_keeps t w d a imm s
theorem exec_almOri_keeps (t w d a imm) (s : State) : ∃ nxt : State, exec (.almOri t w d a imm) s = .next nxt ∧ Keeps 1099513200678 s nxt :=
  @execAlmOri_keeps t w d a imm s
theorem exec_almSlli_keeps (t w d a sh) (s : State) : ∃ nxt : State, exec (.almSlli t w d a sh) s = .next nxt ∧ Keeps 1099513200678 s nxt :=
  @execAlmSlli_keeps t w d a sh s
theorem exec_almSrli_keeps (t w d a sh) (s : State) : ∃ nxt : State, exec (.almSrli t w d a sh) s = .next nxt ∧ Keeps 1099513200678 s nxt :=
  @execAlmSrli_keeps t w d a sh s
theorem exec_almSrai_keeps (t w d a sh) (s : State) : ∃ nxt : State, exec (.almSrai t w d a sh) s = .next nxt ∧ Keeps 1099513200678 s nxt :=
  @execAlmSrai_keeps t w d a sh s
theorem exec_almLui_keeps (t w d imm) (s : State) : ∃ nxt : State, exec (.almLui t w d imm) s = .next nxt ∧ Keeps 1099513200678 s nxt :=
  @execAlmLui_keeps t w d imm s
theorem exec_almLdw_keeps (t w d a imm) (s : State) : ∃ nxt : State, exec (.almLdw t w d a imm) s = .next nxt ∧ Keeps 18015498022682734 s nxt :=
  @execAlmLdw_keeps t w d a imm s
theorem exec_almStw_keeps (t w d a imm) (s : State) : ∃ nxt : State, exec (.almStw t w d a imm) s = .next nxt ∧ Keeps 18015498022682734 s nxt :=
  @execAlmStw_keeps t w d a imm s
theorem exec_almLds_keeps (t w d a imm) (s : State) : ∃ nxt : State, exec (.almLds t w d a imm) s = .next nxt ∧ Keeps 90073092060610662 s nxt :=
  @execAlmLds_keeps t w d a imm s
theorem exec_almRdt_keeps (t w d part tb) (s : State) : ∃ nxt : State, exec (.almRdt t w d part tb) s = .next nxt ∧ Keeps 18015498022682726 s nxt :=
  @execAlmRdt_keeps t w d part tb s
theorem exec_almPost_keeps (t w sel a b) (s : State) : ∃ nxt : State, exec (.almPost t w sel a b) s = .next nxt ∧ Keeps 1133872939174 s nxt :=
  @execAlmPost_keeps t w sel a b s
theorem exec_almRing_keeps (t w n) (s : State) : ∃ nxt : State, exec (.almRing t w n) s = .next nxt ∧ Keeps 1133872939174 s nxt :=
  @execAlmRing_keeps t w n s
theorem exec_almMbxSend_keeps (t w a) (s : State) : ∃ nxt : State, exec (.almMbxSend t w a) s = .next nxt ∧ Keeps 1133872939174 s nxt :=
  @execAlmMbxSend_keeps t w a s
theorem exec_almMbxReceive_keeps (t w d) (s : State) : ∃ nxt : State, exec (.almMbxReceive t w d) s = .next nxt ∧ Keeps 1133906493606 s nxt :=
  @execAlmMbxReceive_keeps t w d s
theorem exec_almBeq_keeps (t w a b tgt) (s : State) : ∃ nxt : State, exec (.almBeq t w a b tgt) s = .next nxt ∧ Keeps 72058693551128614 s nxt :=
  @execAlmBeq_keeps t w a b tgt s
theorem exec_almBne_keeps (t w a b tgt) (s : State) : ∃ nxt : State, exec (.almBne t w a b tgt) s = .next nxt ∧ Keeps 72058693551128614 s nxt :=
  @execAlmBne_keeps t w a b tgt s
theorem exec_almBlt_keeps (t w a b tgt) (s : State) : ∃ nxt : State, exec (.almBlt t w a b tgt) s = .next nxt ∧ Keeps 72058693551128614 s nxt :=
  @execAlmBlt_keeps t w a b tgt s
theorem exec_almBge_keeps (t w a b tgt) (s : State) : ∃ nxt : State, exec (.almBge t w a b tgt) s = .next nxt ∧ Keeps 72058693551128614 s nxt :=
  @execAlmBge_keeps t w a b tgt s
theorem exec_almBltu_keeps (t w a b tgt) (s : State) : ∃ nxt : State, exec (.almBltu t w a b tgt) s = .next nxt ∧ Keeps 72058693551128614 s nxt :=
  @execAlmBltu_keeps t w a b tgt s
theorem exec_almBgeu_keeps (t w a b tgt) (s : State) : ∃ nxt : State, exec (.almBgeu t w a b tgt) s = .next nxt ∧ Keeps 72058693551128614 s nxt :=
  @execAlmBgeu_keeps t w a b tgt s
theorem exec_almBfs_keeps (t w f tgt) (s : State) : ∃ nxt : State, exec (.almBfs t w f tgt) s = .next nxt ∧ Keeps 72058693551128614 s nxt :=
  @execAlmBfs_keeps t w f tgt s
theorem exec_almBfc_keeps (t w f tgt) (s : State) : ∃ nxt : State, exec (.almBfc t w f tgt) s = .next nxt ∧ Keeps 72058693551128614 s nxt :=
  @execAlmBfc_keeps t w f tgt s
theorem exec_almJal_keeps (t w d tgt) (s : State) : ∃ nxt : State, exec (.almJal t w d tgt) s = .next nxt ∧ Keeps 72058693551128614 s nxt :=
  @execAlmJal_keeps t w d tgt s
theorem exec_almJr_keeps (t w a) (s : State) : ∃ nxt : State, exec (.almJr t w a) s = .next nxt ∧ Keeps 72058693551128614 s nxt :=
  @execAlmJr_keeps t w a s
theorem exec_almWaitev_keeps (t w d tmo cls arg) (s : State) : ∃ nxt : State, exec (.almWaitev t w d tmo cls arg) s = .next nxt ∧ Keeps 1099513200678 s nxt :=
  @execAlmWaitev_keeps t w d tmo cls arg s
theorem exec_almWaitevWake_keeps (t w) (s : State) : ∃ nxt : State, exec (.almWaitevWake t w) s = .next nxt ∧ Keeps 1099512152102 s nxt :=
  @execAlmWaitevWake_keeps t w s
theorem exec_almSpawn_keeps (t w a b tgt) (s : State) : ∃ nxt : State, exec (.almSpawn t w a b tgt) s = .next nxt ∧ Keeps 1099513200678 s nxt :=
  @execAlmSpawn_keeps t w a b tgt s
theorem exec_almKill_keeps (t w a) (s : State) : ∃ nxt : State, exec (.almKill t w a) s = .next nxt ∧ Keeps 1099513200678 s nxt :=
  @execAlmKill_keeps t w a s
theorem exec_almYield_keeps (t w) (s : State) : ∃ nxt : State, exec (.almYield t w) s = .next nxt ∧ Keeps 1099513200678 s nxt :=
  @execAlmYield_keeps t w s
theorem exec_almHalt_keeps (t w) (s : State) : ∃ nxt : State, exec (.almHalt t w) s = .next nxt ∧ Keeps 1099513200678 s nxt :=
  @execAlmHalt_keeps t w s
theorem exec_almFence_keeps (t w busy) (s : State) : ∃ nxt : State, exec (.almFence t w busy) s = .next nxt ∧ Keeps 1099513200678 s nxt :=
  @execAlmFence_keeps t w busy s
theorem exec_almFenceRelease_keeps (t w) (s : State) : ∃ nxt : State, exec (.almFenceRelease t w) s = .next nxt ∧ Keeps 524322 s nxt :=
  @execAlmFenceRelease_keeps t w s
theorem exec_almSlotWaitRelease_keeps (t w) (s : State) : ∃ nxt : State, exec (.almSlotWaitRelease t w) s = .next nxt ∧ Keeps 524322 s nxt :=
  @execAlmSlotWaitRelease_keeps t w s
theorem exec_almStcLockAcquire_keeps (t w d n) (s : State) : ∃ nxt : State, exec (.almStcLockAcquire t w d n) s = .next nxt ∧ Keeps 1099513200694 s nxt :=
  @execAlmStcLockAcquire_keeps t w d n s
theorem exec_almStcLockRelease_keeps (t w n) (s : State) : ∃ nxt : State, exec (.almStcLockRelease t w n) s = .next nxt ∧ Keeps 1103808167990 s nxt :=
  @execAlmStcLockRelease_keeps t w n s
theorem exec_almStcAwait_keeps (t w a) (s : State) : ∃ nxt : State, exec (.almStcAwait t w a) s = .next nxt ∧ Keeps 1103808167974 s nxt :=
  @execAlmStcAwait_keeps t w a s
theorem exec_almStcCan_keeps (t w tm n a) (s : State) : ∃ nxt : State, exec (.almStcCan t w tm n a) s = .next nxt ∧ Keeps 92448037176951911 s nxt :=
  @execAlmStcCan_keeps t w tm n a s
theorem exec_almStcPmc_keeps (t w tm c) (s : State) : ∃ nxt : State, exec (.almStcPmc t w tm c) s = .next nxt ∧ Keeps 92448037176951911 s nxt :=
  @execAlmStcPmc_keeps t w tm c s
theorem exec_almBalStop_keeps (t w tm) (s : State) : ∃ nxt : State, exec (.almBalStop t w tm) s = .next nxt ∧ Keeps 92448037176951911 s nxt :=
  @execAlmBalStop_keeps t w tm s
theorem exec_almBalPhaseStart_keeps (t w tm sel a) (s : State) : ∃ nxt : State, exec (.almBalPhaseStart t w tm sel a) s = .next nxt ∧ Keeps 92448037176951911 s nxt :=
  @execAlmBalPhaseStart_keeps t w tm sel a s
theorem exec_almExcStart_keeps (t w tm plan a) (s : State) : ∃ nxt : State, exec (.almExcStart t w tm plan a) s = .next nxt ∧ Keeps 92448037176951911 s nxt :=
  @execAlmExcStart_keeps t w tm plan a s
theorem exec_almExcStop_keeps (t w tm plan) (s : State) : ∃ nxt : State, exec (.almExcStop t w tm plan) s = .next nxt ∧ Keeps 92448037176951911 s nxt :=
  @execAlmExcStop_keeps t w tm plan s
theorem exec_almSetpHosti_keeps (t w tm a) (s : State) : ∃ nxt : State, exec (.almSetpHosti t w tm a) s = .next nxt ∧ Keeps 92448037176951911 s nxt :=
  @execAlmSetpHosti_keeps t w tm a s
theorem exec_almSetpHostv_keeps (t w tm a) (s : State) : ∃ nxt : State, exec (.almSetpHostv t w tm a) s = .next nxt ∧ Keeps 92448037176951911 s nxt :=
  @execAlmSetpHostv_keeps t w tm a s
theorem exec_almSetpClass_keeps (t w tm a) (s : State) : ∃ nxt : State, exec (.almSetpClass t w tm a) s = .next nxt ∧ Keeps 92448037176951911 s nxt :=
  @execAlmSetpClass_keeps t w tm a s
theorem exec_almTrigSet_keeps (t w tm f) (s : State) : ∃ nxt : State, exec (.almTrigSet t w tm f) s = .next nxt ∧ Keeps 92448037176951911 s nxt :=
  @execAlmTrigSet_keeps t w tm f s
theorem exec_almTrigClear_keeps (t w tm f) (s : State) : ∃ nxt : State, exec (.almTrigClear t w tm f) s = .next nxt ∧ Keeps 92448037176951911 s nxt :=
  @execAlmTrigClear_keeps t w tm f s
theorem exec_almTrigMark_keeps (t w tm a) (s : State) : ∃ nxt : State, exec (.almTrigMark t w tm a) s = .next nxt ∧ Keeps 92448037176951911 s nxt :=
  @execAlmTrigMark_keeps t w tm a s
theorem exec_almTcmp_keeps (t w tb b scale ofs) (s : State) : ∃ nxt : State, exec (.almTcmp t w tb b scale ofs) s = .next nxt ∧ Keeps 18015498022682726 s nxt :=
  @execAlmTcmp_keeps t w tb b scale ofs s
theorem exec_almAt_keeps (t w tb b scale ofs) (s : State) : ∃ nxt : State, exec (.almAt t w tb b scale ofs) s = .next nxt ∧ Keeps 18015498022682726 s nxt :=
  @execAlmAt_keeps t w tb b scale ofs s
theorem exec_almAtr_keeps (t w tb b scale ofs) (s : State) : ∃ nxt : State, exec (.almAtr t w tb b scale ofs) s = .next nxt ∧ Keeps 18015498022682726 s nxt :=
  @execAlmAtr_keeps t w tb b scale ofs s
theorem exec_illegalInstruction_keeps (t w) (s : State) : ∃ nxt : State, exec (.illegalInstruction t w) s = .next nxt ∧ Keeps 18015498022682726 s nxt :=
  @execIllegalInstruction_keeps t w s
theorem exec_eccFault_keeps (t w) (s : State) : ∃ nxt : State, exec (.eccFault t w) s = .next nxt ∧ Keeps 18015498022682726 s nxt :=
  @execEccFault_keeps t w s
theorem exec_programLoad_keeps (t m v) (s : State) : ∃ nxt : State, exec (.programLoad t m v) s = .next nxt ∧ Keeps 1103807119414 s nxt :=
  @execProgramLoad_keeps t m v s
theorem exec_programStart_keeps (t m v) (s : State) : ∃ nxt : State, exec (.programStart t m v) s = .next nxt ∧ Keeps 1103807119414 s nxt :=
  @execProgramStart_keeps t m v s
theorem exec_programMemoryWrite_keeps (t m idx v) (s : State) : ∃ nxt : State, exec (.programMemoryWrite t m idx v) s = .next nxt ∧ Keeps 1099512152102 s nxt :=
  @execProgramMemoryWrite_keeps t m idx v s
theorem exec_dataMemoryAccess_keeps (t m wr idx v) (s : State) : ∃ nxt : State, exec (.dataMemoryAccess t m wr idx v) s = .next nxt ∧ Keeps 524330 s nxt :=
  @execDataMemoryAccess_keeps t m wr idx v s
theorem exec_evflagHostWrite_keeps (t m off v) (s : State) : ∃ nxt : State, exec (.evflagHostWrite t m off v) s = .next nxt ∧ Keeps 1099512152102 s nxt :=
  @execEvflagHostWrite_keeps t m off v s
theorem exec_contextUpdateDone_keeps (t c) (s : State) : ∃ nxt : State, exec (.contextUpdateDone t c) s = .next nxt ∧ Keeps 90076390595100791 s nxt :=
  @execContextUpdateDone_keeps t c s
theorem exec_dapply_keeps (t m) (s : State) : ∃ nxt : State, exec (.dapply t m) s = .next nxt ∧ Keeps 90340552592475767 s nxt :=
  @execDapply_keeps t m s
theorem exec_prerested_keeps (t m) (s : State) : ∃ nxt : State, exec (.prerested t m) s = .next nxt ∧ Keeps 4398046642214 s nxt :=
  @execPrerested_keeps t m s
theorem exec_sextantWindowWrite_keeps (t m a v) (s : State) : ∃ nxt : State, exec (.sextantWindowWrite t m a v) s = .next nxt ∧ Keeps 90340552592475767 s nxt :=
  @execSextantWindowWrite_keeps t m a v s
theorem exec_journalSaveStart_keeps (t) (s : State) : ∃ nxt : State, exec (.journalSaveStart t) s = .next nxt ∧ Keeps 4398046642214 s nxt :=
  @execJournalSaveStart_keeps t s
theorem exec_journalSaveDone_keeps (t ok) (s : State) : ∃ nxt : State, exec (.journalSaveDone t ok) s = .next nxt ∧ Keeps 30192623859793918 s nxt :=
  @execJournalSaveDone_keeps t ok s
theorem exec_periodicSave_keeps (t) (s : State) : ∃ nxt : State, exec (.periodicSave t) s = .next nxt ∧ Keeps 131106 s nxt :=
  @execPeriodicSave_keeps t s
theorem exec_learnSave_keeps (t m) (s : State) : ∃ nxt : State, exec (.learnSave t m) s = .next nxt ∧ Keeps 4398046642214 s nxt :=
  @execLearnSave_keeps t m s
theorem exec_learnRestore_keeps (t m) (s : State) : ∃ nxt : State, exec (.learnRestore t m) s = .next nxt ∧ Keeps 90340552592475767 s nxt :=
  @execLearnRestore_keeps t m s
theorem exec_learnNominal_keeps (t m) (s : State) : ∃ nxt : State, exec (.learnNominal t m) s = .next nxt ∧ Keeps 90340552592475767 s nxt :=
  @execLearnNominal_keeps t m s
theorem exec_learnExport_keeps (t m) (s : State) : ∃ nxt : State, exec (.learnExport t m) s = .next nxt ∧ Keeps 90340552592475767 s nxt :=
  @execLearnExport_keeps t m s
theorem exec_papply_keeps (t m) (s : State) : ∃ nxt : State, exec (.papply t m) s = .next nxt ∧ Keeps 90340552592475767 s nxt :=
  @execPapply_keeps t m s
theorem exec_azmAutoStart_keeps (t) (s : State) : ∃ nxt : State, exec (.azmAutoStart t) s = .next nxt ∧ Keeps 17592186306598 s nxt :=
  @execAzmAutoStart_keeps t s
theorem exec_excWindowElapse_keeps (t) (s : State) : ∃ nxt : State, exec (.excWindowElapse t) s = .next nxt ∧ Keeps 17592186306598 s nxt :=
  @execExcWindowElapse_keeps t s
theorem exec_azmBlockEnd_keeps (t) (s : State) : ∃ nxt : State, exec (.azmBlockEnd t) s = .next nxt ∧ Keeps 72075186225283126 s nxt :=
  @execAzmBlockEnd_keeps t s
theorem exec_azmBlockReady_keeps (t) (s : State) : ∃ nxt : State, exec (.azmBlockReady t) s = .next nxt ∧ Keeps 95508012404752630 s nxt :=
  @execAzmBlockReady_keeps t s
theorem exec_balPhaseEffect_keeps (t) (s : State) : ∃ nxt : State, exec (.balPhaseEffect t) s = .next nxt ∧ Keeps 35253091566886 s nxt :=
  @execBalPhaseEffect_keeps t s
theorem exec_balPhaseEnd_keeps (t) (s : State) : ∃ nxt : State, exec (.balPhaseEnd t) s = .next nxt ∧ Keeps 35184372089894 s nxt :=
  @execBalPhaseEnd_keeps t s
theorem exec_balsetRefresh_keeps (t) (s : State) : ∃ nxt : State, exec (.balsetRefresh t) s = .next nxt ∧ Keeps 35253091566886 s nxt :=
  @execBalsetRefresh_keeps t s
theorem exec_balPlan_keeps (t) (s : State) : ∃ nxt : State, exec (.balPlan t) s = .next nxt ∧ Keeps 1058 s nxt :=
  @execBalPlan_keeps t s
theorem exec_dieTemperaturePoll_keeps (t) (s : State) : ∃ nxt : State, exec (.dieTemperaturePoll t) s = .next nxt ∧ Keeps 35253091566886 s nxt :=
  @execDieTemperaturePoll_keeps t s
theorem exec_unsureExpiry_keeps (t k) (s : State) : ∃ nxt : State, exec (.unsureExpiry t k) s = .next nxt ∧ Keeps 35184372089894 s nxt :=
  @execUnsureExpiry_keeps t k s
theorem exec_helmRunRequest_keeps (t m v) (s : State) : ∃ nxt : State, exec (.helmRunRequest t m v) s = .next nxt ∧ Keeps 97796113307651303 s nxt :=
  @execHelmRunRequest_keeps t m v s
theorem exec_helmStop_keeps (t m v) (s : State) : ∃ nxt : State, exec (.helmStop t m v) s = .next nxt ∧ Keeps 97796113307651303 s nxt :=
  @execHelmStop_keeps t m v s
theorem exec_carrierEnable_keeps (t m v) (s : State) : ∃ nxt : State, exec (.carrierEnable t m v) s = .next nxt ∧ Keeps 97796113307651303 s nxt :=
  @execCarrierEnable_keeps t m v s
theorem exec_legsWrite_keeps (t m v) (s : State) : ∃ nxt : State, exec (.legsWrite t m v) s = .next nxt ∧ Keeps 70368744177702 s nxt :=
  @execLegsWrite_keeps t m v s
theorem exec_carrierWrite_keeps (t m v) (s : State) : ∃ nxt : State, exec (.carrierWrite t m v) s = .next nxt ∧ Keeps 70368744177702 s nxt :=
  @execCarrierWrite_keeps t m v s
theorem exec_coefficientWrite_keeps (t m n v) (s : State) : ∃ nxt : State, exec (.coefficientWrite t m n v) s = .next nxt ∧ Keeps 70368744194086 s nxt :=
  @execCoefficientWrite_keeps t m n v s
theorem exec_hostSetpointWrite_keeps (t m off v) (s : State) : ∃ nxt : State, exec (.hostSetpointWrite t m off v) s = .next nxt ∧ Keeps 70368744194086 s nxt :=
  @execHostSetpointWrite_keeps t m off v s
theorem exec_classSelect_keeps (t m v) (s : State) : ∃ nxt : State, exec (.classSelect t m v) s = .next nxt ∧ Keeps 97796113307651303 s nxt :=
  @execClassSelect_keeps t m v s
theorem exec_sppPeriod_keeps (t per high) (s : State) : ∃ nxt : State, exec (.sppPeriod t per high) s = .next nxt ∧ Keeps 70368744194086 s nxt :=
  @execSppPeriod_keeps t per high s
theorem exec_sppTimeout_keeps (t) (s : State) : ∃ nxt : State, exec (.sppTimeout t) s = .next nxt ∧ Keeps 70368744194086 s nxt :=
  @execSppTimeout_keeps t s
theorem exec_hvacFrameSend_keeps (t) (s : State) : ∃ nxt : State, exec (.hvacFrameSend t) s = .next nxt ∧ Keeps 2251799815847974 s nxt :=
  @execHvacFrameSend_keeps t s
theorem exec_hvacStatusReceive_keeps (t b) (s : State) : ∃ nxt : State, exec (.hvacStatusReceive t b) s = .next nxt ∧ Keeps 140737490452518 s nxt :=
  @execHvacStatusReceive_keeps t b s
theorem exec_hvacLost_keeps (t) (s : State) : ∃ nxt : State, exec (.hvacLost t) s = .next nxt ∧ Keeps 140737488355366 s nxt :=
  @execHvacLost_keeps t s
theorem exec_closeRequest_keeps (t m v) (s : State) : ∃ nxt : State, exec (.closeRequest t m v) s = .next nxt ∧ Keeps 18929192183840870 s nxt :=
  @execCloseRequest_keeps t m v s
theorem exec_closeRelease_keeps (t m v) (s : State) : ∃ nxt : State, exec (.closeRelease t m v) s = .next nxt ∧ Keeps 18929192183840870 s nxt :=
  @execCloseRelease_keeps t m v s
theorem exec_energizeCheck_keeps (t n hs ls load) (s : State) : ∃ nxt : State, exec (.energizeCheck t n hs ls load) s = .next nxt ∧ Keeps 18929192183840870 s nxt :=
  @execEnergizeCheck_keeps t n hs ls load s
theorem exec_deenergizeCheck_keeps (t n hs ls load) (s : State) : ∃ nxt : State, exec (.deenergizeCheck t n hs ls load) s = .next nxt ∧ Keeps 18929192183844966 s nxt :=
  @execDeenergizeCheck_keeps t n hs ls load s
theorem exec_offPulseStart_keeps (t n) (s : State) : ∃ nxt : State, exec (.offPulseStart t n) s = .next nxt ∧ Keeps 281474976743462 s nxt :=
  @execOffPulseStart_keeps t n s
theorem exec_offPulseCheck_keeps (t n hs ls) (s : State) : ∃ nxt : State, exec (.offPulseCheck t n hs ls) s = .next nxt ∧ Keeps 18929192183844966 s nxt :=
  @execOffPulseCheck_keeps t n hs ls s
theorem exec_proofWarn_keeps (t n) (s : State) : ∃ nxt : State, exec (.proofWarn t n) s = .next nxt ∧ Keeps 18295873486192742 s nxt :=
  @execProofWarn_keeps t n s
theorem exec_lodestoneTick_keeps (t x) (s : State) : ∃ nxt : State, exec (.lodestoneTick t x) s = .next nxt ∧ Keeps 94418435045312375 s nxt :=
  @execLodestoneTick_keeps t x s
theorem exec_clkMismatch_keeps (t) (s : State) : ∃ nxt : State, exec (.clkMismatch t) s = .next nxt ∧ Keeps 26829187525230710 s nxt :=
  @execClkMismatch_keeps t s
theorem exec_heartbeatWrite_keeps (t v cyc) (s : State) : ∃ nxt : State, exec (.heartbeatWrite t v cyc) s = .next nxt ∧ Keeps 26829187525230710 s nxt :=
  @execHeartbeatWrite_keeps t v cyc s
theorem exec_heartbeatTimeout_keeps (t cyc) (s : State) : ∃ nxt : State, exec (.heartbeatTimeout t cyc) s = .next nxt ∧ Keeps 26829187525230710 s nxt :=
  @execHeartbeatTimeout_keeps t cyc s
theorem exec_lockstepMismatch_keeps (t) (s : State) : ∃ nxt : State, exec (.lockstepMismatch t) s = .next nxt ∧ Keeps 26829187525230710 s nxt :=
  @execLockstepMismatch_keeps t s
theorem exec_pilotWatchdogExpiry_keeps (t) (s : State) : ∃ nxt : State, exec (.pilotWatchdogExpiry t) s = .next nxt ∧ Keeps 26829187525230710 s nxt :=
  @execPilotWatchdogExpiry_keeps t s
theorem exec_pilotService_keeps (t) (s : State) : ∃ nxt : State, exec (.pilotService t) s = .next nxt ∧ Keeps 32802 s nxt :=
  @execPilotService_keeps t s
theorem exec_bpermitLoss_keeps (t mask) (s : State) : ∃ nxt : State, exec (.bpermitLoss t mask) s = .next nxt ∧ Keeps 23432826170949862 s nxt :=
  @execBpermitLoss_keeps t mask s
theorem exec_bpermitReturn_keeps (t mask) (s : State) : ∃ nxt : State, exec (.bpermitReturn t mask) s = .next nxt ∧ Keeps 18929192183840870 s nxt :=
  @execBpermitReturn_keeps t mask s
theorem exec_safeBLow_keeps (t) (s : State) : ∃ nxt : State, exec (.safeBLow t) s = .next nxt ∧ Keeps 23432826170949862 s nxt :=
  @execSafeBLow_keeps t s
theorem exec_overcurrent_keeps (t a b) (s : State) : ∃ nxt : State, exec (.overcurrent t a b) s = .next nxt ∧ Keeps 23432826170949862 s nxt :=
  @execOvercurrent_keeps t a b s
theorem exec_overcurrentContactorTrip_keeps (t) (s : State) : ∃ nxt : State, exec (.overcurrentContactorTrip t) s = .next nxt ∧ Keeps 23432791811211366 s nxt :=
  @execOvercurrentContactorTrip_keeps t s
theorem exec_overTemperature_keeps (t) (s : State) : ∃ nxt : State, exec (.overTemperature t) s = .next nxt ∧ Keeps 23432826170949862 s nxt :=
  @execOverTemperature_keeps t s
theorem exec_sealRead_keeps (t v) (s : State) : ∃ nxt : State, exec (.sealRead t v) s = .next nxt ∧ Keeps 23432826170949862 s nxt :=
  @execSealRead_keeps t v s
theorem exec_inputFilterPass_keeps (t n a b) (s : State) : ∃ nxt : State, exec (.inputFilterPass t n a b) s = .next nxt ∧ Keeps 23432826170949862 s nxt :=
  @execInputFilterPass_keeps t n a b s
theorem exec_discrepancy_keeps (t n) (s : State) : ∃ nxt : State, exec (.discrepancy t n) s = .next nxt ∧ Keeps 23432826170949862 s nxt :=
  @execDiscrepancy_keeps t n s
theorem exec_insulationEstimate_keeps (t riso) (s : State) : ∃ nxt : State, exec (.insulationEstimate t riso) s = .next nxt ∧ Keeps 23432826179338470 s nxt :=
  @execInsulationEstimate_keeps t riso s
theorem exec_binnacleDelayedTrip_keeps (t) (s : State) : ∃ nxt : State, exec (.binnacleDelayedTrip t) s = .next nxt ∧ Keeps 23432826170949862 s nxt :=
  @execBinnacleDelayedTrip_keeps t s
theorem exec_holdTimerExpiry_keeps (t) (s : State) : ∃ nxt : State, exec (.holdTimerExpiry t) s = .next nxt ∧ Keeps 18929192183840870 s nxt :=
  @execHoldTimerExpiry_keeps t s
theorem exec_twinWrite_keeps (t m v) (s : State) : ∃ nxt : State, exec (.twinWrite t m v) s = .next nxt ∧ Keeps 93574010115180407 s nxt :=
  @execTwinWrite_keeps t m v s
theorem exec_hb_keeps (t m) (s : State) : ∃ nxt : State, exec (.hb t m) s = .next nxt ∧ Keeps 32802 s nxt :=
  @execHb_keeps t m s
theorem exec_grantRise_keeps (t edge) (s : State) : ∃ nxt : State, exec (.grantRise t edge) s = .next nxt ∧ Keeps 94418435045312375 s nxt :=
  @execGrantRise_keeps t edge s
theorem exec_grantFall_keeps (t) (s : State) : ∃ nxt : State, exec (.grantFall t) s = .next nxt ∧ Keeps 94418435045312375 s nxt :=
  @execGrantFall_keeps t s
theorem exec_autorunHelmStart_keeps (t) (s : State) : ∃ nxt : State, exec (.autorunHelmStart t) s = .next nxt ∧ Keeps 70368760971302 s nxt :=
  @execAutorunHelmStart_keeps t s
theorem exec_startUpComplete_keeps (t) (s : State) : ∃ nxt : State, exec (.startUpComplete t) s = .next nxt ∧ Keeps 98222745277384567 s nxt :=
  @execStartUpComplete_keeps t s
theorem exec_mirrorArrival_keeps (t us x) (s : State) : ∃ nxt : State, exec (.mirrorArrival t us x) s = .next nxt ∧ Keeps 24740420402202358 s nxt :=
  @execMirrorArrival_keeps t us x s
theorem exec_mirrorTimeout_keeps (t) (s : State) : ∃ nxt : State, exec (.mirrorTimeout t) s = .next nxt ∧ Keeps 93574010115147639 s nxt :=
  @execMirrorTimeout_keeps t s
theorem exec_peerStatusReceive_keeps (t x) (s : State) : ∃ nxt : State, exec (.peerStatusReceive t x) s = .next nxt ∧ Keeps 20055126467199206 s nxt :=
  @execPeerStatusReceive_keeps t x s
theorem exec_peerLaneDown_keeps (t lane) (s : State) : ∃ nxt : State, exec (.peerLaneDown t lane) s = .next nxt ∧ Keeps 1125934283358374 s nxt :=
  @execPeerLaneDown_keeps t lane s
theorem exec_twinEnergizeTimeout_keeps (t n) (s : State) : ∃ nxt : State, exec (.twinEnergizeTimeout t n) s = .next nxt ∧ Keeps 844424930164774 s nxt :=
  @execTwinEnergizeTimeout_keeps t n s
theorem exec_pcieLinkLoss_keeps (t) (s : State) : ∃ nxt : State, exec (.pcieLinkLoss t) s = .next nxt ∧ Keeps 47278203062 s nxt :=
  @execPcieLinkLoss_keeps t s
theorem exec_cmdpiWrite_keeps (t m v) (s : State) : ∃ nxt : State, exec (.cmdpiWrite t m v) s = .next nxt ∧ Keeps 34359738534 s nxt :=
  @execCmdpiWrite_keeps t m v s
theorem exec_rspciWrite_keeps (t m v) (s : State) : ∃ nxt : State, exec (.rspciWrite t m v) s = .next nxt ∧ Keeps 34359738534 s nxt :=
  @execRspciWrite_keeps t m v s
theorem exec_postciWrite_keeps (t m v) (s : State) : ∃ nxt : State, exec (.postciWrite t m v) s = .next nxt ∧ Keeps 34359738534 s nxt :=
  @execPostciWrite_keeps t m v s
theorem exec_h2dMailboxWrite_keeps (t m n v) (s : State) : ∃ nxt : State, exec (.h2dMailboxWrite t m n v) s = .next nxt ∧ Keeps 34359738534 s nxt :=
  @execH2dMailboxWrite_keeps t m n v s
theorem exec_d2hempty_keeps (t m v) (s : State) : ∃ nxt : State, exec (.d2hempty t m v) s = .next nxt ∧ Keeps 34359738534 s nxt :=
  @execD2hempty_keeps t m v s
theorem exec_mbxStall_keeps (t n) (s : State) : ∃ nxt : State, exec (.mbxStall t n) s = .next nxt ∧ Keeps 34359738534 s nxt :=
  @execMbxStall_keeps t n s
theorem exec_dboutWrite_keeps (t m v) (s : State) : ∃ nxt : State, exec (.dboutWrite t m v) s = .next nxt ∧ Keeps 34393292966 s nxt :=
  @execDboutWrite_keeps t m v s
theorem exec_dbinClear_keeps (t m v) (s : State) : ∃ nxt : State, exec (.dbinClear t m v) s = .next nxt ∧ Keeps 34359738406 s nxt :=
  @execDbinClear_keeps t m v s
theorem exec_hspiReadFrame_keeps (t addr len) (s : State) : ∃ nxt : State, exec (.hspiReadFrame t addr len) s = .next nxt ∧ Keeps 108121687099188407 s nxt :=
  @execHspiReadFrame_keeps t addr len s
theorem exec_hspiWriteFrame_keeps (t addr len ws crcOk) (s : State) : ∃ nxt : State, exec (.hspiWriteFrame t addr len ws crcOk) s = .next nxt ∧ Keeps 243182693458636799 s nxt :=
  @execHspiWriteFrame_keeps t addr len ws crcOk s
theorem exec_hspiStatusFrame_keeps (t) (s : State) : ∃ nxt : State, exec (.hspiStatusFrame t) s = .next nxt ∧ Keeps 162 s nxt :=
  @execHspiStatusFrame_keeps t s
theorem exec_hspiResetEnable_keeps (t) (s : State) : ∃ nxt : State, exec (.hspiResetEnable t) s = .next nxt ∧ Keeps 162 s nxt :=
  @execHspiResetEnable_keeps t s
theorem exec_hspiPortReset_keeps (t) (s : State) : ∃ nxt : State, exec (.hspiPortReset t) s = .next nxt ∧ Keeps 47278203062 s nxt :=
  @execHspiPortReset_keeps t s
theorem exec_udpOpen_keeps (t port slot nc) (s : State) : ∃ nxt : State, exec (.udpOpen t port slot nc) s = .next nxt ∧ Keeps 163 s nxt :=
  @execUdpOpen_keeps t port slot nc s
theorem exec_udpConfirm_keeps (t port sid mac) (s : State) : ∃ nxt : State, exec (.udpConfirm t port sid mac) s = .next nxt ∧ Keeps 34359738534 s nxt :=
  @execUdpConfirm_keeps t port sid mac s
theorem exec_udpDatagram_keeps (t port sid seq typ ws tag) (s : State) : ∃ nxt : State, exec (.udpDatagram t port sid seq typ ws tag) s = .next nxt ∧ Keeps 34359738534 s nxt :=
  @execUdpDatagram_keeps t port sid seq typ ws tag s
theorem exec_udpSessionTimeout_keeps (t k) (s : State) : ∃ nxt : State, exec (.udpSessionTimeout t k) s = .next nxt ∧ Keeps 34393292966 s nxt :=
  @execUdpSessionTimeout_keeps t k s
theorem exec_cmdUnknownCommand_keeps (t op c) (s : State) : ∃ nxt : State, exec (.cmdUnknownCommand t op c) s = .next nxt ∧ Keeps 34359738534 s nxt :=
  @execCmdUnknownCommand_keeps t op c s
theorem exec_cmdGetInfo_keeps (t c) (s : State) : ∃ nxt : State, exec (.cmdGetInfo t c) s = .next nxt ∧ Keeps 34393292966 s nxt :=
  @execCmdGetInfo_keeps t c s
theorem exec_cmdEcho_keeps (t c) (s : State) : ∃ nxt : State, exec (.cmdEcho t c) s = .next nxt ∧ Keeps 34393292966 s nxt :=
  @execCmdEcho_keeps t c s
theorem exec_cmdReadReg_keeps (t c) (s : State) : ∃ nxt : State, exec (.cmdReadReg t c) s = .next nxt ∧ Keeps 108121678542800055 s nxt :=
  @execCmdReadReg_keeps t c s
theorem exec_cmdWriteReg_keeps (t c) (s : State) : ∃ nxt : State, exec (.cmdWriteReg t c) s = .next nxt ∧ Keeps 243182693458636799 s nxt :=
  @execCmdWriteReg_keeps t c s
theorem exec_cmdSetProfile_keeps (t c) (s : State) : ∃ nxt : State, exec (.cmdSetProfile t c) s = .next nxt ∧ Keeps 90340586952214263 s nxt :=
  @execCmdSetProfile_keeps t c s
theorem exec_cmdSetOverride_keeps (t c) (s : State) : ∃ nxt : State, exec (.cmdSetOverride t c) s = .next nxt ∧ Keeps 90340586952214263 s nxt :=
  @execCmdSetOverride_keeps t c s
theorem exec_cmdClearOverrides_keeps (t c) (s : State) : ∃ nxt : State, exec (.cmdClearOverrides t c) s = .next nxt ∧ Keeps 90340586952214263 s nxt :=
  @execCmdClearOverrides_keeps t c s
theorem exec_cmdSetEpoch_keeps (t c) (s : State) : ∃ nxt : State, exec (.cmdSetEpoch t c) s = .next nxt ∧ Keeps 243182693458636799 s nxt :=
  @execCmdSetEpoch_keeps t c s
theorem exec_cmdGetStatus_keeps (t c) (s : State) : ∃ nxt : State, exec (.cmdGetStatus t c) s = .next nxt ∧ Keeps 108121678542800055 s nxt :=
  @execCmdGetStatus_keeps t c s
theorem exec_cmdMbxRelay_keeps (t c) (s : State) : ∃ nxt : State, exec (.cmdMbxRelay t c) s = .next nxt ∧ Keeps 34393292966 s nxt :=
  @execCmdMbxRelay_keeps t c s
theorem exec_cmdStateRead_keeps (t c) (s : State) : ∃ nxt : State, exec (.cmdStateRead t c) s = .next nxt ∧ Keeps 34393292966 s nxt :=
  @execCmdStateRead_keeps t c s
theorem exec_cmdSetAwait_keeps (t c) (s : State) : ∃ nxt : State, exec (.cmdSetAwait t c) s = .next nxt ∧ Keeps 38688260262 s nxt :=
  @execCmdSetAwait_keeps t c s
theorem exec_cmdSetNet_keeps (t c) (s : State) : ∃ nxt : State, exec (.cmdSetNet t c) s = .next nxt ∧ Keeps 34393292966 s nxt :=
  @execCmdSetNet_keeps t c s
theorem exec_cmdGetTime_keeps (t c) (s : State) : ∃ nxt : State, exec (.cmdGetTime t c) s = .next nxt ∧ Keeps 34393292966 s nxt :=
  @execCmdGetTime_keeps t c s
theorem exec_cmdSetCalendar_keeps (t c) (s : State) : ∃ nxt : State, exec (.cmdSetCalendar t c) s = .next nxt ∧ Keeps 51573162150 s nxt :=
  @execCmdSetCalendar_keeps t c s
theorem exec_cmdSetPtp_keeps (t c) (s : State) : ∃ nxt : State, exec (.cmdSetPtp t c) s = .next nxt ∧ Keeps 243182693458636799 s nxt :=
  @execCmdSetPtp_keeps t c s
theorem exec_cmdSetRate_keeps (t c) (s : State) : ∃ nxt : State, exec (.cmdSetRate t c) s = .next nxt ∧ Keeps 51573162150 s nxt :=
  @execCmdSetRate_keeps t c s
theorem exec_cmdSetUtcofs_keeps (t c) (s : State) : ∃ nxt : State, exec (.cmdSetUtcofs t c) s = .next nxt ∧ Keeps 51573162150 s nxt :=
  @execCmdSetUtcofs_keeps t c s
theorem exec_cmdSetTiles_keeps (t c) (s : State) : ∃ nxt : State, exec (.cmdSetTiles t c) s = .next nxt ∧ Keeps 243182693458636799 s nxt :=
  @execCmdSetTiles_keeps t c s
theorem exec_cmdApplyTopology_keeps (t c) (s : State) : ∃ nxt : State, exec (.cmdApplyTopology t c) s = .next nxt ∧ Keeps 57483876237990 s nxt :=
  @execCmdApplyTopology_keeps t c s
theorem exec_cmdRings_keeps (t c) (s : State) : ∃ nxt : State, exec (.cmdRings t c) s = .next nxt ∧ Keeps 35287484993446 s nxt :=
  @execCmdRings_keeps t c s
theorem exec_cmdSetMod_keeps (t c) (s : State) : ∃ nxt : State, exec (.cmdSetMod t c) s = .next nxt ∧ Keeps 243182693458636799 s nxt :=
  @execCmdSetMod_keeps t c s
theorem exec_cmdSetChecks_keeps (t c) (s : State) : ∃ nxt : State, exec (.cmdSetChecks t c) s = .next nxt ∧ Keeps 243182693458636799 s nxt :=
  @execCmdSetChecks_keeps t c s
theorem exec_cmdOwRetest_keeps (t c) (s : State) : ∃ nxt : State, exec (.cmdOwRetest t c) s = .next nxt ∧ Keeps 35562362767270 s nxt :=
  @execCmdOwRetest_keeps t c s
theorem exec_cmdGetRing_keeps (t c) (s : State) : ∃ nxt : State, exec (.cmdGetRing t c) s = .next nxt ∧ Keeps 108121678542800055 s nxt :=
  @execCmdGetRing_keeps t c s
theorem exec_cmdAlmLoad_keeps (t c) (s : State) : ∃ nxt : State, exec (.cmdAlmLoad t c) s = .next nxt ∧ Keeps 243182693458636799 s nxt :=
  @execCmdAlmLoad_keeps t c s
theorem exec_cmdAlmWrite_keeps (t c) (s : State) : ∃ nxt : State, exec (.cmdAlmWrite t c) s = .next nxt ∧ Keeps 1133905445030 s nxt :=
  @execCmdAlmWrite_keeps t c s
theorem exec_cmdAlmStart_keeps (t c) (s : State) : ∃ nxt : State, exec (.cmdAlmStart t c) s = .next nxt ∧ Keeps 1133905445030 s nxt :=
  @execCmdAlmStart_keeps t c s
theorem exec_cmdAlmDread_keeps (t c) (s : State) : ∃ nxt : State, exec (.cmdAlmDread t c) s = .next nxt ∧ Keeps 34393292966 s nxt :=
  @execCmdAlmDread_keeps t c s
theorem exec_cmdAlmDwrite_keeps (t c) (s : State) : ∃ nxt : State, exec (.cmdAlmDwrite t c) s = .next nxt ∧ Keeps 34393817254 s nxt :=
  @execCmdAlmDwrite_keeps t c s
theorem exec_cmdAlmFlags_keeps (t c) (s : State) : ∃ nxt : State, exec (.cmdAlmFlags t c) s = .next nxt ∧ Keeps 1133905445030 s nxt :=
  @execCmdAlmFlags_keeps t c s
theorem exec_cmdAlmStatus_keeps (t c) (s : State) : ∃ nxt : State, exec (.cmdAlmStatus t c) s = .next nxt ∧ Keeps 108121678542800055 s nxt :=
  @execCmdAlmStatus_keeps t c s
theorem exec_cmdSxtWrite_keeps (t c) (s : State) : ∃ nxt : State, exec (.cmdSxtWrite t c) s = .next nxt ∧ Keeps 90340586952214263 s nxt :=
  @execCmdSxtWrite_keeps t c s
theorem exec_cmdSxtDapply_keeps (t c) (s : State) : ∃ nxt : State, exec (.cmdSxtDapply t c) s = .next nxt ∧ Keeps 90340586952214263 s nxt :=
  @execCmdSxtDapply_keeps t c s
theorem exec_cmdSxtCfg_keeps (t c) (s : State) : ∃ nxt : State, exec (.cmdSxtCfg t c) s = .next nxt ∧ Keeps 243182693458636799 s nxt :=
  @execCmdSxtCfg_keeps t c s
theorem exec_cmdCtxRead_keeps (t c) (s : State) : ∃ nxt : State, exec (.cmdCtxRead t c) s = .next nxt ∧ Keeps 34393292966 s nxt :=
  @execCmdCtxRead_keeps t c s
theorem exec_cmdLearnCfg_keeps (t c) (s : State) : ∃ nxt : State, exec (.cmdLearnCfg t c) s = .next nxt ∧ Keeps 243182693458636799 s nxt :=
  @execCmdLearnCfg_keeps t c s
theorem exec_cmdRestoreLearned_keeps (t c) (s : State) : ∃ nxt : State, exec (.cmdRestoreLearned t c) s = .next nxt ∧ Keeps 90340586952214263 s nxt :=
  @execCmdRestoreLearned_keeps t c s
theorem exec_cmdStageWrite_keeps (t c) (s : State) : ∃ nxt : State, exec (.cmdStageWrite t c) s = .next nxt ∧ Keeps 90340586952214263 s nxt :=
  @execCmdStageWrite_keeps t c s
theorem exec_cmdStageRead_keeps (t c) (s : State) : ∃ nxt : State, exec (.cmdStageRead t c) s = .next nxt ∧ Keeps 4432439804070 s nxt :=
  @execCmdStageRead_keeps t c s
theorem exec_cmdExportLearned_keeps (t c) (s : State) : ∃ nxt : State, exec (.cmdExportLearned t c) s = .next nxt ∧ Keeps 90340586952214263 s nxt :=
  @execCmdExportLearned_keeps t c s
theorem exec_cmdAcceptNominal_keeps (t c) (s : State) : ∃ nxt : State, exec (.cmdAcceptNominal t c) s = .next nxt ∧ Keeps 90340586952214263 s nxt :=
  @execCmdAcceptNominal_keeps t c s
theorem exec_cmdJournalSave_keeps (t c) (s : State) : ∃ nxt : State, exec (.cmdJournalSave t c) s = .next nxt ∧ Keeps 4432439935142 s nxt :=
  @execCmdJournalSave_keeps t c s
theorem exec_cmdAzmPlan_keeps (t c) (s : State) : ∃ nxt : State, exec (.cmdAzmPlan t c) s = .next nxt ∧ Keeps 243182693458636799 s nxt :=
  @execCmdAzmPlan_keeps t c s
theorem exec_cmdAzmCal_keeps (t c) (s : State) : ∃ nxt : State, exec (.cmdAzmCal t c) s = .next nxt ∧ Keeps 243182693458636799 s nxt :=
  @execCmdAzmCal_keeps t c s
theorem exec_cmdAzmApply_keeps (t c) (s : State) : ∃ nxt : State, exec (.cmdAzmApply t c) s = .next nxt ∧ Keeps 90340586952214263 s nxt :=
  @execCmdAzmApply_keeps t c s
theorem exec_cmdAzmCfg_keeps (t c) (s : State) : ∃ nxt : State, exec (.cmdAzmCfg t c) s = .next nxt ∧ Keeps 243182693458636799 s nxt :=
  @execCmdAzmCfg_keeps t c s
theorem exec_cmdAzmStatus_keeps (t c) (s : State) : ∃ nxt : State, exec (.cmdAzmStatus t c) s = .next nxt ∧ Keeps 108121678542800055 s nxt :=
  @execCmdAzmStatus_keeps t c s
theorem exec_cmdBalSetup_keeps (t c) (s : State) : ∃ nxt : State, exec (.cmdBalSetup t c) s = .next nxt ∧ Keeps 243182693458636799 s nxt :=
  @execCmdBalSetup_keeps t c s
theorem exec_cmdBalManual_keeps (t c) (s : State) : ∃ nxt : State, exec (.cmdBalManual t c) s = .next nxt ∧ Keeps 243182693458636799 s nxt :=
  @execCmdBalManual_keeps t c s
theorem exec_cmdBalStatus_keeps (t c) (s : State) : ∃ nxt : State, exec (.cmdBalStatus t c) s = .next nxt ∧ Keeps 108121678542800055 s nxt :=
  @execCmdBalStatus_keeps t c s
theorem exec_cmdHlmSetup_keeps (t c) (s : State) : ∃ nxt : State, exec (.cmdHlmSetup t c) s = .next nxt ∧ Keeps 243182693458636799 s nxt :=
  @execCmdHlmSetup_keeps t c s
theorem exec_cmdHlmAnalog_keeps (t c) (s : State) : ∃ nxt : State, exec (.cmdHlmAnalog t c) s = .next nxt ∧ Keeps 243182693458636799 s nxt :=
  @execCmdHlmAnalog_keeps t c s
theorem exec_cmdHlmCoef_keeps (t c) (s : State) : ∃ nxt : State, exec (.cmdHlmCoef t c) s = .next nxt ∧ Keeps 70403137487014 s nxt :=
  @execCmdHlmCoef_keeps t c s
theorem exec_cmdHlmRun_keeps (t c) (s : State) : ∃ nxt : State, exec (.cmdHlmRun t c) s = .next nxt ∧ Keeps 97796113307651303 s nxt :=
  @execCmdHlmRun_keeps t c s
theorem exec_cmdHlmSetpoint_keeps (t c) (s : State) : ∃ nxt : State, exec (.cmdHlmSetpoint t c) s = .next nxt ∧ Keeps 70403137487014 s nxt :=
  @execCmdHlmSetpoint_keeps t c s
theorem exec_cmdHlmLimits_keeps (t c) (s : State) : ∃ nxt : State, exec (.cmdHlmLimits t c) s = .next nxt ∧ Keeps 243182693458636799 s nxt :=
  @execCmdHlmLimits_keeps t c s
theorem exec_cmdHlmDispatch_keeps (t c) (s : State) : ∃ nxt : State, exec (.cmdHlmDispatch t c) s = .next nxt ∧ Keeps 243182693458636799 s nxt :=
  @execCmdHlmDispatch_keeps t c s
theorem exec_cmdDspSetup_keeps (t c) (s : State) : ∃ nxt : State, exec (.cmdDspSetup t c) s = .next nxt ∧ Keeps 243182693458636799 s nxt :=
  @execCmdDspSetup_keeps t c s
theorem exec_cmdCoolSetup_keeps (t c) (s : State) : ∃ nxt : State, exec (.cmdCoolSetup t c) s = .next nxt ∧ Keeps 243182693458636799 s nxt :=
  @execCmdCoolSetup_keeps t c s
theorem exec_cmdCoolFloor_keeps (t c) (s : State) : ∃ nxt : State, exec (.cmdCoolFloor t c) s = .next nxt ∧ Keeps 243182693458636799 s nxt :=
  @execCmdCoolFloor_keeps t c s
theorem exec_cmdHvacSetup_keeps (t c) (s : State) : ∃ nxt : State, exec (.cmdHvacSetup t c) s = .next nxt ∧ Keeps 243182693458636799 s nxt :=
  @execCmdHvacSetup_keeps t c s
theorem exec_cmdHlmStatus_keeps (t c) (s : State) : ∃ nxt : State, exec (.cmdHlmStatus t c) s = .next nxt ∧ Keeps 108121678542800055 s nxt :=
  @execCmdHlmStatus_keeps t c s
theorem exec_cmdSafetyStatus_keeps (t c) (s : State) : ∃ nxt : State, exec (.cmdSafetyStatus t c) s = .next nxt ∧ Keeps 108121678542800055 s nxt :=
  @execCmdSafetyStatus_keeps t c s
theorem exec_cmdSafetyReset_keeps (t c) (s : State) : ∃ nxt : State, exec (.cmdSafetyReset t c) s = .next nxt ∧ Keeps 18929226577133798 s nxt :=
  @execCmdSafetyReset_keeps t c s
theorem exec_cmdOutputRequest_keeps (t c) (s : State) : ∃ nxt : State, exec (.cmdOutputRequest t c) s = .next nxt ∧ Keeps 18929226577133798 s nxt :=
  @execCmdOutputRequest_keeps t c s
theorem exec_cmdBinParam_keeps (t c) (s : State) : ∃ nxt : State, exec (.cmdBinParam t c) s = .next nxt ∧ Keeps 562984480932006 s nxt :=
  @execCmdBinParam_keeps t c s
theorem exec_cmdSealHistory_keeps (t c) (s : State) : ∃ nxt : State, exec (.cmdSealHistory t c) s = .next nxt ∧ Keeps 34393292966 s nxt :=
  @execCmdSealHistory_keeps t c s
theorem exec_cmdRdnSetup_keeps (t c) (s : State) : ∃ nxt : State, exec (.cmdRdnSetup t c) s = .next nxt ∧ Keeps 93574044508473335 s nxt :=
  @execCmdRdnSetup_keeps t c s
theorem exec_cmdRdnStatus_keeps (t c) (s : State) : ∃ nxt : State, exec (.cmdRdnStatus t c) s = .next nxt ∧ Keeps 108121678542800055 s nxt :=
  @execCmdRdnStatus_keeps t c s
theorem exec_cmdCanSetup_keeps (t c) (s : State) : ∃ nxt : State, exec (.cmdCanSetup t c) s = .next nxt ∧ Keeps 243182693458636799 s nxt :=
  @execCmdCanSetup_keeps t c s
theorem exec_cmdCanFilter_keeps (t c) (s : State) : ∃ nxt : State, exec (.cmdCanFilter t c) s = .next nxt ∧ Keeps 243182693458636799 s nxt :=
  @execCmdCanFilter_keeps t c s
theorem exec_cmdCanSend_keeps (t c) (s : State) : ∃ nxt : State, exec (.cmdCanSend t c) s = .next nxt ∧ Keeps 2251834207043750 s nxt :=
  @execCmdCanSend_keeps t c s
theorem exec_cmdCanRecv_keeps (t c) (s : State) : ∃ nxt : State, exec (.cmdCanRecv t c) s = .next nxt ∧ Keeps 2251834207043750 s nxt :=
  @execCmdCanRecv_keeps t c s
theorem exec_cmdCanCancel_keeps (t begun c) (s : State) : ∃ nxt : State, exec (.cmdCanCancel t begun c) s = .next nxt ∧ Keeps 2251834207043750 s nxt :=
  @execCmdCanCancel_keeps t begun c s
theorem exec_cmdCanAutobaud_keeps (t c) (s : State) : ∃ nxt : State, exec (.cmdCanAutobaud t c) s = .next nxt ∧ Keeps 2251834207043750 s nxt :=
  @execCmdCanAutobaud_keeps t c s
theorem exec_cmdCanTimemaster_keeps (t c) (s : State) : ∃ nxt : State, exec (.cmdCanTimemaster t c) s = .next nxt ∧ Keeps 2251834207043750 s nxt :=
  @execCmdCanTimemaster_keeps t c s
theorem exec_cmdUpdBegin_keeps (t c) (s : State) : ∃ nxt : State, exec (.cmdUpdBegin t c) s = .next nxt ∧ Keeps 4503634020665510 s nxt :=
  @execCmdUpdBegin_keeps t c s
theorem exec_cmdUpdWrite_keeps (t c) (s : State) : ∃ nxt : State, exec (.cmdUpdWrite t c) s = .next nxt ∧ Keeps 34393295014 s nxt :=
  @execCmdUpdWrite_keeps t c s
theorem exec_cmdUpdEnd_keeps (t c) (s : State) : ∃ nxt : State, exec (.cmdUpdEnd t c) s = .next nxt ∧ Keeps 4503634020665510 s nxt :=
  @execCmdUpdEnd_keeps t c s
theorem exec_cmdActivate_keeps (t c) (s : State) : ∃ nxt : State, exec (.cmdActivate t c) s = .next nxt ∧ Keeps 23450418390812902 s nxt :=
  @execCmdActivate_keeps t c s
theorem exec_cmdCommit_keeps (t c) (s : State) : ∃ nxt : State, exec (.cmdCommit t c) s = .next nxt ∧ Keeps 166633220606003430 s nxt :=
  @execCmdCommit_keeps t c s
theorem exec_cmdUpdStatus_keeps (t c) (s : State) : ∃ nxt : State, exec (.cmdUpdStatus t c) s = .next nxt ∧ Keeps 108121678542800055 s nxt :=
  @execCmdUpdStatus_keeps t c s
theorem exec_cmdPowerState_keeps (t c) (s : State) : ∃ nxt : State, exec (.cmdPowerState t c) s = .next nxt ∧ Keeps 67395780901601278 s nxt :=
  @execCmdPowerState_keeps t c s
theorem exec_cmdThermalSetup_keeps (t c) (s : State) : ∃ nxt : State, exec (.cmdThermalSetup t c) s = .next nxt ∧ Keeps 81069225733521575 s nxt :=
  @execCmdThermalSetup_keeps t c s
theorem exec_cmdThermalStatus_keeps (t c) (s : State) : ∃ nxt : State, exec (.cmdThermalStatus t c) s = .next nxt ∧ Keeps 34393292966 s nxt :=
  @execCmdThermalStatus_keeps t c s
theorem exec_cmdLogInfo_keeps (t c) (s : State) : ∃ nxt : State, exec (.cmdLogInfo t c) s = .next nxt ∧ Keeps 34393292966 s nxt :=
  @execCmdLogInfo_keeps t c s
theorem exec_cmdLogRead_keeps (t c) (s : State) : ∃ nxt : State, exec (.cmdLogRead t c) s = .next nxt ∧ Keeps 18014432902774950 s nxt :=
  @execCmdLogRead_keeps t c s
theorem exec_cmdLogWindow_keeps (t c) (s : State) : ∃ nxt : State, exec (.cmdLogWindow t c) s = .next nxt ∧ Keeps 243182693458636799 s nxt :=
  @execCmdLogWindow_keeps t c s
theorem exec_cmdLogNonce_keeps (t c) (s : State) : ∃ nxt : State, exec (.cmdLogNonce t c) s = .next nxt ∧ Keeps 34393292967 s nxt :=
  @execCmdLogNonce_keeps t c s
theorem exec_cmdLogClear_keeps (t c) (s : State) : ∃ nxt : State, exec (.cmdLogClear t c) s = .next nxt ∧ Keeps 18014432902779110 s nxt :=
  @execCmdLogClear_keeps t c s
theorem exec_cmdWearRead_keeps (t c) (s : State) : ∃ nxt : State, exec (.cmdWearRead t c) s = .next nxt ∧ Keeps 34393292966 s nxt :=
  @execCmdWearRead_keeps t c s
theorem exec_cmdCommissionSpare_keeps (t c) (s : State) : ∃ nxt : State, exec (.cmdCommissionSpare t c) s = .next nxt ∧ Keeps 54255435800121574 s nxt :=
  @execCmdCommissionSpare_keeps t c s
theorem exec_cmdPmcControl_keeps (t c) (s : State) : ∃ nxt : State, exec (.cmdPmcControl t c) s = .next nxt ∧ Keeps 243182693458636799 s nxt :=
  @execCmdPmcControl_keeps t c s
theorem exec_cmdPmcRead_keeps (t c) (s : State) : ∃ nxt : State, exec (.cmdPmcRead t c) s = .next nxt ∧ Keeps 72057628432269479 s nxt :=
  @execCmdPmcRead_keeps t c s
theorem exec_canFrameReceive_keeps (t n f) (s : State) : ∃ nxt : State, exec (.canFrameReceive t n f) s = .next nxt ∧ Keeps 92588809060701415 s nxt :=
  @execCanFrameReceive_keeps t n f s
theorem exec_canTxDone_keeps (t n sof tdcv) (s : State) : ∃ nxt : State, exec (.canTxDone t n sof tdcv) s = .next nxt ∧ Keeps 2251799813754918 s nxt :=
  @execCanTxDone_keeps t n sof tdcv s
theorem exec_canTxAttemptFail_keeps (t n arb) (s : State) : ∃ nxt : State, exec (.canTxAttemptFail t n arb) s = .next nxt ∧ Keeps 2251799813754918 s nxt :=
  @execCanTxAttemptFail_keeps t n arb s
theorem exec_txgo_keeps (t n m v) (s : State) : ∃ nxt : State, exec (.txgo t n m v) s = .next nxt ∧ Keeps 2251799813750822 s nxt :=
  @execTxgo_keeps t n m v s
theorem exec_txcan_keeps (t n m v begun) (s : State) : ∃ nxt : State, exec (.txcan t n m v begun) s = .next nxt ∧ Keeps 2251799813750822 s nxt :=
  @execTxcan_keeps t n m v begun s
theorem exec_rxrel_keeps (t n m v) (s : State) : ∃ nxt : State, exec (.rxrel t n m v) s = .next nxt ∧ Keeps 2251799813750822 s nxt :=
  @execRxrel_keeps t n m v s
theorem exec_restart_keeps (t n m v) (s : State) : ∃ nxt : State, exec (.restart t n m v) s = .next nxt ∧ Keeps 2251799813750822 s nxt :=
  @execRestart_keeps t n m v s
theorem exec_busOffRecovery_keeps (t n) (s : State) : ∃ nxt : State, exec (.busOffRecovery t n) s = .next nxt ∧ Keeps 2251799813754918 s nxt :=
  @execBusOffRecovery_keeps t n s
theorem exec_canTimingWrite_keeps (t m off v) (s : State) : ∃ nxt : State, exec (.canTimingWrite t m off v) s = .next nxt ∧ Keeps 2251799813685286 s nxt :=
  @execCanTimingWrite_keeps t m off v s
theorem exec_abctlGo_keeps (t n m v) (s : State) : ∃ nxt : State, exec (.abctlGo t n m v) s = .next nxt ∧ Keeps 2251799813750822 s nxt :=
  @execAbctlGo_keeps t n m v s
theorem exec_abctlStop_keeps (t n m v) (s : State) : ∃ nxt : State, exec (.abctlStop t n m v) s = .next nxt ∧ Keeps 2251799813750822 s nxt :=
  @execAbctlStop_keeps t n m v s
theorem exec_autobaudDwellEnd_keeps (t n err) (s : State) : ∃ nxt : State, exec (.autobaudDwellEnd t n err) s = .next nxt ∧ Keeps 65570 s nxt :=
  @execAutobaudDwellEnd_keeps t n err s
theorem exec_referenceCycleStart_keeps (t n) (s : State) : ∃ nxt : State, exec (.referenceCycleStart t n) s = .next nxt ∧ Keeps 2251799813750822 s nxt :=
  @execReferenceCycleStart_keeps t n s
theorem exec_bootReady_keeps (t) (s : State) : ∃ nxt : State, exec (.bootReady t) s = .next nxt ∧ Keeps 22518273048320102 s nxt :=
  @execBootReady_keeps t s
theorem exec_supervisionStart_keeps (t) (s : State) : ∃ nxt : State, exec (.supervisionStart t) s = .next nxt ∧ Keeps 18929192183840870 s nxt :=
  @execSupervisionStart_keeps t s
theorem exec_pauseResumption_keeps (t) (s : State) : ∃ nxt : State, exec (.pauseResumption t) s = .next nxt ∧ Keeps 23432791811344502 s nxt :=
  @execPauseResumption_keeps t s
theorem exec_pauseTimeout_keeps (t) (s : State) : ∃ nxt : State, exec (.pauseTimeout t) s = .next nxt ∧ Keeps 26829187525230710 s nxt :=
  @execPauseTimeout_keeps t s
theorem exec_bootRecordWritten_keeps (t) (s : State) : ∃ nxt : State, exec (.bootRecordWritten t) s = .next nxt ∧ Keeps 4503599627372582 s nxt :=
  @execBootRecordWritten_keeps t s
theorem exec_confirmationWindowClose_keeps (t) (s : State) : ∃ nxt : State, exec (.confirmationWindowClose t) s = .next nxt ∧ Keeps 22517998136854630 s nxt :=
  @execConfirmationWindowClose_keeps t s
theorem exec_recoveryReset_keeps (t) (s : State) : ∃ nxt : State, exec (.recoveryReset t) s = .next nxt ∧ Keeps 56230425005129726 s nxt :=
  @execRecoveryReset_keeps t s
theorem exec_kctlWrite_keeps (t m v) (s : State) : ∃ nxt : State, exec (.kctlWrite t m v) s = .next nxt ∧ Keeps 144115188075857958 s nxt :=
  @execKctlWrite_keeps t m v s
theorem exec_kctlLock_keeps (t m v) (s : State) : ∃ nxt : State, exec (.kctlLock t m v) s = .next nxt ∧ Keeps 144115188075857958 s nxt :=
  @execKctlLock_keeps t m v s
theorem exec_wakeFrame_keeps (t p dst payload) (s : State) : ∃ nxt : State, exec (.wakeFrame t p dst payload) s = .next nxt ∧ Keeps 56230425005129726 s nxt :=
  @execWakeFrame_keeps t p dst payload s
theorem exec_dieSensorConversion_keeps (t temps) (s : State) : ∃ nxt : State, exec (.dieSensorConversion t temps) s = .next nxt ∧ Keeps 104502017515372775 s nxt :=
  @execDieSensorConversion_keeps t temps s
theorem exec_boardChannelConversion_keeps (t ch raw) (s : State) : ∃ nxt : State, exec (.boardChannelConversion t ch raw) s = .next nxt ∧ Keeps 27021632128159974 s nxt :=
  @execBoardChannelConversion_keeps t ch raw s
theorem exec_throttleEnd_keeps (t) (s : State) : ∃ nxt : State, exec (.throttleEnd t) s = .next nxt ∧ Keeps 81069225699967143 s nxt :=
  @execThrottleEnd_keeps t s
theorem exec_logEvent_keeps (t) (s : State) : ∃ nxt : State, exec (.logEvent t) s = .next nxt ∧ Keeps 18014398509486182 s nxt :=
  @execLogEvent_keeps t s
theorem exec_logRdidxWrite_keeps (t m v) (s : State) : ∃ nxt : State, exec (.logRdidxWrite t m v) s = .next nxt ∧ Keeps 18014398509482022 s nxt :=
  @execLogRdidxWrite_keeps t m v s
theorem exec_logErasureDone_keeps (t) (s : State) : ∃ nxt : State, exec (.logErasureDone t) s = .next nxt ∧ Keeps 18014432902775014 s nxt :=
  @execLogErasureDone_keeps t s
theorem exec_ledgerFlush_keeps (t ok) (s : State) : ∃ nxt : State, exec (.ledgerFlush t ok) s = .next nxt ∧ Keeps 36028797018968102 s nxt :=
  @execLedgerFlush_keeps t ok s
theorem exec_eccScrub_keeps (t found) (s : State) : ∃ nxt : State, exec (.eccScrub t found) s = .next nxt ∧ Keeps 4130 s nxt :=
  @execEccScrub_keeps t found s
theorem exec_pmcStart_keeps (t m) (s : State) : ∃ nxt : State, exec (.pmcStart t m) s = .next nxt ∧ Keeps 72057594038976551 s nxt :=
  @execPmcStart_keeps t m s
theorem exec_pmcStop_keeps (t m) (s : State) : ∃ nxt : State, exec (.pmcStop t m) s = .next nxt ∧ Keeps 72057594038976551 s nxt :=
  @execPmcStop_keeps t m s
theorem exec_pmcFreeze_keeps (t m) (s : State) : ∃ nxt : State, exec (.pmcFreeze t m) s = .next nxt ∧ Keeps 72057594038976551 s nxt :=
  @execPmcFreeze_keeps t m s
theorem exec_pmcClear_keeps (t m) (s : State) : ∃ nxt : State, exec (.pmcClear t m) s = .next nxt ∧ Keeps 72057594038976551 s nxt :=
  @execPmcClear_keeps t m s
theorem exec_clockStopped_keeps (t c) (s : State) : ∃ nxt : State, exec (.clockStopped t c) s = .next nxt ∧ Keeps 18049677371021286 s nxt :=
  @execClockStopped_keeps t c s
theorem exec_clockRunning_keeps (t c) (s : State) : ∃ nxt : State, exec (.clockRunning t c) s = .next nxt ∧ Keeps 8589942822 s nxt :=
  @execClockRunning_keeps t c s
theorem exec_lodestoneOscStop_keeps (t) (s : State) : ∃ nxt : State, exec (.lodestoneOscStop t) s = .next nxt ∧ Keeps 914793674358822 s nxt :=
  @execLodestoneOscStop_keeps t s
theorem exec_pointerCheckFail_keeps (t n) (s : State) : ∃ nxt : State, exec (.pointerCheckFail t n) s = .next nxt ∧ Keeps 8589942822 s nxt :=
  @execPointerCheckFail_keeps t n s
theorem exec_handshakePhase_keeps (t n u) (s : State) : ∃ nxt : State, exec (.handshakePhase t n u) s = .next nxt ∧ Keeps 279211490477600767 s nxt :=
  @execHandshakePhase_keeps t n u s
theorem exec_crossingTimeout_keeps (t n u) (s : State) : ∃ nxt : State, exec (.crossingTimeout t n u) s = .next nxt ∧ Keeps 8589942822 s nxt :=
  @execCrossingTimeout_keeps t n u s
theorem exec_xresync_keeps (t m v) (s : State) : ∃ nxt : State, exec (.xresync t m v) s = .next nxt ∧ Keeps 8589942822 s nxt :=
  @execXresync_keeps t m v s
theorem exec_xfbWrite_keeps (t m v) (s : State) : ∃ nxt : State, exec (.xfbWrite t m v) s = .next nxt ∧ Keeps 8589934630 s nxt :=
  @execXfbWrite_keeps t m v s
theorem exec_xevmodeWrite_keeps (t m v busy) (s : State) : ∃ nxt : State, exec (.xevmodeWrite t m v busy) s = .next nxt ∧ Keeps 8589934630 s nxt :=
  @execXevmodeWrite_keeps t m v busy s
theorem exec_tilePowerUp_keeps (t k ncell) (s : State) : ∃ nxt : State, exec (.tilePowerUp t k ncell) s = .next nxt ∧ Keeps 290 s nxt :=
  @execTilePowerUp_keeps t k ncell s
theorem exec_tileLinkUp_keeps (t k side) (s : State) : ∃ nxt : State, exec (.tileLinkUp t k side) s = .next nxt ∧ Keeps 290 s nxt :=
  @execTileLinkUp_keeps t k side s
theorem exec_turnbackFrameReceive_keeps (t p f) (s : State) : ∃ nxt : State, exec (.turnbackFrameReceive t p f) s = .next nxt ∧ Keeps 18049651601184614 s nxt :=
  @execTurnbackFrameReceive_keeps t p f s
theorem exec_tileResponseWindowEnd_keeps (t k) (s : State) : ∃ nxt : State, exec (.tileResponseWindowEnd t k) s = .next nxt ∧ Keeps 290 s nxt :=
  @execTileResponseWindowEnd_keeps t k s
theorem exec_portFrameSent_keeps (t p) (s : State) : ∃ nxt : State, exec (.portFrameSent t p) s = .next nxt ∧ Keeps 290 s nxt :=
  @execPortFrameSent_keeps t p s
theorem exec_faultLoopReturn_keeps (t r) (s : State) : ∃ nxt : State, exec (.faultLoopReturn t r) s = .next nxt ∧ Keeps 18929260903317606 s nxt :=
  @execFaultLoopReturn_keeps t r s
theorem exec_peerLaneUp_keeps (t lane) (s : State) : ∃ nxt : State, exec (.peerLaneUp t lane) s = .next nxt ∧ Keeps 1125934283358374 s nxt :=
  @execPeerLaneUp_keeps t lane s
theorem exec_ethLinkUp_keeps (t n) (s : State) : ∃ nxt : State, exec (.ethLinkUp t n) s = .next nxt ∧ Keeps 8589942950 s nxt :=
  @execEthLinkUp_keeps t n s
theorem exec_pcieLinkUp_keeps (t) (s : State) : ∃ nxt : State, exec (.pcieLinkUp t) s = .next nxt ∧ Keeps 8589942950 s nxt :=
  @execPcieLinkUp_keeps t s
theorem exec_canRxError_keeps (t n inc) (s : State) : ∃ nxt : State, exec (.canRxError t n inc) s = .next nxt ∧ Keeps 2251799813754918 s nxt :=
  @execCanRxError_keeps t n inc s
theorem exec_canProtocolException_keeps (t n) (s : State) : ∃ nxt : State, exec (.canProtocolException t n) s = .next nxt ∧ Keeps 2251799813750822 s nxt :=
  @execCanProtocolException_keeps t n s
theorem exec_referenceMessageSent_keeps (t n sof) (s : State) : ∃ nxt : State, exec (.referenceMessageSent t n sof) s = .next nxt ∧ Keeps 92448037176956007 s nxt :=
  @execReferenceMessageSent_keeps t n sof s
theorem exec_powerFail_keeps (t torn) (s : State) : ∃ nxt : State, exec (.powerFail t torn) s = .next nxt ∧ Keeps 201326590 s nxt :=
  @execPowerFail_keeps t torn s
theorem exec_activateRampTimeout_keeps (t) (s : State) : ∃ nxt : State, exec (.activateRampTimeout t) s = .next nxt ∧ Keeps 23450418390812902 s nxt :=
  @execActivateRampTimeout_keeps t s
theorem exec_autobaudLimit_keeps (t n) (s : State) : ∃ nxt : State, exec (.autobaudLimit t n) s = .next nxt ∧ Keeps 2251834206978214 s nxt :=
  @execAutobaudLimit_keeps t n s
/-- Every command executes, and changes at most what its mask allows. -/
theorem exec_keeps (c : Instr) (s : State) : ∃ u : State, exec c s = .next u ∧ Keeps (keepsMask c) s u := by
  cases c
  · exact exec_powerOnReset_keeps _ s
  · exact exec_deviceReset_keeps _ s
  · exact exec_resetRelease_keeps _ _ s
  · exact exec_lodestonePowerUpEnd_keeps _ _ _ _ _ _ _ s
  · exact exec_brownNFall_keeps _ s
  · exact exec_brownNHigh100ms_keeps _ s
  · exact exec_vbatLow_keeps _ s
  · exact exec_pllLock_keeps _ s
  · exact exec_pllUnlock_keeps _ s
  · exact exec_registerWrite_keeps _ _ _ _ _ _ s
  · exact exec_timeLowWordRead_keeps _ _ _ s
  · exact exec_portstsRead_keeps _ _ _ s
  · exact exec_wearDataRead_keeps _ _ s
  · exact exec_lockAcquire_keeps _ _ _ s
  · exact exec_lockRelease_keeps _ _ _ s
  · exact exec_epochctlWrite_keeps _ _ _ s
  · exact exec_profileSelection_keeps _ _ _ s
  · exact exec_epochBoundary_keeps _ s
  · exact exec_contributionArrival_keeps _ _ s
  · exact exec_epochCommit_keeps _ s
  · exact exec_ptpMessageReceive_keeps _ _ s
  · exact exec_ptpSyncReceive_keeps _ _ _ _ s
  · exact exec_ptpAnnounceReceive_keeps _ _ s
  · exact exec_pdelayReqReceive_keeps _ _ _ s
  · exact exec_masterLost_keeps _ s
  · exact exec_ptpDisable_keeps _ _ s
  · exact exec_holdExceeded_keeps _ s
  · exact exec_rtcRewrite_keeps _ _ s
  · exact exec_leapSecond_keeps _ _ s
  · exact exec_timedActionLaunch_keeps _ s
  · exact exec_carrierValley_keeps _ _ s
  · exact exec_helmDutyLatch_keeps _ s
  · exact exec_carrierStop_keeps _ s
  · exact exec_busReferenceLost_keeps _ _ s
  · exact exec_portLinkUp_keeps _ _ s
  · exact exec_portLinkDown_keeps _ _ s
  · exact exec_trvCtlWrite_keeps _ _ _ s
  · exact exec_openRingTrainStart_keeps _ _ s
  · exact exec_enumReturn_keeps _ _ _ _ s
  · exact exec_echorReceive_keeps _ _ _ _ s
  · exact exec_trainingDone_keeps _ _ s
  · exact exec_armstatPoll_keeps _ _ s
  · exact exec_ringRestore_keeps _ _ s
  · exact exec_lostRing_keeps _ _ s
  · exact exec_tsyncSend_keeps _ s
  · exact exec_unclaimedFrame_keeps _ _ _ s
  · exact exec_snaprReceive_keeps _ _ _ _ s
  · exact exec_respReceive_keeps _ _ _ _ s
  · exact exec_cmdTimeout_keeps _ _ _ s
  · exact exec_alertReceive_keeps _ _ _ _ s
  · exact exec_alertBootReceive_keeps _ _ _ s
  · exact exec_profileInject_keeps _ _ s
  · exact exec_sampleFrame_keeps _ _ _ _ s
  · exact exec_tsyncFrame_keeps _ _ _ _ s
  · exact exec_enumFrame_keeps _ _ _ _ s
  · exact exec_echoFrame_keeps _ _ _ _ _ s
  · exact exec_loadFrame_keeps _ _ _ _ s
  · exact exec_loadendFrame_keeps _ _ _ _ s
  · exact exec_tileBoot_keeps _ _ s
  · exact exec_profileFrame_keeps _ _ _ _ s
  · exact exec_tileFrameRelay_keeps _ _ _ _ _ s
  · exact exec_tileLinkDown_keeps _ _ _ s
  · exact exec_alertLinkdown_keeps _ _ _ _ s
  · exact exec_tileSnaprSlot_keeps _ _ s
  · exact exec_tileConversion_keeps _ _ _ s
  · exact exec_tileComparatorTrip_keeps _ _ s
  · exact exec_tileComparatorRelease_keeps _ _ s
  · exact exec_tileDieHot_keeps _ _ s
  · exact exec_balset_keeps _ _ _ _ s
  · exact exec_tileBalsetExpiry_keeps _ _ s
  · exact exec_dieTemperatureRead_keeps _ _ _ _ _ s
  · exact exec_armstat_keeps _ _ _ _ s
  · exact exec_openWireSinks_keeps _ _ _ _ s
  · exact exec_tileSinkOn_keeps _ _ s
  · exact exec_faultLoopLoss_keeps _ _ s
  · exact exec_flFast_keeps _ _ s
  · exact exec_armedThresholdFault_keeps _ _ s
  · exact exec_acqApply_keeps _ _ _ s
  · exact exec_snap_keeps _ _ _ s
  · exact exec_modCodeReady_keeps _ _ _ _ s
  · exact exec_modFault_keeps _ _ s
  · exact exec_snapshotClose_keeps _ _ s
  · exact exec_owTestAbandon_keeps _ _ s
  · exact exec_owTestWindowEnd_keeps _ _ s
  · exact exec_owRetestGo_keeps _ _ _ s
  · exact exec_almAdd_keeps _ _ _ _ _ s
  · exact exec_almSub_keeps _ _ _ _ _ s
  · exact exec_almAnd_keeps _ _ _ _ _ s
  · exact exec_almOr_keeps _ _ _ _ _ s
  · exact exec_almXor_keeps _ _ _ _ _ s
  · exact exec_almSll_keeps _ _ _ _ _ s
  · exact exec_almSrl_keeps _ _ _ _ _ s
  · exact exec_almSra_keeps _ _ _ _ _ s
  · exact exec_almMul_keeps _ _ _ _ _ s
  · exact exec_almMulh_keeps _ _ _ _ _ s
  · exact exec_almMin_keeps _ _ _ _ _ s
  · exact exec_almMax_keeps _ _ _ _ _ s
  · exact exec_almClamp_keeps _ _ _ _ _ _ s
  · exact exec_almAddi_keeps _ _ _ _ _ s
  · exact exec_almAndi_keeps _ _ _ _ _ s
  · exact exec_almOri_keeps _ _ _ _ _ s
  · exact exec_almSlli_keeps _ _ _ _ _ s
  · exact exec_almSrli_keeps _ _ _ _ _ s
  · exact exec_almSrai_keeps _ _ _ _ _ s
  · exact exec_almLui_keeps _ _ _ _ s
  · exact exec_almLdw_keeps _ _ _ _ _ s
  · exact exec_almStw_keeps _ _ _ _ _ s
  · exact exec_almLds_keeps _ _ _ _ _ s
  · exact exec_almRdt_keeps _ _ _ _ _ s
  · exact exec_almPost_keeps _ _ _ _ _ s
  · exact exec_almRing_keeps _ _ _ s
  · exact exec_almMbxSend_keeps _ _ _ s
  · exact exec_almMbxReceive_keeps _ _ _ s
  · exact exec_almBeq_keeps _ _ _ _ _ s
  · exact exec_almBne_keeps _ _ _ _ _ s
  · exact exec_almBlt_keeps _ _ _ _ _ s
  · exact exec_almBge_keeps _ _ _ _ _ s
  · exact exec_almBltu_keeps _ _ _ _ _ s
  · exact exec_almBgeu_keeps _ _ _ _ _ s
  · exact exec_almBfs_keeps _ _ _ _ s
  · exact exec_almBfc_keeps _ _ _ _ s
  · exact exec_almJal_keeps _ _ _ _ s
  · exact exec_almJr_keeps _ _ _ s
  · exact exec_almWaitev_keeps _ _ _ _ _ _ s
  · exact exec_almWaitevWake_keeps _ _ s
  · exact exec_almSpawn_keeps _ _ _ _ _ s
  · exact exec_almKill_keeps _ _ _ s
  · exact exec_almYield_keeps _ _ s
  · exact exec_almHalt_keeps _ _ s
  · exact exec_almFence_keeps _ _ _ s
  · exact exec_almFenceRelease_keeps _ _ s
  · exact exec_almSlotWaitRelease_keeps _ _ s
  · exact exec_almStcLockAcquire_keeps _ _ _ _ s
  · exact exec_almStcLockRelease_keeps _ _ _ s
  · exact exec_almStcAwait_keeps _ _ _ s
  · exact exec_almStcCan_keeps _ _ _ _ _ s
  · exact exec_almStcPmc_keeps _ _ _ _ s
  · exact exec_almBalStop_keeps _ _ _ s
  · exact exec_almBalPhaseStart_keeps _ _ _ _ _ s
  · exact exec_almExcStart_keeps _ _ _ _ _ s
  · exact exec_almExcStop_keeps _ _ _ _ s
  · exact exec_almSetpHosti_keeps _ _ _ _ s
  · exact exec_almSetpHostv_keeps _ _ _ _ s
  · exact exec_almSetpClass_keeps _ _ _ _ s
  · exact exec_almTrigSet_keeps _ _ _ _ s
  · exact exec_almTrigClear_keeps _ _ _ _ s
  · exact exec_almTrigMark_keeps _ _ _ _ s
  · exact exec_almTcmp_keeps _ _ _ _ _ _ s
  · exact exec_almAt_keeps _ _ _ _ _ _ s
  · exact exec_almAtr_keeps _ _ _ _ _ _ s
  · exact exec_illegalInstruction_keeps _ _ s
  · exact exec_eccFault_keeps _ _ s
  · exact exec_programLoad_keeps _ _ _ s
  · exact exec_programStart_keeps _ _ _ s
  · exact exec_programMemoryWrite_keeps _ _ _ _ s
  · exact exec_dataMemoryAccess_keeps _ _ _ _ _ s
  · exact exec_evflagHostWrite_keeps _ _ _ _ s
  · exact exec_contextUpdateDone_keeps _ _ s
  · exact exec_dapply_keeps _ _ s
  · exact exec_prerested_keeps _ _ s
  · exact exec_sextantWindowWrite_keeps _ _ _ _ s
  · exact exec_journalSaveStart_keeps _ s
  · exact exec_journalSaveDone_keeps _ _ s
  · exact exec_periodicSave_keeps _ s
  · exact exec_learnSave_keeps _ _ s
  · exact exec_learnRestore_keeps _ _ s
  · exact exec_learnNominal_keeps _ _ s
  · exact exec_learnExport_keeps _ _ s
  · exact exec_papply_keeps _ _ s
  · exact exec_azmAutoStart_keeps _ s
  · exact exec_excWindowElapse_keeps _ s
  · exact exec_azmBlockEnd_keeps _ s
  · exact exec_azmBlockReady_keeps _ s
  · exact exec_balPhaseEffect_keeps _ s
  · exact exec_balPhaseEnd_keeps _ s
  · exact exec_balsetRefresh_keeps _ s
  · exact exec_balPlan_keeps _ s
  · exact exec_dieTemperaturePoll_keeps _ s
  · exact exec_unsureExpiry_keeps _ _ s
  · exact exec_helmRunRequest_keeps _ _ _ s
  · exact exec_helmStop_keeps _ _ _ s
  · exact exec_carrierEnable_keeps _ _ _ s
  · exact exec_legsWrite_keeps _ _ _ s
  · exact exec_carrierWrite_keeps _ _ _ s
  · exact exec_coefficientWrite_keeps _ _ _ _ s
  · exact exec_hostSetpointWrite_keeps _ _ _ _ s
  · exact exec_classSelect_keeps _ _ _ s
  · exact exec_sppPeriod_keeps _ _ _ s
  · exact exec_sppTimeout_keeps _ s
  · exact exec_hvacFrameSend_keeps _ s
  · exact exec_hvacStatusReceive_keeps _ _ s
  · exact exec_hvacLost_keeps _ s
  · exact exec_closeRequest_keeps _ _ _ s
  · exact exec_closeRelease_keeps _ _ _ s
  · exact exec_energizeCheck_keeps _ _ _ _ _ s
  · exact exec_deenergizeCheck_keeps _ _ _ _ _ s
  · exact exec_offPulseStart_keeps _ _ s
  · exact exec_offPulseCheck_keeps _ _ _ _ s
  · exact exec_proofWarn_keeps _ _ s
  · exact exec_lodestoneTick_keeps _ _ s
  · exact exec_clkMismatch_keeps _ s
  · exact exec_heartbeatWrite_keeps _ _ _ s
  · exact exec_heartbeatTimeout_keeps _ _ s
  · exact exec_lockstepMismatch_keeps _ s
  · exact exec_pilotWatchdogExpiry_keeps _ s
  · exact exec_pilotService_keeps _ s
  · exact exec_bpermitLoss_keeps _ _ s
  · exact exec_bpermitReturn_keeps _ _ s
  · exact exec_safeBLow_keeps _ s
  · exact exec_overcurrent_keeps _ _ _ s
  · exact exec_overcurrentContactorTrip_keeps _ s
  · exact exec_overTemperature_keeps _ s
  · exact exec_sealRead_keeps _ _ s
  · exact exec_inputFilterPass_keeps _ _ _ _ s
  · exact exec_discrepancy_keeps _ _ s
  · exact exec_insulationEstimate_keeps _ _ s
  · exact exec_binnacleDelayedTrip_keeps _ s
  · exact exec_holdTimerExpiry_keeps _ s
  · exact exec_twinWrite_keeps _ _ _ s
  · exact exec_hb_keeps _ _ s
  · exact exec_grantRise_keeps _ _ s
  · exact exec_grantFall_keeps _ s
  · exact exec_autorunHelmStart_keeps _ s
  · exact exec_startUpComplete_keeps _ s
  · exact exec_mirrorArrival_keeps _ _ _ s
  · exact exec_mirrorTimeout_keeps _ s
  · exact exec_peerStatusReceive_keeps _ _ s
  · exact exec_peerLaneDown_keeps _ _ s
  · exact exec_twinEnergizeTimeout_keeps _ _ s
  · exact exec_pcieLinkLoss_keeps _ s
  · exact exec_cmdpiWrite_keeps _ _ _ s
  · exact exec_rspciWrite_keeps _ _ _ s
  · exact exec_postciWrite_keeps _ _ _ s
  · exact exec_h2dMailboxWrite_keeps _ _ _ _ s
  · exact exec_d2hempty_keeps _ _ _ s
  · exact exec_mbxStall_keeps _ _ s
  · exact exec_dboutWrite_keeps _ _ _ s
  · exact exec_dbinClear_keeps _ _ _ s
  · exact exec_hspiReadFrame_keeps _ _ _ s
  · exact exec_hspiWriteFrame_keeps _ _ _ _ _ s
  · exact exec_hspiStatusFrame_keeps _ s
  · exact exec_hspiResetEnable_keeps _ s
  · exact exec_hspiPortReset_keeps _ s
  · exact exec_udpOpen_keeps _ _ _ _ s
  · exact exec_udpConfirm_keeps _ _ _ _ s
  · exact exec_udpDatagram_keeps _ _ _ _ _ _ _ s
  · exact exec_udpSessionTimeout_keeps _ _ s
  · exact exec_cmdUnknownCommand_keeps _ _ _ s
  · exact exec_cmdGetInfo_keeps _ _ s
  · exact exec_cmdEcho_keeps _ _ s
  · exact exec_cmdReadReg_keeps _ _ s
  · exact exec_cmdWriteReg_keeps _ _ s
  · exact exec_cmdSetProfile_keeps _ _ s
  · exact exec_cmdSetOverride_keeps _ _ s
  · exact exec_cmdClearOverrides_keeps _ _ s
  · exact exec_cmdSetEpoch_keeps _ _ s
  · exact exec_cmdGetStatus_keeps _ _ s
  · exact exec_cmdMbxRelay_keeps _ _ s
  · exact exec_cmdStateRead_keeps _ _ s
  · exact exec_cmdSetAwait_keeps _ _ s
  · exact exec_cmdSetNet_keeps _ _ s
  · exact exec_cmdGetTime_keeps _ _ s
  · exact exec_cmdSetCalendar_keeps _ _ s
  · exact exec_cmdSetPtp_keeps _ _ s
  · exact exec_cmdSetRate_keeps _ _ s
  · exact exec_cmdSetUtcofs_keeps _ _ s
  · exact exec_cmdSetTiles_keeps _ _ s
  · exact exec_cmdApplyTopology_keeps _ _ s
  · exact exec_cmdRings_keeps _ _ s
  · exact exec_cmdSetMod_keeps _ _ s
  · exact exec_cmdSetChecks_keeps _ _ s
  · exact exec_cmdOwRetest_keeps _ _ s
  · exact exec_cmdGetRing_keeps _ _ s
  · exact exec_cmdAlmLoad_keeps _ _ s
  · exact exec_cmdAlmWrite_keeps _ _ s
  · exact exec_cmdAlmStart_keeps _ _ s
  · exact exec_cmdAlmDread_keeps _ _ s
  · exact exec_cmdAlmDwrite_keeps _ _ s
  · exact exec_cmdAlmFlags_keeps _ _ s
  · exact exec_cmdAlmStatus_keeps _ _ s
  · exact exec_cmdSxtWrite_keeps _ _ s
  · exact exec_cmdSxtDapply_keeps _ _ s
  · exact exec_cmdSxtCfg_keeps _ _ s
  · exact exec_cmdCtxRead_keeps _ _ s
  · exact exec_cmdLearnCfg_keeps _ _ s
  · exact exec_cmdRestoreLearned_keeps _ _ s
  · exact exec_cmdStageWrite_keeps _ _ s
  · exact exec_cmdStageRead_keeps _ _ s
  · exact exec_cmdExportLearned_keeps _ _ s
  · exact exec_cmdAcceptNominal_keeps _ _ s
  · exact exec_cmdJournalSave_keeps _ _ s
  · exact exec_cmdAzmPlan_keeps _ _ s
  · exact exec_cmdAzmCal_keeps _ _ s
  · exact exec_cmdAzmApply_keeps _ _ s
  · exact exec_cmdAzmCfg_keeps _ _ s
  · exact exec_cmdAzmStatus_keeps _ _ s
  · exact exec_cmdBalSetup_keeps _ _ s
  · exact exec_cmdBalManual_keeps _ _ s
  · exact exec_cmdBalStatus_keeps _ _ s
  · exact exec_cmdHlmSetup_keeps _ _ s
  · exact exec_cmdHlmAnalog_keeps _ _ s
  · exact exec_cmdHlmCoef_keeps _ _ s
  · exact exec_cmdHlmRun_keeps _ _ s
  · exact exec_cmdHlmSetpoint_keeps _ _ s
  · exact exec_cmdHlmLimits_keeps _ _ s
  · exact exec_cmdHlmDispatch_keeps _ _ s
  · exact exec_cmdDspSetup_keeps _ _ s
  · exact exec_cmdCoolSetup_keeps _ _ s
  · exact exec_cmdCoolFloor_keeps _ _ s
  · exact exec_cmdHvacSetup_keeps _ _ s
  · exact exec_cmdHlmStatus_keeps _ _ s
  · exact exec_cmdSafetyStatus_keeps _ _ s
  · exact exec_cmdSafetyReset_keeps _ _ s
  · exact exec_cmdOutputRequest_keeps _ _ s
  · exact exec_cmdBinParam_keeps _ _ s
  · exact exec_cmdSealHistory_keeps _ _ s
  · exact exec_cmdRdnSetup_keeps _ _ s
  · exact exec_cmdRdnStatus_keeps _ _ s
  · exact exec_cmdCanSetup_keeps _ _ s
  · exact exec_cmdCanFilter_keeps _ _ s
  · exact exec_cmdCanSend_keeps _ _ s
  · exact exec_cmdCanRecv_keeps _ _ s
  · exact exec_cmdCanCancel_keeps _ _ _ s
  · exact exec_cmdCanAutobaud_keeps _ _ s
  · exact exec_cmdCanTimemaster_keeps _ _ s
  · exact exec_cmdUpdBegin_keeps _ _ s
  · exact exec_cmdUpdWrite_keeps _ _ s
  · exact exec_cmdUpdEnd_keeps _ _ s
  · exact exec_cmdActivate_keeps _ _ s
  · exact exec_cmdCommit_keeps _ _ s
  · exact exec_cmdUpdStatus_keeps _ _ s
  · exact exec_cmdPowerState_keeps _ _ s
  · exact exec_cmdThermalSetup_keeps _ _ s
  · exact exec_cmdThermalStatus_keeps _ _ s
  · exact exec_cmdLogInfo_keeps _ _ s
  · exact exec_cmdLogRead_keeps _ _ s
  · exact exec_cmdLogWindow_keeps _ _ s
  · exact exec_cmdLogNonce_keeps _ _ s
  · exact exec_cmdLogClear_keeps _ _ s
  · exact exec_cmdWearRead_keeps _ _ s
  · exact exec_cmdCommissionSpare_keeps _ _ s
  · exact exec_cmdPmcControl_keeps _ _ s
  · exact exec_cmdPmcRead_keeps _ _ s
  · exact exec_canFrameReceive_keeps _ _ _ s
  · exact exec_canTxDone_keeps _ _ _ _ s
  · exact exec_canTxAttemptFail_keeps _ _ _ s
  · exact exec_txgo_keeps _ _ _ _ s
  · exact exec_txcan_keeps _ _ _ _ _ s
  · exact exec_rxrel_keeps _ _ _ _ s
  · exact exec_restart_keeps _ _ _ _ s
  · exact exec_busOffRecovery_keeps _ _ s
  · exact exec_canTimingWrite_keeps _ _ _ _ s
  · exact exec_abctlGo_keeps _ _ _ _ s
  · exact exec_abctlStop_keeps _ _ _ _ s
  · exact exec_autobaudDwellEnd_keeps _ _ _ s
  · exact exec_referenceCycleStart_keeps _ _ s
  · exact exec_bootReady_keeps _ s
  · exact exec_supervisionStart_keeps _ s
  · exact exec_pauseResumption_keeps _ s
  · exact exec_pauseTimeout_keeps _ s
  · exact exec_bootRecordWritten_keeps _ s
  · exact exec_confirmationWindowClose_keeps _ s
  · exact exec_recoveryReset_keeps _ s
  · exact exec_kctlWrite_keeps _ _ _ s
  · exact exec_kctlLock_keeps _ _ _ s
  · exact exec_wakeFrame_keeps _ _ _ _ s
  · exact exec_dieSensorConversion_keeps _ _ s
  · exact exec_boardChannelConversion_keeps _ _ _ s
  · exact exec_throttleEnd_keeps _ s
  · exact exec_logEvent_keeps _ s
  · exact exec_logRdidxWrite_keeps _ _ _ s
  · exact exec_logErasureDone_keeps _ s
  · exact exec_ledgerFlush_keeps _ _ s
  · exact exec_eccScrub_keeps _ _ s
  · exact exec_pmcStart_keeps _ _ s
  · exact exec_pmcStop_keeps _ _ s
  · exact exec_pmcFreeze_keeps _ _ s
  · exact exec_pmcClear_keeps _ _ s
  · exact exec_clockStopped_keeps _ _ s
  · exact exec_clockRunning_keeps _ _ s
  · exact exec_lodestoneOscStop_keeps _ s
  · exact exec_pointerCheckFail_keeps _ _ s
  · exact exec_handshakePhase_keeps _ _ _ s
  · exact exec_crossingTimeout_keeps _ _ _ s
  · exact exec_xresync_keeps _ _ _ s
  · exact exec_xfbWrite_keeps _ _ _ s
  · exact exec_xevmodeWrite_keeps _ _ _ _ s
  · exact exec_tilePowerUp_keeps _ _ _ s
  · exact exec_tileLinkUp_keeps _ _ _ s
  · exact exec_turnbackFrameReceive_keeps _ _ _ s
  · exact exec_tileResponseWindowEnd_keeps _ _ s
  · exact exec_portFrameSent_keeps _ _ s
  · exact exec_faultLoopReturn_keeps _ _ s
  · exact exec_peerLaneUp_keeps _ _ s
  · exact exec_ethLinkUp_keeps _ _ s
  · exact exec_pcieLinkUp_keeps _ s
  · exact exec_canRxError_keeps _ _ _ s
  · exact exec_canProtocolException_keeps _ _ s
  · exact exec_referenceMessageSent_keeps _ _ _ s
  · exact exec_powerFail_keeps _ _ s
  · exact exec_activateRampTimeout_keeps _ s
  · exact exec_autobaudLimit_keeps _ _ s

end Sys2Proof.Machine
end

