-- ==== Sys2Proof/Laws/Bits.lean ====
section
/-! SUPPORT. Laws of bit fields: a field that is written reads back, and every disjoint field is left alone. -/

namespace Sys2Proof.Machine

/-- Bit i of a word after a field write. -/
theorem getLsbD_setBits (w : Word) (lo len v i : Nat) :
    (setBits w lo len v).getLsbD i =
      if lo ≤ i ∧ i < lo + len ∧ i < 32 then v.testBit (i - lo) else w.getLsbD i := by
  unfold setBits fieldMask
  simp only [BitVec.getLsbD_or, BitVec.getLsbD_and, BitVec.getLsbD_not, BitVec.getLsbD_shiftLeft, BitVec.getLsbD_setWidth,
    BitVec.getLsbD_allOnes, BitVec.getLsbD_ofNat]
  by_cases h32 : i < 32
  · by_cases hlo : lo ≤ i
    · by_cases hl : i < lo + len
      · have h1 : i - lo < 32 := by omega
        have h2 : i - lo < len := by omega
        have h3 : ¬ i < lo := by omega
        simp [h32, hlo, hl, h1, h2, h3]
      · have h2 : ¬ i - lo < len := by omega
        have h3 : ¬ i < lo := by omega
        simp [h32, hl, h2, h3]
    · have h3 : i < lo := by omega
      simp [h32, hlo, h3]
  · have : w.getLsbD i = false := BitVec.getLsbD_of_ge w i (by omega)
    simp [h32, this]

/-- Bit i of a field's value. -/
theorem testBit_getBits (w : Word) (lo len i : Nat) : (getBits w lo len).testBit i = (decide (i < len) && w.getLsbD (lo + i)) := by
  unfold getBits
  rw [BitVec.testBit_toNat, BitVec.getLsbD_extractLsb']

theorem getBits_lt (w : Word) (lo len : Nat) : getBits w lo len < 2 ^ len := by
  unfold getBits
  exact BitVec.isLt _

/-- A field that is written reads back, modulo its width. -/
theorem getBits_setBits_same (w : Word) (lo len v : Nat) (h : lo + len ≤ 32) : getBits (setBits w lo len v) lo len = v % 2 ^ len := by
  apply Nat.eq_of_testBit_eq
  intro i
  rw [testBit_getBits, getLsbD_setBits, Nat.testBit_mod_two_pow]
  by_cases hi : i < len
  · have h1 : lo + i < lo + len := by omega
    have h2 : lo + i < 32 := by omega
    simp [hi, h2]
  · simp [hi]

/-- A write to a field leaves a disjoint field alone. -/
theorem getBits_setBits_disjoint (w : Word) (lo len lo' len' v : Nat) (h : lo + len ≤ lo' ∨ lo' + len' ≤ lo) :
    getBits (setBits w lo' len' v) lo len = getBits w lo len := by
  apply Nat.eq_of_testBit_eq
  intro i
  rw [testBit_getBits, testBit_getBits, getLsbD_setBits]
  by_cases hi : i < len
  · have : ¬ (lo' ≤ lo + i ∧ lo + i < lo' + len' ∧ lo + i < 32) := by omega
    rw [if_neg this]
  · simp [hi]

/-- A one-bit field as a Bool. -/
theorem getLsbD_eq_getBits (w : Word) (i : Nat) : w.getLsbD i = (getBits w i 1 == 1) := by
  have h := testBit_getBits w i 1 0
  have hl := getBits_lt w i 1
  simp only [Nat.lt_one_iff, decide_true, Bool.true_and, Nat.add_zero, Nat.pow_one] at h hl
  rw [← h]
  have : getBits w i 1 = 0 ∨ getBits w i 1 = 1 := by omega
  rcases this with e | e <;> simp [e]

@[simp] theorem b2n_true : b2n true = 1 := rfl
@[simp] theorem b2n_false : b2n false = 0 := rfl

theorem b2n_lt (b : Bool) : b2n b < 2 := by cases b <;> decide

end Sys2Proof.Machine
end

