-- ==== Sys2Proof/Laws/State.lean ====
section
/-! SUPPORT. What the shared updates of the state do to each field: one lemma per field per update, so that no proof unfolds a record update; then the laws of registers and their fields. -/

namespace Sys2Proof.Machine

@[simp] theorem State.setWord_pending (s : State) (k : Nat) (v : Word) : (s.setWord k v).pending = s.pending := rfl
@[simp] theorem State.setWord_freeCtr (s : State) (k : Nat) (v : Word) : (s.setWord k v).freeCtr = s.freeCtr := rfl
@[simp] theorem State.setWord_dial (s : State) (k : Nat) (v : Word) : (s.setWord k v).dial = s.dial := rfl
@[simp] theorem State.setWord_lastRead (s : State) (k : Nat) (v : Word) : (s.setWord k v).lastRead = s.lastRead := rfl
@[simp] theorem State.setWord_ep (s : State) (k : Nat) (v : Word) : (s.setWord k v).ep = s.ep := rfl
@[simp] theorem State.setWord_time (s : State) (k : Nat) (v : Word) : (s.setWord k v).time = s.time := rfl
@[simp] theorem State.setWord_log (s : State) (k : Nat) (v : Word) : (s.setWord k v).log = s.log := rfl
@[simp] theorem State.setWord_host (s : State) (k : Nat) (v : Word) : (s.setWord k v).host = s.host := rfl
@[simp] theorem State.setWord_trv (s : State) (k : Nat) (v : Word) : (s.setWord k v).trv = s.trv := rfl
@[simp] theorem State.setWord_acq (s : State) (k : Nat) (v : Word) : (s.setWord k v).acq = s.acq := rfl
@[simp] theorem State.setWord_bal (s : State) (k : Nat) (v : Word) : (s.setWord k v).bal = s.bal := rfl
@[simp] theorem State.setWord_upd (s : State) (k : Nat) (v : Word) : (s.setWord k v).upd = s.upd := rfl
@[simp] theorem State.setWord_wear (s : State) (k : Nat) (v : Word) : (s.setWord k v).wear = s.wear := rfl
@[simp] theorem State.setWord_clk (s : State) (k : Nat) (v : Word) : (s.setWord k v).clk = s.clk := rfl
@[simp] theorem State.setWord_hlm (s : State) (k : Nat) (v : Word) : (s.setWord k v).hlm = s.hlm := rfl
@[simp] theorem State.setWord_lds (s : State) (k : Nat) (v : Word) : (s.setWord k v).lds = s.lds := rfl
@[simp] theorem State.setWord_can (s : State) (k : Nat) (v : Word) : (s.setWord k v).can = s.can := rfl
@[simp] theorem State.setWord_sxt (s : State) (k : Nat) (v : Word) : (s.setWord k v).sxt = s.sxt := rfl
@[simp] theorem State.setWord_azm (s : State) (k : Nat) (v : Word) : (s.setWord k v).azm = s.azm := rfl
@[simp] theorem State.setWord_alm (s : State) (k : Nat) (v : Word) : (s.setWord k v).alm = s.alm := rfl
@[simp] theorem State.setWord_pmc (s : State) (k : Nat) (v : Word) : (s.setWord k v).pmc = s.pmc := rfl
@[simp] theorem State.setWord_dsp (s : State) (k : Nat) (v : Word) : (s.setWord k v).dsp = s.dsp := rfl
@[simp] theorem State.setWord_pwr (s : State) (k : Nat) (v : Word) : (s.setWord k v).pwr = s.pwr := rfl
@[simp] theorem State.setWord_bin (s : State) (k : Nat) (v : Word) : (s.setWord k v).bin = s.bin := rfl
@[simp] theorem State.setWord_rdn (s : State) (k : Nat) (v : Word) : (s.setWord k v).rdn = s.rdn := rfl
@[simp] theorem State.setWord_pilot (s : State) (k : Nat) (v : Word) : (s.setWord k v).pilot = s.pilot := rfl
@[simp] theorem State.setWord_marks (s : State) (k : Nat) (v : Word) : (s.setWord k v).marks = s.marks := rfl

@[simp] theorem State.setFld_pending (s : State) (f : Fld) (n : Nat) : (s.setFld f n).pending = s.pending := rfl
@[simp] theorem State.setFld_freeCtr (s : State) (f : Fld) (n : Nat) : (s.setFld f n).freeCtr = s.freeCtr := rfl
@[simp] theorem State.setFld_dial (s : State) (f : Fld) (n : Nat) : (s.setFld f n).dial = s.dial := rfl
@[simp] theorem State.setFld_lastRead (s : State) (f : Fld) (n : Nat) : (s.setFld f n).lastRead = s.lastRead := rfl
@[simp] theorem State.setFld_ep (s : State) (f : Fld) (n : Nat) : (s.setFld f n).ep = s.ep := rfl
@[simp] theorem State.setFld_time (s : State) (f : Fld) (n : Nat) : (s.setFld f n).time = s.time := rfl
@[simp] theorem State.setFld_log (s : State) (f : Fld) (n : Nat) : (s.setFld f n).log = s.log := rfl
@[simp] theorem State.setFld_host (s : State) (f : Fld) (n : Nat) : (s.setFld f n).host = s.host := rfl
@[simp] theorem State.setFld_trv (s : State) (f : Fld) (n : Nat) : (s.setFld f n).trv = s.trv := rfl
@[simp] theorem State.setFld_acq (s : State) (f : Fld) (n : Nat) : (s.setFld f n).acq = s.acq := rfl
@[simp] theorem State.setFld_bal (s : State) (f : Fld) (n : Nat) : (s.setFld f n).bal = s.bal := rfl
@[simp] theorem State.setFld_upd (s : State) (f : Fld) (n : Nat) : (s.setFld f n).upd = s.upd := rfl
@[simp] theorem State.setFld_wear (s : State) (f : Fld) (n : Nat) : (s.setFld f n).wear = s.wear := rfl
@[simp] theorem State.setFld_clk (s : State) (f : Fld) (n : Nat) : (s.setFld f n).clk = s.clk := rfl
@[simp] theorem State.setFld_hlm (s : State) (f : Fld) (n : Nat) : (s.setFld f n).hlm = s.hlm := rfl
@[simp] theorem State.setFld_lds (s : State) (f : Fld) (n : Nat) : (s.setFld f n).lds = s.lds := rfl
@[simp] theorem State.setFld_can (s : State) (f : Fld) (n : Nat) : (s.setFld f n).can = s.can := rfl
@[simp] theorem State.setFld_sxt (s : State) (f : Fld) (n : Nat) : (s.setFld f n).sxt = s.sxt := rfl
@[simp] theorem State.setFld_azm (s : State) (f : Fld) (n : Nat) : (s.setFld f n).azm = s.azm := rfl
@[simp] theorem State.setFld_alm (s : State) (f : Fld) (n : Nat) : (s.setFld f n).alm = s.alm := rfl
@[simp] theorem State.setFld_pmc (s : State) (f : Fld) (n : Nat) : (s.setFld f n).pmc = s.pmc := rfl
@[simp] theorem State.setFld_dsp (s : State) (f : Fld) (n : Nat) : (s.setFld f n).dsp = s.dsp := rfl
@[simp] theorem State.setFld_pwr (s : State) (f : Fld) (n : Nat) : (s.setFld f n).pwr = s.pwr := rfl
@[simp] theorem State.setFld_bin (s : State) (f : Fld) (n : Nat) : (s.setFld f n).bin = s.bin := rfl
@[simp] theorem State.setFld_rdn (s : State) (f : Fld) (n : Nat) : (s.setFld f n).rdn = s.rdn := rfl
@[simp] theorem State.setFld_pilot (s : State) (f : Fld) (n : Nat) : (s.setFld f n).pilot = s.pilot := rfl
@[simp] theorem State.setFld_marks (s : State) (f : Fld) (n : Nat) : (s.setFld f n).marks = s.marks := rfl

@[simp] theorem State.setFlag_pending (s : State) (f : Fld) (b : Bool) : (s.setFlag f b).pending = s.pending := rfl
@[simp] theorem State.setFlag_freeCtr (s : State) (f : Fld) (b : Bool) : (s.setFlag f b).freeCtr = s.freeCtr := rfl
@[simp] theorem State.setFlag_dial (s : State) (f : Fld) (b : Bool) : (s.setFlag f b).dial = s.dial := rfl
@[simp] theorem State.setFlag_lastRead (s : State) (f : Fld) (b : Bool) : (s.setFlag f b).lastRead = s.lastRead := rfl
@[simp] theorem State.setFlag_ep (s : State) (f : Fld) (b : Bool) : (s.setFlag f b).ep = s.ep := rfl
@[simp] theorem State.setFlag_time (s : State) (f : Fld) (b : Bool) : (s.setFlag f b).time = s.time := rfl
@[simp] theorem State.setFlag_log (s : State) (f : Fld) (b : Bool) : (s.setFlag f b).log = s.log := rfl
@[simp] theorem State.setFlag_host (s : State) (f : Fld) (b : Bool) : (s.setFlag f b).host = s.host := rfl
@[simp] theorem State.setFlag_trv (s : State) (f : Fld) (b : Bool) : (s.setFlag f b).trv = s.trv := rfl
@[simp] theorem State.setFlag_acq (s : State) (f : Fld) (b : Bool) : (s.setFlag f b).acq = s.acq := rfl
@[simp] theorem State.setFlag_bal (s : State) (f : Fld) (b : Bool) : (s.setFlag f b).bal = s.bal := rfl
@[simp] theorem State.setFlag_upd (s : State) (f : Fld) (b : Bool) : (s.setFlag f b).upd = s.upd := rfl
@[simp] theorem State.setFlag_wear (s : State) (f : Fld) (b : Bool) : (s.setFlag f b).wear = s.wear := rfl
@[simp] theorem State.setFlag_clk (s : State) (f : Fld) (b : Bool) : (s.setFlag f b).clk = s.clk := rfl
@[simp] theorem State.setFlag_hlm (s : State) (f : Fld) (b : Bool) : (s.setFlag f b).hlm = s.hlm := rfl
@[simp] theorem State.setFlag_lds (s : State) (f : Fld) (b : Bool) : (s.setFlag f b).lds = s.lds := rfl
@[simp] theorem State.setFlag_can (s : State) (f : Fld) (b : Bool) : (s.setFlag f b).can = s.can := rfl
@[simp] theorem State.setFlag_sxt (s : State) (f : Fld) (b : Bool) : (s.setFlag f b).sxt = s.sxt := rfl
@[simp] theorem State.setFlag_azm (s : State) (f : Fld) (b : Bool) : (s.setFlag f b).azm = s.azm := rfl
@[simp] theorem State.setFlag_alm (s : State) (f : Fld) (b : Bool) : (s.setFlag f b).alm = s.alm := rfl
@[simp] theorem State.setFlag_pmc (s : State) (f : Fld) (b : Bool) : (s.setFlag f b).pmc = s.pmc := rfl
@[simp] theorem State.setFlag_dsp (s : State) (f : Fld) (b : Bool) : (s.setFlag f b).dsp = s.dsp := rfl
@[simp] theorem State.setFlag_pwr (s : State) (f : Fld) (b : Bool) : (s.setFlag f b).pwr = s.pwr := rfl
@[simp] theorem State.setFlag_bin (s : State) (f : Fld) (b : Bool) : (s.setFlag f b).bin = s.bin := rfl
@[simp] theorem State.setFlag_rdn (s : State) (f : Fld) (b : Bool) : (s.setFlag f b).rdn = s.rdn := rfl
@[simp] theorem State.setFlag_pilot (s : State) (f : Fld) (b : Bool) : (s.setFlag f b).pilot = s.pilot := rfl
@[simp] theorem State.setFlag_marks (s : State) (f : Fld) (b : Bool) : (s.setFlag f b).marks = s.marks := rfl

@[simp] theorem State.setFldS_pending (s : State) (f : Fld) (v : Int) : (s.setFldS f v).pending = s.pending := rfl
@[simp] theorem State.setFldS_freeCtr (s : State) (f : Fld) (v : Int) : (s.setFldS f v).freeCtr = s.freeCtr := rfl
@[simp] theorem State.setFldS_dial (s : State) (f : Fld) (v : Int) : (s.setFldS f v).dial = s.dial := rfl
@[simp] theorem State.setFldS_lastRead (s : State) (f : Fld) (v : Int) : (s.setFldS f v).lastRead = s.lastRead := rfl
@[simp] theorem State.setFldS_ep (s : State) (f : Fld) (v : Int) : (s.setFldS f v).ep = s.ep := rfl
@[simp] theorem State.setFldS_time (s : State) (f : Fld) (v : Int) : (s.setFldS f v).time = s.time := rfl
@[simp] theorem State.setFldS_log (s : State) (f : Fld) (v : Int) : (s.setFldS f v).log = s.log := rfl
@[simp] theorem State.setFldS_host (s : State) (f : Fld) (v : Int) : (s.setFldS f v).host = s.host := rfl
@[simp] theorem State.setFldS_trv (s : State) (f : Fld) (v : Int) : (s.setFldS f v).trv = s.trv := rfl
@[simp] theorem State.setFldS_acq (s : State) (f : Fld) (v : Int) : (s.setFldS f v).acq = s.acq := rfl
@[simp] theorem State.setFldS_bal (s : State) (f : Fld) (v : Int) : (s.setFldS f v).bal = s.bal := rfl
@[simp] theorem State.setFldS_upd (s : State) (f : Fld) (v : Int) : (s.setFldS f v).upd = s.upd := rfl
@[simp] theorem State.setFldS_wear (s : State) (f : Fld) (v : Int) : (s.setFldS f v).wear = s.wear := rfl
@[simp] theorem State.setFldS_clk (s : State) (f : Fld) (v : Int) : (s.setFldS f v).clk = s.clk := rfl
@[simp] theorem State.setFldS_hlm (s : State) (f : Fld) (v : Int) : (s.setFldS f v).hlm = s.hlm := rfl
@[simp] theorem State.setFldS_lds (s : State) (f : Fld) (v : Int) : (s.setFldS f v).lds = s.lds := rfl
@[simp] theorem State.setFldS_can (s : State) (f : Fld) (v : Int) : (s.setFldS f v).can = s.can := rfl
@[simp] theorem State.setFldS_sxt (s : State) (f : Fld) (v : Int) : (s.setFldS f v).sxt = s.sxt := rfl
@[simp] theorem State.setFldS_azm (s : State) (f : Fld) (v : Int) : (s.setFldS f v).azm = s.azm := rfl
@[simp] theorem State.setFldS_alm (s : State) (f : Fld) (v : Int) : (s.setFldS f v).alm = s.alm := rfl
@[simp] theorem State.setFldS_pmc (s : State) (f : Fld) (v : Int) : (s.setFldS f v).pmc = s.pmc := rfl
@[simp] theorem State.setFldS_dsp (s : State) (f : Fld) (v : Int) : (s.setFldS f v).dsp = s.dsp := rfl
@[simp] theorem State.setFldS_pwr (s : State) (f : Fld) (v : Int) : (s.setFldS f v).pwr = s.pwr := rfl
@[simp] theorem State.setFldS_bin (s : State) (f : Fld) (v : Int) : (s.setFldS f v).bin = s.bin := rfl
@[simp] theorem State.setFldS_rdn (s : State) (f : Fld) (v : Int) : (s.setFldS f v).rdn = s.rdn := rfl
@[simp] theorem State.setFldS_pilot (s : State) (f : Fld) (v : Int) : (s.setFldS f v).pilot = s.pilot := rfl
@[simp] theorem State.setFldS_marks (s : State) (f : Fld) (v : Int) : (s.setFldS f v).marks = s.marks := rfl

@[simp] theorem State.satAdd_pending (s : State) (f : Fld) (n : Nat) : (s.satAdd f n).pending = s.pending := rfl
@[simp] theorem State.satAdd_freeCtr (s : State) (f : Fld) (n : Nat) : (s.satAdd f n).freeCtr = s.freeCtr := rfl
@[simp] theorem State.satAdd_dial (s : State) (f : Fld) (n : Nat) : (s.satAdd f n).dial = s.dial := rfl
@[simp] theorem State.satAdd_lastRead (s : State) (f : Fld) (n : Nat) : (s.satAdd f n).lastRead = s.lastRead := rfl
@[simp] theorem State.satAdd_ep (s : State) (f : Fld) (n : Nat) : (s.satAdd f n).ep = s.ep := rfl
@[simp] theorem State.satAdd_time (s : State) (f : Fld) (n : Nat) : (s.satAdd f n).time = s.time := rfl
@[simp] theorem State.satAdd_log (s : State) (f : Fld) (n : Nat) : (s.satAdd f n).log = s.log := rfl
@[simp] theorem State.satAdd_host (s : State) (f : Fld) (n : Nat) : (s.satAdd f n).host = s.host := rfl
@[simp] theorem State.satAdd_trv (s : State) (f : Fld) (n : Nat) : (s.satAdd f n).trv = s.trv := rfl
@[simp] theorem State.satAdd_acq (s : State) (f : Fld) (n : Nat) : (s.satAdd f n).acq = s.acq := rfl
@[simp] theorem State.satAdd_bal (s : State) (f : Fld) (n : Nat) : (s.satAdd f n).bal = s.bal := rfl
@[simp] theorem State.satAdd_upd (s : State) (f : Fld) (n : Nat) : (s.satAdd f n).upd = s.upd := rfl
@[simp] theorem State.satAdd_wear (s : State) (f : Fld) (n : Nat) : (s.satAdd f n).wear = s.wear := rfl
@[simp] theorem State.satAdd_clk (s : State) (f : Fld) (n : Nat) : (s.satAdd f n).clk = s.clk := rfl
@[simp] theorem State.satAdd_hlm (s : State) (f : Fld) (n : Nat) : (s.satAdd f n).hlm = s.hlm := rfl
@[simp] theorem State.satAdd_lds (s : State) (f : Fld) (n : Nat) : (s.satAdd f n).lds = s.lds := rfl
@[simp] theorem State.satAdd_can (s : State) (f : Fld) (n : Nat) : (s.satAdd f n).can = s.can := rfl
@[simp] theorem State.satAdd_sxt (s : State) (f : Fld) (n : Nat) : (s.satAdd f n).sxt = s.sxt := rfl
@[simp] theorem State.satAdd_azm (s : State) (f : Fld) (n : Nat) : (s.satAdd f n).azm = s.azm := rfl
@[simp] theorem State.satAdd_alm (s : State) (f : Fld) (n : Nat) : (s.satAdd f n).alm = s.alm := rfl
@[simp] theorem State.satAdd_pmc (s : State) (f : Fld) (n : Nat) : (s.satAdd f n).pmc = s.pmc := rfl
@[simp] theorem State.satAdd_dsp (s : State) (f : Fld) (n : Nat) : (s.satAdd f n).dsp = s.dsp := rfl
@[simp] theorem State.satAdd_pwr (s : State) (f : Fld) (n : Nat) : (s.satAdd f n).pwr = s.pwr := rfl
@[simp] theorem State.satAdd_bin (s : State) (f : Fld) (n : Nat) : (s.satAdd f n).bin = s.bin := rfl
@[simp] theorem State.satAdd_rdn (s : State) (f : Fld) (n : Nat) : (s.satAdd f n).rdn = s.rdn := rfl
@[simp] theorem State.satAdd_pilot (s : State) (f : Fld) (n : Nat) : (s.satAdd f n).pilot = s.pilot := rfl
@[simp] theorem State.satAdd_marks (s : State) (f : Fld) (n : Nat) : (s.satAdd f n).marks = s.marks := rfl

@[simp] theorem State.raise_pending (s : State) (f : Fld) : (s.raise f).pending = s.pending := rfl
@[simp] theorem State.raise_freeCtr (s : State) (f : Fld) : (s.raise f).freeCtr = s.freeCtr := rfl
@[simp] theorem State.raise_dial (s : State) (f : Fld) : (s.raise f).dial = s.dial := rfl
@[simp] theorem State.raise_lastRead (s : State) (f : Fld) : (s.raise f).lastRead = s.lastRead := rfl
@[simp] theorem State.raise_ep (s : State) (f : Fld) : (s.raise f).ep = s.ep := rfl
@[simp] theorem State.raise_time (s : State) (f : Fld) : (s.raise f).time = s.time := rfl
@[simp] theorem State.raise_log (s : State) (f : Fld) : (s.raise f).log = s.log := rfl
@[simp] theorem State.raise_host (s : State) (f : Fld) : (s.raise f).host = s.host := rfl
@[simp] theorem State.raise_trv (s : State) (f : Fld) : (s.raise f).trv = s.trv := rfl
@[simp] theorem State.raise_acq (s : State) (f : Fld) : (s.raise f).acq = s.acq := rfl
@[simp] theorem State.raise_bal (s : State) (f : Fld) : (s.raise f).bal = s.bal := rfl
@[simp] theorem State.raise_upd (s : State) (f : Fld) : (s.raise f).upd = s.upd := rfl
@[simp] theorem State.raise_wear (s : State) (f : Fld) : (s.raise f).wear = s.wear := rfl
@[simp] theorem State.raise_clk (s : State) (f : Fld) : (s.raise f).clk = s.clk := rfl
@[simp] theorem State.raise_hlm (s : State) (f : Fld) : (s.raise f).hlm = s.hlm := rfl
@[simp] theorem State.raise_lds (s : State) (f : Fld) : (s.raise f).lds = s.lds := rfl
@[simp] theorem State.raise_can (s : State) (f : Fld) : (s.raise f).can = s.can := rfl
@[simp] theorem State.raise_sxt (s : State) (f : Fld) : (s.raise f).sxt = s.sxt := rfl
@[simp] theorem State.raise_azm (s : State) (f : Fld) : (s.raise f).azm = s.azm := rfl
@[simp] theorem State.raise_alm (s : State) (f : Fld) : (s.raise f).alm = s.alm := rfl
@[simp] theorem State.raise_pmc (s : State) (f : Fld) : (s.raise f).pmc = s.pmc := rfl
@[simp] theorem State.raise_dsp (s : State) (f : Fld) : (s.raise f).dsp = s.dsp := rfl
@[simp] theorem State.raise_pwr (s : State) (f : Fld) : (s.raise f).pwr = s.pwr := rfl
@[simp] theorem State.raise_bin (s : State) (f : Fld) : (s.raise f).bin = s.bin := rfl
@[simp] theorem State.raise_rdn (s : State) (f : Fld) : (s.raise f).rdn = s.rdn := rfl
@[simp] theorem State.raise_pilot (s : State) (f : Fld) : (s.raise f).pilot = s.pilot := rfl

@[simp] theorem State.raiseEv_pending (s : State) (f : Fld) : (s.raiseEv f).pending = s.pending := rfl
@[simp] theorem State.raiseEv_freeCtr (s : State) (f : Fld) : (s.raiseEv f).freeCtr = s.freeCtr := rfl
@[simp] theorem State.raiseEv_dial (s : State) (f : Fld) : (s.raiseEv f).dial = s.dial := rfl
@[simp] theorem State.raiseEv_lastRead (s : State) (f : Fld) : (s.raiseEv f).lastRead = s.lastRead := rfl
@[simp] theorem State.raiseEv_ep (s : State) (f : Fld) : (s.raiseEv f).ep = s.ep := rfl
@[simp] theorem State.raiseEv_time (s : State) (f : Fld) : (s.raiseEv f).time = s.time := rfl
@[simp] theorem State.raiseEv_log (s : State) (f : Fld) : (s.raiseEv f).log = s.log := rfl
@[simp] theorem State.raiseEv_host (s : State) (f : Fld) : (s.raiseEv f).host = s.host := rfl
@[simp] theorem State.raiseEv_trv (s : State) (f : Fld) : (s.raiseEv f).trv = s.trv := rfl
@[simp] theorem State.raiseEv_acq (s : State) (f : Fld) : (s.raiseEv f).acq = s.acq := rfl
@[simp] theorem State.raiseEv_bal (s : State) (f : Fld) : (s.raiseEv f).bal = s.bal := rfl
@[simp] theorem State.raiseEv_upd (s : State) (f : Fld) : (s.raiseEv f).upd = s.upd := rfl
@[simp] theorem State.raiseEv_wear (s : State) (f : Fld) : (s.raiseEv f).wear = s.wear := rfl
@[simp] theorem State.raiseEv_clk (s : State) (f : Fld) : (s.raiseEv f).clk = s.clk := rfl
@[simp] theorem State.raiseEv_hlm (s : State) (f : Fld) : (s.raiseEv f).hlm = s.hlm := rfl
@[simp] theorem State.raiseEv_lds (s : State) (f : Fld) : (s.raiseEv f).lds = s.lds := rfl
@[simp] theorem State.raiseEv_can (s : State) (f : Fld) : (s.raiseEv f).can = s.can := rfl
@[simp] theorem State.raiseEv_sxt (s : State) (f : Fld) : (s.raiseEv f).sxt = s.sxt := rfl
@[simp] theorem State.raiseEv_azm (s : State) (f : Fld) : (s.raiseEv f).azm = s.azm := rfl
@[simp] theorem State.raiseEv_alm (s : State) (f : Fld) : (s.raiseEv f).alm = s.alm := rfl
@[simp] theorem State.raiseEv_pmc (s : State) (f : Fld) : (s.raiseEv f).pmc = s.pmc := rfl
@[simp] theorem State.raiseEv_dsp (s : State) (f : Fld) : (s.raiseEv f).dsp = s.dsp := rfl
@[simp] theorem State.raiseEv_pwr (s : State) (f : Fld) : (s.raiseEv f).pwr = s.pwr := rfl
@[simp] theorem State.raiseEv_bin (s : State) (f : Fld) : (s.raiseEv f).bin = s.bin := rfl
@[simp] theorem State.raiseEv_rdn (s : State) (f : Fld) : (s.raiseEv f).rdn = s.rdn := rfl
@[simp] theorem State.raiseEv_pilot (s : State) (f : Fld) : (s.raiseEv f).pilot = s.pilot := rfl

@[simp] theorem State.setHeld_pending (s : State) (f : Fld) (b : Bool) : (s.setHeld f b).pending = s.pending := by
  unfold State.setHeld State.when; (repeat' split) <;> rfl
@[simp] theorem State.setHeld_freeCtr (s : State) (f : Fld) (b : Bool) : (s.setHeld f b).freeCtr = s.freeCtr := by
  unfold State.setHeld State.when; (repeat' split) <;> rfl
@[simp] theorem State.setHeld_dial (s : State) (f : Fld) (b : Bool) : (s.setHeld f b).dial = s.dial := by
  unfold State.setHeld State.when; (repeat' split) <;> rfl
@[simp] theorem State.setHeld_lastRead (s : State) (f : Fld) (b : Bool) : (s.setHeld f b).lastRead = s.lastRead := by
  unfold State.setHeld State.when; (repeat' split) <;> rfl
@[simp] theorem State.setHeld_ep (s : State) (f : Fld) (b : Bool) : (s.setHeld f b).ep = s.ep := by
  unfold State.setHeld State.when; (repeat' split) <;> rfl
@[simp] theorem State.setHeld_time (s : State) (f : Fld) (b : Bool) : (s.setHeld f b).time = s.time := by
  unfold State.setHeld State.when; (repeat' split) <;> rfl
@[simp] theorem State.setHeld_log (s : State) (f : Fld) (b : Bool) : (s.setHeld f b).log = s.log := by
  unfold State.setHeld State.when; (repeat' split) <;> rfl
@[simp] theorem State.setHeld_host (s : State) (f : Fld) (b : Bool) : (s.setHeld f b).host = s.host := by
  unfold State.setHeld State.when; (repeat' split) <;> rfl
@[simp] theorem State.setHeld_trv (s : State) (f : Fld) (b : Bool) : (s.setHeld f b).trv = s.trv := by
  unfold State.setHeld State.when; (repeat' split) <;> rfl
@[simp] theorem State.setHeld_acq (s : State) (f : Fld) (b : Bool) : (s.setHeld f b).acq = s.acq := by
  unfold State.setHeld State.when; (repeat' split) <;> rfl
@[simp] theorem State.setHeld_bal (s : State) (f : Fld) (b : Bool) : (s.setHeld f b).bal = s.bal := by
  unfold State.setHeld State.when; (repeat' split) <;> rfl
@[simp] theorem State.setHeld_upd (s : State) (f : Fld) (b : Bool) : (s.setHeld f b).upd = s.upd := by
  unfold State.setHeld State.when; (repeat' split) <;> rfl
@[simp] theorem State.setHeld_wear (s : State) (f : Fld) (b : Bool) : (s.setHeld f b).wear = s.wear := by
  unfold State.setHeld State.when; (repeat' split) <;> rfl
@[simp] theorem State.setHeld_clk (s : State) (f : Fld) (b : Bool) : (s.setHeld f b).clk = s.clk := by
  unfold State.setHeld State.when; (repeat' split) <;> rfl
@[simp] theorem State.setHeld_hlm (s : State) (f : Fld) (b : Bool) : (s.setHeld f b).hlm = s.hlm := by
  unfold State.setHeld State.when; (repeat' split) <;> rfl
@[simp] theorem State.setHeld_lds (s : State) (f : Fld) (b : Bool) : (s.setHeld f b).lds = s.lds := by
  unfold State.setHeld State.when; (repeat' split) <;> rfl
@[simp] theorem State.setHeld_can (s : State) (f : Fld) (b : Bool) : (s.setHeld f b).can = s.can := by
  unfold State.setHeld State.when; (repeat' split) <;> rfl
@[simp] theorem State.setHeld_sxt (s : State) (f : Fld) (b : Bool) : (s.setHeld f b).sxt = s.sxt := by
  unfold State.setHeld State.when; (repeat' split) <;> rfl
@[simp] theorem State.setHeld_azm (s : State) (f : Fld) (b : Bool) : (s.setHeld f b).azm = s.azm := by
  unfold State.setHeld State.when; (repeat' split) <;> rfl
@[simp] theorem State.setHeld_alm (s : State) (f : Fld) (b : Bool) : (s.setHeld f b).alm = s.alm := by
  unfold State.setHeld State.when; (repeat' split) <;> rfl
@[simp] theorem State.setHeld_pmc (s : State) (f : Fld) (b : Bool) : (s.setHeld f b).pmc = s.pmc := by
  unfold State.setHeld State.when; (repeat' split) <;> rfl
@[simp] theorem State.setHeld_dsp (s : State) (f : Fld) (b : Bool) : (s.setHeld f b).dsp = s.dsp := by
  unfold State.setHeld State.when; (repeat' split) <;> rfl
@[simp] theorem State.setHeld_pwr (s : State) (f : Fld) (b : Bool) : (s.setHeld f b).pwr = s.pwr := by
  unfold State.setHeld State.when; (repeat' split) <;> rfl
@[simp] theorem State.setHeld_bin (s : State) (f : Fld) (b : Bool) : (s.setHeld f b).bin = s.bin := by
  unfold State.setHeld State.when; (repeat' split) <;> rfl
@[simp] theorem State.setHeld_rdn (s : State) (f : Fld) (b : Bool) : (s.setHeld f b).rdn = s.rdn := by
  unfold State.setHeld State.when; (repeat' split) <;> rfl
@[simp] theorem State.setHeld_pilot (s : State) (f : Fld) (b : Bool) : (s.setHeld f b).pilot = s.pilot := by
  unfold State.setHeld State.when; (repeat' split) <;> rfl

@[simp] theorem State.modHlm_pending (s : State) (f : HlmSt → HlmSt) : (s.modHlm f).pending = s.pending := rfl
@[simp] theorem State.modHlm_freeCtr (s : State) (f : HlmSt → HlmSt) : (s.modHlm f).freeCtr = s.freeCtr := rfl
@[simp] theorem State.modHlm_dial (s : State) (f : HlmSt → HlmSt) : (s.modHlm f).dial = s.dial := rfl
@[simp] theorem State.modHlm_regs (s : State) (f : HlmSt → HlmSt) : (s.modHlm f).regs = s.regs := rfl
@[simp] theorem State.modHlm_lastRead (s : State) (f : HlmSt → HlmSt) : (s.modHlm f).lastRead = s.lastRead := rfl
@[simp] theorem State.modHlm_ep (s : State) (f : HlmSt → HlmSt) : (s.modHlm f).ep = s.ep := rfl
@[simp] theorem State.modHlm_time (s : State) (f : HlmSt → HlmSt) : (s.modHlm f).time = s.time := rfl
@[simp] theorem State.modHlm_log (s : State) (f : HlmSt → HlmSt) : (s.modHlm f).log = s.log := rfl
@[simp] theorem State.modHlm_host (s : State) (f : HlmSt → HlmSt) : (s.modHlm f).host = s.host := rfl
@[simp] theorem State.modHlm_trv (s : State) (f : HlmSt → HlmSt) : (s.modHlm f).trv = s.trv := rfl
@[simp] theorem State.modHlm_acq (s : State) (f : HlmSt → HlmSt) : (s.modHlm f).acq = s.acq := rfl
@[simp] theorem State.modHlm_bal (s : State) (f : HlmSt → HlmSt) : (s.modHlm f).bal = s.bal := rfl
@[simp] theorem State.modHlm_upd (s : State) (f : HlmSt → HlmSt) : (s.modHlm f).upd = s.upd := rfl
@[simp] theorem State.modHlm_wear (s : State) (f : HlmSt → HlmSt) : (s.modHlm f).wear = s.wear := rfl
@[simp] theorem State.modHlm_clk (s : State) (f : HlmSt → HlmSt) : (s.modHlm f).clk = s.clk := rfl
@[simp] theorem State.modHlm_hlm (s : State) (f : HlmSt → HlmSt) : (s.modHlm f).hlm = f s.hlm := rfl
@[simp] theorem State.modHlm_lds (s : State) (f : HlmSt → HlmSt) : (s.modHlm f).lds = s.lds := rfl
@[simp] theorem State.modHlm_can (s : State) (f : HlmSt → HlmSt) : (s.modHlm f).can = s.can := rfl
@[simp] theorem State.modHlm_sxt (s : State) (f : HlmSt → HlmSt) : (s.modHlm f).sxt = s.sxt := rfl
@[simp] theorem State.modHlm_azm (s : State) (f : HlmSt → HlmSt) : (s.modHlm f).azm = s.azm := rfl
@[simp] theorem State.modHlm_alm (s : State) (f : HlmSt → HlmSt) : (s.modHlm f).alm = s.alm := rfl
@[simp] theorem State.modHlm_pmc (s : State) (f : HlmSt → HlmSt) : (s.modHlm f).pmc = s.pmc := rfl
@[simp] theorem State.modHlm_dsp (s : State) (f : HlmSt → HlmSt) : (s.modHlm f).dsp = s.dsp := rfl
@[simp] theorem State.modHlm_pwr (s : State) (f : HlmSt → HlmSt) : (s.modHlm f).pwr = s.pwr := rfl
@[simp] theorem State.modHlm_bin (s : State) (f : HlmSt → HlmSt) : (s.modHlm f).bin = s.bin := rfl
@[simp] theorem State.modHlm_rdn (s : State) (f : HlmSt → HlmSt) : (s.modHlm f).rdn = s.rdn := rfl
@[simp] theorem State.modHlm_pilot (s : State) (f : HlmSt → HlmSt) : (s.modHlm f).pilot = s.pilot := rfl
@[simp] theorem State.modHlm_marks (s : State) (f : HlmSt → HlmSt) : (s.modHlm f).marks = s.marks := rfl
@[simp] theorem State.modHlm_word (s : State) (f : HlmSt → HlmSt) (k : Nat) : (s.modHlm f).word k = s.word k := (rfl)
@[simp] theorem State.modHlm_fld (s : State) (f : HlmSt → HlmSt) (g : Fld) : (s.modHlm f).fld g = s.fld g := (rfl)
@[simp] theorem State.modHlm_flag (s : State) (f : HlmSt → HlmSt) (g : Fld) : (s.modHlm f).flag g = s.flag g := (rfl)

@[simp] theorem State.modLds_pending (s : State) (f : LdsSt → LdsSt) : (s.modLds f).pending = s.pending := rfl
@[simp] theorem State.modLds_freeCtr (s : State) (f : LdsSt → LdsSt) : (s.modLds f).freeCtr = s.freeCtr := rfl
@[simp] theorem State.modLds_dial (s : State) (f : LdsSt → LdsSt) : (s.modLds f).dial = s.dial := rfl
@[simp] theorem State.modLds_regs (s : State) (f : LdsSt → LdsSt) : (s.modLds f).regs = s.regs := rfl
@[simp] theorem State.modLds_lastRead (s : State) (f : LdsSt → LdsSt) : (s.modLds f).lastRead = s.lastRead := rfl
@[simp] theorem State.modLds_ep (s : State) (f : LdsSt → LdsSt) : (s.modLds f).ep = s.ep := rfl
@[simp] theorem State.modLds_time (s : State) (f : LdsSt → LdsSt) : (s.modLds f).time = s.time := rfl
@[simp] theorem State.modLds_log (s : State) (f : LdsSt → LdsSt) : (s.modLds f).log = s.log := rfl
@[simp] theorem State.modLds_host (s : State) (f : LdsSt → LdsSt) : (s.modLds f).host = s.host := rfl
@[simp] theorem State.modLds_trv (s : State) (f : LdsSt → LdsSt) : (s.modLds f).trv = s.trv := rfl
@[simp] theorem State.modLds_acq (s : State) (f : LdsSt → LdsSt) : (s.modLds f).acq = s.acq := rfl
@[simp] theorem State.modLds_bal (s : State) (f : LdsSt → LdsSt) : (s.modLds f).bal = s.bal := rfl
@[simp] theorem State.modLds_upd (s : State) (f : LdsSt → LdsSt) : (s.modLds f).upd = s.upd := rfl
@[simp] theorem State.modLds_wear (s : State) (f : LdsSt → LdsSt) : (s.modLds f).wear = s.wear := rfl
@[simp] theorem State.modLds_clk (s : State) (f : LdsSt → LdsSt) : (s.modLds f).clk = s.clk := rfl
@[simp] theorem State.modLds_hlm (s : State) (f : LdsSt → LdsSt) : (s.modLds f).hlm = s.hlm := rfl
@[simp] theorem State.modLds_lds (s : State) (f : LdsSt → LdsSt) : (s.modLds f).lds = f s.lds := rfl
@[simp] theorem State.modLds_can (s : State) (f : LdsSt → LdsSt) : (s.modLds f).can = s.can := rfl
@[simp] theorem State.modLds_sxt (s : State) (f : LdsSt → LdsSt) : (s.modLds f).sxt = s.sxt := rfl
@[simp] theorem State.modLds_azm (s : State) (f : LdsSt → LdsSt) : (s.modLds f).azm = s.azm := rfl
@[simp] theorem State.modLds_alm (s : State) (f : LdsSt → LdsSt) : (s.modLds f).alm = s.alm := rfl
@[simp] theorem State.modLds_pmc (s : State) (f : LdsSt → LdsSt) : (s.modLds f).pmc = s.pmc := rfl
@[simp] theorem State.modLds_dsp (s : State) (f : LdsSt → LdsSt) : (s.modLds f).dsp = s.dsp := rfl
@[simp] theorem State.modLds_pwr (s : State) (f : LdsSt → LdsSt) : (s.modLds f).pwr = s.pwr := rfl
@[simp] theorem State.modLds_bin (s : State) (f : LdsSt → LdsSt) : (s.modLds f).bin = s.bin := rfl
@[simp] theorem State.modLds_rdn (s : State) (f : LdsSt → LdsSt) : (s.modLds f).rdn = s.rdn := rfl
@[simp] theorem State.modLds_pilot (s : State) (f : LdsSt → LdsSt) : (s.modLds f).pilot = s.pilot := rfl
@[simp] theorem State.modLds_marks (s : State) (f : LdsSt → LdsSt) : (s.modLds f).marks = s.marks := rfl
@[simp] theorem State.modLds_word (s : State) (f : LdsSt → LdsSt) (k : Nat) : (s.modLds f).word k = s.word k := (rfl)
@[simp] theorem State.modLds_fld (s : State) (f : LdsSt → LdsSt) (g : Fld) : (s.modLds f).fld g = s.fld g := (rfl)
@[simp] theorem State.modLds_flag (s : State) (f : LdsSt → LdsSt) (g : Fld) : (s.modLds f).flag g = s.flag g := (rfl)

@[simp] theorem State.modBin_pending (s : State) (f : BinSt → BinSt) : (s.modBin f).pending = s.pending := rfl
@[simp] theorem State.modBin_freeCtr (s : State) (f : BinSt → BinSt) : (s.modBin f).freeCtr = s.freeCtr := rfl
@[simp] theorem State.modBin_dial (s : State) (f : BinSt → BinSt) : (s.modBin f).dial = s.dial := rfl
@[simp] theorem State.modBin_regs (s : State) (f : BinSt → BinSt) : (s.modBin f).regs = s.regs := rfl
@[simp] theorem State.modBin_lastRead (s : State) (f : BinSt → BinSt) : (s.modBin f).lastRead = s.lastRead := rfl
@[simp] theorem State.modBin_ep (s : State) (f : BinSt → BinSt) : (s.modBin f).ep = s.ep := rfl
@[simp] theorem State.modBin_time (s : State) (f : BinSt → BinSt) : (s.modBin f).time = s.time := rfl
@[simp] theorem State.modBin_log (s : State) (f : BinSt → BinSt) : (s.modBin f).log = s.log := rfl
@[simp] theorem State.modBin_host (s : State) (f : BinSt → BinSt) : (s.modBin f).host = s.host := rfl
@[simp] theorem State.modBin_trv (s : State) (f : BinSt → BinSt) : (s.modBin f).trv = s.trv := rfl
@[simp] theorem State.modBin_acq (s : State) (f : BinSt → BinSt) : (s.modBin f).acq = s.acq := rfl
@[simp] theorem State.modBin_bal (s : State) (f : BinSt → BinSt) : (s.modBin f).bal = s.bal := rfl
@[simp] theorem State.modBin_upd (s : State) (f : BinSt → BinSt) : (s.modBin f).upd = s.upd := rfl
@[simp] theorem State.modBin_wear (s : State) (f : BinSt → BinSt) : (s.modBin f).wear = s.wear := rfl
@[simp] theorem State.modBin_clk (s : State) (f : BinSt → BinSt) : (s.modBin f).clk = s.clk := rfl
@[simp] theorem State.modBin_hlm (s : State) (f : BinSt → BinSt) : (s.modBin f).hlm = s.hlm := rfl
@[simp] theorem State.modBin_lds (s : State) (f : BinSt → BinSt) : (s.modBin f).lds = s.lds := rfl
@[simp] theorem State.modBin_can (s : State) (f : BinSt → BinSt) : (s.modBin f).can = s.can := rfl
@[simp] theorem State.modBin_sxt (s : State) (f : BinSt → BinSt) : (s.modBin f).sxt = s.sxt := rfl
@[simp] theorem State.modBin_azm (s : State) (f : BinSt → BinSt) : (s.modBin f).azm = s.azm := rfl
@[simp] theorem State.modBin_alm (s : State) (f : BinSt → BinSt) : (s.modBin f).alm = s.alm := rfl
@[simp] theorem State.modBin_pmc (s : State) (f : BinSt → BinSt) : (s.modBin f).pmc = s.pmc := rfl
@[simp] theorem State.modBin_dsp (s : State) (f : BinSt → BinSt) : (s.modBin f).dsp = s.dsp := rfl
@[simp] theorem State.modBin_pwr (s : State) (f : BinSt → BinSt) : (s.modBin f).pwr = s.pwr := rfl
@[simp] theorem State.modBin_bin (s : State) (f : BinSt → BinSt) : (s.modBin f).bin = f s.bin := rfl
@[simp] theorem State.modBin_rdn (s : State) (f : BinSt → BinSt) : (s.modBin f).rdn = s.rdn := rfl
@[simp] theorem State.modBin_pilot (s : State) (f : BinSt → BinSt) : (s.modBin f).pilot = s.pilot := rfl
@[simp] theorem State.modBin_marks (s : State) (f : BinSt → BinSt) : (s.modBin f).marks = s.marks := rfl
@[simp] theorem State.modBin_word (s : State) (f : BinSt → BinSt) (k : Nat) : (s.modBin f).word k = s.word k := (rfl)
@[simp] theorem State.modBin_fld (s : State) (f : BinSt → BinSt) (g : Fld) : (s.modBin f).fld g = s.fld g := (rfl)
@[simp] theorem State.modBin_flag (s : State) (f : BinSt → BinSt) (g : Fld) : (s.modBin f).flag g = s.flag g := (rfl)

@[simp] theorem State.modWear_pending (s : State) (f : WearSt → WearSt) : (s.modWear f).pending = s.pending := rfl
@[simp] theorem State.modWear_freeCtr (s : State) (f : WearSt → WearSt) : (s.modWear f).freeCtr = s.freeCtr := rfl
@[simp] theorem State.modWear_dial (s : State) (f : WearSt → WearSt) : (s.modWear f).dial = s.dial := rfl
@[simp] theorem State.modWear_regs (s : State) (f : WearSt → WearSt) : (s.modWear f).regs = s.regs := rfl
@[simp] theorem State.modWear_lastRead (s : State) (f : WearSt → WearSt) : (s.modWear f).lastRead = s.lastRead := rfl
@[simp] theorem State.modWear_ep (s : State) (f : WearSt → WearSt) : (s.modWear f).ep = s.ep := rfl
@[simp] theorem State.modWear_time (s : State) (f : WearSt → WearSt) : (s.modWear f).time = s.time := rfl
@[simp] theorem State.modWear_log (s : State) (f : WearSt → WearSt) : (s.modWear f).log = s.log := rfl
@[simp] theorem State.modWear_host (s : State) (f : WearSt → WearSt) : (s.modWear f).host = s.host := rfl
@[simp] theorem State.modWear_trv (s : State) (f : WearSt → WearSt) : (s.modWear f).trv = s.trv := rfl
@[simp] theorem State.modWear_acq (s : State) (f : WearSt → WearSt) : (s.modWear f).acq = s.acq := rfl
@[simp] theorem State.modWear_bal (s : State) (f : WearSt → WearSt) : (s.modWear f).bal = s.bal := rfl
@[simp] theorem State.modWear_upd (s : State) (f : WearSt → WearSt) : (s.modWear f).upd = s.upd := rfl
@[simp] theorem State.modWear_wear (s : State) (f : WearSt → WearSt) : (s.modWear f).wear = f s.wear := rfl
@[simp] theorem State.modWear_clk (s : State) (f : WearSt → WearSt) : (s.modWear f).clk = s.clk := rfl
@[simp] theorem State.modWear_hlm (s : State) (f : WearSt → WearSt) : (s.modWear f).hlm = s.hlm := rfl
@[simp] theorem State.modWear_lds (s : State) (f : WearSt → WearSt) : (s.modWear f).lds = s.lds := rfl
@[simp] theorem State.modWear_can (s : State) (f : WearSt → WearSt) : (s.modWear f).can = s.can := rfl
@[simp] theorem State.modWear_sxt (s : State) (f : WearSt → WearSt) : (s.modWear f).sxt = s.sxt := rfl
@[simp] theorem State.modWear_azm (s : State) (f : WearSt → WearSt) : (s.modWear f).azm = s.azm := rfl
@[simp] theorem State.modWear_alm (s : State) (f : WearSt → WearSt) : (s.modWear f).alm = s.alm := rfl
@[simp] theorem State.modWear_pmc (s : State) (f : WearSt → WearSt) : (s.modWear f).pmc = s.pmc := rfl
@[simp] theorem State.modWear_dsp (s : State) (f : WearSt → WearSt) : (s.modWear f).dsp = s.dsp := rfl
@[simp] theorem State.modWear_pwr (s : State) (f : WearSt → WearSt) : (s.modWear f).pwr = s.pwr := rfl
@[simp] theorem State.modWear_bin (s : State) (f : WearSt → WearSt) : (s.modWear f).bin = s.bin := rfl
@[simp] theorem State.modWear_rdn (s : State) (f : WearSt → WearSt) : (s.modWear f).rdn = s.rdn := rfl
@[simp] theorem State.modWear_pilot (s : State) (f : WearSt → WearSt) : (s.modWear f).pilot = s.pilot := rfl
@[simp] theorem State.modWear_marks (s : State) (f : WearSt → WearSt) : (s.modWear f).marks = s.marks := rfl
@[simp] theorem State.modWear_word (s : State) (f : WearSt → WearSt) (k : Nat) : (s.modWear f).word k = s.word k := (rfl)
@[simp] theorem State.modWear_fld (s : State) (f : WearSt → WearSt) (g : Fld) : (s.modWear f).fld g = s.fld g := (rfl)
@[simp] theorem State.modWear_flag (s : State) (f : WearSt → WearSt) (g : Fld) : (s.modWear f).flag g = s.flag g := (rfl)

@[simp] theorem State.modLog_pending (s : State) (f : LogSt → LogSt) : (s.modLog f).pending = s.pending := rfl
@[simp] theorem State.modLog_freeCtr (s : State) (f : LogSt → LogSt) : (s.modLog f).freeCtr = s.freeCtr := rfl
@[simp] theorem State.modLog_dial (s : State) (f : LogSt → LogSt) : (s.modLog f).dial = s.dial := rfl
@[simp] theorem State.modLog_regs (s : State) (f : LogSt → LogSt) : (s.modLog f).regs = s.regs := rfl
@[simp] theorem State.modLog_lastRead (s : State) (f : LogSt → LogSt) : (s.modLog f).lastRead = s.lastRead := rfl
@[simp] theorem State.modLog_ep (s : State) (f : LogSt → LogSt) : (s.modLog f).ep = s.ep := rfl
@[simp] theorem State.modLog_time (s : State) (f : LogSt → LogSt) : (s.modLog f).time = s.time := rfl
@[simp] theorem State.modLog_log (s : State) (f : LogSt → LogSt) : (s.modLog f).log = f s.log := rfl
@[simp] theorem State.modLog_host (s : State) (f : LogSt → LogSt) : (s.modLog f).host = s.host := rfl
@[simp] theorem State.modLog_trv (s : State) (f : LogSt → LogSt) : (s.modLog f).trv = s.trv := rfl
@[simp] theorem State.modLog_acq (s : State) (f : LogSt → LogSt) : (s.modLog f).acq = s.acq := rfl
@[simp] theorem State.modLog_bal (s : State) (f : LogSt → LogSt) : (s.modLog f).bal = s.bal := rfl
@[simp] theorem State.modLog_upd (s : State) (f : LogSt → LogSt) : (s.modLog f).upd = s.upd := rfl
@[simp] theorem State.modLog_wear (s : State) (f : LogSt → LogSt) : (s.modLog f).wear = s.wear := rfl
@[simp] theorem State.modLog_clk (s : State) (f : LogSt → LogSt) : (s.modLog f).clk = s.clk := rfl
@[simp] theorem State.modLog_hlm (s : State) (f : LogSt → LogSt) : (s.modLog f).hlm = s.hlm := rfl
@[simp] theorem State.modLog_lds (s : State) (f : LogSt → LogSt) : (s.modLog f).lds = s.lds := rfl
@[simp] theorem State.modLog_can (s : State) (f : LogSt → LogSt) : (s.modLog f).can = s.can := rfl
@[simp] theorem State.modLog_sxt (s : State) (f : LogSt → LogSt) : (s.modLog f).sxt = s.sxt := rfl
@[simp] theorem State.modLog_azm (s : State) (f : LogSt → LogSt) : (s.modLog f).azm = s.azm := rfl
@[simp] theorem State.modLog_alm (s : State) (f : LogSt → LogSt) : (s.modLog f).alm = s.alm := rfl
@[simp] theorem State.modLog_pmc (s : State) (f : LogSt → LogSt) : (s.modLog f).pmc = s.pmc := rfl
@[simp] theorem State.modLog_dsp (s : State) (f : LogSt → LogSt) : (s.modLog f).dsp = s.dsp := rfl
@[simp] theorem State.modLog_pwr (s : State) (f : LogSt → LogSt) : (s.modLog f).pwr = s.pwr := rfl
@[simp] theorem State.modLog_bin (s : State) (f : LogSt → LogSt) : (s.modLog f).bin = s.bin := rfl
@[simp] theorem State.modLog_rdn (s : State) (f : LogSt → LogSt) : (s.modLog f).rdn = s.rdn := rfl
@[simp] theorem State.modLog_pilot (s : State) (f : LogSt → LogSt) : (s.modLog f).pilot = s.pilot := rfl
@[simp] theorem State.modLog_marks (s : State) (f : LogSt → LogSt) : (s.modLog f).marks = s.marks := rfl
@[simp] theorem State.modLog_word (s : State) (f : LogSt → LogSt) (k : Nat) : (s.modLog f).word k = s.word k := (rfl)
@[simp] theorem State.modLog_fld (s : State) (f : LogSt → LogSt) (g : Fld) : (s.modLog f).fld g = s.fld g := (rfl)
@[simp] theorem State.modLog_flag (s : State) (f : LogSt → LogSt) (g : Fld) : (s.modLog f).flag g = s.flag g := (rfl)

@[simp] theorem State.modPilot_pending (s : State) (f : PilotSt → PilotSt) : (s.modPilot f).pending = s.pending := rfl
@[simp] theorem State.modPilot_freeCtr (s : State) (f : PilotSt → PilotSt) : (s.modPilot f).freeCtr = s.freeCtr := rfl
@[simp] theorem State.modPilot_dial (s : State) (f : PilotSt → PilotSt) : (s.modPilot f).dial = s.dial := rfl
@[simp] theorem State.modPilot_regs (s : State) (f : PilotSt → PilotSt) : (s.modPilot f).regs = s.regs := rfl
@[simp] theorem State.modPilot_lastRead (s : State) (f : PilotSt → PilotSt) : (s.modPilot f).lastRead = s.lastRead := rfl
@[simp] theorem State.modPilot_ep (s : State) (f : PilotSt → PilotSt) : (s.modPilot f).ep = s.ep := rfl
@[simp] theorem State.modPilot_time (s : State) (f : PilotSt → PilotSt) : (s.modPilot f).time = s.time := rfl
@[simp] theorem State.modPilot_log (s : State) (f : PilotSt → PilotSt) : (s.modPilot f).log = s.log := rfl
@[simp] theorem State.modPilot_host (s : State) (f : PilotSt → PilotSt) : (s.modPilot f).host = s.host := rfl
@[simp] theorem State.modPilot_trv (s : State) (f : PilotSt → PilotSt) : (s.modPilot f).trv = s.trv := rfl
@[simp] theorem State.modPilot_acq (s : State) (f : PilotSt → PilotSt) : (s.modPilot f).acq = s.acq := rfl
@[simp] theorem State.modPilot_bal (s : State) (f : PilotSt → PilotSt) : (s.modPilot f).bal = s.bal := rfl
@[simp] theorem State.modPilot_upd (s : State) (f : PilotSt → PilotSt) : (s.modPilot f).upd = s.upd := rfl
@[simp] theorem State.modPilot_wear (s : State) (f : PilotSt → PilotSt) : (s.modPilot f).wear = s.wear := rfl
@[simp] theorem State.modPilot_clk (s : State) (f : PilotSt → PilotSt) : (s.modPilot f).clk = s.clk := rfl
@[simp] theorem State.modPilot_hlm (s : State) (f : PilotSt → PilotSt) : (s.modPilot f).hlm = s.hlm := rfl
@[simp] theorem State.modPilot_lds (s : State) (f : PilotSt → PilotSt) : (s.modPilot f).lds = s.lds := rfl
@[simp] theorem State.modPilot_can (s : State) (f : PilotSt → PilotSt) : (s.modPilot f).can = s.can := rfl
@[simp] theorem State.modPilot_sxt (s : State) (f : PilotSt → PilotSt) : (s.modPilot f).sxt = s.sxt := rfl
@[simp] theorem State.modPilot_azm (s : State) (f : PilotSt → PilotSt) : (s.modPilot f).azm = s.azm := rfl
@[simp] theorem State.modPilot_alm (s : State) (f : PilotSt → PilotSt) : (s.modPilot f).alm = s.alm := rfl
@[simp] theorem State.modPilot_pmc (s : State) (f : PilotSt → PilotSt) : (s.modPilot f).pmc = s.pmc := rfl
@[simp] theorem State.modPilot_dsp (s : State) (f : PilotSt → PilotSt) : (s.modPilot f).dsp = s.dsp := rfl
@[simp] theorem State.modPilot_pwr (s : State) (f : PilotSt → PilotSt) : (s.modPilot f).pwr = s.pwr := rfl
@[simp] theorem State.modPilot_bin (s : State) (f : PilotSt → PilotSt) : (s.modPilot f).bin = s.bin := rfl
@[simp] theorem State.modPilot_rdn (s : State) (f : PilotSt → PilotSt) : (s.modPilot f).rdn = s.rdn := rfl
@[simp] theorem State.modPilot_pilot (s : State) (f : PilotSt → PilotSt) : (s.modPilot f).pilot = f s.pilot := rfl
@[simp] theorem State.modPilot_word (s : State) (f : PilotSt → PilotSt) (k : Nat) : (s.modPilot f).word k = s.word k := (rfl)
@[simp] theorem State.modPilot_fld (s : State) (f : PilotSt → PilotSt) (g : Fld) : (s.modPilot f).fld g = s.fld g := (rfl)
@[simp] theorem State.modPilot_flag (s : State) (f : PilotSt → PilotSt) (g : Fld) : (s.modPilot f).flag g = s.flag g := (rfl)

@[simp] theorem State.modHost_pending (s : State) (f : HostSt → HostSt) : (s.modHost f).pending = s.pending := rfl
@[simp] theorem State.modHost_freeCtr (s : State) (f : HostSt → HostSt) : (s.modHost f).freeCtr = s.freeCtr := rfl
@[simp] theorem State.modHost_dial (s : State) (f : HostSt → HostSt) : (s.modHost f).dial = s.dial := rfl
@[simp] theorem State.modHost_regs (s : State) (f : HostSt → HostSt) : (s.modHost f).regs = s.regs := rfl
@[simp] theorem State.modHost_lastRead (s : State) (f : HostSt → HostSt) : (s.modHost f).lastRead = s.lastRead := rfl
@[simp] theorem State.modHost_ep (s : State) (f : HostSt → HostSt) : (s.modHost f).ep = s.ep := rfl
@[simp] theorem State.modHost_time (s : State) (f : HostSt → HostSt) : (s.modHost f).time = s.time := rfl
@[simp] theorem State.modHost_log (s : State) (f : HostSt → HostSt) : (s.modHost f).log = s.log := rfl
@[simp] theorem State.modHost_host (s : State) (f : HostSt → HostSt) : (s.modHost f).host = f s.host := rfl
@[simp] theorem State.modHost_trv (s : State) (f : HostSt → HostSt) : (s.modHost f).trv = s.trv := rfl
@[simp] theorem State.modHost_acq (s : State) (f : HostSt → HostSt) : (s.modHost f).acq = s.acq := rfl
@[simp] theorem State.modHost_bal (s : State) (f : HostSt → HostSt) : (s.modHost f).bal = s.bal := rfl
@[simp] theorem State.modHost_upd (s : State) (f : HostSt → HostSt) : (s.modHost f).upd = s.upd := rfl
@[simp] theorem State.modHost_wear (s : State) (f : HostSt → HostSt) : (s.modHost f).wear = s.wear := rfl
@[simp] theorem State.modHost_clk (s : State) (f : HostSt → HostSt) : (s.modHost f).clk = s.clk := rfl
@[simp] theorem State.modHost_hlm (s : State) (f : HostSt → HostSt) : (s.modHost f).hlm = s.hlm := rfl
@[simp] theorem State.modHost_lds (s : State) (f : HostSt → HostSt) : (s.modHost f).lds = s.lds := rfl
@[simp] theorem State.modHost_can (s : State) (f : HostSt → HostSt) : (s.modHost f).can = s.can := rfl
@[simp] theorem State.modHost_sxt (s : State) (f : HostSt → HostSt) : (s.modHost f).sxt = s.sxt := rfl
@[simp] theorem State.modHost_azm (s : State) (f : HostSt → HostSt) : (s.modHost f).azm = s.azm := rfl
@[simp] theorem State.modHost_alm (s : State) (f : HostSt → HostSt) : (s.modHost f).alm = s.alm := rfl
@[simp] theorem State.modHost_pmc (s : State) (f : HostSt → HostSt) : (s.modHost f).pmc = s.pmc := rfl
@[simp] theorem State.modHost_dsp (s : State) (f : HostSt → HostSt) : (s.modHost f).dsp = s.dsp := rfl
@[simp] theorem State.modHost_pwr (s : State) (f : HostSt → HostSt) : (s.modHost f).pwr = s.pwr := rfl
@[simp] theorem State.modHost_bin (s : State) (f : HostSt → HostSt) : (s.modHost f).bin = s.bin := rfl
@[simp] theorem State.modHost_rdn (s : State) (f : HostSt → HostSt) : (s.modHost f).rdn = s.rdn := rfl
@[simp] theorem State.modHost_pilot (s : State) (f : HostSt → HostSt) : (s.modHost f).pilot = s.pilot := rfl
@[simp] theorem State.modHost_marks (s : State) (f : HostSt → HostSt) : (s.modHost f).marks = s.marks := rfl
@[simp] theorem State.modHost_word (s : State) (f : HostSt → HostSt) (k : Nat) : (s.modHost f).word k = s.word k := (rfl)
@[simp] theorem State.modHost_fld (s : State) (f : HostSt → HostSt) (g : Fld) : (s.modHost f).fld g = s.fld g := (rfl)
@[simp] theorem State.modHost_flag (s : State) (f : HostSt → HostSt) (g : Fld) : (s.modHost f).flag g = s.flag g := (rfl)

@[simp] theorem State.modPmc_pending (s : State) (f : PmcSt → PmcSt) : (s.modPmc f).pending = s.pending := rfl
@[simp] theorem State.modPmc_freeCtr (s : State) (f : PmcSt → PmcSt) : (s.modPmc f).freeCtr = s.freeCtr := rfl
@[simp] theorem State.modPmc_dial (s : State) (f : PmcSt → PmcSt) : (s.modPmc f).dial = s.dial := rfl
@[simp] theorem State.modPmc_regs (s : State) (f : PmcSt → PmcSt) : (s.modPmc f).regs = s.regs := rfl
@[simp] theorem State.modPmc_lastRead (s : State) (f : PmcSt → PmcSt) : (s.modPmc f).lastRead = s.lastRead := rfl
@[simp] theorem State.modPmc_ep (s : State) (f : PmcSt → PmcSt) : (s.modPmc f).ep = s.ep := rfl
@[simp] theorem State.modPmc_time (s : State) (f : PmcSt → PmcSt) : (s.modPmc f).time = s.time := rfl
@[simp] theorem State.modPmc_log (s : State) (f : PmcSt → PmcSt) : (s.modPmc f).log = s.log := rfl
@[simp] theorem State.modPmc_host (s : State) (f : PmcSt → PmcSt) : (s.modPmc f).host = s.host := rfl
@[simp] theorem State.modPmc_trv (s : State) (f : PmcSt → PmcSt) : (s.modPmc f).trv = s.trv := rfl
@[simp] theorem State.modPmc_acq (s : State) (f : PmcSt → PmcSt) : (s.modPmc f).acq = s.acq := rfl
@[simp] theorem State.modPmc_bal (s : State) (f : PmcSt → PmcSt) : (s.modPmc f).bal = s.bal := rfl
@[simp] theorem State.modPmc_upd (s : State) (f : PmcSt → PmcSt) : (s.modPmc f).upd = s.upd := rfl
@[simp] theorem State.modPmc_wear (s : State) (f : PmcSt → PmcSt) : (s.modPmc f).wear = s.wear := rfl
@[simp] theorem State.modPmc_clk (s : State) (f : PmcSt → PmcSt) : (s.modPmc f).clk = s.clk := rfl
@[simp] theorem State.modPmc_hlm (s : State) (f : PmcSt → PmcSt) : (s.modPmc f).hlm = s.hlm := rfl
@[simp] theorem State.modPmc_lds (s : State) (f : PmcSt → PmcSt) : (s.modPmc f).lds = s.lds := rfl
@[simp] theorem State.modPmc_can (s : State) (f : PmcSt → PmcSt) : (s.modPmc f).can = s.can := rfl
@[simp] theorem State.modPmc_sxt (s : State) (f : PmcSt → PmcSt) : (s.modPmc f).sxt = s.sxt := rfl
@[simp] theorem State.modPmc_azm (s : State) (f : PmcSt → PmcSt) : (s.modPmc f).azm = s.azm := rfl
@[simp] theorem State.modPmc_alm (s : State) (f : PmcSt → PmcSt) : (s.modPmc f).alm = s.alm := rfl
@[simp] theorem State.modPmc_pmc (s : State) (f : PmcSt → PmcSt) : (s.modPmc f).pmc = f s.pmc := rfl
@[simp] theorem State.modPmc_dsp (s : State) (f : PmcSt → PmcSt) : (s.modPmc f).dsp = s.dsp := rfl
@[simp] theorem State.modPmc_pwr (s : State) (f : PmcSt → PmcSt) : (s.modPmc f).pwr = s.pwr := rfl
@[simp] theorem State.modPmc_bin (s : State) (f : PmcSt → PmcSt) : (s.modPmc f).bin = s.bin := rfl
@[simp] theorem State.modPmc_rdn (s : State) (f : PmcSt → PmcSt) : (s.modPmc f).rdn = s.rdn := rfl
@[simp] theorem State.modPmc_pilot (s : State) (f : PmcSt → PmcSt) : (s.modPmc f).pilot = s.pilot := rfl
@[simp] theorem State.modPmc_marks (s : State) (f : PmcSt → PmcSt) : (s.modPmc f).marks = s.marks := rfl
@[simp] theorem State.modPmc_word (s : State) (f : PmcSt → PmcSt) (k : Nat) : (s.modPmc f).word k = s.word k := (rfl)
@[simp] theorem State.modPmc_fld (s : State) (f : PmcSt → PmcSt) (g : Fld) : (s.modPmc f).fld g = s.fld g := (rfl)
@[simp] theorem State.modPmc_flag (s : State) (f : PmcSt → PmcSt) (g : Fld) : (s.modPmc f).flag g = s.flag g := (rfl)

@[simp] theorem State.modRdn_pending (s : State) (f : RdnSt → RdnSt) : (s.modRdn f).pending = s.pending := rfl
@[simp] theorem State.modRdn_freeCtr (s : State) (f : RdnSt → RdnSt) : (s.modRdn f).freeCtr = s.freeCtr := rfl
@[simp] theorem State.modRdn_dial (s : State) (f : RdnSt → RdnSt) : (s.modRdn f).dial = s.dial := rfl
@[simp] theorem State.modRdn_regs (s : State) (f : RdnSt → RdnSt) : (s.modRdn f).regs = s.regs := rfl
@[simp] theorem State.modRdn_lastRead (s : State) (f : RdnSt → RdnSt) : (s.modRdn f).lastRead = s.lastRead := rfl
@[simp] theorem State.modRdn_ep (s : State) (f : RdnSt → RdnSt) : (s.modRdn f).ep = s.ep := rfl
@[simp] theorem State.modRdn_time (s : State) (f : RdnSt → RdnSt) : (s.modRdn f).time = s.time := rfl
@[simp] theorem State.modRdn_log (s : State) (f : RdnSt → RdnSt) : (s.modRdn f).log = s.log := rfl
@[simp] theorem State.modRdn_host (s : State) (f : RdnSt → RdnSt) : (s.modRdn f).host = s.host := rfl
@[simp] theorem State.modRdn_trv (s : State) (f : RdnSt → RdnSt) : (s.modRdn f).trv = s.trv := rfl
@[simp] theorem State.modRdn_acq (s : State) (f : RdnSt → RdnSt) : (s.modRdn f).acq = s.acq := rfl
@[simp] theorem State.modRdn_bal (s : State) (f : RdnSt → RdnSt) : (s.modRdn f).bal = s.bal := rfl
@[simp] theorem State.modRdn_upd (s : State) (f : RdnSt → RdnSt) : (s.modRdn f).upd = s.upd := rfl
@[simp] theorem State.modRdn_wear (s : State) (f : RdnSt → RdnSt) : (s.modRdn f).wear = s.wear := rfl
@[simp] theorem State.modRdn_clk (s : State) (f : RdnSt → RdnSt) : (s.modRdn f).clk = s.clk := rfl
@[simp] theorem State.modRdn_hlm (s : State) (f : RdnSt → RdnSt) : (s.modRdn f).hlm = s.hlm := rfl
@[simp] theorem State.modRdn_lds (s : State) (f : RdnSt → RdnSt) : (s.modRdn f).lds = s.lds := rfl
@[simp] theorem State.modRdn_can (s : State) (f : RdnSt → RdnSt) : (s.modRdn f).can = s.can := rfl
@[simp] theorem State.modRdn_sxt (s : State) (f : RdnSt → RdnSt) : (s.modRdn f).sxt = s.sxt := rfl
@[simp] theorem State.modRdn_azm (s : State) (f : RdnSt → RdnSt) : (s.modRdn f).azm = s.azm := rfl
@[simp] theorem State.modRdn_alm (s : State) (f : RdnSt → RdnSt) : (s.modRdn f).alm = s.alm := rfl
@[simp] theorem State.modRdn_pmc (s : State) (f : RdnSt → RdnSt) : (s.modRdn f).pmc = s.pmc := rfl
@[simp] theorem State.modRdn_dsp (s : State) (f : RdnSt → RdnSt) : (s.modRdn f).dsp = s.dsp := rfl
@[simp] theorem State.modRdn_pwr (s : State) (f : RdnSt → RdnSt) : (s.modRdn f).pwr = s.pwr := rfl
@[simp] theorem State.modRdn_bin (s : State) (f : RdnSt → RdnSt) : (s.modRdn f).bin = s.bin := rfl
@[simp] theorem State.modRdn_rdn (s : State) (f : RdnSt → RdnSt) : (s.modRdn f).rdn = f s.rdn := rfl
@[simp] theorem State.modRdn_pilot (s : State) (f : RdnSt → RdnSt) : (s.modRdn f).pilot = s.pilot := rfl
@[simp] theorem State.modRdn_marks (s : State) (f : RdnSt → RdnSt) : (s.modRdn f).marks = s.marks := rfl
@[simp] theorem State.modRdn_word (s : State) (f : RdnSt → RdnSt) (k : Nat) : (s.modRdn f).word k = s.word k := (rfl)
@[simp] theorem State.modRdn_fld (s : State) (f : RdnSt → RdnSt) (g : Fld) : (s.modRdn f).fld g = s.fld g := (rfl)
@[simp] theorem State.modRdn_flag (s : State) (f : RdnSt → RdnSt) (g : Fld) : (s.modRdn f).flag g = s.flag g := (rfl)

@[simp] theorem State.modUpd_pending (s : State) (f : UpdSt → UpdSt) : (s.modUpd f).pending = s.pending := rfl
@[simp] theorem State.modUpd_freeCtr (s : State) (f : UpdSt → UpdSt) : (s.modUpd f).freeCtr = s.freeCtr := rfl
@[simp] theorem State.modUpd_dial (s : State) (f : UpdSt → UpdSt) : (s.modUpd f).dial = s.dial := rfl
@[simp] theorem State.modUpd_regs (s : State) (f : UpdSt → UpdSt) : (s.modUpd f).regs = s.regs := rfl
@[simp] theorem State.modUpd_lastRead (s : State) (f : UpdSt → UpdSt) : (s.modUpd f).lastRead = s.lastRead := rfl
@[simp] theorem State.modUpd_ep (s : State) (f : UpdSt → UpdSt) : (s.modUpd f).ep = s.ep := rfl
@[simp] theorem State.modUpd_time (s : State) (f : UpdSt → UpdSt) : (s.modUpd f).time = s.time := rfl
@[simp] theorem State.modUpd_log (s : State) (f : UpdSt → UpdSt) : (s.modUpd f).log = s.log := rfl
@[simp] theorem State.modUpd_host (s : State) (f : UpdSt → UpdSt) : (s.modUpd f).host = s.host := rfl
@[simp] theorem State.modUpd_trv (s : State) (f : UpdSt → UpdSt) : (s.modUpd f).trv = s.trv := rfl
@[simp] theorem State.modUpd_acq (s : State) (f : UpdSt → UpdSt) : (s.modUpd f).acq = s.acq := rfl
@[simp] theorem State.modUpd_bal (s : State) (f : UpdSt → UpdSt) : (s.modUpd f).bal = s.bal := rfl
@[simp] theorem State.modUpd_upd (s : State) (f : UpdSt → UpdSt) : (s.modUpd f).upd = f s.upd := rfl
@[simp] theorem State.modUpd_wear (s : State) (f : UpdSt → UpdSt) : (s.modUpd f).wear = s.wear := rfl
@[simp] theorem State.modUpd_clk (s : State) (f : UpdSt → UpdSt) : (s.modUpd f).clk = s.clk := rfl
@[simp] theorem State.modUpd_hlm (s : State) (f : UpdSt → UpdSt) : (s.modUpd f).hlm = s.hlm := rfl
@[simp] theorem State.modUpd_lds (s : State) (f : UpdSt → UpdSt) : (s.modUpd f).lds = s.lds := rfl
@[simp] theorem State.modUpd_can (s : State) (f : UpdSt → UpdSt) : (s.modUpd f).can = s.can := rfl
@[simp] theorem State.modUpd_sxt (s : State) (f : UpdSt → UpdSt) : (s.modUpd f).sxt = s.sxt := rfl
@[simp] theorem State.modUpd_azm (s : State) (f : UpdSt → UpdSt) : (s.modUpd f).azm = s.azm := rfl
@[simp] theorem State.modUpd_alm (s : State) (f : UpdSt → UpdSt) : (s.modUpd f).alm = s.alm := rfl
@[simp] theorem State.modUpd_pmc (s : State) (f : UpdSt → UpdSt) : (s.modUpd f).pmc = s.pmc := rfl
@[simp] theorem State.modUpd_dsp (s : State) (f : UpdSt → UpdSt) : (s.modUpd f).dsp = s.dsp := rfl
@[simp] theorem State.modUpd_pwr (s : State) (f : UpdSt → UpdSt) : (s.modUpd f).pwr = s.pwr := rfl
@[simp] theorem State.modUpd_bin (s : State) (f : UpdSt → UpdSt) : (s.modUpd f).bin = s.bin := rfl
@[simp] theorem State.modUpd_rdn (s : State) (f : UpdSt → UpdSt) : (s.modUpd f).rdn = s.rdn := rfl
@[simp] theorem State.modUpd_pilot (s : State) (f : UpdSt → UpdSt) : (s.modUpd f).pilot = s.pilot := rfl
@[simp] theorem State.modUpd_marks (s : State) (f : UpdSt → UpdSt) : (s.modUpd f).marks = s.marks := rfl
@[simp] theorem State.modUpd_word (s : State) (f : UpdSt → UpdSt) (k : Nat) : (s.modUpd f).word k = s.word k := (rfl)
@[simp] theorem State.modUpd_fld (s : State) (f : UpdSt → UpdSt) (g : Fld) : (s.modUpd f).fld g = s.fld g := (rfl)
@[simp] theorem State.modUpd_flag (s : State) (f : UpdSt → UpdSt) (g : Fld) : (s.modUpd f).flag g = s.flag g := (rfl)

@[simp] theorem State.modSxt_pending (s : State) (f : SxtSt → SxtSt) : (s.modSxt f).pending = s.pending := rfl
@[simp] theorem State.modSxt_freeCtr (s : State) (f : SxtSt → SxtSt) : (s.modSxt f).freeCtr = s.freeCtr := rfl
@[simp] theorem State.modSxt_dial (s : State) (f : SxtSt → SxtSt) : (s.modSxt f).dial = s.dial := rfl
@[simp] theorem State.modSxt_regs (s : State) (f : SxtSt → SxtSt) : (s.modSxt f).regs = s.regs := rfl
@[simp] theorem State.modSxt_lastRead (s : State) (f : SxtSt → SxtSt) : (s.modSxt f).lastRead = s.lastRead := rfl
@[simp] theorem State.modSxt_ep (s : State) (f : SxtSt → SxtSt) : (s.modSxt f).ep = s.ep := rfl
@[simp] theorem State.modSxt_time (s : State) (f : SxtSt → SxtSt) : (s.modSxt f).time = s.time := rfl
@[simp] theorem State.modSxt_log (s : State) (f : SxtSt → SxtSt) : (s.modSxt f).log = s.log := rfl
@[simp] theorem State.modSxt_host (s : State) (f : SxtSt → SxtSt) : (s.modSxt f).host = s.host := rfl
@[simp] theorem State.modSxt_trv (s : State) (f : SxtSt → SxtSt) : (s.modSxt f).trv = s.trv := rfl
@[simp] theorem State.modSxt_acq (s : State) (f : SxtSt → SxtSt) : (s.modSxt f).acq = s.acq := rfl
@[simp] theorem State.modSxt_bal (s : State) (f : SxtSt → SxtSt) : (s.modSxt f).bal = s.bal := rfl
@[simp] theorem State.modSxt_upd (s : State) (f : SxtSt → SxtSt) : (s.modSxt f).upd = s.upd := rfl
@[simp] theorem State.modSxt_wear (s : State) (f : SxtSt → SxtSt) : (s.modSxt f).wear = s.wear := rfl
@[simp] theorem State.modSxt_clk (s : State) (f : SxtSt → SxtSt) : (s.modSxt f).clk = s.clk := rfl
@[simp] theorem State.modSxt_hlm (s : State) (f : SxtSt → SxtSt) : (s.modSxt f).hlm = s.hlm := rfl
@[simp] theorem State.modSxt_lds (s : State) (f : SxtSt → SxtSt) : (s.modSxt f).lds = s.lds := rfl
@[simp] theorem State.modSxt_can (s : State) (f : SxtSt → SxtSt) : (s.modSxt f).can = s.can := rfl
@[simp] theorem State.modSxt_sxt (s : State) (f : SxtSt → SxtSt) : (s.modSxt f).sxt = f s.sxt := rfl
@[simp] theorem State.modSxt_azm (s : State) (f : SxtSt → SxtSt) : (s.modSxt f).azm = s.azm := rfl
@[simp] theorem State.modSxt_alm (s : State) (f : SxtSt → SxtSt) : (s.modSxt f).alm = s.alm := rfl
@[simp] theorem State.modSxt_pmc (s : State) (f : SxtSt → SxtSt) : (s.modSxt f).pmc = s.pmc := rfl
@[simp] theorem State.modSxt_dsp (s : State) (f : SxtSt → SxtSt) : (s.modSxt f).dsp = s.dsp := rfl
@[simp] theorem State.modSxt_pwr (s : State) (f : SxtSt → SxtSt) : (s.modSxt f).pwr = s.pwr := rfl
@[simp] theorem State.modSxt_bin (s : State) (f : SxtSt → SxtSt) : (s.modSxt f).bin = s.bin := rfl
@[simp] theorem State.modSxt_rdn (s : State) (f : SxtSt → SxtSt) : (s.modSxt f).rdn = s.rdn := rfl
@[simp] theorem State.modSxt_pilot (s : State) (f : SxtSt → SxtSt) : (s.modSxt f).pilot = s.pilot := rfl
@[simp] theorem State.modSxt_marks (s : State) (f : SxtSt → SxtSt) : (s.modSxt f).marks = s.marks := rfl
@[simp] theorem State.modSxt_word (s : State) (f : SxtSt → SxtSt) (k : Nat) : (s.modSxt f).word k = s.word k := (rfl)
@[simp] theorem State.modSxt_fld (s : State) (f : SxtSt → SxtSt) (g : Fld) : (s.modSxt f).fld g = s.fld g := (rfl)
@[simp] theorem State.modSxt_flag (s : State) (f : SxtSt → SxtSt) (g : Fld) : (s.modSxt f).flag g = s.flag g := (rfl)

@[simp] theorem State.modPwr_pending (s : State) (f : PwrSt → PwrSt) : (s.modPwr f).pending = s.pending := rfl
@[simp] theorem State.modPwr_freeCtr (s : State) (f : PwrSt → PwrSt) : (s.modPwr f).freeCtr = s.freeCtr := rfl
@[simp] theorem State.modPwr_dial (s : State) (f : PwrSt → PwrSt) : (s.modPwr f).dial = s.dial := rfl
@[simp] theorem State.modPwr_regs (s : State) (f : PwrSt → PwrSt) : (s.modPwr f).regs = s.regs := rfl
@[simp] theorem State.modPwr_lastRead (s : State) (f : PwrSt → PwrSt) : (s.modPwr f).lastRead = s.lastRead := rfl
@[simp] theorem State.modPwr_ep (s : State) (f : PwrSt → PwrSt) : (s.modPwr f).ep = s.ep := rfl
@[simp] theorem State.modPwr_time (s : State) (f : PwrSt → PwrSt) : (s.modPwr f).time = s.time := rfl
@[simp] theorem State.modPwr_log (s : State) (f : PwrSt → PwrSt) : (s.modPwr f).log = s.log := rfl
@[simp] theorem State.modPwr_host (s : State) (f : PwrSt → PwrSt) : (s.modPwr f).host = s.host := rfl
@[simp] theorem State.modPwr_trv (s : State) (f : PwrSt → PwrSt) : (s.modPwr f).trv = s.trv := rfl
@[simp] theorem State.modPwr_acq (s : State) (f : PwrSt → PwrSt) : (s.modPwr f).acq = s.acq := rfl
@[simp] theorem State.modPwr_bal (s : State) (f : PwrSt → PwrSt) : (s.modPwr f).bal = s.bal := rfl
@[simp] theorem State.modPwr_upd (s : State) (f : PwrSt → PwrSt) : (s.modPwr f).upd = s.upd := rfl
@[simp] theorem State.modPwr_wear (s : State) (f : PwrSt → PwrSt) : (s.modPwr f).wear = s.wear := rfl
@[simp] theorem State.modPwr_clk (s : State) (f : PwrSt → PwrSt) : (s.modPwr f).clk = s.clk := rfl
@[simp] theorem State.modPwr_hlm (s : State) (f : PwrSt → PwrSt) : (s.modPwr f).hlm = s.hlm := rfl
@[simp] theorem State.modPwr_lds (s : State) (f : PwrSt → PwrSt) : (s.modPwr f).lds = s.lds := rfl
@[simp] theorem State.modPwr_can (s : State) (f : PwrSt → PwrSt) : (s.modPwr f).can = s.can := rfl
@[simp] theorem State.modPwr_sxt (s : State) (f : PwrSt → PwrSt) : (s.modPwr f).sxt = s.sxt := rfl
@[simp] theorem State.modPwr_azm (s : State) (f : PwrSt → PwrSt) : (s.modPwr f).azm = s.azm := rfl
@[simp] theorem State.modPwr_alm (s : State) (f : PwrSt → PwrSt) : (s.modPwr f).alm = s.alm := rfl
@[simp] theorem State.modPwr_pmc (s : State) (f : PwrSt → PwrSt) : (s.modPwr f).pmc = s.pmc := rfl
@[simp] theorem State.modPwr_dsp (s : State) (f : PwrSt → PwrSt) : (s.modPwr f).dsp = s.dsp := rfl
@[simp] theorem State.modPwr_pwr (s : State) (f : PwrSt → PwrSt) : (s.modPwr f).pwr = f s.pwr := rfl
@[simp] theorem State.modPwr_bin (s : State) (f : PwrSt → PwrSt) : (s.modPwr f).bin = s.bin := rfl
@[simp] theorem State.modPwr_rdn (s : State) (f : PwrSt → PwrSt) : (s.modPwr f).rdn = s.rdn := rfl
@[simp] theorem State.modPwr_pilot (s : State) (f : PwrSt → PwrSt) : (s.modPwr f).pilot = s.pilot := rfl
@[simp] theorem State.modPwr_marks (s : State) (f : PwrSt → PwrSt) : (s.modPwr f).marks = s.marks := rfl
@[simp] theorem State.modPwr_word (s : State) (f : PwrSt → PwrSt) (k : Nat) : (s.modPwr f).word k = s.word k := (rfl)
@[simp] theorem State.modPwr_fld (s : State) (f : PwrSt → PwrSt) (g : Fld) : (s.modPwr f).fld g = s.fld g := (rfl)
@[simp] theorem State.modPwr_flag (s : State) (f : PwrSt → PwrSt) (g : Fld) : (s.modPwr f).flag g = s.flag g := (rfl)

@[simp] theorem State.modDsp_pending (s : State) (f : DspSt → DspSt) : (s.modDsp f).pending = s.pending := rfl
@[simp] theorem State.modDsp_freeCtr (s : State) (f : DspSt → DspSt) : (s.modDsp f).freeCtr = s.freeCtr := rfl
@[simp] theorem State.modDsp_dial (s : State) (f : DspSt → DspSt) : (s.modDsp f).dial = s.dial := rfl
@[simp] theorem State.modDsp_regs (s : State) (f : DspSt → DspSt) : (s.modDsp f).regs = s.regs := rfl
@[simp] theorem State.modDsp_lastRead (s : State) (f : DspSt → DspSt) : (s.modDsp f).lastRead = s.lastRead := rfl
@[simp] theorem State.modDsp_ep (s : State) (f : DspSt → DspSt) : (s.modDsp f).ep = s.ep := rfl
@[simp] theorem State.modDsp_time (s : State) (f : DspSt → DspSt) : (s.modDsp f).time = s.time := rfl
@[simp] theorem State.modDsp_log (s : State) (f : DspSt → DspSt) : (s.modDsp f).log = s.log := rfl
@[simp] theorem State.modDsp_host (s : State) (f : DspSt → DspSt) : (s.modDsp f).host = s.host := rfl
@[simp] theorem State.modDsp_trv (s : State) (f : DspSt → DspSt) : (s.modDsp f).trv = s.trv := rfl
@[simp] theorem State.modDsp_acq (s : State) (f : DspSt → DspSt) : (s.modDsp f).acq = s.acq := rfl
@[simp] theorem State.modDsp_bal (s : State) (f : DspSt → DspSt) : (s.modDsp f).bal = s.bal := rfl
@[simp] theorem State.modDsp_upd (s : State) (f : DspSt → DspSt) : (s.modDsp f).upd = s.upd := rfl
@[simp] theorem State.modDsp_wear (s : State) (f : DspSt → DspSt) : (s.modDsp f).wear = s.wear := rfl
@[simp] theorem State.modDsp_clk (s : State) (f : DspSt → DspSt) : (s.modDsp f).clk = s.clk := rfl
@[simp] theorem State.modDsp_hlm (s : State) (f : DspSt → DspSt) : (s.modDsp f).hlm = s.hlm := rfl
@[simp] theorem State.modDsp_lds (s : State) (f : DspSt → DspSt) : (s.modDsp f).lds = s.lds := rfl
@[simp] theorem State.modDsp_can (s : State) (f : DspSt → DspSt) : (s.modDsp f).can = s.can := rfl
@[simp] theorem State.modDsp_sxt (s : State) (f : DspSt → DspSt) : (s.modDsp f).sxt = s.sxt := rfl
@[simp] theorem State.modDsp_azm (s : State) (f : DspSt → DspSt) : (s.modDsp f).azm = s.azm := rfl
@[simp] theorem State.modDsp_alm (s : State) (f : DspSt → DspSt) : (s.modDsp f).alm = s.alm := rfl
@[simp] theorem State.modDsp_pmc (s : State) (f : DspSt → DspSt) : (s.modDsp f).pmc = s.pmc := rfl
@[simp] theorem State.modDsp_dsp (s : State) (f : DspSt → DspSt) : (s.modDsp f).dsp = f s.dsp := rfl
@[simp] theorem State.modDsp_pwr (s : State) (f : DspSt → DspSt) : (s.modDsp f).pwr = s.pwr := rfl
@[simp] theorem State.modDsp_bin (s : State) (f : DspSt → DspSt) : (s.modDsp f).bin = s.bin := rfl
@[simp] theorem State.modDsp_rdn (s : State) (f : DspSt → DspSt) : (s.modDsp f).rdn = s.rdn := rfl
@[simp] theorem State.modDsp_pilot (s : State) (f : DspSt → DspSt) : (s.modDsp f).pilot = s.pilot := rfl
@[simp] theorem State.modDsp_marks (s : State) (f : DspSt → DspSt) : (s.modDsp f).marks = s.marks := rfl
@[simp] theorem State.modDsp_word (s : State) (f : DspSt → DspSt) (k : Nat) : (s.modDsp f).word k = s.word k := (rfl)
@[simp] theorem State.modDsp_fld (s : State) (f : DspSt → DspSt) (g : Fld) : (s.modDsp f).fld g = s.fld g := (rfl)
@[simp] theorem State.modDsp_flag (s : State) (f : DspSt → DspSt) (g : Fld) : (s.modDsp f).flag g = s.flag g := (rfl)

@[simp] theorem State.modAzm_pending (s : State) (f : AzmSt → AzmSt) : (s.modAzm f).pending = s.pending := rfl
@[simp] theorem State.modAzm_freeCtr (s : State) (f : AzmSt → AzmSt) : (s.modAzm f).freeCtr = s.freeCtr := rfl
@[simp] theorem State.modAzm_dial (s : State) (f : AzmSt → AzmSt) : (s.modAzm f).dial = s.dial := rfl
@[simp] theorem State.modAzm_regs (s : State) (f : AzmSt → AzmSt) : (s.modAzm f).regs = s.regs := rfl
@[simp] theorem State.modAzm_lastRead (s : State) (f : AzmSt → AzmSt) : (s.modAzm f).lastRead = s.lastRead := rfl
@[simp] theorem State.modAzm_ep (s : State) (f : AzmSt → AzmSt) : (s.modAzm f).ep = s.ep := rfl
@[simp] theorem State.modAzm_time (s : State) (f : AzmSt → AzmSt) : (s.modAzm f).time = s.time := rfl
@[simp] theorem State.modAzm_log (s : State) (f : AzmSt → AzmSt) : (s.modAzm f).log = s.log := rfl
@[simp] theorem State.modAzm_host (s : State) (f : AzmSt → AzmSt) : (s.modAzm f).host = s.host := rfl
@[simp] theorem State.modAzm_trv (s : State) (f : AzmSt → AzmSt) : (s.modAzm f).trv = s.trv := rfl
@[simp] theorem State.modAzm_acq (s : State) (f : AzmSt → AzmSt) : (s.modAzm f).acq = s.acq := rfl
@[simp] theorem State.modAzm_bal (s : State) (f : AzmSt → AzmSt) : (s.modAzm f).bal = s.bal := rfl
@[simp] theorem State.modAzm_upd (s : State) (f : AzmSt → AzmSt) : (s.modAzm f).upd = s.upd := rfl
@[simp] theorem State.modAzm_wear (s : State) (f : AzmSt → AzmSt) : (s.modAzm f).wear = s.wear := rfl
@[simp] theorem State.modAzm_clk (s : State) (f : AzmSt → AzmSt) : (s.modAzm f).clk = s.clk := rfl
@[simp] theorem State.modAzm_hlm (s : State) (f : AzmSt → AzmSt) : (s.modAzm f).hlm = s.hlm := rfl
@[simp] theorem State.modAzm_lds (s : State) (f : AzmSt → AzmSt) : (s.modAzm f).lds = s.lds := rfl
@[simp] theorem State.modAzm_can (s : State) (f : AzmSt → AzmSt) : (s.modAzm f).can = s.can := rfl
@[simp] theorem State.modAzm_sxt (s : State) (f : AzmSt → AzmSt) : (s.modAzm f).sxt = s.sxt := rfl
@[simp] theorem State.modAzm_azm (s : State) (f : AzmSt → AzmSt) : (s.modAzm f).azm = f s.azm := rfl
@[simp] theorem State.modAzm_alm (s : State) (f : AzmSt → AzmSt) : (s.modAzm f).alm = s.alm := rfl
@[simp] theorem State.modAzm_pmc (s : State) (f : AzmSt → AzmSt) : (s.modAzm f).pmc = s.pmc := rfl
@[simp] theorem State.modAzm_dsp (s : State) (f : AzmSt → AzmSt) : (s.modAzm f).dsp = s.dsp := rfl
@[simp] theorem State.modAzm_pwr (s : State) (f : AzmSt → AzmSt) : (s.modAzm f).pwr = s.pwr := rfl
@[simp] theorem State.modAzm_bin (s : State) (f : AzmSt → AzmSt) : (s.modAzm f).bin = s.bin := rfl
@[simp] theorem State.modAzm_rdn (s : State) (f : AzmSt → AzmSt) : (s.modAzm f).rdn = s.rdn := rfl
@[simp] theorem State.modAzm_pilot (s : State) (f : AzmSt → AzmSt) : (s.modAzm f).pilot = s.pilot := rfl
@[simp] theorem State.modAzm_marks (s : State) (f : AzmSt → AzmSt) : (s.modAzm f).marks = s.marks := rfl
@[simp] theorem State.modAzm_word (s : State) (f : AzmSt → AzmSt) (k : Nat) : (s.modAzm f).word k = s.word k := (rfl)
@[simp] theorem State.modAzm_fld (s : State) (f : AzmSt → AzmSt) (g : Fld) : (s.modAzm f).fld g = s.fld g := (rfl)
@[simp] theorem State.modAzm_flag (s : State) (f : AzmSt → AzmSt) (g : Fld) : (s.modAzm f).flag g = s.flag g := (rfl)

@[simp] theorem State.at_pending (s : State) (t : Nat) : (s.at t).pending = s.pending := by
  unfold State.at; split <;> rfl
@[simp] theorem State.at_freeCtr (s : State) (t : Nat) : (s.at t).freeCtr = s.freeCtr := by
  unfold State.at; split <;> rfl
@[simp] theorem State.at_regs (s : State) (t : Nat) : (s.at t).regs = s.regs := by
  unfold State.at; split <;> rfl
@[simp] theorem State.at_lastRead (s : State) (t : Nat) : (s.at t).lastRead = s.lastRead := by
  unfold State.at; split <;> rfl
@[simp] theorem State.at_ep (s : State) (t : Nat) : (s.at t).ep = s.ep := by
  unfold State.at; split <;> rfl
@[simp] theorem State.at_log (s : State) (t : Nat) : (s.at t).log = s.log := by
  unfold State.at; split <;> rfl
@[simp] theorem State.at_host (s : State) (t : Nat) : (s.at t).host = s.host := by
  unfold State.at; split <;> rfl
@[simp] theorem State.at_trv (s : State) (t : Nat) : (s.at t).trv = s.trv := by
  unfold State.at; split <;> rfl
@[simp] theorem State.at_acq (s : State) (t : Nat) : (s.at t).acq = s.acq := by
  unfold State.at; split <;> rfl
@[simp] theorem State.at_bal (s : State) (t : Nat) : (s.at t).bal = s.bal := by
  unfold State.at; split <;> rfl
@[simp] theorem State.at_upd (s : State) (t : Nat) : (s.at t).upd = s.upd := by
  unfold State.at; split <;> rfl
@[simp] theorem State.at_wear (s : State) (t : Nat) : (s.at t).wear = s.wear := by
  unfold State.at; split <;> rfl
@[simp] theorem State.at_clk (s : State) (t : Nat) : (s.at t).clk = s.clk := by
  unfold State.at; split <;> rfl
@[simp] theorem State.at_hlm (s : State) (t : Nat) : (s.at t).hlm = s.hlm := by
  unfold State.at; split <;> rfl
@[simp] theorem State.at_lds (s : State) (t : Nat) : (s.at t).lds = s.lds := by
  unfold State.at; split <;> rfl
@[simp] theorem State.at_can (s : State) (t : Nat) : (s.at t).can = s.can := by
  unfold State.at; split <;> rfl
@[simp] theorem State.at_sxt (s : State) (t : Nat) : (s.at t).sxt = s.sxt := by
  unfold State.at; split <;> rfl
@[simp] theorem State.at_azm (s : State) (t : Nat) : (s.at t).azm = s.azm := by
  unfold State.at; split <;> rfl
@[simp] theorem State.at_alm (s : State) (t : Nat) : (s.at t).alm = s.alm := by
  unfold State.at; split <;> rfl
@[simp] theorem State.at_pmc (s : State) (t : Nat) : (s.at t).pmc = s.pmc := by
  unfold State.at; split <;> rfl
@[simp] theorem State.at_dsp (s : State) (t : Nat) : (s.at t).dsp = s.dsp := by
  unfold State.at; split <;> rfl
@[simp] theorem State.at_pwr (s : State) (t : Nat) : (s.at t).pwr = s.pwr := by
  unfold State.at; split <;> rfl
@[simp] theorem State.at_bin (s : State) (t : Nat) : (s.at t).bin = s.bin := by
  unfold State.at; split <;> rfl
@[simp] theorem State.at_rdn (s : State) (t : Nat) : (s.at t).rdn = s.rdn := by
  unfold State.at; split <;> rfl
@[simp] theorem State.at_pilot (s : State) (t : Nat) : (s.at t).pilot = s.pilot := by
  unfold State.at; split <;> rfl
@[simp] theorem State.at_marks (s : State) (t : Nat) : (s.at t).marks = s.marks := by
  unfold State.at; split <;> rfl
/-- Dial after a command's instant: while the root clock stands, Dial stands too; it never runs back. -/
theorem State.at_dial (s : State) (t : Nat) : (s.at t).dial = if s.pwr.off then s.dial else max s.dial t := by
  unfold State.at
  cases h : s.pwr.off <;> by_cases e : t ≤ s.dial <;> simp [e]
  omega
theorem State.at_dial_le (s : State) (t : Nat) : s.dial ≤ (s.at t).dial := by
  rw [State.at_dial]; split <;> omega
@[simp] theorem State.at_word (s : State) (t k : Nat) : (s.at t).word k = s.word k := by
  unfold State.word; rw [State.at_regs]
@[simp] theorem State.at_fld (s : State) (t : Nat) (f : Fld) : (s.at t).fld f = s.fld f := by
  unfold State.fld; rw [State.at_word]
@[simp] theorem State.at_fldS (s : State) (t : Nat) (f : Fld) : (s.at t).fldS f = s.fldS f := by
  unfold State.fldS; rw [State.at_word]
@[simp] theorem State.at_flag (s : State) (t : Nat) (f : Fld) : (s.at t).flag f = s.flag f := by
  unfold State.flag; rw [State.at_word]

/-- A register reads what was last written to it. -/
@[simp] theorem State.word_setWord_same (s : State) (k : Nat) (v : Word) : (s.setWord k v).word k = v := Tab.get_set_same ..

/-- A write to a register leaves every other register alone. -/
theorem State.word_setWord_other (s : State) {k j : Nat} (v : Word) (h : j ≠ k) : (s.setWord k v).word j = s.word j :=
  Tab.get_set_other regReset s.regs v h

theorem State.word_setWord (s : State) (k j : Nat) (v : Word) : (s.setWord k v).word j = if j = k then v else s.word j := Tab.get_set ..

/-- A write to a field leaves every other register alone. -/
theorem State.word_setFld_other (s : State) (f : Fld) (n : Nat) {k : Nat} (h : k ≠ f.reg) : (s.setFld f n).word k = s.word k :=
  s.word_setWord_other _ h

@[simp] theorem State.word_setFld_same (s : State) (f : Fld) (n : Nat) :
    (s.setFld f n).word f.reg = setBits (s.word f.reg) f.lo (f.hi - f.lo + 1) n := s.word_setWord_same _ _

/-- A field within a word that is written reads back, modulo its width. -/
theorem State.fld_setFld_same (s : State) (f : Fld) (n : Nat) (h : f.lo + (f.hi - f.lo + 1) ≤ 32) :
    (s.setFld f n).fld f = n % 2 ^ (f.hi - f.lo + 1) := by
  unfold State.fld
  rw [State.word_setFld_same, getBits_setBits_same _ _ _ _ h]

/-- A write to a field leaves every field of another register, and every disjoint field of its own, alone. -/
theorem State.fld_setFld_other (s : State) (f g : Fld) (n : Nat)
    (h : g.reg ≠ f.reg ∨ g.lo + (g.hi - g.lo + 1) ≤ f.lo ∨ f.lo + (f.hi - f.lo + 1) ≤ g.lo) : (s.setFld f n).fld g = s.fld g := by
  unfold State.fld
  by_cases e : g.reg = f.reg
  · rw [e, State.word_setFld_same]
    exact getBits_setBits_disjoint _ _ _ _ _ _ (h.resolve_left (fun k => k e))
  · rw [State.word_setFld_other s f n e]

theorem State.fld_setWord_other (s : State) (k : Nat) (v : Word) (g : Fld) (h : g.reg ≠ k) : (s.setWord k v).fld g = s.fld g := by
  unfold State.fld; rw [State.word_setWord_other s v h]

theorem State.flag_setWord_other (s : State) (k : Nat) (v : Word) (g : Fld) (h : g.reg ≠ k) : (s.setWord k v).flag g = s.flag g := by
  unfold State.flag; rw [State.word_setWord_other s v h]

/-- A flag after a field write. -/
theorem State.flag_setFld (s : State) (f g : Fld) (n : Nat) : (s.setFld f n).flag g =
    if g.reg = f.reg ∧ f.lo ≤ g.lo ∧ g.lo < f.lo + (f.hi - f.lo + 1) ∧ g.lo < 32 then n.testBit (g.lo - f.lo) else s.flag g := by
  unfold State.flag
  by_cases e : g.reg = f.reg
  · rw [e, State.word_setFld_same, getLsbD_setBits]
    simp only [true_and]
  · rw [State.word_setFld_other s f n e]
    simp [e]

@[simp] theorem State.markSet_word (s : State) (f : Fld) (k : Nat) : (s.markSet f).word k = s.word k := rfl
@[simp] theorem State.markSet_regs (s : State) (f : Fld) : (s.markSet f).regs = s.regs := rfl
@[simp] theorem State.markSet_fld (s : State) (f g : Fld) : (s.markSet f).fld g = s.fld g := rfl
@[simp] theorem State.markSet_flag (s : State) (f g : Fld) : (s.markSet f).flag g = s.flag g := rfl

/-- A bit that its condition sets counts as set in the present cycle (R13). -/
theorem State.setNow_markSet (s : State) (f : Fld) (k : Nat) :
    (s.markSet f).setNow k = if k = f.reg then setBits (s.setNow f.reg) f.lo 1 1 else s.setNow k := by
  unfold State.setNow State.markSet
  simp only [if_true, Tab.get_set]
  split
  · rfl
  · split <;> rfl

/-- A sticky bit that is set is set. -/
theorem State.flag_raise_same (s : State) (f : Fld) (h : f.hi = f.lo) (h2 : f.lo < 32) : (s.raise f).flag f = true := by
  unfold State.raise
  rw [State.flag_setFld]
  simp [h, h2]

/-- An event sets its sticky bit. -/
theorem State.flag_raiseEv_same (s : State) (f : Fld) (h : f.hi = f.lo) (h2 : 0 < f.lo) (h3 : f.lo < 32) :
    (s.raiseEv f).flag f = true := by
  unfold State.raiseEv State.raise Fld.live
  rw [State.flag_setFld, State.flag_setFld]
  have : ¬ (f.lo ≤ f.lo - 1) := by omega
  simp [h, h3]
  omega

/-- A held condition that holds shows in its live bit and sets its sticky bit. -/
theorem State.flag_setHeld_sticky (s : State) (f : Fld) (h : f.hi = f.lo) (h2 : 0 < f.lo) (h3 : f.lo < 32) :
    (s.setHeld f true).flag f = true := by
  unfold State.setHeld State.raise Fld.live
  rw [if_pos rfl, State.flag_setFld, State.flag_setFld]
  simp [h, h3]
  omega

theorem State.flag_setHeld_live (s : State) (f : Fld) (b : Bool) (h3 : f.lo < 32) : (s.setHeld f b).flag f.live = b := by
  unfold State.setHeld Fld.live
  cases b
  · rw [if_neg (by decide), State.flag_setFld]
    simp
    omega
  · rw [if_pos rfl, State.flag_setFld]
    simp
    omega

theorem State.word_setHeld_other (s : State) (f : Fld) (b : Bool) {k : Nat} (h : k ≠ f.reg) : (s.setHeld f b).word k = s.word k := by
  unfold State.setHeld
  split
  · exact (State.word_setFld_other _ f.live 1 h).trans (State.word_setFld_other _ f 1 h)
  · refine (State.word_setFld_other _ f.live 0 h).trans ?_
    unfold State.when; split <;> rfl

theorem State.word_raiseEv_other (s : State) (f : Fld) {k : Nat} (h : k ≠ f.reg) : (s.raiseEv f).word k = s.word k := by
  unfold State.raiseEv
  exact (State.word_setFld_other _ f.live 1 h).trans (State.word_setFld_other _ f 1 h)

theorem State.word_raise_other (s : State) (f : Fld) {k : Nat} (h : k ≠ f.reg) : (s.raise f).word k = s.word k :=
  State.word_setFld_other _ _ _ h

theorem State.word_setFlag_other (s : State) (f : Fld) (b : Bool) {k : Nat} (h : k ≠ f.reg) : (s.setFlag f b).word k = s.word k :=
  State.word_setFld_other _ _ _ h

theorem State.word_satAdd_other (s : State) (f : Fld) (n : Nat) {k : Nat} (h : k ≠ f.reg) : (s.satAdd f n).word k = s.word k :=
  State.word_setFld_other _ _ _ h

theorem State.flag_setFlag (s : State) (f g : Fld) (b : Bool) (h : f.hi = f.lo) (h2 : f.lo < 32) :
    (s.setFlag f b).flag g = if g.reg = f.reg ∧ g.lo = f.lo then b else s.flag g := by
  unfold State.setFlag
  rw [State.flag_setFld]
  by_cases e : g.reg = f.reg
  · by_cases e2 : g.lo = f.lo
    · have h3 : g.lo < 32 := by omega
      simp only [e, e2, h, h2]
      cases b <;> simp
    · have : ¬ (f.lo ≤ g.lo ∧ g.lo < f.lo + (f.hi - f.lo + 1) ∧ g.lo < 32) := by omega
      simp [this, e2]
  · simp [e]

/-- A fold that establishes P of each element of a list, and keeps P of every other one, leaves P of all. -/
theorem foldl_establish {α : Type} {f : State → α → State} {P : α → State → Prop} (l : List α)
    (hset : ∀ (s : State) (a : α), a ∈ l → P a (f s a)) (hkeep : ∀ (s : State) (a b : α), a ∈ l → b ∈ l → P a s → P a (f s b))
    (s : State) (a : α) (ha : a ∈ l) : P a (l.foldl f s) := by
  suffices h : ∀ (m : List α) (s : State), (∀ x ∈ m, x ∈ l) → (∀ x ∈ l, x ∈ m ∨ P x s) → ∀ x ∈ l, P x (m.foldl f s) from
    h l s (fun _ h => h) (fun _ h => Or.inl h) a ha
  intro m
  induction m with
  | nil => intro s _ h x hx; exact (h x hx).resolve_left (by simp)
  | cons b m ih =>
    intro s hm h x hx
    rw [List.foldl_cons]
    refine ih (f s b) (fun y hy => hm y (List.mem_cons_of_mem _ hy)) ?_ x hx
    intro y hy
    have hb := hm b List.mem_cons_self
    rcases h y hy with h1 | h1
    · rcases List.mem_cons.mp h1 with h2 | h2
      · exact Or.inr (h2 ▸ hset s b hb)
      · exact Or.inl h2
    · exact Or.inr (hkeep s y b hy hb h1)

end Sys2Proof.Machine
end

