-- ==== Sys2Proof/Laws/Ops.lean ====
section
/-! SUPPORT. What the Logbook's queue and the counters leave alone, field by field. -/

namespace Sys2Proof.Machine

/-- A mask whose only unit is n leaves every other unit's bit off. -/
theorem bitOff_one {m a n k : Nat} (hm : m = a ||| 2 ^ (32 + n)) (ha : a / 2 ^ 32 = 0) (h : unitOf k ≠ n) : bitOff m (32 + unitOf k) = true := by
  subst hm
  have h1 : (a ||| 2 ^ (32 + n)).testBit (32 + unitOf k) = false := by
    rw [Nat.testBit_or, Nat.testBit_two_pow]
    have h2 : a.testBit (32 + unitOf k) = false := by
      apply Nat.testBit_lt_two_pow
      have : a < 2 ^ 32 := by omega
      exact Nat.lt_of_lt_of_le this (Nat.pow_le_pow_right (by decide) (by omega))
    rw [h2]
    simp only [Bool.false_or, decide_eq_false_iff_not]
    omega
  simp only [bitOff, Nat.testBit, Nat.one_and_eq_mod_two, bne_eq_false_iff_eq, beq_iff_eq] at *
  exact h1

@[simp] theorem State.logEvent_pending (s : State) (code sev : Nat) (inst : Word) (p : List Word) : (s.logEvent code sev inst p).pending = s.pending := (State.logEvent_keeps (m := 18014398509482052) rfl (Keeps.refl _ s)).pending
@[simp] theorem State.logEvent_freeCtr (s : State) (code sev : Nat) (inst : Word) (p : List Word) : (s.logEvent code sev inst p).freeCtr = s.freeCtr := (State.logEvent_keeps (m := 18014398509482052) rfl (Keeps.refl _ s)).freeCtr rfl
@[simp] theorem State.logEvent_dial (s : State) (code sev : Nat) (inst : Word) (p : List Word) : (s.logEvent code sev inst p).dial = s.dial := (State.logEvent_keeps (m := 18014398509482052) rfl (Keeps.refl _ s)).dial rfl
@[simp] theorem State.logEvent_lastRead (s : State) (code sev : Nat) (inst : Word) (p : List Word) : (s.logEvent code sev inst p).lastRead = s.lastRead := (State.logEvent_keeps (m := 18014398509482052) rfl (Keeps.refl _ s)).lastRead rfl
@[simp] theorem State.logEvent_ep (s : State) (code sev : Nat) (inst : Word) (p : List Word) : (s.logEvent code sev inst p).ep = s.ep := (State.logEvent_keeps (m := 18014398509482052) rfl (Keeps.refl _ s)).ep rfl
@[simp] theorem State.logEvent_time (s : State) (code sev : Nat) (inst : Word) (p : List Word) : (s.logEvent code sev inst p).time = s.time := (State.logEvent_keeps (m := 18014398509482052) rfl (Keeps.refl _ s)).time rfl
@[simp] theorem State.logEvent_host (s : State) (code sev : Nat) (inst : Word) (p : List Word) : (s.logEvent code sev inst p).host = s.host := (State.logEvent_keeps (m := 18014398509482052) rfl (Keeps.refl _ s)).host rfl
@[simp] theorem State.logEvent_trv (s : State) (code sev : Nat) (inst : Word) (p : List Word) : (s.logEvent code sev inst p).trv = s.trv := (State.logEvent_keeps (m := 18014398509482052) rfl (Keeps.refl _ s)).trv rfl
@[simp] theorem State.logEvent_acq (s : State) (code sev : Nat) (inst : Word) (p : List Word) : (s.logEvent code sev inst p).acq = s.acq := (State.logEvent_keeps (m := 18014398509482052) rfl (Keeps.refl _ s)).acq rfl
@[simp] theorem State.logEvent_bal (s : State) (code sev : Nat) (inst : Word) (p : List Word) : (s.logEvent code sev inst p).bal = s.bal := (State.logEvent_keeps (m := 18014398509482052) rfl (Keeps.refl _ s)).bal rfl
@[simp] theorem State.logEvent_upd (s : State) (code sev : Nat) (inst : Word) (p : List Word) : (s.logEvent code sev inst p).upd = s.upd := (State.logEvent_keeps (m := 18014398509482052) rfl (Keeps.refl _ s)).upd rfl
@[simp] theorem State.logEvent_wear (s : State) (code sev : Nat) (inst : Word) (p : List Word) : (s.logEvent code sev inst p).wear = s.wear := (State.logEvent_keeps (m := 18014398509482052) rfl (Keeps.refl _ s)).wear rfl
@[simp] theorem State.logEvent_clk (s : State) (code sev : Nat) (inst : Word) (p : List Word) : (s.logEvent code sev inst p).clk = s.clk := (State.logEvent_keeps (m := 18014398509482052) rfl (Keeps.refl _ s)).clk rfl
@[simp] theorem State.logEvent_hlm (s : State) (code sev : Nat) (inst : Word) (p : List Word) : (s.logEvent code sev inst p).hlm = s.hlm := (State.logEvent_keeps (m := 18014398509482052) rfl (Keeps.refl _ s)).hlm rfl
@[simp] theorem State.logEvent_lds (s : State) (code sev : Nat) (inst : Word) (p : List Word) : (s.logEvent code sev inst p).lds = s.lds := (State.logEvent_keeps (m := 18014398509482052) rfl (Keeps.refl _ s)).lds rfl
@[simp] theorem State.logEvent_can (s : State) (code sev : Nat) (inst : Word) (p : List Word) : (s.logEvent code sev inst p).can = s.can := (State.logEvent_keeps (m := 18014398509482052) rfl (Keeps.refl _ s)).can rfl
@[simp] theorem State.logEvent_sxt (s : State) (code sev : Nat) (inst : Word) (p : List Word) : (s.logEvent code sev inst p).sxt = s.sxt := (State.logEvent_keeps (m := 18014398509482052) rfl (Keeps.refl _ s)).sxt rfl
@[simp] theorem State.logEvent_azm (s : State) (code sev : Nat) (inst : Word) (p : List Word) : (s.logEvent code sev inst p).azm = s.azm := (State.logEvent_keeps (m := 18014398509482052) rfl (Keeps.refl _ s)).azm rfl
@[simp] theorem State.logEvent_alm (s : State) (code sev : Nat) (inst : Word) (p : List Word) : (s.logEvent code sev inst p).alm = s.alm := (State.logEvent_keeps (m := 18014398509482052) rfl (Keeps.refl _ s)).alm rfl
@[simp] theorem State.logEvent_pmc (s : State) (code sev : Nat) (inst : Word) (p : List Word) : (s.logEvent code sev inst p).pmc = s.pmc := (State.logEvent_keeps (m := 18014398509482052) rfl (Keeps.refl _ s)).pmc rfl
@[simp] theorem State.logEvent_dsp (s : State) (code sev : Nat) (inst : Word) (p : List Word) : (s.logEvent code sev inst p).dsp = s.dsp := (State.logEvent_keeps (m := 18014398509482052) rfl (Keeps.refl _ s)).dsp rfl
@[simp] theorem State.logEvent_pwr (s : State) (code sev : Nat) (inst : Word) (p : List Word) : (s.logEvent code sev inst p).pwr = s.pwr := (State.logEvent_keeps (m := 18014398509482052) rfl (Keeps.refl _ s)).pwr rfl
@[simp] theorem State.logEvent_bin (s : State) (code sev : Nat) (inst : Word) (p : List Word) : (s.logEvent code sev inst p).bin = s.bin := (State.logEvent_keeps (m := 18014398509482052) rfl (Keeps.refl _ s)).bin rfl
@[simp] theorem State.logEvent_rdn (s : State) (code sev : Nat) (inst : Word) (p : List Word) : (s.logEvent code sev inst p).rdn = s.rdn := (State.logEvent_keeps (m := 18014398509482052) rfl (Keeps.refl _ s)).rdn rfl
@[simp] theorem State.logEvent_pilot (s : State) (code sev : Nat) (inst : Word) (p : List Word) : (s.logEvent code sev inst p).pilot = s.pilot := (State.logEvent_keeps (m := 18014398509482052) rfl (Keeps.refl _ s)).pilot rfl
theorem State.word_logEvent (s : State) (code sev : Nat) (inst : Word) (p : List Word) (k : Nat) (h : unitOf k ≠ 22) : (s.logEvent code sev inst p).word k = s.word k :=
  (State.logEvent_keeps (m := 18014398509482052) rfl (Keeps.refl _ s)).word rfl k (bitOff_one (a := 68) (n := 22) rfl rfl h)
theorem State.fld_logEvent (s : State) (code sev : Nat) (inst : Word) (p : List Word) (g : Fld) (h : unitOf g.reg ≠ 22) : (s.logEvent code sev inst p).fld g = s.fld g := by
  unfold State.fld; rw [State.word_logEvent s code sev inst p _ h]
theorem State.flag_logEvent (s : State) (code sev : Nat) (inst : Word) (p : List Word) (g : Fld) (h : unitOf g.reg ≠ 22) : (s.logEvent code sev inst p).flag g = s.flag g := by
  unfold State.flag; rw [State.word_logEvent s code sev inst p _ h]

@[simp] theorem State.pmcEvent_pending (s : State) (a b c : Nat) : (s.pmcEvent a b c).pending = s.pending := (State.pmcEvent_keeps (m := 72057594038976516) rfl (Keeps.refl _ s)).pending
@[simp] theorem State.pmcEvent_freeCtr (s : State) (a b c : Nat) : (s.pmcEvent a b c).freeCtr = s.freeCtr := (State.pmcEvent_keeps (m := 72057594038976516) rfl (Keeps.refl _ s)).freeCtr rfl
@[simp] theorem State.pmcEvent_dial (s : State) (a b c : Nat) : (s.pmcEvent a b c).dial = s.dial := (State.pmcEvent_keeps (m := 72057594038976516) rfl (Keeps.refl _ s)).dial rfl
@[simp] theorem State.pmcEvent_lastRead (s : State) (a b c : Nat) : (s.pmcEvent a b c).lastRead = s.lastRead := (State.pmcEvent_keeps (m := 72057594038976516) rfl (Keeps.refl _ s)).lastRead rfl
@[simp] theorem State.pmcEvent_ep (s : State) (a b c : Nat) : (s.pmcEvent a b c).ep = s.ep := (State.pmcEvent_keeps (m := 72057594038976516) rfl (Keeps.refl _ s)).ep rfl
@[simp] theorem State.pmcEvent_time (s : State) (a b c : Nat) : (s.pmcEvent a b c).time = s.time := (State.pmcEvent_keeps (m := 72057594038976516) rfl (Keeps.refl _ s)).time rfl
@[simp] theorem State.pmcEvent_log (s : State) (a b c : Nat) : (s.pmcEvent a b c).log = s.log := (State.pmcEvent_keeps (m := 72057594038976516) rfl (Keeps.refl _ s)).log rfl
@[simp] theorem State.pmcEvent_host (s : State) (a b c : Nat) : (s.pmcEvent a b c).host = s.host := (State.pmcEvent_keeps (m := 72057594038976516) rfl (Keeps.refl _ s)).host rfl
@[simp] theorem State.pmcEvent_trv (s : State) (a b c : Nat) : (s.pmcEvent a b c).trv = s.trv := (State.pmcEvent_keeps (m := 72057594038976516) rfl (Keeps.refl _ s)).trv rfl
@[simp] theorem State.pmcEvent_acq (s : State) (a b c : Nat) : (s.pmcEvent a b c).acq = s.acq := (State.pmcEvent_keeps (m := 72057594038976516) rfl (Keeps.refl _ s)).acq rfl
@[simp] theorem State.pmcEvent_bal (s : State) (a b c : Nat) : (s.pmcEvent a b c).bal = s.bal := (State.pmcEvent_keeps (m := 72057594038976516) rfl (Keeps.refl _ s)).bal rfl
@[simp] theorem State.pmcEvent_upd (s : State) (a b c : Nat) : (s.pmcEvent a b c).upd = s.upd := (State.pmcEvent_keeps (m := 72057594038976516) rfl (Keeps.refl _ s)).upd rfl
@[simp] theorem State.pmcEvent_wear (s : State) (a b c : Nat) : (s.pmcEvent a b c).wear = s.wear := (State.pmcEvent_keeps (m := 72057594038976516) rfl (Keeps.refl _ s)).wear rfl
@[simp] theorem State.pmcEvent_clk (s : State) (a b c : Nat) : (s.pmcEvent a b c).clk = s.clk := (State.pmcEvent_keeps (m := 72057594038976516) rfl (Keeps.refl _ s)).clk rfl
@[simp] theorem State.pmcEvent_hlm (s : State) (a b c : Nat) : (s.pmcEvent a b c).hlm = s.hlm := (State.pmcEvent_keeps (m := 72057594038976516) rfl (Keeps.refl _ s)).hlm rfl
@[simp] theorem State.pmcEvent_lds (s : State) (a b c : Nat) : (s.pmcEvent a b c).lds = s.lds := (State.pmcEvent_keeps (m := 72057594038976516) rfl (Keeps.refl _ s)).lds rfl
@[simp] theorem State.pmcEvent_can (s : State) (a b c : Nat) : (s.pmcEvent a b c).can = s.can := (State.pmcEvent_keeps (m := 72057594038976516) rfl (Keeps.refl _ s)).can rfl
@[simp] theorem State.pmcEvent_sxt (s : State) (a b c : Nat) : (s.pmcEvent a b c).sxt = s.sxt := (State.pmcEvent_keeps (m := 72057594038976516) rfl (Keeps.refl _ s)).sxt rfl
@[simp] theorem State.pmcEvent_azm (s : State) (a b c : Nat) : (s.pmcEvent a b c).azm = s.azm := (State.pmcEvent_keeps (m := 72057594038976516) rfl (Keeps.refl _ s)).azm rfl
@[simp] theorem State.pmcEvent_alm (s : State) (a b c : Nat) : (s.pmcEvent a b c).alm = s.alm := (State.pmcEvent_keeps (m := 72057594038976516) rfl (Keeps.refl _ s)).alm rfl
@[simp] theorem State.pmcEvent_dsp (s : State) (a b c : Nat) : (s.pmcEvent a b c).dsp = s.dsp := (State.pmcEvent_keeps (m := 72057594038976516) rfl (Keeps.refl _ s)).dsp rfl
@[simp] theorem State.pmcEvent_pwr (s : State) (a b c : Nat) : (s.pmcEvent a b c).pwr = s.pwr := (State.pmcEvent_keeps (m := 72057594038976516) rfl (Keeps.refl _ s)).pwr rfl
@[simp] theorem State.pmcEvent_bin (s : State) (a b c : Nat) : (s.pmcEvent a b c).bin = s.bin := (State.pmcEvent_keeps (m := 72057594038976516) rfl (Keeps.refl _ s)).bin rfl
@[simp] theorem State.pmcEvent_rdn (s : State) (a b c : Nat) : (s.pmcEvent a b c).rdn = s.rdn := (State.pmcEvent_keeps (m := 72057594038976516) rfl (Keeps.refl _ s)).rdn rfl
@[simp] theorem State.pmcEvent_pilot (s : State) (a b c : Nat) : (s.pmcEvent a b c).pilot = s.pilot := (State.pmcEvent_keeps (m := 72057594038976516) rfl (Keeps.refl _ s)).pilot rfl
theorem State.word_pmcEvent (s : State) (a b c : Nat) (k : Nat) (h : unitOf k ≠ 24) : (s.pmcEvent a b c).word k = s.word k :=
  (State.pmcEvent_keeps (m := 72057594038976516) rfl (Keeps.refl _ s)).word rfl k (bitOff_one (a := 1048580) (n := 24) rfl rfl h)
theorem State.fld_pmcEvent (s : State) (a b c : Nat) (g : Fld) (h : unitOf g.reg ≠ 24) : (s.pmcEvent a b c).fld g = s.fld g := by
  unfold State.fld; rw [State.word_pmcEvent s a b c _ h]
theorem State.flag_pmcEvent (s : State) (a b c : Nat) (g : Fld) (h : unitOf g.reg ≠ 24) : (s.pmcEvent a b c).flag g = s.flag g := by
  unfold State.flag; rw [State.word_pmcEvent s a b c _ h]

@[simp] theorem State.pmcRetired_pending (s : State) (a : Nat) : (s.pmcRetired a).pending = s.pending := (State.pmcRetired_keeps (m := 1048576) rfl (Keeps.refl _ s)).pending
@[simp] theorem State.pmcRetired_freeCtr (s : State) (a : Nat) : (s.pmcRetired a).freeCtr = s.freeCtr := (State.pmcRetired_keeps (m := 1048576) rfl (Keeps.refl _ s)).freeCtr rfl
@[simp] theorem State.pmcRetired_dial (s : State) (a : Nat) : (s.pmcRetired a).dial = s.dial := (State.pmcRetired_keeps (m := 1048576) rfl (Keeps.refl _ s)).dial rfl
@[simp] theorem State.pmcRetired_regs (s : State) (a : Nat) : (s.pmcRetired a).regs = s.regs := (State.pmcRetired_keeps (m := 1048576) rfl (Keeps.refl _ s)).regs rfl
@[simp] theorem State.pmcRetired_lastRead (s : State) (a : Nat) : (s.pmcRetired a).lastRead = s.lastRead := (State.pmcRetired_keeps (m := 1048576) rfl (Keeps.refl _ s)).lastRead rfl
@[simp] theorem State.pmcRetired_ep (s : State) (a : Nat) : (s.pmcRetired a).ep = s.ep := (State.pmcRetired_keeps (m := 1048576) rfl (Keeps.refl _ s)).ep rfl
@[simp] theorem State.pmcRetired_time (s : State) (a : Nat) : (s.pmcRetired a).time = s.time := (State.pmcRetired_keeps (m := 1048576) rfl (Keeps.refl _ s)).time rfl
@[simp] theorem State.pmcRetired_log (s : State) (a : Nat) : (s.pmcRetired a).log = s.log := (State.pmcRetired_keeps (m := 1048576) rfl (Keeps.refl _ s)).log rfl
@[simp] theorem State.pmcRetired_host (s : State) (a : Nat) : (s.pmcRetired a).host = s.host := (State.pmcRetired_keeps (m := 1048576) rfl (Keeps.refl _ s)).host rfl
@[simp] theorem State.pmcRetired_trv (s : State) (a : Nat) : (s.pmcRetired a).trv = s.trv := (State.pmcRetired_keeps (m := 1048576) rfl (Keeps.refl _ s)).trv rfl
@[simp] theorem State.pmcRetired_acq (s : State) (a : Nat) : (s.pmcRetired a).acq = s.acq := (State.pmcRetired_keeps (m := 1048576) rfl (Keeps.refl _ s)).acq rfl
@[simp] theorem State.pmcRetired_bal (s : State) (a : Nat) : (s.pmcRetired a).bal = s.bal := (State.pmcRetired_keeps (m := 1048576) rfl (Keeps.refl _ s)).bal rfl
@[simp] theorem State.pmcRetired_upd (s : State) (a : Nat) : (s.pmcRetired a).upd = s.upd := (State.pmcRetired_keeps (m := 1048576) rfl (Keeps.refl _ s)).upd rfl
@[simp] theorem State.pmcRetired_wear (s : State) (a : Nat) : (s.pmcRetired a).wear = s.wear := (State.pmcRetired_keeps (m := 1048576) rfl (Keeps.refl _ s)).wear rfl
@[simp] theorem State.pmcRetired_clk (s : State) (a : Nat) : (s.pmcRetired a).clk = s.clk := (State.pmcRetired_keeps (m := 1048576) rfl (Keeps.refl _ s)).clk rfl
@[simp] theorem State.pmcRetired_hlm (s : State) (a : Nat) : (s.pmcRetired a).hlm = s.hlm := (State.pmcRetired_keeps (m := 1048576) rfl (Keeps.refl _ s)).hlm rfl
@[simp] theorem State.pmcRetired_lds (s : State) (a : Nat) : (s.pmcRetired a).lds = s.lds := (State.pmcRetired_keeps (m := 1048576) rfl (Keeps.refl _ s)).lds rfl
@[simp] theorem State.pmcRetired_can (s : State) (a : Nat) : (s.pmcRetired a).can = s.can := (State.pmcRetired_keeps (m := 1048576) rfl (Keeps.refl _ s)).can rfl
@[simp] theorem State.pmcRetired_sxt (s : State) (a : Nat) : (s.pmcRetired a).sxt = s.sxt := (State.pmcRetired_keeps (m := 1048576) rfl (Keeps.refl _ s)).sxt rfl
@[simp] theorem State.pmcRetired_azm (s : State) (a : Nat) : (s.pmcRetired a).azm = s.azm := (State.pmcRetired_keeps (m := 1048576) rfl (Keeps.refl _ s)).azm rfl
@[simp] theorem State.pmcRetired_alm (s : State) (a : Nat) : (s.pmcRetired a).alm = s.alm := (State.pmcRetired_keeps (m := 1048576) rfl (Keeps.refl _ s)).alm rfl
@[simp] theorem State.pmcRetired_dsp (s : State) (a : Nat) : (s.pmcRetired a).dsp = s.dsp := (State.pmcRetired_keeps (m := 1048576) rfl (Keeps.refl _ s)).dsp rfl
@[simp] theorem State.pmcRetired_pwr (s : State) (a : Nat) : (s.pmcRetired a).pwr = s.pwr := (State.pmcRetired_keeps (m := 1048576) rfl (Keeps.refl _ s)).pwr rfl
@[simp] theorem State.pmcRetired_bin (s : State) (a : Nat) : (s.pmcRetired a).bin = s.bin := (State.pmcRetired_keeps (m := 1048576) rfl (Keeps.refl _ s)).bin rfl
@[simp] theorem State.pmcRetired_rdn (s : State) (a : Nat) : (s.pmcRetired a).rdn = s.rdn := (State.pmcRetired_keeps (m := 1048576) rfl (Keeps.refl _ s)).rdn rfl
@[simp] theorem State.pmcRetired_pilot (s : State) (a : Nat) : (s.pmcRetired a).pilot = s.pilot := (State.pmcRetired_keeps (m := 1048576) rfl (Keeps.refl _ s)).pilot rfl
@[simp] theorem State.word_pmcRetired (s : State) (a : Nat) (k : Nat) : (s.pmcRetired a).word k = s.word k := by unfold State.word; rw [State.pmcRetired_regs]
@[simp] theorem State.fld_pmcRetired (s : State) (a : Nat) (g : Fld) : (s.pmcRetired a).fld g = s.fld g := by unfold State.fld; simp [State.word]
@[simp] theorem State.flag_pmcRetired (s : State) (a : Nat) (g : Fld) : (s.pmcRetired a).flag g = s.flag g := by unfold State.flag; simp [State.word]

@[simp] theorem State.pmcWasted_pending (s : State) (a : Nat) : (s.pmcWasted a).pending = s.pending := (State.pmcWasted_keeps (m := 1048576) rfl (Keeps.refl _ s)).pending
@[simp] theorem State.pmcWasted_freeCtr (s : State) (a : Nat) : (s.pmcWasted a).freeCtr = s.freeCtr := (State.pmcWasted_keeps (m := 1048576) rfl (Keeps.refl _ s)).freeCtr rfl
@[simp] theorem State.pmcWasted_dial (s : State) (a : Nat) : (s.pmcWasted a).dial = s.dial := (State.pmcWasted_keeps (m := 1048576) rfl (Keeps.refl _ s)).dial rfl
@[simp] theorem State.pmcWasted_regs (s : State) (a : Nat) : (s.pmcWasted a).regs = s.regs := (State.pmcWasted_keeps (m := 1048576) rfl (Keeps.refl _ s)).regs rfl
@[simp] theorem State.pmcWasted_lastRead (s : State) (a : Nat) : (s.pmcWasted a).lastRead = s.lastRead := (State.pmcWasted_keeps (m := 1048576) rfl (Keeps.refl _ s)).lastRead rfl
@[simp] theorem State.pmcWasted_ep (s : State) (a : Nat) : (s.pmcWasted a).ep = s.ep := (State.pmcWasted_keeps (m := 1048576) rfl (Keeps.refl _ s)).ep rfl
@[simp] theorem State.pmcWasted_time (s : State) (a : Nat) : (s.pmcWasted a).time = s.time := (State.pmcWasted_keeps (m := 1048576) rfl (Keeps.refl _ s)).time rfl
@[simp] theorem State.pmcWasted_log (s : State) (a : Nat) : (s.pmcWasted a).log = s.log := (State.pmcWasted_keeps (m := 1048576) rfl (Keeps.refl _ s)).log rfl
@[simp] theorem State.pmcWasted_host (s : State) (a : Nat) : (s.pmcWasted a).host = s.host := (State.pmcWasted_keeps (m := 1048576) rfl (Keeps.refl _ s)).host rfl
@[simp] theorem State.pmcWasted_trv (s : State) (a : Nat) : (s.pmcWasted a).trv = s.trv := (State.pmcWasted_keeps (m := 1048576) rfl (Keeps.refl _ s)).trv rfl
@[simp] theorem State.pmcWasted_acq (s : State) (a : Nat) : (s.pmcWasted a).acq = s.acq := (State.pmcWasted_keeps (m := 1048576) rfl (Keeps.refl _ s)).acq rfl
@[simp] theorem State.pmcWasted_bal (s : State) (a : Nat) : (s.pmcWasted a).bal = s.bal := (State.pmcWasted_keeps (m := 1048576) rfl (Keeps.refl _ s)).bal rfl
@[simp] theorem State.pmcWasted_upd (s : State) (a : Nat) : (s.pmcWasted a).upd = s.upd := (State.pmcWasted_keeps (m := 1048576) rfl (Keeps.refl _ s)).upd rfl
@[simp] theorem State.pmcWasted_wear (s : State) (a : Nat) : (s.pmcWasted a).wear = s.wear := (State.pmcWasted_keeps (m := 1048576) rfl (Keeps.refl _ s)).wear rfl
@[simp] theorem State.pmcWasted_clk (s : State) (a : Nat) : (s.pmcWasted a).clk = s.clk := (State.pmcWasted_keeps (m := 1048576) rfl (Keeps.refl _ s)).clk rfl
@[simp] theorem State.pmcWasted_hlm (s : State) (a : Nat) : (s.pmcWasted a).hlm = s.hlm := (State.pmcWasted_keeps (m := 1048576) rfl (Keeps.refl _ s)).hlm rfl
@[simp] theorem State.pmcWasted_lds (s : State) (a : Nat) : (s.pmcWasted a).lds = s.lds := (State.pmcWasted_keeps (m := 1048576) rfl (Keeps.refl _ s)).lds rfl
@[simp] theorem State.pmcWasted_can (s : State) (a : Nat) : (s.pmcWasted a).can = s.can := (State.pmcWasted_keeps (m := 1048576) rfl (Keeps.refl _ s)).can rfl
@[simp] theorem State.pmcWasted_sxt (s : State) (a : Nat) : (s.pmcWasted a).sxt = s.sxt := (State.pmcWasted_keeps (m := 1048576) rfl (Keeps.refl _ s)).sxt rfl
@[simp] theorem State.pmcWasted_azm (s : State) (a : Nat) : (s.pmcWasted a).azm = s.azm := (State.pmcWasted_keeps (m := 1048576) rfl (Keeps.refl _ s)).azm rfl
@[simp] theorem State.pmcWasted_alm (s : State) (a : Nat) : (s.pmcWasted a).alm = s.alm := (State.pmcWasted_keeps (m := 1048576) rfl (Keeps.refl _ s)).alm rfl
@[simp] theorem State.pmcWasted_dsp (s : State) (a : Nat) : (s.pmcWasted a).dsp = s.dsp := (State.pmcWasted_keeps (m := 1048576) rfl (Keeps.refl _ s)).dsp rfl
@[simp] theorem State.pmcWasted_pwr (s : State) (a : Nat) : (s.pmcWasted a).pwr = s.pwr := (State.pmcWasted_keeps (m := 1048576) rfl (Keeps.refl _ s)).pwr rfl
@[simp] theorem State.pmcWasted_bin (s : State) (a : Nat) : (s.pmcWasted a).bin = s.bin := (State.pmcWasted_keeps (m := 1048576) rfl (Keeps.refl _ s)).bin rfl
@[simp] theorem State.pmcWasted_rdn (s : State) (a : Nat) : (s.pmcWasted a).rdn = s.rdn := (State.pmcWasted_keeps (m := 1048576) rfl (Keeps.refl _ s)).rdn rfl
@[simp] theorem State.pmcWasted_pilot (s : State) (a : Nat) : (s.pmcWasted a).pilot = s.pilot := (State.pmcWasted_keeps (m := 1048576) rfl (Keeps.refl _ s)).pilot rfl
@[simp] theorem State.word_pmcWasted (s : State) (a : Nat) (k : Nat) : (s.pmcWasted a).word k = s.word k := by unfold State.word; rw [State.pmcWasted_regs]
@[simp] theorem State.fld_pmcWasted (s : State) (a : Nat) (g : Fld) : (s.pmcWasted a).fld g = s.fld g := by unfold State.fld; simp [State.word]
@[simp] theorem State.flag_pmcWasted (s : State) (a : Nat) (g : Fld) : (s.pmcWasted a).flag g = s.flag g := by unfold State.flag; simp [State.word]

end Sys2Proof.Machine
end

