-- ==== Sys2Proof/Laws/Almanac.lean ====
section
/-! SUPPORT. Laws of Almanac's watches: a watch that is written reads back, and an instruction that issues runs and retires. -/

namespace Sys2Proof.Machine

@[simp] theorem State.watch_setWatch_same (s : State) (w : Nat) (x : Watch) : (s.setWatch w x).watch w = x := by
  unfold State.watch State.setWatch; exact Tab.get_set_same ..

theorem State.watch_setWatch_other (s : State) (w k : Nat) (x : Watch) (h : k ≠ w) : (s.setWatch w x).watch k = s.watch k := by
  unfold State.watch State.setWatch; exact Tab.get_set_other _ _ _ h

@[simp] theorem State.watch_updWatch_same (s : State) (w : Nat) (f : Watch → Watch) : (s.updWatch w f).watch w = f (s.watch w) := by
  unfold State.updWatch; simp

theorem State.watch_updWatch_other (s : State) (w k : Nat) (f : Watch → Watch) (h : k ≠ w) : (s.updWatch w f).watch k = s.watch k := by
  unfold State.updWatch; exact State.watch_setWatch_other s w k _ h

/-- What only Almanac's part decides is the same where that part is the same. -/
theorem State.watch_of_alm {s u : State} (h : u.alm = s.alm) (k : Nat) : u.watch k = s.watch k := by unfold State.watch; rw [h]

@[simp] theorem State.watch_at (s : State) (t k : Nat) : (s.at t).watch k = s.watch k := State.watch_of_alm (by simp) k
@[simp] theorem State.greg_at (s : State) (t w k : Nat) : (s.at t).greg w k = s.greg w k := by unfold State.greg; rw [State.watch_at]
@[simp] theorem State.fetched_at (s : State) (t w : Nat) : (s.at t).fetched w = s.fetched w := by unfold State.fetched; simp
@[simp] theorem State.activeRole_at (s : State) (t : Nat) : (s.at t).activeRole = s.activeRole := by
  unfold State.activeRole; simp
/-- A watch that issues is READY. -/
theorem State.issues_ready {s : State} {w : Nat} (h : s.issues w = true) : (s.watch w).st = .ready := by
  unfold State.issues at h
  simp only [State.ready, Bool.and_eq_true, beq_iff_eq] at h
  exact h.1.1.1.2.1

/-- A watch that no KILL of this cycle names is as it is. -/
theorem State.revive_of {s : State} {w : Nat} (h : (s.revive w).1 = false) : s.revive w = (false, s) := by
  unfold State.revive at *
  split at h
  · cases h
  · rfl

/-- The order of issue is no part of a watch or of the memories. -/
theorem State.watch_issueMark (s : State) (w k : Nat) : (s.issueMark w).watch k = s.watch k := rfl
theorem State.issueMark_pmem (s : State) (w : Nat) : (s.issueMark w).alm.pmem = s.alm.pmem := rfl
theorem State.issueMark_dmem (s : State) (w : Nat) : (s.issueMark w).alm.dmem = s.alm.dmem := rfl
@[simp] theorem State.issueMark_word (s : State) (w k : Nat) : (s.issueMark w).word k = s.word k := rfl
@[simp] theorem State.issueMark_dial (s : State) (w : Nat) : (s.issueMark w).dial = s.dial := rfl
theorem State.issueMark_touches (s : State) (w : Nat) : Touches [.alm] s (s.issueMark w) :=
  ⟨rfl, fun p hp => by cases p <;> first | rfl | exact absurd (by decide) hp⟩

/-- An instruction that issues runs; unless it faults, it retires. -/
theorem State.issue_of {i : Instr} {s : State} {w : Nat} {f : State → State} (h : Issues i w s) :
    s.issue w (almEncode i) f = if ((f (s.issueMark w)).watch w).st == WatchState.faulted then f (s.issueMark w)
      else (f (s.issueMark w)).pmcRetired 0 := by
  unfold State.issue
  rw [State.revive_of h.1]
  simp [h.2.1, h.2.2, State.when]

/-- What holds after the instruction's own effect, whatever the counters then do, holds of the command. -/
theorem completes_of_issue {i : Instr} {w t : Nat} {s : State} {f : State → State} {P : State → Prop}
    (he : exec i s = .next ((s.at t).issue w (almEncode i) f)) (h : Issues i w (s.at t)) (hp : P (f ((s.at t).issueMark w)))
    (hpm : ((f ((s.at t).issueMark w)).watch w).st ≠ .faulted → P ((f ((s.at t).issueMark w)).pmcRetired 0)) : Completes i s P := by
  refine ⟨_, he, ?_⟩
  rw [State.issue_of h]
  split
  · exact hp
  · rename_i hn
    refine hpm ?_
    intro e
    rw [e] at hn
    exact hn rfl

/-- Retires speaks of Almanac's part alone. -/
theorem Retires.congr {w : Nat} {f : Watch → Watch} {s u v : State} (h : Retires w f s u) (e : v.alm = u.alm) : Retires w f s v :=
  ⟨(State.watch_of_alm e w).trans h.1, fun k hk => (State.watch_of_alm e k).trans (h.2.1 k hk), by rw [e]; exact h.2.2.1, by rw [e]; exact h.2.2.2⟩

/-- A change of one watch on a state whose watches and memories are those of s retires it. -/
theorem Retires.updWatch_of {w : Nat} {f : Watch → Watch} {s r : State} (hw : ∀ k : Nat, r.watch k = s.watch k)
    (hp : r.alm.pmem = s.alm.pmem) (hd : r.alm.dmem = s.alm.dmem) : Retires w f s (r.updWatch w f) :=
  ⟨by rw [State.watch_updWatch_same, hw], fun k hk => (State.watch_updWatch_other _ _ _ _ hk).trans (hw k), hp, hd⟩

/-- The state an instruction of watch w acts on holds the watches and memories of the one before. -/
theorem watch_issued (s : State) (t w k : Nat) : ((s.at t).issueMark w).watch k = s.watch k := by
  rw [State.watch_issueMark, State.watch_at]
theorem pmem_issued (s : State) (t w : Nat) : ((s.at t).issueMark w).alm.pmem = s.alm.pmem := by
  rw [State.issueMark_pmem, State.at_alm]
theorem dmem_issued (s : State) (t w : Nat) : ((s.at t).issueMark w).alm.dmem = s.alm.dmem := by
  rw [State.issueMark_dmem, State.at_alm]

/-- A change of one watch retires it. -/
theorem Retires.updWatch {w t : Nat} {f : Watch → Watch} {s : State} : Retires w f s (((s.at t).issueMark w).updWatch w f) :=
  Retires.updWatch_of (watch_issued s t w) (pmem_issued s t w) (dmem_issued s t w)

/-- An instruction whose whole effect is on its watch retires with it. -/
theorem completes_updWatch {i : Instr} {w t : Nat} {s : State} {g : State → State} {f : Watch → Watch}
    (he : exec i s = .next ((s.at t).issue w (almEncode i) g)) (h : Issues i w (s.at t))
    (hg : g ((s.at t).issueMark w) = ((s.at t).issueMark w).updWatch w f) : Completes i s (Retires w f s) := by
  refine completes_of_issue he h ?_ ?_
  · rw [hg]; exact Retires.updWatch
  · intro _; rw [hg]; exact Retires.updWatch.congr (State.pmcRetired_alm _ 0)

@[simp] theorem State.updWatch_word (s : State) (w : Nat) (f : Watch → Watch) (k : Nat) : (s.updWatch w f).word k = s.word k := by
  unfold State.word; unfold State.updWatch State.setWatch; simp
@[simp] theorem State.updWatch_fld (s : State) (w : Nat) (f : Watch → Watch) (g : Fld) : (s.updWatch w f).fld g = s.fld g := by
  unfold State.fld; simp
@[simp] theorem State.updWatch_flag (s : State) (w : Nat) (f : Watch → Watch) (g : Fld) : (s.updWatch w f).flag g = s.flag g := by
  unfold State.flag; simp
@[simp] theorem State.setWatch_word (s : State) (w : Nat) (x : Watch) (k : Nat) : (s.setWatch w x).word k = s.word k := by
  unfold State.word; unfold State.setWatch; simp

/-- The words a flag and a multi-bit field show do not change through a watch. -/
@[simp] theorem State.setWatch_flag (s : State) (w : Nat) (x : Watch) (g : Fld) : (s.setWatch w x).flag g = s.flag g := by
  unfold State.flag; simp

@[simp] theorem State.updWatch_pmem (s : State) (w : Nat) (f : Watch → Watch) : (s.updWatch w f).alm.pmem = s.alm.pmem := rfl
@[simp] theorem State.updWatch_dmem (s : State) (w : Nat) (f : Watch → Watch) : (s.updWatch w f).alm.dmem = s.alm.dmem := rfl

theorem Retires.mk_updWatch {w : Nat} {f : Watch → Watch} (s : State) : Retires w f s (s.updWatch w f) :=
  ⟨by simp, fun _ hk => State.watch_updWatch_other _ _ _ _ hk, rfl, rfl⟩

theorem Retires.of_alm {w : Nat} {f : Watch → Watch} {s r u : State} (h : Retires w f r u) (e : r.alm = s.alm) : Retires w f s u :=
  ⟨h.1.trans (congrArg f (State.watch_of_alm e w)), fun k hk => (h.2.1 k hk).trans (State.watch_of_alm e k), h.2.2.1.trans (by rw [e]),
    h.2.2.2.trans (by rw [e])⟩

/-- One change of a watch after another. -/
theorem Retires.trans {w : Nat} {f g : Watch → Watch} {s r u : State} (h : Retires w f s r) (k : Retires w g r u) :
    Retires w (fun x => g (f x)) s u :=
  ⟨k.1.trans (congrArg g h.1), fun j hj => (k.2.1 j hj).trans (h.2.1 j hj), k.2.2.1.trans h.2.2.1, k.2.2.2.trans h.2.2.2⟩

/-- A cancel empties the watch's slots. -/
theorem Retires.almCancel (s : State) (w : Nat) : Retires w (fun x => { x with slots := [] }) s (s.almCancel w) := by
  unfold State.almCancel
  exact (Retires.mk_updWatch s).congr (by simp)

/-- A fault, once (R176). -/
theorem faultsAt_almFault (s : State) (w code : Nat) (hw : w < 64) (hc : code < 8) : FaultsAt w code s (s.almFault w code) := by
  refine ⟨?_, ?_, ?_, ?_, ?_⟩
  · unfold State.almFault
    refine Retires.congr (u := (s.almCancel w).updWatch w fun x => { x with st := .faulted, wait := none, fcode := code }) ?_ ?_
    · exact (Retires.almCancel s w).trans (Retires.mk_updWatch _)
    · simp
  · unfold State.almFault
    rw [State.fld_pmcWasted, State.fld_logEvent _ _ _ _ _ _ (by decide)]
    simp (disch := decide) only [State.raiseEv, State.raise, State.markSet_fld, State.fld_setFld_other, State.fld_setFld_same]
    exact Nat.mod_eq_of_lt (by simpa using ‹_ < _›)
  · unfold State.almFault
    rw [State.fld_pmcWasted, State.fld_logEvent _ _ _ _ _ _ (by decide)]
    simp (disch := decide) only [State.raiseEv, State.raise, State.markSet_fld, State.fld_setFld_other, State.fld_setFld_same]
    exact Nat.mod_eq_of_lt (by simpa using ‹_ < _›)
  · unfold State.almFault
    rw [State.fld_pmcWasted, State.fld_logEvent _ _ _ _ _ _ (by decide)]
    simp (disch := decide) only [State.raiseEv, State.raise, State.markSet_fld, State.fld_setFld_other, State.fld_setFld_same]
  · unfold State.almFault
    rw [State.flag_pmcWasted, State.flag_logEvent _ _ _ _ _ _ (by decide)]
    exact State.flag_raiseEv_same _ _ rfl (by decide) (by decide)

/-- A change of the watch made on a state whose watches and memories are those of s. -/
theorem Retires.of_watches {w : Nat} {f : Watch → Watch} {s r u : State} (h : Retires w f r u) (hw : ∀ k : Nat, r.watch k = s.watch k)
    (hp : r.alm.pmem = s.alm.pmem) (hd : r.alm.dmem = s.alm.dmem) : Retires w f s u :=
  ⟨by rw [h.1, hw], fun k hk => (h.2.1 k hk).trans (hw k), h.2.2.1.trans hp, h.2.2.2.trans hd⟩

/-- A fault on a state whose watches and memories are those of s. -/
theorem faultsAt_of {s r : State} {w code : Nat} (hw : w < 64) (hc : code < 8) (h : ∀ k : Nat, r.watch k = s.watch k)
    (hp : r.alm.pmem = s.alm.pmem) (hd : r.alm.dmem = s.alm.dmem) : FaultsAt w code s (r.almFault w code) := by
  obtain ⟨h1, h2, h3, h4, h5⟩ := faultsAt_almFault r w code hw hc
  exact ⟨h1.of_watches h hp hd, h2, h3, by rw [h4, h], h5⟩

theorem State.issues_lt {s : State} {w : Nat} (h : s.issues w = true) : w < 64 := by
  unfold State.issues at h
  simp only [Bool.and_eq_true, decide_eq_true_eq] at h
  exact h.1.1.1.1

/-- An instruction that faults on a state whose watches and memories are those of s completes so. -/
theorem completes_fault_of {i : Instr} {w t code : Nat} {s r : State} {g : State → State}
    (he : exec i s = .next ((s.at t).issue w (almEncode i) g)) (h : Issues i w (s.at t)) (hc : code < 8)
    (hg : g ((s.at t).issueMark w) = r.almFault w code) (hw : ∀ k : Nat, r.watch k = s.watch k)
    (hp : r.alm.pmem = s.alm.pmem) (hd : r.alm.dmem = s.alm.dmem) : Completes i s (FaultsAt w code s) := by
  have f := faultsAt_of (State.issues_lt h.2.1) hc hw hp hd
  refine completes_of_issue he h ?_ ?_
  · rw [hg]; exact f
  · intro hn
    exact absurd (by rw [hg, f.1.1]) hn

/-- An instruction that faults completes so. -/
theorem completes_fault {i : Instr} {w t code : Nat} {s : State} {g : State → State}
    (he : exec i s = .next ((s.at t).issue w (almEncode i) g)) (h : Issues i w (s.at t)) (hc : code < 8)
    (hg : g ((s.at t).issueMark w) = ((s.at t).issueMark w).almFault w code) : Completes i s (FaultsAt w code s) :=
  completes_fault_of he h hc hg (watch_issued s t w) (pmem_issued s t w) (dmem_issued s t w)

/-- The byte addresses LDW and STW accept. -/
theorem dmemOk_eq (x : Word) : dmemOk x = decide (x.toNat % 4 = 0 ∧ x.toNat ≤ 0x1FFFF) := by
  unfold dmemOk; by_cases h : x.toNat % 4 = 0 <;> simp [h]

@[simp] theorem State.dmRead_at (s : State) (t k : Nat) : (s.at t).dmRead k = s.dmRead k := by unfold State.dmRead; simp

/-- The window shows what the epoch part holds. -/
theorem State.spaceRead_congr {s u : State} (h : u.ep = s.ep) (aw : Word) (k : Nat) : u.spaceRead aw k = s.spaceRead aw k := by
  unfold State.spaceRead State.frontWord; rw [h]

/-- A change of the watch made on a state whose watches and memories are those of s. -/
theorem completes_updWatch_of {i : Instr} {w t : Nat} {s r : State} {g : State → State} {f : Watch → Watch}
    (he : exec i s = .next ((s.at t).issue w (almEncode i) g)) (h : Issues i w (s.at t))
    (hg : g ((s.at t).issueMark w) = r.updWatch w f) (hw : ∀ k : Nat, r.watch k = s.watch k)
    (hp : r.alm.pmem = s.alm.pmem) (hd : r.alm.dmem = s.alm.dmem) : Completes i s (Retires w f s) := by
  refine completes_of_issue he h ?_ ?_
  · rw [hg]; exact Retires.updWatch_of hw hp hd
  · intro _; rw [hg]; exact (Retires.updWatch_of hw hp hd).congr (State.pmcRetired_alm _ 0)

/-- Two changes of the watch, one after the other. -/
theorem completes_two_updWatch {i : Instr} {w t : Nat} {s : State} {g : State → State} {f1 f2 : Watch → Watch}
    (he : exec i s = .next ((s.at t).issue w (almEncode i) g)) (h : Issues i w (s.at t))
    (hg : g ((s.at t).issueMark w) = (((s.at t).issueMark w).updWatch w f1).updWatch w f2) :
    Completes i s (Retires w (fun y => f2 (f1 y)) s) := by
  have k : Retires w (fun y => f2 (f1 y)) s ((((s.at t).issueMark w).updWatch w f1).updWatch w f2) :=
    Retires.updWatch.trans (Retires.mk_updWatch _)
  refine completes_of_issue he h ?_ ?_
  · rw [hg]; exact k
  · intro _; rw [hg]; exact k.congr (State.pmcRetired_alm _ 0)

/-- Outside the listed parts the registers are the same. -/
theorem Touches.word {ps : List Part} {s u : State} (h : Touches ps s u) (hr : Part.regs ∉ ps) (k : Nat) : u.word k = s.word k := by
  have : u.regs = s.regs := h.2 .regs hr
  unfold State.word; rw [this]
theorem Touches.flag {ps : List Part} {s u : State} (h : Touches ps s u) (hr : Part.regs ∉ ps) (f : Fld) : u.flag f = s.flag f := by
  unfold State.flag; rw [h.word hr]
theorem Touches.fld {ps : List Part} {s u : State} (h : Touches ps s u) (hr : Part.regs ∉ ps) (f : Fld) : u.fld f = s.fld f := by
  unfold State.fld; rw [h.word hr]
theorem Touches.refl (ps : List Part) (s : State) : Touches ps s s := ⟨rfl, fun p _ => by cases p <;> rfl⟩

/-- An instruction that acts on r (whose watches and memories are those of s) and then changes its watch: the watch retires so, and what r holds outside
Almanac and the counters stands. -/
theorem completes_acts {i : Instr} {w t : Nat} {s r : State} {g : State → State} {f : Watch → Watch} {Q : State → Prop}
    (he : exec i s = .next ((s.at t).issue w (almEncode i) g)) (h : Issues i w (s.at t))
    (hg : g ((s.at t).issueMark w) = r.updWatch w f) (hw : ∀ k : Nat, r.watch k = s.watch k)
    (hp : r.alm.pmem = s.alm.pmem) (hd : r.alm.dmem = s.alm.dmem)
    (hq : ∀ u : State, Touches [.alm, .pmc] r u → Q u) : Completes i s fun u => Retires w f s u ∧ Q u := by
  have k : Retires w f s (r.updWatch w f) := Retires.updWatch_of hw hp hd
  refine completes_of_issue he h ?_ ?_
  · rw [hg]
    exact ⟨k, hq _ ⟨rfl, fun p hp => by cases p <;> first | rfl | exact absurd (by decide) hp⟩⟩
  · intro _
    rw [hg]
    refine ⟨k.congr (State.pmcRetired_alm _ 0), hq _ ⟨?_, fun p hp => ?_⟩⟩
    · simp [State.updWatch, State.setWatch]
    · cases p <;> first | exact absurd (by decide) hp | (simp [Part.same, State.updWatch, State.setWatch])

@[simp] theorem State.cGo_word (s : State) (w : Nat) (c : Bool) (k : Nat) : (s.cGo w c).word k = s.word k := State.updWatch_word ..
@[simp] theorem State.cGo_flag (s : State) (w : Nat) (c : Bool) (f : Fld) : (s.cGo w c).flag f = s.flag f := State.updWatch_flag ..
@[simp] theorem State.cGo_fld (s : State) (w : Nat) (c : Bool) (f : Fld) : (s.cGo w c).fld f = s.fld f := State.updWatch_fld ..

end Sys2Proof.Machine
end

