-- ==== Sys2Proof/Laws/Clock.lean ====
section
/-! SUPPORT. Laws of the crossings: what a start of a handshake does, and what it leaves. -/

namespace Sys2Proof.Machine

theorem State.setXPhase_word (s : State) (n v k : Nat) : (s.setXPhase n v).word k = s.word k := rfl

/-! ## Hold registers (R503 to R505) -/

@[simp] theorem State.modXing_regs (s : State) (n : Nat) (f : Xing → Xing) : (s.modXing n f).regs = s.regs := rfl
@[simp] theorem State.modXing_dial (s : State) (n : Nat) (f : Xing → Xing) : (s.modXing n f).dial = s.dial := rfl
@[simp] theorem State.modXing_time (s : State) (n : Nat) (f : Xing → Xing) : (s.modXing n f).time = s.time := rfl
@[simp] theorem State.modXing_host (s : State) (n : Nat) (f : Xing → Xing) : (s.modXing n f).host = s.host := rfl
@[simp] theorem State.modXing_pending (s : State) (n : Nat) (f : Xing → Xing) : (s.modXing n f).pending = s.pending := rfl
@[simp] theorem State.modXing_word (s : State) (n k : Nat) (f : Xing → Xing) : (s.modXing n f).word k = s.word k := rfl
@[simp] theorem State.modXing_xState (s : State) (n k : Nat) (f : Xing → Xing) : (s.modXing n f).xState k = s.xState k := rfl
@[simp] theorem State.modXing_xPhase (s : State) (n k : Nat) (f : Xing → Xing) : (s.modXing n f).xPhase k = s.xPhase k := rfl

/-- A crossing whose hold registers are changed shows the change. -/
@[simp] theorem State.modXing_xing (s : State) (n : Nat) (f : Xing → Xing) : (s.modXing n f).xing n = f (s.xing n) :=
  Tab.get_set_same _ _ _ _

/-- Every other crossing keeps its hold registers. -/
theorem State.modXing_xing_other (s : State) {n k : Nat} (f : Xing → Xing) (h : k ≠ n) : (s.modXing n f).xing k = s.xing k :=
  Tab.get_set_other _ _ _ h

/-- The source never fills more hold registers than the path has (R504, R505). -/
theorem Xing.fill_length (fb : Bool) (x : Xing) (ws : List XWord) (h : x.full.length ≤ xDepth fb) :
    (Xing.fill fb x ws).full.length ≤ xDepth fb := by
  induction ws generalizing x with
  | nil => exact h
  | cons w ws ih =>
    unfold Xing.fill
    split
    · exact ih _ (by simp only [Xing.put, List.length_append, List.length_cons, List.length_nil]; omega)
    · exact h

/-- A word that is handed over waits for its turn behind those that wait already. -/
theorem Xing.offer_length (fb : Bool) (x : Xing) (w : XWord) (h : x.full.length ≤ xDepth fb) :
    (x.offer fb w).full.length ≤ xDepth fb := Xing.fill_length fb x _ h

/-- A start of R511 leaves every register but the crossing's status alone. -/
theorem State.xStart_word_other (s : State) (n : Nat) {k : Nat} (h : k ≠ Reg.CLK_XSTAT n) : (s.xStart n).word k = s.word k := by
  unfold State.xStart
  split
  · rw [State.setXPhase_word, State.word_setFld_other _ _ _ h]
  · rfl

/-- A start of R511: the crossing is in HANDSHAKE, phase 1; every other crossing is as it was. -/
theorem State.xStart_state (s : State) {n j : Nat} (hn : n < 22) (hj : j < 22) :
    (s.xStart n).xState j = if j = n then 2 else s.xState j := by
  unfold State.xStart
  rw [if_pos hn]
  unfold State.xState
  show ((s.setFld (F.CLK_XSTAT_STATE n) 2)).fld (F.CLK_XSTAT_STATE j) = _
  by_cases e : j = n
  · subst e
    rw [if_pos rfl, State.fld_setFld_same _ _ _ (by simp)]
    simp
  · rw [if_neg e, State.fld_setFld_other]
    left
    show 4352 + 4 * (j % 22) ≠ 4352 + 4 * (n % 22)
    omega

theorem State.xStartAll_word_other (s : State) (l : List Nat) {k : Nat} (h : ∀ n, k ≠ Reg.CLK_XSTAT n) : (s.xStartAll l).word k = s.word k := by
  unfold State.xStartAll
  induction l generalizing s with
  | nil => rfl
  | cons n l ih => rw [List.foldl_cons, ih, State.xStart_word_other _ _ (h n)]

/-- Starts of several crossings: those named are in HANDSHAKE. -/
theorem State.xStartAll_state (s : State) (l : List Nat) (hl : ∀ n ∈ l, n < 22) {j : Nat} (hj : j < 22) :
    (s.xStartAll l).xState j = if j ∈ l then 2 else s.xState j := by
  unfold State.xStartAll
  induction l generalizing s with
  | nil => simp
  | cons n l ih =>
    rw [List.foldl_cons, ih _ (fun m hm => hl m (List.mem_cons_of_mem _ hm)), State.xStart_state s (hl n List.mem_cons_self) hj]
    by_cases h1 : j ∈ l
    · simp [h1]
    · by_cases h2 : j = n <;> simp [h1, h2]

theorem clockCrossings_lt (c n : Nat) (h : n ∈ clockCrossings c) : n < 22 := by
  unfold clockCrossings at h
  repeat' split at h
  all_goals simp at h
  all_goals omega

end Sys2Proof.Machine
end

