-- ==== Sys2Proof/Laws/Decode.lean ====
section
/-! SUPPORT. The five formats of Table 5-3 as numbers, and their fields read back. -/

namespace Sys2Proof

theorem fieldOf_eq (x : Word) (lo len : Nat) : fieldOf x lo len = x.toNat / 2 ^ lo % 2 ^ len := by
  simp [fieldOf, BitVec.extractLsb'_toNat, Nat.shiftRight_eq_div_pow]

theorem bit_eq (x : Word) (n : Nat) : x.getLsbD n = decide (x.toNat / 2 ^ n % 2 = 1) := by
  simp [BitVec.getLsbD, Nat.testBit_eq_decide_div_mod_eq]

/-- A concatenation as a number, by arithmetic alone. -/
theorem append_toNat {m n : Nat} (x : BitVec m) (y : BitVec n) : (x ++ y).toNat = x.toNat * 2 ^ n + y.toNat := by
  rw [BitVec.toNat_append, ← Nat.shiftLeft_add_eq_or_of_lt y.isLt, Nat.shiftLeft_eq]

theorem encR_toNat (op d a b c fn : Nat) : (encR op d a b c fn).toNat =
    op % 64 * 2 ^ 26 + d % 16 * 2 ^ 22 + a % 16 * 2 ^ 18 + b % 16 * 2 ^ 14 + c % 16 * 2 ^ 10 + fn % 16 := by
  simp only [encR, append_toNat, BitVec.toNat_ofNat]; omega

theorem encI_toNat (op d a imm : Nat) : (encI op d a imm).toNat =
    op % 64 * 2 ^ 26 + d % 16 * 2 ^ 22 + a % 16 * 2 ^ 18 + imm % 2 ^ 18 := by
  simp only [encI, append_toNat, BitVec.toNat_ofNat]; omega

theorem encT_toNat (cls tb b scale ofs : Nat) : (encT cls tb b scale ofs).toNat =
    cls % 8 * 2 ^ 29 + tb % 8 * 2 ^ 26 + b % 16 * 2 ^ 22 + scale % 4 * 2 ^ 20 + ofs % 2 ^ 20 := by
  simp only [encT, append_toNat, BitVec.toNat_ofNat]; omega

theorem encC_toNat (op : Nat) (tm : Bool) (d a port b sel : Nat) : (encC op tm d a port b sel).toNat =
    op % 64 * 2 ^ 26 + tm.toNat * 2 ^ 25 + d % 16 * 2 ^ 21 + a % 16 * 2 ^ 17 + port % 8 * 2 ^ 14 + b % 16 * 2 ^ 10 + sel % 2 ^ 10 := by
  simp only [encC, append_toNat, BitVec.toNat_ofNat, BitVec.toNat_ofBool]; omega

theorem encK_toNat (op a b tgt : Nat) : (encK op a b tgt).toNat =
    op % 64 * 2 ^ 26 + a % 16 * 2 ^ 22 + b % 16 * 2 ^ 18 + tgt % 2 ^ 16 := by
  simp only [encK, append_toNat, BitVec.toNat_ofNat]; omega

/-- A word of the register format decodes as its fields say. -/
theorem almDecode_encR (t w d a b c fn : Nat) :
    almDecode t w (encR 1 d a b c fn) = decodeR t w (d % 16) (a % 16) (b % 16) (c % 16) (fn % 16) := by
  have e := encR_toNat 1 d a b c fn
  have h1 : fieldOf (encR 1 d a b c fn) 26 6 = 1 := by rw [fieldOf_eq, e]; omega
  have h2 : fieldOf (encR 1 d a b c fn) 4 6 = 0 := by rw [fieldOf_eq, e]; omega
  have h3 : fieldOf (encR 1 d a b c fn) 22 4 = d % 16 := by rw [fieldOf_eq, e]; omega
  have h4 : fieldOf (encR 1 d a b c fn) 18 4 = a % 16 := by rw [fieldOf_eq, e]; omega
  have h5 : fieldOf (encR 1 d a b c fn) 14 4 = b % 16 := by rw [fieldOf_eq, e]; omega
  have h6 : fieldOf (encR 1 d a b c fn) 10 4 = c % 16 := by rw [fieldOf_eq, e]; omega
  have h7 : fieldOf (encR 1 d a b c fn) 0 4 = fn % 16 := by rw [fieldOf_eq, e]; omega
  simp only [almDecode, h1, h2, h3, h4, h5, h6, h7, if_true]

/-- A word of the immediate format. -/
theorem almDecode_encI (t w op d a imm : Nat) (h : 2 ≤ op ∧ op < 13) :
    almDecode t w (encI op d a imm) = decodeI t w op (d % 16) (a % 16) (imm % 262144) := by
  have e := encI_toNat op d a imm
  have h1 : fieldOf (encI op d a imm) 26 6 = op := by rw [fieldOf_eq, e]; omega
  have h2 : fieldOf (encI op d a imm) 22 4 = d % 16 := by rw [fieldOf_eq, e]; omega
  have h3 : fieldOf (encI op d a imm) 18 4 = a % 16 := by rw [fieldOf_eq, e]; omega
  have h4 : fieldOf (encI op d a imm) 0 18 = imm % 262144 := by rw [fieldOf_eq, e]; omega
  simp only [almDecode, h1, h2, h3, h4, if_neg (show ¬ op = 1 by omega), if_pos (show op < 13 by omega)]

/-- A word of the co-issue format. -/
theorem almDecode_encC (t w op : Nat) (tm : Bool) (d a port b sel : Nat) (h : 13 ≤ op ∧ op < 64) (h' : op < 16 ∨ op = 32 ∨ 33 ≤ op ∧ op < 38) :
    almDecode t w (encC op tm d a port b sel) =
      if op < 16 then decodeMsg t w op tm (d % 16) (a % 16) (port % 8) (b % 16) (sel % 1024)
      else if op = 32 then decodeStc t w tm (d % 16) (a % 16) (port % 8) (b % 16) (sel % 1024)
      else decodeAct t w op tm (d % 16) (a % 16) (port % 8) (b % 16) (sel % 1024) := by
  have e := encC_toNat op tm d a port b sel
  have ht : tm.toNat < 2 := Bool.toNat_lt tm
  have h1 : fieldOf (encC op tm d a port b sel) 26 6 = op := by rw [fieldOf_eq, e]; omega
  have h2 : (encC op tm d a port b sel).getLsbD 25 = tm := by
    rw [bit_eq, e]
    have : (op % 64 * 2 ^ 26 + tm.toNat * 2 ^ 25 + d % 16 * 2 ^ 21 + a % 16 * 2 ^ 17 + port % 8 * 2 ^ 14 + b % 16 * 2 ^ 10 + sel % 2 ^ 10) /
        2 ^ 25 % 2 = tm.toNat := by omega
    rw [this]; cases tm <;> rfl
  have h3 : fieldOf (encC op tm d a port b sel) 21 4 = d % 16 := by rw [fieldOf_eq, e]; omega
  have h4 : fieldOf (encC op tm d a port b sel) 17 4 = a % 16 := by rw [fieldOf_eq, e]; omega
  have h5 : fieldOf (encC op tm d a port b sel) 14 3 = port % 8 := by rw [fieldOf_eq, e]; omega
  have h6 : fieldOf (encC op tm d a port b sel) 10 4 = b % 16 := by rw [fieldOf_eq, e]; omega
  have h7 : fieldOf (encC op tm d a port b sel) 0 10 = sel % 1024 := by rw [fieldOf_eq, e]; omega
  simp only [almDecode, h1, h2, h3, h4, h5, h6, h7, if_neg (show ¬ op = 1 by omega), if_neg (show ¬ op < 13 by omega)]
  rcases h' with h' | h' | h'
  · rw [if_pos h', if_pos h']
  · subst h'; rfl
  · simp only [if_neg (show ¬ op < 16 by omega), if_neg (show ¬ op < 32 by omega), if_neg (show ¬ op = 32 by omega), if_pos (show op < 38 by omega)]

/-- A word of the control format. -/
theorem almDecode_encK (t w op a b tgt : Nat) (h : 16 ≤ op ∧ op < 32) :
    almDecode t w (encK op a b tgt) = decodeK t w op (a % 16) (b % 16) (tgt % 65536) := by
  have e := encK_toNat op a b tgt
  have h1 : fieldOf (encK op a b tgt) 26 6 = op := by rw [fieldOf_eq, e]; omega
  have h2 : fieldOf (encK op a b tgt) 16 2 = 0 := by rw [fieldOf_eq, e]; omega
  have h3 : fieldOf (encK op a b tgt) 22 4 = a % 16 := by rw [fieldOf_eq, e]; omega
  have h4 : fieldOf (encK op a b tgt) 18 4 = b % 16 := by rw [fieldOf_eq, e]; omega
  have h5 : fieldOf (encK op a b tgt) 0 16 = tgt % 65536 := by rw [fieldOf_eq, e]; omega
  simp only [almDecode, h1, h2, h3, h4, h5, if_neg (show ¬ op = 1 by omega), if_neg (show ¬ op < 13 by omega),
    if_neg (show ¬ op < 16 by omega), if_pos (show op < 32 by omega), if_true]

/-- A word of the timed format. -/
theorem almDecode_encT (t w cls tb b sc ofs : Nat) (h : 5 ≤ cls ∧ cls < 8) :
    almDecode t w (encT cls tb b sc ofs) =
      if cls = 5 then some (.almTcmp t w (tb % 8) (b % 16) (sc % 4) (ofs % 1048576))
      else if cls = 6 then some (.almAt t w (tb % 8) (b % 16) (sc % 4) (ofs % 1048576))
      else some (.almAtr t w (tb % 8) (b % 16) (sc % 4) (ofs % 1048576)) := by
  have e := encT_toNat cls tb b sc ofs
  have h1 : fieldOf (encT cls tb b sc ofs) 26 6 = 8 * cls + tb % 8 := by rw [fieldOf_eq, e]; omega
  have h2 : fieldOf (encT cls tb b sc ofs) 26 3 = tb % 8 := by rw [fieldOf_eq, e]; omega
  have h3 : fieldOf (encT cls tb b sc ofs) 22 4 = b % 16 := by rw [fieldOf_eq, e]; omega
  have h4 : fieldOf (encT cls tb b sc ofs) 20 2 = sc % 4 := by rw [fieldOf_eq, e]; omega
  have h5 : fieldOf (encT cls tb b sc ofs) 0 20 = ofs % 1048576 := by rw [fieldOf_eq, e]; omega
  simp only [almDecode, h1, h2, h3, h4, h5]
  rw [if_neg (show ¬ 8 * cls + tb % 8 = 1 by omega), if_neg (show ¬ 8 * cls + tb % 8 < 13 by omega), if_neg (show ¬ 8 * cls + tb % 8 < 16 by omega),
    if_neg (show ¬ 8 * cls + tb % 8 < 32 by omega), if_neg (show ¬ 8 * cls + tb % 8 = 32 by omega), if_neg (show ¬ 8 * cls + tb % 8 < 38 by omega),
    if_neg (show ¬ 8 * cls + tb % 8 < 40 by omega)]
  rcases (show cls = 5 ∨ cls = 6 ∨ cls = 7 by omega) with e | e | e
  · subst e; rw [if_pos (by omega), if_pos rfl]
  · subst e; rw [if_neg (by omega), if_pos (by omega), if_neg (by omega), if_pos rfl]
  · subst e; rw [if_neg (by omega), if_neg (by omega), if_neg (by omega), if_neg (by omega)]

/-- A word is put together from its fields. -/
theorem encR_fields (x : Word) (h : fieldOf x 4 6 = 0) :
    encR (fieldOf x 26 6) (fieldOf x 22 4) (fieldOf x 18 4) (fieldOf x 14 4) (fieldOf x 10 4) (fieldOf x 0 4) = x := by
  apply BitVec.eq_of_toNat_eq
  have := x.isLt
  simp only [fieldOf_eq] at h
  rw [encR_toNat]
  simp only [fieldOf_eq]
  have q10 : x.toNat / 2 ^ 10 = x.toNat / 2 ^ 4 / 2 ^ 6 := by omega
  have q14 : x.toNat / 2 ^ 14 = x.toNat / 2 ^ 10 / 2 ^ 4 := by omega
  have q18 : x.toNat / 2 ^ 18 = x.toNat / 2 ^ 14 / 2 ^ 4 := by omega
  have q22 : x.toNat / 2 ^ 22 = x.toNat / 2 ^ 18 / 2 ^ 4 := by omega
  have q26 : x.toNat / 2 ^ 26 = x.toNat / 2 ^ 22 / 2 ^ 4 := by omega
  omega

theorem encI_fields (x : Word) : encI (fieldOf x 26 6) (fieldOf x 22 4) (fieldOf x 18 4) (fieldOf x 0 18) = x := by
  apply BitVec.eq_of_toNat_eq
  have := x.isLt
  rw [encI_toNat]
  simp only [fieldOf_eq]
  have q22 : x.toNat / 2 ^ 22 = x.toNat / 2 ^ 18 / 2 ^ 4 := by omega
  have q26 : x.toNat / 2 ^ 26 = x.toNat / 2 ^ 22 / 2 ^ 4 := by omega
  omega

theorem encC_fields (x : Word) :
    encC (fieldOf x 26 6) (x.getLsbD 25) (fieldOf x 21 4) (fieldOf x 17 4) (fieldOf x 14 3) (fieldOf x 10 4) (fieldOf x 0 10) = x := by
  apply BitVec.eq_of_toNat_eq
  have := x.isLt
  rw [encC_toNat, bit_eq]
  have e : (decide (x.toNat / 2 ^ 25 % 2 = 1)).toNat = x.toNat / 2 ^ 25 % 2 := by
    rcases Nat.mod_two_eq_zero_or_one (x.toNat / 2 ^ 25) with h | h <;> rw [h] <;> rfl
  rw [e]
  simp only [fieldOf_eq]
  have q14 : x.toNat / 2 ^ 14 = x.toNat / 2 ^ 10 / 2 ^ 4 := by omega
  have q17 : x.toNat / 2 ^ 17 = x.toNat / 2 ^ 14 / 2 ^ 3 := by omega
  have q21 : x.toNat / 2 ^ 21 = x.toNat / 2 ^ 17 / 2 ^ 4 := by omega
  have q25 : x.toNat / 2 ^ 25 = x.toNat / 2 ^ 21 / 2 ^ 4 := by omega
  have q26 : x.toNat / 2 ^ 26 = x.toNat / 2 ^ 25 / 2 ^ 1 := by omega
  omega

theorem encK_fields (x : Word) (h : fieldOf x 16 2 = 0) :
    encK (fieldOf x 26 6) (fieldOf x 22 4) (fieldOf x 18 4) (fieldOf x 0 16) = x := by
  apply BitVec.eq_of_toNat_eq
  have := x.isLt
  simp only [fieldOf_eq] at h
  rw [encK_toNat]
  simp only [fieldOf_eq]
  have q18 : x.toNat / 2 ^ 18 = x.toNat / 2 ^ 16 / 2 ^ 2 := by omega
  have q22 : x.toNat / 2 ^ 22 = x.toNat / 2 ^ 18 / 2 ^ 4 := by omega
  have q26 : x.toNat / 2 ^ 26 = x.toNat / 2 ^ 22 / 2 ^ 4 := by omega
  omega

theorem encT_fields (x : Word) : encT (fieldOf x 29 3) (fieldOf x 26 3) (fieldOf x 22 4) (fieldOf x 20 2) (fieldOf x 0 20) = x := by
  apply BitVec.eq_of_toNat_eq
  have := x.isLt
  rw [encT_toNat]
  simp only [fieldOf_eq]
  have q22 : x.toNat / 2 ^ 22 = x.toNat / 2 ^ 20 / 2 ^ 2 := by omega
  have q26 : x.toNat / 2 ^ 26 = x.toNat / 2 ^ 22 / 2 ^ 4 := by omega
  have q29 : x.toNat / 2 ^ 29 = x.toNat / 2 ^ 26 / 2 ^ 3 := by omega
  omega

theorem fieldOf_lt (x : Word) (lo len : Nat) : fieldOf x lo len < 2 ^ len := by
  rw [fieldOf_eq]; exact Nat.mod_lt _ (Nat.two_pow_pos len)

end Sys2Proof
end

