-- ==== Sys2Proof/Tests/Slice0.lean ====
section
/-! SUPPORT. Own tests: ill-formed commands that the check refuses, instruction words written out from the tables, published check
values, and for each statement with hypotheses a state and operands that meet them. -/

namespace Sys2Proof.Tests

open Sys2Proof.Machine

/-! ## Ill-formed commands, one for each check -/

theorem test_wf_entry : ¬ (Entry.mk .pcie 65536 0 0 []).ok ∧ ¬ (Entry.mk .pcie 0 65536 0 []).ok ∧ ¬ (Entry.mk .hspi 0 0 65536 []).ok ∧
    ¬ (Entry.mk (.session 4) 0 0 0 []).ok ∧ (Entry.mk (.session 3) 65535 65535 65535 []).ok ∧
    ¬ (Instr.cmdEcho 0 ⟨.pcie, 65536, 0, 0, []⟩).wf := by decide

theorem test_wf_body : ¬ (Body.sample (2 ^ 64) 0 0).ok ∧ ¬ (Body.sample 0 65536 0).ok ∧ ¬ (Body.sample 0 0 256).ok ∧
    ¬ (Body.tsync (2 ^ 64)).ok ∧ ¬ (Body.cmd 256 []).ok ∧ ¬ (Body.cmd 0 [256]).ok ∧ ¬ (Body.enum 256 0).ok ∧ ¬ (Body.enum 0 256).ok ∧
    ¬ (Body.echo 65536).ok ∧ ¬ (Body.load (2 ^ 32) []).ok ∧ ¬ (Body.load 0 [256]).ok ∧ ¬ (Body.loadend (2 ^ 32) 0 0).ok := by decide

theorem test_wf_body_profile : ¬ (Body.profile (List.replicate 31 0) 0).ok ∧ ¬ (Body.profile (List.replicate 65 0) 0).ok ∧
    ¬ (Body.profile (List.replicate 32 0) 65536).ok ∧ ¬ (Body.profile (List.replicate 32 256) 0).ok ∧
    (Body.profile (List.replicate 32 0) 0).ok ∧ (Body.profile (List.replicate 64 255) 65535).ok := by decide

theorem test_wf_body_return : ¬ (Body.snapr 65536 true true true true 0 0 [0, 0, 0, 0] []).ok ∧
    ¬ (Body.snapr 0 true true true true 65536 0 [0, 0, 0, 0] []).ok ∧ ¬ (Body.snapr 0 true true true true 0 (2 ^ 24) [0, 0, 0, 0] []).ok ∧
    ¬ (Body.snapr 0 true true true true 0 0 [0, 0, 0] []).ok ∧ ¬ (Body.snapr 0 true true true true 0 0 [0, 0, 0, 0] (List.replicate 17 0)).ok ∧
    ¬ (Body.resp 256 0 []).ok ∧ ¬ (Body.resp 0 256 []).ok ∧ ¬ (Body.resp 0 0 [256]).ok ∧ ¬ (Body.echor 65536 0).ok ∧
    ¬ (Body.echor 0 (2 ^ 32)).ok ∧ ¬ (Body.alert 256 0).ok ∧ ¬ (Body.alert 0 256).ok ∧ ¬ (Body.other 16 0).ok := by decide

theorem test_wf_frame : ¬ (Frame.mk 16 true false true 0 (.tsync 0)).ok ∧ ¬ (Frame.mk 0 true false true 32 (.tsync 0)).ok ∧
    ¬ (Frame.mk 0 true false true 0 (.tsync (2 ^ 64))).ok ∧ (Frame.mk 15 true false true 31 (.tsync (2 ^ 64 - 1))).ok ∧
    ¬ (Instr.snaprReceive 0 8 true ⟨0, true, false, true, 0, .tsync 0⟩).wf ∧
    ¬ (Instr.sampleFrame 0 48 0 ⟨0, true, false, true, 0, .tsync 0⟩).wf ∧
    ¬ (Instr.sampleFrame 0 47 4 ⟨0, true, false, true, 0, .tsync 0⟩).wf ∧
    ¬ (Instr.sampleFrame 0 47 3 ⟨16, true, false, true, 0, .tsync 0⟩).wf := by decide

theorem test_wf_canFrame : ¬ (CanFrame.mk true (2 ^ 29) true false false false 0 [] 0).ok ∧
    ¬ (CanFrame.mk false (2 ^ 11) true false false false 0 [] 0).ok ∧ ¬ (CanFrame.mk false 0 true false false false 16 [] 0).ok ∧
    ¬ (CanFrame.mk false 0 true false false false 15 (List.replicate 65 0) 0).ok ∧
    ¬ (CanFrame.mk false 0 true false false false 1 [256] 0).ok ∧ (CanFrame.mk true (2 ^ 29 - 1) true false false false 15 [255] 0).ok ∧
    ¬ (Instr.canFrameReceive 0 3 ⟨false, 0, true, false, false, false, 0, [], 0⟩).wf := by decide

theorem test_wf_measured : ¬ (Instr.tileConversion 0 0 ⟨0, [0, 0, 0], []⟩).wf ∧
    ¬ (Instr.tileConversion 0 0 ⟨0, [0, 0, 0, 0], List.replicate 17 0⟩).wf ∧ ¬ (Instr.resetRelease 0 ⟨true, [(3, 0)]⟩).wf ∧
    ¬ (Instr.resetRelease 0 ⟨true, [(0, 18)]⟩).wf ∧ ¬ (Instr.resetRelease 0 ⟨true, [(1, 5)]⟩).wf ∧
    ¬ (Instr.lodestoneTick 0 ⟨0, 4096, 0, 0, true⟩).wf ∧ ¬ (Instr.lodestoneTick 0 ⟨0, 0, 4, 0, true⟩).wf ∧
    ¬ (Instr.lodestoneTick 0 ⟨0, 0, 0, 16, true⟩).wf ∧ ¬ (Instr.dieSensorConversion 0 []).wf ∧
    ¬ (Instr.boardChannelConversion 0 12 0).wf := by decide

theorem test_wf_numbers : ¬ (Instr.registerWrite 0 .pcie .bar0 0 0 0).wf ∧ ¬ (Instr.registerWrite 0 .pcie .bar0 0 9 0).wf ∧
    ¬ (Instr.timeLowWordRead 0 .pcie ⟨.bar2, 16777216, 4⟩).wf ∧ ¬ (Instr.timeLowWordRead 0 .hspi ⟨.bar0, 0, 0⟩).wf ∧
    ¬ (Instr.timeLowWordRead 0 .pcie ⟨.bar2, 0, 4097⟩).wf ∧ ¬ (Instr.portstsRead 0 .pcie 8).wf ∧ ¬ (Instr.lockAcquire 0 .pcie 16).wf ∧
    ¬ (Instr.ptpSyncReceive 0 ⟨2, .sync, true, true, 0, 125000000⟩ 0 0).wf ∧ ¬ (Instr.ptpSyncReceive 0 ⟨1, .announce, true, true, 0, 125000000⟩ 0 0).wf ∧ ¬ (Instr.busReferenceLost 0 3).wf ∧ ¬ (Instr.lostRing 0 4).wf ∧ ¬ (Instr.tileBoot 0 48).wf ∧
    ¬ (Instr.modFault 0 2).wf ∧ ¬ (Instr.coefficientWrite 0 .pcie 8 0).wf ∧ ¬ (Instr.hvacStatusReceive 0 256).wf ∧
    ¬ (Instr.proofWarn 0 4).wf ∧ ¬ (Instr.bpermitLoss 0 16).wf ∧ ¬ (Instr.sealRead 0 1048576).wf ∧ ¬ (Instr.discrepancy 0 8).wf ∧
    ¬ (Instr.contextUpdateDone 0 640).wf ∧ ¬ (Instr.contextUpdateDone 0 1024).wf ∧ ¬ (Instr.peerLaneUp 0 2).wf := by decide

theorem test_wf_host : ¬ (Instr.hspiReadFrame 0 4294967296 1).wf ∧ ¬ (Instr.hspiWriteFrame 0 4294967296 1 [] true).wf ∧
    ¬ (Instr.udpOpen 0 2 0 (List.replicate 16 0)).wf ∧ ¬ (Instr.udpOpen 0 0 8 (List.replicate 16 0)).wf ∧
    ¬ (Instr.udpOpen 0 0 0 (List.replicate 15 0)).wf ∧ ¬ (Instr.udpConfirm 0 0 0 [256]).wf ∧
    ¬ (Instr.udpDatagram 0 0 0 0 256 [] []).wf ∧ ¬ (Instr.udpSessionTimeout 0 4).wf ∧ ¬ (Instr.wakeFrame 0 2 [] []).wf ∧
    ¬ (Instr.wakeFrame 0 1 [256] []).wf ∧ ¬ (Instr.clockStopped 0 17).wf ∧ ¬ (Instr.pointerCheckFail 0 22).wf ∧
    ¬ (Instr.tilePowerUp 0 0 17).wf ∧ ¬ (Instr.programMemoryWrite 0 .pcie 65536 0).wf ∧
    ¬ (Instr.dataMemoryAccess 0 .pcie true 32768 0).wf := by decide

theorem test_wf_almanac : ¬ (Instr.snap 0 64 0).wf ∧ ¬ (Instr.snap 0 0 16).wf ∧ ¬ (Instr.almAdd 0 0 0 16 0).wf ∧ ¬ (Instr.almAdd 0 0 0 0 16).wf ∧
    ¬ (Instr.almClamp 0 0 0 0 0 16).wf ∧ ¬ (Instr.almAddi 0 0 0 0 262144).wf ∧ ¬ (Instr.almSlli 0 0 0 0 32).wf ∧
    ¬ (Instr.almRdt 0 0 0 4 0).wf ∧ ¬ (Instr.almRdt 0 0 0 1 8).wf ∧ ¬ (Instr.almRdt 0 0 0 1 1).wf ∧ (Instr.almRdt 0 0 0 2 1).wf ∧
    ¬ (Instr.almPost 0 0 1024 0 0).wf ∧ ¬ (Instr.almRing 0 0 32).wf ∧ ¬ (Instr.almBeq 0 0 0 0 65536).wf ∧ ¬ (Instr.almBfs 0 0 4 0).wf ∧
    ¬ (Instr.almStcLockAcquire 0 0 0 16).wf ∧ ¬ (Instr.almStcCan 0 0 true 3 0).wf ∧ ¬ (Instr.almStcPmc 0 0 true 4).wf := by decide

theorem test_wf_almanac_acts : ¬ (Instr.almBalPhaseStart 0 0 true 0 0).wf ∧ ¬ (Instr.almBalPhaseStart 0 0 true 4 0).wf ∧
    ¬ (Instr.almExcStart 0 0 true 16 0).wf ∧ ¬ (Instr.almTrigSet 0 0 true 64).wf ∧ ¬ (Instr.almTcmp 0 0 8 0 0 0).wf ∧
    ¬ (Instr.almTcmp 0 0 0 0 4 0).wf ∧ ¬ (Instr.almAt 0 0 0 0 0 1048576).wf ∧ ¬ (Instr.almWaitev 0 0 0 true 0 0).wf ∧
    ¬ (Instr.almWaitev 0 0 0 false 0 1).wf ∧ ¬ (Instr.almWaitev 0 0 0 false 3 1).wf ∧ ¬ (Instr.almWaitev 0 0 0 false 4 4096).wf ∧
    ¬ (Instr.almWaitev 0 0 0 false 5 64).wf ∧ ¬ (Instr.almWaitev 0 0 0 false 6 3).wf ∧ ¬ (Instr.almWaitev 0 0 0 false 7 0).wf ∧
    (Instr.almWaitev 0 0 0 true 6 2).wf := by decide

/-! ## Instruction words written out from Tables 5-3 to 5-7 -/

/-- Register format: OPCODE 6, RD 4, RA 4, RB 4, RC 4, zeros 6, FUNC 4. -/
theorem test_word_register : almDecode 0 0 0b000001_0011_0001_0010_0000_000000_0001#32 = some (.almSub 0 0 3 1 2) ∧
    almDecode 0 0 0b000001_1111_0001_0010_1000_000000_1100#32 = some (.almClamp 0 0 15 1 2 8) ∧
    almDecode 0 0 0b000001_0011_0001_0010_0000_000001_0001#32 = none ∧ almDecode 0 0 0b000001_0011_0001_0010_0000_000000_1101#32 = none ∧
    almDecode 0 0 0b000001_0011_0001_0010_0001_000000_0001#32 = none := by decide

/-- Immediate format: OPCODE 6, RD 4, RA 4, IMM18. -/
theorem test_word_immediate : almDecode 0 0 0b000010_0101_0110_111111111111111111#32 = some (.almAddi 0 0 5 6 262143) ∧
    almDecode 0 0 0b000111_0101_0110_000000000000011111#32 = some (.almSrai 0 0 5 6 31) ∧
    almDecode 0 0 0b000111_0101_0110_000000000000100000#32 = none ∧ almDecode 0 0 0b001000_0101_0001_000000000000000001#32 = none ∧
    almDecode 0 0 0b001100_0001_0000_000000000000010011#32 = some (.almRdt 0 0 1 2 3) := by decide

/-- Action format: OPCODE 6, T 1, RD 4, RA 4, PORT 3, RB 4, SEL 10. -/
theorem test_word_action : almDecode 0 0 0b100000_0_0000_0001_001_0000_0000000000#32 = some (.almStcAwait 0 0 1) ∧
    almDecode 0 0 0b100000_1_0000_0001_100_0000_0000000000#32 = some (.almStcCan 0 0 true 2 1) ∧
    almDecode 0 0 0b100001_0_0111_0000_000_0000_0000000000#32 = some (.snap 0 0 7) ∧
    almDecode 0 0 0b100101_1_0000_0000_000_0000_0100111111#32 = some (.almTrigClear 0 0 true 63) ∧
    almDecode 0 0 0b001101_0_0000_0001_000_0010_1111111111#32 = some (.almPost 0 0 1023 1 2) ∧
    almDecode 0 0 0b100001_1_0111_0000_000_0000_0000000000#32 = none := by decide

/-- Control format: OPCODE 6, RA 4, RB 4, zeros 2, TARGET 16. -/
theorem test_word_control : almDecode 0 0 0b010010_0001_0010_00_1000000000000001#32 = some (.almBlt 0 0 1 2 32769) ∧
    almDecode 0 0 0b010010_0001_0010_01_1000000000000001#32 = none ∧
    almDecode 0 0 0b010110_0000_0011_00_0000000000000111#32 = some (.almBfs 0 0 3 7) ∧
    almDecode 0 0 0b011010_0100_0000_00_1_101_000000111111#32 = some (.almWaitev 0 0 4 true 5 63) ∧
    almDecode 0 0 0b011110_0000_0000_00_0000000000000000#32 = some (.almHalt 0 0) := by decide

/-- Target format: class 3, TB 3, RB 4, SCALE 2, OFS 20. -/
theorem test_word_target : almDecode 0 0 0b101_010_0011_01_11111111111111111111#32 = some (.almTcmp 0 0 2 3 1 1048575) ∧
    almDecode 0 0 0b110_000_0011_10_00000000000000000001#32 = some (.almAt 0 0 0 3 2 1) ∧
    almDecode 0 0 0b111_101_0000_11_00000000000000000000#32 = some (.almAtr 0 0 5 0 3 0) := by decide

/-! ## Published check values -/

/-- The nine characters 1 to 9, over which check values of CRCs are published. -/
def digits : List Nat := [0x31, 0x32, 0x33, 0x34, 0x35, 0x36, 0x37, 0x38, 0x39]
set_option maxRecDepth 8000 in
theorem test_crc32c_check : crc32c digits = 0xE3069283#32 := by decide
set_option maxRecDepth 8000 in
theorem test_crc16_check : crc16 digits = 0x29B1#16 := by decide


set_option maxRecDepth 20000

/-! ## States and operands that meet the statements' hypotheses -/

/-- A running device in the active role, one hour after reset. -/
def run : State :=
  { ((State.reset.setFld F.UPD_STS_READY 1).setFld F.UPD_STS_STARTED 1).setFld F.RDN_STS_ROLE 4 with
    dial := 3600000000000, pwr := { PwrSt.reset with held := false } }
/-- Parts of the state changed, for small states. -/
def withEp (f : EpochSt → EpochSt) : State := { run with ep := f run.ep }
def withTime (f : TimeSt → TimeSt) : State := { run with time := f run.time }
def withTile (f : Tile → Tile) : State := run.setTile 3 (f { Tile.unpowered with powered := true, ncell := 16 })
def withRing (f : Ring → Ring) : State := run.setRing 0 (f Ring.reset)
def withPort (f : Port → Port) : State := run.setPort 0 (f { Port.idle with up := true })
def withSlot (f : AcqSlot → AcqSlot) : State := run.setAcqSlot 2 (f { AcqSlot.reset with ncell := 16, inService := true })
def withBal (f : BalSt → BalSt) : State := { run with bal := f run.bal }
def out (hop : Nat) (b : Body) : Frame := ⟨hop, false, false, true, 5, b⟩
def inb (hop : Nat) (b : Body) : Frame := ⟨hop, true, false, false, 5, b⟩
/-- A tile whose links are all up. -/
def linked (x : Tile) : Tile := { x with x := { x.x with up0 := true, up1 := true }, y := { x.y with up0 := true, up1 := true } }
def now : Nat := 3600000000000

theorem met_LocksAreTakenAndFreed :
    (run.at 0).lockHolder 15 = 0 ∧ (∀ c ∈ run.pending, lockBid 15 (periCycle (run.at 0).dial) c = none) ∧
      ((run.setLock 15 (masterId .pcie)).at 0).lockHolder 15 = masterId .pcie ∧
      (((run.setLock 15 7).at 0).lockHolder 15 ≠ 0 ∧ ((run.setLock 15 7).at 0).lockHolder 15 ≠ masterId .pcie ∧ ((run.setLock 15 7).at 0).lockHolder 15 < 8) ∧
      lockBid 15 (periCycle now) (.lockAcquire now .hspi 15) = some (masterId .hspi) ∧
      ((run.setLock 15 7).lockOwner 15 ≠ masterId .pcie ∧ (0x8000#32).getLsbD 15 = true) ∧
      ((0x8000#32).getLsbD 15 = true ∧ (run.setLock 15 (masterId .pcie)).lockOwner 15 = masterId .pcie) := by decide

theorem met_EpochsCloseUnderTheSettingsInForce :
    (1 ≤ getBits 1000#32 0 10 ∧ getBits 1000#32 0 10 ≤ 1000) ∧ ¬ (1 ≤ getBits 1001#32 0 10 ∧ getBits 1001#32 0 10 ≤ 1000) ∧
      getBits 4#32 0 3 ≤ 4 ∧ 4 < getBits 5#32 0 3 ∧ (run.awake = true ∧ run.nextBoundary ≤ (run.at 0).dial) ∧
      run.ep.opn.en = false ∧ (withEp fun p => { p with opn := { p.opn with en := true } }).ep.opn.en = true ∧ run.mayCommit = true ∧
      ((run.setFld F.RDN_CTL_TWIN 1).setFld F.RDN_STS_ROLE 1).mayCommit = false ∧ ¬ (State.reset.awake = true ∧ State.reset.nextBoundary ≤ (State.reset.at 0).dial) ∧
      fabCycle run.nextBoundary ≤ fabCycle run.dial := by decide

theorem met_ContributionsAreTakenAndCommitted :
    let c : Contribution := ⟨7, .acquisition, now, (0, 0), [], false⟩
    let e : EpochRec := { EpochRec.first with serial := 7 }
    let x : EpochSt → EpochSt := fun p => { p with flight := [c] }
    let f := withEp fun p => { x p with closing := [e] }
    let l := withEp fun p => { x p with closing := [{ e with start := now }] }
    ((withEp x).ep.flight = [c] ∧ c.src = .acquisition ∧ c.ready ≤ ((withEp x).at 0).dial ∧ c.serial ≠ (withEp x).ep.opn.serial ∧
        c.serial ∉ (withEp x).ep.dead ∧ ∀ e ∈ (withEp x).ep.closing, e.serial ≠ c.serial) ∧
      ((withEp fun p => { x p with opn := { e with en := true } }).ep.opn.serial = c.serial ∧
        (withEp fun p => { x p with opn := { e with en := true } }).ep.opn.en = true) ∧
      ((f.ep.closing.find? fun x => x.serial == c.serial) = some e ∧ (f.at 0).pastCommit e = true ∧ (l.at 0).pastCommit { e with start := now } = false) ∧
      c.serial ∈ (withEp fun p => { x p with dead := [7] }).ep.dead ∧
      (f.ep.closing.head? = some e ∧ (f.at 0).commitDue e = true) ∧ (l.ep.closing.head? = some { e with start := now } ∧ (l.at 0).commitDue { e with start := now } = false) := by
  decide

theorem met_PtpMessagesAreCountedAndCalendarFollows :
    ptpSupported (run.fld F.TIME_PTPCTL_DOMAIN) ⟨0, .delayReq, true, true, 0, 1000000000⟩ = false ∧
      ptpSupported (run.fld F.TIME_PTPCTL_DOMAIN) (Announce.msg ⟨0, true, true, 5, 9, [], none, 1000000000, 1000000000⟩) = false ∧
      (ptpSupported 5 ⟨0, .sync, false, true, 5, 125000000⟩ = false ∧ ptpSupported 5 ⟨0, .pdelayReq, true, true, 5, 62499999⟩ = false ∧
        ptpSupported 5 ⟨0, .sync, true, true, 5, 1000000001⟩ = false) ∧
      ptpSupported (run.fld F.TIME_PTPCTL_DOMAIN) ⟨0, .sync, true, true, run.fld F.TIME_PTPCTL_DOMAIN, 125000000⟩ = true ∧
      Tab.get (fun _ => false) { run with host := { run.host with ethUp := [(0, true)] } }.host.ethUp 0 = true ∧
      Tab.get (fun _ => false) run.host.ethUp 0 = false ∧ (withTime fun x => { x with servo := .locked }).time.servo = .locked ∧
      (run.time.rtcAt = none ∧ now - 1000000000 + 1000000000 ≤ (run.at 0).dial ∧ (run.at 0).dial < now - 999999999 + 1000000000) ∧ run.time.servo ≠ .locked := by
  decide

/-- A unit whose Calendar shows a ms. -/
def calAt (ms : Nat) : State :=
  { run.setFld F.TIME_CALCTL_UTCOFS 1 with time := { TimeSt.reset with servo := .locked, mer := (ms * 1000000 + 1000000000) * 2 ^ 40 } }

theorem met_PtpMessagesAreCountedAndCalendarFollows_leap :
    (∀ c ∈ [3599999, 3600000], ((calAt c).setFlag F.TIME_CALCTL_SRC true |>.at 0).calMs = c ∧ ((calAt c).setFlag F.TIME_CALCTL_SRC true).fld F.TIME_CALCTL_UTCOFS < 65535) ∧
      (∀ c ∈ [3598999, 3599000], let s := (calAt c).setFlag F.TIME_CALCTL_SRC true
       (s.at 0).calMs = c ∧ 1 ≤ s.fld F.TIME_CALCTL_UTCOFS ∧ s.time.calFloor = 0 ∧ s.fld F.TIME_CALCTL_UTCOFS * 1000000000 ≤ (s.at 0).merNs) := by decide

/-- A servo that has selected master 9 on port 1. -/
def servo (v : Servo) (f : TimeSt → TimeSt) : State :=
  { run.setFld F.TIME_PTPCTL_PTPEN 1 with time := f { TimeSt.reset with servo := v, sel := some (1, 9) } }
/-- That master as it was last seen. -/
def master : Foreign := ⟨⟨1, true, true, 0, 9, [128], some 37, 1000000000, 125000000⟩, 0, none, 0⟩

theorem met_ServoAndMastersFollowTable2Row3 :
    ptpSupported (run.fld F.TIME_PTPCTL_DOMAIN) ⟨1, .sync, true, true, run.fld F.TIME_PTPCTL_DOMAIN, 125000000⟩ = true ∧
    (let s := servo .acquiring fun x => { x with within := 15 }
     s.time.sel = some (1, 9) ∧ s.flag F.TIME_PTPCTL_PTPEN = true ∧ s.time.servo = .acquiring ∧ s.time.fresh4.length < 3 ∧
       (-16 : Int).natAbs ≤ s.lockThr ∧ 15 ≤ s.time.within) ∧
      (let s := servo .acquiring fun x => { x with fresh4 := [10000000, 10000000, 10000000] }
       s.time.fresh4 = [10000000, 10000000, 10000000] ∧ s.flag F.TIME_PTPCTL_NOSTEP = false ∧
         2 * s.stepThr < (median4x2 10000000 10000000 10000000 10000000).natAbs) ∧
      (servo .acquiring id |>.setFld F.TIME_PTPCTL_NOSTEP 1).flag F.TIME_PTPCTL_NOSTEP = true ∧
      (let s := servo .locked fun x => { x with beyond := 15 }
       s.time.servo = .locked ∧ s.lockThr < (1000000 : Int).natAbs ∧ 15 ≤ s.time.beyond ∧ (0 : Int).natAbs ≤ s.lockThr) ∧
      run.time.sel ≠ some (1, 9) := by decide

theorem met_ServoAndMastersFollowTable2Row3_lost :
    ptpSupported (run.fld F.TIME_PTPCTL_DOMAIN) { master.ann with domain := run.fld F.TIME_PTPCTL_DOMAIN }.msg = true ∧
    (let s := servo .locked fun x => { x with foreign := [master] }
     s.time.sel = some (1, 9) ∧ (∀ f ∈ s.time.foreign, (f.ann.port, f.ann.gm) = (1, 9) → (s.at 0).masterLost f = true) ∧ s.time.servo = .locked) ∧
      (let s := servo .acquiring fun x => { x with foreign := [master], disciplined := true }
       s.time.servo = .acquiring ∧ s.time.disciplined = true) ∧
      (servo .acquiring fun x => { x with foreign := [master] }).time.disciplined = false ∧
      (let s := servo .holdover fun x => { x with u0 := 4294967295 }
       s.time.servo = .holdover ∧ ((s.setWord Reg.TIME_UNCERTLIM 1000#32).word Reg.TIME_UNCERTLIM).toNat < ((s.setWord Reg.TIME_UNCERTLIM 1000#32).at 0).uncert) ∧
      (run.setFld F.TIME_PTPCTL_PTPEN 1).time.servo = .free := by decide

theorem met_TilesCountForwardAndReturnFrames :
    (run.tile 3).powered = false ∧ ((withTile id).tile 3).powered = true ∧ bodyOk (Body.load 0 []) = false ∧
      (bodyOk (inb 0 (.tsync 0)).body = true ∧ (inb 0 (.tsync 0)).inbound = true) ∧
      (bodyOk (out 12 (.cmd 0x22 [0, 0, 0])).body = true ∧ (out 12 (.cmd 0x22 [0, 0, 0])).inbound = false ∧ 2 ≤ (out 12 (.cmd 0x22 [])).hop) ∧
      ((out 2 (.enum 11 1)).body = .enum 11 1 ∧ (out 2 (.enum 11 1)).inbound = false) ∧ tileUp ((withTile id).tile 3) (linkOther 0) = false ∧
      tileUp ((withTile linked).tile 3) (linkOther 0) = true := by decide

/-- The bytes of a BALSET with a mask. -/
def balsetBytes (mask : Nat) : List Nat := List.replicate 10 0 ++ [mask % 256, mask / 256, 208, 7]

theorem met_TilesTakeFramesAndExecuteCommands :
    let s := withTile linked
    let d := withTile fun x => { linked x with rom := false, imgLen := 256, lastSeq := some 5, lastResp := some (inb 0 (.resp 0x21 0 [0, 0])) }
    let c := out 1 (.cmd 0x21 (balsetBytes 0x4005))
    ((out 15 (.sample 0 3 128)).inbound = false ∧ (128).testBit 7 = true ∧ (127).testBit 7 = false) ∧
      ((out 15 (.tsync now)).active = true ∧ (tileIf (s.tile 3) (linkIf 0)).home % 2 = linkEnd 0 ∧ linkIf 0 = (s.tile 3).iface) ∧
      (tileIf (s.tile 3) (linkIf 1)).home % 2 ≠ linkEnd 1 ∧ ((out 1 (.echo 7)).hop = 1 ∧ tileUp (s.tile 3) 1 = true) ∧
      ((List.replicate 256 0).length = 256 ∧ (s.tile 3).rom = true ∧ (d.tile 3).rom = false) ∧
      (32 ≤ (List.replicate 64 0).length ∧ (List.replicate 64 0).length ≤ 64) ∧
      tileInWindow (s.at 0).windowNs ((s.at 0).tileNs (s.tile 3)) (s.tile 3) = false ∧
      (c.inbound = false ∧ c.hop = 1 ∧ 3 ≤ (balsetBytes 5).length ∧ (balsetBytes 5).length ≤ 63 ∧ 3 ≤ (List.replicate 9 0).length) ∧
      ((d.tile 3).lastSeq = some c.seq ∧ (d.tile 3).lastResp = some (inb 0 (.resp 0x21 0 [0, 0])) ∧ (s.tile 3).lastSeq ≠ some c.seq) ∧
      2 ^ ((s.tile 3).ncell + 1) ≤ leNat ([0, 0, 2].take 3) ∧ leNat ([255, 255, 1].take 3) < 2 ^ ((s.tile 3).ncell + 1) ∧
      (leNat (((balsetBytes 0x4005).drop 10).take 2) < 2 ^ (s.tile 3).ncell ∧ breaksNeighbour (leNat (((balsetBytes 0x4005).drop 10).take 2)) = false) ∧
      breaksNeighbour (leNat (((balsetBytes 3).drop 10).take 2)) = true ∧
      (2 ^ ((withTile fun x => { x with ncell := 12 }).tile 3).ncell ≤ leNat (((balsetBytes 4096).drop 10).take 2) ∧
        breaksNeighbour (leNat (((balsetBytes 4096).drop 10).take 2)) = false) := by
  decide

theorem met_TilesTakeFramesAndExecuteCommands_crc :
    32 ≤ (List.replicate 32 0).length ∧ (crc16 (List.replicate 32 0)).toNat ≠ 0 ∧ (crc16 (List.replicate 32 0)).toNat < 65536 := by decide

/-- A sample a tile has taken on, for the instant t. -/
def sched (t left : Nat) : Sched := ⟨t, 1, false, false, false, 0, left, []⟩

theorem met_TilesTurnConvertAndProtect :
    let s := withTile linked
    let d := withTile fun x => { linked x with sched := [sched now 1], armed := true, ovCount := [0, 4], trip := true, calm := 4, sinkCmd := some (3, now, 10), held := [(0, inb 0 (.alert 2 0))] }
    ((tileIf (s.tile 3) (linkIf 0)).home % 2 = linkEnd 0 ∧ (tileIf (s.tile 3) (linkIf 1)).home % 2 ≠ linkEnd 1) ∧
      tileUp (s.tile 3) (linkOther 0) = true ∧ ((withTile id).setRing 0 { Ring.reset with n := 4 }).ring (slotRing 3) = { Ring.reset with n := 3 % 12 + 1 } ∧
      (tileInWindow (s.at 0).windowNs ((s.at 0).tileNs (s.tile 3)) (s.tile 3) = false ∧ tileInWindow (d.at 0).windowNs ((d.at 0).tileNs (d.tile 3)) (d.tile 3) = true) ∧
      ((∀ l < 4, tileUp (d.tile 3) l = true) ∧ (∀ h ∈ (d.tile 3).held, h.1 < 4) ∧ ∀ h ∈ (d.tile 3).held, linkIf h.1 = linkIf 0) ∧
      ((d.tile 3).sched.find? fun e => decide (e.next ≤ (d.at 0).tileNs (d.tile 3))) = some (sched now 1) ∧ 2 ≤ (sched now 16).remaining ∧ (sched now 1).convs = [] ∧
      (∀ e ∈ (s.tile 3).sched, (s.at 0).tileNs (s.tile 3) < e.next) ∧ (s.at 0).tileNs (s.tile 3) < (sched (now + 1) 1).next ∧
      ((d.tile 3).armed = true ∧ 4 ∈ (d.tile 3).ovCount) ∧ ((s.tile 3).armed = false ∧ 4 ∉ (s.tile 3).ovCount) ∧ ((d.tile 3).trip = true ∧ (d.tile 3).calm = 4) ∧
      (s.tile 3).calm ≠ 4 ∧ tileUp (d.tile 3) (tileHomeLink (d.tile 3) (d.tile 3).iface) = true ∧
      deferChange (s.tileAt 0 3) (tileExpiry (s.tileAt 0 3)) ≤ (s.at 0).tileNs (s.tile 3) ∧
      ((d.tile 3).sinkCmd = some (3, now, 10) ∧ now ≤ (d.at 0).tileNs (d.tile 3) ∧ (d.at 0).tileNs (d.tile 3) < now + 1) ∧
      (let b := withTile fun x => { x with bal := some ⟨now, none, 1, false⟩, balAt := now, sw := 1 }
       (b.at 0).tileNs (b.tile 3) < deferChange (b.tileAt 0 3) (tileExpiry (b.tileAt 0 3))) := by decide

theorem met_TilesTurnConvertAndProtect_slot :
    let v : Conversion := ⟨0, [0, 0, 0, 0], []⟩
    let d := withTile fun x => { linked x with result := some (sched (now - 65535000) 0, v) }
    let l := withTile fun x => { linked x with result := some (sched now 0, v) }
    let q := withTile fun x => { linked x with sched := [{ sched now 2 with quiet := true }] }
    ((d.tile 3).result = some (sched (now - 65535000) 0, v) ∧ tileUp (d.tile 3) (tileHomeLink (d.tile 3) (sched 0 0).iface) = true ∧
        (d.at 0).slotTime (d.tile 3) (sched (now - 65535000) 0) ≤ (d.at 0).tileNs (d.tile 3)) ∧
      ((l.tile 3).result = some (sched now 0, v) ∧ (l.at 0).tileNs (l.tile 3) < (l.at 0).slotTime (l.tile 3) (sched now 0)) ∧
      ({ q with ep := { q.ep with ovr := [⟨3, 20⟩, ⟨4, 0⟩] } } : State).quietNow (q.tileNs (q.tile 3)) (q.tile 3) = true := by decide


/-! ### Traverse, Acquisition, balancing -/

theorem met_RingsFollowEnableAndPortLinks :
    let s := (((run.setPort 0 { Port.idle with up := true }).setPort 1 { Port.idle with up := true }).setWord Reg.TRV_CTL 1#32)
    let o := (withPort id).setWord Reg.TRV_CTL 1#32
    let l := fun v => (withRing fun x => { x with state := v }).setWord Reg.TRV_CTL 1#32
    ((1#32).getLsbD 0 = true ∧ (s.fld F.THM_TRIM_RING).testBit 0 = false ∧ (s.ring 0).state = .down ∧ (s.port 0).up = true ∧ (s.port 1).up = true) ∧
      (0#32).getLsbD 3 = false ∧ ((l .closed).ring 0).state ≠ .down ∧
      (o.ringEn 0 = true ∧ (o.ring 0).state = .down ∧ (o.port 0).up = true ∧ (o.port 1).up = false ∧ (o.port 0).upSince + 100000000 ≤ max o.dial 0) ∧
      run.ringEn 3 = false ∧ (run.port 7).up = false ∧ (((l .lost).ring 0).state = .lost ∧ (l .lost).ringEn 0 = true) ∧
      (((o.setRing 0 { Ring.reset with state := .closed }).ring 0).state.running = true ∧ (o.port 1).up = false) ∧
      ((s.setRing 0 { Ring.reset with state := .closed }).ring 0).state = .closed ∧ ({ out 2 (.tsync 0) with turnback := true } : Frame).turnback = true := by
  decide

theorem met_TrainingEnumeratesMeasuresAndEnds :
    let s := withRing fun x => { x with state := .training, k0 := some 12, fails := 2 }
    let m := withRing fun x => { x with state := .training, measuring := true, n := 0, openFrom := some 0 }
    ((out 0 (.enum 12 1)).body = .enum 12 1 ∧ (s.ring 0).state = .training ∧ (s.ring 0).measuring = false ∧ (s.ring 0).openFrom = none ∧
        (s.ring 0).k0 = some 12 ∧ (s.ring 0).fails = 2 ∧ s.ringTiles 0 ≠ 12) ∧
      ((inb 0 (.echor 7 20)).body = .echor 7 20 ∧ (s.known (s.sourceSlot 0 (inb 0 (.echor 7 20)))).fresh = false ∧
        s.echoDone 0 (s.sourceSlot 0 (inb 0 (.echor 7 20))) = false) ∧
      ((m.ring 0).state = .training ∧ (m.ring 0).n ≤ 12 ∧ (m.ring 0).measuring = true ∧ m.delaysOk 0 = true) ∧ (run.ring 3).state ≠ .training := by
  decide

theorem met_RingsArmTileTimeAndAlerts :
    let a := withRing fun x => { x with state := .arming, armAt := some 0, pollAt := some (now - 1000000), tsyncs := 15 }
    let o := ((withRing fun x => { x with state := .openRing, allUp := some 0 }).setPort 0 { Port.idle with up := true }).setPort 1 { Port.idle with up := true }
    let k := (((a.setAcqSlot 0 { AcqSlot.reset with ncell := 16 }).modRing 0 fun x => { x with n := 1 }).setFld (F.TRV_RINGSTS_K0 0) 1).setKnown 0 { TileKnown.reset with booted := true, armOk := true }
    ((a.ring 0).state = .arming ∧ (a.ring 0).armAt.isSome = true ∧ (a.ring 0).pollAt = some (now - 1000000) ∧ now - 1000000 + 1000000 ≤ (a.at 0).dial) ∧
      (0 ∈ k.activeSlots 0 ∧ (k.known 0).booted = true ∧ (k.known 0).armOk = true) ∧ ((run.ring 3).state ≠ .arming ∧ (run.ring 3).armAt = none) ∧
      (a.at 0).dial < now - 999999 + 1000000 ∧
      ((o.ring 0).state = .openRing ∧ (o.ring 0).checking = false ∧ (o.at 0).mayRestore 0 = true) ∧
      ((run.ring 3).state ≠ .openRing ∧ (run.ring 3).state ≠ .degraded ∧ (a.at 0).mayRestore 0 = false) ∧
      ((run.at 0).dial % 1000000 = 0 ∧ run.trv.tsyncAt = none ∧ (run.at (now + 1)).dial % 1000000 ≠ 0) ∧
      ((k.ring 0).checking = false ∧ 15 ≤ (k.ring 0).tsyncs ∧ ((k.setPort 0 { Port.idle with up := true }).port 0).up = true) ∧
      ((o.setRing 0 { Ring.reset with state := .closed }).ring 0).state.running = true ∧ (o.setRing 0 { Ring.reset with state := .lost }).ring 0 = { Ring.reset with state := .lost } := by
  decide

theorem met_RingsArmTileTimeAndAlerts_closes :
    let c := (((withRing fun x => { x with state := .degraded, allUp := some 0, n := 12, checking := true, aim := .restore, k0 := some 12 }).setPort 0 { Port.idle with up := true }).setPort 1 { Port.idle with up := true })
    let u := c.setTile 3 (linked { Tile.unpowered with powered := true })
    (out 3 (.enum 12 1)).body = .enum (c.ring 0).n 1 ∧ (c.ring 0).checking = true ∧ (c.ring 0).aim = .restore ∧ (c.ring 0).state = .degraded ∧
      (c.ring 0).k0 = some (c.ring 0).n ∧ 1 ≤ (c.ring 0).n ∧ (c.ring 0).n ≤ 12 ∧ (u.tile 3).powered = true := by decide

theorem met_AlertsAndBootsReachTheirTiles :
    let b := withTile fun x => { x with imgOk := true }
    let c := (withPort id).setRing 0 { Ring.reset with state := .closed, n := 12 }
    let f := fun code => inb 11 (.alert code 0)
    ((b.tile 3).powered = true ∧ (b.tile 3).rom = true ∧ (b.tile 3).imgOk = true) ∧ ((withTile id).tile 3).imgOk = false ∧ (run.tile 3).powered = false ∧
      (c.sourceSlot 0 (f 3) < 48 ∧ slotRing (c.sourceSlot 0 (f 3)) = 0 ∧ (f 3).body = .alert 3 0) ∧ ((f 1).body = .alert 1 0 ∧ (c.ring 0).state = .closed ∧ (c.port 0).up = true) ∧
      (run.ring 0).state = .down ∧ (f 4).body = .alert 4 0 ∧ ((f 2).body = .alert 2 0 ∧ 2 ≠ 1 ∧ 2 ≠ 3 ∧ 2 ≠ 4) ∧
      (let a := c.setAcqSlot 0 { AcqSlot.reset with ncell := 16 }
       (a.ring 0).state.running = true ∧ a.sourceSlot 0 (inb 0 (.alert 2 0)) < 12 * 0 + a.ringTiles 0) ∧
      (¬ ((run.ring 0).state.running = true ∨ (run.ring 0).state = .arming ∨ (run.ring 0).state = .loading)) ∧ 12 * 0 + c.ringTiles 0 ≤ c.sourceSlot 0 (f 2) := by
  decide

/-- A CMD that has been sent at an instant. -/
def sentCmd (u : CmdUse) (r at_ : Nat) : Outst := ⟨out 12 (.cmd 0x21 [0, 0, 0]), u, r, some at_⟩

theorem met_TileCommandsAreRetriedAndReported :
    let o := sentCmd (.balset 47 5) 1 0
    let s := (withPort fun x => { x with busy := some (out 12 (.cmd 0x21 [0, 0, 0])), queue := [out 1 (.cmd 0x22 [0, 0, 0])], outst := [o] }).setRing 0 { Ring.reset with state := .closed, n := 12 }
    let d := withPort fun x => { x with outst := [sentCmd (.balset 47 5) 2 0] }
    let q := run.setPort 1 { Port.idle with outst := [o] }
    (run.port 0).busy = none ∧ (s.port 0).busy = some (out 12 (.cmd 0x21 [0, 0, 0])) ∧ (s.port 0).queue = [out 1 (.cmd 0x22 [0, 0, 0])] ∧ s.findOutst 0 5 = some o ∧
      ((s.at 0).cmdTimedOut (0 / 2) o = true ∧ o.retries < 2 ∧ 1 ≤ o.frame.hop ∧ o.frame.hop ≤ 12 ∧ (s.ring (0 / 2)).state ≠ .down ∧ (s.port 0).busy.isSome = true) ∧
      (s.at 0).cmdTimedOut (0 / 2) (sentCmd (.balset 47 5) 1 now) = false ∧
      ((d.at 0).cmdTimedOut (0 / 2) (sentCmd (.balset 47 5) 2 0) = true ∧ 2 ≤ (sentCmd (.balset 47 5) 2 0).retries ∧ d.findOutst 0 5 = some (sentCmd (.balset 47 5) 2 0)) ∧
      ((inb 0 (.resp 0x21 1 [0, 0])).body = .resp 0x21 1 [0, 0] ∧ (inb 0 (.resp 0x21 1 [0, 0])).seq = 5 ∧ 2 ≤ [0, 0].length ∧ o.frame.body = .cmd 0x21 [0, 0, 0] ∧ o.use = .balset 47 5 ∧ (sentCmd (.dieTemp 47) 0 0).use = .dieTemp 47) ∧
      (let l := s.setKnown (s.sourceSlot 0 (inb 0 (.resp 0 1 [0, 0]))) { TileKnown.reset with loadFails := 2 }
       2 ≤ (l.known (l.sourceSlot 0 (inb 0 (.resp 0 1 [0, 0])))).loadFails ∧ l.sourceSlot 0 (inb 0 (.resp 0 1 [0, 0])) < 48) ∧
      (out 15 (.tsync 0)).hop ≠ 0 ∧ (out 12 (.enum 3 0)).body = .enum 3 0 ∧ q.findOutst (if 0 % 2 = 0 then 0 + 1 else 0 - 1) 5 = some o := by
  decide

/-- A snapshot with SEQ 9 that waits for its SNAPRs. -/
def snap9 : Snap := ⟨9, 1000, false, false, 0, none, 2000, [], some (5, true), none⟩
def withSnap (f : AcqSlot → AcqSlot) : State := { withSlot f with acq := { (withSlot f).acq with snaps := [snap9] } }

theorem met_SnaprsAreAcceptedOnlyUnderR116 :
    let f := inb 1 (.snapr 9 true false false false 0 0 [0, 0, 0, 0] (List.replicate 16 0))
    let s := (withSnap id).setRing 0 { Ring.reset with state := .closed, n := 12 }
    let e := (withSnap fun x => { x with ncell := 12 }).setRing 0 { Ring.reset with state := .closed, n := 12 }
    let k := s.sourceSlot 0 { f with hop := 2 }
    (k = 2 ∧ [0, 0, 0, 0].length = 4 ∧ (List.replicate 16 0).length ≤ 81 ∧ 0 = s.fld F.LDS_CFG_PROFCRC) ∧ 1 ≠ s.fld F.LDS_CFG_PROFCRC ∧
      (s.snapOpen 9 = true ∧ (s.acqSlot k).inService = true ∧ (s.acqSlot k).ncell = (List.replicate 16 0).length ∧
        Tab.get (fun _ => none) snap9.got k = none) ∧ s.snapOpen 8 = false ∧
      (e.snapOpen 9 = true ∧ (e.acqSlot k).inService = true ∧ (e.acqSlot k).ncell ≠ 0 ∧ (e.acqSlot k).ncell ≠ (List.replicate 16 0).length) := by
  decide

theorem met_CodesAreTakenAndSnapshotsClose :
    let s := { withSnap id with ep := { run.ep with opn := { EpochRec.first with start := 0, period := 10000000 } } }
    let i := { s with dial := 0, acq := { s.acq with snaps := [snap9], slots := [] } }
    let w := { withSnap id with dial := 0, acq := { (withSnap id).acq with snaps := [{ snap9 with code0 := none }] } }
    (snap9 ∈ s.acq.snaps ∧ snap9.seq = 9 ∧ (s.modSt 1).fault = false ∧ (s.at 0).spanEnd 1 snap9 ≤ (s.at 0).dial) ∧
      (i.at 0).dial < (i.at 0).spanEnd 1 snap9 ∧ (∀ c ∈ run.acq.snaps, c.seq ≠ 9) ∧
      (s.acq.snaps.find? (fun c => c.seq == 9) = some snap9 ∧ (s.at 0).mayClose snap9 = true) ∧ (i.at 0).mayClose snap9 = true ∧
      (w.at 0).mayClose { snap9 with code0 := none } = false ∧ (snap9.serial <|> (s.epochOf 1000).map (·.serial)) = some s.acq.serial ∧
      ((s.acqSlot 2).ncell ≠ 0 ∧ Tab.get (fun _ => none) snap9.got 2 = none ∧ (s.acqSlot 2).inService = true) ∧
      15 ≤ ((withSlot fun x => { x with missed := 15 }).acqSlot 2).missed := by decide

/-- An open-wire test of the sweep's even wires. -/
def owTest : OwTest := ⟨.sweepEven, 0x15555, now, 10, 10, false, true, none, some now⟩

theorem met_OpenWireTestsAndApply :
    let s := withSlot fun x => { x with test := some owTest, sweep := true, last := some ⟨true, false, false, 0, [], []⟩ }
    ((s.acqSlot 2).test = some owTest ∧ owTest.s0 ≤ max s.dial 0 ∧ owTest.respOk = false ∧ (s.acqSlot 2).inService = true ∧ (s.acqSlot 2).last.isSome = true ∧
        (s.acqSlot 2).sweep = true ∧ (s.acqSlot 2).sweepOdd = false) ∧
      ((withSlot fun x => { x with test := some owTest, inService := false }).acqSlot 2).inService = false ∧
      ((s.at 0).dial < ({ owTest with s0 := now + 1 } : OwTest).s0 ∧ noTestSnap (s.at 0).dial { owTest with s0 := now + 1 } = false ∧
        noTestSnap (s.at 0).dial { owTest with s0 := now - 1000000000, respOk := true, fin := none } = true) ∧
      (owTest.fin = some now ∧ owTest.decided = true ∧ now ≤ max s.dial 0) ∧ ({ owTest with fin := none } : OwTest).fin = none ∧
      ((0x002F0001#32).getLsbD 0 = true ∧ getBits 0x002F0001#32 16 6 < 48) ∧ (0x002F0000#32).getLsbD 0 = false ∧
      ((1#32).getLsbD 0 = true ∧ (run.setFld F.ACQ_CTL_NPOS (getBits 1#32 16 10)).applyOk = true) ∧
      (run.setFld F.ACQ_CTL_NPOS (getBits 0x00010001#32 16 10)).applyOk = false := by decide

theorem met_PhasesStartStopAndSendMasks :
    let s := { withSlot id with bal := { BalSt.reset with next := [(some 1, now, some (now + 1))] } }
    let p := { withSlot id with bal := { BalSt.reset with phase := some 1, fin := some now } }
    (s.bal.next = [(some 1, now, some (now + 1))] ∧ now ≤ max s.dial 0 ∧ s.activeRole = true ∧ s.updPaused = false ∧ (s.acqSlot 2).inService = true) ∧
      (max s.dial 0 < now + 1) ∧ (s.acqSlot 47).inService = false ∧
      (withBal fun x => { x with next := [(none, now, none)] }).bal.next = [(none, now, none)] ∧ run.bal.next = [] ∧
      (p.bal.sentAt + 1000000000 ≤ (p.at 0).dial ∧ (withBal fun x => { x with phase := some 0 }).bal.fin = none ∧ (withBal fun x => { x with phase := some 0, sentAt := now }).bal.sentAt = now) ∧
      (run.bal.pollAt = none ∧ (withBal fun x => { x with pollAt := some (now - 999999999) }).bal.pollAt = some (now - 999999999) ∧ (run.at 0).dial < now - 999999999 + 1000000000) ∧
      (p.bal.phase = some 1 ∧ p.bal.fin = some now ∧ now ≤ max p.dial 0) ∧ (run.bal.phase = none) ∧
      (run.setFld F.BAL_CTL_EN 1).flag F.BAL_CTL_EN = true ∧ run.flag F.BAL_CTL_EN = false ∧
      (let u := withBal fun x => { x with slots := [(47, { BalSlot.reset with unsure := true, okAt := now - 2000000000 })] }
       (u.balSlot 47).unsure = true ∧ (u.balSlot 47).okAt + 2000000000 ≤ max u.dial 0) ∧ (run.balSlot 47).unsure = false := by decide

/-! ### Almanac -/

/-- Watch 1 READY in the active role, with the word of i at its PC. -/
def issuing (i : Instr) (f : Watch → Watch) : State :=
  { run.setWatch 1 (f { Watch.reset with st := .ready }) with
    alm := { (run.setWatch 1 (f { Watch.reset with st := .ready })).alm with pmem := [(0, (almEncode i).getD 0)] } }
/-- Do watch 1, changed by f, and its word meet Issues? -/
def meets (i : Instr) (f : Watch → Watch) : Bool :=
  !(((issuing i f).at 0).revive 1).1 && ((issuing i f).at 0).issues 1 && almEncode i == some (((issuing i f).at 0).fetched 1)

theorem met_ArithmeticGivesResultAndFlags :
    ∀ i ∈ [Instr.almAdd 0 1 15 1 2, .almSub 0 1 15 1 2, .almAnd 0 1 15 1 2, .almOr 0 1 15 1 2, .almXor 0 1 15 1 2, .almSll 0 1 15 1 2,
      .almSrl 0 1 15 1 2, .almSra 0 1 15 1 2, .almMul 0 1 15 1 2, .almMulh 0 1 15 1 2, .almMin 0 1 15 1 2, .almMax 0 1 15 1 2,
      .almClamp 0 1 15 1 2 3, .almAddi 0 1 15 1 262143, .almAndi 0 1 15 1 262143, .almOri 0 1 15 1 262143, .almSlli 0 1 15 1 31,
      .almSrli 0 1 15 1 31, .almSrai 0 1 15 1 31, .almLui 0 1 15 262143], meets i id = true := by decide

theorem met_LoadsStoresBranchesAndJumps :
    (∀ i ∈ [Instr.almLdw 0 1 15 1 262143, .almStw 0 1 15 1 262143, .almLds 0 1 15 1 262143, .almRdt 0 1 15 0 5, .almRdt 0 1 15 0 6, .almRdt 0 1 15 1 0,
      .almRdt 0 1 15 2 2, .almRdt 0 1 15 2 5, .almRdt 0 1 15 2 1, .almRdt 0 1 15 2 7, .almRdt 0 1 15 3 0, .almBeq 0 1 1 2 65535,
      .almBne 0 1 1 2 65535, .almBlt 0 1 1 2 65535, .almBge 0 1 1 2 65535, .almBltu 0 1 1 2 65535, .almBgeu 0 1 1 2 65535, .almBfs 0 1 3 65535,
      .almBfc 0 1 3 65535, .almJal 0 1 15 65535, .almJr 0 1 1], meets i id = true) ∧
      (let s := issuing (.almLdw 0 1 15 1 0) fun x => { x with g := [(1, 0x1FFFC#32)] }
       (dataAddr s 1 1 0).toNat % 4 = 0 ∧ (dataAddr s 1 1 0).toNat ≤ 0x1FFFF ∧ 0x1FFFF < (dataAddr s 1 1 4).toNat ∧
         (dataAddr s 1 1 1).toNat % 4 ≠ 0 ∧ (dataAddr s 1 0 0).toNat % 4 = 0 ∧ inSpace (dataAddr s 1 0 0).toNat = true ∧
         inSpace 0x200000 = false ∧ s.alm.accCyc ≠ (s.at 0).fab) := by decide

/-- Watch 1 has stored in this cycle, and watches 0 and 2 load the same word. -/
theorem met_LoadsStoresBranchesAndJumps_order :
    ∀ x ∈ [0, 2],
      let s := { issuing (.almStw 0 1 2 0 4) id with alm := { (issuing (.almStw 0 1 2 0 4) id).alm with
        watches := Tab.set (fun _ => Watch.reset) (issuing (.almStw 0 1 2 0 4) id).alm.watches x { Watch.reset with st := .ready, pc := 1 }
        pmem := [(0, (almEncode (.almStw 0 1 2 0 4)).getD 0), (1, (almEncode (.almLdw 0 x 3 0 4)).getD 0)] } }
      (match exec (.almStw 0 1 2 0 4) s with
        | .next u => !((u.at 0).revive x).1 && (u.at 0).issues x && almEncode (.almLdw 0 x 3 0 4) == some ((u.at 0).fetched x)
        | _ => false) = true ∧ dataAddr s x 0 4 = dataAddr s 1 0 4 := by decide

theorem met_TargetsMessagesAndPorts :
    (∀ i ∈ [Instr.almAt 0 1 1 15 3 1048575, .almAt 0 1 2 15 0 131071, .almAt 0 1 2 15 0 131072, .almAt 0 1 5 15 3 17179, .almAt 0 1 5 15 3 17180,
      .almAt 0 1 7 15 0 0, .almAtr 0 1 7 15 0 0, .almTcmp 0 1 6 15 0 0, .almAtr 0 1 0 15 0 0, .almAtr 0 1 1 15 0 0, .almAtr 0 1 2 15 0 131071,
      .almAtr 0 1 5 15 3 17180, .almTcmp 0 1 2 15 0 131071, .almTcmp 0 1 2 15 0 131072, .almTcmp 0 1 1 15 0 0, .almPost 0 1 1023 1 2,
      .almRing 0 1 23, .almRing 0 1 24, .almMbxSend 0 1 1, .almMbxReceive 0 1 15, .almStcLockAcquire 0 1 15 15, .almStcLockRelease 0 1 15,
      .almStcAwait 0 1 1], meets i id = true) ∧
      (17179 * [1, 16, 1000, 1000000].getD 3 0 < 2 ^ 34 ∧ 2 ^ 34 ≤ 17180 * [1, 16, 1000, 1000000].getD 3 0) ∧
      ((run.watch 1).ltBase = 0 ∧ (issuing (.almAtr 0 1 2 15 0 0) fun x => { x with ltBase := 2 }).watch 1 = { Watch.reset with st := .ready, ltBase := 2 }) ∧
      run.carrierRun = false ∧ ringHeld (run.fld F.HOST_POSTPI_INDEX) (run.fld F.HOST_POSTCI_INDEX) < 256 ∧
      256 ≤ ringHeld ((run.setFld F.HOST_POSTPI_INDEX 256).fld F.HOST_POSTPI_INDEX) (run.fld F.HOST_POSTCI_INDEX) ∧
      run.flag (d2hFull 3) = false ∧ (run.setFlag (d2hFull 3) true).flag (d2hFull 3) = true ∧
      ((run.setFlag (h2dFull 3) true).flag (h2dFull 3) = true ∧ run.pilot.relay = []) ∧ ((run.at 0).lockHolder 15 = 0 ∧ (run.at 0).lockWinner 3 15 = 3) ∧
      (let p := { run with pending := [.lockAcquire now .pilot 15] }
       (p.at 0).lockHolder 15 = 0 ∧ (p.at 0).lockWinner 3 15 ≠ 3) ∧
      (((run.setLock 15 4).at 0).lockHolder 15 ≠ 0 ∧ ((run.setLock 15 4).at 0).lockHolder 15 ≠ 3 ∧ ((run.setLock 15 4).at 0).lockHolder 15 < 8) ∧
      (((run.setLock 15 3).at 0).lockHolder 15 = 3 ∧ (run.setLock 15 3).lockOwner 15 = 3) := by decide

/-- A watch that waits. -/
def waiting (w : Wait) (f : Watch → Watch) : State := run.setWatch 1 (f { Watch.reset with st := .waiting, wait := some w })

theorem met_WatchesWaitStartStopAndFault :
    (∀ i ∈ [Instr.almWaitev 0 1 15 false 2 0, .almWaitev 0 1 15 false 3 0, .almWaitev 0 1 15 false 6 2, .almWaitev 0 1 15 false 1 0, .almWaitev 0 1 15 false 4 4095,
      .almWaitev 0 1 15 false 5 63, .almWaitev 0 1 15 false 0 0, .almWaitev 0 1 15 true 2 0, .almFence 0 1 false, .almFence 0 1 true,
      .almSpawn 0 1 1 2 65535, .almKill 0 1 1, .almYield 0 1, .almHalt 0 1], i.wf = true ∧ meets i id = true) ∧
      (issuing (.almWaitev 0 1 15 false 1 0) fun x => { x with slots := [⟨0, 0, none, .excStop, 0, false⟩] }).watch 1 =
        { Watch.reset with st := .ready, slots := [⟨0, 0, none, .excStop, 0, false⟩] } ∧
      run.carrierRun = false ∧ (run.setFlag (evFld 63) true).flag (evFld 63) = true ∧ run.flag (evFld 63) = false ∧
      (run.at 0).evWokeNow 63 = false ∧
      ({ run with alm := { run.alm with evWoke := [(63, fabCycle now + 1)] } } : State).evWokeNow 63 = true ∧
      (run.watch 1).ltBase = 0 ∧ (Instr.almWaitev 0 1 15 true 6 2).wf = true := by decide

theorem met_WatchesWaitStartStopAndFault_ends :
    dist40 ((now - 1) % 2 ^ 40) ((run.at 0).shortTime 0) < 0 ∧ dist40 (now % 2 ^ 40) ((run.at 0).shortTime 0) = 0 ∧
      0 < dist40 ((now + 1) % 2 ^ 40) ((run.at 0).shortTime 0) ∧
      (let s := waiting ⟨.event 15 5 63 true, 0, none, some ⟨some 63#32, false, false⟩, 0, false⟩ id
       (s.watch 1).wait = some ⟨.event 15 5 63 true, 0, none, some ⟨some 63#32, false, false⟩, 0, false⟩) ∧
      ((waiting ⟨.event 15 2 0 false, 1, none, none, 0, false⟩ id).watch 1).wait = some ⟨.event 15 2 0 false, 1, none, none, 0, false⟩ ∧
      (∀ w ∈ [Wait.plain .fence, Wait.plain .slot], ((waiting w id).watch 1).wait = some w ∧ ((waiting w id).watch 1).slots.length < 2) ∧
      (let s := waiting ⟨.event 15 0 0 false, 1, some now, none, 0, true⟩ fun x => { x with ltBase := 2 }
       (s.watch 1).wait = some ⟨.event 15 0 0 false, 1, some now, none, 0, true⟩ ∧ 2 ≤ (s.watch 1).ltBase ∧ now ≤ (s.at 0).dial ∧ (s.at 0).dial < now + 1) ∧
      ((run.watch ((run.greg 1 1).toNat % 64)).st = .halted ∧ (∀ d ∈ (run.at 0).dyingNow, d.w ≠ 0) ∧ (run.at 0).spawnNow 0 = none) ∧
      ((waiting (Wait.plain .fence) id).watch 1).st ≠ .halted ∧
      (let s := { run.setWatch 1 { Watch.reset with st := .ready } with alm := { (run.setWatch 1 { Watch.reset with st := .ready }).alm with pmem := [] } }
       ((s.at 0).revive 1).1 = false ∧ (s.at 0).issues 1 = true ∧ almDecode 0 1 (s.fetched 1) = none) ∧ (run.at 0).issues 1 = false := by decide

theorem met_WatchesWaitStartStopAndFault_same_cycle :
    let e : Spawned := ⟨0, 2, fabCycle now, Watch.reset⟩
    let i := Instr.almSpawn 0 1 1 2 65535
    let s := { issuing i id with alm := { (issuing i id).alm with spawned := [e] } }
    let d := { issuing i id with alm := { (issuing i id).alm with dying := [⟨0, fabCycle now, Watch.reset, 0⟩] } }
    ((s.at 0).spawnNow ((s.greg 1 1).toNat % 64) = some e ∧ 1 < e.by_ ∧ e.by_ ≠ 0 ∧ ({ e with by_ := 0 } : Spawned).by_ ≤ 1 ∧ (∀ x ∈ (s.at 0).dyingNow, x.w ≠ 0)) ∧
      (∃ x ∈ (d.at 0).dyingNow, x.w = 0) ∧ ((s.at 0).revive 1).1 = false ∧ (s.at 0).issues 1 = true ∧ (d.at 0).issues 1 = true := by decide

/-- Watch 1 with two pending actions. -/
def full (x : Watch) : Watch := { x with slots := [⟨0, 0, none, .excStop, 0, false⟩, ⟨0, 0, none, .excStop, 1, false⟩] }

theorem met_TimedActionsTakeSlotsLaunchOrActAtOnce :
    (∀ i ∈ [Instr.almBalPhaseStart 0 1 true 3 1, .almBalStop 0 1 true, .almExcStart 0 1 true 15 1, .almExcStop 0 1 true 15, .almSetpHosti 0 1 true 1,
      .almSetpHostv 0 1 true 1, .almSetpClass 0 1 true 1, .almTrigSet 0 1 true 63, .almTrigClear 0 1 true 63, .almTrigMark 0 1 true 1,
      .almStcCan 0 1 true 2 1, .almStcPmc 0 1 true 3],
      (i.wf = true ∧ meets i full = true ∧ meets i id = true ∧ 2 ≤ ((issuing i full).watch 1).slots.length ∧ ((issuing i id).watch 1).slots.length < 2) ∧
        (timedAct (issuing i full) i).map (fun p => (p.1, p.2.1)) = some (1, true)) ∧
      (0 ≤ dist40 (now % 2 ^ 40) (max run.dial (almInstant (.almBalStop 0 1 true)) % 2 ^ 40)) ∧
      (let s := issuing (.almStcCan 0 1 true 2 1) fun x => { x with g := [(1, 0x1FFB8#32)] }
       (s.greg 1 1).toNat % 4 = 0 ∧ (s.greg 1 1).toNat ≤ 0x1FFB8) ∧
      (let s := issuing (.almStcCan 0 1 true 2 1) fun x => { x with g := [(1, 0x1FFBC#32)] }
       0x1FFB8 < (s.greg 1 1).toNat) := by decide

theorem met_TimedActionsTakeSlotsLaunchOrActAtOnce_at_once :
    (∀ i ∈ [Instr.almBalPhaseStart 0 1 false 3 1, .almBalStop 0 1 false, .almExcStart 0 1 false 15 1, .almExcStop 0 1 false 15, .almSetpHosti 0 1 false 1,
      .almSetpHostv 0 1 false 1, .almSetpClass 0 1 false 1, .almTrigSet 0 1 false 63, .almTrigClear 0 1 false 63, .almTrigMark 0 1 false 1,
      .almStcCan 0 1 false 2 1, .almStcPmc 0 1 false 3], i.wf = true ∧ meets i id = true) ∧
      (run.setFld F.BAL_CTL_EN 1).flag F.BAL_CTL_EN = true ∧ run.flag F.BAL_CTL_EN = false ∧ run.excCode 15 false ≠ 0 ∧ run.azm.win = none ∧
      (run.greg 1 1).toNat ≤ 2 ∧ 2 < (3#32).toNat ∧ run.log.queue.length < 64 ∧ (∀ k < 64, (run.at 0).hears k (fun c a => c == 5 && a == 63) = false) ∧ (run.at 0).evWokeNow 63 = false ∧
      ((waiting ⟨.event 15 5 63 false, 64, none, none, 0, false⟩ id).at 0).waits 1 (fun c a => c == 5 && a == 63) = true ∧
      run.descBad 2 (List.replicate 18 0) = false ∧ (run.can1 2).queue.length < 16 ∧ run.descBad 0 (List.replicate 18 0xFFFFFFFF) = true := by decide

theorem met_SnapIsAcceptedOrRefused :
    meets (.snap 0 1 15) id = true ∧ meets (.snap 0 1 15) (fun x => { x with ltBase := 2 }) = true ∧
      (let s := issuing (.snap 0 1 15) fun x => { x with lt := (now + 5) % 2 ^ 40 }
       (s.watch 1).ltBase = 0 ∧ ((max s.dial 0 : Nat) : Int) + dist40 (s.watch 1).lt (max s.dial 0 % 2 ^ 40) = (now + 5 : Nat) ∧
         s.acq.lastTarget = none ∧ s.acq.nextSeq < 65536) ∧
      now + 5 < now + 1000 * run.tminFor run.ovs := by decide

theorem met_ProgramsLoadStartAndWindowsAct :
    (1#32).getLsbD 0 = true ∧ (2#32).getLsbD 1 = true ∧ (run.setFld F.ALM_CTL_RUN 1).flag F.ALM_CTL_RUN = true ∧ (run.flag F.ALM_CTL_RUN = false ∧ run.pmCrc = run.word Reg.ALM_PMEXP) ∧
      (run.setWord Reg.ALM_PMEXP 1).pmCrc ≠ (run.setWord Reg.ALM_PMEXP 1).word Reg.ALM_PMEXP ∧
      (∀ w < 64, (run.at 0).hears w (fun c a => c == 5 && a == 32 * 1 + 31) = false) ∧ (run.at 0).evWokeNow 63 = false ∧
      ((waiting ⟨.event 15 5 63 false, 64, none, none, 0, false⟩ id).at 0).waits 1 (fun c a => c == 5 && a == 32 * 1 + 31) = true ∧
      run.alm.accCyc ≠ (run.at 0).fab := by decide

/-- The host has read a word of data memory, and watch 1 stores to it in the same cycle. -/
theorem met_ProgramsLoadStartAndWindowsAct_order :
    let i := Instr.almStw 0 1 2 0 4
    (match exec (.dataMemoryAccess 0 .pcie false 1 0) (issuing i id) with
      | .next u => !((u.at 0).revive 1).1 && (u.at 0).issues 1 && almEncode i == some ((u.at 0).fetched 1)
      | _ => false) = true ∧ (dataAddr (issuing i id) 1 0 4).toNat = 4 * (1 % 32768) ∧ (issuing i id).alm.accCyc ≠ ((issuing i id).at 0).fab := by decide

/-! ### Sextant, Azimuth, Helm -/

def withSxt (f : SxtSt → SxtSt) : State := { run with sxt := f run.sxt }
/-- An update of the contexts whose position 0 has a valid reading. -/
def sxtJob : SxtJob := ⟨1000, none, [], [], 1, [⟨some 330000, false, 0, none⟩], [], 0, false, false, none, [], [], []⟩

theorem met_ContextsUpdateOnceAndTheWindowWrites :
    let s := { withSxt fun x => { x with jobs := [sxtJob] } with acq := { run.acq with npos := 1 } }
    let w := (run.setWord (masterKey (masterId .pcie) Reg.SXT_WIN) 0x80000003#32).setCxWord 1023 0 0x40000000#32
    let m := run.setWord (masterKey (masterId .pcie) Reg.SXT_WIN) 0x80000004#32
    run.sxt.jobs.find? (fun j => j.waits 639) = none ∧ s.sxt.jobs.find? (fun j => j.waits 0) = some sxtJob ∧ sxtJob.done.contains 0 = false ∧
      (s.sxtReady sxtJob 0 = true ∧ s.sxtReady sxtJob 639 = false) ∧ (0 < 976 ∧ (sxtJob.cells.getD 0 ⟨none, false, 7, none⟩).reading.isSome = true) ∧
      getBits (run.word (masterKey (masterId .pcie) Reg.SXT_WIN)) 31 1 = 0 ∧
      (getBits (w.word (masterKey (masterId .pcie) Reg.SXT_WIN)) 31 1 = 1 ∧ getBits (w.word (masterKey (masterId .pcie) Reg.SXT_WIN)) 0 3 = 3 ∧
        (0x20000 * 3 + 0x1FFFC) / 0x200 = 1023 ∧ w.cxKind 1023 ≠ 0 ∧ w.flag F.SXT_CTL_EN = false ∧ w.cxKind 0 = 0) ∧
      (let h := { sxtJob with done := [0], held := [(0, [])] }
       let v := { s with sxt := { s.sxt with jobs := [h] } }
       v.sxt.jobs.find? (fun j => j.waits 0) = some h ∧ v.sxtReady h 0 = true ∧ h.done.contains 0 = true) ∧
      (sxtJob.cells.getD 0 ⟨none, false, 7, none⟩).reading.isSome = true ∧ s.dscReady = false ∧ (s.modSxt fun x => { x with use := [(0x20000, 1#32)] }).dscReady = true ∧
      (w.setFld F.SXT_CTL_EN 1).flag F.SXT_CTL_EN = true ∧ getBits (m.word (masterKey (masterId .pcie) Reg.SXT_WIN)) 0 3 = 4 := by decide

theorem met_JournalSavesAndLearnedValues :
    run.sxt.trig = none ∧ (withSxt fun x => { x with save := some (1, List.replicate 8 0), trig := some 1, hold := true }).sxt.trig = some 1 ∧
      (let s := withSxt fun x => { x with trig := some 4, hold := true }
       s.sxt.trig = some 4 ∧ s.sxt.save = none ∧ s.newestSlot = none) ∧ (run.sxt.hold = false ∧ run.sxt.save = none) ∧
      (let s := withSxt fun x => { x with save := some (1, List.replicate 8 0) }
       s.sxt.save = some (1, List.replicate 8 0) ∧ (List.replicate 8 0).length = 8 ∧ s.pwr.shut = false ∧ s.pilot.waiting = []) ∧
      (let s := { withSxt fun x => { x with save := some (1, List.replicate 8 0) } with pwr := { run.pwr with shut := true, shutAt := now - 2000001 } }
       s.pwr.shut = true ∧ s.pwr.shutAt + 2000000 < max s.dial 0) ∧
      (let s := run.setFld F.SXT_LRNCFG_JPERIOD 1
       s.sxt.savedAt + s.fld F.SXT_LRNCFG_JPERIOD * 3600000000000 ≤ max s.dial 0 ∧ ({ s with acq := { s.acq with npos := 1 } } : State).journalMode = true ∧ s.journalMode = false) ∧
      (let s := run.setFld F.SXT_LRNCFG_JPERIOD 2
       max s.dial 0 < s.sxt.savedAt + s.fld F.SXT_LRNCFG_JPERIOD * 3600000000000) := by decide

/-- A unit in the profile INDIGO with Azimuth enabled. -/
def indigo : State := (({ run with ep := { run.ep with prof := 2 }, time := { run.time with mer := 5 * azmBlock } }.setFld F.AZM_CTL_EN 1).setFld F.HLM_IRATED_IRATED 200)
def azmW : AzmWin := ⟨Plan.none_, 15, 0, some 1, false⟩

theorem met_WindowsStartEndAndYieldBlocks :
    run.ep.prof ≠ 2 ∧
      (indigo.ep.prof = 2 ∧ indigo.flag F.AZM_CTL_EN = true ∧ indigo.activeRole = true ∧ indigo.azm.win = none ∧ indigo.azm.susp = false ∧
        (indigo.at 0).time.mer < (indigo.at 0).time.mer / azmBlock * azmBlock + 2 ^ 41) ∧ indigo.excCode (indigo.fld F.AZM_CTL_CPLAN) true ≠ 0 ∧
      (let s := { run with azm := { run.azm with win := some azmW } }
       s.azm.win = some azmW ∧ azmW.len = some 1 ∧ azmW.t0 + 1 * merMs ≤ (s.at 0).time.mer) ∧
      (run.at 0).time.mer < (run.at 0).time.mer + 1 * merMs ∧ run.azm.win = none ∧ (run.at 0).azmDue = none ∧
      (let r : AzmResult := ⟨[], false, [], 0, 0, []⟩
       let j : AzmJob := ⟨azmW, 0, 0, [], false, true, some 0, none, some r⟩
       (({ run with azm := { run.azm with jobs := [j] } } : State).at 0).azmDue = some (j, r)) := by decide

theorem met_WindowsStartEndAndYieldBlocks_accepts :
    { indigo with azm := { indigo.azm with plans := [(15, ⟨0x01000000#32, List.replicate 8 0⟩)] } }.excCode 15 true = 0 := by decide

/-- Watch 1 of a state READY, with the word of i at its PC; does it meet Issues? -/
def issuingIn (b : State) (i : Instr) : State :=
  { b with alm := { b.alm with watches := [(1, { Watch.reset with st := .ready })], pmem := [(0, (almEncode i).getD 0)] } }
def meetsIn (b : State) (i : Instr) : Bool :=
  !(((issuingIn b i).at 0).revive 1).1 && ((issuingIn b i).at 0).issues 1 && almEncode i == some (((issuingIn b i).at 0).fetched 1)

theorem met_TimedActionsTakeSlotsLaunchOrActAtOnce_excitation :
    let a := { indigo with azm := { indigo.azm with plans := [(15, ⟨0x01000000#32, List.replicate 8 0⟩)] } }
    let e := { indigo with azm := { indigo.azm with elapsed := some now } }
    let r := { indigo with azm := { indigo.azm with win := some azmW } }
    (meetsIn a (.almExcStart 0 1 false 15 1) = true ∧ (issuingIn a (.almExcStart 0 1 false 15 1)).excCode 15 false = 0) ∧
      (meetsIn e (.almExcStop 0 1 false 15) = true ∧ e.azm.win = none ∧ e.azm.elapsed = some now ∧ fabCycle now = (e.at 0).fab ∧ e.ep.prof = 2) ∧
      (meetsIn r (.almExcStop 0 1 false 15) = true ∧ r.azm.win = some azmW ∧ azmW.len = some 1) ∧
      (meetsIn (withBal fun x => { x with lastPh := some 0 }) (.almBalPhaseStart 0 1 false 3 1) = true ∧
        (withBal fun x => { x with lastPh := some 0 }).lastPhase = some 0) := by decide

theorem met_HelmRunsStopsAndTakesClasses :
    let s := run.setFld F.HLM_CTL_CEN 1
    let v : Word := 0xC0000000#32 ||| BitVec.ofNat 32 (s.fld F.HLM_CTL_CLASS * 2 ^ 20)
    (v.getLsbD 31 = true ∧ v.getLsbD 30 = true ∧ s.flag F.HLM_CTL_CEN = true ∧ getBits v 20 2 = s.fld F.HLM_CTL_CLASS ∧ getBits v 20 2 ≠ 3) ∧
      ((v &&& 0x7FFFFFFF#32).getLsbD 31 = false ∧ (v &&& 0x7FFFFFFF#32).getLsbD 30 = true ∧ getBits (v &&& 0x7FFFFFFF#32) 20 2 = s.fld F.HLM_CTL_CLASS) ∧
      (0#32).getLsbD 30 = false ∧ run.flag F.HLM_CTL_CEN = false ∧ getBits 0x40300000#32 20 2 = 3 ∧ (s.helmRun = false ∧ (s.at 0).helmMayRun = false) ∧
      (run.setFld F.HLM_CTL_STATE 1).helmRun = true ∧ run.carrierRun = false ∧ (run.setFld F.TIME_PTPSTS_CARRIER_RUN 1).carrierRun = true ∧
      (let r := (s.setFld F.TIME_PTPSTS_CARRIER_RUN 1).setFld (F.LDS_OUT_ENERGIZED_L 3) 1
       r.helmRun = false ∧ (r.at 0).helmMayRun = true) := by decide

theorem met_HelmTakesItsWritesAndSamples :
    (run.helmRun = false ∧ 1 ≤ popCount 8 (getBits 0x3F#32 0 8) ∧ popCount 8 (getBits 0x3F#32 0 8) ≤ 6) ∧ 6 < popCount 8 (getBits 0x7F#32 0 8) ∧
      popCount 8 (getBits 0#32 0 8) = 0 ∧ getBits 999#32 0 14 < 1000 ∧ (1000 ≤ getBits 1000#32 0 14 ∧ getBits 10000#32 0 14 ≤ 10000) ∧
      10000 < getBits 10001#32 0 14 ∧ ((run.setFld F.HLM_CTL_STATE 1).helmRun = true ∧ getBits 1000#32 0 14 ≠ run.fld F.HLM_CARRIER_CPER) ∧
      (Fl.ofWord 0x3F800000#32).isFinite = true ∧ (Fl.ofWord 0x7F800000#32).isFinite = false ∧ run.hlm.duties = [] ∧
      ({ run with hlm := { run.hlm with duties := [1] } } : State).hlm.duties ≠ [] ∧ run.carrierRun = false ∧
      ((run.setFld F.TIME_PTPSTS_CARRIER_RUN 1).carrierRun = true ∧ run.pilot.waiting = []) := by decide

theorem met_SppIsMeasuredAndHvacIsDriven :
    run.dspSrc = 0 ∧ (run.setFld F.HLM_DSPCFG_SRC 1).dspSrc = 1 ∧ (run.setFld F.HLM_DSPCFG_SRC 2).dspSrc = 2 ∧
      (run.hlm.sppAt + 2000000 ≤ max run.dial 0) ∧ max run.dial 0 < { run.hlm with sppAt := now }.sppAt + 2000000 ∧
      run.flag F.DSP_CTL_HVEN = false ∧
      (let s := run.setFld F.DSP_CTL_HVEN 1
       s.flag F.DSP_CTL_HVEN = true ∧ s.activeRole = true ∧ s.dsp.hvSentAt = none ∧ (s.can1 2).queue.length < 16 ∧ s.hvacMode.2 < 256) ∧
      16 ≤ ({ run with can := [(2, { CanSt.reset with queue := List.replicate 16 ⟨0, []⟩ })] }.can1 2).queue.length ∧
      run.dsp.hvRxAt + 3 * run.hvper ≤ max run.dial 0 ∧ max run.dial 0 < { run.dsp with hvRxAt := now }.hvRxAt + 3 * run.hvper := by decide

/-! ### Lodestone and Binnacle -/

/-- Lodestone up and ticking, every permit held, and output 0 as given. -/
def lode (o : OutSt) (f : State → State) : State :=
  f (({ run with lds := { run.lds with up := true, tick := 100000, safeB := true, hbSup := true, hbLast := some 5, outs := [(0, o)] } }.setFld
    F.LDS_TRIP_BPERMIT_L 15).setFld F.TRV_FLSTS_TOGGLING 15)
/-- Output 0 energized, and its request on. -/
def closed0 (s : State) : State := (s.setFld (F.LDS_OUT_ENERGIZED_L 0) 1).setWord Reg.BIN_OUTREQ 1#32

theorem met_CloseRequestsStartAndEndOutputs :
    ((run.setFld F.RDN_CTL_TWIN 1).setFld F.RDN_STS_ROLE 1).followsTwin = true ∧ run.followsTwin = false ∧
      (let s := lode OutSt.reset closed0
       (0#32).getLsbD 0 = false ∧ s.energized 0 = true ∧ s.outReq 0 = true ∧ (s.outSt 0).phase = .rest ∧ s.testMode ≠ 1) ∧
      (let s := lode { OutSt.reset with phase := .releasing } id
       (1#32).getLsbD 0 = true ∧ s.outReq 0 = false ∧ (s.outSt 0).phase = .releasing) ∧
      (lode OutSt.reset fun s => s.setFld F.LDS_DRM_STATE 1).discards 0 = true ∧
      (let s := lode OutSt.reset id
       s.outReq 0 = false ∧ s.energized 0 = false ∧ (s.outSt 0).phase = .rest ∧ s.flag F.UPD_STS_HOLD = false ∧ s.discards 0 = false ∧
         (s.at 0).permitted 0 = true ∧ s.anyPulse = false ∧ s.waitsTwin 0 = false ∧
         (s.flag (F.LDS_OUT_HS_RB_L 0) || s.flag (F.LDS_OUT_LS_RB_L 0) || (s.loadEval && s.flag (F.LDS_OUT_LOAD_RB_L 0))) = false) ∧
      (lode OutSt.reset fun s => s.setFld F.RDN_CTL_TWIN 1).waitsTwin 0 = true := by decide

theorem met_SequencesAndOffPulsesAreChecked :
    let e := fun k => lode { OutSt.reset with phase := .energizing, step := k } id
    let r := fun k => lode { OutSt.reset with phase := .releasing, step := k } id
    (∀ k < 3, ((e k).outSt 0).phase = .energizing ∧ ((e k).outSt 0).step = k ∧ ((e k).outSt 0).from_ + (1 + tload 0) ≤ (e k).lds.tick ∧ (e k).energized 0 = false) ∧
      (∀ k < 3, ((r k).outSt 0).phase = .releasing ∧ ((r k).outSt 0).step = k ∧ ((r k).outSt 0).from_ + max 4 (tload 0) ≤ (r k).lds.tick ∧ (r k).outReq 0 = false) ∧
      (run.outSt 3).phase ≠ .energizing ∧ (run.outSt 3).phase ≠ .releasing ∧ (lode OutSt.reset id).testMode = 0 ∧
      (let s := lode OutSt.reset fun s => closed0 (s.setFld F.LDS_CFG_TEST 1)
       s.testMode ≠ 0 ∧ s.lds.tick % 10000 = 2500 * 0 ∧ s.energized 0 = true ∧ (s.outSt 0).since + 1000 ≤ s.lds.tick ∧ (s.outSt 0).pulse = .none) ∧
      (let s := lode { OutSt.reset with pulse := .open_ } closed0
       (s.outSt 0).pulse = .open_ ∧ (s.outSt 0).pulseLow = false ∧ s.energized 0 = true ∧ (s.outSt 0).phase = .rest) ∧
      ((lode { OutSt.reset with pulse := .ended } id).outSt 0).pulse = .ended ∧
      (let s := lode { OutSt.reset with age := 86400000 } closed0
       s.testMode = 0 ∧ s.energized 0 = true ∧ 86400000 ≤ (s.outSt 0).age ∧ s.flag (F.LDS_OUT_PROOF_WARN 0) = false ∧ s.log.queue.length < 64) ∧
      (let s := lode { OutSt.reset with twinWait := some (now - 500000000) } closed0
       (s.outSt 0).twinWait = some (now - 500000000) ∧ now - 500000000 + 500000000 ≤ max s.dial 0 ∧ s.outReq 0 = true) ∧ (run.outSt 3).twinWait = none := by decide

theorem met_SequencesAndOffPulsesAreChecked_permits : ((lode OutSt.reset closed0).at 0).staysPermitted 0 := by unfold State.staysPermitted; decide

theorem met_DetectionsAndDemandsTrip :
    let s := lode OutSt.reset id
    s.lds.up = true ∧
      (let o := { s with lds := { s.lds with oc := 1 } }.setFlag F.LDS_TRIP_OCA true
       o.lds.oc ≠ 0 ∧ o.lds.ocAt + 20 ≤ o.lds.tick ∧ (o.flag F.LDS_TRIP_OCA || o.flag F.LDS_TRIP_OCB) = true) ∧ run.lds.oc = 0 ∧
      (∀ k < 4, Tab.get (fun _ => 0) s.lds.lth k < 4) ∧ 4 ≤ Tab.get (fun _ => 0) { s.lds with lth := [(3, 4)] }.lth 3 ∧
      (s.lds.sealPrev = 0 ∧ (s.word Reg.LDS_SEAL).toNat % 2 ^ 20 = 0 ∧
        { s.lds with sealPrev := 0xFFFFF }.sealPrev = 0xFFFFF % 2 ^ 20 ∧ 0xFFFFF % 2 ^ 20 ≠ (s.word Reg.LDS_SEAL).toNat % 2 ^ 20) ∧
      ((!false || (if s.pairAnt 7 then true else !true)) = true ∧ (!true || (if s.pairAnt 7 then false else !true)) = false ∧ s.pairDisc 7 = false) ∧
      (let d := { s with lds := { s.lds with dis := [(7, 10)] } }.setWord Reg.LDS_INRAW 0x80#32
       (d.pairIn 7).1 ≠ (d.pairIn 7).2 ∧ d.tdTicks ≤ Tab.get (fun _ => 0) d.lds.dis 7) ∧ (s.pairIn 7).1 = (s.pairIn 7).2 ∧
      ((s.fld F.LDS_TRIP_BPERMIT_L &&& 3) ≠ 0 ∧ s.binRunning = true) ∧ run.binRunning = false ∧ { s.lds with binHeld := true }.binHeld = true ∧
      ({ s.lds with binDelay := some (now - 1000000000) }.binDelay = some (now - 1000000000) ∧ now - 1000000000 + 1000000000 ≤ max s.dial 0) := by decide

theorem met_DetectionsAndDemandsTrip_arm :
    let a := ((run.setAcqSlot 0 { AcqSlot.reset with ncell := 16 }).setRing 0 { Ring.reset with state := .closed, n := 1 }).setFld (F.TRV_RINGSTS_K0 0) 1
    ((a.setKnown 0 { TileKnown.reset with armBad := true }).at 0).armFault 0 = true ∧
      ((a.setKnown 0 { TileKnown.reset with armAt := now - 100000000 }).at 0).armFault 0 = true ∧
      ((a.setKnown 0 { TileKnown.reset with armAt := now - 99999999 }).at 0).armFault 0 = false := by decide

theorem met_SupervisionEntersDeadReckoning :
    let s := lode OutSt.reset id
    (2 ≤ { s.lds with fabBad := 2 }.fabBad ∧ s.fld F.LDS_DRM_STATE = 0) ∧ s.lds.fabBad < 2 ∧ s.flag F.UPD_STS_HOLD = false ∧
      (s.setFld F.UPD_STS_HOLD 1).flag F.UPD_STS_HOLD = true ∧
      ({ s.lds with wdSup := true, wdAt := 99950 }.wdAt + 50 ≤ s.lds.tick ∧ s.lds.wdSup = false) ∧
      (s.lds.up = true ∧ s.pwr.held = false ∧ s.lds.supFrom + 500 ≤ s.lds.tick) ∧ s.lds.tick < { s.lds with supFrom := 99501 }.supFrom + 500 ∧
      (let l := (s.setRing 0 { Ring.reset with state := .lost }).setRing 3 { Ring.reset with state := .lost, lostAt := now - 100000000 }
       2 ≤ ((List.range 4).filter fun j => decide ((l.ring j).state = .lost ∧ (l.ring j).lostAt + 100000000 ≤ max l.dial 0)).length) ∧
      (s.lds.hbSup = true ∧ s.lds.hbLast = some 5 ∧ run.lds.hbLast = none) ∧ run.lds.hbSup = false ∧
      (let h := { s with lds := { s.lds with twin := true } }.setFld F.LDS_DRM_STATE 1
       h.fld F.LDS_DRM_STATE = 1 ∧ h.takeoverSeen = true ∧ (s.setFld F.LDS_DRM_STATE 1).takeoverSeen = false ∧
         (s.setFld F.LDS_DRM_STATE 1).fld F.LDS_DRM_HOLDLEFT = 0 ∧ ((s.setFld F.LDS_DRM_STATE 1).setFld F.LDS_DRM_HOLDLEFT 1).fld F.LDS_DRM_HOLDLEFT ≠ 0) := by decide

theorem met_LodestoneStartsTicksAndStops :
    run.lds.up = false ∧ ((lode OutSt.reset id).lds.up = true ∧ (lode OutSt.reset id).lds.oscStop = false) ∧
      (0x12345 % 2 ^ 20 = 0x12345 % 2 ^ 20 ∧ 1 % 2 ^ 20 ≠ 2 % 2 ^ 20) ∧ (lode OutSt.reset closed0).energized 0 = true ∧
      run.thresholds = none ∧ (run.setFld F.LDS_CFG_PROFILE 7).thresholds.isSome = true ∧ (run.at 0).profDue 0 = true ∧
      ((withRing fun x => { x with profAt := now }).at 0).profDue 0 = false ∧ ((withRing fun x => { x with state := .closed }).ring 0).state ≠ .down := by decide

/-! ### Roles, host interfaces, Pilot's commands -/

/-- A unit of a twin with a role, its lanes up. -/
def twin (role : Nat) : State :=
  ({ run with rdn := { run.rdn with lanes := 3 } }.setFld F.RDN_CTL_TWIN 1).setFld F.RDN_STS_ROLE role

theorem met_RolesFollowTable15Row1 :
    (0#32).getLsbD 31 = run.flag F.RDN_CTL_TWIN ∧
      ((0x80000000#32).getLsbD 31 ≠ run.flag F.RDN_CTL_TWIN ∧ (run.setWord Reg.TRV_CTL 1).fld F.TRV_CTL_EN ≠ 0) ∧
      ((0#32).getLsbD 31 = false ∧ (twin 4).flag F.RDN_CTL_TWIN = true ∧ (twin 4).fld F.TRV_CTL_EN = 0 ∧ (twin 4).drmOn = false) ∧
      ((0x80000000#32).getLsbD 31 = true ∧ run.flag F.RDN_CTL_TWIN = false ∧ run.fld F.TRV_CTL_EN = 0 ∧ run.drmOn = false ∧ run.flag F.UPD_STS_STARTED = true) ∧
      (run.setFld F.UPD_STS_STARTED 0).flag F.UPD_STS_STARTED = false ∧ ((run.setFld F.RDN_STS_TWINROLE 4).twinRole = 4 ∧ run.twinRole ≠ 3 ∧ run.twinRole ≠ 4) ∧
      (let s := (twin 0).setFld F.RDN_STS_CLAIM_L 1
       s.fld F.RDN_STS_ROLE = 0 ∧ s.flag F.RDN_STS_CLAIM_L = true) ∧
      ((twin 2).fld F.RDN_STS_ROLE = 2 ∧ (twin 2).rdn.mirAt + 100000000 ≤ max (twin 2).dial 0) ∧
      max (twin 2).dial 0 < { (twin 2).rdn with mirAt := now }.mirAt + 100000000 ∧ (twin 5).fld F.RDN_STS_ROLE ∈ [1, 3, 4, 5] ∧
      (twin 3).fld F.RDN_STS_ROLE = 3 ∧ ({ run.setFld F.LDS_DRM_STATE 1 with lds := { run.lds with twin := true } } : State).lds.twin = true ∧
      run.rdn.autorun = false ∧ { run.rdn with autorun := true, riseAt := now - 3000000 }.riseAt + 3000000 ≤ max run.dial 0 ∧ run.upd.ringsAt = none ∧
      (let s := { run with upd := { run.upd with ringsAt := some (0, 1) } }.setFld F.UPD_STS_STARTED 0
       s.upd.ringsAt = some (0, 1) ∧ s.flag F.UPD_STS_STARTED = false ∧ 0 + 1000000000 ≤ max s.dial 0) := by decide

/-- A mirror that carries nothing. -/
def mirror : Mirror := ⟨5, 1, 0, [], [], [], [], 0, 0, [], [], [], none, false, 0, 0, 0, 0, 0⟩

theorem met_PeerLinkCarriesStatusAndMirrors :
    run.flag F.RDN_CTL_TWIN = false ∧
      ((twin 1).flag F.RDN_CTL_TWIN = true ∧ (twin 1).drmOn = false ∧ (twin 1).fld F.RDN_STS_ROLE ∈ [1, 2] ∧ (twin 1).rdn.lanes ≠ 0 ∧ mirror.npos ≠ (twin 1).acq.npos) ∧
      ({ (twin 2).rdn with peerSeal := 7 }.peerSeal ≠ (twin 2).fld F.LDS_SEAL_SEAL) ∧
      ((twin 2).fld F.RDN_STS_ROLE = 2 ∧ (twin 2).rdn.mirAt + 100000000 ≤ max (twin 2).dial 0) ∧ max (twin 2).dial 0 < { (twin 2).rdn with mirAt := now }.mirAt + 100000000 ∧
      (twin 1).twinRole ≠ 4 % 8 ∧ (1 ≤ (twin 3).fld F.RDN_STS_ROLE ∧ (twin 3).fld F.RDN_STS_ROLE ≤ 3) ∧ run.flag F.THM_TRIM_PEER = false ∧
      (run.setFld F.THM_TRIM_PEER 1).flag F.THM_TRIM_PEER = true := by decide

theorem met_RingIndicesMailboxesAndDoorbells :
    Master.pilot ∉ [Master.pcie, Master.hspi] ∧ 256 < ringHeld 257 (run.ringIdx (masterId .pcie) Reg.HOST_CMDCI) ∧
      (ringHeld 256 (run.ringIdx (masterId .pcie) Reg.HOST_CMDCI) ≤ 256 ∧ run.cmdHeld (masterId .pcie) ≤ 256) ∧
      (run.rspHeld (masterId .pcie) < ringHeld (run.ringIdx (masterId .pcie) Reg.HOST_RSPPI) 65535 ∧
        ringHeld (run.ringIdx (masterId .pcie) Reg.HOST_RSPPI) 0 ≤ run.rspHeld (masterId .pcie)) ∧
      (run.setFlag (h2dFull 3) true).flag (h2dFull 3) = true ∧ run.flag (h2dFull 3) = false ∧
      (let s := { run with host := { run.host with d2hQueue := [(3, 9#32)] } }.setFlag (d2hFull 3) true
       s.flag (d2hFull 3) = true ∧ Tab.get (fun _ => 0) s.host.d2hSince 3 + 2000000 ≤ max s.dial 0 ∧ (∃ e ∈ s.host.d2hQueue, e.1 = 3) ∧
         s.host.d2hQueue.find? (fun e => e.1 == 3) = some (3, 9#32) ∧ ∀ e ∈ s.host.d2hQueue, e.1 ≠ 0) ∧ run.flag (d2hFull 3) = false ∧
      run.pilotUp = true ∧ State.reset.pilotUp = false ∧ (0x40000000#32).getLsbD 30 = true := by decide

/-- run with crossing n at the state v of CLK_XSTAT. -/
def xing (n v : Nat) : State := run.setFld (F.CLK_XSTAT_STATE n) v

theorem met_BusAccessesFollowTheMap :
    State.reset.awake = false ∧ (run.awake = true ∧ run.requestsCut (masterId .pcie) = false ∧ run.answersCut (masterId .pcie) = false) ∧
      (hostXing (masterId .pcie) = some (2, 3) ∧ (xing 2 3).xState 2 = 3 ∧ (xing 2 2).xState 2 = 2) ∧
      ((xing 2 3).awake = true ∧ (xing 2 3).requestsCut (masterId .pcie) = true) ∧
      ((xing 2 2).awake = true ∧ (xing 2 2).requestsCut (masterId .pcie) = false ∧ (xing 2 2).requestsWait (masterId .pcie) = true) ∧
      run.requestsWait (masterId .pcie) = false ∧ (2 ≠ 4 ∨ 2 % 4 ≠ 0) ∧
      (regRow Reg.LOG_WINDOW).isSome = true ∧ (regRow 0x14010).isSome = true ∧ (regRow 0x10010).isSome = true ∧ regRow 0x1FFFC = none ∧
      (let r : BusRead := ⟨.bar0, 0x20002, 4⟩
       (r.bytes ≠ 4 ∨ r.off % 4 ≠ 0) ∧ (r.sp = .bar0 ∨ r.off % 4 ≠ 0 ∨ r.bytes % 4 ≠ 0)) ∧
      (let r : BusRead := ⟨.bar2, 0x100002, 8⟩
       (r.bytes ≠ 4 ∨ r.off % 4 ≠ 0) ∧ (r.sp = .bar0 ∨ r.off % 4 ≠ 0 ∨ r.bytes % 4 ≠ 0)) ∧
      (let r : BusRead := ⟨.bar2, 0x1000FC, 4096⟩
       r.sp = .bar2 ∧ r.off % 4 = 0 ∧ r.bytes % 4 = 0 ∧ 0 < r.bytes ∧ min r.bytes (256 - r.off % 256) = 4 ∧ run.host.readNext ≠ some (r.off, r.bytes) ∧
         { run.host with readNext := some (r.off, r.bytes) }.readNext = some (r.off, r.bytes)) := by decide

theorem met_BusAccessesFollowTheMap_hspi :
    hspiRefused 0x100000 1 = true ∧ ((0x80100000 : Nat).testBit 31 = true ∧ 0x80100000 % 4 = 0 ∧ 0x100000 ≤ 0x80100000 % 2 ^ 24 ∧
        0x80100000 % 2 ^ 24 + 4 * 64 ≤ 0x110000 ∧ hspiRefused 0x80100000 64 = false) ∧
      ((xing 4 3).awake = true ∧ (xing 4 3).xState 4 = 3) ∧ (run.awake = true ∧ run.answersCut 5 = false ∧ run.xState 4 ≠ 2) ∧
      { run.host with hspiArmed := true }.hspiArmed = true ∧ run.host.hspiArmed = false ∧ (run.setLock 15 5).lockOwner 15 = 5 := by decide

/-- A host with session 3 open on port 1. -/
def hosted (f : Session → Session) : State :=
  ({ run with host := { run.host with ethUp := [(1, true)], pcieUp := true, sessions := [(3, f { Session.closed with open_ := true, port := 1, sid := 77 })] } }.setWord
    Reg.SEC_STS 0x80#32).setFld F.SEC_STS_LOADED 0x80

theorem met_LinksAndUdpSessions :
    let s := hosted id
    (run.setLock 15 4).lockOwner 15 = 4 ∧ (run.setFld F.THM_TRIM_PCIE 1).flag F.THM_TRIM_PCIE = true ∧ (run.awake = true ∧ run.flag F.THM_TRIM_PCIE = false) ∧
      (run.word Reg.THM_TRIM).getLsbD (5 + 1) = false ∧
      (s.pilotUp = true ∧ s.keyLoaded 7 = true ∧ Tab.get (fun _ => false) s.host.ethUp 1 = true ∧ (s.session 0).open_ = false) ∧ s.keyLoaded 0 = false ∧
      s.findSession 1 78 = none ∧ (s.findSession 1 77 = some 3 ∧ (s.session 3).confirmed = false) ∧
      (((hosted fun x => { x with confirmed := true }).session 3).confirmed = true ∧ (s.session 3).fresh 1 = true ∧ (s.session 3).fresh 0 = false) ∧
      ((s.session 3).outstanding < 16 ∧ 16 ≤ ((hosted fun x => { x with outstanding := 16 }).session 3).outstanding) ∧
      ((s.session 3).lastAt + 60000000000 ≤ max s.dial 0 ∧ (s.session 2).open_ = false) := by decide

/-- An entry from PCIe with its words from w2. -/
def ent (p : List Word) : Entry := ⟨.pcie, 7, 4 + 4 * p.length, 0, p⟩
/-- Pilot ready for PCIe. -/
def pil : State := { run with host := { run.host with pcieUp := true } }

theorem met_PilotTakesChecksAndAnswers :
    IsPilotCommand 0 true (ent []) (.cmdCanCancel 0 true (ent []), 0x0B04) ∧ pil.pilot.waiting = [] ∧
      (pil.at 0).pilotTakes (ent []).iss (entryOf 0x0100 (ent [])) = true ∧ (run.at 0).pilotTakes (ent []).iss (entryOf 0x0100 (ent [])) = false ∧
      lenOk 256 = false ∧ lenOk 6 = false ∧ lenOk 0 = false ∧ lenOk 252 = true ∧ lenOk 4 = true ∧
      ((pil.setFld F.UPD_STS_RECOVERY 1).flag F.UPD_STS_RECOVERY = true ∧ 0x0200 ∉ recoveryOps ∧ 0x0C03 ∈ recoveryOps) ∧
      (pilotNeed 0x0100 (entryPs (ent [0])) = false ∧ pilotNeed 0x0100 (entryPs (ent [])) = true) ∧
      (0x0D00 ∈ pilotLocal ∧ ringMaster (.session 3) = none ∧ (ringMaster .hspi).isSome = true) ∧
      (0x0803 ∈ pilotActive ∧ (twin 2).flag F.RDN_CTL_TWIN = true ∧ (twin 2).fld F.RDN_STS_ROLE ≠ 4 ∧ (twin 4).fld F.RDN_STS_ROLE = 4) ∧
      ({ ent [] with w1lo := 65535 } : Entry).w1lo ≠ 0 ∧ 0xFFFF ∉ knownOps ∧ 0x0100 ∈ knownOps ∧
      (ringMaster .pcie = some 4 ∧ pil.cmdHeld 4 = 0 ∧ pil.rspHeld 4 = 0) := by unfold IsPilotCommand; decide

/-- Opcodes with the least count of parameter words their rows take. -/
def opCounts : List (Nat × Nat) :=
  [(0x0100, 0), (0x0101, 0), (0x0102, 2), (0x0103, 2), (0x0104, 1), (0x0105, 2), (0x0106, 0), (0x0107, 1), (0x0108, 0), (0x0109, 2), (0x010A, 2),
   (0x010B, 1), (0x010C, 4), (0x0200, 0), (0x0201, 2), (0x0202, 3), (0x0203, 1), (0x0204, 1), (0x0300, 2), (0x0301, 1), (0x0302, 1), (0x0303, 7),
   (0x0304, 5), (0x0305, 1), (0x0306, 1), (0x0400, 3), (0x0401, 2), (0x0402, 0), (0x0403, 2), (0x0404, 2), (0x0405, 4), (0x0406, 2), (0x0500, 2),
   (0x0501, 0), (0x0502, 2), (0x0503, 3), (0x0504, 10), (0x0505, 0), (0x0506, 2), (0x0507, 2), (0x0508, 0), (0x0509, 0), (0x050A, 0)] ++
  [(0x0600, 10), (0x0601, 11), (0x0602, 0), (0x0603, 3), (0x0604, 0), (0x0700, 5), (0x0701, 2), (0x0702, 2), (0x0800, 4), (0x0801, 3), (0x0802, 1),
   (0x0803, 1), (0x0804, 5), (0x0805, 3), (0x0806, 3), (0x0807, 7), (0x0808, 4), (0x0809, 1), (0x080A, 3), (0x080B, 0), (0x0900, 0), (0x0901, 0),
   (0x0902, 2), (0x0903, 2), (0x0904, 1), (0x0A00, 1), (0x0A01, 0), (0x0B00, 6), (0x0B01, 4), (0x0B02, 19), (0x0B03, 2), (0x0B04, 2), (0x0B05, 2),
   (0x0B06, 3), (0x0C00, 3), (0x0C01, 2), (0x0C02, 0), (0x0C03, 0), (0x0C04, 0), (0x0C05, 0), (0x0D00, 2), (0x0D01, 3), (0x0D02, 0), (0x0E00, 0),
   (0x0E01, 2), (0x0E02, 1), (0x0E03, 0), (0x0E04, 9), (0x0E05, 3), (0x0E06, 3), (0x0E07, 25), (0x0E08, 1)]

/-- Every opcode is served: Serves is met with parameter words of zeros, for each of the statements about Pilot's commands. -/
theorem met_Serves : ∀ x ∈ opCounts, Serves 0 x.1 (ent (List.replicate x.2 0)) pil := by unfold Serves; decide

/-- The same with parameters at the ends of their ranges. -/
theorem met_Serves_ends : ∀ x ∈ ([(0x0102, [0x0FFF10, 60]),
      (0x0306, [4]),
      (0x0401, [65535, 1, 7]),
      (0x0701, [47, 1, 0xFFFF]),
      (0x0506, [10268, 4, 0]),
      (0x0D01, [120, 1, 16]),
      (0x0404, [0x1FFFC, 1, 5]),
      (0x0B06, [2, 1, 65535]),
      (0x0903, [4, 255]),
      (0x0804, [15, 2, 0, 0, 0])] : List (Nat × List Word)), Serves 0 x.1 (ent x.2) pil := by
  unfold Serves; decide

theorem met_ImageCommandsWriteTheirRegisters :
    (∀ x ∈ [Reg.TIME_PTPCTL, Reg.TIME_STEPTHR, Reg.TIME_UNCERTLIM, Reg.ACQ_TILECFG 47, Reg.ACQ_TMAP 47, Reg.ACQ_MODCFG, Reg.ACQ_MODDLY 1,
      Reg.ACQ_MODGAIN 1, Reg.ACQ_MODOFS 1, Reg.SXT_CTL, Reg.SXT_REINIT, Reg.SXT_LRNCTL, Reg.SXT_LRNCFG, Reg.SXT_LRNV 3, Reg.SXT_LRNSPAN 3,
      Reg.AZM_PLAN_HDR 15, Reg.AZM_PLAN_T 15 7, Reg.AZM_CALA 3, Reg.AZM_CALB 3, Reg.AZM_TCAL 3 7, Reg.AZM_CTL, Reg.AZM_TCFG, Reg.AZM_PTHR] ++
      [Reg.BAL_CTL, Reg.BAL_CFG, Reg.BAL_THR, Reg.BAL_TDER, Reg.BAL_RWINIT, Reg.HLM_AGAIN 10, Reg.HLM_AOFS 10, Reg.HLM_SLEW, Reg.HLM_IMAG,
      Reg.HLM_RECON, Reg.HLM_DSPCFG, Reg.HLM_DSPK, Reg.HLM_DSPX0, Reg.DSP_CTL, Reg.DSP_CFG, Reg.DSP_THOT, Reg.DSP_TCOLD, Reg.DSP_SWLIMD,
      Reg.DSP_SWLIMC, Reg.DSP_AVID, Reg.DSP_COOLCFG 3, Reg.DSP_COOLCRV 3, Reg.DSP_COOLFREQ, Reg.DSP_COOLMAN, Reg.DSP_HVCFG, Reg.DSP_HVID,
      Reg.DSP_HVSTID, Reg.CAN_FID 2 63, Reg.CAN_FMASK 2 63, Reg.LOG_WINDOW], imagesOk [(x, pil.word x)] = true) ∧
      imagesOk [(Reg.SYS_EPOCHCTL, 0x801403E8#32)] = true ∧ imagesOk [(Reg.SYS_EPOCHCTL, 0x801403E9#32)] = false ∧
      imagesOk [(Reg.LOG_WINDOW, 0)] = false ∧ (pn (entryPs (ent [15])) 0 < 16 ∧ ¬ pn (entryPs (ent [16])) 0 < 16) := by decide

theorem met_ReadingCommandsAnswerWithData :
    (let p := entryPs (ent [0x0FFF10, 60])
     pn p 0 % 4 = 0 ∧ 1 ≤ pn p 1 ∧ pn p 1 ≤ 60 ∧ pn p 0 + 4 * pn p 1 ≤ 0x100000) ∧ dmRange 0x1FF10 60 = true ∧ dmRange 0x1FF14 60 = false ∧
      (let p := entryPs (ent [1023, 0x110, 60])
       pn p 0 ≤ 1023 ∧ pn p 1 % 4 = 0 ∧ 1 ≤ pn p 2 ∧ pn p 2 ≤ 60 ∧ pn p 1 + 4 * pn p 2 ≤ 0x200) ∧
      stageRange [10032, 240] = true ∧ stageRange [10036, 240] = false ∧ pn (entryPs (ent [3])) 0 ≤ 3 ∧ ¬ pn (entryPs (ent [4])) 0 ≤ 3 := by decide

theorem met_StringCommandsTakeEffect :
    ((ringMaster (ent []).iss).isSome = true ∧ pil.flag (h2dFull 3) = false ∧ (pil.setFlag (h2dFull 3) true).flag (h2dFull 3) = true) ∧
      (pil.time.servo ≠ .locked ∧ (pil.setFld F.TIME_PTPCTL_PTPEN 0).flag F.TIME_PTPCTL_PTPEN = false) ∧ pil.flag F.TIME_PTPCTL_PTPEN = true ∧
      (pil.fld F.TRV_CTL_EN = 0 ∧ (pil.setFld F.ACQ_CTL_NPOS 0).applyOk = true ∧ (pil.setFld F.ACQ_CTL_NPOS 0x3FF).applyOk = false ∧
        (pil.setWord Reg.TRV_CTL 1).fld F.TRV_CTL_EN ≠ 0) ∧ pil.owCnf 47 = 0 ∧
      (imagesOk [(Reg.ACQ_CURTOL, pil.word Reg.ACQ_CURTOL), (Reg.ACQ_SUMCFG, pil.word Reg.ACQ_SUMCFG), (Reg.ACQ_PLCFG, pil.word Reg.ACQ_PLCFG),
        (Reg.ACQ_OWCFG, pil.word Reg.ACQ_OWCFG), (Reg.TRV_SLOTCFG, pil.word Reg.TRV_SLOTCFG)] = true ∧ pil.tminFor pil.ovs * pil.snapRate ≤ 1000000 ∧
        pil.slotFits pil.nmaxCells = true) ∧
      imagesOk [(Reg.ALM_PMLEN, 0), (Reg.ALM_PMEXP, 0), (Reg.ALM_START, 0)] = true ∧ imagesOk [(Reg.ALM_PMLEN, 0x80000000#32)] = false ∧
      (pil.flag F.ALM_CTL_RUN = false ∧ pil.pmCrc = pil.word Reg.ALM_PMEXP) ∧
      (0x84000 ≤ 0x84270 ∧ 0x84270 + 4 * 4 ≤ 0x84280) ∧ pil.sxt.restore = none ∧ (pil.modSxt fun x => { x with restore := some [] }).sxt.restore.isSome = true ∧
      ((∀ x < 64, pil.hears x (fun c a => c == 5 && a == 63) = false) ∧ pil.evWokeNow 63 = false ∧ Tab.get (fun _ => 0) pil.alm.evAt 63 ≠ pil.fab + 1) ∧
      imagesOk ((List.range 24).map fun j => (Reg.PMC_SEL (j / 8) (j % 8), 0)) = true := by decide

theorem met_PowerSafetyAndCanCommandsTakeEffect :
    imagesOk [(Reg.HLM_CARRIER, pil.word Reg.HLM_CARRIER), (Reg.HLM_LEGS, pil.word Reg.HLM_LEGS), (Reg.HLM_DLIM, pil.word Reg.HLM_DLIM),
        (Reg.HLM_IRATED, pil.word Reg.HLM_IRATED)] = true ∧ (pil.helmRun = false ∧ (pil.setFld F.HLM_CTL_STATE 1).helmRun = true) ∧
      (pil.binParam 4).isSome = true ∧ pil.binParam 1 = none ∧
      (((pil.setFld F.LDS_CFG_PROFILE 1).setWord Reg.BIN_VLIM 1#32).binParam 1 = some (F.BIN_VLIM_BOV, 3700, true) ∧ 3700 < 3701) ∧ pil.pilot.seals[0]? = none ∧
      ({ pil with pilot := { pil.pilot with seals := [⟨1, 2, 3⟩] } } : State).pilot.seals[0]? = some ⟨1, 2, 3⟩ ∧ pil.fld F.TRV_CTL_EN = 0 ∧
      (imagesOk [(Reg.CAN_CTL 2, 0), (Reg.CAN_NBT 2, pil.word (Reg.CAN_NBT 2)), (Reg.CAN_DBT 2, pil.word (Reg.CAN_DBT 2)), (Reg.CAN_TDC 2, 0),
        (Reg.CAN_TMID 2, 0)] = true ∧ nbtOk (pil.word (Reg.CAN_NBT 2)) (pil.word (Reg.CAN_DBT 2)) = true ∧
        dbtOk (pil.word (Reg.CAN_DBT 2)) (pil.word (Reg.CAN_NBT 2)) = true) ∧
      (pil.activeRole = true ∧ pil.descBad 2 (List.replicate 18 0) = false ∧ (pil.can1 2).queue.length < 16 ∧ (twin 2).activeRole = false) ∧
      pil.flag (objFld (Reg.CAN_RXFULL 2) 63) = false ∧ (pil.setFlag (objFld (Reg.CAN_RXFULL 2) 63) true).flag (objFld (Reg.CAN_RXFULL 2) 63) = true ∧
      (let q := { pil with can := [(2, { CanSt.reset with queue := [⟨65535, []⟩, ⟨0, []⟩] })] }
       (∃ e ∈ (q.can1 2).queue, e.serial = 65535) ∧ (q.can1 2).queue.head?.map CanTx.serial = some 65535 ∧ (q.can1 2).queue.head?.map CanTx.serial ≠ some 0) := by decide

/-- Pilot with epochs running. -/
def epo : State := pil.setFld F.SYS_EPOCHCTL_EN 1

theorem met_WaitingUpdateAndLogCommandsTakeEffect :
    (pil.flag F.SYS_EPOCHCTL_EN = false ∧ epo.flag F.SYS_EPOCHCTL_EN = true) ∧
      (getBits 4#32 0 3 ≠ epo.fld F.SYS_PROFILE_PROFILE ∧ getBits 0#32 0 3 = epo.fld F.SYS_PROFILE_PROFILE ∧ 4 < getBits 5#32 0 3) ∧
      (epo.ovrOk (epo.fld F.SYS_PROFILE_PROFILE) (epo.ep.ovrNew.reverse ++ (if epo.ep.ovrClear then [] else epo.ep.ovr)) ⟨5, 1⟩ = true) ∧
      (epo.taken 0 0x0505 (ent [])).passBoundary.restoreCode ≠ 0 ∧ epo.journalMode = false ∧
      (let j := { epo with acq := { epo.acq with npos := 1 } }
       j.journalMode = true ∧ j.sxt.save = none ∧ (j.setFld F.SXT_LRNSTS_MODE 1).journalMode = false) ∧
      (Fl.ofWord 0x3F800000#32).isFinite = true ∧ epo.flag F.HLM_CTL_CEN = false ∧ (epo.setFld F.HLM_CTL_CEN 1).flag F.HLM_CTL_CEN = true ∧
      ((0xE0000000#32 &&& 0x1FFFFFFF#32) = 0 ∧ (0xE0000000#32).getLsbD 31 = true ∧ (0xE0000000#32).getLsbD 30 = true) ∧
      ((epo.setFld F.HLM_CTL_STATE 1).helmRun = true ∧ epo.helmRun = false ∧ (epo.at 0).helmMayRun = false) ∧
      epo.flag F.UPD_STS_PENDING = false ∧ (epo.setFld F.UPD_STS_PENDING 1).flag F.UPD_STS_PENDING = true ∧
      (let s := { epo with upd := { epo.upd with stage := some ⟨.pcie, 5, 1000, 1⟩ } }
       s.stageOf (ent []).iss = some ⟨.pcie, 5, 1000, 1⟩ ∧ s.stageBusy .hspi = true ∧ s.stageBusy .pcie = false ∧ 760 + 240 ≤ 1000 ∧ s.imageOk s.stageBank 5 = false) ∧
      epo.stageOf .pcie = none ∧ epo.fld F.UPD_STAGED_DONE ≠ 31 ∧ (epo.setFld F.UPD_STAGED_DONE 31).fld F.UPD_STAGED_DONE = 31 ∧
      (epo.activateMay = true ∧ (epo.setFld F.LDS_DRM_STATE 1).activateMay = false) ∧
      (let s := { epo with upd := { epo.upd with winEnd := some (now + 1) } }.setFld F.UPD_STS_PENDING 1
       s.flag F.UPD_STS_PENDING = true ∧ s.upd.winEnd = some (now + 1) ∧ max s.dial 0 < now + 1) := by decide

theorem met_WaitingUpdateAndLogCommandsTakeEffect_more :
    (epo.trimOk .pcie 0x80#32 = false ∧ epo.trimOk .pcie 0#32 = true ∧ (0#32 &&& ~~~ trimBits) = 0 ∧ (0x80000000#32 &&& ~~~ trimBits) ≠ 0) ∧
      epo.fld ⟨Reg.BIN_OUTREQ, 3, 0⟩ = 0 ∧ ((epo.setWord Reg.BIN_OUTREQ 8).fld ⟨Reg.BIN_OUTREQ, 3, 0⟩ ≠ 0) ∧ epo.sxt.save = none ∧
      (∃ i ∈ indicesFrom 3 1, epo.logRec i = none) ∧ epo.pilot.nonce = none ∧
      (let s := { epo with pilot := { epo.pilot with nonce := some ([1, 2, 3, 4, 5, 6, 7, 8], now) } }
       max s.dial 0 < now + 600000000000 ∧ 254 ≠ s.keyId (ent []).iss ∧ s.keyLoaded 8 = false) ∧
      (spareItems 1 15 1 = some (15, 17) ∧ epo.unitIn 15 = true ∧ epo.unitState 17 = 1) ∧ spareItems 1 16 1 = none ∧
      (spareItems 2 3 0 = some (21, 22) ∧ epo.unitIn 21 = true ∧ epo.unitState 22 = 1) := by decide

/-! ### CAN, start, power, Logbook, counters, clocks -/

/-- Controller 2 enabled, with its state as given. -/
def canned (f : CanSt → CanSt) : State := { run.setFld (F.CAN_CTL_EN 2) 1 with can := [(2, f CanSt.reset)] }
def heard : CanFrame := ⟨false, 5, false, false, false, false, 1, [63], 0⟩

theorem met_CanQueuesSendsAndReceives :
    let s := canned fun x => { x with queue := [⟨65535, List.replicate 18 0⟩] }
    let m := canned fun x => { x with main := [(63, some heard)], shadow := [(63, some heard)] }
    let o := (s.setWord (Reg.CAN_FID 2 63) 0).setFld (F.CAN_FID_EN 2 63) 1
    ((1#32).getLsbD 0 = true ∧ run.activeRole = true ∧ (twin 2).activeRole = false ∧ s.descBad 2 (List.replicate 18 0) = false ∧ (s.can1 2).queue.length < 16 ∧
        (s.can1 2).nextSerial < 65536) ∧ s.descBad 2 (0x20000000#32 :: List.replicate 17 0) = true ∧
      16 ≤ ((canned fun x => { x with queue := List.replicate 16 ⟨0, []⟩ }).can1 2).queue.length ∧
      ((∃ e ∈ (s.can1 2).queue, e.serial = 65535) ∧ (s.can1 2).queue.head?.map CanTx.serial = some 65535 ∧ ∀ e ∈ (s.can1 2).queue, e.serial ≠ 0) ∧
      (s.canSends 2 = true ∧ (s.setFld (F.CAN_CTL_LISTEN 2) 1).canSends 2 = false ∧ 247 < ((canned fun x => { x with tec := 248 }).can1 2).tec) ∧
      (s.canOn 2 = true ∧ heard.fdf = false) ∧ run.canOn 2 = false ∧
      ((List.range 64).find? (fun x => run.canMatch 2 heard x) = none) ∧ 127 < ((canned fun x => { x with rec_ := 128 }).can1 2).rec_ ∧
      (Tab.get (fun _ => none) (m.can1 2).main 63 ≠ none ∧ Tab.get (fun _ => none) (m.can1 2).shadow 63 ≠ none ∧ Tab.get (fun _ => none) (s.can1 2).main 63 = none) ∧
      idMatches 5#32 heard = true ∧ (0 < heard.dlc ∧ heard.rtr = false) ∧
      (∃ i < 64, o.canMatch 2 { heard with id := 0 } i = true) := by decide

theorem met_CanRecoversDetectsAndKeepsBusTime :
    ((canned fun x => { x with busOff := true, recovering := true }).can1 2).recovering = true ∧ ((canned id).can1 2).busOff = false ∧
      ((canned id).flag (F.CAN_CTL_EN 2) = true ∧ run.flag (F.CAN_CTL_EN 2) = false) ∧
      (nbtOk (run.word (Reg.CAN_NBT 2) &&& 0xFFFF7F7F#32) (run.word (Reg.CAN_DBT 2)) = true ∧
        dbtOk (run.word (Reg.CAN_DBT 2) &&& 0x1F1F0F0F#32) (run.word (Reg.CAN_NBT 2)) = true ∧ nbtOk (0#32 &&& 0xFFFF7F7F#32) (run.word (Reg.CAN_DBT 2)) = false) ∧
      ((1#32).getLsbD 0 = true ∧ (1#32).getLsbD 1 = false ∧ (2#32).getLsbD 0 = false ∧ (2#32).getLsbD 1 = true) ∧
      (let b := (canned id).setFld (F.CAN_ABCTL_BUSY 2) 1
       b.flag (F.CAN_ABCTL_BUSY 2) = true ∧ (b.can1 2).abAt + 1000000 * max 1 (b.fld (F.CAN_ABCTL_ABDWELL 2)) ≤ max b.dial 0) ∧
      run.flag (F.CAN_ABCTL_BUSY 2) = false ∧
      (let p := { run with pilot := { run.pilot with waiting := [⟨.pcie, 1, 0x0B05, .autobaud 2 now, false⟩] } }
       ∃ w ∈ p.pilot.waiting, w.what = .autobaud 2 now ∧ now ≤ max p.dial 0) ∧
      (let r := fun f => ((canned f).setFld (F.CAN_TMCTL_TMEN 2) 1).setFld (F.CAN_TMCTL_TMCYC 2) 100
       (r id).flag (F.CAN_TMCTL_TMEN 2) = true ∧ (r id).activeRole = true ∧ max (r id).dial 0 % (1000 * (r id).fld (F.CAN_TMCTL_TMCYC 2)) = 0 ∧
         ((r id).can1 2).refSlot = none ∧ ((r fun x => { x with refSlot := some 63 }).can1 2).refSlot = some 63 ∧
         (r fun x => { x with refSlot := some 63 }).canSends 2 = true ∧ ((r id).can1 2).refAt + 3000 * (r id).fld (F.CAN_TMCTL_TMCYC 2) ≤ max (r id).dial 0 ∧
         max (r id).dial 0 < ((r fun x => { x with refAt := now }).can1 2).refAt + 3000 * (r id).fld (F.CAN_TMCTL_TMCYC 2)) ∧
      run.flag (F.CAN_TMCTL_TMEN 2) = false := by decide

theorem met_StartPauseWindowAndKeys :
    let u := fun f => ({ run with upd := f run.upd, lds := { run.lds with tick := 300 } } : State)
    let w := fun a => (⟨.pcie, 1, 0x0C03, a, false⟩ : Waiting)
    let b := run.setFld F.UPD_STS_READY 0
    (b.awake = true ∧ b.flag F.UPD_STS_RECOVERY = false ∧ b.flag F.UPD_STS_READY = false ∧ b.pilot.seals.head?.map SealEntry.new ≠ some 0) ∧
      (({ b.pilot with seals := [⟨0, 0, 0⟩] } : PilotSt).seals.head?.map SealEntry.new = some ((b.word Reg.LDS_SEAL).toNat % 2 ^ 20)) ∧ run.updPaused = false ∧
      ((u fun x => { x with pauseAt := some 0 }).updPaused = true ∧ (u fun x => { x with pauseAt := some 0 }).upd.pauseTick + 300 ≤ (u id).lds.tick ∧
        (u id).lds.tick < (u fun x => { x with pauseTick := 1 }).upd.pauseTick + 300) ∧
      ((u fun x => { x with recWrite := some (1, 1) }).upd.recWrite = some (1, 1) ∧ run.upd.recWrite = none) ∧
      ((u fun x => { x with winEnd := some now }).upd.winEnd = some now ∧ now ≤ max run.dial 0) ∧
      ((u fun x => { x with resetAt := some now }).upd.resetAt = some now) ∧ run.pilot.waiting = [] ∧
      ((run.at 0).rampDone = true ∧ run.activateMay = true ∧ (w (.ramp 0)).what = .ramp 0 ∧ ((run.setFld F.HLM_CTL_STATE 1).setFld F.LDS_DRM_STATE 1).activateMay = false) ∧
      ({ run.setFld F.HLM_CTL_STATE 1 with hlm := { run.hlm with hosti := 1#32 } } : State).rampDone = false ∧
      (((8#32 ||| 0x100#32).getLsbD 8 = true ∧ getBits 8#32 0 4 ≤ 8 ∧ (run.fld F.SEC_STS_LOCKED).testBit 8 = false) ∧ ¬ getBits 9#32 0 4 ≤ 8) := by decide

/-- A flash whose boot record copy 0 has the words given. -/
def booted (w : Word) : State :=
  { run with upd := { run.upd with flash := [(0x400000, 1#32), (0x400001, 0#32), (0x400002, w)] } }

theorem met_StartPauseWindowAndKeys_record :
    run.newestRecord = none ∧ (booted (crc32c ((booted 0).flashBytes 0x1000000 8))).newestRecord = some 0 := by decide

theorem met_ResetsAndStartsFollowTheSequence :
    run.time.rtcRun = false ∧ (withTime fun x => { x with rtcRun := true }).time.rtcRun = true ∧ run.fld F.THM_STS_PSTATE ≠ 3 ∧
      (run.setFld F.THM_STS_PSTATE 3).fld F.THM_STS_PSTATE = 3 ∧
      (let s := lode OutSt.reset closed0
       (s.outSt 0).phase ≠ .releasing ∧ s.energized 0 = true ∧ s.outReq 0 = true ∧ s.basePermit 0 = true) ∧
      (let s := (run.setFld F.THM_STS_PSTATE 2).setFld F.THM_CTL_WOLEN 1
       (s.fld F.THM_STS_PSTATE == 2 && !s.pwr.shut && decide (0 < 2) && (s.fld F.THM_CTL_WOLEN).testBit 0 && s.macBytes 0 == s.macBytes 0 &&
         wakePayload (s.macBytes 0) (List.replicate 6 255 ++ (List.replicate 16 (s.macBytes 0)).flatten)) = true) ∧
      (let r : LogRec := ⟨1, ⟨0x0B05, 1, 0, [], false, 0, 0, 0⟩, false, 0, 0, 0, true, false⟩
       let s := { run with log := { run.log with recs := [(1, some r)], oldest := 1, newest := 1 } }
       s.logRec s.log.newest = some r ∧ s.logHeld ≠ 0) ∧
      (State.reset.pwr.held = true ∧ State.reset.pwr.off = false ∧ State.reset.pwr.shut = false ∧ State.reset.fld F.THM_STS_PSTATE ≠ 3 ∧ run.pwr.held = false) ∧
      (run.pwr.off = false ∧ ({ run with pwr := { run.pwr with off := true } } : State).pwr.off = true) ∧
      ({ PwrSt.reset with shutLog := some ⟨true, 7, 0⟩ } : PwrSt).shutLog = some ⟨true, 7, 0⟩ := by decide

theorem met_SensorsWarnThrottleAndShutDown :
    State.reset.pwr.held = true ∧ (run.pwr.held = false ∧ run.fld F.THM_STS_PSTATE ≠ 3 ∧ run.awake = true) ∧ State.reset.awake = false ∧
      (∀ i < 8, (dieHeat (List.replicate 8 2500)).getD i 0 < 13500) ∧ (∃ i < 8, 13500 ≤ (dieHeat (List.replicate 8 13500)).getD i 0) ∧
      dieBroken 20001 = true ∧ dieBroken 2500 = false ∧ run.flag F.THM_STS_THROTTLE_L = false ∧
      (let s := { run with pwr := { run.pwr with coolAt := some (now - 100000000) } }.setFlag F.THM_STS_THROTTLE_L true
       s.flag F.THM_STS_THROTTLE_L = true ∧ s.pwr.coolAt = some (now - 100000000) ∧ now - 100000000 + 100000000 ≤ max s.dial 0) := by decide

/-- An event of a code at an instant. -/
def event (c t : Nat) : LogEv := ⟨c, 1, 0, [], false, 0, t, 0⟩
def logged (f : LogSt → LogSt) : State := { run with log := f run.log }

theorem met_LogbookRecordsRepeatsAndClears :
    let r : LogRec := ⟨1, event 5 0, false, 0, 0, now - 10000000000, true, false⟩
    let s := logged fun x => { x with queue := [event 5 now], recs := [(1, some r)], newest := 1, clearing := some 1 }
    (run.setFld F.SXT_LRNSTS_SAVING 1).flag F.SXT_LRNSTS_SAVING = true ∧
      (firstEvent s.log.queue = some (event 5 now) ∧ s.flag F.SXT_LRNSTS_SAVING = false ∧ s.log.lost = 0 ∧ s.repeats (event 5 now) = some r) ∧
      ((logged fun x => { x with queue := [event 5 now], lost := 3 }).log.lost ≠ 0 ∧ s.repeats (event 6 now) = none ∧ s.logHeld < 65536 ∧
        65536 ≤ (logged fun x => { x with newest := 65536 }).logHeld) ∧
      (s.logRec 1 = some r ∧ r.torn = false ∧ run.logRec 1 = none) ∧ (s.log.clearing = some 1 ∧ Tab.wf (fun _ => none) s.log.recs = true) ∧
      run.log.clearing = none := by decide

theorem met_LedgerAndCountersFollow :
    run.wear.flushAt + 3600000000000 ≤ max run.dial 0 ∧ max run.dial 0 < { run.wear with flushAt := 1 }.flushAt + 3600000000000 ∧
      { run.wear with seqA := 1 }.seqB < { run.wear with seqA := 1 }.seqA ∧ run.wear.seqA ≤ run.wear.seqB ∧
      (let f : EccFinding := ⟨5, 0, 1, false⟩
       f.mem < 6 ∧ f.corrected ≠ 0 ∧ 3 ≤ Tab.get (fun _ => 0) { run.wear with passes := [(2 ^ 20 * 5, 3)] }.passes (2 ^ 20 * f.mem + f.row) ∧
         Tab.get (fun _ => 0) run.wear.passes (2 ^ 20 * f.mem + f.row) < 3 ∧ f.uncorrectable = false) ∧
      run.flag F.PMC_CTL_RUN = false ∧ (run.setFld F.PMC_CTL_RUN 1).flag F.PMC_CTL_RUN = true := by decide

theorem met_ClocksAndCrossingsFollow :
    State.reset.awake = false ∧ run.awake = true ∧ (run.setWord Reg.CLK_MON 0x10000#32).word Reg.CLK_MON = 0x10000#32 ∧
      ((run.setWord Reg.CLK_MON 0x10000#32).word Reg.CLK_MON).getLsbD 16 = true ∧ (run.word Reg.CLK_MON).getLsbD 3 = false ∧
      (xFallback 2 = true ∧ (run.setFld (F.CLK_XSTAT_STATE 2) 1).xState 2 = 1) ∧ 2 ≤ (run.setFld (F.CLK_XSTAT_STATE 2) 2).xState 2 ∧ xFallback 21 = false ∧
      (let h := fun p => (run.setFld (F.CLK_XSTAT_STATE 21) 2).setXPhase 21 p
       (h 1).xState 21 = 2 ∧ (h 1).xPhase 21 = 1 ∧ (h 2).xPhase 21 = 2 ∧ 3 ≤ (h 4).xPhase 21 ∧ (h 4).xStill 21 = false) ∧
      (let w := ((run.setFld (F.CLK_XSTAT_STATE 2) 2).setXPhase 2 3).modXing 2 fun x => { x with wait := [.write .bar2 0x10FFFC 4 5#32] }
       w.xState 2 = 2 ∧ 3 ≤ w.xPhase 2 ∧ (w.xing 2).wait = [.write .bar2 0x10FFFC 4 5#32] ∧ 0x10FFFC % 4 = 0 ∧ 0x10FFFC < 0x110000) ∧
      (∃ n ∈ clockCrossings 14, n < 22) ∧ 22 - 1 ∉ clockCrossings 14 ∧ (run.setFld (F.CLK_XSTAT_STATE 21) 3).xState 21 = 3 ∧
      (∃ n < 22, (0x200000#32).getLsbD n = true ∧ xFallback n = false) ∧ (∀ n < 22, (0x0002003C#32).getLsbD n = true → xFallback n = true) := by decide

/-! ### The block as a whole -/

theorem met_EveryStepKeepsTheInvariant : State.Inv { run with pending := [.snap 0 63 15, .almHalt 0 63] } := by
  unfold State.Inv State.RegsOk State.QueueOk; decide

theorem met_EveryCommandKeepsToItsFootprint : ∃ u : State, exec (.vbatLow 0) run = .next u := ⟨_, rfl⟩

end Sys2Proof.Tests
end

section
/-! Proofs for 00_scope.md: the invariant of every step, the footprints of the commands, accesses over the buses, and the commands that read. -/

namespace Sys2Proof.Machine

/-! ## The invariant -/

/-- A change that leaves the queue alone and keeps the register table canonical keeps the invariant. -/
theorem State.Inv.of_keeps {m : Nat} {s u : State} (h : s.Inv) (k : Keeps m s u) : u.Inv := by
  obtain ⟨hregs, hqueue⟩ := h
  refine ⟨k.regsOk hregs, fun c hc => hqueue c ?_⟩
  rwa [k.pending] at hc

theorem State.Inv.tail {s : State} {c : Instr} {cs : List Instr} (h : s.Inv) (hp : s.pending = c :: cs) :
    State.Inv { s with pending := cs } := by
  obtain ⟨hregs, hqueue⟩ := h
  refine ⟨hregs, fun d hd => hqueue d ?_⟩
  rw [hp]
  exact List.mem_cons_of_mem c hd

/-- Settles O3: a step idles or executes the front command, and every command answers a next state within its mask, which keeps the invariant. -/
theorem everyStepKeepsTheInvariant : Obligations.EveryStepKeepsTheInvariant := by
  unfold Obligations.EveryStepKeepsTheInvariant
  intro s hs
  unfold SafeStep step
  cases hp : s.pending with
  | nil => exact ⟨s, rfl, hs⟩
  | cons c cs =>
    obtain ⟨u, hu, k⟩ := exec_keeps c { s with pending := cs }
    exact ⟨u, hu, (hs.tail hp).of_keeps k⟩

/-! ## Footprints -/

/-- The number whose set bits are those listed. -/
def bitsOf (l : List Nat) : Nat := l.foldr (fun n x => 2 ^ n ||| x) 0

theorem testBit_bitsOf (l : List Nat) (n : Nat) : (bitsOf l).testBit n = decide (n ∈ l) := by
  induction l with
  | nil => simp [bitsOf]
  | cons a l ih =>
    have h : bitsOf (a :: l) = 2 ^ a ||| bitsOf l := rfl
    rw [h, Nat.testBit_or, ih, Nat.testBit_two_pow]
    simp [eq_comm (a := a)]

theorem bitOff_bitsOf {l : List Nat} {n : Nat} (hn : n ∉ l) : bitOff (bitsOf l) n = true := by
  have h := testBit_bitsOf l n
  rw [decide_eq_false hn, Nat.testBit, Nat.one_and_eq_mod_two] at h
  unfold bitOff
  simpa using h

theorem Part.all_bit (p : Part) : Part.all[p.bit]? = some p := by cases p <;> rfl

theorem Part.bit_lt (p : Part) : p.bit < 26 := (List.getElem?_eq_some_iff.mp p.all_bit).1

theorem Part.bit_inj {p q : Part} (h : p.bit = q.bit) : p = q := by
  have hp := p.all_bit
  rw [h, q.all_bit] at hp
  exact (Option.some.inj hp).symm

/-- The bits of a footprint: its parts', and its blocks' from bit 32 on. Bits 26 and 27 stay clear: Dial does not run back, and the other blocks are
closed. -/
def footprintBits (ps : List Part) (bs : List Block) : List Nat := ps.map Part.bit ++ bs.map (32 + ·)

theorem part_of_footprintBits {ps : List Part} {bs : List Block} {p : Part} (h : p.bit ∈ footprintBits ps bs) : p ∈ ps := by
  rcases List.mem_append.mp h with h | h
  · obtain ⟨q, hq, e⟩ := List.mem_map.mp h
    exact Part.bit_inj e ▸ hq
  · obtain ⟨b, _, e⟩ := List.mem_map.mp h
    have := p.bit_lt
    omega

theorem block_of_footprintBits {ps : List Part} {bs : List Block} {b : Nat} (h : 32 + b ∈ footprintBits ps bs) : b ∈ bs := by
  rcases List.mem_append.mp h with h | h
  · obtain ⟨p, _, e⟩ := List.mem_map.mp h
    have := p.bit_lt
    omega
  · obtain ⟨c, hc, e⟩ := List.mem_map.mp h
    exact Nat.add_left_cancel e ▸ hc

theorem gap_footprintBits (ps : List Part) (bs : List Block) {n : Nat} (h1 : 26 ≤ n) (h2 : n < 32) : n ∉ footprintBits ps bs := by
  intro h
  rcases List.mem_append.mp h with h | h
  · obtain ⟨p, _, e⟩ := List.mem_map.mp h
    have := p.bit_lt
    omega
  · obtain ⟨b, _, e⟩ := List.mem_map.mp h
    omega

/-- A change whose mask lies within a footprint's bits keeps to the footprint. -/
theorem Keeps.footprint {m : Nat} {s u : State} {ps : List Part} {bs : List Block} (k : Keeps m s u)
    (hm : bitsOf (footprintBits ps bs) ||| m = bitsOf (footprintBits ps bs)) : Footprint ps bs s u := by
  have k : Keeps (bitsOf (footprintBits ps bs)) s u := Keeps.next hm (Keeps.refl _ s) k
  have hclosed := bitOff_bitsOf (gap_footprintBits ps bs (n := 27) (by omega) (by omega))
  refine ⟨⟨k.pending, fun p hp => ?_⟩, fun j hj => ?_, ?_⟩
  · exact k.same p (bitOff_bitsOf fun h => hp (part_of_footprintBits h))
  · exact k.word hclosed j (bitOff_bitsOf fun h => hj (block_of_footprintBits h))
  · exact k.dialMono (bitOff_bitsOf (gap_footprintBits ps bs (by omega) (by omega)))

/-- What a command's next state can differ in. -/
theorem Keeps.of_exec {c : Instr} {s u : State} (he : exec c s = .next u) : Keeps (keepsMask c) s u := by
  obtain ⟨v, hv, k⟩ := exec_keeps c s
  rw [hv] at he
  cases he
  exact k

/-- Settles O6: each command's mask lies within its footprint. Dial may run back at the power-on reset alone, and the commands named here leave every
block open. -/
theorem everyCommandKeepsToItsFootprint : Obligations.EveryCommandKeepsToItsFootprint := by
  unfold Obligations.EveryCommandKeepsToItsFootprint
  intro c s u he
  have k := Keeps.of_exec he
  clear he
  unfold keepsMask at k
  cases c <;> dsimp only at k
  case powerOnReset => exact k.touches rfl
  case deviceReset | recoveryReset | wakeFrame | registerWrite | hspiWriteFrame | cmdWriteReg | cmdSetEpoch |
      cmdSetPtp | cmdSetTiles | cmdSetMod | cmdSetChecks | cmdAlmLoad | cmdSxtCfg | cmdLearnCfg | cmdAzmPlan |
      cmdAzmCal | cmdAzmCfg | cmdBalSetup | cmdBalManual | cmdHlmSetup | cmdHlmAnalog | cmdHlmLimits |
      cmdHlmDispatch | cmdDspSetup | cmdCoolSetup | cmdCoolFloor | cmdHvacSetup | cmdCanSetup | cmdCanFilter |
      cmdLogWindow | cmdPmcControl | epochCommit | journalSaveDone | cmdBinParam | cmdPowerState |
      cmdCommissionSpare | handshakePhase | powerFail =>
    exact ⟨k.touches rfl, k.dialMono rfl⟩
  all_goals exact k.footprint rfl

/-! ## What an access finds and leaves -/

@[simp] theorem State.at_xState (s : State) (t n : Nat) : (s.at t).xState n = s.xState n := State.at_fld ..
@[simp] theorem State.at_requestsCut (s : State) (t m : Nat) : (s.at t).requestsCut m = s.requestsCut m := by
  unfold State.requestsCut; simp
@[simp] theorem State.at_answersCut (s : State) (t m : Nat) : (s.at t).answersCut m = s.answersCut m := by
  unfold State.answersCut; simp
@[simp] theorem State.at_requestsWait (s : State) (t m : Nat) : (s.at t).requestsWait m = s.requestsWait m := by
  unfold State.requestsWait; simp
@[simp] theorem State.at_awake (s : State) (t : Nat) : (s.at t).awake = s.awake := by
  unfold State.awake; simp

theorem State.requestsCut_of_answersCut {s : State} {m : Nat} (h : s.answersCut m = false) : s.requestsCut m = false := by
  unfold State.answersCut at h
  simp only [Bool.or_eq_false_iff] at h
  exact h.1.1

/-- A host's requests are cut off exactly while their crossing is TIMEDOUT. -/
theorem State.requestsCut_of_hostXing {m : Nat} {x : Nat × Nat} (s : State) (h : hostXing m = some x) :
    s.requestsCut m = (s.xState x.1 == 3) := by
  unfold hostXing at h
  unfold State.requestsCut
  split at h
  · cases h; subst m; simp
  · split at h
    · cases h; subst m; simp
    · cases h

theorem State.answersCut_of_hostXing {m : Nat} {x : Nat × Nat} (s : State) (h : hostXing m = some x) :
    s.answersCut m = (s.xState x.1 == 3 || s.xState x.2 == 3) := by
  unfold State.answersCut
  rw [s.requestsCut_of_hostXing h]
  unfold hostXing at h
  split at h
  · cases h; subst m; simp
  · split at h
    · cases h; subst m; simp
    · cases h

theorem State.requestsWait_of_hostXing {m : Nat} {x : Nat × Nat} (s : State) (h : hostXing m = some x) :
    s.requestsWait m = (s.xState x.1 == 2) := by
  unfold State.requestsWait
  rw [h]
  rfl

theorem State.reqSend_of_hostXing {m : Nat} {x : Nat × Nat} (s : State) (ws : List XWord) (h : hostXing m = some x) :
    s.reqSend m ws = s.xSend x.1 ws := by
  unfold State.reqSend
  rw [h]

/-- The state with other hold registers: all that an access's crossing of a clock boundary may change. -/
def State.withClk (s : State) (c : ClkSt) : State := { s with clk := c }

@[simp] theorem State.withClk_regs (s : State) (c : ClkSt) : (s.withClk c).regs = s.regs := rfl
@[simp] theorem State.withClk_dial (s : State) (c : ClkSt) : (s.withClk c).dial = s.dial := rfl
@[simp] theorem State.withClk_host (s : State) (c : ClkSt) : (s.withClk c).host = s.host := rfl
@[simp] theorem State.withClk_time (s : State) (c : ClkSt) : (s.withClk c).time = s.time := rfl
@[simp] theorem State.withClk_word (s : State) (c : ClkSt) (k : Nat) : (s.withClk c).word k = s.word k := rfl
@[simp] theorem State.withClk_xState (s : State) (c : ClkSt) (n : Nat) : (s.withClk c).xState n = s.xState n := rfl
@[simp] theorem State.withClk_setNow (s : State) (c : ClkSt) (k : Nat) : (s.withClk c).setNow k = s.setNow k := rfl
@[simp] theorem State.withClk_calMs (s : State) (c : ClkSt) : (s.withClk c).calMs = s.calMs := rfl
@[simp] theorem State.withClk_bar2Read (s : State) (c : ClkSt) (m off : Nat) : (s.withClk c).bar2Read m off = s.bar2Read m off := rfl

/-- Words handed to a crossing that is not TIMEDOUT change the hold registers alone. -/
theorem State.xSend_eq {s : State} {n : Nat} (ws : List XWord) (h : s.xState n ≠ 3) :
    ∃ c : ClkSt, s.xSend n ws = s.withClk c := by
  unfold State.xSend
  simp only [h, if_false]
  split
  · exact ⟨_, rfl⟩
  · split <;> exact ⟨_, rfl⟩

/-- Words handed to a TIMEDOUT crossing are counted (R512). -/
theorem State.xSend_timedout {s : State} {n : Nat} (ws : List XWord) (h : s.xState n = 3) :
    s.xSend n ws = s.satAdd (F.CLK_XSTAT_DISC n) ws.length := by
  unfold State.xSend
  simp only [h, if_true]

/-- Words handed to a crossing in HANDSHAKE wait (R510). -/
theorem State.xSend_handshake {s : State} {n : Nat} (ws : List XWord) (h : s.xState n = 2) :
    s.xSend n ws = s.modXing n fun x => { x with wait := x.wait ++ ws } := by
  unfold State.xSend
  simp [h]

/-- A request that is not cut off changes the hold registers alone. -/
theorem State.reqSend_eq {s : State} {m : Nat} (ws : List XWord) (h : s.requestsCut m = false) :
    ∃ c : ClkSt, s.reqSend m ws = s.withClk c := by
  cases hx : hostXing m with
  | none => exact ⟨s.clk, by unfold State.reqSend; rw [hx]; rfl⟩
  | some x =>
    rw [s.requestsCut_of_hostXing hx] at h
    rw [s.reqSend_of_hostXing ws hx]
    exact State.xSend_eq ws (by simpa using h)

/-- A completion that is not cut off answers its master and changes the hold registers alone. -/
theorem State.complete_eq {s : State} {m : Nat} (w : Word) (h : s.answersCut m = false) :
    ∃ c : ClkSt, s.complete m w = (s.withClk c).answer m w := by
  unfold State.complete
  cases hx : hostXing m with
  | none => exact ⟨s.clk, rfl⟩
  | some x =>
    simp only [h]
    rw [s.answersCut_of_hostXing hx, Bool.or_eq_false_iff] at h
    obtain ⟨c, hc⟩ := State.xSend_eq (s := s) (n := x.2) [.data w] (by simpa using h.2)
    exact ⟨c, by rw [hc]; rfl⟩

@[simp] theorem State.answer_word (s : State) (m : Nat) (w : Word) (k : Nat) : (s.answer m w).word k = s.word k := rfl

theorem State.lastReadOf_answer (s : State) (m : Master) (w : Word) : (s.answer (masterId m) w).lastReadOf m = w :=
  Tab.get_set_same ..

theorem State.satAdd_fld (s : State) (f : Fld) (n : Nat) (h : f.lo + (f.hi - f.lo + 1) ≤ 32) :
    (s.satAdd f n).fld f = min (s.fld f + n) (2 ^ (f.hi - f.lo + 1) - 1) := by
  unfold State.satAdd
  rw [State.fld_setFld_same _ _ _ h]
  refine Nat.mod_eq_of_lt ?_
  have : 0 < 2 ^ (f.hi - f.lo + 1) := Nat.two_pow_pos _
  omega

/-- Registers that a part of the state left alone shows as they were. -/
theorem Touches.sameRegs {ps : List Part} {s u : State} (h : Touches ps s u) (hr : Part.regs ∉ ps) (ks : List Nat) : SameRegs ks s u :=
  fun k _ => h.word hr k

theorem SameRegs.of_setWord {s w : State} {k : Nat} {v : Word} (h : w.regs = s.regs) : SameRegs [k] s (w.setWord k v) := by
  intro j hj
  rw [State.word_setWord_other _ _ (by simpa using hj)]
  unfold State.word
  rw [h]

theorem Keeps.mono {m m' : Nat} {s u : State} (k : Keeps m' s u) (hm : m ||| m' = m) : Keeps m s u := Keeps.next hm (Keeps.refl m s) k

/-! ## Refused accesses (R14, R396) -/

theorem State.irq_word (s : State) (n k : Nat) : (s.irq n).word k =
    if k = Reg.HOST_IRQSTS then setBits (s.word Reg.HOST_IRQSTS) n 1 1 else s.word k := by
  have h : (s.irq n).word k = (s.setFld ⟨Reg.HOST_IRQSTS, n, n⟩ 1).word k := by
    unfold State.irq State.sendMsix
    dsimp only
    repeat' split
    all_goals rfl
  rw [h]
  unfold State.setFld
  rw [State.word_setWord]
  simp

/-- An error of the host interfaces shows in its bit of HOST_STS and in the ERR cause, and in no other register. -/
theorem State.hostErr_shows (s : State) {f : Fld} (hr : f.reg = Reg.HOST_STS) (h1 : f.hi = f.lo) (h2 : 0 < f.lo) (h3 : f.lo < 32) :
    SameRegs [Reg.HOST_STS, Reg.HOST_IRQSTS] s (s.hostErr f) ∧ (s.hostErr f).flag f = true ∧
      ((s.hostErr f).word Reg.HOST_IRQSTS).getLsbD 4 = true := by
  unfold State.hostErr
  refine ⟨fun k hk => ?_, ?_, ?_⟩
  · simp only [List.mem_cons, List.not_mem_nil, or_false, not_or] at hk
    rw [State.irq_word, if_neg hk.2, State.word_raiseEv_other _ _ (by rw [hr]; exact hk.1)]
  · have h := State.flag_raiseEv_same s f h1 h2 h3
    unfold State.flag at h ⊢
    rw [State.irq_word, if_neg (by rw [hr]; decide)]
    exact h
  · rw [State.irq_word, if_pos rfl, getLsbD_setBits]
    rfl

theorem hostErr_of_keeps {s w : State} {f : Fld} (k : Keeps 34 s w) (hr : f.reg = Reg.HOST_STS) (h1 : f.hi = f.lo) (h2 : 0 < f.lo)
    (h3 : f.lo < 32) : HostErr f s (w.hostErr f) := by
  obtain ⟨hsame, hflag, hirq⟩ := w.hostErr_shows hr h1 h2 h3
  have hk : Keeps 34359738534 s (w.hostErr f) := State.hostErr_keeps (by rw [hr]; rfl) rfl (k.mono rfl)
  exact ⟨hk.touches rfl, fun j hj => (hsame j hj).trans ((k.touches (ps := [.dial, .time]) rfl).word (by decide) j), hflag, hirq⟩

theorem busErr_of_keeps {s w : State} {f : Fld} (k : Keeps 8226 s w) (hr : f.reg = Reg.HOST_STS) (h1 : f.hi = f.lo) (h2 : 0 < f.lo)
    (h3 : f.lo < 32) : BusErr f s (w.hostErr f) := by
  obtain ⟨hsame, hflag, hirq⟩ := w.hostErr_shows hr h1 h2 h3
  have hk : Keeps 34359746726 s (w.hostErr f) := State.hostErr_keeps (by rw [hr]; rfl) rfl (k.mono rfl)
  exact ⟨hk.touches rfl, fun j hj => (hsame j hj).trans ((k.touches (ps := [.dial, .time, .clk]) rfl).word (by decide) j), hflag, hirq⟩

/-! ## Register writes -/

theorem keeps_at (s : State) (t : Nat) : Keeps 34 s (s.at t) := State.at_keeps rfl (Keeps.refl 34 s)

/-- A request that is not cut off finds the state of its instant, with hold registers that may have moved on. -/
theorem keeps_at_clk (s : State) (t : Nat) (c : ClkSt) : Keeps 8226 s ((s.at t).withClk c) :=
  Keeps.mk_clk rfl ((keeps_at s t).mono rfl)

section
variable (t off bytes : Nat) (m : Master) (sp : Space) (v : Word) (s : State)

theorem registerWrite_asleep (ha : s.awake = false) :
    Completes (.registerWrite t m sp off bytes v) s fun u => Touches [.dial, .time] s u := by
  refine ⟨s.at t, ?_, (keeps_at s t).touches rfl⟩
  show execRegisterWrite t m sp off bytes v s = _
  unfold execRegisterWrite
  simp [ha]

/-- A write that does not reach PERI at once: its words go to the crossing, and nothing else happens. -/
theorem exec_registerWrite_held (ha : s.awake = true) (h : (s.requestsCut (masterId m) || s.requestsWait (masterId m)) = true) :
    exec (.registerWrite t m sp off bytes v) s = .next ((s.at t).reqSend (masterId m) [.write sp off bytes v]) := by
  show execRegisterWrite t m sp off bytes v s = _
  unfold execRegisterWrite
  rcases Bool.or_eq_true_iff.mp h with h | h <;> simp [ha, h]

/-- A write that reaches PERI is carried out on the state of its instant. -/
theorem exec_registerWrite_served (ha : s.awake = true) (hc : s.requestsCut (masterId m) = false)
    (hw : s.requestsWait (masterId m) = false) :
    ∃ c : ClkSt, exec (.registerWrite t m sp off bytes v) s =
      .next (((s.at t).withClk c).writeAccess (masterId m) sp off bytes v) := by
  obtain ⟨c, hc'⟩ := State.reqSend_eq (s := s.at t) (m := masterId m) [.write sp off bytes v] (by simpa using hc)
  refine ⟨c, ?_⟩
  show execRegisterWrite t m sp off bytes v s = _
  unfold execRegisterWrite
  simp [ha, hc, hw, hc']

end

theorem State.fld_CLK_XSTAT_DISC (s : State) (n k : Nat) :
    (s.satAdd (F.CLK_XSTAT_DISC n) k).fld (F.CLK_XSTAT_DISC n) = min (s.fld (F.CLK_XSTAT_DISC n) + k) 65535 :=
  s.satAdd_fld (F.CLK_XSTAT_DISC n) k (by simp)

/-- Words for a TIMEDOUT crossing are discarded and counted, and nothing else changes but the time (R512). -/
theorem discards (s : State) (t n : Nat) (ws : List XWord) : ∀ u : State, u = (s.at t).satAdd (F.CLK_XSTAT_DISC n) ws.length →
    Touches [.dial, .time, .regs] s u ∧ SameRegs [Reg.CLK_XSTAT n] s u ∧
      u.fld (F.CLK_XSTAT_DISC n) = min (s.fld (F.CLK_XSTAT_DISC n) + ws.length) 65535 := by
  rintro u rfl
  have k : Keeps 134217766 s ((s.at t).satAdd (F.CLK_XSTAT_DISC n) ws.length) :=
    State.setWord_keepsAny rfl ((keeps_at s t).mono rfl)
  refine ⟨k.touches rfl, SameRegs.of_setWord (by simp), ?_⟩
  rw [State.fld_CLK_XSTAT_DISC, State.at_fld]

section
variable (t off bytes : Nat) (m : Master) (sp : Space) (v : Word) (s : State)

theorem registerWrite_timedout {n : Nat} (hx : hostXing (masterId m) = some (n, n + 1)) (ha : s.awake = true) (h : s.xState n = 3) :
    Completes (.registerWrite t m sp off bytes v) s fun u => Touches [.dial, .time, .regs] s u ∧
      SameRegs [Reg.CLK_XSTAT n] s u ∧ u.fld (F.CLK_XSTAT_DISC n) = min (s.fld (F.CLK_XSTAT_DISC n) + 1) 65535 := by
  have hc : s.requestsCut (masterId m) = true := by rw [s.requestsCut_of_hostXing hx, h]; rfl
  refine ⟨_, exec_registerWrite_held t off bytes m sp v s ha (by rw [hc]; rfl), ?_⟩
  refine discards s t n [.write sp off bytes v] _ ?_
  rw [State.reqSend_of_hostXing _ _ hx]
  exact State.xSend_timedout _ (by simpa using h)

theorem registerWrite_waits {n : Nat} (hx : hostXing (masterId m) = some (n, n + 1)) (ha : s.awake = true) (h : s.xState n = 2) :
    Completes (.registerWrite t m sp off bytes v) s fun u =>
      Touches [.dial, .time, .clk] s u ∧ (u.xing n).wait = (s.xing n).wait ++ [.write sp off bytes v] := by
  have hw : s.requestsWait (masterId m) = true := by rw [s.requestsWait_of_hostXing hx, h]; rfl
  have hs : (s.at t).reqSend (masterId m) [.write sp off bytes v] =
      (s.at t).modXing n fun x => { x with wait := x.wait ++ [.write sp off bytes v] } := by
    rw [State.reqSend_of_hostXing _ _ hx]
    exact State.xSend_handshake _ (by simpa using h)
  refine ⟨_, exec_registerWrite_held t off bytes m sp v s ha (by rw [hw, Bool.or_true]), ?_⟩
  rw [hs]
  refine ⟨(keeps_at_clk s t _).touches rfl, ?_⟩
  rw [State.modXing_xing]
  unfold State.xing
  simp

end

theorem State.writeAccess_narrow (s : State) (m off bytes : Nat) (sp : Space) (v : Word) (h : bytes ≠ 4 ∨ off % 4 ≠ 0) :
    s.writeAccess m sp off bytes v = s.hostErr F.HOST_STS_ACCESS_ERR := by
  unfold State.writeAccess
  rw [if_pos h]

theorem State.writeAccess_bar0 (s : State) (m off : Nat) (v : Word) (h : off % 4 = 0) :
    s.writeAccess m .bar0 off 4 v = s.busWrite m off v := by
  unfold State.writeAccess
  rw [if_neg (by simp [h])]

theorem State.writeAccess_bar2 (s : State) (m off : Nat) (v : Word) (h : off % 4 = 0) :
    s.writeAccess m .bar2 off 4 v = s.bar2Write m off v := by
  unfold State.writeAccess
  rw [if_neg (by simp [h])]

theorem dataPath_of_block {off b : Nat} (h : off / 0x1000 = b) (hb : b = 16 ∨ b = 20) : dataPath off = false := by
  have h1 : off ≠ Reg.SYS_EPOCHCTL := by
    show off ≠ 64
    omega
  have h2 : off ≠ Reg.SYS_PROFILE := by
    show off ≠ 128
    omega
  have h3 : ¬ (0x40000 ≤ off ∧ off < 0x60000) := by omega
  have h4 : b ≠ 10 ∧ b ≠ 12 ∧ b ≠ 13 := by omega
  unfold dataPath
  simp [h, h1, h2, h3, h4]

theorem State.busWrite_of_row (s : State) (m : Nat) {off : Nat} {r : RegRow} (v : Word) (hd : dataPath off = false) (h : off < 0x20000)
    (hr : regRow off = some r) : s.busWrite m off v = s.regWrite m off r v := by
  unfold State.busWrite State.when
  simp [hd, h, hr]

theorem State.busWrite_unoccupied (s : State) (m : Nat) {off : Nat} (v : Word) (hd : dataPath off = false)
    (h : (off < 0x20000 ∧ regRow off = none) ∨ 0x60000 ≤ off) : s.busWrite m off v = s.hostErr F.HOST_STS_ACCESS_ERR := by
  unfold State.busWrite State.when
  simp only [hd]
  rcases h with ⟨h, hr⟩ | h
  · simp [h, hr]
  · have h1 : ¬ off < 0x20000 := by omega
    have h2 : ¬ off < 0x40000 := by omega
    have h3 : ¬ off < 0x60000 := by omega
    simp [h1, h2, h3]

theorem State.regWrite_upd (s : State) (m : Nat) {off : Nat} (r : RegRow) (v : Word) (h : off / 0x1000 = 20) :
    s.regWrite m off r v = s.plainWrite m off r v := by
  unfold State.regWrite
  simp [h]

theorem State.regWrite_lds (s : State) (m : Nat) {off : Nat} (r : RegRow) (v : Word) (h : off / 0x1000 = 16) :
    s.regWrite m off r v = s := by
  unfold State.regWrite
  simp [h]

section
variable (t off bytes : Nat) (m : Master) (sp : Space) (v : Word) (s : State) (ha : s.awake = true)
  (hc : s.requestsCut (masterId m) = false) (hw : s.requestsWait (masterId m) = false)
include ha hc hw

theorem registerWrite_narrow (h : bytes ≠ 4 ∨ off % 4 ≠ 0) :
    Completes (.registerWrite t m sp off bytes v) s fun u => BusErr F.HOST_STS_ACCESS_ERR s u := by
  obtain ⟨c, he⟩ := exec_registerWrite_served t off bytes m sp v s ha hc hw
  rw [State.writeAccess_narrow _ _ _ _ _ _ h] at he
  exact ⟨_, he, busErr_of_keeps (keeps_at_clk s t c) rfl rfl (by decide) (by decide)⟩

theorem registerWrite_upd (h4 : off % 4 = 0) (r : RegRow) (hr : regRow off = some r) (h1 : 0x14000 ≤ off) (h2 : off < 0x15000) :
    Completes (.registerWrite t m .bar0 off 4 v) s fun u =>
      Touches [.dial, .time, .regs, .clk] s u ∧ ∀ k : Nat, k = (if r.perMaster then masterKey (masterId m) off else off) →
        SameRegs [k] s u ∧ u.word k = accessWrite r.rw r.w1c (heldMask off) ((s.at t).setNow k) (s.word k) v := by
  obtain ⟨c, he⟩ := exec_registerWrite_served t off 4 m .bar0 v s ha hc hw
  have hb : off / 0x1000 = 20 := by omega
  rw [State.writeAccess_bar0 _ _ _ _ h4, State.busWrite_of_row _ _ _ (dataPath_of_block hb (.inr rfl)) (by omega) hr,
    State.regWrite_upd _ _ _ _ hb] at he
  refine ⟨_, he, ?_⟩
  unfold State.plainWrite
  refine ⟨(State.setWord_keepsAny (m := 134225958) rfl ((keeps_at_clk s t c).mono rfl)).touches rfl, ?_⟩
  rintro k rfl
  refine ⟨SameRegs.of_setWord (by simp), ?_⟩
  rw [State.word_setWord_same, State.withClk_setNow]
  exact congrArg (fun x => accessWrite _ _ _ _ x v) (State.at_word s t _)

theorem registerWrite_lds (h4 : off % 4 = 0) (r : RegRow) (hr : regRow off = some r) (h1 : 0x10000 ≤ off) (h2 : off < 0x11000) :
    Completes (.registerWrite t m .bar0 off 4 v) s fun u => Touches [.dial, .time, .clk] s u := by
  obtain ⟨c, he⟩ := exec_registerWrite_served t off 4 m .bar0 v s ha hc hw
  have hb : off / 0x1000 = 16 := by omega
  rw [State.writeAccess_bar0 _ _ _ _ h4, State.busWrite_of_row _ _ _ (dataPath_of_block hb (.inl rfl)) (by omega) hr,
    State.regWrite_lds _ _ _ _ hb] at he
  exact ⟨_, he, (keeps_at_clk s t c).touches rfl⟩

theorem registerWrite_unoccupied (h4 : off % 4 = 0) (h : (off < 0x20000 ∧ regRow off = none) ∨ 0x60000 ≤ off)
    (hd : dataPath off = false) :
    Completes (.registerWrite t m .bar0 off 4 v) s fun u => BusErr F.HOST_STS_ACCESS_ERR s u := by
  obtain ⟨c, he⟩ := exec_registerWrite_served t off 4 m .bar0 v s ha hc hw
  rw [State.writeAccess_bar0 _ _ _ _ h4, State.busWrite_unoccupied _ _ _ hd h] at he
  exact ⟨_, he, busErr_of_keeps (keeps_at_clk s t c) rfl rfl (by decide) (by decide)⟩

theorem registerWrite_ring (h4 : off % 4 = 0) (h1 : 0x100000 ≤ off) (h2 : off < 0x110000) :
    Completes (.registerWrite t m .bar2 off 4 v) s fun u => Touches [.dial, .time, .host, .clk] s u ∧
      Tab.get zeroWord u.host.cmdRing (masterKey (masterId m) ((off - 0x100000) / 4)) = v := by
  obtain ⟨c, he⟩ := exec_registerWrite_served t off 4 m .bar2 v s ha hc hw
  rw [State.writeAccess_bar2 _ _ _ _ h4] at he
  unfold State.bar2Write at he
  rw [if_pos ⟨h1, h2⟩] at he
  exact ⟨_, he, (Keeps.mk_host (m := 8354) rfl ((keeps_at_clk s t c).mono rfl)).touches rfl, Tab.get_set_same ..⟩

theorem registerWrite_readOnly (h4 : off % 4 = 0) (h : off < 0x10000 ∨ (0x110000 ≤ off ∧ off < 0x121000)) :
    Completes (.registerWrite t m .bar2 off 4 v) s fun u => BusErr F.HOST_STS_ACCESS_ERR s u := by
  obtain ⟨c, he⟩ := exec_registerWrite_served t off 4 m .bar2 v s ha hc hw
  rw [State.writeAccess_bar2 _ _ _ _ h4] at he
  unfold State.bar2Write at he
  rw [if_neg (by omega), if_pos h] at he
  exact ⟨_, he, busErr_of_keeps (keeps_at_clk s t c) rfl rfl (by decide) (by decide)⟩

end

/-! ## Reads over the buses -/

section
variable (t : Nat) (m : Master) (r : BusRead) (s : State)

theorem busRead_cut (hc : s.requestsCut (masterId m) = true) :
    Completes (.timeLowWordRead t m r) s fun u => Touches [.dial, .time, .lastRead, .regs, .clk] s u ∧ OnlyBlocks [Block.clk] s u ∧
      u.lastReadOf m = 0 := by
  have he : exec (.timeLowWordRead t m r) s =
      .next (((s.at t).reqSend (masterId m) [.read r.sp r.off r.bytes]).answer (masterId m) 0) := by
    show execTimeLowWordRead t m r s = _
    unfold execTimeLowWordRead
    simp [hc]
  have k : Keeps 8589942830 s (((s.at t).reqSend (masterId m) [.read r.sp r.off r.bytes]).answer (masterId m) 0) :=
    State.answer_keeps rfl (State.reqSend_keeps rfl ((keeps_at s t).mono rfl))
  obtain ⟨ht, hb, _⟩ := k.footprint (ps := [.dial, .time, .lastRead, .regs, .clk]) (bs := [Block.clk]) rfl
  exact ⟨_, he, ht, hb, State.lastReadOf_answer _ _ _⟩

theorem busRead_waits (hc : s.requestsCut (masterId m) = false) (hw : s.requestsWait (masterId m) = true) :
    Completes (.timeLowWordRead t m r) s fun u => Touches [.dial, .time, .clk] s u := by
  obtain ⟨c, hs⟩ := State.reqSend_eq (s := s.at t) (m := masterId m) [.read r.sp r.off r.bytes] (by simpa using hc)
  refine ⟨(s.at t).withClk c, ?_, (keeps_at_clk s t c).touches rfl⟩
  show execTimeLowWordRead t m r s = _
  unfold execTimeLowWordRead
  simp [hc, hw, hs]

end

/-- Answers are cut off by the same crossings wherever the crossings' status stands as it did. -/
theorem State.answersCut_congr {s u : State} (h : ∀ n : Nat, u.xState n = s.xState n) (m : Nat) : u.answersCut m = s.answersCut m := by
  unfold State.answersCut State.requestsCut
  simp only [h]

/-- A read that is served: what the access returns and leaves, on the state of its instant; its answer reaches the master over hold registers that
may have moved on. -/
theorem busRead_served (t : Nat) (m : Master) (r : BusRead) (s : State) (hc : s.answersCut (masterId m) = false)
    (hw : s.requestsWait (masterId m) = false) : ∃ c : ClkSt, ∀ (w : Word) (v : State),
      ((s.at t).withClk c).readRequest (masterId m) r.sp r.off r.bytes = (w, v) → (∀ n : Nat, v.xState n = s.xState n) →
      ∃ d : ClkSt, exec (.timeLowWordRead t m r) s = .next ((v.withClk d).answer (masterId m) w) := by
  have hcut := State.requestsCut_of_answersCut hc
  obtain ⟨c, hs⟩ := State.reqSend_eq (s := s.at t) (m := masterId m) [.read r.sp r.off r.bytes] (by simpa using hcut)
  refine ⟨c, fun w v hv hx => ?_⟩
  obtain ⟨d, hd⟩ := State.complete_eq (s := v) (m := masterId m) w (by rw [State.answersCut_congr hx]; exact hc)
  refine ⟨d, ?_⟩
  rw [← hd]
  show execTimeLowWordRead t m r s = _
  unfold execTimeLowWordRead
  simp [hcut, hw, hs, hv]

theorem State.readRequest_bar0 (s : State) (m off : Nat) (h : off % 4 = 0) : s.readRequest m .bar0 off 4 = s.busRead m off := by
  unfold State.readRequest State.readAccess
  simp [h]

theorem State.readAccess_bar2 (s : State) (m off : Nat) (h : off % 4 = 0) : s.readAccess m .bar2 off 4 = (s.bar2Read m off, s) := by
  unfold State.readAccess
  simp [h]

theorem State.busRead_of_row (s : State) (m : Nat) {off : Nat} {r : RegRow} (h : off < 0x20000) (hr : regRow off = some r) :
    s.busRead m off = s.regRead m off r := by
  unfold State.busRead
  simp [h, hr]

theorem State.regRead_timeLow {s : State} {m off : Nat} {r : RegRow} {x : Word × State} (hb : off / 0x1000 = 2)
    (hx : s.timeLowRead m off = some x) : s.regRead m off r = x := by
  unfold State.regRead
  simp [hb, hx]

theorem State.readRequest_narrow (s : State) (m : Nat) {sp : Space} {off bytes : Nat} (h : bytes ≠ 4 ∨ off % 4 ≠ 0)
    (hs : sp = .bar0 ∨ off % 4 ≠ 0 ∨ bytes % 4 ≠ 0) : s.readRequest m sp off bytes = (0, s.hostErr F.HOST_STS_ACCESS_ERR) := by
  have hn : ¬ (sp = .bar2 ∧ off % 4 = 0 ∧ bytes % 4 = 0 ∧ 0 < bytes) := by
    rintro ⟨rfl, h1, h2, _⟩
    rcases hs with hs | hs | hs
    · cases hs
    · exact hs h1
    · exact hs h2
  unfold State.readRequest State.readAccess
  rw [if_neg hn, if_pos h]

theorem State.hostErr_xState (s : State) (f : Fld) (n : Nat) (hr : f.reg = Reg.HOST_STS) : (s.hostErr f).xState n = s.xState n := by
  have h1 : Reg.CLK_XSTAT n ≠ Reg.HOST_IRQSTS := by
    show 4352 + 4 * (n % 22) ≠ 12292
    omega
  have h2 : Reg.CLK_XSTAT n ≠ f.reg := by
    rw [hr]
    show 4352 + 4 * (n % 22) ≠ 12288
    omega
  unfold State.xState State.fld State.hostErr
  rw [State.irq_word, if_neg h1, State.word_raiseEv_other _ _ h2]

/-- The words of the first piece of a long read of BAR2 (R380). -/
theorem State.readRequest_bar2 (s : State) (m : Nat) {off bytes : Nat} (h1 : off % 4 = 0) (h2 : bytes % 4 = 0) (h3 : 0 < bytes) :
    s.readRequest m .bar2 off bytes = (s.bar2Read m off, s.modHost fun h => { h with
      readData := (if s.host.readNext = some (off, bytes) then s.host.readData else []) ++
        (List.range (min bytes (256 - off % 256) / 4)).map fun i => s.bar2Read m (off + 4 * i)
      readNext := if min bytes (256 - off % 256) < bytes
        then some (off + min bytes (256 - off % 256), bytes - min bytes (256 - off % 256)) else none }) := by
  have hpos : min bytes (256 - off % 256) / 4 = (min bytes (256 - off % 256) / 4 - 1) + 1 := by omega
  have hhead : ((List.range (min bytes (256 - off % 256) / 4)).map fun i => s.bar2Read m (off + 4 * i)).headD 0 = s.bar2Read m off := by
    rw [hpos, List.range_succ_eq_map]
    rfl
  unfold State.readRequest
  rw [if_pos ⟨rfl, h1, h2, h3⟩]
  exact Prod.ext hhead rfl

section
variable (t : Nat) (m : Master) (s : State) (hc : s.answersCut (masterId m) = false) (hw : s.requestsWait (masterId m) = false)
include hc hw

/-- A read of the low word of a value of several words answers it and latches the high word for the master (R49). -/
theorem busRead_timeLow {off hi : Nat} {r : RegRow} {x y : Word} (h4 : off % 4 = 0) (hb : off / 0x1000 = 2) (hr : regRow off = some r)
    (hx : ∀ c : ClkSt, ((s.at t).withClk c).timeLowRead (masterId m) off =
      some (x, ((s.at t).withClk c).setLatch (masterId m) hi y)) :
    Completes (.timeLowWordRead t m ⟨.bar0, off, 4⟩) s fun u =>
      Touches [.dial, .time, .lastRead, .clk] s u ∧ u.lastReadOf m = x ∧ u.latched (masterId m) hi = y := by
  obtain ⟨c, h⟩ := busRead_served t m ⟨.bar0, off, 4⟩ s hc hw
  obtain ⟨d, he⟩ := h x (((s.at t).withClk c).setLatch (masterId m) hi y)
    (by rw [State.readRequest_bar0 _ _ _ h4, State.busRead_of_row _ _ (by omega) hr, State.regRead_timeLow hb (hx c)])
    (fun n => State.at_xState s t n)
  have k : Keeps 8234 s (((((s.at t).withClk c).setLatch (masterId m) hi y).withClk d).answer (masterId m) x) :=
    State.answer_keeps rfl (Keeps.mk_clk rfl (State.setLatch_keeps rfl ((keeps_at_clk s t c).mono rfl)))
  exact ⟨_, he, k.touches rfl, State.lastReadOf_answer _ _ _, Tab.get_set_same ..⟩

theorem busRead_narrow (r : BusRead) (h : r.bytes ≠ 4 ∨ r.off % 4 ≠ 0) (hs : r.sp = .bar0 ∨ r.off % 4 ≠ 0 ∨ r.bytes % 4 ≠ 0) :
    Completes (.timeLowWordRead t m r) s fun u => Touches [.dial, .time, .regs, .host, .lastRead, .clk] s u ∧
      SameRegs [Reg.HOST_STS, Reg.HOST_IRQSTS] s u ∧ u.flag F.HOST_STS_ACCESS_ERR = true ∧
      (u.word Reg.HOST_IRQSTS).getLsbD 4 = true ∧ u.lastReadOf m = 0 := by
  obtain ⟨c, hserve⟩ := busRead_served t m r s hc hw
  obtain ⟨d, he⟩ := hserve 0 _ (State.readRequest_narrow _ _ h hs)
    (fun n => (State.hostErr_xState _ _ n rfl).trans (State.at_xState s t n))
  obtain ⟨_, hsame, hflag, hirq⟩ := busErr_of_keeps (f := F.HOST_STS_ACCESS_ERR) (keeps_at_clk s t c) rfl rfl (by decide) (by decide)
  have k : Keeps 34359746734 s (((((s.at t).withClk c).hostErr F.HOST_STS_ACCESS_ERR).withClk d).answer (masterId m) 0) :=
    State.answer_keeps rfl (Keeps.mk_clk rfl (State.hostErr_keeps rfl rfl ((keeps_at_clk s t c).mono rfl)))
  exact ⟨_, he, k.touches rfl, hsame, hflag, hirq, State.lastReadOf_answer _ _ _⟩

theorem busRead_piece (r : BusRead) (hsp : r.sp = .bar2) (h1 : r.off % 4 = 0) (h2 : r.bytes % 4 = 0) (h3 : 0 < r.bytes) (n : Nat)
    (old : List Word) (hn : n = min r.bytes (256 - r.off % 256))
    (hold : old = (if s.host.readNext = some (r.off, r.bytes) then s.host.readData else [])) :
    Completes (.timeLowWordRead t m r) s fun u => Touches [.dial, .time, .host, .lastRead, .clk] s u ∧
      u.host = { s.host with
        readData := old ++ (List.range (n / 4)).map fun i => (s.at t).bar2Read (masterId m) (r.off + 4 * i)
        readNext := if n < r.bytes then some (r.off + n, r.bytes - n) else none } ∧
      u.lastReadOf m = (s.at t).bar2Read (masterId m) r.off := by
  subst hn hold
  obtain ⟨c, hserve⟩ := busRead_served t m r s hc hw
  rw [hsp] at hserve
  obtain ⟨d, he⟩ := hserve _ _ (State.readRequest_bar2 _ _ h1 h2 h3) (fun n => State.at_xState s t n)
  refine ⟨_, he, ?_, ?_, State.lastReadOf_answer _ _ _⟩
  · exact (State.answer_keeps (m := 8362) rfl (Keeps.mk_clk rfl (Keeps.mk_host rfl ((keeps_at_clk s t c).mono rfl)))).touches rfl
  · show HostSt.mk .. = _
    simp

end

theorem regRow_TRV_PORTSTS (p : Nat) (h : p < 8) :
    regRow (Reg.TRV_PORTSTS p) = some ⟨0x4020, 1, 0x100000, 8, 0x4, 0x0, 0x0, 0x60000000, false⟩ := by
  revert p
  decide

/-- A read of a port's status clears its counters. -/
theorem State.busRead_portsts (s : State) (m p : Nat) (h : p < 8) : s.busRead m (Reg.TRV_PORTSTS p) =
    (s.word (Reg.TRV_PORTSTS p), s.setWord (Reg.TRV_PORTSTS p) (s.word (Reg.TRV_PORTSTS p) &&& 0xF0000000#32)) := by
  have hoff : Reg.TRV_PORTSTS p = 0x4020 + 4 * p := by
    show 16416 + 4 * (p % 8) = _
    omega
  have hb : (0x4020 + 4 * p) / 0x1000 = 4 := by omega
  have hr : 0x4020 ≤ 0x4020 + 4 * p ∧ 0x4020 + 4 * p < 0x4040 := by omega
  rw [State.busRead_of_row _ _ (by omega) (regRow_TRV_PORTSTS p h)]
  unfold State.regRead
  rw [hoff]
  simp [hb, hr, hoff]

theorem portstsRead_clears (t off : Nat) (m : Master) (s : State) (h : off < 8) :
    Completes (.portstsRead t m off) s fun u => Touches [.dial, .time, .lastRead, .regs] s u ∧
      SameRegs [Reg.TRV_PORTSTS off] s u ∧ u.lastReadOf m = s.word (Reg.TRV_PORTSTS off) ∧
      u.word (Reg.TRV_PORTSTS off) = s.word (Reg.TRV_PORTSTS off) &&& 0xF0000000#32 := by
  have he : exec (.portstsRead t m off) s = .next (((s.at t).setWord (Reg.TRV_PORTSTS off)
      (s.word (Reg.TRV_PORTSTS off) &&& 0xF0000000#32)).answer (masterId m) (s.word (Reg.TRV_PORTSTS off))) := by
    show execPortstsRead t m off s = _
    unfold execPortstsRead
    simp only [h, if_true, State.busRead_portsts, State.at_word]
  refine ⟨_, he, ?_, SameRegs.of_setWord (s.at_regs t), State.lastReadOf_answer _ _ _, State.word_setWord_same _ _ _⟩
  exact (State.answer_keeps (m := 134217774) rfl (State.setWord_keepsAny rfl ((keeps_at s t).mono rfl))).touches rfl

theorem wearDataRead_advances (t : Nat) (m : Master) (s : State) :
    Completes (.wearDataRead t m) s fun u => Touches [.dial, .time, .lastRead, .regs] s u ∧ ∀ (k : Nat) (sel : Word),
      k = masterKey (masterId m) Reg.WEAR_SEL → sel = s.word k → SameRegs [k] s u ∧
        u.word k = setBits sel 0 16 (getBits sel 0 16 + 1) ∧ u.lastReadOf m = (s.at t).wearItem (getBits sel 24 3) (getBits sel 0 16) := by
  have he : exec (.wearDataRead t m) s = .next (((s.at t).setWord (masterKey (masterId m) Reg.WEAR_SEL)
      (setBits (s.word (masterKey (masterId m) Reg.WEAR_SEL)) 0 16 (getBits (s.word (masterKey (masterId m) Reg.WEAR_SEL)) 0 16 + 1))).answer
      (masterId m) ((s.at t).wearItem (getBits (s.word (masterKey (masterId m) Reg.WEAR_SEL)) 24 3)
        (getBits (s.word (masterKey (masterId m) Reg.WEAR_SEL)) 0 16))) := by
    show execWearDataRead t m s = _
    unfold execWearDataRead State.wearDataRead
    simp only [State.at_word]
  refine ⟨_, he, ?_, ?_⟩
  · exact (State.answer_keeps (m := 134217774) rfl (State.setWord_keepsAny rfl ((keeps_at s t).mono rfl))).touches rfl
  · rintro k sel rfl rfl
    refine ⟨fun j hj => ?_, ?_, State.lastReadOf_answer _ _ _⟩
    · rw [State.answer_word]
      exact SameRegs.of_setWord (s.at_regs t) j hj
    · rw [State.answer_word, State.word_setWord_same]

/-! ## HSPI frames -/

theorem Store.get_putAll_below (d : Nat → Word) (m : Store) (k : Nat) (ws : List Word) {j : Nat} (h : j < k) :
    Tab.get d (Store.putAll d m k ws) j = Tab.get d m j := by
  induction ws generalizing m k with
  | nil => rfl
  | cons w ws ih =>
    unfold Store.putAll
    rw [ih _ _ (by omega), Tab.get_set_other d m w (by omega)]

theorem Store.get_putAll (d : Nat → Word) (m : Store) (k : Nat) (ws : List Word) {i : Nat} (h : i < ws.length) :
    Tab.get d (Store.putAll d m k ws) (k + i) = ws.getD i 0 := by
  induction ws generalizing m k i with
  | nil => exact absurd h (Nat.not_lt_zero i)
  | cons w ws ih =>
    unfold Store.putAll
    cases i with
    | zero => exact (Store.get_putAll_below _ _ _ _ (by omega)).trans (Tab.get_set_same ..)
    | succ i =>
      have hi : k + (i + 1) = k + 1 + i := by omega
      rw [hi, ih _ _ (by simpa using h), List.getD_cons_succ]

theorem State.burstRead_bar2 (s : State) (m n : Nat) {off : Nat} (h : off % 4 = 0) :
    s.burstRead m .bar2 off n = ((List.range n).map fun i => s.bar2Read m (off + 4 * i), s) := by
  induction n generalizing off with
  | zero => rfl
  | succ n ih =>
    unfold State.burstRead
    simp only [State.readAccess_bar2 _ _ _ h, ih (off := off + 4) (by omega), List.range_succ_eq_map]
    simp [Function.comp_def, Nat.mul_add, Nat.add_assoc, Nat.add_comm 4]

theorem State.burstWrite_ring (s : State) (m : Nat) {off : Nat} (ws : List Word) (h : off % 4 = 0) (h1 : 0x100000 ≤ off)
    (h2 : off + 4 * ws.length ≤ 0x110000) : s.burstWrite m .bar2 off ws = s.modHost fun h =>
      { h with cmdRing := Store.putAll zeroWord h.cmdRing (masterKey m ((off - 0x100000) / 4)) ws } := by
  induction ws generalizing s off with
  | nil => rfl
  | cons w ws ih =>
    rw [List.length_cons] at h2
    have hk : masterKey m ((off + 4 - 0x100000) / 4) = masterKey m ((off - 0x100000) / 4) + 1 := by
      unfold masterKey
      omega
    unfold State.burstWrite
    rw [ih _ (by omega) (by omega) (by omega), State.writeAccess_bar2 _ _ _ _ h, hk]
    unfold State.bar2Write
    rw [if_pos ⟨h1, by omega⟩]
    rfl

theorem hspiSpace_bar2 {addr : Nat} (h : addr.testBit 31 = true) : hspiSpace addr = (.bar2, addr % 2 ^ 24) := by
  unfold hspiSpace
  rw [if_pos h]

theorem hspiRefused_bar2 {addr : Nat} (len : Nat) (h : addr.testBit 31 = true) : hspiRefused addr len = false := by
  unfold hspiRefused
  rw [hspiSpace_bar2 h]

section
variable (t addr len : Nat) (ws : List Word) (crcOk : Bool) (s : State)

theorem hspiFrames_asleep (ha : s.awake = false) :
    Completes (.hspiReadFrame t addr len) s (fun u => Touches [.dial, .time] s u) ∧
      Completes (.hspiWriteFrame t addr len ws crcOk) s fun u => Touches [.dial, .time] s u := by
  have k : Touches [.dial, .time] s (s.at t) := (keeps_at s t).touches rfl
  refine ⟨⟨s.at t, ?_, k⟩, ⟨s.at t, ?_, k⟩⟩
  · show execHspiReadFrame t addr len s = _
    unfold execHspiReadFrame
    simp [ha]
  · show execHspiWriteFrame t addr len ws crcOk s = _
    unfold execHspiWriteFrame State.when
    simp [ha]

theorem hspiFrames_timedout (ha : s.awake = true) (h : s.xState 4 = 3) :
    Completes (.hspiReadFrame t addr len) s (fun u => Touches [.dial, .time, .regs] s u ∧ SameRegs [Reg.CLK_XSTAT 4] s u) ∧
      Completes (.hspiWriteFrame t addr len ws crcOk) s fun u => Touches [.dial, .time, .regs] s u ∧ SameRegs [Reg.CLK_XSTAT 4] s u ∧
        u.fld (F.CLK_XSTAT_DISC 4) = min (s.fld (F.CLK_XSTAT_DISC 4) + 1 + ws.length) 65535 := by
  have hc : s.requestsCut 5 = true := by rw [s.requestsCut_of_hostXing (x := (4, 5)) rfl, h]; rfl
  have hsend : ∀ xs : List XWord, (s.at t).reqSend 5 xs = (s.at t).satAdd (F.CLK_XSTAT_DISC 4) xs.length := by
    intro xs
    rw [State.reqSend_of_hostXing (x := (4, 5)) _ _ rfl]
    exact State.xSend_timedout _ (by simpa using h)
  have hread : exec (.hspiReadFrame t addr len) s = .next ((s.at t).satAdd (F.CLK_XSTAT_DISC 4) 1) := by
    show execHspiReadFrame t addr len s = _
    unfold execHspiReadFrame
    simp [ha, hc, hsend]
  have hwrite : exec (.hspiWriteFrame t addr len ws crcOk) s = .next ((s.at t).satAdd (F.CLK_XSTAT_DISC 4) (ws.length + 1)) := by
    show execHspiWriteFrame t addr len ws crcOk s = _
    unfold execHspiWriteFrame State.when
    simp [ha, hc, hsend]
  obtain ⟨hreadTouches, hreadRegs, _⟩ := discards s t 4 [.frame addr len false] _ rfl
  obtain ⟨hwriteTouches, hwriteRegs, hcount⟩ := discards s t 4 (.frame addr len true :: ws.map .data) _ rfl
  simp only [List.length_cons, List.length_map] at hwriteTouches hwriteRegs hcount
  refine ⟨⟨_, hread, hreadTouches, hreadRegs⟩, ⟨_, hwrite, hwriteTouches, hwriteRegs, ?_⟩⟩
  rw [hcount, Nat.add_assoc, Nat.add_comm 1]

/-- A write frame that is found bad changes nothing but its result and the error's bits. -/
theorem hspiWriteFrame_bad {n : Nat} (hn : exec (.hspiWriteFrame t addr len ws crcOk) s =
      .next ((((s.at t).hostErr F.HOST_STS_HSPI_ERR).modHost fun h => { h with hspiResult := n }).hspiEnd false)) :
    Completes (.hspiWriteFrame t addr len ws crcOk) s fun u => HostErr F.HOST_STS_HSPI_ERR s u ∧ u.host.hspiResult = n ∧
      u.host.hspiArmed = false := by
  obtain ⟨_, hsame, hflag, hirq⟩ := hostErr_of_keeps (f := F.HOST_STS_HSPI_ERR) (keeps_at s t) rfl rfl (by decide) (by decide)
  have k : Keeps 34359738534 s ((((s.at t).hostErr F.HOST_STS_HSPI_ERR).modHost fun h => { h with hspiResult := n }).hspiEnd false) :=
    Keeps.mk_host rfl (Keeps.mk_host rfl (State.hostErr_keeps rfl rfl ((keeps_at s t).mono rfl)))
  generalize (s.at t).hostErr F.HOST_STS_HSPI_ERR = v at *
  exact ⟨_, hn, ⟨k.touches rfl, hsame, hflag, hirq⟩, rfl, rfl⟩

end

section
variable (t addr len : Nat) (ws : List Word) (crcOk : Bool) (s : State) (ha : s.awake = true) (hc : s.answersCut 5 = false)
include ha hc

section
variable (hx : s.xState 4 ≠ 2)
include hx

/-- A read frame that reaches PERI is served on the state of its instant. -/
theorem exec_hspiReadFrame_served :
    ∃ c : ClkSt, exec (.hspiReadFrame t addr len) s = .next (((s.at t).withClk c).hspiRead addr len) := by
  have hcut := State.requestsCut_of_answersCut hc
  have hw : s.requestsWait 5 = false := by rw [s.requestsWait_of_hostXing (x := (4, 5)) rfl]; simpa using hx
  obtain ⟨c, hs⟩ := State.reqSend_eq (s := s.at t) (m := 5) [.frame addr len false] (by simpa using hcut)
  refine ⟨c, ?_⟩
  show execHspiReadFrame t addr len s = _
  unfold execHspiReadFrame
  simp [ha, hcut, hw, hs]

theorem hspiReadFrame_refused (h : hspiRefused addr len = true) :
    Completes (.hspiReadFrame t addr len) s fun u => Touches [.dial, .time, .host, .clk] s u ∧
      u.host = { s.host with hspiResult := 3, hspiData := [], hspiArmed := false } := by
  obtain ⟨c, he⟩ := exec_hspiReadFrame_served t addr len s ha hc hx
  unfold State.hspiRead at he
  simp only [h, if_true] at he
  refine ⟨_, he, ?_, ?_⟩
  · exact (Keeps.mk_host (m := 8354) rfl (Keeps.mk_host rfl ((keeps_at_clk s t c).mono rfl))).touches rfl
  · unfold State.hspiEnd
    simp

theorem hspiReadFrame_bar2 (hb : addr.testBit 31 = true) (h4 : addr % 4 = 0) :
    Completes (.hspiReadFrame t addr len) s fun u => Touches [.dial, .time, .host, .clk] s u ∧
      u.host.hspiResult = 0 ∧ u.host.hspiArmed = false ∧ u.host.hspiData.length = min len 64 ∧
      ∀ i < min len 64, u.host.hspiData.getD i 0 = (s.at t).bar2Read 5 (addr % 2 ^ 24 + 4 * i) := by
  obtain ⟨c, he⟩ := exec_hspiReadFrame_served t addr len s ha hc hx
  have h5 : s.xState 5 ≠ 3 := by
    rw [s.answersCut_of_hostXing (x := (4, 5)) rfl, Bool.or_eq_false_iff] at hc
    simpa using hc.2
  have hread := State.burstRead_bar2 ((s.at t).withClk c) 5 (min len 64) (off := addr % 2 ^ 24) (by omega)
  unfold State.hspiRead at he
  simp only [hspiRefused_bar2 len hb, hspiSpace_bar2 hb, hread] at he
  obtain ⟨d, hd⟩ := State.xSend_eq (n := 5) (s := ((((s.at t).withClk c).modHost fun h => { h with
    hspiResult := 0, hspiData := (List.range (min len 64)).map fun i => (s.at t).bar2Read 5 (addr % 2 ^ 24 + 4 * i) }).hspiEnd false))
    (((List.range (min len 64)).map fun i => (s.at t).bar2Read 5 (addr % 2 ^ 24 + 4 * i)).map .data)
    (by rw [← State.at_xState s t 5] at h5; exact h5)
  refine ⟨_, he.trans (congrArg _ hd), ?_, rfl, rfl, ?_, ?_⟩
  · exact (Keeps.mk_clk (m := 8354) rfl (Keeps.mk_host rfl (Keeps.mk_host rfl ((keeps_at_clk s t c).mono rfl)))).touches rfl
  · show List.length (List.map _ _) = _
    simp
  · intro i hi
    show List.getD (List.map _ _) i 0 = _
    simp [List.getD, hi]

end

theorem hspiWriteFrame_badLength (h : ws.length ≠ len ∨ len = 0 ∨ 64 < len) :
    Completes (.hspiWriteFrame t addr len ws crcOk) s fun u => HostErr F.HOST_STS_HSPI_ERR s u ∧ u.host.hspiResult = 2 ∧
      u.host.hspiArmed = false := by
  have hcut := State.requestsCut_of_answersCut hc
  refine hspiWriteFrame_bad t addr len ws crcOk s ?_
  show execHspiWriteFrame t addr len ws crcOk s = _
  unfold execHspiWriteFrame
  simp only [State.at_awake, State.at_requestsCut, ha, hcut, if_pos h, Bool.not_true, Bool.or_false, Bool.false_eq_true, if_false]

section
variable (h1 : ws.length = len) (h2 : 1 ≤ len) (h3 : len ≤ 64)
include h1 h2 h3

theorem hspiWriteFrame_badCrc (h : crcOk = false) :
    Completes (.hspiWriteFrame t addr len ws crcOk) s fun u => HostErr F.HOST_STS_HSPI_ERR s u ∧ u.host.hspiResult = 1 ∧
      u.host.hspiArmed = false := by
  have hcut := State.requestsCut_of_answersCut hc
  have hlen : ¬ (ws.length ≠ len ∨ len = 0 ∨ 64 < len) := by omega
  refine hspiWriteFrame_bad t addr len ws crcOk s ?_
  show execHspiWriteFrame t addr len ws crcOk s = _
  unfold execHspiWriteFrame
  simp only [State.at_awake, State.at_requestsCut, ha, hcut, if_neg hlen, h, Bool.not_true, Bool.not_false, Bool.or_false, Bool.false_eq_true,
    if_false, if_true]

variable (hx : s.xState 4 ≠ 2) (hcrc : crcOk = true)
include hx hcrc

/-- A write frame without error that reaches PERI is carried out on the state of its instant. -/
theorem exec_hspiWriteFrame_served :
    ∃ c : ClkSt, exec (.hspiWriteFrame t addr len ws crcOk) s = .next (((s.at t).withClk c).hspiWrite addr len ws) := by
  have hcut := State.requestsCut_of_answersCut hc
  have hlen : ¬ (ws.length ≠ len ∨ len = 0 ∨ 64 < len) := by omega
  have hw : s.requestsWait 5 = false := by rw [s.requestsWait_of_hostXing (x := (4, 5)) rfl]; simpa using hx
  obtain ⟨c, hs⟩ := State.reqSend_eq (s := s.at t) (m := 5) (.frame addr len true :: ws.map .data) (by simpa using hcut)
  refine ⟨c, ?_⟩
  show execHspiWriteFrame t addr len ws crcOk s = _
  unfold execHspiWriteFrame
  simp only [State.at_awake, State.at_requestsCut, State.at_requestsWait, ha, hcut, hw, if_neg hlen, hcrc, hs, Bool.not_true, Bool.not_false,
    Bool.or_false, Bool.false_eq_true, if_false, if_true]

theorem hspiWriteFrame_refused (h : hspiRefused addr len = true) :
    Completes (.hspiWriteFrame t addr len ws crcOk) s fun u => Touches [.dial, .time, .host, .clk] s u ∧
      u.host = { s.host with hspiResult := 3, hspiArmed := false } := by
  obtain ⟨c, he⟩ := exec_hspiWriteFrame_served t addr len ws crcOk s ha hc h1 h2 h3 hx hcrc
  unfold State.hspiWrite at he
  simp only [h, if_true] at he
  refine ⟨_, he, ?_, ?_⟩
  · exact (Keeps.mk_host (m := 8354) rfl (Keeps.mk_host rfl ((keeps_at_clk s t c).mono rfl))).touches rfl
  · unfold State.hspiEnd
    simp

theorem hspiWriteFrame_ring (hb : addr.testBit 31 = true) (h4 : addr % 4 = 0) (hlo : 0x100000 ≤ addr % 2 ^ 24)
    (hhi : addr % 2 ^ 24 + 4 * len ≤ 0x110000) :
    Completes (.hspiWriteFrame t addr len ws crcOk) s fun u => Touches [.dial, .time, .host, .clk] s u ∧ u.host.hspiResult = 0 ∧
      u.host.hspiArmed = false ∧
      ∀ i < len, Tab.get zeroWord u.host.cmdRing (masterKey 5 ((addr % 2 ^ 24 - 0x100000) / 4 + i)) = ws.getD i 0 := by
  obtain ⟨c, he⟩ := exec_hspiWriteFrame_served t addr len ws crcOk s ha hc h1 h2 h3 hx hcrc
  have hwrite := State.burstWrite_ring ((s.at t).withClk c) 5 (off := addr % 2 ^ 24) ws (by omega) hlo (by rw [h1]; exact hhi)
  unfold State.hspiWrite at he
  simp only [hspiRefused_bar2 len hb, hspiSpace_bar2 hb, hwrite, Bool.false_eq_true, if_false] at he
  refine ⟨_, he, ?_, rfl, rfl, ?_⟩
  · exact (Keeps.mk_host (m := 8354) rfl (Keeps.mk_host rfl (Keeps.mk_host rfl ((keeps_at_clk s t c).mono rfl)))).touches rfl
  · intro i hi
    have hk : masterKey 5 ((addr % 2 ^ 24 - 0x100000) / 4 + i) = masterKey 5 ((addr % 2 ^ 24 - 0x100000) / 4) + i :=
      (Nat.add_assoc ..).symm
    rw [hk]
    exact Store.get_putAll _ _ (masterKey 5 ((addr % 2 ^ 24 - 0x100000) / 4)) ws (i := i) (by rw [h1]; exact hi)

end

end

section
variable (t : Nat) (s : State)

theorem hspiOthers_asleep (ha : s.awake = false) : Completes (.hspiStatusFrame t) s (fun u => Touches [.dial, .time] s u) ∧
    Completes (.hspiResetEnable t) s (fun u => Touches [.dial, .time] s u) ∧
    Completes (.hspiPortReset t) s fun u => Touches [.dial, .time] s u := by
  have k : Touches [.dial, .time] s (s.at t) := (keeps_at s t).touches rfl
  refine ⟨⟨s.at t, ?_, k⟩, ⟨s.at t, ?_, k⟩, ⟨s.at t, ?_, k⟩⟩
  · show execHspiStatusFrame t s = _
    unfold execHspiStatusFrame
    simp [ha]
  · show execHspiResetEnable t s = _
    unfold execHspiResetEnable
    simp [ha]
  · show execHspiPortReset t s = _
    unfold execHspiPortReset
    simp [ha]

variable (ha : s.awake = true)
include ha

theorem hspiStatusFrame_answers : Completes (.hspiStatusFrame t) s fun u => Touches [.dial, .time, .host] s u ∧ u.host.hspiArmed = false ∧
    u.host.hspiData = [((s.word Reg.HOST_IRQSTS &&& s.word Reg.HOST_IRQEN) &&& 0xFF#32) ||| nw (0x100 * s.host.hspiResult)] := by
  have he : exec (.hspiStatusFrame t) s = .next (((s.at t).modHost fun h => { h with hspiData :=
      [((s.word Reg.HOST_IRQSTS &&& s.word Reg.HOST_IRQEN) &&& 0xFF#32) ||| nw (0x100 * s.host.hspiResult)] }).hspiEnd false) := by
    show execHspiStatusFrame t s = _
    unfold execHspiStatusFrame
    simp [ha]
  exact ⟨_, he, (Keeps.mk_host (m := 162) rfl (Keeps.mk_host rfl ((keeps_at s t).mono rfl))).touches rfl, rfl, rfl⟩

theorem hspiResetEnable_arms : Completes (.hspiResetEnable t) s fun u => Touches [.dial, .time, .host] s u ∧
    u.host = { s.host with hspiArmed := true } := by
  have he : exec (.hspiResetEnable t) s = .next ((s.at t).hspiEnd true) := by
    show execHspiResetEnable t s = _
    unfold execHspiResetEnable
    simp [ha]
  refine ⟨_, he, (Keeps.mk_host (m := 162) rfl ((keeps_at s t).mono rfl)).touches rfl, ?_⟩
  unfold State.hspiEnd
  simp

theorem hspiPortReset_unarmed (h : s.host.hspiArmed = false) :
    Completes (.hspiPortReset t) s fun u => Touches [.dial, .time] s u := by
  refine ⟨s.at t, ?_, (keeps_at s t).touches rfl⟩
  show execHspiPortReset t s = _
  unfold execHspiPortReset
  simp [ha, h]

end

theorem State.lockOwner_of_ep {s u : State} (h : u.ep = s.ep) (n : Nat) : u.lockOwner n = s.lockOwner n := by
  unfold State.lockOwner
  rw [h]

theorem State.lockOwner_foldl_setLock (l : List Nat) (s : State) (k : Nat) :
    (l.foldl (fun s n => s.setLock n 0) s).lockOwner k = if k ∈ l then 0 else s.lockOwner k := by
  induction l generalizing s with
  | nil => simp
  | cons n l ih =>
    have hset : (s.setLock n 0).lockOwner k = if k = n then 0 else s.lockOwner k := by
      show Tab.get (fun _ => 0) (Tab.set (fun _ => 0) s.ep.locks n 0) k = _
      exact Tab.get_set ..
    rw [List.foldl_cons, ih, hset]
    by_cases h : k = n <;> simp [h]

/-- An event that frees a master's locks frees those it holds, and no other (R42). -/
theorem State.lockOwner_freeLocks (s : State) (m n : Nat) :
    (s.freeLocks m).lockOwner n = if n < 16 ∧ s.lockOwner n = m then 0 else s.lockOwner n := by
  have hmem : n ∈ (List.range 16).filter (fun n => s.lockOwner n == m) ↔ n < 16 ∧ s.lockOwner n = m := by simp
  unfold State.freeLocks
  by_cases h : ((List.range 16).filter fun n => s.lockOwner n == m).isEmpty = true
  · have hnone : ¬ (n < 16 ∧ s.lockOwner n = m) := by
      rw [← hmem, List.isEmpty_iff.mp h]
      exact List.not_mem_nil
    simp only [if_pos h, if_neg hnone]
  · simp only [if_neg h, ← hmem]
    exact State.lockOwner_foldl_setLock _ s n

theorem State.ringsReset_ep (s : State) (m : Nat) (src : Issuer) : (s.ringsReset m src).ep = s.ep := by
  unfold State.ringsReset State.setRingIdx
  simp only [State.modPilot_ep, State.setWord_ep]

theorem State.ringsReset_zero (s : State) (m : Nat) (src : Issuer) : RingsAtZero m (s.ringsReset m src) := by
  unfold RingsAtZero State.ringIdx State.ringsReset State.setRingIdx masterKey
  simp only [State.modPilot_word, State.word_setWord]
  simp
  decide

theorem State.ringsReset_drops (s : State) (m : Nat) (src : Issuer) :
    ∀ w ∈ (s.ringsReset m src).pilot.waiting, w.src = src → w.drop = true := by
  intro w hw hsrc
  unfold State.ringsReset at hw
  simp only [State.modPilot_pilot, List.mem_map] at hw
  obtain ⟨x, _, rfl⟩ := hw
  split at hsrc
  next h => simp [h]
  next h => exact absurd hsrc h

theorem State.xStartAll_ep (s : State) (l : List Nat) : (s.xStartAll l).ep = s.ep :=
  (State.xStartAll_keeps (m := 8589942788) rfl (Keeps.refl _ s)).ep rfl

theorem State.xStartAll_pilot (s : State) (l : List Nat) : (s.xStartAll l).pilot = s.pilot :=
  (State.xStartAll_keeps (m := 8589942788) rfl (Keeps.refl _ s)).pilot rfl

theorem State.hspiReset_lockOwner (s : State) (n : Nat) :
    s.hspiReset.lockOwner n = if n < 16 ∧ s.lockOwner n = 5 then 0 else s.lockOwner n := by
  have hep : s.hspiReset.ep = (s.freeLocks 5).ep := by
    unfold State.hspiReset
    rw [State.xStartAll_ep, State.setWord_ep, State.ringsReset_ep]
  rw [State.lockOwner_of_ep hep, State.lockOwner_freeLocks]

theorem State.hspiReset_word (s : State) {k : Nat} (h : ∀ n : Nat, k ≠ Reg.CLK_XSTAT n) : s.hspiReset.word k =
    if k = Reg.SYS_AWAIT 4 then 1 else ((s.freeLocks 5).ringsReset 5 .hspi).word k := by
  unfold State.hspiReset
  rw [State.xStartAll_word_other _ _ h, State.word_setWord]

theorem State.hspiReset_rings (s : State) : RingsAtZero 5 s.hspiReset := by
  have h : ∀ reg : Nat, 0x3050 ≤ reg → s.hspiReset.ringIdx 5 reg = ((s.freeLocks 5).ringsReset 5 .hspi).ringIdx 5 reg := by
    intro reg hreg
    unfold State.ringIdx
    rw [State.hspiReset_word _ fun n => by unfold masterKey Reg.CLK_XSTAT; omega, if_neg (by unfold masterKey Reg.SYS_AWAIT; omega)]
  obtain ⟨h1, h2, h3, h4⟩ := State.ringsReset_zero (s.freeLocks 5) 5 .hspi
  exact ⟨(h _ (by decide)).trans h1, (h _ (by decide)).trans h2, (h _ (by decide)).trans h3, (h _ (by decide)).trans h4⟩

theorem State.hspiReset_xState (s : State) : s.hspiReset.xState 4 = 2 ∧ s.hspiReset.xState 5 = 2 := by
  unfold State.hspiReset
  constructor
  · rw [State.xStartAll_state _ [4, 5] (by decide) (by decide), if_pos (by decide)]
  · rw [State.xStartAll_state _ [4, 5] (by decide) (by decide), if_pos (by decide)]

theorem State.hspiReset_drops (s : State) : ∀ w ∈ s.hspiReset.pilot.waiting, w.src = .hspi → w.drop = true := by
  unfold State.hspiReset
  rw [State.xStartAll_pilot, State.setWord_pilot]
  exact State.ringsReset_drops _ _ _

theorem hspiPortReset_resets (t : Nat) (s : State) (ha : s.awake = true) (h : s.host.hspiArmed = true) :
    Completes (.hspiPortReset t) s fun u => Touches [.dial, .time, .regs, .ep, .host, .clk, .pilot] s u ∧ u.host.hspiArmed = false ∧
      RingsAtZero 5 u ∧ (∀ n < 16, s.lockOwner n = 5 → u.lockOwner n = 0) ∧
      (∀ n : Nat, s.lockOwner n ≠ 5 → u.lockOwner n = s.lockOwner n) ∧
      u.word (Reg.SYS_AWAIT 4) = 1 ∧ u.xState 4 = 2 ∧ u.xState 5 = 2 ∧ ∀ w ∈ u.pilot.waiting, w.src = .hspi → w.drop = true := by
  have he : exec (.hspiPortReset t) s = .next ((s.at t).hspiReset.hspiEnd false) := by
    show execHspiPortReset t s = _
    unfold execHspiPortReset
    simp [ha, h]
  have hlock : ∀ n : Nat, (s.at t).hspiReset.lockOwner n = if n < 16 ∧ s.lockOwner n = 5 then 0 else s.lockOwner n := by
    intro n
    rw [State.hspiReset_lockOwner, State.lockOwner_of_ep (s.at_ep t)]
  have hwait : (s.at t).hspiReset.word (Reg.SYS_AWAIT 4) = 1 := by
    rw [State.hspiReset_word _ fun n => by unfold Reg.CLK_XSTAT Reg.SYS_AWAIT; omega, if_pos rfl]
  have hkeeps : Keeps 47278203062 s (s.at t).hspiReset := State.hspiReset_keeps rfl ((keeps_at s t).mono rfl)
  have hrings := (s.at t).hspiReset_rings
  have hdrops := (s.at t).hspiReset_drops
  obtain ⟨hx4, hx5⟩ := (s.at t).hspiReset_xState
  generalize (s.at t).hspiReset = v at *
  refine ⟨_, he, (Keeps.mk_host rfl hkeeps).touches rfl, rfl, hrings, fun n hn ho => ?_, fun n ho => ?_, hwait, hx4, hx5, hdrops⟩
  · exact (hlock n).trans (if_pos ⟨hn, ho⟩)
  · exact (hlock n).trans (if_neg fun hn => ho hn.2)

/-- Settles O45: writes and reads by the state of the host's crossings and the place they name, then the HSPI frames. -/
theorem busAccessesFollowTheMap : Obligations.BusAccessesFollowTheMap := by
  unfold Obligations.BusAccessesFollowTheMap
  refine ⟨fun t off bytes m sp v s => ⟨registerWrite_asleep t off bytes m sp v s, fun n hx ha => ⟨?_, fun h _ => ?_⟩,
    fun ha hc hw => ⟨registerWrite_narrow t off bytes m sp v s ha hc hw, fun h4 => ⟨?_, ?_, ?_, ?_, ?_⟩⟩⟩,
    fun t off m r s => ⟨busRead_cut t m r s, busRead_waits t m r s, fun hc hw => ⟨?_, ?_, ?_, ?_⟩, portstsRead_clears t off m s,
      wearDataRead_advances t m s⟩,
    fun t addr len ws crcOk s => ⟨hspiFrames_asleep t addr len ws crcOk s, hspiFrames_timedout t addr len ws crcOk s,
      fun ha hc hx => ⟨?_, ?_, ?_, fun h1 h2 h3 => ⟨?_, ?_, ?_⟩⟩, hspiOthers_asleep t s,
      fun ha => ⟨hspiStatusFrame_answers t s ha, hspiResetEnable_arms t s ha, hspiPortReset_unarmed t s ha, hspiPortReset_resets t s ha⟩⟩⟩
  · exact registerWrite_timedout t off bytes m sp v s hx ha
  · exact registerWrite_waits t off bytes m sp v s hx ha h
  · exact registerWrite_upd t off m v s ha hc hw h4
  · exact registerWrite_lds t off m v s ha hc hw h4
  · exact registerWrite_unoccupied t off m v s ha hc hw h4
  · exact registerWrite_ring t off m v s ha hc hw h4
  · exact registerWrite_readOnly t off m v s ha hc hw h4
  · exact busRead_timeLow t m s hc hw rfl rfl rfl fun c => rfl
  · exact busRead_timeLow t m s hc hw rfl rfl rfl fun c => rfl
  · exact busRead_narrow t m s hc hw r
  · exact busRead_piece t m s hc hw r
  · exact hspiReadFrame_refused t addr len s ha hc hx
  · exact hspiReadFrame_bar2 t addr len s ha hc hx
  · exact hspiWriteFrame_badLength t addr len ws crcOk s ha hc
  · exact hspiWriteFrame_badCrc t addr len ws crcOk s ha hc h1 h2 h3
  · exact fun hcrc => hspiWriteFrame_refused t addr len ws crcOk s ha hc h1 h2 h3 hx hcrc
  · exact fun hcrc => hspiWriteFrame_ring t addr len ws crcOk s ha hc h1 h2 h3 hx hcrc

/-! ## Commands that read -/

/-- A serving device in the active role whose tile in slot 2 has an open-wire test: its window begins at S = 3,600 s, a microsecond from now (R270). -/
def beforeTestWindow : State :=
  let s := (State.reset.setFld F.UPD_STS_READY 1).setFld F.RDN_STS_ROLE 4
  { s with dial := 3599999999000, pwr := { s.pwr with held := false }, host := { s.host with pcieUp := true } }.setAcqSlot 2
    { AcqSlot.reset with ncell := 16, inService := true, test := some ⟨.suspect, 1, 3600000000000, 1, 1, true, false, none, none⟩ }

/-- BAL_STATUS for slot 2 alone, from the PCIe host. -/
def balStatusOfSlot2 : Entry := ⟨.pcie, 7, 12, 0, [2, 1]⟩

set_option maxRecDepth 20000 in
/-- At S the read of the balancing registers brings SUSP up to the present. -/
theorem balStatus_suspends : (match exec (.cmdBalStatus 3600000000000 balStatusOfSlot2) beforeTestWindow with
    | .next u => (u.balSlot 2).susp
    | _ => false) = true := by decide

theorem balSlot_of_respond (s : State) (src : Issuer) (tag op st : Nat) (d : List Word) (k : Nat) :
    (s.respond src tag op st d).balSlot k = s.balSlot k := by
  unfold State.balSlot
  rw [(State.respond_keeps (m := 34359738500) rfl (Keeps.refl _ s)).bal rfl]

set_option maxRecDepth 20000 in
/-- Refutes O49: BAL_STATUS does not leave the state beside its answer as it was. A test window begins at its S without a command, and the reads of
the balancing registers bring SUSP up to the present. -/
theorem not_readingCommandsAnswerWithData : ¬ Obligations.ReadingCommandsAnswerWithData := by
  unfold Obligations.ReadingCommandsAnswerWithData
  intro h
  have hserves : Serves 3600000000000 0x0702 balStatusOfSlot2 beforeTestWindow := by
    unfold Serves
    decide
  obtain ⟨v, d, he, _, hv⟩ := (h 3600000000000 2 1 balStatusOfSlot2 _ beforeTestWindow _ rfl rfl rfl
    (List.mem_of_getElem? (i := 12) rfl) hserves).1 rfl
  have hstill : ((beforeTestWindow.taken 3600000000000 0x0702 balStatusOfSlot2).balSlot 2).susp = false := by decide
  have hsusp := balStatus_suspends
  rw [he] at hsusp
  simp only [balSlot_of_respond, hv] at hsusp
  rw [id, hstill] at hsusp
  cases hsusp

end Sys2Proof.Machine
end
